-- ==== Sys2Proof/Word.lean ====
section
/-!
DEFINITION. The word types of the VX9480: 32-bit registers (R4), bytes of the host ports, and 16-bit addresses.
-/

namespace Sys2Proof

/-- A register of the part: 32 bits (R4). -/
abbrev Word := BitVec 32

/-- A byte on a host port or in a memory. -/
abbrev Byte := BitVec 8

/-- A byte address in the register space (R453: 0x0000 to 0xFFFF). -/
abbrev Addr := BitVec 16

end Sys2Proof
end

