-- ==== Sys2Proof/Values.lean ====
section
/-!
DEFINITION. The values that commands carry and that the state holds: the requesters, what the environment shows at a
start, images in the flash, and what a head or the partner unit sends.
-/

namespace Sys2Proof

/-- The requesters of the register fabric (R404): the SMBus target, the service SPI and the firmware. -/
inductive Port where
  | smbus | spi | fw
  deriving DecidableEq, Repr

/-- The two reads of a three-level strap: with the pull-up applied, then with the pull-down (R480). -/
structure StrapRead where
  withPullUp   : Bool
  withPullDown : Bool
  deriving DecidableEq, Repr

/-- The outcome of reading the settings overlay (R443 to R445): the newest copy, the older one, or neither can be read by the
firmware that starts. A copy that does not exist cannot be read. -/
inductive OverlayRead where
  | newest | older | none
  deriving DecidableEq, Repr

/-- What the keys of the part decide about a container (R430, R431 checks 3 and 5), and whether the flash reads. The
keys are secret, so the outcome of each check is given, not computed. -/
structure Crypto where
  signerOk : Bool
  sigOk    : Bool
  tagOk    : Bool
  readErr  : Bool
  deriving DecidableEq, Repr

/-- One item of a MEM section (R65): a word of a context, of a phase entry or of a stage entry. -/
inductive MemItem where
  | ctx   (c : Fin 256) (w : Fin 128) (v : Word)
  | phase (i : Fin 128) (w : Fin 8) (v : Word)
  | stage (k : Fin 32) (w : Fin 32) (v : Word)
  deriving DecidableEq, Repr

/-- What a soft-start entry starts (R71). -/
inductive StartItem where
  | stage  (k : Fin 32)
  | feeder (f : Fin 64)
  | string (b : Fin 8)
  deriving DecidableEq, Repr

/-- When a soft-start entry starts (R71): some gait frames after the previous entry, or power-good of an earlier
entry's item. -/
inductive StartCond where
  | frames (n : Nat)
  | pgOf   (entry : Nat)
  deriving DecidableEq, Repr

/-- One soft-start entry (R71, R72). -/
structure StartEntry where
  item      : StartItem
  cond      : StartCond
  timeoutMs : Nat
  deriving DecidableEq, Repr

/-- The counts that the LIMITS section declares (R65). -/
structure Limits where
  links    : Nat
  phases   : Nat
  modules  : Nat
  stages   : Nat
  feeders  : Nat
  strings  : Nat
  contexts : Nat
  deriving DecidableEq, Repr

/-- One link of a LINKMAP section: head kind and sample map words (R65, R131). -/
structure LinkMapItem where
  link : Fin 16
  kind : Fin 4
  smap : Vector Word 7
  deriving DecidableEq, Repr

/-- One entry of a CALDEF section (R65, R67). -/
structure CalDefItem where
  entry : Fin 512
  gain  : Word
  ofs   : Word
  deriving DecidableEq, Repr

/-- One entry of a SCHED section (R65, R158). -/
structure SchedItem where
  entry : Fin 256
  w0    : Word
  w1    : Word
  deriving DecidableEq, Repr

/-- The decrypted payload of a tack image: its sections by kind (R65). The byte layout of the sections inside the
payload is not in the spec, so the sections are held as what they say. `knownKinds` is clear when the payload holds a
section kind that R65 does not list. -/
structure TackImage where
  knownKinds : Bool
  limits     : Limits
  regs       : List (Addr × Word)
  mem        : List MemItem
  linkmap    : List LinkMapItem
  caldef     : List CalDefItem
  sched      : List SchedItem
  /-- Contexts marked as initially TETHERED (R70). -/
  tethered   : List (Fin 256)
  softstart  : List StartEntry
  fwset      : List Word
  deriving DecidableEq, Repr

/-- What a completing live restart carries (R79): its duration and how the firmware read the overlay. -/
structure LiveStart where
  micros  : Nat
  overlay : OverlayRead
  deriving DecidableEq, Repr

/-- What completes a training state (R115 to R119). For a rein link whose frames are given one by one: `shown`, what its upstream
frames have shown, or `noReply`, the state's time has passed. For a whole state at once, as in step 6 of a start: the lock of the
receiver, or what the head replies to the control requests of the state. For the ALIGN of the tandem link, `partner` is what the partner
has measured, and `tandem` both measurements at once. -/
inductive TrainReply where
  /-- What the upstream frames of the state have shown. -/
  | shown
  /-- LOCK: the receiver has or has not locked. -/
  | locked (ok : Bool)
  /-- ENUM: head kind, interface version, channels, sources, steps H, serial and hardware revision (R107). -/
  | enum (kind version chans srcs steps : Nat) (serial : BitVec 48)
  /-- ALIGN: smallest, largest and summed round trip of the 256 echoes in edge steps, and whether the head refused
  TIME_SET for skew. -/
  | align (minRtt maxRtt sumRtt : Nat) (refused : Bool)
  /-- CONFIG: every register confirmed or not, and the HSRC words read. -/
  | config (confirmed : Bool) (hsrc : List Word)
  /-- The partner's mean m_a of the 256 PROBE frames of the tandem link's ALIGN, and its spread, in edge steps (R332). -/
  | partner (ma : Int) (spread : Nat)
  /-- The tandem link's ALIGN as a whole (R332): means m_s and m_a and the larger spread, in edge steps. -/
  | tandem (ms ma : Int) (spread : Nat)
  | noReply
  deriving DecidableEq, Repr

/-- Why a link is declared down (R120): consecutive bad or missing frames, consecutive good frames with DNERR, or a receiver that has lost
its alignment. -/
inductive DownCause where
  | badFrames | dnErr | alignment
  deriving DecidableEq, Repr

/-- What the environment shows at a start: the pins as it samples them (R57, R480 to R482), the overlay, and what the heads show to
the training of step 6, state by state and link by link; link 16 is the tandem link (R59, R333). -/
structure StartEnv where
  unitId   : Bool
  pairEn   : Bool
  /-- Level of PADDOCK#; low enters paddock mode (R80). -/
  paddockN : Bool
  testmode : Bool
  addr0    : StrapRead
  addr1    : StrapRead
  addr2    : StrapRead
  overlay  : OverlayRead
  train    : List (Fin 17 × TrainReply)
  deriving DecidableEq, Repr

/-- An accepted window write or command (R172). -/
inductive CwItem where
  | data (ctx off : Nat) (v : Word)
  | setState (ctx st : Nat)
  | handOver (ctx : Nat)
  | badOp (ctx : Nat)
  | none (ctx : Nat)
  deriving DecidableEq, Repr

/-- A unit-local decision of the active unit that acts on a shared item (R345). -/
inductive LocalDecision where
  | stage (k cause : Nat)
  | feeder (f cause : Nat)
  | context (c : Nat)
  | follow (scope item kind : Nat)
  | release (n mask : Nat)
  deriving DecidableEq, Repr

/-- A calibration entry as a CAL commit carries it to the partner (R299), with the METHOD word of its record. -/
structure CalCarry where
  entry  : Nat
  epoch  : Nat
  method : Word
  gain   : Word
  ofs    : Word
  tag    : List Word
  deriving DecidableEq, Repr

/-- What a FWD frame carries (R331, R345): a write names its register by the model's key, and a commit of group CAL
carries its entries. -/
inductive FwdItem where
  | write (key : Nat) (v : Word)
  | window (x : CwItem)
  | commit (groups : Nat) (cal : List CalCarry)
  | decision (d : LocalDecision)
  | tokenRequest (act : Nat)
  | tokenRelease
  deriving DecidableEq, Repr

/-- What an ACK frame acknowledges (R331): a FWD, the swap proposal for a GFC, or a token request and its outcome. -/
inductive AckItem where
  | fwd
  | swap (gh : Nat)
  | token (granted : Bool)
  deriving DecidableEq, Repr

/-- What a STAT frame carries (R331). -/
structure PartnerStat where
  health    : Nat
  epoch     : Nat
  phase     : Nat
  tackId    : Word
  tackVer   : Word
  stepping  : Nat
  fwVer     : Word
  tokenHeld : Bool
  tokenAct  : Nat
  /-- A lane test is requested, and the last one failed. -/
  laneTest  : Bool
  laneFail  : Bool
  deriving DecidableEq, Repr

/-- The configuration image of R341: of what a tack image can set, the registers by key and the context bytes that differ from their value at
reset, calibration epochs among the registers, and the commit count. -/
structure SyncImage where
  regs    : List (Nat × Word)
  mem     : List (Nat × Byte)
  commits : Nat
  deriving DecidableEq, Repr

/-- The content of a tandem frame by its KIND (R331). The spec lays out the PAYLOAD of IDLE and FRAME alone; what the others carry is
given as it is meant. `groups` is the data of sync groups, which SYNC_GROUP_COPY gives. -/
inductive TandemContent where
  | idle
  | frame (gfc wallSec wallNs len : Nat)
  | probe
  | stat (p : PartnerStat)
  | fwd (gfc : Nat) (x : FwdItem)
  | ack (x : AckItem)
  | propose (gh : Nat)
  | order
  | sync (image : SyncImage)
  | groups
  deriving DecidableEq, Repr

/-- What a sync group copies of a stage beside its registers (R342): period origin, dither register, re-spacing progress, spur state, and its
shelf counts. -/
structure SyncStage where
  next   : Nat
  r      : BitVec 16
  rm     : Nat
  rlen   : Nat
  rfrom  : Nat
  ts     : Nat
  pulses : Nat
  te     : Option Nat
  spRel  : Int
  spD    : Int
  spLock : Nat
  ended  : Bool
  lock   : Nat
  nreq   : Nat
  pmt    : Nat
  ft     : Nat
  deriving DecidableEq, Repr

/-- Of a phase: its angle at the start of re-spacing, its target, and the angles of the stage periods formed. -/
structure SyncPhase where
  old    : Nat
  target : Nat
  angs   : List (Nat × Nat)
  deriving DecidableEq, Repr

/-- Of a feeder: persistence count, slow-trip accumulator, power sum and model state, inrush time. -/
structure SyncFeeder where
  pers   : Nat
  acc    : Nat
  psum   : Int
  rz     : Int
  frames : Nat
  deriving DecidableEq, Repr

/-- Of a battery string: its disconnection, its timers and its termination count. -/
structure SyncString where
  disc  : Bool
  eodAt : Option Nat
  preAt : Option Nat
  term  : Nat
  deriving DecidableEq, Repr

/-- Of the shelf functions: hold-up and droop counts, q_cap and q, the shed count, the time since NORMAL, the power-good counts, and the
THROTTLE outputs. -/
structure SyncShelf where
  goodN  : Nat
  droopN : Nat
  droop  : Bool
  qcap   : Int
  q      : Int
  shedN  : Nat
  normN  : Nat
  qual   : Vector Nat 4
  thr    : Nat
  deriving DecidableEq, Repr

/-- A sync group as copied (R342): the items of the group by their registers, their context bytes, and the items' state that no register
holds, with the side of a window monitor's count; `left` is the number of groups still to copy. -/
structure SyncGroup where
  regs     : List (Nat × Word)
  mem      : List (Nat × Byte)
  monitors : List (Nat × Bool)
  feeders  : List (Nat × SyncFeeder)
  stages   : List (Nat × SyncStage)
  phases   : List (Nat × SyncPhase)
  strings  : List (Nat × SyncString)
  shelf    : Option SyncShelf
  left     : Nat
  deriving DecidableEq, Repr

end Sys2Proof
end

