-- ==== Sys2Proof/Syntax.lean ====
section
/-!
DEFINITION. The commands of the VX9480, one constructor per row of the table of operations and events. A row that is a
register access carries the requester and the word; a row that is an event carries what the environment decides about
it. Where a row is a write that starts something, the constructor's word is the word written, with the row's trigger
bit taken as set.
-/

namespace Sys2Proof

/-- A command (one row of the table of operations and events). -/
inductive Instr where
  /-- POWER_ON (R55): VIN rises through its power-on threshold: MONO is cleared, outputs go to their start-up states and the unit starts. -/
  | powerOn (env : StartEnv)
  /-- POWER_FAIL (R488): VIN falls through 1.45 V and every output goes high-impedance within 1 µs. -/
  | powerFail
  /-- RESET_ASSERT (R56): A recognised RESET# assertion forces local PWM to safe, CLAIM_OUT to no claim and link transmitters to electrical idle. -/
  | resetAssert
  /-- RESET_RELEASE (R59): RESET# is released and the start sequence runs its steps in order. -/
  | resetRelease (env : StartEnv)
  /-- SOFTWARE_RESET (R58): A write of the key to SYS_RSTREQ acts as a RESET# pulse; a wrong key is counted. -/
  | softwareReset (p : Port) (v : Word) (env : StartEnv)
  /-- WIDE_VALUE_READ (R7): A read of the lowest word of a wide value latches the remaining words. -/
  | wideValueRead (p : Port) (a : Addr)
  /-- REGISTER_WRITE (R4): A write to a register without a row of its own takes effect by its access type. -/
  | registerWrite (p : Port) (a : Addr) (v : Word)
  /-- SHD_WRITE (R76): An SHD write goes to the shadow bank, or is ignored and counted if its group is locked. -/
  | shdWrite (p : Port) (a : Addr) (v : Word)
  /-- GAIT_FRAME_TURNOVER (R155): At each gait-frame boundary GFC increments and the turnover applies commits and window writes, copies the live bank and latches set-points and shelf functions. -/
  | gaitFrameTurnover
  /-- CLK_LOSS (R30): The clock monitor declares REFCLK or PLL lock loss and BKOSC holds every output safe. -/
  | clkLoss (ref pll : Bool)
  /-- CLK_FREQ (R30): At the end of the 1,024-tick RTC count a CK_HK frequency error is declared. -/
  | clkFreq (count : Word)
  /-- WALL_STEP (R37): A write to TIM_WALLCTL.STEP captures the TIM_WSET words for a step at the next boundary. -/
  | wallStep (p : Port) (v : Word)
  /-- WALL_SLEW (R38): A write to TIM_WALLCTL.SLEW requests a slew of TIM_WSLEW at the next boundary. -/
  | wallSlew (p : Port) (v : Word)
  /-- CAPTURE_EDGE (R46): An edge on a capture source records MONO and GFC, or sets OVR if a capture is held. -/
  | captureEdge (src : Fin 64) (rising : Bool)
  /-- CAPTURE_READ (R47): A read of TIM_CAPn_LO latches the other words and clears VALID. -/
  | captureRead (p : Port) (n : Fin 8)
  /-- SOFTSTART_ENTRY (R71): A soft-start entry whose start condition is met arms its stage, enables its feeder or connects its string. -/
  | softstartEntry
  /-- SOFTSTART_TIMEOUT (R72): A soft-start entry whose condition is not met within its timeout stays safe, and its dependants are skipped. -/
  | softstartTimeout
  /-- COMMIT_REQUEST (R74): A SYS_COMMIT write requests an all-or-nothing commit of the named groups, or is refused with BUSY or STANDBY. -/
  | commitRequest (p : Port) (v : Word)
  /-- COMMIT_DISCARD (R74): A SYS_COMMIT write with DISCARD copies the values in effect back into the named shadow banks. -/
  | commitDiscard (p : Port) (v : Word)
  /-- COMMIT_CHECKS_DONE (R77): The commit checks complete and the commit waits for its boundary or is rejected with an error code. -/
  | commitChecksDone
  /-- PADDOCK_START (R81): A write of BOOT_PDK_CTL.START opens a paddock session for that port, or is refused with UPD_BUSY. -/
  | paddockStart (p : Port) (v : Word)
  /-- PADDOCK_DATA (R81): A write to BOOT_PDK_DATA passes container data to the paddock session. -/
  | paddockData (p : Port) (v : Word)
  /-- PADDOCK_PAGE_DONE (R81): The ROM finishes writing a page and sets RDY. -/
  | paddockPageDone
  /-- PADDOCK_DOWNLOAD_DONE (R447): The downloaded container is checked, and the slot and a new descriptor are written, and DONE is set. -/
  | paddockDownloadDone (cr : Crypto) (tack : TackImage)
  /-- PADDOCK_SESSION_EXPIRY (R81): A paddock session with no data for 30 s expires. -/
  | paddockSessionExpiry
  /-- FW_WATCHDOG_EXPIRY (R371): The firmware watchdog expires and sends FW_STALL, which starts a live restart. -/
  | fwWatchdogExpiry
  /-- LIVE_RESTART_COMPLETE (R79): Firmware serves mailboxes again and record mirroring resumes. -/
  | liveRestartComplete (lr : LiveStart)
  /-- LIVE_RESTART_TIMEOUT (R371): A live restart not complete within 200 ms sends FW_STALL with the live-restart bit. -/
  | liveRestartTimeout
  /-- DOWNSTREAM_FRAME (R93): At each link-frame boundary every link transmits a downstream frame with claim, edge words and a CMD unit. -/
  | downstreamFrame
  /-- UPSTREAM_FRAME (R99): An upstream frame is received, checked, and its calibrated samples, status and digest are delivered. -/
  | upstreamFrame (n : Fin 16) (line : BitVec 160) (rtt : Nat)
  /-- UPSTREAM_FRAME_MISSING (R100): No upstream frame starts within ±64 steps of its expected instant, so it is missing. -/
  | upstreamFrameMissing (n : Fin 16)
  /-- LINK_DOWN (R120): A link is declared down after 3 bad frames, 3 DNERR frames or alignment loss; the active unit sends FORCE and reports a link fault. -/
  | linkDown (n : Fin 16) (cause : DownCause)
  /-- LINK_TRAINING_STEP (R115): A training state LOCK, ENUM, ALIGN or CONFIG completes and the link moves to the next state. -/
  | linkTrainingStep (n : Fin 17) (r : TrainReply)
  /-- CONTROL_REQUEST_RESEND (R108): A control request without a reply after 32 link frames is resent, up to three times, then the step fails. -/
  | controlRequestResend (n : Fin 16)
  /-- RETRAIN_WAIT_EXPIRY (R117): The wait after a failure or link down ends and training restarts from LOCK. -/
  | retrainWaitExpiry (n : Fin 17)
  /-- LINK_RETRAIN (R131): A write of LNK_CTL.RETRAIN declares the link down and trains it again. -/
  | linkRetrain (p : Port) (n : Fin 16) (v : Word)
  /-- LINK_ENABLE (R131): A write of LNK_CTL.EN enables the link or puts its transmitter into electrical idle. -/
  | linkEnable (p : Port) (n : Fin 16) (v : Word)
  /-- HREG_WRITE (R133): GO with RD clear sends HWR then HRD and checks the read-back. -/
  | hregWrite (p : Port) (n : Fin 16) (v : Word)
  /-- HREG_READ (R133): GO with RD set sends HRD and returns the reply in LNK_HREG_DATA. -/
  | hregRead (p : Port) (n : Fin 16) (v : Word)
  /-- LOOP_RUN (R152): A due schedule entry runs its template on its context and releases its output. -/
  | loopRun (e : Fin 256) (checkerDiffers : Bool)
  /-- BACKGROUND_LANE_TEST (R138): Each lane pair runs one test vector in its background block every gait frame. -/
  | backgroundLaneTest (failing : BitVec 16)
  /-- LANE_TEST_START (R139): A write of LE_LSTEST.GO starts the 768-vector commanded lane test, or is refused without the token. -/
  | laneTestStart (p : Port) (v : Word)
  /-- LSTEST_DONE (R139): The commanded lane test completes and reports failing lane pairs. -/
  | lstestDone (failing : List (Fin 16 × Fin 768))
  /-- LE_CHECK (R164): A write of LE_CHECK.GO starts the schedule checks on the shadow schedule. -/
  | leCheck (p : Port) (v : Word)
  /-- LE_CHECK_DONE (R160): The schedule check completes and sets DONE, ERR, LE_SCHERR and LE_CHECKLOAD. -/
  | leCheckDone
  /-- SCHED_ENTRY_ACCESS (R163): A read or write of LE_SENT1 accesses word 1 and increments LE_SIDX. -/
  | schedEntryAccess (p : Port) (v : Option Word)
  /-- CONTEXT_WINDOW_WRITE (R172): A CW_DATA write enters the write buffer for the next turnover, or is refused at arrival. -/
  | contextWindowWrite (p : Port) (a : Addr) (v : Word)
  /-- SETSTATE (R176): A CW_CMD SETSTATE changes a context state at its turnover if allowed. -/
  | setstate (p : Port) (v : Word)
  /-- HANDOVER (R189): A CW_CMD HANDOVER moves driving to the twin at its turnover if allowed. -/
  | handover (p : Port) (v : Word)
  /-- TRACE_ARM (R193): A write of TRCu_CTL.ARM restarts a trace unit at the next boundary. -/
  | traceArm (p : Port) (u : Fin 8) (v : Word)
  /-- TRACE_STOP (R195): A write of TRCu_CTL.STOP stops recording at the next tick. -/
  | traceStop (p : Port) (u : Fin 8) (v : Word)
  /-- TRACE_FORCE (R194): A write of TRCu_CTL.FORCE triggers at the next tick. -/
  | traceForce (p : Port) (u : Fin 8) (v : Word)
  /-- TRACE_TICK (R191): A trace unit records one sample of its four channels and evaluates its trigger. -/
  | traceTick (u : Fin 8)
  /-- TRACE_DONE (R193): P samples after the trigger the unit stops in DONE. -/
  | traceDone (u : Fin 8)
  /-- TRACE_DATA_READ (R196): A read of TRCu_RDATA returns two samples and advances RADDR by 2. -/
  | traceDataRead (p : Port) (u : Fin 8)
  /-- LOCAL_EDGE (R202): A committed edge executes on a local PWM channel with dead time. -/
  | localEdge (ch : Fin 16)
  /-- STAGE_PERIOD_START (R213): A stage period starts and the edges of its phases are placed from their angles and duties. -/
  | stagePeriodStart (k : Fin 32)
  /-- PWM_KILL (R206): PWM_KILL# forces every local channel safe, latches the kill and puts the affected stages in SAFE. -/
  | pwmKill
  /-- KILL_RELEASE (R206): A write of PHS_CMD.KILLREL clears the kill latch unless PWM_KILL# is asserted. -/
  | killRelease (p : Port) (v : Word)
  /-- STAGE_START_COMMAND (R211): ST_CTL START takes an OFF stage to START at the next turnover, or is refused. -/
  | stageStartCommand (p : Port) (v : Word)
  /-- STAGE_STOP_COMMAND (R211): ST_CTL STOP takes a stage to OFF with turn-offs at the earliest committable instants. -/
  | stageStopCommand (p : Port) (v : Word)
  /-- STAGE_CLEAR_COMMAND (R211): ST_CTL CLEAR takes a SAFE stage to OFF and releases its phases. -/
  | stageClearCommand (p : Port) (v : Word)
  /-- PHASE_REVIVE (R223): PT_CMD REVIVE returns a FAILED phase of an OFF stage to IDLE at the next turnover. -/
  | phaseRevive (p : Port) (v : Word)
  /-- SPUR_END (R219): The last spur pulse ends and the loops resume with entry runs at the next turnover. -/
  | spurEnd (k : Fin 32)
  /-- SPUR_LOCKOUT_END (R219): The spur lockout of LOCKOUT gait frames ends. -/
  | spurLockoutEnd (k : Fin 32)
  /-- PHASE_FAILED (R222): A phase-failure counter reaches N, the phase is force-safed and the rest re-space. -/
  | phaseFailed (ph : Fin 128)
  /-- MODULE_INPUT_FAILED (R234): A module input is outside its window for INP consecutive deliveries and is marked failed. -/
  | moduleInputFailed (m : Fin 16)
  /-- MODULE_INPUT_RESTORED (R234): A failed module input is inside its window for INP deliveries and is restored. -/
  | moduleInputRestored (m : Fin 16)
  /-- BUS_DROOP (R239): The bus sample is below VDROOP for INP consecutive deliveries. -/
  | busDroop
  /-- MODULE_SHED (R236): Low current has held for SHEDT period starts and the highest sheddable module is stopped. -/
  | moduleShed
  /-- HOLDUP_RECOVER (R239): Inputs have been good for RECT × 1,024 gait frames and the state moves to RECOVER. -/
  | holdupRecover
  /-- HOLDUP_END (R239): q_cap reaches 0 and the state returns to NORMAL. -/
  | holdupEnd
  /-- CHARGE_RESUME (R242): RDELAY × 1,024 gait frames after NORMAL the strings resume charging. -/
  | chargeResume
  /-- CV_TO_FLOAT (R242): The charge current stays below ITERM for TERMT × 1,024 frames and the string enters FLOAT. -/
  | cvToFloat (b : Fin 8)
  /-- BATT_EOD (R243): One gait frame after a string enters EOD its main contactor opens. -/
  | battEod (b : Fin 8)
  /-- STRING_RECONNECT (R243): A write of SHF_CMD.RECONN closes the precharge contactor of a disconnected string. -/
  | stringReconnect (p : Port) (v : Word)
  /-- STRING_PRECHARGE_DONE (R243): After PRET × 1,024 frames the main contactor closes and the precharge opens. -/
  | stringPrechargeDone (b : Fin 8)
  /-- PHASE_DROP (R249): Low load held for PMT period starts lowers the active phase count. -/
  | phaseDrop (k : Fin 32)
  /-- PG_TIMEOUT (R251): A stage fault timer expires and the stage goes to SAFE. -/
  | pgTimeout (k : Fin 32)
  /-- PG_ASSERT (R252): A power-good qualification count reaches QUAL × 16 frames and the output asserts. -/
  | pgAssert (g : Fin 4)
  /-- DECISION_SUBMIT (R255): A write of MB_DCTL.SUBMIT captures the decision buffer of the selected mailbox. -/
  | decisionSubmit (p : Port) (v : Word)
  /-- FEEDER_FAST_TRIP (R267): The fast-trip persistence count reaches FPERS, the feeder trips and a FORCE reflex word is sent. -/
  | feederFastTrip (f : Fin 64)
  /-- FEEDER_INRUSH_TIMEOUT (R265): A feeder stays in INRUSH for TINR × 1,024 frames and trips. -/
  | feederInrushTimeout (f : Fin 64)
  /-- FEEDER_TOGGLE_DONE (R275): The enable has been off for 10 µs and a tripped feeder goes to OFF with RELEASE. -/
  | feederToggleDone (f : Fin 64)
  /-- FEEDER_SNAP (R277): A write of FDR_CTL.SNAP copies and restarts the since-snapshot trackers at the next turnover. -/
  | feederSnap (p : Port) (f : Fin 64) (v : Word)
  /-- PRECISION_RESULT (R284): The precision modulators deliver a result that is calibrated and passed to its consumers. -/
  | precisionResult (c : Fin 17) (raw : BitVec 24)
  /-- SAR_RESULT (R287): A SAR core delivers a conversion result to the sample fabric. -/
  | sarResult (core : Fin 2) (raw : BitVec 16)
  /-- SEQUENCE_TRIGGER (R289): A sequence trigger starts, latches or drops a sequence. -/
  | sequenceTrigger (core : Fin 2)
  /-- SEQGO (R288): A write of ADC_SEQGO triggers a core's sequence. -/
  | seqgo (p : Port) (v : Word)
  /-- ROTATION_STEP_START (R285): The spare modulator starts a rotation step on the next enabled channel. -/
  | rotationStepStart
  /-- ROTATION_CHECK_DONE (R286): A rotation phase check completes and decides the next phase or the outcome. -/
  | rotationCheckDone (k : Fin 16)
  /-- TEST_DAC_WRITE (R290): A write of ADC_TDAC switches the test DAC at the next boundary, or is refused. -/
  | testDacWrite (p : Port) (v : Word)
  /-- HEAD_TEST_WRITE (R291): A write of ADC_HTEST sends a TSRC command to a head, or is refused. -/
  | headTestWrite (p : Port) (v : Word)
  /-- CAL_ZERO (R295): CAL_CMD CAL_ZERO starts averaging the zero of a channel. -/
  | calZero (p : Port) (v : Word)
  /-- CAL_FS (R295): CAL_CMD CAL_FS starts averaging the full-scale reference after ZERO_DONE. -/
  | calFs (p : Port) (v : Word)
  /-- CAL_ABORT (R295): CAL_CMD ABORT returns the procedure to IDLE and writes nothing. -/
  | calAbort (p : Port) (v : Word)
  /-- CAL_AVERAGE_DONE (R295): A calibration average completes, giving ZERO_DONE, or the shadow coefficients and READY. -/
  | calAverageDone
  /-- CAL_STALE_TIMEOUT (R296): No non-stale delivery for 1 s ends the procedure with STALE. -/
  | calStaleTimeout
  /-- CAL_RECORD_WRITE_DONE (R297): A calibration record write to the store completes or fails verification. -/
  | calRecordWriteDone (ok : Bool)
  /-- METER_SNAP (R302): A write of MET_CTL.SNAP requests a metering snapshot at the next boundary. -/
  | meterSnap (p : Port) (v : Word)
  /-- WMON_ENTRY (R306): A window monitor's persistence count reaches PERS and it enters HIGH or LOW, taking its routing action. -/
  | wmonEntry (m : Fin 128)
  /-- COMPARATOR_TICK (R308): All comparators tick and update their states from their inputs. -/
  | comparatorTick (codes : List Nat) (failing : BitVec 16)
  /-- CMP_FAILED (R311): Two consecutive failed checks mark a comparator FAILED. -/
  | cmpFailed (k : Fin 16)
  /-- HK_SLOT_DECISION (R317): A housekeeping slot ends and its averaged value is decided. -/
  | hkSlotDecision (slot : Fin 24) (value : Int)
  /-- HK_SENSOR (R318): The die diode is implausible for 4 rounds and a fatal fault is sent. -/
  | hkSensor
  /-- HK_CHECK (R319): A converter check fails for 4 rounds and a corrected fault is sent. -/
  | hkCheck (slot : Fin 24)
  /-- THERM_WARN (R320): T exceeds TJ_WARN for 4 rounds and the warning state is entered. -/
  | thermWarn
  /-- THERM_WARN_CLEAR (R320): T is at most TJ_WARN − 8 K for 4 rounds and the warning state is left. -/
  | thermWarnClear
  /-- THERM_SHUT (R324): T exceeds TJ_SHUT for 4 rounds and a latched thermal shutdown is decided. -/
  | thermShut
  /-- THERM_RATE (R323): A rate-of-rise window is exceeded for 4 rounds and its flag sets. -/
  | thermRate (long : Bool)
  /-- HK_SUPPLY (R326): A supply is out of limits for 4 rounds and a violation is declared. -/
  | hkSupply (slot : Fin 24)
  /-- TANDEM_FRAME (R331): A tandem frame is received and its content acted on. -/
  | tandemFrame (lane : Fin 2) (line : Option (BitVec 160)) (arrival : Int) (content : TandemContent)
  /-- TANDEM_DOWN (R331): Both tandem lanes have 3 bad or missing frames and the tandem link is down. -/
  | tandemDown
  /-- TAKEOVER (R337): A standby takes ACTIVE at the first boundary after a take-over finding. -/
  | takeover
  /-- CLAIM_IN_CHANGE (R337): CLAIM_IN changes level. -/
  | claimInChange (level : Bool)
  /-- CLAIM_IN_WAIT_EXPIRY (R338): CLAIM_IN has stayed deasserted for 100 ms with the tandem down and unit B takes ACTIVE. -/
  | claimInWaitExpiry
  /-- DUAL_ACTIVE (R340): Heads obey the partner and the unit clears ACTIVE. -/
  | dualActive
  /-- SYNC_PHASE_DONE (R341): A state-sync phase completes and the standby moves on. -/
  | syncPhaseDone
  /-- SYNC_FAIL (R341): CONFIG and STATE do not complete within 50 ms and sync restarts. -/
  | syncFail
  /-- SYNC_GROUP_COPY (R342): A sync group captured at the end of frame G is applied by the standby at the turnover of G + 1. -/
  | syncGroupCopy (g : SyncGroup)
  /-- RESOLUTION_TIMEOUT (R344): Neither unit fails within 100 ms of the mismatch and the standby sets SUSPECT. -/
  | resolutionTimeout
  /-- REMOUNT_NOW (R347): A write of PAIR_CTL.REMNOW starts a remount. -/
  | remountNow (p : Port) (v : Word)
  /-- REMOUNT_TIMER (R347): The remount timer expires and a remount is requested. -/
  | remountTimer
  /-- REMOUNT_RETRY (R347): The token request for a remount is repeated each second, up to 1 h. -/
  | remountRetry
  /-- SWAP_ORDER (R346): At the turnover of G_h − 1 the outgoing unit sends the order, or cancels without acknowledgement. -/
  | swapOrder
  /-- ROLE_SWAP (R346): In the first link frame of G_h the roles change. -/
  | roleSwap
  /-- REMOUNT_DWELL_END (R347): The remount dwell ends and a swap back is made. -/
  | remountDwellEnd
  /-- REVERT_TAKEBACK (R347): Unit A in clean health for 2 s starts a revertive take-back. -/
  | revertTakeback
  /-- HEALTH_REMOUNT (R347): A healthier standby for 2 s starts a health remount. -/
  | healthRemount
  /-- PAIR_OOS (R334): A write of PAIR_CTL.OOS holds the standby's claim at 0x0000, refused on the active unit. -/
  | pairOos (p : Port) (v : Word)
  /-- TOKEN_REQUEST (R349): SYS_TOKREQ REQ asks for the maintenance token for an activity. -/
  | tokenRequest (p : Port) (v : Word)
  /-- TOKEN_RELEASE (R348): SYS_TOKREQ REL releases the maintenance token. -/
  | tokenRelease (p : Port) (v : Word)
  /-- MAINT_EXPIRED (R348): A token held for 1 h is released. -/
  | maintExpired
  /-- FAULT_CLASSIFY (R356): The collector classifies a fault message, stores an entry, writes a record and takes its reaction. -/
  | faultClassify
  /-- FAULT_FOLLOW_UP (R362): After RDLY a retry or clear follow-up is made for an item. -/
  | faultFollowUp (scope : Fin 8) (inst : Fin 128)
  /-- RETRY_COUNT_CLEAR (R362): An item in its working state for 1 s without a new entry clears its retry count. -/
  | retryCountClear (scope : Fin 8) (inst : Fin 128)
  /-- FAULT_RELEASE (R367): A write of FLT_RELEASE releases one DONE entry or all of them. -/
  | faultRelease (p : Port) (v : Word)
  /-- FAULT_MIN_TIME_END (R366): tFLT_MIN since the last asserting classification ends and FAULT# may deassert. -/
  | faultMinTimeEnd
  /-- SCRUB_READ (R369): The scrub engine reads the next memory word and checks it. -/
  | scrubRead (region : Fin 16) (addr : Nat)
  /-- EVENT_RAISE (R372): An event on a source sets its pending bit, counts it, logs it and drives its routes. -/
  | eventRaise (src : Fin 256)
  /-- EVENT_CLEAR (R372): A write of 1 to EVT_PENDi clears a source's pending bit. -/
  | eventClear (p : Port) (n : Fin 8) (v : Word)
  /-- INJ_UNLOCK (R374): The two INJ_KEY writes unlock the injection block. -/
  | injUnlock (p : Port) (v : Word)
  /-- INJ_LOCK (R374): A write to INJ_LOCK locks the block and disarms injections. -/
  | injLock (p : Port) (v : Word)
  /-- INJ_IDLE_LOCK (R374): Ten minutes without an injection lock the block. -/
  | injIdleLock
  /-- LINK_INJECTION (R375): A GO of INJ_LCTL starts a drop, corrupt, reorder or delay injection on a link. -/
  | linkInjection (p : Port) (v : Word)
  /-- ECC_INJECTION_ARM (R376): INJ_ECTL ARM inverts bits of the next word written to a region. -/
  | eccInjectionArm (p : Port) (v : Word)
  /-- LANE_INJECTION_ARM (R377): INJ_LANE ARM alters a checker-lane word at the context's next run. -/
  | laneInjectionArm (p : Port) (v : Word)
  /-- FAULT_MESSAGE_INJECTION (R378): A GO of INJ_FMGO enters a fault message into the collector. -/
  | faultMessageInjection (p : Port) (v : Word)
  /-- RECORD_OFFER (R388): A record is offered to the recorder queue, or an EVENT record is dropped when it is full. -/
  | recordOffer
  /-- RECORD_STORE (R390): The recorder takes a record from the queue, evicts lower-severity records if needed and stores it. -/
  | recordStore
  /-- LOG_MIRROR (R391): Firmware mirrors the next due ring record into the non-volatile log. -/
  | logMirror
  /-- RECORD_SELECT (R394): A write of EVR_RSEL starts selecting a record in the ring or log. -/
  | recordSelect (p : Port) (v : Word)
  /-- RECORD_SELECT_DONE (R394): The record selection is made and FOUND, LEN and EVR_RSEQ are set. -/
  | recordSelectDone (p : Port)
  /-- RECORD_DATA_READ (R394): A read of EVR_RDATA returns a word of the selected record and advances EVR_ROFS. -/
  | recordDataRead (p : Port)
  /-- SADDLEBAG_WRITE (R397): A staged snapshot is written to the slot copy with the older GEN. -/
  | saddlebagWrite
  /-- SADDLEBAG_SELECT (R403): A write of SBG_SEL selects a slot and sets SBG_ROFS to 0. -/
  | saddlebagSelect (p : Port) (v : Word)
  /-- SADDLEBAG_DATA_READ (R403): A read of SBG_RDATA returns a word of the newer valid copy and advances SBG_ROFS. -/
  | saddlebagDataRead (p : Port)
  /-- SADDLEBAG_CLEAR (R403): SBG_ACK CLR clears FULL and COUNT of the selected slot. -/
  | saddlebagClear (p : Port) (v : Word)
  /-- SADDLEBAG_CLEAR_ALL (R403): SBG_ACK ALL clears FULL and COUNT of every slot. -/
  | saddlebagClearAll (p : Port) (v : Word)
  /-- SMBUS_START (R417): A START condition begins a transaction and ends any in progress. -/
  | smbusStart
  /-- SMBUS_ADDRESS (R408): An address byte is matched against the comparators and ACKed or NACKed. -/
  | smbusAddress (b : Byte)
  /-- SMBUS_WRITE_BYTE (R411): A received data byte advances the pointer and completes a word that is applied or buffered. -/
  | smbusWriteByte (b : Byte)
  /-- SMBUS_READ_BYTE (R413): The target sends a data byte, reading its register when the first byte is due. -/
  | smbusReadByte (lost ack : Bool)
  /-- SMBUS_STOP (R414): A STOP ends the transaction, checks the PEC and applies buffered words. -/
  | smbusStop
  /-- SMBUS_TIMEOUT (R417): SCL held low 25 to 35 ms resets the SMBus port. -/
  | smbusTimeout
  /-- ALERT_RESPONSE (R418): A read of the Alert Response Address is answered with the unit's address. -/
  | alertResponse (lost : Bool)
  /-- SPI_FRAME_START (R419): SPI_CS# asserts, the mode is detected and the status byte starts. -/
  | spiFrameStart (mode3 : Bool)
  /-- SPI_WRITE (R420): WRITE writes data bytes at an incrementing address. -/
  | spiWrite (crc : Bool) (a : Addr) (bytes : List Byte)
  /-- SPI_READ (R420): READ returns data at an incrementing address after a dummy byte. -/
  | spiRead (crc : Bool) (a : Addr) (n : Nat)
  /-- SPI_WRITE_FIXED (R420): WRITE_FIXED writes words repeatedly to one aligned address. -/
  | spiWriteFixed (crc : Bool) (a : Addr) (bytes : List Byte)
  /-- SPI_READ_FIXED (R420): READ_FIXED reads words repeatedly from one aligned address. -/
  | spiReadFixed (crc : Bool) (a : Addr) (n : Nat)
  /-- SPI_STATUS (R420): STATUS returns the status byte repeatedly. -/
  | spiStatus (crc : Bool) (n : Nat)
  /-- SPI_REFUSED (R420): An unknown opcode is refused and MISO sends 0xFF. -/
  | spiRefused (op : Byte)
  /-- SPI_FRAME_END (R423): SPI_CS# deasserts, applying a buffered CRC frame or ending the frame early. -/
  | spiFrameEnd
  /-- UPD_OPEN (R435): UPD_CTL OPEN starts a pending update session, or is refused. -/
  | updOpen (p : Port) (v : Word)
  /-- UPD_DATA (R437): A write of UPD_DATA passes container data to the session. -/
  | updData (p : Port) (v : Word)
  /-- UPD_HEADER_CHECK (R435): The header checks complete and the session is authenticated or ended. -/
  | updHeaderCheck (p : Port) (signerOk : Bool)
  /-- UPD_PAGE_PROGRAMMED (R437): Firmware finishes programming a page and sets RDY. -/
  | updPageProgrammed
  /-- UPD_VERIFY_DONE (R437): The written slot is read back and checked, giving VERIFIED and UPD_DONE or UPD_ERR. -/
  | updVerifyDone (cr : Crypto) (tack : TackImage)
  /-- UPD_ACTIVATE (R439): UPD_CTL ACTIVATE stages a verified slot in the descriptor and, for firmware, starts a planned live restart. -/
  | updActivate (p : Port) (v : Word)
  /-- UPD_ABORT (R438): UPD_CTL ABORT ends the session. -/
  | updAbort (p : Port) (v : Word)
  /-- UPD_FALLBACK (R441): UPD_CTL FALLBACK during a trial starts a live restart into the previous firmware. -/
  | updFallback (p : Port) (v : Word)
  /-- UPD_EXPIRED (R438): A session idle for 30 s ends. -/
  | updExpired
  /-- FW_CONFIRMED (R441): Trial firmware confirms, clearing TRIAL and raising the firmware counter. -/
  | fwConfirmed
  /-- FW_CONFIRM_TIMEOUT (R441): The 60 s confirmation timer expires and a fallback live restart starts. -/
  | fwConfirmTimeout
  /-- OVERLAY_WRITE (R443): Firmware writes the older settings-overlay copy. -/
  | overlayWrite
  /-- WINDOW_SELECT (R460): A write of WIN_SEL selects a region and sets WIN_BASE to 0. -/
  | windowSelect (p : Port) (v : Word)
  /-- WINDOW_DATA_READ (R460): A read of WIN_DATA returns the word at WIN_BASE and advances it by 4. -/
  | windowDataRead (p : Port)
  /-- PWM_KILL_DEASSERT (R206): PWM_KILL# is deasserted, PHS_STAT.KILLIN clears and a later KILLREL write is no longer ignored. -/
  | pwmKillDeassert
  /-- TANDEM_WAIT_EXPIRY (R333): In pair mode the tandem link is not UP within 4 ms, so the unit trains its rein links on its own timeline. -/
  | tandemWaitExpiry
  /-- FLT_LIFECON_FLUSH (R400): The changed FLT_LIFECON value is written to the non-volatile array when its 60 s write interval allows. -/
  | fltLifeconFlush
  deriving DecidableEq, Repr

end Sys2Proof
end

