-- ==== Sys2Proof/Decode.lean ====
section
/-!
DEFINITION. The block has no instruction encoding: the table of operations and events gives its rows no bits, so no
word spells a command.
-/

namespace Sys2Proof

/-- The command that a word spells by the bits of the table: the table gives no row any bits, so none. -/
def decodeTableWord (_nbits _w : Nat) : Option Instr := none

end Sys2Proof
end

