-- ==== Sys2Proof/Config.lean ====
section
/-!
DEFINITION. What an implementation fixes, and the free values: constants with no body, one for each value the spec
leaves open. The counter `State.free` is advanced each time a free value is taken, so that two takings need not agree.
-/

namespace Sys2Proof.Config

/-- A word the spec leaves open, by the number of the taking. -/
opaque freeWord : Nat → Word

/-- A bit the spec leaves open, by the number of the taking. -/
opaque freeBit : Nat → Bool

/-- Where in its period XTAL32 stands at power-on, in 1/390,625 of the period (R48): the spec gives no phase. -/
opaque rtcPhase : Nat

/-- The quotient of a division by zero, where a setting makes a divisor of the spec zero. -/
opaque divByZero : Int → Int

/-- The 16-bit head register value of a raw code that 16 bits do not hold (R263). -/
opaque rawCodeRange : Int → Nat

/-- SRC of the block that owns the memory word at an address of regions 7 and 8 (R357, R368). -/
opaque memOwner : Nat → Nat → Nat

/-- What an input selector with a reserved KIND that no window write has checked yields (R183). -/
opaque reservedInput : Nat → Nat

/-- The ECC syndrome of a word whose inverted bits are given (R368, FLT_ECCINFO). -/
opaque syndrome : List Nat → Nat

/-- The background lane test's vector at GFC 0 (R138): the spec does not say which one runs in which frame. -/
opaque laneVector : Nat

/-- The phase against GFC of the gait frames in which a trace unit of mode 1 ticks (R191): the spec gives none. -/
opaque tracePhase : Nat

/-- A converter code of housekeeping slot 16, 17 or 23 in mV (R327): the spec gives no scale for these slots. -/
opaque hkMilliVolts : Nat → Int → Int

/-- PAYLOAD of the tandem frame that a lane sends at a MONO, of a KIND whose layout the spec does not give (R331). -/
opaque tandemPayload : Nat → BitVec 64 → BitVec 112

/-- The serial of this part (SYS_UID, R469). -/
opaque unitSerial : BitVec 64

/-- The temperature grade of this part: the VX9480-IFB range when set (SYS_PART.GRADE, R470). -/
opaque gradeIFB : Bool

end Sys2Proof.Config
end

