-- ==== Sys2Proof/Machine/Bits.lean ====
section
/-!
DEFINITION. Bit fields of register words (R4 notation `REG.FIELD[hi:lo]`), sign extension, saturation and the
little-endian byte order of the host ports.
-/

namespace Sys2Proof.Machine

/-- Field `[hi:lo]` of a word, as a number. -/
def fieldOf (w : Word) (hi lo : Nat) : Nat := (w.extractLsb' lo (hi + 1 - lo)).toNat

/-- The mask of field `[hi:lo]`. -/
def fieldMask (hi lo : Nat) : Word := BitVec.ofNat 32 ((2 ^ (hi + 1 - lo) - 1) <<< lo)

/-- The word with field `[hi:lo]` holding `v` (taken modulo the field's width). -/
def setField (w : Word) (hi lo v : Nat) : Word :=
  (w &&& ~~~ fieldMask hi lo) ||| (BitVec.ofNat 32 (v <<< lo) &&& fieldMask hi lo)

/-- One bit of a word. -/
def bitOf (w : Word) (i : Nat) : Bool := w.getLsbD i

/-- A number read as an `n`-bit two's complement value. -/
def signed (n v : Nat) : Int := if v % 2 ^ n < 2 ^ (n - 1) then (v % 2 ^ n : Nat) else (v % 2 ^ n : Nat) - (2 ^ n : Nat)

/-- The `n`-bit two's complement code of an integer (modulo 2^n). -/
def code (n : Nat) (v : Int) : Nat := (v % (2 ^ n : Nat)).toNat

/-- Clamp an integer into `[lo, hi]`. -/
def clampI (lo hi v : Int) : Int := if v < lo then lo else if hi < v then hi else v

/-- Saturate an integer to `n`-bit two's complement. -/
def satI (n : Nat) (v : Int) : Int := clampI (-(2 ^ (n - 1) : Nat)) ((2 ^ (n - 1) : Nat) - 1) v

/-- A Boolean as a field value. -/
def b2n (b : Bool) : Nat := if b then 1 else 0

/-- The word of a number. -/
def word (n : Nat) : Word := BitVec.ofNat 32 n

/-- Byte `i` of a word, little-endian (R4). -/
def byteOf (w : Word) (i : Nat) : Byte := w.extractLsb' (8 * i) 8

/-- A word from its four little-endian bytes (missing bytes are zero). -/
def wordOfBytes : List Byte → Word
  | [] => 0
  | b :: bs => (b.setWidth 32) ||| (wordOfBytes bs <<< 8)

/-- The little-endian bytes of a number, `n` of them. -/
def leBytes : Nat → Nat → List Byte
  | 0, _ => []
  | n + 1, v => BitVec.ofNat 8 v :: leBytes n (v / 256)

/-- The number held by little-endian bytes. -/
def leNat : List Byte → Nat
  | [] => 0
  | b :: bs => b.toNat + 256 * leNat bs

/-- Element `i` of a vector; `d` outside it. -/
def vget {α : Type} {n : Nat} (v : Vector α n) (i : Nat) (d : α) : α := (v[i]?).getD d

/-- Replace element `i` of a vector. -/
def vset {α : Type} {n : Nat} (v : Vector α n) (i : Nat) (x : α) : Vector α n := v.setIfInBounds i x

/-- The exact quotient rounded to the nearest integer, ties to even (R199). A divisor of 0 gives a free
value. -/
def cdiv (x y : Int) : Int :=
  if y = 0 then Config.divByZero x
  else
    let n := if y < 0 then -x else x
    let d := if y < 0 then -y else y
    let q := n / d
    let r := n - q * d
    if d < 2 * r || (2 * r == d && q % 2 != 0) then q + 1 else q

end Sys2Proof.Machine
end

