-- ==== Sys2Proof/Machine/Flags.lean ====
section
/-!
DEFINITION. The arithmetic helpers of the loop engine (R140, R141) with the sticky flags they set (R143). A helper takes
the flags of the running context and answers the value and the flags: bit 0 SAT_ACC, 1 SAT_OUT, 2 SAT_INT, 3 LIM_HI,
4 LIM_LO, as the FLAGS word of R168 places them.
-/

namespace Sys2Proof.Machine

/-- A value of the loop engine and the sticky flags after it. -/
abbrev Fl := Int × Nat

/-- Saturate to the 40-bit accumulator. -/
def sat40 (x : Int) (f : Nat) : Fl :=
  if 549755813887 < x then (549755813887, f ||| 1) else if x < -549755813888 then (-549755813888, f ||| 1) else (x, f)

/-- Saturate to 16 bits. -/
def sat16 (x : Int) (f : Nat) : Fl :=
  if 32767 < x then (32767, f ||| 2) else if x < -32768 then (-32768, f ||| 2) else (x, f)

/-- Q15 to S8.31. -/
def lq (q : Int) : Int := q * 65536

def mac (a c x : Int) (f : Nat) : Fl := sat40 (a + 2 * c * x) f
def msu (a c x : Int) (f : Nat) : Fl := sat40 (a - 2 * c * x) f
def addA (a b : Int) (f : Nat) : Fl := sat40 (a + b) f
def shlA (a : Int) (s f : Nat) : Fl := sat40 (a * (2 ^ s : Nat)) f

/-- Arithmetic shift right. -/
def asr (x : Int) (s : Nat) : Int := x / (2 ^ s : Nat)

/-- Convergent rounding of an accumulator to 16 fractional bits less: ties to even. -/
def rnd (a : Int) : Int :=
  let q := a / 65536
  let r := a - q * 65536
  if 32768 < r || (r == 32768 && q % 2 != 0) then q + 1 else q

/-- Every store of a 16-bit value. -/
def st16 (a : Int) (f : Nat) : Fl := sat16 (rnd a) f

def limF (y lo hi : Int) (f : Nat) : Fl :=
  let f := if hi < lo then f ||| 24 else f
  let (y, f) := if hi < y then (hi, f ||| 8) else (y, f)
  if y < lo then (lo, f ||| 16) else (y, f)

def intcF (a lo hi : Int) (f : Nat) : Fl :=
  let f := if hi < lo then f ||| 4 else f
  let (a, f) := if hi < a then (hi, f ||| 4) else (a, f)
  if a < lo then (lo, f ||| 4) else (a, f)

/-! ## The inputs, coefficients and state of a run (R144, R168, R170) -/

/-- What a run computes from: coefficients C0 to C9, limits, options, inputs and the state words. -/
structure RunIn where
  c     : List Int
  ymin  : Int
  ymax  : Int
  kff   : Int
  kdr   : Int
  sh    : Nat
  sh1   : Nat
  sel   : Nat
  nx    : Nat
  ff    : Bool
  droop : Bool
  curb  : Bool
  curbl : Int
  x     : List Int
  /-- The track target source: y0 of an entry run, TRK of a tracking run (R146, R181). -/
  trk   : Option Int
  deriving DecidableEq, Repr

/-- The state words of a context (R168): I, E1 to E3, D, U1 to U3, W1, W2. -/
structure RunSt where
  i  : Int
  e1 : Int
  e2 : Int
  e3 : Int
  d  : Int
  u1 : Int
  u2 : Int
  u3 : Int
  w1 : Int
  w2 : Int
  deriving DecidableEq, Repr

/-- What a run releases: its output, its new state, its error, the selector index and the flags. -/
structure RunOut where
  y  : Int
  s  : RunSt
  e  : Int
  k  : Nat
  fl : Nat
  deriving DecidableEq, Repr

def RunIn.coef (r : RunIn) (n : Nat) : Int := r.c.getD n 0
def RunIn.inp (r : RunIn) (n : Nat) : Int := r.x.getD n 0

/-- The front end of T0 to T4 (R146): reference with droop and curb, and the error. -/
def frontEnd (r : RunIn) (f : Nat) : Fl :=
  let (ref, f) := if r.droop then (let (a, f) := msu (lq (r.inp 0)) r.kdr (r.inp 3) f; st16 a f) else (r.inp 0, f)
  let ref := if r.curb then
      let c := if r.curbl < 0 then 0 else r.curbl
      let ref := if c < ref then c else ref
      if ref < -c then -c else ref
    else ref
  let (a, f) := addA (lq ref) (-(lq (r.inp 1))) f
  st16 a f

/-- The track target (R146). -/
def trackTarget (r : RunIn) (t : Int) (f : Nat) : Fl :=
  if r.ff then (let (a, f) := msu (lq t) r.kff (r.inp 2) f; st16 a f) else (t, f)

/-- The end of T0 to T4: post-shift, feedforward, store and limit. -/
def finish (r : RunIn) (a : Int) (f : Nat) : Fl :=
  let (a, f) := shlA a r.sh f
  let (a, f) := if r.ff then mac a r.kff (r.inp 2) f else (a, f)
  let (y, f) := st16 a f
  limF y r.ymin r.ymax f

/-- T0, PI (R147). -/
def runT0 (r : RunIn) (s : RunSt) (f : Nat) : RunOut :=
  let (e, f) := frontEnd r f
  let lo := asr (lq r.ymin) r.sh
  let hi := asr (lq r.ymax) r.sh
  let (i, f) := match r.trk with
    | some t =>
      let (t, f) := trackTarget r t f
      let (a, f) := msu (asr (lq t) r.sh) (r.coef 0) e f
      intcF a lo hi f
    | none =>
      let (a, f) := mac s.i (r.coef 1) e f
      intcF a lo hi f
  let (a, f) := mac i (r.coef 0) e f
  let (y, f) := finish r a f
  { y := y, s := { s with i := i, e1 := e }, e := e, k := 0, fl := f }

/-- T1, PID with filtered derivative (R148). -/
def runT1 (r : RunIn) (s : RunSt) (f : Nat) : RunOut :=
  let (e, f) := frontEnd r f
  let (a, f) := addA (lq e) (-(lq s.e1)) f
  let (dd, f) := st16 a f
  let (a, f) := mac 0 (r.coef 3) s.d f
  let (a, f) := mac a (r.coef 2) dd f
  let (d, f) := st16 a f
  let lo := asr (lq r.ymin) r.sh
  let hi := asr (lq r.ymax) r.sh
  let (i, f) := match r.trk with
    | some t =>
      let (t, f) := trackTarget r t f
      let (a, f) := msu (asr (lq t) r.sh) (r.coef 0) e f
      let (a, f) := addA a (-(lq d)) f
      intcF a lo hi f
    | none =>
      let (a, f) := mac s.i (r.coef 1) e f
      intcF a lo hi f
  let (a, f) := mac i (r.coef 0) e f
  let (a, f) := addA a (lq d) f
  let (y, f) := finish r a f
  { y := y, s := { s with i := i, d := d, e1 := e }, e := e, k := 0, fl := f }

/-- The output history of T2 to T4: the limited output, or the track target (R149, R150). -/
def histU (r : RunIn) (y : Int) (f : Nat) : Fl :=
  match r.trk with
  | some t => trackTarget r t f
  | none => (y, f)

/-- T2, 2P2Z (R149): T3 without B3, A3, E3 and U3, its coefficients at the places of R170. -/
def runT2 (r : RunIn) (s : RunSt) (f : Nat) : RunOut :=
  let (e, f) := frontEnd r f
  let (a, f) := mac 0 (r.coef 0) e f
  let (a, f) := mac a (r.coef 1) s.e1 f
  let (a, f) := mac a (r.coef 2) s.e2 f
  let (a, f) := mac a (r.coef 3) s.u1 f
  let (a, f) := mac a (r.coef 4) s.u2 f
  let (y, f) := finish r a f
  let (u, f) := histU r y f
  { y := y, s := { s with e1 := e, e2 := s.e1, u1 := u, u2 := s.u1 }, e := e, k := 0, fl := f }

/-- T3, 3P3Z (R149). -/
def runT3 (r : RunIn) (s : RunSt) (f : Nat) : RunOut :=
  let (e, f) := frontEnd r f
  let (a, f) := mac 0 (r.coef 0) e f
  let (a, f) := mac a (r.coef 1) s.e1 f
  let (a, f) := mac a (r.coef 2) s.e2 f
  let (a, f) := mac a (r.coef 3) s.e3 f
  let (a, f) := mac a (r.coef 4) s.u1 f
  let (a, f) := mac a (r.coef 5) s.u2 f
  let (a, f) := mac a (r.coef 6) s.u3 f
  let (y, f) := finish r a f
  let (u, f) := histU r y f
  { y := y, s := { s with e1 := e, e2 := s.e1, e3 := s.e2, u1 := u, u2 := s.u1, u3 := s.u2 }, e := e, k := 0, fl := f }

/-- T4, dual biquad (R150). -/
def runT4 (r : RunIn) (s : RunSt) (f : Nat) : RunOut :=
  let (e, f) := frontEnd r f
  let (a, f) := mac 0 (r.coef 0) e f
  let (a, f) := mac a (r.coef 1) s.e1 f
  let (a, f) := mac a (r.coef 2) s.e2 f
  let (a, f) := mac a (r.coef 3) s.w1 f
  let (a, f) := mac a (r.coef 4) s.w2 f
  let (a, f) := shlA a r.sh1 f
  let (w, f) := st16 a f
  let (a, f) := mac 0 (r.coef 5) w f
  let (a, f) := mac a (r.coef 6) s.w1 f
  let (a, f) := mac a (r.coef 7) s.w2 f
  let (a, f) := mac a (r.coef 8) s.u1 f
  let (a, f) := mac a (r.coef 9) s.u2 f
  let (y, f) := finish r a f
  let (u, f) := histU r y f
  { y := y, s := { s with e1 := e, e2 := s.e1, w1 := w, w2 := s.w1, u1 := u, u2 := s.u1 }, e := e, k := 0, fl := f }

/-- MIN or MAX over inputs 1 to n - 1 (R151): the lower number is kept on equal inputs. -/
def pick (better : Int → Int → Bool) (xs : List Int) (n : Nat) : Int × Nat :=
  (List.range n).foldl (fun b i => let x := xs.getD i 0
    if better x b.1 then (x, i) else b) (xs.getD 0 0, 0)

/-- T5, limiter and selector (R151). -/
def runT5 (r : RunIn) (s : RunSt) (f : Nat) : RunOut :=
  let n := if r.nx < 2 then 2 else if 4 < r.nx then 4 else r.nx
  let (y, k) := match r.sel with
    | 0 => pick (fun x b => decide (x < b)) r.x n
    | 1 => pick (fun x b => decide (b < x)) r.x n
    | 2 =>
      let (y, k) := if r.inp 2 < r.inp 0 then (r.inp 2, 2) else (r.inp 0, 0)
      if y < r.inp 1 then (r.inp 1, 1) else (y, k)
    | _ => (r.inp 0, 0)
  let (y, f) := limF y r.ymin r.ymax f
  { y := y, s := s, e := 0, k := k, fl := f }

/-- The template of a TMPL code (R144). -/
def runTemplate (tmpl : Nat) (r : RunIn) (s : RunSt) (f : Nat) : RunOut :=
  match tmpl with
  | 0 => runT0 r s f
  | 1 => runT1 r s f
  | 2 => runT2 r s f
  | 3 => runT3 r s f
  | 4 => runT4 r s f
  | _ => runT5 r s f

/-- Cost of a template with its options in lane-cycles (R144, R145). -/
def runCost (tmpl opts : Nat) : Nat :=
  (match tmpl with | 0 => 14 | 1 => 20 | 2 => 18 | 3 => 26 | 4 => 32 | _ => 8) + 4 * opts

end Sys2Proof.Machine
end

