-- ==== Sys2Proof/Machine/Cells.lean ====
section
/-!
DEFINITION. Sparse memories in one canonical form: a list of (address, value) pairs, addresses strictly rising, no
entry equal to what an unlisted address reads as. The default `d` is what an unlisted address reads as.
-/

namespace Sys2Proof.Machine

/-- A sparse memory of `w`-bit values. `Cells 8` is a list of `Host.Cell`. -/
abbrev Cells (w : Nat) := List (Nat × BitVec w)

/-- The value at address `a`; `d a` where nothing is listed. -/
def cellsGet {w : Nat} (d : Nat → BitVec w) : Cells w → Nat → BitVec w
  | [], a => d a
  | (k, v) :: r, a => if k = a then v else cellsGet d r a

/-- Insert an entry before the first larger address. -/
def cellsIns {w : Nat} : Cells w → Nat → BitVec w → Cells w
  | [], a, v => [(a, v)]
  | (k, x) :: r, a, v => if a < k then (a, v) :: (k, x) :: r else (k, x) :: cellsIns r a v

/-- Write `v` at `a`, keeping the canonical form: the value an unlisted address reads as removes the entry. -/
def cellsSet {w : Nat} (d : Nat → BitVec w) (l : Cells w) (a : Nat) (v : BitVec w) : Cells w :=
  let rest := l.filter (fun e => e.1 != a)
  if v = d a then rest else cellsIns rest a v

/-- The entries of `src` at addresses that `p` names, and those of `dst` elsewhere, merged in address order. -/
def cellsCopy {w : Nat} (p : Nat → Bool) (src dst : Cells w) : Cells w :=
  (src.filter (fun e => p e.1)).foldl (fun acc e => cellsIns acc e.1 e.2) (dst.filter (fun e => !p e.1))

/-- The canonical form. -/
def cellsWf {w : Nat} (d : Nat → BitVec w) : Cells w → Bool
  | [] => true
  | (k, v) :: r => v != d k && (match r with | [] => true | (k', _) :: _ => decide (k < k')) && cellsWf d r

end Sys2Proof.Machine
end

