-- ==== Sys2Proof/Machine/Types.lean ====
section
/-!
DEFINITION. The structures of the state, block by block: what a block holds beyond its registers.
-/

namespace Sys2Proof.Machine

/-! ## Time (chapter 02) -/

/-- The time bases of R9 and the requests that wait for a boundary. WALL and its slew remainder are exact, in units of
1/4,000,000 ns: one CK_CTL cycle is 5,000,000 units, and one ppm of it is 5 units. -/
structure TimeSt where
  /-- MONO (R9, R35). -/
  mono    : BitVec 64
  /-- Time counted for TIM_RTC, in 1/390,625 of a tick of XTAL32: a CK_CTL cycle is 16 of them (R48). -/
  rtc     : Nat
  /-- WALL (R9, R36), in 1/4,000,000 ns. -/
  wall    : Nat
  /-- A captured step: nanoseconds and seconds (R37). -/
  step    : Option (Nat × Nat)
  /-- A requested slew, signed nanoseconds (R38). -/
  slew    : Option Int
  /-- The slew remainder, in 1/4,000,000 ns (R38). -/
  rem     : Int
  /-- FCNT of the link frame that runs (R9, R31). -/
  fcnt    : BitVec 8
  /-- GFC (R33). -/
  gfc     : BitVec 32
  /-- The gait-frame grid has had its first boundary since the reset (R510). -/
  grid    : Bool
  /-- Link frames begun in this gait frame; 0 until its first downstream frames are sent (R31, R32). -/
  lf      : Nat
  /-- MONO at the start of the running link frame. -/
  fmono   : BitVec 64
  /-- Shelf times of the last gait-frame starts, newest first. -/
  gaits   : List Nat
  deriving DecidableEq, Repr

/-! ## Unit, pins and start-up (chapters 03, 18) -/

/-- Where the part is in its start-up (R55 to R59, R80, R482). -/
inductive Life where
  /-- VIN below its threshold. -/
  | off
  /-- RESET# asserted. -/
  | inReset
  /-- TESTMODE held the start sequence before step 1 (R482). -/
  | testHold
  /-- Start steps complete through step 7. -/
  | running
  /-- Paddock mode (R80). -/
  | paddock
  deriving DecidableEq, Repr

/-- The part itself, its straps and the pins that no register holds. -/
structure UnitSt where
  /-- Where the part is in its start-up (R55 to R59). -/
  life     : Life
  /-- UNIT_ID as sampled: unit B when set (R330). -/
  unitB    : Bool
  /-- PAIR_EN as sampled (R330). -/
  pairMode : Bool
  /-- OTP SEALED (R3). -/
  sealed   : Bool
  /-- OKH and OIK set (R432). -/
  okh      : Bool
  oik      : Bool
  /-- Tack slot in the skip latch TKSKIP (R64). -/
  tkskip   : Option (Fin 2)
  /-- A thermal shutdown is latched for the cause of the next reset (R325). -/
  thermLatch : Bool
  /-- Level of GPIO8, the FDR_EN input (R482). -/
  fdrPin   : Bool
  /-- SHELF_EN output (R71). -/
  shelfEn  : Bool
  /-- CLAIM_OUT output (R330, R334). -/
  claimOut : Bool
  /-- Link transmitters forced to electrical idle (R55, R56). -/
  txIdle   : Bool
  /-- The boot commit of this start has applied (R69). -/
  booted   : Bool
  /-- The bit of SYS_RSTCAUSE that the next release of the reset records (R86). -/
  cause    : Nat
  deriving DecidableEq, Repr

/-- One slot of the flash (R428, R429): the container header, what its keys decide, and its decrypted payload. -/
structure Slot where
  /-- The 256 header bytes; an erased header is empty. -/
  header : List Byte
  /-- Bytes programmed after the header. -/
  body   : Nat
  /-- What the keys decide of the container (R430, R431). -/
  crypto : Crypto
  /-- The decrypted payload of a tack slot (R65). -/
  tack   : TackImage
  /-- UPD_SINFO state of R451 as far as the flash holds it: 0 empty, 1 partial, 2 verified, 5 refused. -/
  mark   : Nat
  deriving DecidableEq, Repr

/-- The external flash (R62, R428): the two descriptor copies and the four slots (0 FWA, 1 FWB, 2 TKA, 3 TKB). -/
structure FlashSt where
  desc0 : List Byte
  desc1 : List Byte
  /-- The four slots (R428). -/
  slots : Vector Slot 4
  deriving DecidableEq, Repr

/-- The tack image that the start staged, and the soft start (R71, R72). -/
structure BootSt where
  /-- The soft-start list that the start staged (R71). -/
  soft     : List StartEntry
  /-- Soft start waits for its first boundary. -/
  softWait : Bool
  /-- Gait frames since the previous entry. -/
  softFrames : Nat
  /-- Entries whose item stayed safe (R72). -/
  softFail : List Nat
  /-- The firmware settings of the tack image (R65). -/
  fwset    : List Word
  /-- The counts that the tack image in use declares (R15, R65). -/
  limits   : Limits
  /-- Contexts that the schedule commit of step 7 takes to TETHERED (R70). -/
  tether   : List Nat
  /-- The paddock session (R81): its owner, kind, slot, bytes received and the header received so far. -/
  pdkOwner : Option Port
  pdkBytes : Nat
  pdkHdr   : List Byte
  /-- MONO at the start of the live restart in progress (R79). -/
  lrStart  : Option (BitVec 64)
  /-- The live restart in progress is an activation (R439). -/
  lrPlanned : Bool
  deriving DecidableEq, Repr

/-! ## Update (chapter 16) -/

/-- A pending update session (R435): its slot, 4 for a provisioning container, and the header bytes received. -/
structure PendSess where
  slot : Nat
  len  : Nat
  hdr  : List Byte
  deriving DecidableEq, Repr

/-- The authenticated session (R435 to R437): its source, slot (4: none), length, header, bytes accepted, and the bytes of
the page being filled. -/
structure AuthSess where
  src  : Port
  slot : Nat
  len  : Nat
  hdr  : List Byte
  ofs  : Nat
  page : Nat
  deriving DecidableEq, Repr

/-- One copy of the settings overlay (R443): its layout version, generation and writer. -/
structure OvlCopy where
  format  : Nat
  gen     : Nat
  version : Word
  deriving DecidableEq, Repr

/-- Firmware update (R434 to R445). -/
structure UpdSt where
  /-- Pending session of the SMBus port, and of the SPI port (R435). -/
  pendS   : Option PendSess
  pendP   : Option PendSess
  /-- The authenticated session (R437). -/
  auth    : Option AuthSess
  /-- The bit TRIALRUN of the non-volatile array (R440). -/
  trialrun : Bool
  /-- Confirmed since the last activation (UPD_TRIAL). -/
  confirmed : Bool
  /-- MONO at which the confirmation window ends (R441). -/
  confEnd : Option (BitVec 64)
  /-- An activation waits for the token of the partner's answer (R439). -/
  actWait : Bool
  /-- Reason of the fallback that the next live restart makes (R449). -/
  reason  : Nat
  /-- The two copies of the settings overlay (R443). -/
  ovlA    : Option OvlCopy
  ovlB    : Option OvlCopy
  /-- MONO of the last overlay write (R443). -/
  ovlAt   : Option (BitVec 64)
  deriving DecidableEq, Repr

/-! ## Host ports (chapter 15) -/

/-- The SMBus target (R406 to R418). -/
structure SmbSt where
  /-- Between START and STOP, and whether the next byte is an address byte. -/
  active  : Bool
  addrDue : Bool
  /-- The address comparators as they stood at the START (R408). -/
  acmp    : Vector Word 4
  /-- The comparator that serves the transaction. -/
  comp    : Option Nat
  /-- The phase is a read (R410). -/
  reading : Bool
  /-- Bytes of the pointer received in this write phase. -/
  nptr    : Nat
  /-- Its first byte. -/
  ptrHi   : Byte
  /-- Data bytes of the word being received (PEC mode 0). -/
  word    : List Byte
  /-- The bytes after the pointer that wait for STOP (PEC mode 1), with the pointer at which they start. -/
  buf     : List Byte
  bufPtr  : Nat
  /-- Words applied by this transaction. -/
  words   : Nat
  /-- The rest of the transaction is not acknowledged, and its outcome code of R426. -/
  nacked  : Bool
  result  : Nat
  /-- Running PEC (R414). -/
  pec     : Byte
  /-- Data bytes still to send before the PEC byte; none in PEC mode 0 and after the PEC byte; the bytes of the fetched word still
  to send. -/
  left    : Option Nat
  out     : List Byte
  /-- The target has stopped driving SDA (R416). -/
  lost    : Bool
  /-- The target acknowledged the last byte it received. -/
  ack     : Bool
  deriving DecidableEq, Repr

/-- A CRC write frame that waits for the deassertion of SPI_CS# (R422): its address, whether that stays fixed, its data, and
whether its CRC verifies. -/
structure SpiBuf where
  addr  : Nat
  fixed : Bool
  data  : List Byte
  ok    : Bool
  deriving DecidableEq, Repr

/-- The service SPI (R419 to R423): whether SPI_CS# is asserted, and the history bits of the previous frame: CRCERR, BUSY,
REFUSED (R421). -/
structure SpiSt where
  cs      : Bool
  crcErr  : Bool
  busy    : Bool
  refused : Bool
  /-- What this frame leaves for the next status byte. -/
  nCrc    : Bool
  nBusy   : Bool
  nRef    : Bool
  /-- The frame has carried its command byte and address, and stands in the middle of a data word. -/
  used    : Bool
  early   : Bool
  /-- A CRC write frame that waits for the end of the frame (R422). -/
  buf     : Option SpiBuf
  /-- The bytes sent on SPI_MISO after the address and the dummy byte of the last command. -/
  miso    : List Byte
  deriving DecidableEq, Repr

/-! ## Rein links (chapter 04) -/

/-- An edge for a head channel: EV code 1 turn-on, 2 turn-off, 3 force-safe (R94), at an absolute shelf time in edge
steps. -/
structure Edge where
  ch : Nat
  ev : Nat
  at_ : Nat
  deriving DecidableEq, Repr

/-- Who asked for a head register access (R133, R202, R263): the LNK_HREG registers, feeder `f`, or a channel
setting. -/
inductive HeadOwner where
  | user
  | feeder (f : Nat)
  | chan
  deriving DecidableEq, Repr

/-- A head register access over the command channel (R133): a read, or a write confirmed by read-back. -/
structure HeadAccess where
  owner : HeadOwner
  write : Bool
  addr  : Nat
  data  : Word
  deriving DecidableEq, Repr

/-- The head register access in progress: attempt number from 1, frames since its HRD was queued, and the reply words
received so far. -/
structure HeadRun where
  acc     : HeadAccess
  attempt : Nat
  frames  : Nat
  got     : List Nat
  deriving DecidableEq, Repr

/-- A reflex word on the line (R110): ACT, MASK, and the 16-bit cell at which it starts, numbered so that cell 1 is frame offset
0 and cell 10 is offset 144; cell 0 is the last one of the frame before. -/
structure Rfx where
  act  : Nat
  mask : Nat
  at_  : Nat
  deriving DecidableEq, Repr

/-- A control request of training (R107): CKIND and PAYLOAD. -/
structure CtrlReq where
  kind    : Nat
  payload : BitVec 96
  deriving DecidableEq, Repr

/-- One rein link (chapter 04), beside its LNK registers. -/
structure LinkSt where
  /-- Transmit scrambler, its state at the start of the frame in flight, and receive descrambler, newest bit first (R89). -/
  scr      : BitVec 58
  scr0     : BitVec 58
  dsc      : BitVec 58
  /-- The last 16 bits sent on the line (R111). -/
  tail     : BitVec 16
  /-- The line bits of the last downstream frame, bit 0 first. -/
  txLine   : BitVec 160
  /-- Consecutive bad or missing upstream frames, and consecutive good ones with DNERR (R120). -/
  badRun   : Nat
  dnRun    : Nat
  /-- Edges waiting for a frame, and the edges of the frame in flight (R96, R113). -/
  edges    : List Edge
  flight   : List Edge
  /-- The frame in flight has been aborted by a reflex word (R110). -/
  aborted  : Bool
  /-- Reflex words that stand in the running frame or are to follow it, in line order (R110). -/
  reflex   : List Rfx
  /-- Commands for the CMD field, each a list of units; units already sent of the first; whether the frame in flight
  carries a unit (R98, R113). -/
  cmds     : List (List (BitVec 16))
  cmdPos   : Nat
  cmdFly   : Bool
  /-- Head register accesses that wait, and the one in progress. -/
  accq     : List HeadAccess
  acc      : Option HeadRun
  /-- Receiver alignment (R90): consecutive frames with SYNC 0b01, 64 when aligned, and consecutive ones without it. -/
  aln      : Nat
  lost     : Nat
  /-- Training: the control requests of the state still to be answered, the first one outstanding; downstream frames since it was sent,
  none before; times it was resent (R107, R108). -/
  req      : List CtrlReq
  wait     : Option Nat
  resends  : Nat
  /-- Its sequence number (R107), and the TFAIL code that a reply of this state has brought (R117). -/
  cseq     : BitVec 8
  tfail    : Nat
  /-- ALIGN (R116): attempts with too wide a spread; smallest, largest and summed round trip of the probes so far. -/
  spreads  : Nat
  pmin     : Nat
  pmax     : Nat
  psum     : Nat
  /-- LEAD_n as trained, in edge steps (R95). -/
  lead     : Nat
  /-- A head serial is held from a previous successful training (R119). -/
  known    : Option (BitVec 48)
  /-- HSRCk words read from the head in CONFIG (R261). -/
  hsrc     : List Word
  /-- The serial reported at the last enumeration differs from the held one (R119). -/
  newHead  : Bool
  /-- Channels latched in force-safe at the head as far as this unit commanded it (R120). -/
  held     : Nat
  /-- Running DIGEST of this unit's own frames, and whether a compare is skipped and until how many restarts (R343). -/
  digest   : BitVec 12
  digestOk : Bool
  skip     : Nat
  /-- DIGEST after the last windows, newest first. -/
  digs     : List (BitVec 12)
  /-- FCNT of the next upstream frame, adopted in LOCK (R115); none while none has been. -/
  rx       : Option (BitVec 8)
  /-- A first slip since LNK_EDGESLIP was last written has been reported (R134). -/
  slipSeen : Bool
  deriving DecidableEq, Repr

/-- The link injection in progress (R375): its link, path (upstream or not), operation, frames left to act on, frames
before it starts (counted from the next gait-frame boundary), and whether that boundary has passed. -/
structure LinkInj where
  link  : Nat
  up    : Bool
  op    : Nat
  n     : Nat
  left  : Nat
  start : Nat
  open_ : Bool
  /-- Frames kept back by reorder or delay, oldest first; none for a missing one. -/
  kept  : List (Option (BitVec 160))
  deriving DecidableEq, Repr

/-! ## Sample fabric (chapters 04, 06, 10) -/

/-- A calibrated sample as delivered (R185, R186): its value, whether it is stale, its nominal instant in edge steps,
and the distance to the next sample of a link source (0 for a local one). -/
structure Sample where
  v     : Int
  stale : Bool
  at_   : Nat
  gap   : Nat
  deriving DecidableEq, Repr

/-- A closed window: its value and whether it contains a stale sample (R186). -/
structure WinVal where
  v     : Int
  stale : Bool
  deriving DecidableEq, Repr

/-! ## Loop contexts (chapter 06) -/

/-- What the frame bank holds of a context (R155, R180, R187). -/
structure BankVal where
  out  : Int
  outv : Bool
  selv : Bool
  selk : Nat
  deriving DecidableEq, Repr

/-- A context beside its 512 bytes of context RAM. -/
structure CtxSt where
  /-- Output last released before it entered TETHERED, or the hand value with which a start tethers it (R70, R175); and the tether value
  last released since. -/
  hold  : Int
  tv    : Option Int
  /-- Shelf time at which the last run's release is complete, and the live output before it (R152, R162). -/
  relAt : Nat
  prev  : Int
  /-- The next run is an entry run with this y0 (R181). -/
  y0    : Option Int
  /-- The arm condition was true in the last run (R178). -/
  met   : Bool
  /-- A run read an uncorrectable word: DISABLED at the next turnover (R179). -/
  ecc   : Bool
  /-- What the frame bank holds of the context (R155). -/
  bank  : BankVal
  deriving DecidableEq, Repr

/-- A tick of a trace unit's source (R191): the values of the four channels, MONO and GFC. -/
structure TraceTick where
  vals : List Int
  mono : BitVec 64
  gfc  : BitVec 32
  deriving DecidableEq, Repr

/-- A trace unit beside its registers (R191 to R196). -/
structure TrcSt where
  /-- Ticks of the source whose sample is still to be written, oldest first (R191). -/
  ticks   : List TraceTick
  /-- The buffer: index, then the four channels, channel 0 in the low halfword. -/
  buf     : Cells 64
  /-- Index of the next sample, samples written since arming, samples after the trigger. -/
  next    : Nat
  count   : Nat
  post    : Nat
  /-- An earlier tick lay beyond the hysteresis of a crossing trigger, and no crossing has followed (R194). -/
  prim    : Bool
  /-- A sticky flag, an event or another unit's trigger seen since the last tick (R194 kinds 5 to 7). -/
  seen    : Bool
  /-- A STOP, and a FORCE, wait for the next tick (R194, R195). -/
  stopReq : Bool
  force   : Bool
  deriving DecidableEq, Repr

/-! ## Phases, stages and local PWM (chapter 07) -/

/-- A pulse placed for a phase (R200): start and length of its period and its edges. A pulse of a spur is fixed (R218), and a dead
period takes no pulse whatever is released: its turn-on was dropped (R213), or it starts in a spur (R218, R219). -/
structure Pulse where
  start : Nat
  len   : Nat
  on    : Option Nat
  off   : Option Nat
  spur  : Bool
  dead  : Bool
  deriving DecidableEq, Repr

/-- A stage period that has been formed (R213): its start, its length, and the re-spacing step in effect in it (R214). -/
structure StagePeriod where
  start : Nat
  len   : Nat
  m     : Nat
  deriving DecidableEq, Repr

/-- A phase beside its window registers. -/
structure PhSt where
  /-- Pulses placed and not yet past (R200). -/
  pulses : List Pulse
  /-- Recent period starts and turn-on edges, newest first (R185). -/
  starts : List Nat
  ons    : List Nat
  /-- The turn-on of the pulse under way, once it is committed (R226). -/
  onAt   : Option Nat
  /-- Re-spacing (R214): angle at its start and its target, and the angle in each of the last stage periods formed, by their starts,
  newest first. -/
  old    : Nat
  target : Nat
  angs   : List (Nat × Nat)
  /-- A REVIVE waits for the turnover (R223). -/
  revive : Bool
  deriving DecidableEq, Repr

/-- A stage beside its window registers. -/
structure StgSt where
  /-- Start of the next stage period to be formed, and the last ones formed, newest first (R213). -/
  next   : Nat
  formed : List StagePeriod
  /-- Dither pattern register (R203). -/
  r      : BitVec 16
  /-- Re-spacing step m, 0 when none is in progress, its length R, and the turnover it applies from (R214). -/
  rm     : Nat
  rlen   : Nat
  rfrom  : Nat
  /-- Commands of ST_CTL that wait for their turnover, in order (R211). -/
  cmd    : List Nat
  /-- The two previous tested deliveries of the voltage (R217). -/
  v1     : Option Int
  v2     : Option Int
  /-- Spur (R218, R219): T_s, the pulses it may still have (0 once a release has come), and T_e as it stands. -/
  ts     : Nat
  pulses : Nat
  te     : Option Nat
  /-- Release level, D_spur and LOCKOUT of the spur in progress, as they stood at its detection (R212). -/
  spRel  : Int
  spD    : Int
  spLock : Nat
  /-- The spur has ended and its entry runs wait for the next turnover; gait frames of lockout left. -/
  ended  : Bool
  lock   : Nat
  /-- Shelf functions: the active count that hardware requests and consecutive period starts below PMDROP (R249), fault-timer frames
  (R251), RESP of a decision. -/
  nreq   : Nat
  pmt    : Nat
  ft     : Nat
  resp   : Option Nat
  deriving DecidableEq, Repr

/-- What an output of a local channel does: its safe state, off or on (R205). -/
inductive OutLvl where
  | safe | off | on
  deriving DecidableEq, Repr

/-- A local PWM channel (R205): its edges in time order, its outputs, and the delayed transition of R97 (output A or
not, and when). -/
structure LocSt where
  /-- Edges placed, in time order (R202). -/
  edges : List Edge
  /-- Outputs A and B (R205). -/
  a     : OutLvl
  b     : OutLvl
  /-- The channel is on (R97). -/
  on    : Bool
  /-- The delayed transition of R97: output A or not, and when. -/
  due   : Option (Bool × Nat)
  /-- The dead time before the last change of PT_DT and the boundary of that change (R202). -/
  dt0   : Nat
  dtAt  : Nat
  deriving DecidableEq, Repr

/-! ## Feeders (chapter 09) -/

/-- A feeder beside its registers. -/
structure FdrSt where
  /-- Persistence count of the fast trip (R266). -/
  pers   : Nat
  /-- I²t accumulator (R269), power sum and modelled rise Rz (R270). -/
  acc    : Nat
  psum   : Int
  rz     : Int
  /-- Gait frames since entry into INRUSH (R265, R278). -/
  frames : Nat
  /-- Trackers: since enable, since snapshot, and the snapshot bank: peak current and minimum voltage (R277). -/
  peakE  : Int
  minE   : Int
  peakS  : Int
  minS   : Int
  peakB  : Int
  minB   : Int
  /-- The toggle of R275, or the follow-up of R276: shelf time of the turnover at which it started, while it runs. -/
  offAt  : Option Nat
  /-- MONO of the last trip decision (R274). -/
  tripAt : Option (BitVec 64)
  /-- A follow-up in progress (R276): 1 retry, 2 clear. -/
  follow : Nat
  /-- The enable was on and refused at the previous turnover (R262). -/
  refus  : Bool
  /-- Head registers (R263): values last taken over, writes due, writes outstanding, and whether one failed. -/
  sent   : Option (Word × Word × Word)
  dirty  : Bool
  writes : Nat
  hbad   : Bool
  deriving DecidableEq, Repr

/-! ## Shelf functions (chapter 08) -/

/-- A battery string beside its registers (R237 to R243). -/
structure StrSt where
  /-- Disconnected; gait frames since EOD was entered, for its turn-off; precharge frames left. -/
  disc   : Bool
  eodAt  : Option Nat
  preAt  : Option Nat
  /-- Contactor commands that wait for the link (R238): head channel and EV code. -/
  want   : List (Nat × Nat)
  /-- Turnovers with the charge current below ITERM (R242). -/
  term   : Nat
  deriving DecidableEq, Repr

/-- The decision buffer and window of a mailbox (R255 to R257). -/
structure MbSt where
  /-- Host-assisted since its first publication. -/
  active : Bool
  /-- A publication whose application point has not come, and whether a live restart has cut its window (R257). -/
  open_  : Bool
  lost   : Bool
  /-- The captured submission of this window: whether its DSEQ matched, and its words. -/
  sub    : Option (List Word)
  bad    : Bool
  /-- The decision in effect. -/
  dec    : Option (List Word)
  /-- Fault-list places that the last publication of function 4 shows, in MB_IN order (R363). -/
  pub    : List Nat
  deriving DecidableEq, Repr

/-- The shelf functions beside their registers. -/
structure ShfSt where
  /-- Outputs 0 to 27 of R233 as they stand, and as the turnover latched them for the frame (R152, R155). -/
  out    : Vector Int 28
  lat    : Vector Int 28
  /-- The hardware result for the module targets, computed under a decision too (R21, R235). -/
  hw     : Vector Int 16
  /-- Consecutive deliveries of each module input outside and inside its window (R234). -/
  inBad  : Vector Nat 16
  inGood : Vector Nat 16
  /-- Sharing is to be recomputed at the next turnover (R235). -/
  redo   : Bool
  /-- Consecutive period starts with low current (R236). -/
  shedN  : Nat
  /-- Bus droop count and finding (R239). -/
  droopN : Nat
  droop  : Bool
  /-- Turnovers with good inputs in DISCHARGE (R239); the cap of R239, and the q of the last turnover and of the one before (R240). -/
  goodN  : Nat
  qcap   : Int
  q      : Int
  qPrev  : Int
  /-- DISCHARGE was entered at this turnover (R239). -/
  entry  : Bool
  /-- Gait frames since the last entry into NORMAL (R242). -/
  normN  : Nat
  /-- Qualification counts (R252). -/
  qual   : Vector Nat 4
  /-- THROTTLE outputs by their levels alone, and the levels driven at their pins, none while high-impedance (R55, R247). -/
  thr    : Nat
  pins   : Vector (Option Bool) 8
  deriving DecidableEq, Repr

/-! ## Measurement (chapter 10) -/

/-- A statistics slot (R300) as it runs. -/
structure StatSt where
  count : Nat
  sum   : Int
  ssq   : Nat
  mn    : Int
  mx    : Int
  sat   : Bool
  spare : Bool
  mixed : Bool
  deriving DecidableEq, Repr

/-- A statistics slot as a snapshot holds it (R302). -/
structure StatSnap where
  s   : StatSt
  ep  : Word
  ep2 : Word
  deriving DecidableEq, Repr

/-- An energy accumulator (R301): E in units of 2^-96 mJ, the latest voltage, the instant of the previous current sample,
its flags, and the visible value at the last roll-up (R304). -/
structure EnSt where
  e       : Int
  v       : Option Int
  at_     : Option Nat
  sat     : Bool
  gap     : Bool
  restart : Bool
  mixed   : Bool
  base    : Int
  deriving DecidableEq, Repr

/-- A calibration record (R298) by its entry, epoch and coefficients, its WALL seconds and temperature, and its 64
bytes. -/
structure CalRec where
  entry : Nat
  epoch : Nat
  gain  : Word
  ofs   : Word
  tag   : List Word
  sec   : Nat
  temp  : Nat
  bytes : List Byte
  deriving DecidableEq, Repr

/-- The calibration procedure (R295) beside CAL_STAT: deliveries still to discard, averaged so far, their number and
sum, the zero, and the same of the spare path. -/
structure CalProc where
  skip  : Nat
  n     : Nat
  sum   : Int
  z     : Int
  skipS : Nat
  nS    : Nat
  sumS  : Int
  zS    : Int
  ref   : Int
  deriving DecidableEq, Repr

/-- The results of one path that a rotation check averages (R285): how many are still discarded, how many are summed, and the sum. -/
structure RotAvg where
  skip : Nat
  n    : Nat
  sum  : Int
  deriving DecidableEq, Repr

/-- A check begins: 4 results are discarded (R285). -/
def RotAvg.fresh : RotAvg := { skip := 4, n := 0, sum := 0 }

/-- A rotation step (R285, R286): which check of the phase runs, whether the spare test runs, whether an overlap check
failed, and whether a step is due; the averages of the own and the spare path. -/
structure RotSt where
  check : Nat
  spareTest : Bool
  overlapBad : Bool
  last  : Nat
  due   : Bool
  own   : RotAvg
  spare : RotAvg
  deriving DecidableEq, Repr

/-- A head source whose samples are stale because of a test (R291): `left` counts the upstream frames after the frame that carried TSRC
with level 0; it is none while a test level is on. -/
structure HeadTest where
  link : Nat
  src  : Nat
  left : Option Nat
  deriving DecidableEq, Repr

/-- The path tests (R290, R291): writes that wait for the boundary, the switched test DAC, the head sources under test, the entry that
TDRES shows, and its last test values. -/
structure TstSt where
  tdacReq : Option Word
  tdac    : Word
  htReq   : List Word
  hts     : List HeadTest
  shown   : Option Nat
  vals    : List Int
  deriving DecidableEq, Repr

/-- A routed action taken at an instant of MONO, with its target (R307). -/
structure RouteAct where
  at_ : BitVec 64
  act : Nat
  tgt : Nat
  deriving DecidableEq, Repr

/-- Local converters and monitors beside their registers. -/
structure MeasSt where
  /-- Results of a precision channel, or of the spare as 16, that are still stale (R284). -/
  pstale  : Vector Nat 17
  /-- The rotation of the spare (R285). -/
  rot     : RotSt
  /-- Next list entry of each sequencer, and whether a drop since OVR was written has been reported (R289). -/
  seqIdx  : Vector Nat 2
  seqSeen : Vector Bool 2
  /-- The path tests (R290, R291). -/
  tst     : TstSt
  /-- The calibration procedure (R295). -/
  cal     : CalProc
  /-- Calibration store: complete copies, and the records whose write has not completed (R297). -/
  store   : List CalRec
  calPend : List CalRec
  /-- Side of a window monitor's count: above (R306). -/
  wmUp    : Vector Bool 128
  /-- The routed actions of the present CK_CTL cycle (R307). -/
  acted   : List RouteAct
  /-- Comparator ticks since the last check, the next check (R311), and consecutive failed checks. -/
  cmpTick : Nat
  cmpChk  : Nat
  cmpFail : Vector Nat 16
  /-- Group results of the last roll-up: GPOS and GNEG (R304). -/
  gpos    : Vector Nat 8
  gneg    : Vector Nat 8
  deriving DecidableEq, Repr

/-! ## Housekeeping (chapter 11) -/

/-- Housekeeping beside its registers (R316 to R326). -/
structure HkSt where
  /-- First diode reading of the round, and the last value of each slot as delivered. -/
  vals   : Vector Int 24
  /-- T of the last rounds in which it was used, newest first (R322). -/
  hist   : List Int
  /-- T of this round is used, as decided at slot 12. -/
  used   : Bool
  /-- Consecutive rounds: diode implausible, above TJ_WARN, at most TJ_WARN - 8 K, above TJ_SHUT. -/
  badN   : Nat
  warnN  : Nat
  coolN  : Nat
  shutN  : Nat
  /-- Consecutive rounds with the short and the long rise exceeded, and not exceeded (R323). -/
  rateUp : Vector Nat 2
  rateDn : Vector Nat 2
  /-- Consecutive failures of each slot's check (R319), and rounds outside and inside its supply limits (R326). -/
  chkN   : Vector Nat 24
  outN   : Vector Nat 24
  inN    : Vector Nat 24
  deriving DecidableEq, Repr

/-! ## Commits (chapter 03) -/

/-- The commit in progress (R74 to R76): its groups, whether it is a DISCARD, and the boundaries still to pass. -/
structure CommitSt where
  groups  : Nat
  discard : Bool
  wait    : Nat
  deriving DecidableEq, Repr

/-- The outcome of the schedule checks (R160): the code of R78, the register and low bit, and LE_SCHERR; and the load of
the checked schedule. -/
structure SchedCheck where
  err  : Nat
  addr : Nat
  lo   : Nat
  scherr : Word
  load : Word
  deriving DecidableEq, Repr

/-! ## The pair (chapter 12) -/

/-- A planned swap in progress (R346): this unit is the outgoing one, its GFC, the acknowledgement or order, and the kind
as PAIR_LAST codes it for the outgoing unit. -/
structure SwapSt where
  out  : Bool
  gh   : Nat
  ok   : Bool
  kind : Nat
  deriving DecidableEq, Repr

/-- One lane of the tandem link (R331): scrambler and descrambler, the line bits sent in this link frame, and the receiver's frames in
alignment and out of it (R89, R90). -/
structure TdLane where
  scr  : BitVec 58
  dsc  : BitVec 58
  line : BitVec 160
  aln  : Nat
  lost : Nat
  deriving DecidableEq, Repr

/-- ALIGN of the tandem link (R332): PROBE frames still to send, those measured with the sum, the least and the largest of their arrivals in
edge steps, the spreads above 8 so far, the shift of the clock dividers in edge steps and whether it has been made, and the arrival that
ALIGN left. -/
structure TdAlign where
  left    : Nat
  n       : Nat
  sum     : Int
  mn      : Int
  mx      : Int
  spreads : Nat
  shift   : Int
  again   : Bool
  arr     : Int
  deriving DecidableEq, Repr

/-- The pair logic beside its registers (R331 to R349). -/
structure PairSt where
  /-- The content of lane 0 in this link frame, what waits for it, and the content of lane 1 (R331). -/
  tx      : TandemContent
  txq     : List TandemContent
  tx1     : TandemContent
  /-- The lanes, and the alignment of this unit with its partner (R331, R332). -/
  lanes   : Vector TdLane 2
  al      : TdAlign
  /-- A good frame has shown the partner's claim since the link was last down; the GFC and the claim of its last FRAME frame, and those of
  this unit's own latest FRAME frames (R337, R338). -/
  seen    : Bool
  frIn    : Option (Nat × BitVec 16)
  frOut   : List (Nat × BitVec 16)
  /-- A finding of R337 made since the last boundary. -/
  found   : Option Nat
  /-- The configuration image that the active unit has captured and sends (R341). -/
  img     : Option SyncImage
  /-- The partner's last STAT (R331). -/
  partner : Option PartnerStat
  /-- Consecutive bad or missing frames of each lane. -/
  bad     : Vector Nat 2
  /-- Commits applied since reset or since the configuration image (R334). -/
  epoch   : Nat
  /-- Gait frames for which the claim without ACTIVE has been sent since READY (R338). -/
  waited  : Nat
  /-- A finding of R337 with which this boundary takes ACTIVE: its number; 9 for an outgoing unit whose swap did not take place (R346). -/
  finding : Option Nat
  /-- FRAME frames of consecutive gait frames without ACTIVE from the partner (R337). -/
  noAct   : Nat
  /-- Consecutive good frames of each link whose OBEY names this unit's port, and the partner's (R337, R340). -/
  obeyOwn  : Vector Nat 16
  obeyPart : Vector Nat 16
  /-- Claim wire deasserted for 100 ms without a break (R338). -/
  claimOk : Bool
  /-- The wait of 4 ms for the tandem link has ended and the rein links train on this unit's own timeline (R333). -/
  waitDone : Bool
  /-- Items forwarded to this standby, with the GFC at which each applies (R345). -/
  fwd     : List (Nat × FwdItem)
  /-- The configuration image received in CONFIG (R341). -/
  image   : Option SyncImage
  /-- The planned swap in progress (R346). -/
  swap    : Option SwapSt
  /-- A remount dwell is running, and a mismatch has been seen in it; the swap back has been ordered. -/
  dwell   : Bool
  dwellMm : Bool
  back    : Bool
  /-- A remount waits for the token (R347). -/
  remWait : Bool
  /-- MONO at which the remount timer expires. -/
  remAt   : Option (BitVec 64)
  /-- MONO at the end of the last resolution (R344), and this unit's test of the resolution. -/
  resEnd  : Option (BitVec 64)
  resTest : Bool
  /-- Links for which PAIR_HEADSPLIT has been raised (R345). -/
  split   : Nat
  /-- ACT of a token request that crosses the tandem link (R349). -/
  tokAct  : Nat
  /-- The tack images of the two units differ (R341): the claim is held at zero. -/
  mism    : Bool
  /-- Aligned, and the partner's GFC, FCNT and gait-frame phase are still to be loaded (R332). -/
  load    : Bool
  deriving DecidableEq, Repr

/-! ## Events, faults and records (chapters 13, 14) -/

/-- A time stamp: MONO, WALL seconds, WALL nanoseconds and TIM_WALLSTAT.VALID (R393). -/
structure Stamp where
  mono : BitVec 64
  sec  : Nat
  ns   : Nat
  wv   : Bool
  deriving DecidableEq, Repr

/-- An event: its source, its number within the source (R462) and its instance. -/
structure Ev where
  src  : Nat
  k    : Nat
  inst : Nat
  deriving DecidableEq, Repr

/-- An event pulse that waits in crossing 3 of R44. -/
structure EvPulse where
  ev     : Ev
  detail : List Byte
  stamp  : Stamp
  inj    : Bool
  fwd    : Bool
  deriving DecidableEq, Repr

/-- A fault message as the fields of R355, before packing. -/
structure FltMsg where
  src  : Nat
  kind : Nat
  cls  : Nat
  sev  : Nat
  inst : Nat
  addr : Nat
  /-- MONO of the decision: messages of one CK_CTL cycle arrive together (R356). -/
  mono : BitVec 64
  /-- Injected (R378), and forwarded (R345). -/
  inj  : Bool
  fwd  : Bool
  deriving DecidableEq, Repr

/-- An entry of the fault list (R361, R380). -/
structure FltEntry where
  msg     : FltMsg
  /-- Kind index (R357). -/
  kidx    : Nat
  /-- Scope code and item (R359). -/
  scope   : Nat
  item    : Nat
  /-- GFC and MONO of the classification. -/
  gfc     : BitVec 32
  mono    : BitVec 64
  /-- 1 ACTIVE, 2 DONE, 3 RELEASED. -/
  st      : Nat
  /-- The follow-up made (MADE of R380), and whether a host decided it. -/
  made    : Nat
  byHost  : Bool
  /-- Retries made, the follow-up, and the kind's delay and limit as of the entry (R361, R362). -/
  retries : Nat
  follow  : Nat
  rdly    : Nat
  rmax    : Nat
  deriving DecidableEq, Repr

/-- The fault collector (R355 to R367) and the unlock sequence of the injection block (R374). -/
structure FltSt where
  /-- Messages in the collector's input queue (R356), in the order of classification. -/
  inq      : List FltMsg
  /-- The fault list (R361). -/
  list     : List (Option FltEntry)
  /-- Retry counts of items: scope code, item, count, and the MONO from which the item's second without a new entry
  is counted (R362). -/
  retries  : List (Nat × Nat × Nat)
  /-- Stages whose retry START is due at the next turnover (R362). -/
  startDue : List Nat
  /-- The second of MONO in which each kind was last recorded (R364). -/
  recSec   : List (Nat × Nat)
  /-- Messages of each kind suppressed since its last record (R364). -/
  supp     : List (Nat × Nat)
  /-- MONO of the latest fatal reaction of this unit (R324). -/
  fatalAt  : Option (BitVec 64)
  /-- tFLT_MIN is running (R366). -/
  minRun   : Bool
  /-- The injection block's unlock (R374): MONO at which the first key was written, while the next write may be the
  second. -/
  injKey   : Option (BitVec 64)
  /-- FLT_LIFECON as the non-volatile array holds it, and the MONO of its last write (R400). -/
  lifeNv   : Nat
  lifeAt   : Option (BitVec 64)
  deriving DecidableEq, Repr

/-- A record before it is stored (R385). -/
structure Rec where
  kind    : Nat
  sev     : Nat
  inj     : Bool
  fwd     : Bool
  src     : Nat
  stamp   : Stamp
  payload : List Byte
  /-- The saddlebag slots whose staged snapshot belongs to the record's happening, each with the MONO of that snapshot (R396). -/
  snaps   : List (Nat × BitVec 64) := []
  deriving DecidableEq, Repr

/-- A stored record: its SEQ and whether it has been mirrored (R388, R391). -/
structure StoredRec where
  r   : Rec
  seq : Nat
  mir : Bool
  deriving DecidableEq, Repr

/-- The record selection of one requester (R394). -/
structure RecSel where
  /-- The selected record's words as they stood at the selection; empty when none is selected. -/
  words : List Word
  /-- Its SEQ, and whether it comes from the log. -/
  seq   : Nat
  log   : Bool
  /-- A selection has been requested and is not yet made. -/
  want  : Option (Nat × Bool)
  deriving DecidableEq, Repr

/-- The event recorder (R387 to R394). -/
structure EvrSt where
  /-- Records offered and not yet in the input queue. -/
  offers : List Rec
  /-- The input queue (R388), oldest first. -/
  queue  : List Rec
  /-- The ring, in the order stored. -/
  ring   : List StoredRec
  /-- The non-volatile log. -/
  log    : List StoredRec
  /-- High-water value H of R389 (non-volatile). -/
  high   : Nat
  /-- SEQs of the records due for mirroring that are lost to the log and not yet named by a GAP record, ascending (R392). -/
  gap    : List Nat
  /-- The selection of each requester (R394). -/
  sel    : Vector RecSel 3
  /-- 128-bit words written to the log since it was made (EVR_NVWEAR). -/
  logWrites : Nat
  deriving DecidableEq, Repr

/-- A snapshot taken for a saddlebag slot (R395 to R397). -/
structure Snap where
  slot    : Nat
  payload : List Byte
  ponCnt  : Word
  seq     : Nat
  stamp   : Stamp
  inj     : Bool
  fwd     : Bool
  /-- Taken at a fatal classification or at thermal shutdown: the once-a-second limit is waived. -/
  urgent  : Bool
  deriving DecidableEq, Repr

/-- One copy of a saddlebag slot: its GEN and its bytes (R396). -/
structure SbgCopy where
  gen   : Nat
  bytes : List Byte
  deriving DecidableEq, Repr

/-- A saddlebag slot (R395 to R397). -/
structure SbgSlot where
  copyA  : Option SbgCopy
  copyB  : Option SbgCopy
  full   : Bool
  count  : Nat
  bad    : Bool
  staged : Option Snap
  /-- MONO of the slot's last write. -/
  last   : Option (BitVec 64)
  deriving DecidableEq, Repr

/-- A memory word that holds inverted bits (R368, R376): region code, byte address of the 128-bit word, the inverted
bit positions. -/
structure EccFlip where
  region : Nat
  addr   : Nat
  bits   : List Nat
  deriving DecidableEq, Repr

/-- Memory protection (R368, R369) and the armed injections (R375 to R377). -/
structure EccSt where
  flips    : List EccFlip
  /-- Words that a scrub corrected in the pass before this one, and in this one. -/
  lastPass : List (Nat × Nat)
  thisPass : List (Nat × Nat)
  deriving DecidableEq, Repr

end Sys2Proof.Machine
end

