-- ==== Sys2Proof/Machine/Frame.lean ====
section
/-!
DEFINITION. Rein-link frames bit by bit: scrambler, CRC-16, DIGEST, inverted form and reflex words (R88 to R94, R98,
R99, R103, R109 to R111). Frame bit `b` is bit `159 - b` of the vector, so fields read in line order.
-/

namespace Sys2Proof.Machine

/-- Frame bit `b`, numbered from the first bit on the line (R88). -/
def fbit (f : BitVec 160) (b : Nat) : Bool := f.getLsbD (159 - b)

/-- Frame field: bits `a` to `b` in line order, most significant first. -/
def ffield (f : BitVec 160) (a b : Nat) : Nat := (f.extractLsb' (159 - b) (b + 1 - a)).toNat

/-- Scramble the `n` bits of `f` that begin at frame bit `b` (R89). -/
def scrambleFrom (f : BitVec 160) : Nat → Nat → BitVec 58 → BitVec 160 → BitVec 160 × BitVec 58
  | 0, _, r, out => (out, r)
  | n + 1, b, r, out =>
    let o := fbit f b ^^ r.getLsbD 38 ^^ r.getLsbD 57
    scrambleFrom f n (b + 1) ((r <<< 1) ||| BitVec.ofNat 58 (o.toNat))
      (out ||| (BitVec.ofNat 160 o.toNat <<< (159 - b)))

/-- A frame on the line: SYNC as it is, bits 2 to 159 scrambled (R89). -/
def scramble (f : BitVec 160) (r : BitVec 58) : BitVec 160 × BitVec 58 :=
  scrambleFrom f 158 2 r (f &&& (BitVec.ofNat 160 3 <<< 158))

/-- Descramble the `n` bits of `f` that begin at frame bit `b` (R89). -/
def descrambleFrom (f : BitVec 160) : Nat → Nat → BitVec 58 → BitVec 160 → BitVec 160 × BitVec 58
  | 0, _, r, out => (out, r)
  | n + 1, b, r, out =>
    let d := fbit f b ^^ r.getLsbD 38 ^^ r.getLsbD 57
    descrambleFrom f n (b + 1) ((r <<< 1) ||| BitVec.ofNat 58 (fbit f b).toNat)
      (out ||| (BitVec.ofNat 160 d.toNat <<< (159 - b)))

/-- The frame behind line bits (R89). -/
def descramble (f : BitVec 160) (r : BitVec 58) : BitVec 160 × BitVec 58 :=
  descrambleFrom f 158 2 r (f &&& (BitVec.ofNat 160 3 <<< 158))

/-- One bit into a CRC of width `w` (R91, R103). -/
def crcBit {w : Nat} (poly crc : BitVec w) (b : Bool) : BitVec w :=
  if crc.getLsbD (w - 1) ^^ b then (crc <<< 1) ^^^ poly else crc <<< 1

/-- The CRC over `n` frame bits from bit `b`. -/
def crcFrom {w : Nat} (poly : BitVec w) (f : BitVec 160) : Nat → Nat → BitVec w → BitVec w
  | 0, _, crc => crc
  | n + 1, b, crc => crcFrom poly f n (b + 1) (crcBit poly crc (fbit f b))

/-- CRC-16 over frame bits 2 to 143 in true form (R91). -/
def frameCrc (f : BitVec 160) : BitVec 16 := crcFrom (0x1021 : BitVec 16) f 142 2 0xFFFF

/-- The frame with its CRC field filled (R91). -/
def withCrc (f : BitVec 160) : BitVec 160 :=
  ((f >>> 16) <<< 16) ||| (frameCrc f).setWidth 160

/-- The inverted form of a downstream frame: TYPE bit 3 set, CRC over TYPE as sent, bits 4 to 159 complemented
(R92). -/
def invertForm (f : BitVec 160) : BitVec 160 :=
  withCrc (f ||| (1 <<< 156)) ^^^ (BitVec.allOnes 160 >>> 4)

/-- Whether 32 line bits are a reflex word (R109). -/
def isReflex (w : BitVec 32) : Bool :=
  w.extractLsb' 16 16 == 0xF3A1 && w.extractLsb' 14 2 == 1 &&
    w.extractLsb' 0 4 == (w.extractLsb' 12 4 ^^^ w.extractLsb' 8 4 ^^^ w.extractLsb' 4 4)

/-- The reflex word of an action and a channel mask (R109). -/
def reflexWord (act mask : Nat) : BitVec 32 :=
  let hi : BitVec 16 := BitVec.ofNat 16 (0x4000 + act % 4 * 4096 + mask % 256 * 16)
  let chk := hi.extractLsb' 12 4 ^^^ hi.extractLsb' 8 4 ^^^ hi.extractLsb' 4 4
  (0xF3A1 : BitVec 16) ++ (hi ||| chk.setWidth 16)

/-- Whether a reflex word appears at a 16-bit boundary of a frame, the last 16 bits before it included (R111). -/
def hasReflex (tail : BitVec 16) (line : BitVec 160) : Bool :=
  let v := tail ++ line
  (List.range 10).any (fun i => isReflex (v.extractLsb' (16 * (9 - i)) 32))

/-- A downstream data frame without its CRC (R93). -/
def downFrame (claim : BitVec 16) (fcnt : BitVec 8) (e : Vector (BitVec 20) 5) (cmd : BitVec 16) : BitVec 160 :=
  (1 : BitVec 2) ++ (0 : BitVec 2) ++ claim ++ fcnt ++ e[0] ++ e[1] ++ e[2] ++ e[3] ++ e[4] ++ cmd ++ (0 : BitVec 16)

/-- A downstream control frame without its CRC (R106). -/
def ctrlFrame (claim : BitVec 16) (fcnt ckind cseq : BitVec 8) (payload : BitVec 96) : BitVec 160 :=
  (1 : BitVec 2) ++ (2 : BitVec 2) ++ claim ++ fcnt ++ ckind ++ cseq ++ payload ++ (0 : BitVec 4) ++ (0 : BitVec 16)

/-- A tandem frame without its CRC (R331). -/
def tandemFrame (claim : BitVec 16) (fcnt : BitVec 8) (kind : BitVec 4) (payload : BitVec 112) : BitVec 160 :=
  (1 : BitVec 2) ++ (0 : BitVec 2) ++ claim ++ fcnt ++ kind ++ payload ++ (0 : BitVec 16)

/-- PAYLOAD of a FRAME frame (R331). -/
def framePayload (gfc sec ns len : Nat) : BitVec 112 :=
  BitVec.ofNat 32 gfc ++ BitVec.ofNat 48 sec ++ BitVec.ofNat 30 ns ++ BitVec.ofNat 2 len

/-- A tandem frame is good: SYNC, TYPE, CRC, and a KIND that is not reserved (R331). -/
def tandemGood (f : BitVec 160) : Bool :=
  ffield f 0 1 == 1 && ffield f 2 3 == 0 && ffield f 28 31 < 8 && (frameCrc f).toNat == ffield f 144 159

/-- Receiver alignment (R90): declared after 64 consecutive frames with SYNC 0b01, lost after 16 consecutive ones without it. -/
def noteSync (aln lost : Nat) (ok : Bool) : Nat × Nat :=
  if ok then (min (aln + 1) 64, 0)
  else (if aln = 64 && min (lost + 1) 16 < 16 then 64 else 0, min (lost + 1) 16)

/-- An edge word (R94). -/
def edgeWord (ph ev t : Nat) : BitVec 20 :=
  BitVec.ofNat 3 ph ++ BitVec.ofNat 2 ev ++ BitVec.ofNat 12 t ++ (0 : BitVec 3)

/-- How a frame goes out (R111): 0 normal, 1 inverted, 2 with SYNC 0b00. -/
structure Sent where
  line : BitVec 160
  scr  : BitVec 58
  how  : Nat
  deriving DecidableEq, Repr

/-- Choose between the normal form `f` and the inverted form `i` of a downstream frame, and scramble it (R111). -/
def sendForm (f i : BitVec 160) (tail : BitVec 16) (scr : BitVec 58) : Sent :=
  let n := scramble f scr
  if !hasReflex tail n.1 then { line := n.1, scr := n.2, how := 0 }
  else
    let i := scramble i scr
    if !hasReflex tail i.1 then { line := i.1, scr := i.2, how := 1 }
    else { line := (n.1 <<< 2) >>> 2, scr := n.2, how := 2 }

/-- The scrambler state after the first `k` line bits of a frame; SYNC does not enter it (R89). -/
def scrAfter (line : BitVec 160) (k : Nat) (r : BitVec 58) : BitVec 58 :=
  (List.range (k - 2)).foldl (fun r i => (r <<< 1) ||| BitVec.ofNat 58 (fbit line (i + 2)).toNat) r

/-! ## Reflex words on the line (R109, R110) -/

/-- The cell at which the word of a decision starts: the first 16-bit boundary after CK_CTL cycle `c` of the frame (4 line bits a
cycle), or, where words are under way, the end of the last one's current copy; its repetition ends with the frame (R110). -/
def reflexStart (c : Nat) (rs : List Rfx) : Nat :=
  let b := c / 4 + 2
  match rs.getLast? with
  | none => b
  | some l =>
    let x := l.at_ + 2 * max 1 ((b - l.at_ + 1) / 2)
    if l.at_ < 10 && 11 < x then 11 else x

/-- Merge a decision of cycle `c` into a word with the same ACT whose first bit is not yet sent (R110). -/
def mergeReflex (c act mask : Nat) : List Rfx → Option (List Rfx)
  | [] => none
  | r :: rs =>
    if r.act = act && c / 4 + 2 ≤ r.at_ then some ({ r with mask := r.mask ||| mask } :: rs)
    else (mergeReflex c act mask rs).map (r :: ·)

/-- What stands in cell `c` of a frame, `own` where no reflex word does: the halves of the last word begun, repeated; a final cell
that holds no whole copy is 0x0000 (R110). -/
def reflexCell (rs : List Rfx) (c : Nat) (own : BitVec 16) : BitVec 16 :=
  match (rs.filter (fun r => r.at_ ≤ c)).getLast? with
  | none => own
  | some r =>
    let w := reflexWord r.act r.mask
    if (c - r.at_) % 2 = 1 then w.extractLsb' 0 16
    else if c = 10 && r.at_ < 10 then 0 else w.extractLsb' 16 16

/-- The line bits of a frame into which these words are inserted (R110). -/
def reflexLine (rs : List Rfx) (line : BitVec 160) : BitVec 160 :=
  (List.range 10).foldl (fun l i =>
    let k := 16 * (9 - i)
    l ||| ((reflexCell rs (i + 1) (line.extractLsb' k 16)).setWidth 160 <<< k)) 0

/-! ## Upstream frames (R90 to R92, R99, R106) -/

/-- An upstream frame with a good SYNC, TYPE and CRC (R90 to R92). -/
def upFrameGood (f : BitVec 160) : Bool :=
  ffield f 0 1 == 1 && (ffield f 2 3 == 0 || ffield f 2 3 == 2) && (frameCrc f == BitVec.ofNat 16 (ffield f 144 159))

/-- FCNT and STATUS of an upstream frame (R99, R106). -/
def upFcnt (f : BitVec 160) : BitVec 8 := BitVec.ofNat 8 (ffield f 12 19)
def upStatus (f : BitVec 160) : Nat := ffield f 4 11

/-- The fields of an upstream control frame after FCNT (R106). -/
structure UpCtrl where
  rkind   : Nat
  rseq    : BitVec 8
  payload : BitVec 96
  digest  : BitVec 12
  deriving DecidableEq, Repr

/-- The upstream control frame behind 160 bits (R106). -/
def upCtrl (f : BitVec 160) : UpCtrl :=
  { rkind := ffield f 20 27, rseq := BitVec.ofNat 8 (ffield f 28 35), payload := f.extractLsb' 28 96, digest := f.extractLsb' 16 12 }

/-- DIGEST after a window whose accepted frame is `f`: FCNT, E0 to E4 and CMD, 124 bits (R103). -/
def digestStep (f : BitVec 160) (d : BitVec 12) : BitVec 12 :=
  crcFrom (0x80F : BitVec 12) f 124 20 (if ffield f 20 27 = 0 then 0xFFF else d)

end Sys2Proof.Machine
end

