-- ==== Sys2Proof/Machine/EventCodes.lean ====
section
/-!
DEFINITION. The events of the part by name: source and number within the source, as the tables of R134, R166, R198,
R230, R260, R283, R315, R329, R354, R373, R427 and R450 give them. `i` is the instance.
-/

namespace Sys2Proof.Machine.E

abbrev CLK_CFG (i : Nat) : Ev := ⟨0, 0, i⟩
abbrev WALL_REFUSED (i : Nat) : Ev := ⟨0, 1, i⟩
abbrev CDC_OVERFLOW (i : Nat) : Ev := ⟨1, 0, i⟩
abbrev CDC_FLUSH (i : Nat) : Ev := ⟨1, 1, i⟩
abbrev CAP_OVERRUN (i : Nat) : Ev := ⟨2, 0, i⟩
abbrev SHD_LOCKED (i : Nat) : Ev := ⟨3, 0, i⟩
abbrev SOFTSTART_TIMEOUT (i : Nat) : Ev := ⟨3, 1, i⟩
abbrev UPD_BUSY (i : Nat) : Ev := ⟨4, 0, i⟩
abbrev UPD_DONE (i : Nat) : Ev := ⟨5, 0, i⟩
abbrev UPD_ERR (i : Nat) : Ev := ⟨5, 1, i⟩
abbrev UPD_EXPIRED (i : Nat) : Ev := ⟨6, 0, i⟩
abbrev FW_ACTIVATED (i : Nat) : Ev := ⟨7, 0, i⟩
abbrev FW_CONFIRMED (i : Nat) : Ev := ⟨7, 1, i⟩
abbrev FW_FALLBACK (i : Nat) : Ev := ⟨8, 0, i⟩
abbrev FW_CONFIRM_TIMEOUT (i : Nat) : Ev := ⟨8, 1, i⟩
abbrev SETTINGS_UNREADABLE (i : Nat) : Ev := ⟨9, 0, i⟩
abbrev SETTINGS_OLDER (i : Nat) : Ev := ⟨9, 1, i⟩
abbrev ARB_RAISED (i : Nat) : Ev := ⟨10, 0, i⟩
abbrev TACK_STAGED (i : Nat) : Ev := ⟨11, 0, i⟩
abbrev HOST_PEC_ERR (i : Nat) : Ev := ⟨24, 0, i⟩
abbrev HOST_TIMEOUT (i : Nat) : Ev := ⟨25, 0, i⟩
abbrev HOST_BUSY (i : Nat) : Ev := ⟨26, 0, i⟩
abbrev HOST_PARTIAL (i : Nat) : Ev := ⟨27, 0, i⟩
abbrev RSV_WRITE (i : Nat) : Ev := ⟨27, 1, i⟩
abbrev HOST_ARBLOST (i : Nat) : Ev := ⟨28, 0, i⟩
abbrev FLT_CORRECTED (i : Nat) : Ev := ⟨32, 0, i⟩
abbrev FLT_CONTAINED (i : Nat) : Ev := ⟨33, 0, i⟩
abbrev FLT_FATAL (i : Nat) : Ev := ⟨34, 0, i⟩
abbrev FLT_OVERFLOW (i : Nat) : Ev := ⟨35, 0, i⟩
abbrev ECC_HARD (i : Nat) : Ev := ⟨36, 0, i⟩
abbrev FLT_RETRY (i : Nat) : Ev := ⟨37, 0, i⟩
abbrev FLT_RETRY_LIMIT (i : Nat) : Ev := ⟨37, 1, i⟩
abbrev INJ_UNLOCKED (i : Nat) : Ev := ⟨38, 0, i⟩
abbrev INJ_APPLIED (i : Nat) : Ev := ⟨38, 1, i⟩
abbrev TAKEOVER (i : Nat) : Ev := ⟨48, 0, i⟩
abbrev TAKEOVER_UNSYNCED (i : Nat) : Ev := ⟨48, 1, i⟩
abbrev DUAL_ACTIVE (i : Nat) : Ev := ⟨48, 2, i⟩
abbrev CLAIM_WIRE (i : Nat) : Ev := ⟨48, 3, i⟩
abbrev ROLE_SWAP (i : Nat) : Ev := ⟨49, 0, i⟩
abbrev ROLE_SWAP_FAIL (i : Nat) : Ev := ⟨49, 1, i⟩
abbrev REMOUNT_SKIPPED (i : Nat) : Ev := ⟨49, 2, i⟩
abbrev PAIR_SYNCED (i : Nat) : Ev := ⟨50, 0, i⟩
abbrev SYNC_FAIL (i : Nat) : Ev := ⟨50, 1, i⟩
abbrev PAIR_TACK_MISMATCH (i : Nat) : Ev := ⟨50, 2, i⟩
abbrev SHADOW_MISMATCH (i : Nat) : Ev := ⟨51, 0, i⟩
abbrev SUSPECT (i : Nat) : Ev := ⟨51, 1, i⟩
abbrev PAIR_HEADSPLIT (i : Nat) : Ev := ⟨51, 2, i⟩
abbrev TANDEM_DOWN (i : Nat) : Ev := ⟨52, 0, i⟩
abbrev TANDEM_LANE (i : Nat) : Ev := ⟨52, 1, i⟩
abbrev PAIR_DRIFT (i : Nat) : Ev := ⟨52, 2, i⟩
abbrev MAINT_BUSY (i : Nat) : Ev := ⟨53, 0, i⟩
abbrev MAINT_EXPIRED (i : Nat) : Ev := ⟨53, 1, i⟩
abbrev LINK_UP (i : Nat) : Ev := ⟨64 + 2 * i, 0, i⟩
abbrev LINK_DOWN (i : Nat) : Ev := ⟨64 + 2 * i, 1, i⟩
abbrev LINK_TRAIN_FAIL (i : Nat) : Ev := ⟨64 + 2 * i, 2, i⟩
abbrev HEAD_MISMATCH (i : Nat) : Ev := ⟨64 + 2 * i, 3, i⟩
abbrev HEAD_CHANGED (i : Nat) : Ev := ⟨64 + 2 * i, 4, i⟩
abbrev LINK_DRIFT (i : Nat) : Ev := ⟨65 + 2 * i, 0, i⟩
abbrev EDGE_SLIP (i : Nat) : Ev := ⟨65 + 2 * i, 1, i⟩
abbrev HREG_FAIL (i : Nat) : Ev := ⟨65 + 2 * i, 2, i⟩
abbrev LE_FLAG (i : Nat) : Ev := ⟨96, 0, i⟩
abbrev LSTEST_DONE (i : Nat) : Ev := ⟨97, 0, i⟩
abbrev TRACE_TRIG (i : Nat) : Ev := ⟨98, 0, i⟩
abbrev TRACE_DONE (i : Nat) : Ev := ⟨98, 1, i⟩
abbrev TRACE_FROZEN (i : Nat) : Ev := ⟨98, 2, i⟩
abbrev CTX_RUNNING (i : Nat) : Ev := ⟨99, 0, i⟩
abbrev HANDOVER_DONE (i : Nat) : Ev := ⟨99, 1, i⟩
abbrev HANDOVER_STEP (i : Nat) : Ev := ⟨99, 2, i⟩
abbrev CTX_REFUSED (i : Nat) : Ev := ⟨99, 3, i⟩
abbrev PWM_KILL (i : Nat) : Ev := ⟨100, 0, i⟩
abbrev STAGE_START (i : Nat) : Ev := ⟨101, 0, i⟩
abbrev STAGE_RUN (i : Nat) : Ev := ⟨101, 1, i⟩
abbrev STAGE_OFF (i : Nat) : Ev := ⟨101, 2, i⟩
abbrev STAGE_SAFE (i : Nat) : Ev := ⟨101, 3, i⟩
abbrev START_REFUSED (i : Nat) : Ev := ⟨101, 4, i⟩
abbrev SPUR_START (i : Nat) : Ev := ⟨102, 0, i⟩
abbrev SPUR_END (i : Nat) : Ev := ⟨102, 1, i⟩
abbrev PHASE_FAILED (i : Nat) : Ev := ⟨103, 0, i⟩
abbrev STAGE_CAPREQ (i : Nat) : Ev := ⟨103, 1, i⟩
abbrev RESPACE_DONE (i : Nat) : Ev := ⟨103, 2, i⟩
abbrev FEEDER_ON (i : Nat) : Ev := ⟨128 + i, 0, i⟩
abbrev FEEDER_OFF (i : Nat) : Ev := ⟨128 + i, 1, i⟩
abbrev FEEDER_TRIP (i : Nat) : Ev := ⟨128 + i, 2, i⟩
abbrev FEEDER_REFUSED (i : Nat) : Ev := ⟨128 + i, 3, i⟩
abbrev FEEDER_BACKSTOP (i : Nat) : Ev := ⟨128 + i, 4, i⟩
abbrev MODULE_SHED (i : Nat) : Ev := ⟨192, 0, i⟩
abbrev MODULE_ADDED (i : Nat) : Ev := ⟨192, 1, i⟩
abbrev HOLDUP_START (i : Nat) : Ev := ⟨193, 0, i⟩
abbrev HOLDUP_END (i : Nat) : Ev := ⟨193, 1, i⟩
abbrev BATT_EOD (i : Nat) : Ev := ⟨194, 0, i⟩
abbrev BATT_EXHAUSTED (i : Nat) : Ev := ⟨194, 1, i⟩
abbrev HOLDUP_LOW (i : Nat) : Ev := ⟨195, 0, i⟩
abbrev PEAK_SHAVE_START (i : Nat) : Ev := ⟨196, 0, i⟩
abbrev PEAK_SHAVE_END (i : Nat) : Ev := ⟨196, 1, i⟩
abbrev CAP_ACTIVE (i : Nat) : Ev := ⟨197, 0, i⟩
abbrev CAP_CLEAR (i : Nat) : Ev := ⟨197, 1, i⟩
abbrev PG_ASSERT (i : Nat) : Ev := ⟨198, 0, i⟩
abbrev PG_DEASSERT (i : Nat) : Ev := ⟨198, 1, i⟩
abbrev FAULT_TIMER_START (i : Nat) : Ev := ⟨199, 0, i⟩
abbrev MB_PUBLISH (i : Nat) : Ev := ⟨200 + i, 0, i⟩
abbrev SHF_FALLBACK (i : Nat) : Ev := ⟨200 + i, 1, i⟩
abbrev ADC_OVERRUN (i : Nat) : Ev := ⟨224, 0, i⟩
abbrev SPARE_FAIL (i : Nat) : Ev := ⟨225, 0, i⟩
abbrev PATH_PARKED (i : Nat) : Ev := ⟨225, 1, i⟩
abbrev CAL_MISMATCH (i : Nat) : Ev := ⟨225, 2, i⟩
abbrev CAL_DONE (i : Nat) : Ev := ⟨226, 0, i⟩
abbrev CAL_ERR (i : Nat) : Ev := ⟨226, 1, i⟩
abbrev CAL_APPLIED (i : Nat) : Ev := ⟨226, 2, i⟩
abbrev SNAP_DONE (i : Nat) : Ev := ⟨227, 0, i⟩
abbrev SNAP_REFUSED (i : Nat) : Ev := ⟨227, 1, i⟩
abbrev TEST_REFUSED (i : Nat) : Ev := ⟨228, 0, i⟩
abbrev WMON_HIGH (i : Nat) : Ev := ⟨229, 0, i⟩
abbrev WMON_LOW (i : Nat) : Ev := ⟨229, 1, i⟩
abbrev WMON_CLEAR (i : Nat) : Ev := ⟨229, 2, i⟩
abbrev CMP_CHANGE (i : Nat) : Ev := ⟨230, 0, i⟩
abbrev CMP_FAILED (i : Nat) : Ev := ⟨230, 1, i⟩
abbrev THERM_WARN (i : Nat) : Ev := ⟨231, 0, i⟩
abbrev THERM_WARN_CLEAR (i : Nat) : Ev := ⟨231, 1, i⟩
abbrev THERM_RATE (i : Nat) : Ev := ⟨232, 0, i⟩
abbrev SUPPLY_WARN (i : Nat) : Ev := ⟨233, 0, i⟩

end Sys2Proof.Machine.E
end

