-- ==== Sys2Proof/Machine/Reg.lean ====
section
/-!
DEFINITION. The places of the registers in the register store, one name per register of the spec's register tables.
A register at a fixed address has that address as its key. The entries behind an index register (a phase, a stage, a
calibration entry ...) have keys above 0xFFFF, one per entry: the window address of R163, R226 to R227, R258, R312 to
R314, R327, R379 and R381 is turned into that key by `keyOf` (Operands.lean) with the requester's index (R405).
The rule named after each is the one whose table gives the register.
-/

namespace Sys2Proof.Machine.Reg

abbrev TIM_CLKSTAT : Nat := 0x100  -- R48
abbrev TIM_CLKCFG : Nat := 0x104  -- R48
abbrev TIM_GAIT : Nat := 0x108  -- R48
abbrev TIM_GFC : Nat := 0x10C  -- R48
abbrev TIM_MONO_LO : Nat := 0x110  -- R48
abbrev TIM_MONO_HI : Nat := 0x114  -- R48
abbrev TIM_WALL_NS : Nat := 0x118  -- R48
abbrev TIM_WALL_SLO : Nat := 0x11C  -- R48
abbrev TIM_WALL_SHI : Nat := 0x120  -- R48
abbrev TIM_WSET_NS : Nat := 0x124  -- R48
abbrev TIM_WSET_SLO : Nat := 0x128  -- R48
abbrev TIM_WSET_SHI : Nat := 0x12C  -- R48
abbrev TIM_WALLCTL : Nat := 0x130  -- R48
abbrev TIM_WSLEW : Nat := 0x134  -- R48
abbrev TIM_WSLEWREM : Nat := 0x138  -- R48
abbrev TIM_WALLSTAT : Nat := 0x13C  -- R48
abbrev TIM_RTC : Nat := 0x140  -- R48
abbrev TIM_PONCNT : Nat := 0x144  -- R48
abbrev TIM_CDCSTAT : Nat := 0x148  -- R48
abbrev TIM_CDCFLUSH : Nat := 0x14C  -- R48
abbrev TIM_CDCDROP : Nat := 0x150  -- R48
abbrev TIM_CAP_CTL (i : Nat) : Nat := 0x160 + 16 * i  -- R48
abbrev TIM_CAP_LO (i : Nat) : Nat := 0x164 + 16 * i  -- R48
abbrev TIM_CAP_HI (i : Nat) : Nat := 0x168 + 16 * i  -- R48
abbrev TIM_CAP_GFC (i : Nat) : Nat := 0x16C + 16 * i  -- R48
abbrev BOOT_STAT : Nat := 0x200  -- R82
abbrev BOOT_TIME : Nat := 0x204  -- R82
abbrev BOOT_FWVER : Nat := 0x208  -- R82
abbrev BOOT_TKVER : Nat := 0x20C  -- R82
abbrev BOOT_TKID : Nat := 0x210  -- R82
abbrev BOOT_DESC : Nat := 0x214  -- R82
abbrev BOOT_FAIL : Nat := 0x218  -- R82
abbrev BOOT_LRCNT : Nat := 0x21C  -- R82
abbrev BOOT_LRTIME : Nat := 0x220  -- R82
abbrev BOOT_PDK_CTL : Nat := 0x230  -- R82
abbrev BOOT_PDK_LEN : Nat := 0x234  -- R82
abbrev BOOT_PDK_STAT : Nat := 0x238  -- R82
abbrev BOOT_PDK_DATA : Nat := 0x23C  -- R82
abbrev SYS_STAT : Nat := 0x10  -- R85
abbrev SYS_STRAP : Nat := 0x14  -- R85
abbrev SYS_RSTCAUSE : Nat := 0x18  -- R85
abbrev SYS_RSTREQ : Nat := 0x1C  -- R85
abbrev SYS_COMMIT : Nat := 0x20  -- R85
abbrev SYS_COMMITSTAT : Nat := 0x24  -- R85
abbrev SYS_COMMITERR : Nat := 0x28  -- R85
abbrev SYS_COMMITGFC : Nat := 0x2C  -- R85
abbrev SYS_SHDLOCKWR : Nat := 0x30  -- R85
abbrev SYS_SSTAT : Nat := 0x34  -- R85
abbrev LNK_CTL (n : Nat) : Nat := 0x1000 + 0x100 * n  -- R130
abbrev LNK_CFG (n : Nat) : Nat := 0x1004 + 0x100 * n  -- R130
abbrev LNK_KIND (n : Nat) : Nat := 0x1008 + 0x100 * n  -- R130
abbrev LNK_CALBASE (n : Nat) : Nat := 0x100C + 0x100 * n  -- R130
abbrev LNK_SMAP (n : Nat) (i : Nat) : Nat := 0x1010 + 0x100 * n + 4 * i  -- R130
abbrev LNK_STAT (n : Nat) : Nat := 0x1030 + 0x100 * n  -- R130
abbrev LNK_RTT (n : Nat) : Nat := 0x1034 + 0x100 * n  -- R130
abbrev LNK_DLY (n : Nat) : Nat := 0x1038 + 0x100 * n  -- R130
abbrev LNK_HID (n : Nat) : Nat := 0x103C + 0x100 * n  -- R130
abbrev LNK_HSER_LO (n : Nat) : Nat := 0x1040 + 0x100 * n  -- R130
abbrev LNK_HSER_HI (n : Nat) : Nat := 0x1044 + 0x100 * n  -- R130
abbrev LNK_CRCERR (n : Nat) : Nat := 0x1048 + 0x100 * n  -- R130
abbrev LNK_LOST (n : Nat) : Nat := 0x104C + 0x100 * n  -- R130
abbrev LNK_REFLEX (n : Nat) : Nat := 0x1050 + 0x100 * n  -- R130
abbrev LNK_RETRAIN (n : Nat) : Nat := 0x1054 + 0x100 * n  -- R130
abbrev LNK_EDGESLIP (n : Nat) : Nat := 0x1058 + 0x100 * n  -- R130
abbrev LNK_EMUL (n : Nat) : Nat := 0x105C + 0x100 * n  -- R130
abbrev LNK_BADSYNC (n : Nat) : Nat := 0x1060 + 0x100 * n  -- R130
abbrev LNK_DNERR (n : Nat) : Nat := 0x1064 + 0x100 * n  -- R130
abbrev LNK_HREG_ADDR (n : Nat) : Nat := 0x1068 + 0x100 * n  -- R130
abbrev LNK_HREG_DATA (n : Nat) : Nat := 0x106C + 0x100 * n  -- R130
abbrev LNK_HREG_CTL (n : Nat) : Nat := 0x1070 + 0x100 * n  -- R130
abbrev LE_CAP : Nat := 0x2000  -- R163
abbrev LE_STAT : Nat := 0x2004  -- R163
abbrev LE_LOAD : Nat := 0x2008  -- R163
abbrev LE_SCHERR : Nat := 0x200C  -- R163
abbrev LE_CHECK : Nat := 0x2010  -- R163
abbrev LE_CHECKSTAT : Nat := 0x2014  -- R163
abbrev LE_CHECKLOAD : Nat := 0x2018  -- R163
abbrev LE_SIDX : Nat := 0x2020  -- R163
abbrev LE_SENT0 (e : Nat) : Nat := 0x10000 + 0x8 * e  -- R163
abbrev LE_SENT1 (e : Nat) : Nat := 0x10004 + 0x8 * e  -- R163
abbrev LE_SVIEW : Nat := 0x202C  -- R163
abbrev LE_LANE (i : Nat) : Nat := 0x2040 + 4 * i  -- R163
abbrev LE_LSTEST : Nat := 0x2080  -- R163
abbrev LE_BGFAIL : Nat := 0x2084  -- R163
abbrev LE_MISMATCH : Nat := 0x2088  -- R163
abbrev LE_MMGFC : Nat := 0x208C  -- R163
abbrev LE_FLAGSUM (i : Nat) : Nat := 0x20A0 + 4 * i  -- R163
abbrev LE_FLAGMSK (i : Nat) : Nat := 0x20C0 + 4 * i  -- R163
abbrev LE_FLAGCNT : Nat := 0x20E0  -- R163
abbrev CW_CTX : Nat := 0x2400  -- R171
abbrev CW_STAT : Nat := 0x2404  -- R171
abbrev CW_REFCNT : Nat := 0x2408  -- R171
abbrev CW_CMD : Nat := 0x240C  -- R171
abbrev CW_STSUM (i : Nat) : Nat := 0x2440 + 4 * i  -- R171
abbrev TRC_CTL (n : Nat) : Nat := 0x2600 + 0x40 * n  -- R196
abbrev TRC_CHSEL (n : Nat) (i : Nat) : Nat := 0x2604 + 0x40 * n + 4 * i  -- R196
abbrev TRC_TRIG (n : Nat) : Nat := 0x2614 + 0x40 * n  -- R196
abbrev TRC_THR (n : Nat) : Nat := 0x2618 + 0x40 * n  -- R196
abbrev TRC_POST (n : Nat) : Nat := 0x261C + 0x40 * n  -- R196
abbrev TRC_STAT (n : Nat) : Nat := 0x2620 + 0x40 * n  -- R196
abbrev TRC_TRIGPOS (n : Nat) : Nat := 0x2624 + 0x40 * n  -- R196
abbrev TRC_LAST (n : Nat) : Nat := 0x2628 + 0x40 * n  -- R196
abbrev TRC_TMONO_LO (n : Nat) : Nat := 0x262C + 0x40 * n  -- R196
abbrev TRC_TMONO_HI (n : Nat) : Nat := 0x2630 + 0x40 * n  -- R196
abbrev TRC_TGFC (n : Nat) : Nat := 0x2634 + 0x40 * n  -- R196
abbrev TRC_RADDR (n : Nat) : Nat := 0x2638 + 0x40 * n  -- R196
abbrev TRC_RDATA (n : Nat) : Nat := 0x263C + 0x40 * n  -- R196
abbrev PHS_CAP : Nat := 0x2C00  -- R225
abbrev PHS_STAT : Nat := 0x2C04  -- R225
abbrev PHS_CMD : Nat := 0x2C08  -- R225
abbrev PHS_CAPREQ : Nat := 0x2C0C  -- R225
abbrev PW_IDX : Nat := 0x2C10  -- R225
abbrev SW_IDX : Nat := 0x2C14  -- R225
abbrev PHS_VIEW : Nat := 0x2C18  -- R225
abbrev PHS_KILLCNT : Nat := 0x2C1C  -- R225
abbrev PHS_PSTAT (i : Nat) : Nat := 0x2C40 + 4 * i  -- R225
abbrev PHS_SSTAT (i : Nat) : Nat := 0x2C60 + 4 * i  -- R225
abbrev PT_LOC (e : Nat) : Nat := 0x11000 + 0x20 * e  -- R226
abbrev PT_SENSE (e : Nat) : Nat := 0x11004 + 0x20 * e  -- R226
abbrev PT_DT (e : Nat) : Nat := 0x11008 + 0x20 * e  -- R226
abbrev PT_CMD (e : Nat) : Nat := 0x1100C + 0x20 * e  -- R226
abbrev PT_STAT (e : Nat) : Nat := 0x11010 + 0x20 * e  -- R226
abbrev PT_TON (e : Nat) : Nat := 0x11014 + 0x20 * e  -- R226
abbrev PT_PFCNT (e : Nat) : Nat := 0x11018 + 0x20 * e  -- R226
abbrev ST_CFG (e : Nat) : Nat := 0x12000 + 0x80 * e  -- R227
abbrev ST_PER (e : Nat) : Nat := 0x12004 + 0x80 * e  -- R227
abbrev ST_DITH (e : Nat) : Nat := 0x12008 + 0x80 * e  -- R227
abbrev ST_ORG (e : Nat) : Nat := 0x1200C + 0x80 * e  -- R227
abbrev ST_VCH (e : Nat) : Nat := 0x12010 + 0x80 * e  -- R227
abbrev ST_TCH (e : Nat) : Nat := 0x12014 + 0x80 * e  -- R227
abbrev ST_ILIM (e : Nat) : Nat := 0x12018 + 0x80 * e  -- R227
abbrev ST_WIN (e : Nat) : Nat := 0x1201C + 0x80 * e  -- R227
abbrev ST_VSET (e : Nat) : Nat := 0x12020 + 0x80 * e  -- R227
abbrev ST_SLEW (e : Nat) : Nat := 0x12024 + 0x80 * e  -- R227
abbrev ST_CURB0 (e : Nat) : Nat := 0x12028 + 0x80 * e  -- R227
abbrev ST_CURB1 (e : Nat) : Nat := 0x1202C + 0x80 * e  -- R227
abbrev ST_SPUR0 (e : Nat) : Nat := 0x12030 + 0x80 * e  -- R227
abbrev ST_SPUR1 (e : Nat) : Nat := 0x12034 + 0x80 * e  -- R227
abbrev ST_SPUR2 (e : Nat) : Nat := 0x12038 + 0x80 * e  -- R227
abbrev ST_PF0 (e : Nat) : Nat := 0x1203C + 0x80 * e  -- R227
abbrev ST_PF1 (e : Nat) : Nat := 0x12040 + 0x80 * e  -- R227
abbrev ST_PF2 (e : Nat) : Nat := 0x12044 + 0x80 * e  -- R227
abbrev ST_PF3 (e : Nat) : Nat := 0x12048 + 0x80 * e  -- R227
abbrev ST_CTL (e : Nat) : Nat := 0x1204C + 0x80 * e  -- R227
abbrev ST_STAT (e : Nat) : Nat := 0x12050 + 0x80 * e  -- R227
abbrev ST_REF (e : Nat) : Nat := 0x12054 + 0x80 * e  -- R227
abbrev ST_CURBL (e : Nat) : Nat := 0x12058 + 0x80 * e  -- R227
abbrev ST_DLIM (e : Nat) : Nat := 0x1205C + 0x80 * e  -- R227
abbrev ST_LOAD (e : Nat) : Nat := 0x12060 + 0x80 * e  -- R227
abbrev ST_NREQ (e : Nat) : Nat := 0x12064 + 0x80 * e  -- R227
abbrev ST_SPURCNT (e : Nat) : Nat := 0x12068 + 0x80 * e  -- R227
abbrev ST_PFCNT (e : Nat) : Nat := 0x1206C + 0x80 * e  -- R227
abbrev EDG_CFG (n : Nat) : Nat := 0x2800 + 0x40 * n  -- R229
abbrev EDG_STAT (n : Nat) : Nat := 0x2804 + 0x40 * n  -- R229
abbrev EDG_PULSES (n : Nat) : Nat := 0x2808 + 0x40 * n  -- R229
abbrev SHF_CAP : Nat := 0x3000  -- R258
abbrev SHF_STAT : Nat := 0x3004  -- R258
abbrev SHF_CFG : Nat := 0x3008  -- R258
abbrev SHF_PWR : Nat := 0x300C  -- R258
abbrev SHF_HUTEST : Nat := 0x3010  -- R258
abbrev SHF_CAPLVL : Nat := 0x3014  -- R258
abbrev SHF_CMD : Nat := 0x3018  -- R258
abbrev MB_SEL : Nat := 0x301C  -- R258
abbrev SH_SHED : Nat := 0x3020  -- R258
abbrev SH_PAR : Nat := 0x3024  -- R258
abbrev SH_ONLINE : Nat := 0x3028  -- R258
abbrev SH_INFAIL : Nat := 0x302C  -- R258
abbrev SH_KT (i : Nat) : Nat := 0x3030 + 4 * i  -- R258
abbrev SH_KE (i : Nat) : Nat := 0x3040 + 4 * i  -- R258
abbrev SHF_PPAIR (i : Nat) : Nat := 0x3060 + 4 * i  -- R258
abbrev HU_CFG : Nat := 0x3080  -- R258
abbrev HU_INWIN : Nat := 0x3084  -- R258
abbrev HU_BUS : Nat := 0x3088  -- R258
abbrev HU_PRE : Nat := 0x308C  -- R258
abbrev HU_REC : Nat := 0x3090  -- R258
abbrev HU_TLOW : Nat := 0x3094  -- R258
abbrev PS_CAP : Nat := 0x3098  -- R258
abbrev BT_CC : Nat := 0x309C  -- R258
abbrev BT_CV0 : Nat := 0x30A0  -- R258
abbrev BT_CV1 : Nat := 0x30A4  -- R258
abbrev BT_FLT : Nat := 0x30A8  -- R258
abbrev BT_LIM : Nat := 0x30AC  -- R258
abbrev BT_TERM : Nat := 0x30B0  -- R258
abbrev HU_PWU : Nat := 0x30B4  -- R258
abbrev CP_CFG : Nat := 0x30C0  -- R258
abbrev CP_RATE : Nat := 0x30C4  -- R258
abbrev CP_REQ : Nat := 0x30C8  -- R258
abbrev CP_TH (i : Nat) : Nat := 0x30D0 + 4 * i  -- R258
abbrev PM_EN : Nat := 0x30F0  -- R258
abbrev PM_THR : Nat := 0x30F4  -- R258
abbrev PM_PAR : Nat := 0x30F8  -- R258
abbrev SHM_CFG (i : Nat) : Nat := 0x3100 + 8 * i  -- R258
abbrev SHM_CH (i : Nat) : Nat := 0x3104 + 8 * i  -- R258
abbrev BS_CH (i : Nat) : Nat := 0x3180 + 16 * i  -- R258
abbrev BS_E (i : Nat) : Nat := 0x3184 + 16 * i  -- R258
abbrev BS_STAT (i : Nat) : Nat := 0x3188 + 16 * i  -- R258
abbrev BS_LOC (i : Nat) : Nat := 0x318C + 16 * i  -- R258
abbrev MB_MODE (e : Nat) : Nat := 0x20000 + 0x200 * e  -- R258
abbrev MB_PSEQ (e : Nat) : Nat := 0x20004 + 0x200 * e  -- R258
abbrev MB_PGFC (e : Nat) : Nat := 0x20008 + 0x200 * e  -- R258
abbrev MB_DGFC (e : Nat) : Nat := 0x2000C + 0x200 * e  -- R258
abbrev MB_DCTL (e : Nat) : Nat := 0x20010 + 0x200 * e  -- R258
abbrev MB_DSTAT (e : Nat) : Nat := 0x20014 + 0x200 * e  -- R258
abbrev MB_FBCNT (e : Nat) : Nat := 0x20018 + 0x200 * e  -- R258
abbrev MB_IN (e : Nat) (i : Nat) : Nat := 0x20040 + 0x200 * e + 4 * i  -- R258
abbrev MB_DEC (e : Nat) (i : Nat) : Nat := 0x20100 + 0x200 * e + 4 * i  -- R258
abbrev PG_CFG (i : Nat) : Nat := 0x3380 + 16 * i  -- R258
abbrev PG_STG (i : Nat) : Nat := 0x3384 + 16 * i  -- R258
abbrev PG_FDRLO (i : Nat) : Nat := 0x3388 + 16 * i  -- R258
abbrev PG_FDRHI (i : Nat) : Nat := 0x338C + 16 * i  -- R258
abbrev PG_FWIN (i : Nat) : Nat := 0x33C0 + 4 * i  -- R258
abbrev PG_FTEN : Nat := 0x33D0  -- R258
abbrev PG_FTIME : Nat := 0x33D4  -- R258
abbrev PG_STAT : Nat := 0x33D8  -- R258
abbrev SHF_FTRUN : Nat := 0x33DC  -- R258
abbrev FDR_CFG (n : Nat) : Nat := 0x3400 + 0x20 * n  -- R279
abbrev FDR_FAST (n : Nat) : Nat := 0x3404 + 0x20 * n  -- R279
abbrev FDR_INR (n : Nat) : Nat := 0x3408 + 0x20 * n  -- R279
abbrev FDR_SLOW (n : Nat) : Nat := 0x340C + 0x20 * n  -- R279
abbrev FDR_KTRIP (n : Nat) : Nat := 0x3410 + 0x20 * n  -- R279
abbrev FDR_CAPL (n : Nat) : Nat := 0x3414 + 0x20 * n  -- R279
abbrev FDR_CTL (n : Nat) : Nat := 0x3418 + 0x20 * n  -- R279
abbrev FDR_TRK (n : Nat) : Nat := 0x341C + 0x20 * n  -- R279
abbrev ADC_CAP : Nat := 0x3C00  -- R312
abbrev ADC_PCFG : Nat := 0x3C04  -- R312
abbrev ADC_PRATE : Nat := 0x3C08  -- R312
abbrev ADC_ROT : Nat := 0x3C0C  -- R312
abbrev ADC_ROTTOL : Nat := 0x3C10  -- R312
abbrev ADC_ROTSTAT : Nat := 0x3C14  -- R312
abbrev ADC_PSTAT : Nat := 0x3C18  -- R312
abbrev ADC_FSTAT : Nat := 0x3C1C  -- R312
abbrev ADC_SEQ_CFG (i : Nat) : Nat := 0x3C20 + 16 * i  -- R312
abbrev ADC_SEQ_LIST0 (i : Nat) : Nat := 0x3C24 + 16 * i  -- R312
abbrev ADC_SEQ_LIST1 (i : Nat) : Nat := 0x3C28 + 16 * i  -- R312
abbrev ADC_SEQ_STAT (i : Nat) : Nat := 0x3C2C + 16 * i  -- R312
abbrev ADC_SEQGO : Nat := 0x3C40  -- R312
abbrev ADC_TDAC : Nat := 0x3C50  -- R312
abbrev ADC_HTEST : Nat := 0x3C54  -- R312
abbrev ADC_TSTAT : Nat := 0x3C58  -- R312
abbrev CAL_CMD : Nat := 0x3C80  -- R312
abbrev CAL_AVG : Nat := 0x3C84  -- R312
abbrev CAL_REF : Nat := 0x3C88  -- R312
abbrev CAL_STAT : Nat := 0x3C8C  -- R312
abbrev CAL_IDX : Nat := 0x3C90  -- R312
abbrev CAL_GAIN (e : Nat) : Nat := 0x14014 + 0x40 * e  -- R312
abbrev CAL_OFS (e : Nat) : Nat := 0x14018 + 0x40 * e  -- R312
abbrev CAL_INFO (e : Nat) : Nat := 0x1401C + 0x40 * e  -- R312
abbrev CAL_TAG (e : Nat) (i : Nat) : Nat := 0x14020 + 0x40 * e + 4 * i  -- R312
abbrev CAL_EPOCH (e : Nat) : Nat := 0x14030 + 0x40 * e  -- R312
abbrev CAL_RWALL_LO (e : Nat) : Nat := 0x14034 + 0x40 * e  -- R312
abbrev CAL_RWALL_HI (e : Nat) : Nat := 0x14038 + 0x40 * e  -- R312
abbrev CAL_GEPOCH : Nat := 0x3CBC  -- R312
abbrev CAL_VIEW : Nat := 0x3CC0  -- R312
abbrev CAL_NVSTAT : Nat := 0x3CC4  -- R312
abbrev MET_CAP : Nat := 0x3E00  -- R313
abbrev MET_CTL : Nat := 0x3E04  -- R313
abbrev MET_SNAPSTAT : Nat := 0x3E08  -- R313
abbrev MET_SGFC : Nat := 0x3E0C  -- R313
abbrev MET_SMONO_LO : Nat := 0x3E10  -- R313
abbrev MET_SMONO_HI : Nat := 0x3E14  -- R313
abbrev MET_SWALL_NS : Nat := 0x3E18  -- R313
abbrev MET_SWALL_SLO : Nat := 0x3E1C  -- R313
abbrev MET_SWALL_SHI : Nat := 0x3E20  -- R313
abbrev MET_SREFCNT : Nat := 0x3E24  -- R313
abbrev MET_EIDX : Nat := 0x3E40  -- R313
abbrev MET_EPAIR (e : Nat) : Nat := 0x1C004 + 0x40 * e  -- R313
abbrev MET_EK_LO (e : Nat) : Nat := 0x1C008 + 0x40 * e  -- R313
abbrev MET_EK_HI (e : Nat) : Nat := 0x1C00C + 0x40 * e  -- R313
abbrev MET_ELIVE_LO (e : Nat) : Nat := 0x1C010 + 0x40 * e  -- R313
abbrev MET_ELIVE_HI (e : Nat) : Nat := 0x1C014 + 0x40 * e  -- R313
abbrev MET_ESNAP_LO (e : Nat) : Nat := 0x1C018 + 0x40 * e  -- R313
abbrev MET_ESNAP_HI (e : Nat) : Nat := 0x1C01C + 0x40 * e  -- R313
abbrev MET_ESTAT (e : Nat) : Nat := 0x1C020 + 0x40 * e  -- R313
abbrev MET_EEPV (e : Nat) : Nat := 0x1C024 + 0x40 * e  -- R313
abbrev MET_EEPI (e : Nat) : Nat := 0x1C028 + 0x40 * e  -- R313
abbrev MET_SIDX : Nat := 0x3E70  -- R313
abbrev MET_SCNT_LO : Nat := 0x3E74  -- R313
abbrev MET_SCNT_HI : Nat := 0x3E78  -- R313
abbrev MET_SSUM_LO : Nat := 0x3E7C  -- R313
abbrev MET_SSUM_HI : Nat := 0x3E80  -- R313
abbrev MET_SSQ (i : Nat) : Nat := 0x3E84 + 4 * i  -- R313
abbrev MET_SMIN : Nat := 0x3E90  -- R313
abbrev MET_SMAX : Nat := 0x3E94  -- R313
abbrev MET_SEP : Nat := 0x3E98  -- R313
abbrev MET_SEP2 : Nat := 0x3E9C  -- R313
abbrev MET_SFLG : Nat := 0x3EA0  -- R313
abbrev MET_GRP (i : Nat) : Nat := 0x3EC0 + 4 * i  -- R313
abbrev MET_GIDX : Nat := 0x3EE0  -- R313
abbrev MET_GPOS_LO : Nat := 0x3EE4  -- R313
abbrev MET_GPOS_HI : Nat := 0x3EE8  -- R313
abbrev MET_GNEG_LO : Nat := 0x3EEC  -- R313
abbrev MET_GNEG_HI : Nat := 0x3EF0  -- R313
abbrev CMP_CAP : Nat := 0x4000  -- R314
abbrev CMP_TICK : Nat := 0x4004  -- R314
abbrev CMP_STAT : Nat := 0x4008  -- R314
abbrev CMP_OUT : Nat := 0x400C  -- R314
abbrev CMP_CFG (i : Nat) : Nat := 0x4040 + 16 * i  -- R314
abbrev CMP_THR (i : Nat) : Nat := 0x4044 + 16 * i  -- R314
abbrev CMP_ROUTE (i : Nat) : Nat := 0x4048 + 16 * i  -- R314
abbrev CMP_CNT (i : Nat) : Nat := 0x404C + 16 * i  -- R314
abbrev WM_IDX : Nat := 0x4180  -- R314
abbrev WM_CFG (e : Nat) : Nat := 0x1D004 + 0x20 * e  -- R314
abbrev WM_LIM (e : Nat) : Nat := 0x1D008 + 0x20 * e  -- R314
abbrev WM_HYS (e : Nat) : Nat := 0x1D00C + 0x20 * e  -- R314
abbrev WM_ROUTE (e : Nat) : Nat := 0x1D010 + 0x20 * e  -- R314
abbrev WM_STAT (e : Nat) : Nat := 0x1D014 + 0x20 * e  -- R314
abbrev WM_HITS (e : Nat) : Nat := 0x1D018 + 0x20 * e  -- R314
abbrev WM_VIEW : Nat := 0x419C  -- R314
abbrev WM_OSUM (i : Nat) : Nat := 0x41A0 + 4 * i  -- R314
abbrev HK_CAP : Nat := 0xA00  -- R327
abbrev HK_STAT : Nat := 0xA04  -- R327
abbrev HK_CFG : Nat := 0xA08  -- R327
abbrev HK_TLIM : Nat := 0xA0C  -- R327
abbrev HK_RATE : Nat := 0xA10  -- R327
abbrev HK_TEMP : Nat := 0xA14  -- R327
abbrev HK_TFINE : Nat := 0xA18  -- R327
abbrev HK_RISE : Nat := 0xA1C  -- R327
abbrev HK_ROUNDS : Nat := 0xA20  -- R327
abbrev HK_SEL : Nat := 0xA24  -- R327
abbrev HK_VAL (e : Nat) : Nat := 0x1E000 + 0x10 * e  -- R327
abbrev HK_SUPLIM (e : Nat) : Nat := 0x1E004 + 0x10 * e  -- R327
abbrev HK_SUPCFG (e : Nat) : Nat := 0x1E008 + 0x10 * e  -- R327
abbrev HK_SUPSTAT : Nat := 0xA34  -- R327
abbrev HK_SUPSTKY : Nat := 0xA38  -- R327
abbrev PAIR_STAT : Nat := 0x900  -- R351
abbrev PAIR_CLAIM : Nat := 0x904  -- R351
abbrev PAIR_CTL : Nat := 0x908  -- R351
abbrev PAIR_REMINT : Nat := 0x90C  -- R351
abbrev PAIR_REMNEXT : Nat := 0x910  -- R351
abbrev PAIR_TDSTAT : Nat := 0x914  -- R351
abbrev PAIR_ALIGN : Nat := 0x918  -- R351
abbrev PAIR_SYNC : Nat := 0x91C  -- R351
abbrev PAIR_SYNCGFC : Nat := 0x920  -- R351
abbrev PAIR_MM : Nat := 0x924  -- R351
abbrev PAIR_MMGFC : Nat := 0x928  -- R351
abbrev PAIR_MMCNT : Nat := 0x92C  -- R351
abbrev PAIR_SWAPCNT : Nat := 0x930  -- R351
abbrev PAIR_LAST : Nat := 0x934  -- R351
abbrev PAIR_LASTGFC : Nat := 0x938  -- R351
abbrev PAIR_HEALTH : Nat := 0x93C  -- R351
abbrev SYS_TOKREQ : Nat := 0x40  -- R353
abbrev SYS_TOKSTAT : Nat := 0x44  -- R353
abbrev SYS_TOKGFC : Nat := 0x48  -- R353
abbrev SYS_TOKREF : Nat := 0x4C  -- R353
abbrev FLT_CAP : Nat := 0x400  -- R379
abbrev FLT_STAT : Nat := 0x404  -- R379
abbrev FLT_CFG : Nat := 0x408  -- R379
abbrev FLT_RELEASE : Nat := 0x40C  -- R379
abbrev FLT_LAST_LO : Nat := 0x410  -- R379
abbrev FLT_LAST_HI : Nat := 0x414  -- R379
abbrev FLT_LASTGFC : Nat := 0x418  -- R379
abbrev FLT_CNTCOR : Nat := 0x41C  -- R379
abbrev FLT_CNTCON : Nat := 0x420  -- R379
abbrev FLT_LIFECON : Nat := 0x424  -- R379
abbrev FLT_LIFEFAT : Nat := 0x428  -- R379
abbrev FLT_DROP : Nat := 0x42C  -- R379
abbrev FLT_ECCADDR : Nat := 0x430  -- R379
abbrev FLT_ECCINFO : Nat := 0x434  -- R379
abbrev FLT_SCRUB : Nat := 0x438  -- R379
abbrev FLT_ECCCNT : Nat := 0x43C  -- R379
abbrev FLT_EIDX : Nat := 0x440  -- R379
abbrev FLT_ENT_LO : Nat := 0x444  -- R379
abbrev FLT_ENT_HI : Nat := 0x448  -- R379
abbrev FLT_ENTS : Nat := 0x44C  -- R379
abbrev FLT_ENTGFC : Nat := 0x450  -- R379
abbrev FLT_KIDX : Nat := 0x460  -- R379
abbrev FLT_KIND (e : Nat) : Nat := 0x1E404 + 0x10 * e  -- R379
abbrev FLT_RXN (e : Nat) : Nat := 0x1E408 + 0x10 * e  -- R379
abbrev FLT_KCNT (e : Nat) : Nat := 0x1E40C + 0x10 * e  -- R379
abbrev EVT_CAP : Nat := 0x300  -- R381
abbrev EVT_TOP : Nat := 0x304  -- R381
abbrev EVT_CFG : Nat := 0x308  -- R381
abbrev EVT_IDX : Nat := 0x30C  -- R381
abbrev EVT_SRCCFG (e : Nat) : Nat := 0x1F000 + 0x10 * e  -- R381
abbrev EVT_SRCCNT (e : Nat) : Nat := 0x1F004 + 0x10 * e  -- R381
abbrev EVT_SRCLAST (e : Nat) : Nat := 0x1F008 + 0x10 * e  -- R381
abbrev EVT_PEND (i : Nat) : Nat := 0x320 + 4 * i  -- R381
abbrev EVT_CDCOVF (i : Nat) : Nat := 0x340 + 4 * i  -- R381
abbrev INJ_KEY : Nat := 0xB00  -- R383
abbrev INJ_STAT : Nat := 0xB04  -- R383
abbrev INJ_LOCK : Nat := 0xB08  -- R383
abbrev INJ_LCTL : Nat := 0xB10  -- R383
abbrev INJ_LDUR : Nat := 0xB14  -- R383
abbrev INJ_MASK (i : Nat) : Nat := 0xB18 + 4 * i  -- R383
abbrev INJ_LCNT : Nat := 0xB2C  -- R383
abbrev INJ_ECTL : Nat := 0xB30  -- R383
abbrev INJ_EADDR : Nat := 0xB34  -- R383
abbrev INJ_LANE : Nat := 0xB38  -- R383
abbrev INJ_FM_LO : Nat := 0xB40  -- R383
abbrev INJ_FM_HI : Nat := 0xB44  -- R383
abbrev INJ_FMGO : Nat := 0xB48  -- R383
abbrev INJ_CNT : Nat := 0xB4C  -- R383
abbrev EVR_CAP : Nat := 0x500  -- R402
abbrev EVR_STAT : Nat := 0x504  -- R402
abbrev EVR_CFG : Nat := 0x508  -- R402
abbrev EVR_SEQ : Nat := 0x50C  -- R402
abbrev EVR_RCNT : Nat := 0x510  -- R402
abbrev EVR_LCNT : Nat := 0x514  -- R402
abbrev EVR_OLDEST : Nat := 0x518  -- R402
abbrev EVR_MIRSEQ : Nat := 0x51C  -- R402
abbrev EVR_RSEL : Nat := 0x520  -- R402
abbrev EVR_RCTL : Nat := 0x524  -- R402
abbrev EVR_RSTAT : Nat := 0x528  -- R402
abbrev EVR_RSEQ : Nat := 0x52C  -- R402
abbrev EVR_ROFS : Nat := 0x530  -- R402
abbrev EVR_RDATA : Nat := 0x534  -- R402
abbrev EVR_WRCNT : Nat := 0x538  -- R402
abbrev EVR_NVWEAR : Nat := 0x53C  -- R402
abbrev EVR_DROP (i : Nat) : Nat := 0x540 + 4 * i  -- R402
abbrev EVR_LDROP (i : Nat) : Nat := 0x560 + 4 * i  -- R402
abbrev SBG_CAP : Nat := 0x600  -- R403
abbrev SBG_STAT : Nat := 0x604  -- R403
abbrev SBG_CFG : Nat := 0x608  -- R403
abbrev SBG_SEL : Nat := 0x60C  -- R403
abbrev SBG_SSTAT : Nat := 0x610  -- R403
abbrev SBG_ROFS : Nat := 0x614  -- R403
abbrev SBG_RDATA : Nat := 0x618  -- R403
abbrev SBG_ACK : Nat := 0x61C  -- R403
abbrev SBG_WRCNT : Nat := 0x620  -- R403
abbrev HST_CAP : Nat := 0x700  -- R425
abbrev HST_STAT : Nat := 0x704  -- R425
abbrev HST_CFG : Nat := 0x708  -- R425
abbrev HST_PTR : Nat := 0x70C  -- R425
abbrev HST_ACMP (i : Nat) : Nat := 0x710 + 8 * i  -- R425
abbrev HST_ACNT (i : Nat) : Nat := 0x714 + 8 * i  -- R425
abbrev HST_WRSTAT : Nat := 0x730  -- R425
abbrev HST_SPISTAT : Nat := 0x734  -- R425
abbrev HST_PARTIAL : Nat := 0x740  -- R425
abbrev HST_PECERR : Nat := 0x744  -- R425
abbrev HST_TIMEOUT : Nat := 0x748  -- R425
abbrev HST_FWBUSY : Nat := 0x74C  -- R425
abbrev HST_RSVWR : Nat := 0x750  -- R425
abbrev HST_ARA : Nat := 0x754  -- R425
abbrev UPD_CAP : Nat := 0x800  -- R451
abbrev UPD_STAT : Nat := 0x804  -- R451
abbrev UPD_CTL : Nat := 0x808  -- R451
abbrev UPD_LEN : Nat := 0x80C  -- R451
abbrev UPD_DATA : Nat := 0x810  -- R451
abbrev UPD_OFS : Nat := 0x814  -- R451
abbrev UPD_RESULT : Nat := 0x818  -- R451
abbrev UPD_CONFTMR : Nat := 0x81C  -- R451
abbrev UPD_SIDX : Nat := 0x820  -- R451
abbrev UPD_SVER : Nat := 0x824  -- R451
abbrev UPD_SINFO : Nat := 0x828  -- R451
abbrev UPD_ARB : Nat := 0x82C  -- R451
abbrev UPD_OVL : Nat := 0x830  -- R451
abbrev UPD_TRIAL : Nat := 0x834  -- R451
abbrev UPD_ERRCNT : Nat := 0x838  -- R451
abbrev UPD_OTP : Nat := 0x83C  -- R451
abbrev WIN_CAP : Nat := 0xF000  -- R460
abbrev WIN_SEL : Nat := 0xF004  -- R460
abbrev WIN_BASE : Nat := 0xF008  -- R460
abbrev WIN_LEN : Nat := 0xF00C  -- R460
abbrev WIN_DATA : Nat := 0xF010  -- R460
abbrev SYS_ID : Nat := 0x0  -- R469
abbrev SYS_PART : Nat := 0x4  -- R469
abbrev SYS_UID_LO : Nat := 0x8  -- R469
abbrev SYS_UID_HI : Nat := 0xC  -- R469
abbrev SYS_SHDDIRTY : Nat := 0x38  -- R469
abbrev SYS_SCRATCH : Nat := 0x3C  -- R469

end Sys2Proof.Machine.Reg
end

