-- ==== Sys2Proof/Machine/RegRows.lean ====
section
/-!
DEFINITION. The register tables of the spec as data: for each register its key, its reset value, the bits of each
access type (R4), its commit group (R468) and, for an event counter, its fields (R399).
-/

namespace Sys2Proof.Machine

/-- One row of a register table. The registers at `base + s1*i + s2*j` (`i < n1`, `j < n2`) share the row.
`rw`, `w1c`, `shd`, `wo`: the bits of each access type; `known`: every bit that is in some field (the rest are
reserved, R5); `grp`: the commit group of its SHD bits; `ctr`: the counter fields of R399 as (hi, lo). -/
structure RegRow where
  base  : Nat
  s1    : Nat
  n1    : Nat
  s2    : Nat
  n2    : Nat
  reset : Nat
  rw    : Nat
  w1c   : Nat
  shd   : Nat
  wo    : Nat
  known : Nat
  grp   : Option Nat
  ctr   : List (Nat × Nat)
  deriving DecidableEq, Repr

/-- Whether the row holds the register with key `a`. -/
def RegRow.has (r : RegRow) (a : Nat) : Bool :=
  decide (r.base ≤ a) && decide ((a - r.base) / r.s1 < r.n1) &&
    decide ((a - r.base) % r.s1 % r.s2 = 0) && decide ((a - r.base) % r.s1 / r.s2 < r.n2)

/-- Register rows of block `tim` (R48). -/
def timRows : List RegRow := [
  ⟨0x100, 0x10000000, 1, 4, 1, 0, 0, 0, 0, 0, 0xFF, none, []⟩,  -- TIM_CLKSTAT
  ⟨0x104, 0x10000000, 1, 4, 1, 0, 0, 0, 0, 0, 0x83, none, []⟩,  -- TIM_CLKCFG (reset: from boot descriptor)
  ⟨0x108, 0x10000000, 1, 4, 1, 1, 0, 0, 3, 0, 3, some 0, []⟩,  -- TIM_GAIT
  ⟨0x10C, 0x10000000, 1, 4, 1, 0, 0, 0, 0, 0, 0xFFFFFFFF, none, []⟩,  -- TIM_GFC
  ⟨0x110, 0x10000000, 1, 4, 1, 0, 0, 0, 0, 0, 0xFFFFFFFF, none, []⟩,  -- TIM_MONO_LO (reset: 0 at power-on (R35))
  ⟨0x114, 0x10000000, 1, 4, 1, 0, 0, 0, 0, 0, 0xFFFFFFFF, none, []⟩,  -- TIM_MONO_HI (reset: 0 at power-on (R35))
  ⟨0x118, 0x10000000, 1, 4, 1, 0, 0, 0, 0, 0, 0x3FFFFFFF, none, []⟩,  -- TIM_WALL_NS
  ⟨0x11C, 0x10000000, 1, 4, 1, 0, 0, 0, 0, 0, 0xFFFFFFFF, none, []⟩,  -- TIM_WALL_SLO
  ⟨0x120, 0x10000000, 1, 4, 1, 0, 0, 0, 0, 0, 0xFFFF, none, []⟩,  -- TIM_WALL_SHI
  ⟨0x124, 0x10000000, 1, 4, 1, 0, 0x3FFFFFFF, 0, 0, 0, 0x3FFFFFFF, none, []⟩,  -- TIM_WSET_NS
  ⟨0x128, 0x10000000, 1, 4, 1, 0, 0xFFFFFFFF, 0, 0, 0, 0xFFFFFFFF, none, []⟩,  -- TIM_WSET_SLO
  ⟨0x12C, 0x10000000, 1, 4, 1, 0, 0xFFFF, 0, 0, 0, 0xFFFF, none, []⟩,  -- TIM_WSET_SHI
  ⟨0x130, 0x10000000, 1, 4, 1, 0x1F4, 0x3FF, 0, 0, 0xC0000000, 0xC00003FF, none, []⟩,  -- TIM_WALLCTL
  ⟨0x134, 0x10000000, 1, 4, 1, 0, 0xFFFFFFFF, 0, 0, 0, 0xFFFFFFFF, none, []⟩,  -- TIM_WSLEW
  ⟨0x138, 0x10000000, 1, 4, 1, 0, 0, 0, 0, 0, 0xFFFFFFFF, none, []⟩,  -- TIM_WSLEWREM
  ⟨0x13C, 0x10000000, 1, 4, 1, 0, 0, 0xC, 0, 0, 0x1F, none, []⟩,  -- TIM_WALLSTAT
  ⟨0x140, 0x10000000, 1, 4, 1, 0, 0, 0, 0, 0, 0xFFFFFFFF, none, []⟩,  -- TIM_RTC (reset: 0 at power-on)
  ⟨0x144, 0x10000000, 1, 4, 1, 0, 0, 0, 0, 0, 0xFFFFFFFF, none, []⟩,  -- TIM_PONCNT (reset: kept)
  ⟨0x148, 0x10000000, 1, 4, 1, 0, 0, 0xFFF, 0, 0, 0xFFF, none, []⟩,  -- TIM_CDCSTAT
  ⟨0x14C, 0x10000000, 1, 4, 1, 0, 0, 0, 0, 0, 0xFFFF, none, [(15, 0)]⟩,  -- TIM_CDCFLUSH
  ⟨0x150, 0x10000000, 1, 4, 1, 0, 0, 0, 0, 0, 0xFFFF, none, [(15, 0)]⟩,  -- TIM_CDCDROP
  ⟨0x160, 0x10000000, 1, 16, 8, 0, 0xFF, 0x80000000, 0, 0, 0xC00000FF, none, []⟩,  -- TIM_CAPn_CTL
  ⟨0x164, 0x10000000, 1, 16, 8, 0, 0, 0, 0, 0, 0xFFFFFFFF, none, []⟩,  -- TIM_CAPn_LO
  ⟨0x168, 0x10000000, 1, 16, 8, 0, 0, 0, 0, 0, 0xFFFFFFFF, none, []⟩,  -- TIM_CAPn_HI
  ⟨0x16C, 0x10000000, 1, 16, 8, 0, 0, 0, 0, 0, 0xFFFFFFFF, none, []⟩]  -- TIM_CAPn_GFC

/-- Register rows of block `boot` (R82). -/
def bootRows : List RegRow := [
  ⟨0x200, 0x10000000, 1, 4, 1, 0, 0, 0, 0, 0, 0x7F8F, none, []⟩,  -- BOOT_STAT
  ⟨0x204, 0x10000000, 1, 4, 1, 0, 0, 0, 0, 0, 0xFFFFFFFF, none, []⟩,  -- BOOT_TIME
  ⟨0x208, 0x10000000, 1, 4, 1, 0, 0, 0, 0, 0, 0xFFFFFFFF, none, []⟩,  -- BOOT_FWVER
  ⟨0x20C, 0x10000000, 1, 4, 1, 0, 0, 0, 0, 0, 0xFFFFFFFF, none, []⟩,  -- BOOT_TKVER
  ⟨0x210, 0x10000000, 1, 4, 1, 0, 0, 0, 0, 0, 0xFFFFFFFF, none, []⟩,  -- BOOT_TKID
  ⟨0x214, 0x10000000, 1, 4, 1, 0, 0, 0, 0, 0, 0x1FFFF, none, []⟩,  -- BOOT_DESC
  ⟨0x218, 0x10000000, 1, 4, 1, 0, 0, 0, 0, 0, 0xFFFFFFFF, none, []⟩,  -- BOOT_FAIL
  ⟨0x21C, 0x10000000, 1, 4, 1, 0, 0, 0, 0, 0, 0xFFFF, none, [(15, 0)]⟩,  -- BOOT_LRCNT
  ⟨0x220, 0x10000000, 1, 4, 1, 0, 0, 0, 0, 0, 0xFFFFFFFF, none, []⟩,  -- BOOT_LRTIME
  ⟨0x230, 0x10000000, 1, 4, 1, 0, 0x80000007, 0, 0, 0, 0x80000007, none, []⟩,  -- BOOT_PDK_CTL
  ⟨0x234, 0x10000000, 1, 4, 1, 0, 0xFFFFFFFF, 0, 0, 0, 0xFFFFFFFF, none, []⟩,  -- BOOT_PDK_LEN
  ⟨0x238, 0x10000000, 1, 4, 1, 0, 0, 0, 0, 0, 0xC00000FF, none, []⟩,  -- BOOT_PDK_STAT
  ⟨0x23C, 0x10000000, 1, 4, 1, 0, 0, 0, 0, 0xFFFFFFFF, 0xFFFFFFFF, none, []⟩]  -- BOOT_PDK_DATA

/-- Register rows of block `sys` (R353, R469, R85). -/
def sysRows : List RegRow := [
  ⟨0x10, 0x10000000, 1, 4, 1, 0, 0, 0, 0, 0, 7, none, []⟩,  -- SYS_STAT
  ⟨0x14, 0x10000000, 1, 4, 1, 0, 0, 0, 0, 0, 0x3F7, none, []⟩,  -- SYS_STRAP (reset: as sampled)
  ⟨0x18, 0x10000000, 1, 4, 1, 0, 0, 0, 0, 0, 0x1F, none, []⟩,  -- SYS_RSTCAUSE (reset: per cause)
  ⟨0x1C, 0x10000000, 1, 4, 1, 0, 0, 0, 0, 0xFFFF, 0xFFFFFF, none, []⟩,  -- SYS_RSTREQ
  ⟨0x20, 0x10000000, 1, 4, 1, 0, 0, 0, 0, 0x8001FFFF, 0x8001FFFF, none, []⟩,  -- SYS_COMMIT
  ⟨0x24, 0x10000000, 1, 4, 1, 0, 0, 0, 0, 0, 0xC7FFFFFF, none, []⟩,  -- SYS_COMMITSTAT
  ⟨0x28, 0x10000000, 1, 4, 1, 0, 0, 0, 0, 0, 0x1F1FFFFF, none, []⟩,  -- SYS_COMMITERR
  ⟨0x2C, 0x10000000, 1, 4, 1, 0, 0, 0, 0, 0, 0xFFFFFFFF, none, []⟩,  -- SYS_COMMITGFC
  ⟨0x30, 0x10000000, 1, 4, 1, 0, 0, 0, 0, 0, 0xFFFF, none, [(15, 0)]⟩,  -- SYS_SHDLOCKWR
  ⟨0x34, 0x10000000, 1, 4, 1, 0, 0, 0, 0, 0, 0x80FF00FF, none, []⟩,  -- SYS_SSTAT
  ⟨0x40, 0x10000000, 1, 4, 1, 0, 0, 0, 0, 0xC000000F, 0xC000000F, none, []⟩,  -- SYS_TOKREQ
  ⟨0x44, 0x10000000, 1, 4, 1, 0, 0, 0, 0, 0, 0xFF0000FF, none, []⟩,  -- SYS_TOKSTAT
  ⟨0x48, 0x10000000, 1, 4, 1, 0, 0, 0, 0, 0, 0xFFFFFFFF, none, []⟩,  -- SYS_TOKGFC
  ⟨0x4C, 0x10000000, 1, 4, 1, 0, 0, 0, 0, 0, 0xFFFF, none, [(15, 0)]⟩,  -- SYS_TOKREF
  ⟨0, 0x10000000, 1, 4, 1, 0x948000A1, 0, 0, 0, 0, 0xFFFFFFFF, none, []⟩,  -- SYS_ID
  ⟨4, 0x10000000, 1, 4, 1, 0, 0, 0, 0, 0, 0x7FFFF, none, []⟩,  -- SYS_PART (reset: per part)
  ⟨8, 0x10000000, 1, 4, 1, 0, 0, 0, 0, 0, 0xFFFFFFFF, none, []⟩,  -- SYS_UID_LO (reset: per part)
  ⟨0xC, 0x10000000, 1, 4, 1, 0, 0, 0, 0, 0, 0xFFFFFFFF, none, []⟩,  -- SYS_UID_HI (reset: per part)
  ⟨0x38, 0x10000000, 1, 4, 1, 0, 0, 0, 0, 0, 0x1FFFF, none, []⟩,  -- SYS_SHDDIRTY
  ⟨0x3C, 0x10000000, 1, 4, 1, 0, 0xFFFFFFFF, 0, 0, 0, 0xFFFFFFFF, none, []⟩]  -- SYS_SCRATCH

/-- Register rows of block `lnk` (R130). -/
def lnkRows : List RegRow := [
  ⟨0x1000, 0x100, 16, 4, 1, 0, 1, 0, 0, 0x80000000, 0x80000001, none, []⟩,  -- LNK_CTL
  ⟨0x1004, 0x100, 16, 4, 1, 0x39, 0xFFFF, 0, 0, 0, 0xFFFF, none, []⟩,  -- LNK_CFG
  ⟨0x1008, 0x100, 16, 4, 1, 0, 0, 0, 3, 0, 3, some 2, []⟩,  -- LNK_KIND
  ⟨0x100C, 0x100, 16, 4, 1, 0, 0, 0, 0x1FF, 0, 0x1FF, some 2, []⟩,  -- LNK_CALBASE
  ⟨0x1010, 0x100, 16, 4, 7, 0x80808080, 0, 0, 0xFFFFFFFF, 0, 0xFFFFFFFF, some 2, []⟩,  -- LNK_SMAPi
  ⟨0x1030, 0x100, 16, 4, 1, 0, 0, 0, 0, 0, 0x1FF0F07, none, []⟩,  -- LNK_STAT
  ⟨0x1034, 0x100, 16, 4, 1, 0, 0, 0, 0, 0, 0xFFFFFFFF, none, []⟩,  -- LNK_RTT
  ⟨0x1038, 0x100, 16, 4, 1, 0, 0, 0, 0, 0, 0xFFFFFFFF, none, []⟩,  -- LNK_DLY
  ⟨0x103C, 0x100, 16, 4, 1, 0, 0, 0, 0, 0, 0xFFFFFFFF, none, []⟩,  -- LNK_HID
  ⟨0x1040, 0x100, 16, 4, 1, 0, 0, 0, 0, 0, 0xFFFFFFFF, none, []⟩,  -- LNK_HSER_LO
  ⟨0x1044, 0x100, 16, 4, 1, 0, 0, 0, 0, 0, 0xFFFFFFFF, none, []⟩,  -- LNK_HSER_HI
  ⟨0x1048, 0x100, 16, 4, 1, 0, 0, 0, 0, 0, 0xFFFFFFFF, none, [(31, 0)]⟩,  -- LNK_CRCERR
  ⟨0x104C, 0x100, 16, 4, 1, 0, 0, 0, 0, 0, 0xFFFFFFFF, none, [(31, 0)]⟩,  -- LNK_LOST
  ⟨0x1050, 0x100, 16, 4, 1, 0, 0, 0, 0, 0, 0xFFFFFFFF, none, [(31, 0)]⟩,  -- LNK_REFLEX
  ⟨0x1054, 0x100, 16, 4, 1, 0, 0, 0, 0, 0, 0xFFFF, none, [(15, 0)]⟩,  -- LNK_RETRAIN
  ⟨0x1058, 0x100, 16, 4, 1, 0, 0, 0, 0, 0, 0xFFFFFFFF, none, [(15, 0), (31, 16)]⟩,  -- LNK_EDGESLIP
  ⟨0x105C, 0x100, 16, 4, 1, 0, 0, 0, 0, 0, 0xFFFFFFFF, none, [(31, 0)]⟩,  -- LNK_EMUL
  ⟨0x1060, 0x100, 16, 4, 1, 0, 0, 0, 0, 0, 0xFFFF, none, [(15, 0)]⟩,  -- LNK_BADSYNC
  ⟨0x1064, 0x100, 16, 4, 1, 0, 0, 0, 0, 0, 0xFFFFFFFF, none, [(31, 0)]⟩,  -- LNK_DNERR
  ⟨0x1068, 0x100, 16, 4, 1, 0, 0xFFFC, 0, 0, 0, 0xFFFC, none, []⟩,  -- LNK_HREG_ADDR
  ⟨0x106C, 0x100, 16, 4, 1, 0, 0xFFFFFFFF, 0, 0, 0, 0xFFFFFFFF, none, []⟩,  -- LNK_HREG_DATA
  ⟨0x1070, 0x100, 16, 4, 1, 0, 0x40000000, 0, 0, 0x80000000, 0xF0000000, none, []⟩]  -- LNK_HREG_CTL

/-- Register rows of block `le` (R163). -/
def leRows : List RegRow := [
  ⟨0x2000, 0x10000000, 1, 4, 1, 0x1010010, 0, 0, 0, 0, 0xFF0FFFFF, none, []⟩,  -- LE_CAP
  ⟨0x2004, 0x10000000, 1, 4, 1, 0, 0, 0, 0, 0, 0x800301FF, none, []⟩,  -- LE_STAT
  ⟨0x2008, 0x10000000, 1, 4, 1, 0, 0, 0, 0, 0, 0xFFFFFFFF, none, []⟩,  -- LE_LOAD
  ⟨0x200C, 0x10000000, 1, 4, 1, 0, 0, 0, 0, 0, 0xC1FF01FF, none, []⟩,  -- LE_SCHERR
  ⟨0x2010, 0x10000000, 1, 4, 1, 0, 0, 0, 0, 0x80000000, 0x80000000, none, []⟩,  -- LE_CHECK
  ⟨0x2014, 0x10000000, 1, 4, 1, 0, 0, 0, 0, 0, 0xC0FF0000, none, []⟩,  -- LE_CHECKSTAT
  ⟨0x2018, 0x10000000, 1, 4, 1, 0, 0, 0, 0, 0, 0xFFFFFFFF, none, []⟩,  -- LE_CHECKLOAD
  ⟨0x2020, 0x10000000, 1, 4, 1, 0, 0xFF, 0, 0, 0, 0xFF, none, []⟩,  -- LE_SIDX
  ⟨0x202C, 0x10000000, 1, 4, 1, 0, 1, 0, 0, 0, 1, none, []⟩,  -- LE_SVIEW
  ⟨0x2040, 0x10000000, 1, 4, 16, 0, 0, 0, 0xFFF, 0, 0xFFF, some 1, []⟩,  -- LE_LANEl
  ⟨0x2080, 0x10000000, 1, 4, 1, 0, 0, 0x30000000, 0, 0x80000000, 0xF000FFFF, none, []⟩,  -- LE_LSTEST
  ⟨0x2084, 0x10000000, 1, 4, 1, 0, 0, 0, 0, 0, 0xFFFF, none, []⟩,  -- LE_BGFAIL
  ⟨0x2088, 0x10000000, 1, 4, 1, 0, 0, 0, 0, 0, 0x80000FFF, none, []⟩,  -- LE_MISMATCH
  ⟨0x208C, 0x10000000, 1, 4, 1, 0, 0, 0, 0, 0, 0xFFFFFFFF, none, []⟩,  -- LE_MMGFC
  ⟨0x20A0, 0x10000000, 1, 4, 8, 0, 0, 0, 0, 0, 0xFFFFFFFF, none, []⟩,  -- LE_FLAGSUMi
  ⟨0x20C0, 0x10000000, 1, 4, 8, 0, 0xFFFFFFFF, 0, 0, 0, 0xFFFFFFFF, none, []⟩,  -- LE_FLAGMSKi
  ⟨0x20E0, 0x10000000, 1, 4, 1, 0, 0, 0, 0, 0, 0xFFFFFFFF, none, [(31, 0)]⟩]  -- LE_FLAGCNT

/-- Register rows of block `winSched` (R163). -/
def winSchedRows : List RegRow := [
  ⟨0x10000, 8, 256, 4, 1, 0, 0, 0, 0xFEFF00FF, 0, 0xFEFF00FF, some 1, []⟩,  -- LE_SENT0
  ⟨0x10004, 8, 256, 4, 1, 0, 0, 0, 0xFFF0FFF, 0, 0xFFF0FFF, some 1, []⟩]  -- LE_SENT1

/-- Register rows of block `cw` (R171). -/
def cwRows : List RegRow := [
  ⟨0x2400, 0x10000000, 1, 4, 1, 0, 0x1FF, 0, 0, 0, 0x1FF, none, []⟩,  -- CW_CTX
  ⟨0x2404, 0x10000000, 1, 4, 1, 0, 0, 0x40000000, 0, 0, 0x4FFF01FF, none, []⟩,  -- CW_STAT
  ⟨0x2408, 0x10000000, 1, 4, 1, 0, 0, 0, 0, 0, 0xFFFF, none, [(15, 0)]⟩,  -- CW_REFCNT
  ⟨0x240C, 0x10000000, 1, 4, 1, 0, 0, 0, 0, 0xF0000003, 0xF0000003, none, []⟩,  -- CW_CMD
  ⟨0x2440, 0x10000000, 1, 4, 16, 0, 0, 0, 0, 0, 0xFFFFFFFF, none, []⟩]  -- CW_STSUMi

/-- Register rows of block `trc` (R196). -/
def trcRows : List RegRow := [
  ⟨0x2600, 0x40, 8, 4, 1, 0, 0x18FF0F30, 0, 0, 0xE0000000, 0xF8FF0F30, none, []⟩,  -- TRCu_CTL
  ⟨0x2604, 0x40, 8, 4, 4, 0, 0xFF0001FF, 0, 0, 0, 0xFF0001FF, none, []⟩,  -- TRCu_CHSELc
  ⟨0x2614, 0x40, 8, 4, 1, 0, 0xF30000FF, 0, 0, 0, 0xF30000FF, none, []⟩,  -- TRCu_TRIG
  ⟨0x2618, 0x40, 8, 4, 1, 0, 0xFFFFFFFF, 0, 0, 0, 0xFFFFFFFF, none, []⟩,  -- TRCu_THR
  ⟨0x261C, 0x40, 8, 4, 1, 0, 0x3FFF, 0, 0, 0, 0x3FFF, none, []⟩,  -- TRCu_POST
  ⟨0x2620, 0x40, 8, 4, 1, 0, 0, 0, 0, 0, 0xE0010000, none, []⟩,  -- TRCu_STAT
  ⟨0x2624, 0x40, 8, 4, 1, 0, 0, 0, 0, 0, 0x3FFF, none, []⟩,  -- TRCu_TRIGPOS
  ⟨0x2628, 0x40, 8, 4, 1, 0, 0, 0, 0, 0, 0x3FFF, none, []⟩,  -- TRCu_LAST
  ⟨0x262C, 0x40, 8, 4, 1, 0, 0, 0, 0, 0, 0xFFFFFFFF, none, []⟩,  -- TRCu_TMONO_LO
  ⟨0x2630, 0x40, 8, 4, 1, 0, 0, 0, 0, 0, 0xFFFFFFFF, none, []⟩,  -- TRCu_TMONO_HI
  ⟨0x2634, 0x40, 8, 4, 1, 0, 0, 0, 0, 0, 0xFFFFFFFF, none, []⟩,  -- TRCu_TGFC
  ⟨0x2638, 0x40, 8, 4, 1, 0, 0xFFFF, 0, 0, 0, 0xFFFF, none, []⟩,  -- TRCu_RADDR
  ⟨0x263C, 0x40, 8, 4, 1, 0, 0, 0, 0, 0, 0xFFFFFFFF, none, []⟩]  -- TRCu_RDATA

/-- Register rows of block `phs` (R225). -/
def phsRows : List RegRow := [
  ⟨0x2C00, 0x10000000, 1, 4, 1, 0x200080, 0, 0, 0, 0, 0xFF00FF, none, []⟩,  -- PHS_CAP
  ⟨0x2C04, 0x10000000, 1, 4, 1, 0, 0, 0, 0, 0, 0xC00000FF, none, []⟩,  -- PHS_STAT
  ⟨0x2C08, 0x10000000, 1, 4, 1, 0, 0, 0, 0, 0x80000000, 0x80000000, none, []⟩,  -- PHS_CMD
  ⟨0x2C0C, 0x10000000, 1, 4, 1, 0, 0, 0, 0, 0, 0xFFFFFFFF, none, []⟩,  -- PHS_CAPREQ
  ⟨0x2C10, 0x10000000, 1, 4, 1, 0, 0x7F, 0, 0, 0, 0x7F, none, []⟩,  -- PW_IDX
  ⟨0x2C14, 0x10000000, 1, 4, 1, 0, 0x1F, 0, 0, 0, 0x1F, none, []⟩,  -- SW_IDX
  ⟨0x2C18, 0x10000000, 1, 4, 1, 0, 1, 0, 0, 0, 1, none, []⟩,  -- PHS_VIEW
  ⟨0x2C1C, 0x10000000, 1, 4, 1, 0, 0, 0, 0, 0, 0xFFFF, none, [(15, 0)]⟩,  -- PHS_KILLCNT
  ⟨0x2C40, 0x10000000, 1, 4, 8, 0, 0, 0, 0, 0, 0xFFFFFFFF, none, []⟩,  -- PHS_PSTATi
  ⟨0x2C60, 0x10000000, 1, 4, 2, 0, 0, 0, 0, 0, 0xFFFFFFFF, none, []⟩]  -- PHS_SSTATi

/-- Register rows of block `winPhase` (R226). -/
def winPhaseRows : List RegRow := [
  ⟨0x11000, 0x20, 128, 4, 1, 0, 0, 0, 0xCF71F0FF, 0, 0xCF71F0FF, some 3, []⟩,  -- PT_LOC
  ⟨0x11004, 0x20, 128, 4, 1, 0, 0, 0, 0x1FF, 0, 0x1FF, some 3, []⟩,  -- PT_SENSE
  ⟨0x11008, 0x20, 128, 4, 1, 0, 0, 0, 0x1FFFF, 0, 0x1FFFF, some 4, []⟩,  -- PT_DT
  ⟨0x1100C, 0x20, 128, 4, 1, 0, 0, 0, 0, 0x80000000, 0x80000000, none, []⟩,  -- PT_CMD
  ⟨0x11010, 0x20, 128, 4, 1, 0, 0, 0, 0, 0, 0xFE00FFFF, none, []⟩,  -- PT_STAT
  ⟨0x11014, 0x20, 128, 4, 1, 0, 0, 0, 0, 0, 0xFFFFFF, none, []⟩,  -- PT_TON
  ⟨0x11018, 0x20, 128, 4, 1, 0, 0, 0, 0, 0, 0xFFFFFFFF, none, []⟩]  -- PT_PFCNT

/-- Register rows of block `winStage` (R227). -/
def winStageRows : List RegRow := [
  ⟨0x12000, 0x80, 32, 4, 1, 0, 0, 0, 0xEFFF30FF, 0, 0xEFFF30FF, some 3, []⟩,  -- ST_CFG
  ⟨0x12004, 0x80, 32, 4, 1, 0, 0, 0, 0xFFFFFF, 0, 0xFFFFFF, some 4, []⟩,  -- ST_PER
  ⟨0x12008, 0x80, 32, 4, 1, 0, 0, 0, 0xFFFF0FFF, 0, 0xFFFF0FFF, some 4, []⟩,  -- ST_DITH
  ⟨0x1200C, 0x80, 32, 4, 1, 0, 0, 0, 0xFFFFFF, 0, 0xFFFFFF, some 4, []⟩,  -- ST_ORG
  ⟨0x12010, 0x80, 32, 4, 1, 0, 0, 0, 0x9FFF71FF, 0, 0x9FFF71FF, some 3, []⟩,  -- ST_VCH
  ⟨0x12014, 0x80, 32, 4, 1, 0, 0, 0, 0x81FF, 0, 0x81FF, some 3, []⟩,  -- ST_TCH
  ⟨0x12018, 0x80, 32, 4, 1, 0, 0, 0, 0xFFFFF, 0, 0xFFFFF, some 3, []⟩,  -- ST_ILIM
  ⟨0x1201C, 0x80, 32, 4, 1, 0, 0, 0, 0xFFFFFFFF, 0, 0xFFFFFFFF, some 5, []⟩,  -- ST_WIN
  ⟨0x12020, 0x80, 32, 4, 1, 0, 0, 0, 0xFFFFFFFF, 0, 0xFFFFFFFF, some 5, []⟩,  -- ST_VSET
  ⟨0x12024, 0x80, 32, 4, 1, 0, 0, 0, 0xFFFFFF, 0, 0xFFFFFF, some 5, []⟩,  -- ST_SLEW
  ⟨0x12028, 0x80, 32, 4, 1, 0, 0, 0, 0xFFFFFFFF, 0, 0xFFFFFFFF, some 6, []⟩,  -- ST_CURB0
  ⟨0x1202C, 0x80, 32, 4, 1, 0, 0, 0, 0xFFFFFFFF, 0, 0xFFFFFFFF, some 6, []⟩,  -- ST_CURB1
  ⟨0x12030, 0x80, 32, 4, 1, 0, 0, 0, 0xFFFFFFFF, 0, 0xFFFFFFFF, some 7, []⟩,  -- ST_SPUR0
  ⟨0x12034, 0x80, 32, 4, 1, 0, 0, 0, 0xFFFFFFFF, 0, 0xFFFFFFFF, some 7, []⟩,  -- ST_SPUR1
  ⟨0x12038, 0x80, 32, 4, 1, 0, 0, 0, 0xFFFF000F, 0, 0xFFFF000F, some 7, []⟩,  -- ST_SPUR2
  ⟨0x1203C, 0x80, 32, 4, 1, 0, 0, 0, 0xFFFFFFFF, 0, 0xFFFFFFFF, some 3, []⟩,  -- ST_PF0
  ⟨0x12040, 0x80, 32, 4, 1, 0, 0, 0, 0xFFFF07FF, 0, 0xFFFF07FF, some 3, []⟩,  -- ST_PF1
  ⟨0x12044, 0x80, 32, 4, 1, 0, 0, 0, 0xFFFFFFFF, 0, 0xFFFFFFFF, some 3, []⟩,  -- ST_PF2
  ⟨0x12048, 0x80, 32, 4, 1, 0, 0, 0, 0xFFFFFFFF, 0, 0xFFFFFFFF, some 3, []⟩,  -- ST_PF3
  ⟨0x1204C, 0x80, 32, 4, 1, 0, 0, 0, 0, 3, 3, none, []⟩,  -- ST_CTL
  ⟨0x12050, 0x80, 32, 4, 1, 0, 0, 0, 0, 0, 0xFEFFFFFF, none, []⟩,  -- ST_STAT
  ⟨0x12054, 0x80, 32, 4, 1, 0, 0, 0, 0, 0, 0xFFFFFFFF, none, []⟩,  -- ST_REF
  ⟨0x12058, 0x80, 32, 4, 1, 0, 0, 0, 0, 0, 0xFFFFFFFF, none, []⟩,  -- ST_CURBL
  ⟨0x1205C, 0x80, 32, 4, 1, 0, 0, 0, 0, 0, 0xFFFFF, none, []⟩,  -- ST_DLIM
  ⟨0x12060, 0x80, 32, 4, 1, 0, 0, 0, 0, 0, 0xFFFFFFFF, none, []⟩,  -- ST_LOAD
  ⟨0x12064, 0x80, 32, 4, 1, 0, 0, 0, 0, 0, 0xFF, none, []⟩,  -- ST_NREQ
  ⟨0x12068, 0x80, 32, 4, 1, 0, 0, 0, 0, 0, 0xFFFF, none, [(15, 0)]⟩,  -- ST_SPURCNT
  ⟨0x1206C, 0x80, 32, 4, 1, 0, 0, 0, 0, 0, 0xFFFF, none, [(15, 0)]⟩]  -- ST_PFCNT

/-- Register rows of block `edg` (R229). -/
def edgRows : List RegRow := [
  ⟨0x2800, 0x40, 16, 4, 1, 0xA, 0, 0, 0x3F, 0, 0x3F, some 4, []⟩,  -- EDG_CFG
  ⟨0x2804, 0x40, 16, 4, 1, 0, 0, 0, 0, 0, 0x7F1F, none, []⟩,  -- EDG_STAT
  ⟨0x2808, 0x40, 16, 4, 1, 0, 0, 0, 0, 0, 0xFFFFFFFF, none, [(31, 0)]⟩]  -- EDG_PULSES

/-- Register rows of block `shf` (R258). -/
def shfRows : List RegRow := [
  ⟨0x3000, 0x10000000, 1, 4, 1, 0x7040810, 0, 0, 0, 0, 0xFFFFFFFF, none, []⟩,  -- SHF_CAP
  ⟨0x3004, 0x10000000, 1, 4, 1, 0, 0, 0, 0, 0, 0x7F007B, none, []⟩,  -- SHF_STAT
  ⟨0x3008, 0x10000000, 1, 4, 1, 0, 0, 0, 0x1F73, 0, 0x1F73, some 12, []⟩,  -- SHF_CFG
  ⟨0x300C, 0x10000000, 1, 4, 1, 0, 0, 0, 0, 0, 0xFFFFFFFF, none, []⟩,  -- SHF_PWR
  ⟨0x3010, 0x10000000, 1, 4, 1, 0xFFFFFFFF, 0, 0, 0, 0, 0xFFFFFFFF, none, []⟩,  -- SHF_HUTEST
  ⟨0x3014, 0x10000000, 1, 4, 1, 0, 0, 0, 0, 0, 0xFFFFFFF, none, []⟩,  -- SHF_CAPLVL
  ⟨0x3018, 0x10000000, 1, 4, 1, 0, 0, 0, 0, 0xFF00, 0xFF00, none, []⟩,  -- SHF_CMD
  ⟨0x301C, 0x10000000, 1, 4, 1, 7, 7, 0, 0, 0, 7, none, []⟩,  -- MB_SEL
  ⟨0x3020, 0x10000000, 1, 4, 1, 0, 0, 0, 0xFFFFFFFF, 0, 0xFFFFFFFF, some 12, []⟩,  -- SH_SHED
  ⟨0x3024, 0x10000000, 1, 4, 1, 0, 0, 0, 0xFFFF0FFF, 0, 0xFFFF0FFF, some 12, []⟩,  -- SH_PAR
  ⟨0x3028, 0x10000000, 1, 4, 1, 0, 0, 0, 0, 0, 0xFFFFFFFF, none, []⟩,  -- SH_ONLINE
  ⟨0x302C, 0x10000000, 1, 4, 1, 0, 0, 0, 0, 0, 0xFFFF, none, []⟩,  -- SH_INFAIL
  ⟨0x3030, 0x10000000, 1, 4, 4, 0x7FFF7FFF, 0, 0, 0xFFFFFFFF, 0, 0xFFFFFFFF, some 12, []⟩,  -- SH_KTi
  ⟨0x3040, 0x10000000, 1, 4, 4, 0x7FFF7FFF, 0, 0, 0xFFFFFFFF, 0, 0xFFFFFFFF, some 12, []⟩,  -- SH_KEi
  ⟨0x3060, 0x10000000, 1, 4, 8, 0, 0, 0, 0xC003FFFF, 0, 0xC003FFFF, some 12, []⟩,  -- SHF_PPAIRi
  ⟨0x3080, 0x10000000, 1, 4, 1, 0, 0, 0, 0xC1FFFFFF, 0, 0xC1FFFFFF, some 12, []⟩,  -- HU_CFG
  ⟨0x3084, 0x10000000, 1, 4, 1, 0, 0, 0, 0xFFFFFFFF, 0, 0xFFFFFFFF, some 12, []⟩,  -- HU_INWIN
  ⟨0x3088, 0x10000000, 1, 4, 1, 0, 0, 0, 0xFFFF01FF, 0, 0xFFFF01FF, some 12, []⟩,  -- HU_BUS
  ⟨0x308C, 0x10000000, 1, 4, 1, 0, 0, 0, 0xFFFFFFFF, 0, 0xFFFFFFFF, some 12, []⟩,  -- HU_PRE
  ⟨0x3090, 0x10000000, 1, 4, 1, 0, 0, 0, 0xFFFFFFFF, 0, 0xFFFFFFFF, some 12, []⟩,  -- HU_REC
  ⟨0x3094, 0x10000000, 1, 4, 1, 0, 0, 0, 0xFFFFFFFF, 0, 0xFFFFFFFF, some 12, []⟩,  -- HU_TLOW
  ⟨0x3098, 0x10000000, 1, 4, 1, 0, 0, 0, 0xFFFF, 0, 0xFFFF, some 12, []⟩,  -- PS_CAP
  ⟨0x309C, 0x10000000, 1, 4, 1, 0, 0, 0, 0xFFFFFFFF, 0, 0xFFFFFFFF, some 12, []⟩,  -- BT_CC
  ⟨0x30A0, 0x10000000, 1, 4, 1, 0, 0, 0, 0xFFFFFFFF, 0, 0xFFFFFFFF, some 12, []⟩,  -- BT_CV0
  ⟨0x30A4, 0x10000000, 1, 4, 1, 0, 0, 0, 0xFFFFFFFF, 0, 0xFFFFFFFF, some 12, []⟩,  -- BT_CV1
  ⟨0x30A8, 0x10000000, 1, 4, 1, 0, 0, 0, 0xFFFF, 0, 0xFFFF, some 12, []⟩,  -- BT_FLT
  ⟨0x30AC, 0x10000000, 1, 4, 1, 0, 0, 0, 0xFFFFFFFF, 0, 0xFFFFFFFF, some 12, []⟩,  -- BT_LIM
  ⟨0x30B0, 0x10000000, 1, 4, 1, 0, 0, 0, 0xFFFFFFFF, 0, 0xFFFFFFFF, some 12, []⟩,  -- BT_TERM
  ⟨0x30B4, 0x10000000, 1, 4, 1, 0, 0, 0, 0xFFFFFFFF, 0, 0xFFFFFFFF, some 12, []⟩,  -- HU_PWU
  ⟨0x30C0, 0x10000000, 1, 4, 1, 0x7FFF0000, 0, 0, 0xFFFFFFFF, 0, 0xFFFFFFFF, some 12, []⟩,  -- CP_CFG
  ⟨0x30C4, 0x10000000, 1, 4, 1, 0x101, 0, 0, 0xFFFF, 0, 0xFFFF, some 12, []⟩,  -- CP_RATE
  ⟨0x30C8, 0x10000000, 1, 4, 1, 0, 0, 0, 0xFFFFFFFF, 0, 0xFFFFFFFF, some 12, []⟩,  -- CP_REQ
  ⟨0x30D0, 0x10000000, 1, 4, 8, 0, 0, 0, 0x1FFFF, 0, 0x1FFFF, some 12, []⟩,  -- CP_THk
  ⟨0x30F0, 0x10000000, 1, 4, 1, 0, 0, 0, 0xFFFFFFFF, 0, 0xFFFFFFFF, some 12, []⟩,  -- PM_EN
  ⟨0x30F4, 0x10000000, 1, 4, 1, 0, 0, 0, 0xFFFFFFFF, 0, 0xFFFFFFFF, some 12, []⟩,  -- PM_THR
  ⟨0x30F8, 0x10000000, 1, 4, 1, 0, 0, 0, 0xFFF, 0, 0xFFF, some 12, []⟩,  -- PM_PAR
  ⟨0x3100, 0x10000000, 1, 8, 16, 0, 0, 0, 0x3FFFF, 0, 0x3FFFF, some 12, []⟩,  -- SHM_CFGm
  ⟨0x3104, 0x10000000, 1, 8, 16, 0, 0, 0, 0x7FFFFFF, 0, 0x7FFFFFF, some 12, []⟩,  -- SHM_CHm
  ⟨0x3180, 0x10000000, 1, 16, 8, 0, 0, 0, 0x87FFFFFF, 0, 0x87FFFFFF, some 12, []⟩,  -- BS_CHs
  ⟨0x3184, 0x10000000, 1, 16, 8, 0, 0, 0, 0xFFFFFFFF, 0, 0xFFFFFFFF, some 12, []⟩,  -- BS_Es
  ⟨0x3188, 0x10000000, 1, 16, 8, 0, 0, 0, 0, 0, 0xFFFF0007, none, []⟩,  -- BS_STATs
  ⟨0x318C, 0x10000000, 1, 16, 8, 0, 0, 0, 0x1F, 0, 0x1F, some 12, []⟩,  -- BS_LOCs
  ⟨0x3380, 0x10000000, 1, 16, 4, 0, 0, 0, 0xC000FFFF, 0, 0xC000FFFF, some 12, []⟩,  -- PG_CFGk
  ⟨0x3384, 0x10000000, 1, 16, 4, 0, 0, 0, 0xFFFFFFFF, 0, 0xFFFFFFFF, some 12, []⟩,  -- PG_STGk
  ⟨0x3388, 0x10000000, 1, 16, 4, 0, 0, 0, 0xFFFFFFFF, 0, 0xFFFFFFFF, some 12, []⟩,  -- PG_FDRLOk
  ⟨0x338C, 0x10000000, 1, 16, 4, 0, 0, 0, 0xFFFFFFFF, 0, 0xFFFFFFFF, some 12, []⟩,  -- PG_FDRHIk
  ⟨0x33C0, 0x10000000, 1, 4, 4, 0, 0, 0, 0xFFFFFFFF, 0, 0xFFFFFFFF, some 12, []⟩,  -- PG_FWINk
  ⟨0x33D0, 0x10000000, 1, 4, 1, 0, 0, 0, 0xFFFFFFFF, 0, 0xFFFFFFFF, some 12, []⟩,  -- PG_FTEN
  ⟨0x33D4, 0x10000000, 1, 4, 1, 0, 0, 0, 0xFFFF, 0, 0xFFFF, some 12, []⟩,  -- PG_FTIME
  ⟨0x33D8, 0x10000000, 1, 4, 1, 0, 0, 0, 0, 0, 0xFF, none, []⟩,  -- PG_STAT
  ⟨0x33DC, 0x10000000, 1, 4, 1, 0, 0, 0, 0, 0, 0xFFFFFFFF, none, []⟩]  -- SHF_FTRUN

/-- Register rows of block `winMb` (R258). -/
def winMbRows : List RegRow := [
  ⟨0x20000, 0x200, 8, 4, 1, 0x100A00, 0, 0, 0xFFFF1F01, 0, 0xFFFF1F01, some 13, []⟩,  -- MB_MODE
  ⟨0x20004, 0x200, 8, 4, 1, 0, 0, 0, 0, 0, 0x1FFFF, none, []⟩,  -- MB_PSEQ
  ⟨0x20008, 0x200, 8, 4, 1, 0, 0, 0, 0, 0, 0xFFFFFFFF, none, []⟩,  -- MB_PGFC
  ⟨0x2000C, 0x200, 8, 4, 1, 0, 0, 0, 0, 0, 0xFFFFFFFF, none, []⟩,  -- MB_DGFC
  ⟨0x20010, 0x200, 8, 4, 1, 0, 0, 0, 0, 0x8000FFFF, 0x8000FFFF, none, []⟩,  -- MB_DCTL
  ⟨0x20014, 0x200, 8, 4, 1, 0, 0, 0x80000000, 0, 0, 0x800FFFFF, none, []⟩,  -- MB_DSTAT
  ⟨0x20018, 0x200, 8, 4, 1, 0, 0, 0, 0, 0, 0xFFFF, none, [(15, 0)]⟩,  -- MB_FBCNT
  ⟨0x20040, 0x200, 8, 4, 48, 0, 0, 0, 0, 0, 0xFFFFFFFF, none, []⟩,  -- MB_INi
  ⟨0x20100, 0x200, 8, 4, 32, 0, 0xFFFFFFFF, 0, 0, 0, 0xFFFFFFFF, none, []⟩]  -- MB_DECi

/-- Register rows of block `fdr` (R279). -/
def fdrRows : List RegRow := [
  ⟨0x3400, 0x20, 64, 4, 1, 0, 0, 0, 0xFF7FFFFF, 0, 0xFF7FFFFF, some 8, []⟩,  -- FDR_CFG
  ⟨0x3404, 0x20, 64, 4, 1, 0, 0, 0, 0xFFFFFFFF, 0, 0xFFFFFFFF, some 8, []⟩,  -- FDR_FAST
  ⟨0x3408, 0x20, 64, 4, 1, 0, 0, 0, 0xFFFFFFFF, 0, 0xFFFFFFFF, some 8, []⟩,  -- FDR_INR
  ⟨0x340C, 0x20, 64, 4, 1, 0, 0, 0, 0xFFFFFFFF, 0, 0xFFFFFFFF, some 8, []⟩,  -- FDR_SLOW
  ⟨0x3410, 0x20, 64, 4, 1, 0, 0, 0, 0xFFFFFFFF, 0, 0xFFFFFFFF, some 8, []⟩,  -- FDR_KTRIP
  ⟨0x3414, 0x20, 64, 4, 1, 0, 0, 0, 0xFFFFFFFF, 0, 0xFFFFFFFF, some 8, []⟩,  -- FDR_CAPL
  ⟨0x3418, 0x20, 64, 4, 1, 0, 0x30000001, 0, 0, 0x80000000, 0xFFFF0003, none, []⟩,  -- FDR_CTL
  ⟨0x341C, 0x20, 64, 4, 1, 0x7FFF8000, 0, 0, 0, 0, 0xFFFFFFFF, none, []⟩]  -- FDR_TRK

/-- Register rows of block `adc` (R312). -/
def adcRows : List RegRow := [
  ⟨0x3C00, 0x10000000, 1, 4, 1, 0x20021010, 0, 0, 0, 0, 0xFFFFFFFF, none, []⟩,  -- ADC_CAP
  ⟨0x3C04, 0x10000000, 1, 4, 1, 0, 0, 0, 0xFFFFFFFF, 0, 0xFFFFFFFF, some 11, []⟩,  -- ADC_PCFG
  ⟨0x3C08, 0x10000000, 1, 4, 1, 2, 0, 0, 3, 0, 3, some 11, []⟩,  -- ADC_PRATE
  ⟨0x3C0C, 0x10000000, 1, 4, 1, 0x10081, 0, 0, 0xFFFF00F1, 0, 0xFFFF00F1, some 11, []⟩,  -- ADC_ROT
  ⟨0x3C10, 0x10000000, 1, 4, 1, 0x400400, 0, 0, 0xFFFFFFFF, 0, 0xFFFFFFFF, some 11, []⟩,  -- ADC_ROTTOL
  ⟨0x3C14, 0x10000000, 1, 4, 1, 0, 0, 0, 0, 0, 0xFFFF1FFF, none, []⟩,  -- ADC_ROTSTAT
  ⟨0x3C18, 0x10000000, 1, 4, 1, 0, 0, 0x1FFFF, 0, 0, 0x1FFFF, none, []⟩,  -- ADC_PSTAT
  ⟨0x3C1C, 0x10000000, 1, 4, 1, 0, 0, 0xFFFF, 0, 0, 0xFFFF, none, []⟩,  -- ADC_FSTAT
  ⟨0x3C20, 0x10000000, 1, 16, 2, 0, 0, 0, 0xFFFF0FFF, 0, 0xFFFF0FFF, some 11, []⟩,  -- ADC_SEQc_CFG
  ⟨0x3C24, 0x10000000, 1, 16, 2, 0x76543210, 0, 0, 0x77777777, 0, 0x77777777, some 11, []⟩,  -- ADC_SEQc_LIST0
  ⟨0x3C28, 0x10000000, 1, 16, 2, 0x76543210, 0, 0, 0x77777777, 0, 0x77777777, some 11, []⟩,  -- ADC_SEQc_LIST1
  ⟨0x3C2C, 0x10000000, 1, 16, 2, 0, 0, 0, 0, 0, 0xC000FFFF, none, [(15, 0)]⟩,  -- ADC_SEQc_STAT
  ⟨0x3C40, 0x10000000, 1, 4, 1, 0, 0, 0, 0, 3, 3, none, []⟩,  -- ADC_SEQGO
  ⟨0x3C50, 0x10000000, 1, 4, 1, 0, 0x401F3FFF, 0, 0, 0, 0x401F3FFF, none, []⟩,  -- ADC_TDAC
  ⟨0x3C54, 0x10000000, 1, 4, 1, 0, 0xFFF, 0, 0, 0, 0xFFF, none, []⟩,  -- ADC_HTEST
  ⟨0x3C58, 0x10000000, 1, 4, 1, 0, 0, 0xC0000000, 0, 0, 0xF000FFFF, none, []⟩,  -- ADC_TSTAT
  ⟨0x3C80, 0x10000000, 1, 4, 1, 0, 0, 0, 0, 0xF00001FF, 0xF00001FF, none, []⟩,  -- CAL_CMD
  ⟨0x3C84, 0x10000000, 1, 4, 1, 0x10, 0x1F, 0, 0, 0, 0x1F, none, []⟩,  -- CAL_AVG
  ⟨0x3C88, 0x10000000, 1, 4, 1, 0, 0xFFFFFF, 0, 0, 0, 0xFFFFFF, none, []⟩,  -- CAL_REF
  ⟨0x3C8C, 0x10000000, 1, 4, 1, 0, 0, 0, 0, 0, 0xFF0001FF, none, []⟩,  -- CAL_STAT
  ⟨0x3C90, 0x10000000, 1, 4, 1, 0, 0x1FF, 0, 0, 0, 0x1FF, none, []⟩,  -- CAL_IDX
  ⟨0x3CBC, 0x10000000, 1, 4, 1, 0, 0, 0, 0, 0, 0xFFFFFFFF, none, []⟩,  -- CAL_GEPOCH (reset: kept)
  ⟨0x3CC0, 0x10000000, 1, 4, 1, 0, 1, 0, 0, 0, 1, none, []⟩,  -- CAL_VIEW
  ⟨0x3CC4, 0x10000000, 1, 4, 1, 0, 0, 0, 0, 0, 0xFFFFFFFF, none, []⟩]  -- CAL_NVSTAT

/-- Register rows of block `winCal` (R312). -/
def winCalRows : List RegRow := [
  ⟨0x14014, 0x40, 512, 4, 1, 0x10000000, 0, 0, 0xFFFFFFFF, 0, 0xFFFFFFFF, some 10, []⟩,  -- CAL_GAIN
  ⟨0x14018, 0x40, 512, 4, 1, 0, 0, 0, 0xFFFFFF, 0, 0xFFFFFF, some 10, []⟩,  -- CAL_OFS
  ⟨0x1401C, 0x40, 512, 4, 1, 0, 0, 0, 0, 0, 7, none, []⟩,  -- CAL_INFO
  ⟨0x14020, 0x40, 512, 4, 4, 0, 0, 0, 0xFFFFFFFF, 0, 0xFFFFFFFF, some 10, []⟩,  -- CAL_TAGi
  ⟨0x14030, 0x40, 512, 4, 1, 0, 0, 0, 0, 0, 0xFFFFFFFF, none, []⟩,  -- CAL_EPOCH
  ⟨0x14034, 0x40, 512, 4, 1, 0, 0, 0, 0, 0, 0xFFFFFFFF, none, []⟩,  -- CAL_RWALL_LO
  ⟨0x14038, 0x40, 512, 4, 1, 0, 0, 0, 0, 0, 0xFFFFFFFF, none, []⟩]  -- CAL_RWALL_HI

/-- Register rows of block `met` (R313). -/
def metRows : List RegRow := [
  ⟨0x3E00, 0x10000000, 1, 4, 1, 0x820, 0, 0, 0, 0, 0xFFFF, none, []⟩,  -- MET_CAP
  ⟨0x3E04, 0x10000000, 1, 4, 1, 0, 0x60000000, 0, 0, 0x80000000, 0xE0000000, none, []⟩,  -- MET_CTL
  ⟨0x3E08, 0x10000000, 1, 4, 1, 0, 0, 0x40000000, 0, 0, 0xC000FFFF, none, []⟩,  -- MET_SNAPSTAT
  ⟨0x3E0C, 0x10000000, 1, 4, 1, 0, 0, 0, 0, 0, 0xFFFFFFFF, none, []⟩,  -- MET_SGFC
  ⟨0x3E10, 0x10000000, 1, 4, 1, 0, 0, 0, 0, 0, 0xFFFFFFFF, none, []⟩,  -- MET_SMONO_LO
  ⟨0x3E14, 0x10000000, 1, 4, 1, 0, 0, 0, 0, 0, 0xFFFFFFFF, none, []⟩,  -- MET_SMONO_HI
  ⟨0x3E18, 0x10000000, 1, 4, 1, 0, 0, 0, 0, 0, 0xFFFFFFFF, none, []⟩,  -- MET_SWALL_NS
  ⟨0x3E1C, 0x10000000, 1, 4, 1, 0, 0, 0, 0, 0, 0xFFFFFFFF, none, []⟩,  -- MET_SWALL_SLO
  ⟨0x3E20, 0x10000000, 1, 4, 1, 0, 0, 0, 0, 0, 0xFFFF, none, []⟩,  -- MET_SWALL_SHI
  ⟨0x3E24, 0x10000000, 1, 4, 1, 0, 0, 0, 0, 0, 0xFFFF, none, [(15, 0)]⟩,  -- MET_SREFCNT
  ⟨0x3E40, 0x10000000, 1, 4, 1, 0, 0x1F, 0, 0, 0, 0x1F, none, []⟩,  -- MET_EIDX
  ⟨0x3E70, 0x10000000, 1, 4, 1, 0, 0x1FF, 0, 0, 0, 0x1FF, none, []⟩,  -- MET_SIDX
  ⟨0x3E74, 0x10000000, 1, 4, 1, 0, 0, 0, 0, 0, 0xFFFFFFFF, none, []⟩,  -- MET_SCNT_LO
  ⟨0x3E78, 0x10000000, 1, 4, 1, 0, 0, 0, 0, 0, 0xFFFF, none, []⟩,  -- MET_SCNT_HI
  ⟨0x3E7C, 0x10000000, 1, 4, 1, 0, 0, 0, 0, 0, 0xFFFFFFFF, none, []⟩,  -- MET_SSUM_LO
  ⟨0x3E80, 0x10000000, 1, 4, 1, 0, 0, 0, 0, 0, 0xFFFFFFFF, none, []⟩,  -- MET_SSUM_HI
  ⟨0x3E84, 0x10000000, 1, 4, 3, 0, 0, 0, 0, 0, 0xFFFFFFFF, none, []⟩,  -- MET_SSQi
  ⟨0x3E90, 0x10000000, 1, 4, 1, 0, 0, 0, 0, 0, 0xFFFFFFFF, none, []⟩,  -- MET_SMIN
  ⟨0x3E94, 0x10000000, 1, 4, 1, 0, 0, 0, 0, 0, 0xFFFFFFFF, none, []⟩,  -- MET_SMAX
  ⟨0x3E98, 0x10000000, 1, 4, 1, 0, 0, 0, 0, 0, 0xFFFFFFFF, none, []⟩,  -- MET_SEP
  ⟨0x3E9C, 0x10000000, 1, 4, 1, 0, 0, 0, 0, 0, 0xFFFFFFFF, none, []⟩,  -- MET_SEP2
  ⟨0x3EA0, 0x10000000, 1, 4, 1, 0, 0, 0, 0, 0, 7, none, []⟩,  -- MET_SFLG
  ⟨0x3EC0, 0x10000000, 1, 4, 8, 0, 0, 0, 0xFFFFFFFF, 0, 0xFFFFFFFF, some 11, []⟩,  -- MET_GRPg
  ⟨0x3EE0, 0x10000000, 1, 4, 1, 0, 7, 0, 0, 0, 7, none, []⟩,  -- MET_GIDX
  ⟨0x3EE4, 0x10000000, 1, 4, 1, 0, 0, 0, 0, 0, 0xFFFFFFFF, none, []⟩,  -- MET_GPOS_LO
  ⟨0x3EE8, 0x10000000, 1, 4, 1, 0, 0, 0, 0, 0, 0xFFFFFFFF, none, []⟩,  -- MET_GPOS_HI
  ⟨0x3EEC, 0x10000000, 1, 4, 1, 0, 0, 0, 0, 0, 0xFFFFFFFF, none, []⟩,  -- MET_GNEG_LO
  ⟨0x3EF0, 0x10000000, 1, 4, 1, 0, 0, 0, 0, 0, 0xFFFFFFFF, none, []⟩]  -- MET_GNEG_HI

/-- Register rows of block `winMet` (R313). -/
def winMetRows : List RegRow := [
  ⟨0x1C004, 0x40, 32, 4, 1, 0, 0, 0, 0x81FF01FF, 0, 0x81FF01FF, some 11, []⟩,  -- MET_EPAIR
  ⟨0x1C008, 0x40, 32, 4, 1, 0, 0, 0, 0xFFFFFFFF, 0, 0xFFFFFFFF, some 11, []⟩,  -- MET_EK_LO
  ⟨0x1C00C, 0x40, 32, 4, 1, 0, 0, 0, 0xFFFFFFFF, 0, 0xFFFFFFFF, some 11, []⟩,  -- MET_EK_HI
  ⟨0x1C010, 0x40, 32, 4, 1, 0, 0, 0, 0, 0, 0xFFFFFFFF, none, []⟩,  -- MET_ELIVE_LO
  ⟨0x1C014, 0x40, 32, 4, 1, 0, 0, 0, 0, 0, 0xFFFFFFFF, none, []⟩,  -- MET_ELIVE_HI
  ⟨0x1C018, 0x40, 32, 4, 1, 0, 0, 0, 0, 0, 0xFFFFFFFF, none, []⟩,  -- MET_ESNAP_LO
  ⟨0x1C01C, 0x40, 32, 4, 1, 0, 0, 0, 0, 0, 0xFFFFFFFF, none, []⟩,  -- MET_ESNAP_HI
  ⟨0x1C020, 0x40, 32, 4, 1, 0, 0, 0, 0, 0, 0x1D, none, []⟩,  -- MET_ESTAT
  ⟨0x1C024, 0x40, 32, 4, 1, 0, 0, 0, 0, 0, 0xFFFFFFFF, none, []⟩,  -- MET_EEPV
  ⟨0x1C028, 0x40, 32, 4, 1, 0, 0, 0, 0, 0, 0xFFFFFFFF, none, []⟩]  -- MET_EEPI

/-- Register rows of block `cmp` (R314). -/
def cmpRows : List RegRow := [
  ⟨0x4000, 0x10000000, 1, 4, 1, 0x8010, 0, 0, 0, 0, 0xFFFF, none, []⟩,  -- CMP_CAP
  ⟨0x4004, 0x10000000, 1, 4, 1, 0x800, 0, 0, 0xFFF, 0, 0xFFF, some 16, []⟩,  -- CMP_TICK
  ⟨0x4008, 0x10000000, 1, 4, 1, 0, 0, 0, 0, 0, 0xFFFFFFFF, none, []⟩,  -- CMP_STAT
  ⟨0x400C, 0x10000000, 1, 4, 1, 0, 0, 0, 0, 0, 0xFFFFFFFF, none, []⟩,  -- CMP_OUT
  ⟨0x4040, 0x10000000, 1, 16, 16, 0, 0, 0, 0xB00003FF, 0, 0xB00003FF, some 16, []⟩,  -- CMPk_CFG
  ⟨0x4044, 0x10000000, 1, 16, 16, 0, 0, 0, 0x3FF03FF, 0, 0x3FF03FF, some 16, []⟩,  -- CMPk_THR
  ⟨0x4048, 0x10000000, 1, 16, 16, 0, 0, 0, 0xFE0000FF, 0, 0xFE0000FF, some 16, []⟩,  -- CMPk_ROUTE
  ⟨0x404C, 0x10000000, 1, 16, 16, 0, 0, 0, 0, 0, 0xFFFF, none, [(15, 0)]⟩,  -- CMPk_CNT
  ⟨0x4180, 0x10000000, 1, 4, 1, 0, 0x7F, 0, 0, 0, 0x7F, none, []⟩,  -- WM_IDX
  ⟨0x419C, 0x10000000, 1, 4, 1, 0, 1, 0, 0, 0, 1, none, []⟩,  -- WM_VIEW
  ⟨0x41A0, 0x10000000, 1, 4, 4, 0, 0, 0, 0, 0, 0xFFFFFFFF, none, []⟩]  -- WM_OSUMi

/-- Register rows of block `winWm` (R314). -/
def winWmRows : List RegRow := [
  ⟨0x1D004, 0x20, 128, 4, 1, 0, 0, 0, 0x80FF01FF, 0, 0x80FF01FF, some 9, []⟩,  -- WM_CFG
  ⟨0x1D008, 0x20, 128, 4, 1, 0, 0, 0, 0xFFFFFFFF, 0, 0xFFFFFFFF, some 9, []⟩,  -- WM_LIM
  ⟨0x1D00C, 0x20, 128, 4, 1, 0, 0, 0, 0xFFFF, 0, 0xFFFF, some 9, []⟩,  -- WM_HYS
  ⟨0x1D010, 0x20, 128, 4, 1, 0, 0, 0, 0xFE0000FF, 0, 0xFE0000FF, some 9, []⟩,  -- WM_ROUTE
  ⟨0x1D014, 0x20, 128, 4, 1, 0, 0, 0, 0, 0, 0xFF03, none, []⟩,  -- WM_STAT
  ⟨0x1D018, 0x20, 128, 4, 1, 0, 0, 0, 0, 0, 0xFFFF, none, [(15, 0)]⟩]  -- WM_HITS

/-- Register rows of block `hk` (R327). -/
def hkRows : List RegRow := [
  ⟨0xA00, 0x10000000, 1, 4, 1, 0x18, 0, 0, 0, 0, 0xFF, none, []⟩,  -- HK_CAP
  ⟨0xA04, 0x10000000, 1, 4, 1, 0, 0, 0, 0, 0, 0xFE000000, none, []⟩,  -- HK_STAT
  ⟨0xA08, 0x10000000, 1, 4, 1, 3, 0, 0, 3, 0, 3, some 15, []⟩,  -- HK_CFG
  ⟨0xA0C, 0x10000000, 1, 4, 1, 0x8700730, 0, 0, 0xFFFFFFFF, 0, 0xFFFFFFFF, some 15, []⟩,  -- HK_TLIM
  ⟨0xA10, 0x10000000, 1, 4, 1, 0x1F41388, 0, 0, 0xFFFFFFFF, 0, 0xFFFFFFFF, some 15, []⟩,  -- HK_RATE
  ⟨0xA14, 0x10000000, 1, 4, 1, 0, 0, 0, 0, 0, 0xFFFFFFFF, none, []⟩,  -- HK_TEMP
  ⟨0xA18, 0x10000000, 1, 4, 1, 0, 0, 0, 0, 0, 0xFFFFFFFF, none, []⟩,  -- HK_TFINE
  ⟨0xA1C, 0x10000000, 1, 4, 1, 0, 0, 0, 0, 0, 0xFFFFFFFF, none, []⟩,  -- HK_RISE
  ⟨0xA20, 0x10000000, 1, 4, 1, 0, 0, 0, 0, 0, 0xFFFFFFFF, none, [(31, 0)]⟩,  -- HK_ROUNDS
  ⟨0xA24, 0x10000000, 1, 4, 1, 0, 0x1F, 0, 0, 0, 0x1F, none, []⟩,  -- HK_SEL
  ⟨0xA34, 0x10000000, 1, 4, 1, 0, 0, 0, 0, 0, 0xFFFFFF, none, []⟩,  -- HK_SUPSTAT
  ⟨0xA38, 0x10000000, 1, 4, 1, 0, 0, 0xFFFFFF, 0, 0, 0xFFFFFF, none, []⟩]  -- HK_SUPSTKY

/-- Register rows of block `winHk` (R327). -/
def winHkRows : List RegRow := [
  ⟨0x1E000, 0x10, 24, 4, 1, 0, 0, 0, 0, 0, 0xFFFFFFFF, none, []⟩,  -- HK_VAL
  ⟨0x1E004, 0x10, 24, 4, 1, 0, 0, 0, 0xFFFFFFFF, 0, 0xFFFFFFFF, some 15, []⟩,  -- HK_SUPLIM (reset: per slot)
  ⟨0x1E008, 0x10, 24, 4, 1, 0, 0, 0, 1, 0, 1, some 15, []⟩]  -- HK_SUPCFG (reset: per slot)

/-- Register rows of block `pair` (R351). -/
def pairRows : List RegRow := [
  ⟨0x900, 0x10000000, 1, 4, 1, 0, 0, 0x8000000, 0, 0, 0xFF800000, none, []⟩,  -- PAIR_STAT
  ⟨0x904, 0x10000000, 1, 4, 1, 0, 0, 0, 0, 0, 0xFFFFFFFF, none, []⟩,  -- PAIR_CLAIM
  ⟨0x908, 0x10000000, 1, 4, 1, 3, 0x40000003, 0, 0, 0x80000000, 0xC0000003, none, []⟩,  -- PAIR_CTL
  ⟨0x90C, 0x10000000, 1, 4, 1, 0xA0018, 0, 0, 0xFFFF00FF, 0, 0xFFFF00FF, some 14, []⟩,  -- PAIR_REMINT
  ⟨0x910, 0x10000000, 1, 4, 1, 0xFFFFFFFF, 0, 0, 0, 0, 0xFFFFFFFF, none, []⟩,  -- PAIR_REMNEXT
  ⟨0x914, 0x10000000, 1, 4, 1, 0, 0, 0, 0, 0, 0xF1F, none, []⟩,  -- PAIR_TDSTAT
  ⟨0x918, 0x10000000, 1, 4, 1, 0, 0, 0, 0, 0, 0xFFFFFFFF, none, []⟩,  -- PAIR_ALIGN
  ⟨0x91C, 0x10000000, 1, 4, 1, 0, 0, 0, 0, 0, 0xFFFF0007, none, []⟩,  -- PAIR_SYNC
  ⟨0x920, 0x10000000, 1, 4, 1, 0, 0, 0, 0, 0, 0xFFFFFFFF, none, []⟩,  -- PAIR_SYNCGFC
  ⟨0x924, 0x10000000, 1, 4, 1, 0, 0, 0, 0, 0, 0x800F0000, none, []⟩,  -- PAIR_MM
  ⟨0x928, 0x10000000, 1, 4, 1, 0, 0, 0, 0, 0, 0xFFFFFFFF, none, []⟩,  -- PAIR_MMGFC
  ⟨0x92C, 0x10000000, 1, 4, 1, 0, 0, 0, 0, 0, 0xFFFFFFFF, none, [(31, 0)]⟩,  -- PAIR_MMCNT
  ⟨0x930, 0x10000000, 1, 4, 1, 0, 0, 0, 0, 0, 0xFFFF, none, [(15, 0)]⟩,  -- PAIR_SWAPCNT
  ⟨0x934, 0x10000000, 1, 4, 1, 0, 0, 0, 0, 0, 0xF, none, []⟩,  -- PAIR_LAST
  ⟨0x938, 0x10000000, 1, 4, 1, 0, 0, 0, 0, 0, 0xFFFFFFFF, none, []⟩,  -- PAIR_LASTGFC
  ⟨0x93C, 0x10000000, 1, 4, 1, 0, 0, 0, 0, 0, 0xF07, none, []⟩]  -- PAIR_HEALTH

/-- Register rows of block `flt` (R379). -/
def fltRows : List RegRow := [
  ⟨0x400, 0x10000000, 1, 4, 1, 0x1B0040, 0, 0, 0, 0, 0xFF00FF, none, []⟩,  -- FLT_CAP
  ⟨0x404, 0x10000000, 1, 4, 1, 0, 0, 0x60000000, 0, 0, 0xF07F007F, none, []⟩,  -- FLT_STAT
  ⟨0x408, 0x10000000, 1, 4, 1, 0xA, 0x3FF, 0, 0, 0, 0x3FF, none, []⟩,  -- FLT_CFG
  ⟨0x40C, 0x10000000, 1, 4, 1, 0, 0, 0, 0, 0x8000003F, 0x8000003F, none, []⟩,  -- FLT_RELEASE
  ⟨0x410, 0x10000000, 1, 4, 1, 0, 0, 0, 0, 0, 0xFFFFFFFF, none, []⟩,  -- FLT_LAST_LO
  ⟨0x414, 0x10000000, 1, 4, 1, 0, 0, 0, 0, 0, 0xFFFFFFFF, none, []⟩,  -- FLT_LAST_HI
  ⟨0x418, 0x10000000, 1, 4, 1, 0, 0, 0, 0, 0, 0xFFFFFFFF, none, []⟩,  -- FLT_LASTGFC
  ⟨0x41C, 0x10000000, 1, 4, 1, 0, 0, 0, 0, 0, 0xFFFFFFFF, none, [(31, 0)]⟩,  -- FLT_CNTCOR
  ⟨0x420, 0x10000000, 1, 4, 1, 0, 0, 0, 0, 0, 0xFFFFFFFF, none, [(31, 0)]⟩,  -- FLT_CNTCON
  ⟨0x424, 0x10000000, 1, 4, 1, 0, 0, 0, 0, 0, 0xFFFFFFFF, none, []⟩,  -- FLT_LIFECON (reset: kept)
  ⟨0x428, 0x10000000, 1, 4, 1, 0, 0, 0, 0, 0, 0xFFFFFFFF, none, []⟩,  -- FLT_LIFEFAT (reset: kept)
  ⟨0x42C, 0x10000000, 1, 4, 1, 0, 0, 0, 0, 0, 0xFFFF, none, [(15, 0)]⟩,  -- FLT_DROP
  ⟨0x430, 0x10000000, 1, 4, 1, 0, 0, 0, 0, 0, 0xFFFFFFFF, none, []⟩,  -- FLT_ECCADDR
  ⟨0x434, 0x10000000, 1, 4, 1, 0, 0, 0, 0, 0, 0x3FF0F, none, []⟩,  -- FLT_ECCINFO
  ⟨0x438, 0x10000000, 1, 4, 1, 0, 0, 0, 0, 0, 0xFFFFFFFF, none, []⟩,  -- FLT_SCRUB
  ⟨0x43C, 0x10000000, 1, 4, 1, 0, 0, 0, 0, 0, 0xFFFFFFFF, none, [(15, 0), (31, 16)]⟩,  -- FLT_ECCCNT
  ⟨0x440, 0x10000000, 1, 4, 1, 0, 0x3F, 0, 0, 0, 0x3F, none, []⟩,  -- FLT_EIDX
  ⟨0x444, 0x10000000, 1, 4, 1, 0, 0, 0, 0, 0, 0xFFFFFFFF, none, []⟩,  -- FLT_ENT_LO
  ⟨0x448, 0x10000000, 1, 4, 1, 0, 0, 0, 0, 0, 0xFFFFFFFF, none, []⟩,  -- FLT_ENT_HI
  ⟨0x44C, 0x10000000, 1, 4, 1, 0, 0, 0, 0, 0, 0xFFF00000, none, []⟩,  -- FLT_ENTS
  ⟨0x450, 0x10000000, 1, 4, 1, 0, 0, 0, 0, 0, 0xFFFFFFFF, none, []⟩,  -- FLT_ENTGFC
  ⟨0x460, 0x10000000, 1, 4, 1, 0, 0xFF, 0, 0, 0, 0xFF, none, []⟩]  -- FLT_KIDX

/-- Register rows of block `winFlt` (R379). -/
def winFltRows : List RegRow := [
  ⟨0x1E404, 0x10, 32, 4, 1, 0, 0, 0, 0, 0, 0xFF77FFFF, none, []⟩,  -- FLT_KIND (reset: per kind)
  ⟨0x1E408, 0x10, 32, 4, 1, 0, 0xFFFFFFFF, 0, 0, 0, 0xFFFFFFFF, none, []⟩,  -- FLT_RXN (reset: per kind)
  ⟨0x1E40C, 0x10, 32, 4, 1, 0, 0, 0, 0, 0, 0xFFFF, none, [(15, 0)]⟩]  -- FLT_KCNT

/-- Register rows of block `evt` (R381). -/
def evtRows : List RegRow := [
  ⟨0x300, 0x10000000, 1, 4, 1, 0x100, 0, 0, 0, 0, 0x1FF, none, []⟩,  -- EVT_CAP
  ⟨0x304, 0x10000000, 1, 4, 1, 0, 0, 0, 0, 0, 0x800700FF, none, []⟩,  -- EVT_TOP
  ⟨0x308, 0x10000000, 1, 4, 1, 0, 0x77, 0, 0, 0, 0x77, none, []⟩,  -- EVT_CFG
  ⟨0x30C, 0x10000000, 1, 4, 1, 0, 0xFF, 0, 0, 0, 0xFF, none, []⟩,  -- EVT_IDX
  ⟨0x320, 0x10000000, 1, 4, 8, 0, 0, 0xFFFFFFFF, 0, 0, 0xFFFFFFFF, none, []⟩,  -- EVT_PENDi
  ⟨0x340, 0x10000000, 1, 4, 8, 0, 0, 0xFFFFFFFF, 0, 0, 0xFFFFFFFF, none, []⟩]  -- EVT_CDCOVFi

/-- Register rows of block `winEvt` (R381). -/
def winEvtRows : List RegRow := [
  ⟨0x1F000, 0x10, 256, 4, 1, 0, 0xF4770000, 0, 0, 0, 0xFC770000, none, []⟩,  -- EVT_SRCCFG (reset: per source)
  ⟨0x1F004, 0x10, 256, 4, 1, 0, 0, 0, 0, 0, 0xFFFF, none, [(15, 0)]⟩,  -- EVT_SRCCNT
  ⟨0x1F008, 0x10, 256, 4, 1, 0, 0, 0, 0, 0, 0xFFFFFF, none, []⟩]  -- EVT_SRCLAST

/-- Register rows of block `inj` (R383). -/
def injRows : List RegRow := [
  ⟨0xB00, 0x10000000, 1, 4, 1, 0, 0, 0, 0, 0xFFFF, 0xFFFF, none, []⟩,  -- INJ_KEY
  ⟨0xB04, 0x10000000, 1, 4, 1, 0, 0, 0, 0, 0, 0xF00000FF, none, []⟩,  -- INJ_STAT
  ⟨0xB08, 0x10000000, 1, 4, 1, 0, 0, 0, 0, 0x80000000, 0x80000000, none, []⟩,  -- INJ_LOCK
  ⟨0xB10, 0x10000000, 1, 4, 1, 0, 0xFFFFFF, 0, 0, 0x80000000, 0x80FFFFFF, none, []⟩,  -- INJ_LCTL
  ⟨0xB14, 0x10000000, 1, 4, 1, 0, 0xFFFF, 0, 0, 0, 0xFFFF, none, []⟩,  -- INJ_LDUR
  ⟨0xB18, 0x10000000, 1, 4, 5, 0, 0xFFFFFFFF, 0, 0, 0, 0xFFFFFFFF, none, []⟩,  -- INJ_MASKi
  ⟨0xB2C, 0x10000000, 1, 4, 1, 0, 0, 0, 0, 0, 0xFFFFFFFF, none, []⟩,  -- INJ_LCNT
  ⟨0xB30, 0x10000000, 1, 4, 1, 0, 0xF80FFFF, 0, 0, 0x80000000, 0x8F80FFFF, none, []⟩,  -- INJ_ECTL
  ⟨0xB34, 0x10000000, 1, 4, 1, 0, 0, 0, 0, 0, 0xFFFFFFFF, none, []⟩,  -- INJ_EADDR
  ⟨0xB38, 0x10000000, 1, 4, 1, 0, 0xFF, 0, 0, 0x80000000, 0x800000FF, none, []⟩,  -- INJ_LANE
  ⟨0xB40, 0x10000000, 1, 4, 1, 0, 0xFFFFFFFF, 0, 0, 0, 0xFFFFFFFF, none, []⟩,  -- INJ_FM_LO
  ⟨0xB44, 0x10000000, 1, 4, 1, 0, 0xFFFFFFFF, 0, 0, 0, 0xFFFFFFFF, none, []⟩,  -- INJ_FM_HI
  ⟨0xB48, 0x10000000, 1, 4, 1, 0, 0, 0, 0, 0x80000000, 0x80000000, none, []⟩,  -- INJ_FMGO
  ⟨0xB4C, 0x10000000, 1, 4, 1, 0, 0, 0, 0, 0, 0xFFFF, none, [(15, 0)]⟩]  -- INJ_CNT

/-- Register rows of block `evr` (R402). -/
def evrRows : List RegRow := [
  ⟨0x500, 0x10000000, 1, 4, 1, 0x4000200, 0, 0, 0, 0, 0xFFFFFFFF, none, []⟩,  -- EVR_CAP
  ⟨0x504, 0x10000000, 1, 4, 1, 0, 0, 0xA0000000, 0, 0, 0xF000FFFF, none, []⟩,  -- EVR_STAT (reset: 0 at power-on)
  ⟨0x508, 0x10000000, 1, 4, 1, 0x102, 0x107, 0, 0, 0, 0x107, none, []⟩,  -- EVR_CFG
  ⟨0x50C, 0x10000000, 1, 4, 1, 1, 0, 0, 0, 0, 0xFFFFFFFF, none, []⟩,  -- EVR_SEQ (reset: kept; 1 in a new part, R389)
  ⟨0x510, 0x10000000, 1, 4, 1, 0, 0, 0, 0, 0, 0xFFFFFFFF, none, []⟩,  -- EVR_RCNT (reset: 0 at power-on)
  ⟨0x514, 0x10000000, 1, 4, 1, 0, 0, 0, 0, 0, 0xFFFFFFFF, none, []⟩,  -- EVR_LCNT (reset: kept)
  ⟨0x518, 0x10000000, 1, 4, 1, 0, 0, 0, 0, 0, 0xFFFFFFFF, none, []⟩,  -- EVR_OLDEST (reset: 0 at power-on)
  ⟨0x51C, 0x10000000, 1, 4, 1, 1, 0, 0, 0, 0, 0xFFFFFFFF, none, []⟩,  -- EVR_MIRSEQ (reset: R402; EVR_SEQ in a new part)
  ⟨0x520, 0x10000000, 1, 4, 1, 0, 0xFFFFFFFF, 0, 0, 0, 0xFFFFFFFF, none, []⟩,  -- EVR_RSEL
  ⟨0x524, 0x10000000, 1, 4, 1, 0, 1, 0, 0, 0, 1, none, []⟩,  -- EVR_RCTL
  ⟨0x528, 0x10000000, 1, 4, 1, 0, 0, 0, 0, 0, 0xF00003FF, none, []⟩,  -- EVR_RSTAT
  ⟨0x52C, 0x10000000, 1, 4, 1, 0, 0, 0, 0, 0, 0xFFFFFFFF, none, []⟩,  -- EVR_RSEQ
  ⟨0x530, 0x10000000, 1, 4, 1, 0, 0x7FC, 0, 0, 0, 0x7FF, none, []⟩,  -- EVR_ROFS
  ⟨0x534, 0x10000000, 1, 4, 1, 0, 0, 0, 0, 0, 0xFFFFFFFF, none, []⟩,  -- EVR_RDATA
  ⟨0x538, 0x10000000, 1, 4, 1, 0, 0, 0, 0, 0, 0xFFFFFFFF, none, [(31, 0)]⟩,  -- EVR_WRCNT
  ⟨0x53C, 0x10000000, 1, 4, 1, 0, 0, 0, 0, 0, 0xFFFFFFFF, none, []⟩,  -- EVR_NVWEAR (reset: kept)
  ⟨0x540, 0x10000000, 1, 4, 8, 0, 0, 0, 0, 0, 0xFFFFFFFF, none, [(31, 0)]⟩,  -- EVR_DROPs
  ⟨0x560, 0x10000000, 1, 4, 8, 0, 0, 0, 0, 0, 0xFFFFFFFF, none, [(31, 0)]⟩]  -- EVR_LDROPs (reset: kept)

/-- Register rows of block `sbg` (R403). -/
def sbgRows : List RegRow := [
  ⟨0x600, 0x10000000, 1, 4, 1, 0x24020, 0, 0, 0, 0, 0xFFFFFF, none, []⟩,  -- SBG_CAP
  ⟨0x604, 0x10000000, 1, 4, 1, 0, 0, 0, 0, 0, 0x800000FF, none, []⟩,  -- SBG_STAT
  ⟨0x608, 0x10000000, 1, 4, 1, 0, 1, 0, 0, 0, 1, none, []⟩,  -- SBG_CFG
  ⟨0x60C, 0x10000000, 1, 4, 1, 0, 0x7F, 0, 0, 0, 0x7F, none, []⟩,  -- SBG_SEL
  ⟨0x610, 0x10000000, 1, 4, 1, 0, 0, 0, 0, 0, 0xF000FFFF, none, []⟩,  -- SBG_SSTAT (reset: kept)
  ⟨0x614, 0x10000000, 1, 4, 1, 0, 0xFC, 0, 0, 0, 0xFF, none, []⟩,  -- SBG_ROFS
  ⟨0x618, 0x10000000, 1, 4, 1, 0, 0, 0, 0, 0, 0xFFFFFFFF, none, []⟩,  -- SBG_RDATA
  ⟨0x61C, 0x10000000, 1, 4, 1, 0, 0, 0, 0, 0xC0000000, 0xC0000000, none, []⟩,  -- SBG_ACK
  ⟨0x620, 0x10000000, 1, 4, 1, 0, 0, 0, 0, 0, 0xFFFFFFFF, none, [(31, 0)]⟩]  -- SBG_WRCNT

/-- Register rows of block `hst` (R425). -/
def hstRows : List RegRow := [
  ⟨0x700, 0x10000000, 1, 4, 1, 0x104, 0, 0, 0, 0, 0xFFFF, none, []⟩,  -- HST_CAP
  ⟨0x704, 0x10000000, 1, 4, 1, 0, 0, 0xF, 0, 0, 0xF87F000F, none, []⟩,  -- HST_STAT
  ⟨0x708, 0x10000000, 1, 4, 1, 0, 0x13, 0, 0, 0, 0x13, none, []⟩,  -- HST_CFG
  ⟨0x70C, 0x10000000, 1, 4, 1, 0, 0, 0, 0, 0, 0xFFFF, none, []⟩,  -- HST_PTR
  ⟨0x710, 0x10000000, 1, 8, 4, 0, 0x137F7F, 0, 0, 0, 0x137F7F, none, []⟩,  -- HST_ACMPk (reset: R409)
  ⟨0x714, 0x10000000, 1, 8, 4, 0, 0, 0, 0, 0, 0xFFFFFFFF, none, [(31, 0)]⟩,  -- HST_ACNTk
  ⟨0x730, 0x10000000, 1, 4, 1, 0, 0, 0, 0, 0, 0xFFFFFFFF, none, []⟩,  -- HST_WRSTAT
  ⟨0x734, 0x10000000, 1, 4, 1, 0, 0, 0, 0, 0, 0x1FFFF, none, []⟩,  -- HST_SPISTAT
  ⟨0x740, 0x10000000, 1, 4, 1, 0, 0, 0, 0, 0, 0xFFFFFFFF, none, [(15, 0), (31, 16)]⟩,  -- HST_PARTIAL
  ⟨0x744, 0x10000000, 1, 4, 1, 0, 0, 0, 0, 0, 0xFFFFFFFF, none, [(15, 0), (31, 16)]⟩,  -- HST_PECERR
  ⟨0x748, 0x10000000, 1, 4, 1, 0, 0, 0, 0, 0, 0xFFFFFFFF, none, [(15, 0), (31, 16)]⟩,  -- HST_TIMEOUT
  ⟨0x74C, 0x10000000, 1, 4, 1, 0, 0, 0, 0, 0, 0xFFFFFFFF, none, [(15, 0), (31, 16)]⟩,  -- HST_FWBUSY
  ⟨0x750, 0x10000000, 1, 4, 1, 0, 0, 0, 0, 0, 0xFFFF, none, [(15, 0)]⟩,  -- HST_RSVWR
  ⟨0x754, 0x10000000, 1, 4, 1, 0, 0, 0, 0, 0, 0xFFFFFFFF, none, [(15, 0), (31, 16)]⟩]  -- HST_ARA

/-- Register rows of block `upd` (R451). -/
def updRows : List RegRow := [
  ⟨0x800, 0x10000000, 1, 4, 1, 0x40104, 0, 0, 0, 0, 0xFFFFFF, none, []⟩,  -- UPD_CAP
  ⟨0x804, 0x10000000, 1, 4, 1, 0, 0, 0, 0, 0, 0xFF000003, none, []⟩,  -- UPD_STAT
  ⟨0x808, 0x10000000, 1, 4, 1, 0, 0, 0, 0, 0xF0000013, 0xF0000013, none, []⟩,  -- UPD_CTL
  ⟨0x80C, 0x10000000, 1, 4, 1, 0, 0xFFFFFF, 0, 0, 0, 0xFFFFFF, none, []⟩,  -- UPD_LEN
  ⟨0x810, 0x10000000, 1, 4, 1, 0, 0, 0, 0, 0xFFFFFFFF, 0xFFFFFFFF, none, []⟩,  -- UPD_DATA
  ⟨0x814, 0x10000000, 1, 4, 1, 0, 0, 0, 0, 0, 0xFFFFFF, none, []⟩,  -- UPD_OFS
  ⟨0x818, 0x10000000, 1, 4, 1, 0, 0, 0, 0, 0, 0xFFFF, none, []⟩,  -- UPD_RESULT
  ⟨0x81C, 0x10000000, 1, 4, 1, 0, 0, 0, 0, 0, 0xFFFFFFFF, none, []⟩,  -- UPD_CONFTMR
  ⟨0x820, 0x10000000, 1, 4, 1, 0, 3, 0, 0, 0, 3, none, []⟩,  -- UPD_SIDX
  ⟨0x824, 0x10000000, 1, 4, 1, 0, 0, 0, 0, 0, 0xFFFFFFFF, none, []⟩,  -- UPD_SVER
  ⟨0x828, 0x10000000, 1, 4, 1, 0, 0, 0, 0, 0, 0x7FF, none, []⟩,  -- UPD_SINFO
  ⟨0x82C, 0x10000000, 1, 4, 1, 0, 0, 0, 0, 0, 0xFFFF, none, []⟩,  -- UPD_ARB (reset: kept)
  ⟨0x830, 0x10000000, 1, 4, 1, 2, 0, 0, 0, 0, 0xFFFFFF03, none, []⟩,  -- UPD_OVL
  ⟨0x834, 0x10000000, 1, 4, 1, 0, 0, 0, 0, 0, 7, none, []⟩,  -- UPD_TRIAL (reset: kept)
  ⟨0x838, 0x10000000, 1, 4, 1, 0, 0, 0, 0, 0, 0xFFFF, none, [(15, 0)]⟩,  -- UPD_ERRCNT
  ⟨0x83C, 0x10000000, 1, 4, 1, 0, 0, 0, 0, 0, 7, none, []⟩]  -- UPD_OTP (reset: per part)

/-- Register rows of block `win` (R460). -/
def winRows : List RegRow := [
  ⟨0xF000, 0x10000000, 1, 4, 1, 2, 0, 0, 0, 0, 0xF, none, []⟩,  -- WIN_CAP
  ⟨0xF004, 0x10000000, 1, 4, 1, 0, 0xF, 0, 0, 0, 0xF, none, []⟩,  -- WIN_SEL
  ⟨0xF008, 0x10000000, 1, 4, 1, 0, 0xFFFFFC, 0, 0, 0, 0xFFFFFF, none, []⟩,  -- WIN_BASE
  ⟨0xF00C, 0x10000000, 1, 4, 1, 0x5480, 0, 0, 0, 0, 0x80FFFFFF, none, []⟩,  -- WIN_LEN
  ⟨0xF010, 0x10000000, 1, 4, 1, 0, 0, 0, 0, 0, 0xFFFFFFFF, none, []⟩]  -- WIN_DATA (reset: —)

end Sys2Proof.Machine
end

