-- ==== Sys2Proof/Machine/RegMap.lean ====
section
/-!
DEFINITION. Looking a register up by its key, and its reset value: the value of the register tables, with the values
that the spec gives per slot (R490), per kind (R357, R380), per source (R382) and per comparator (R409).
-/

namespace Sys2Proof.Machine

/-- The rows that can hold key `a`: the register tables are divided as the address map is (R453). -/
def rowsAt (a : Nat) : List RegRow :=
  if a < 0x10000 then
    if a < 0x1000 then
      match a / 0x100 with
      | 0 => sysRows | 1 => timRows | 2 => bootRows | 3 => evtRows | 4 => fltRows | 5 => evrRows | 6 => sbgRows
      | 7 => hstRows | 8 => updRows | 9 => pairRows | 0xA => hkRows | 0xB => injRows | _ => []
    else if a < 0x2000 then lnkRows
    else if a < 0x2400 then leRows
    else if a < 0x2600 then cwRows
    else if a < 0x2800 then trcRows
    else if a < 0x2C00 then edgRows
    else if a < 0x3000 then phsRows
    else if a < 0x3400 then shfRows
    else if a < 0x3C00 then fdrRows
    else if a < 0x3E00 then adcRows
    else if a < 0x4000 then metRows
    else if a < 0x4200 then cmpRows
    else if a < 0xF000 then []
    else if a < 0xF100 then winRows
    else []
  else if a < 0x11000 then winSchedRows
  else if a < 0x12000 then winPhaseRows
  else if a < 0x13000 then winStageRows
  else if a < 0x1C000 then winCalRows
  else if a < 0x1D000 then winMetRows
  else if a < 0x1E000 then winWmRows
  else if a < 0x1E400 then winHkRows
  else if a < 0x1F000 then winFltRows
  else if a < 0x20000 then winEvtRows
  else if a < 0x21000 then winMbRows
  else []

/-- The row of the register with key `a`. -/
def rowOf (a : Nat) : Option RegRow := (rowsAt a).find? (fun r => r.has a)

/-- The supply-monitor limits of a housekeeping slot at reset, LO in [15:0] and HI in [31:16] (R490). -/
def supplyLimReset (slot : Nat) : Nat :=
  let pack (lo hi : Nat) := lo + hi * 65536
  match slot with
  | 1 | 19 | 3 | 4 | 5 => pack 1650 3700
  | 2 | 18 => pack 760 840
  | 6 | 14 => pack 1240 1260
  | 7 | 8 | 20 => pack 1710 1890
  | 9 | 21 => pack 760 840
  | 10 | 11 => pack 855 945
  | 13 => pack 1425 1575
  | 22 => pack 950 1050
  | _ => 0

/-- Whether a slot's supply violation is fatal at reset (R326). -/
def supplyFatalReset (slot : Nat) : Nat :=
  match slot with
  | 1 | 2 | 9 | 13 | 18 | 19 => 1
  | _ => 0

/-- FLT_KIND of kind index `k` (R357, R379): code, base class, VAR, SEV, scope code. -/
def fltKindWord (k : Nat) : Nat :=
  let w (src kind cls var sev scope : Nat) := (src * 64 + kind) + cls * 65536 + var * 262144 + sev * 1048576 + scope * 16777216
  match k with
  | 0 => w 0x001 1 2 0 7 7
  | 1 => w 0x001 2 2 0 7 7
  | 2 => w 0x010 1 1 0 6 3
  | 3 => w 0x010 2 0 0 4 0xFF
  | 4 => w 0x020 1 2 0 7 7
  | 5 => w 0x020 2 2 0 7 7
  | 6 => w 0x020 3 2 0 7 7
  | 7 => w 0x024 1 1 0 5 0
  | 8 => w 0x02C 1 1 0 5 1
  | 9 => w 0x02C 2 1 0 6 2
  | 10 => w 0x02C 3 1 0 6 2
  | 11 => w 0x030 1 1 0 6 2
  | 12 => w 0x034 1 1 0 5 4
  | 13 => w 0x03C 1 0 0 4 0xFF
  | 14 => w 0x03C 2 0 0 4 0xFF
  | 15 => w 0x03C 3 0 0 4 0xFF
  | 16 => w 0x03C 4 2 0 7 7
  | 17 => w 0x040 1 1 0 5 0xFE
  | 18 => w 0x040 2 0 1 4 0xFE
  | 19 => w 0x00A 1 2 0 7 7
  | 20 => w 0x00A 2 0 0 4 0xFF
  | 21 => w 0x00A 3 0 1 4 0xFF
  | 22 => w 0x00A 4 2 0 7 7
  | 23 => w 0x3FF 1 1 0 6 7
  | 24 => w 0x3FF 2 1 0 6 7
  | 25 => w 0 62 0 0 4 0xFF
  | 26 => w 0 63 0 0 4 0xFF
  | _ => 0

/-- FLT_RXN of kind index `k` at reset (R380): LOG; FPIN too for contained and fatal kinds and for the kinds whose
class is chosen per message. -/
def fltRxnReset (k : Nat) : Nat :=
  if 27 ≤ k then 0
  else if (fltKindWord k / 65536) % 4 = 0 && (fltKindWord k / 262144) % 2 = 0 then 0x04000000
  else 0x0C000000

/-- Whether event source `src` is assigned (R134, R166, R198, R230, R260, R283, R315, R329, R354, R373, R427, R450). -/
def evtAssigned (src : Nat) : Bool :=
  src < 12 || (decide (24 ≤ src) && src < 29) || (decide (32 ≤ src) && src < 39) || (decide (48 ≤ src) && src < 54) ||
    (decide (64 ≤ src) && src < 104) || (decide (128 ≤ src) && src < 207) || (decide (224 ≤ src) && src < 234)

/-- EVT_SRCCFG at reset (R382). -/
def evtCfgReset (src : Nat) : Nat := if evtAssigned src then 0x8C200000 else 0

/-- HST_ACMPk at reset without the strap-dependent parts, which the start sequence loads (R409): MASK 0x7F; comparator
0 has FUNC 1 and the base address of straps read low, comparator 1 the pair alias address 0x5E with FUNC 0. -/
def acmpReset (k : Nat) : Nat :=
  match k with
  | 0 => 0x00017F40
  | 1 => 0x00007F5E
  | _ => 0x00007F00

/-- The reset value of the register with key `a`; keys from 0x30000 on are the copies that each requester has of the banked
registers (R405). -/
def regResetN (a : Nat) : Nat :=
  if 0x30000 ≤ a && a < 0x60000 then
    match rowOf (a % 0x10000) with
    | some r => r.reset
    | none => 0
  else if 0x1E000 ≤ a && a < 0x1E400 then
    if a % 16 = 4 then supplyLimReset ((a - 0x1E000) / 16)
    else if a % 16 = 8 then supplyFatalReset ((a - 0x1E000) / 16) else 0
  else if 0x1E400 ≤ a && a < 0x1F000 then
    if a % 16 = 4 then fltKindWord ((a - 0x1E400) / 16)
    else if a % 16 = 8 || a % 16 = 0 then fltRxnReset ((a - 0x1E400) / 16) else 0
  else if 0x1F000 ≤ a && a < 0x20000 then
    if a % 16 = 0 then evtCfgReset ((a - 0x1F000) / 16) else 0
  else if 0x710 ≤ a && a < 0x730 && a % 8 = 0 then acmpReset ((a - 0x710) / 8)
  else match rowOf a with
    | some r => r.reset
    | none => 0

/-- The reset value of the register with key `a`, as a word. -/
def regReset (a : Nat) : Word := BitVec.ofNat 32 (regResetN a)

end Sys2Proof.Machine
end

