-- ==== Sys2Proof/Machine/State.lean ====
section
/-!
DEFINITION. The state of the block: plain data holding every register, buffer, queue, counter, mode and pin the spec
gives the part, and the queue of waiting commands.
-/

namespace Sys2Proof.Machine

/-- Why a step stops with a fault. The spec gives every command of the table an effect, so no meaning stops with a
fault; the type is kept with one constructor that no meaning raises. -/
inductive Fault where
  /-- Raised by no command. Safe: a stop where the part goes on would make claims unprovable, not false. -/
  | unreachable
  deriving DecidableEq, Repr

/-- Why a step has no meaning. -/
inductive Refusal where
  /-- Raised by exec for a command whose meaning is not written. Safe: no claim can be made about the command. -/
  | notModelled (mnemonic : String)
  deriving DecidableEq, Repr

/-- The state of the part. -/
structure State where
  /-- The registers, by key (Reg.lean): each fixed register at its address, each entry behind an index register at its
  own key. An unlisted register holds its reset value. -/
  reg      : Cells 32
  /-- The shadow bank of the SHD registers (R4, R74), by the same keys. -/
  shadow   : Cells 32
  /-- The context RAM (R168), byte by byte: context `c` at 512·c. -/
  mem      : List Host.Cell
  /-- The latched remaining words of wide values (R7). -/
  latch    : List (Nat × Word)
  /-- The data last returned to each requester: SMBus, service SPI, firmware. -/
  readData : Vector Word 3
  time     : TimeSt
  unit     : UnitSt
  flash    : FlashSt
  boot     : BootSt
  upd      : UpdSt
  smb      : SmbSt
  spi      : SpiSt
  commit   : Option CommitSt
  /-- The LE_CHECK in progress, with the outcome that its completion shows (R164). -/
  check    : Option SchedCheck
  pair     : PairSt
  links    : Vector LinkSt 16
  /-- Link frames since power-on: the shelf time of the running link frame in units of 2,560 edge steps (R88). -/
  frameNo  : Nat
  /-- Delivered samples of each calibration entry, newest first. -/
  chans    : Vector (List Sample) 512
  /-- The latest 24-bit value of each entry (R293), which metering uses. -/
  fine     : Vector Int 512
  ctx      : Vector CtxSt 256
  /-- The write buffer of the context window (R161, R172), oldest first. -/
  cwq      : List CwItem
  trc      : Vector TrcSt 8
  phs      : Vector PhSt 128
  stg      : Vector StgSt 32
  loc      : Vector LocSt 16
  fdr      : Vector FdrSt 64
  strs     : Vector StrSt 8
  shf      : ShfSt
  mb       : Vector MbSt 7
  stat     : Vector StatSt 512
  statSnap : Vector StatSnap 512
  en       : Vector EnSt 32
  meas     : MeasSt
  hk       : HkSt
  evq      : List EvPulse
  flt      : FltSt
  ecc      : EccSt
  linj     : Option LinkInj
  evr      : EvrSt
  sbg      : Vector SbgSlot 98
  /-- Number of the next free value (Config.lean): the model's own field. -/
  free     : Nat
  /-- The commands that wait, first in, first out. -/
  pending  : List Instr
  deriving DecidableEq, Repr

/-- No images, no crypto outcome: an erased slot. -/
def Slot.erased : Slot :=
  { header := [], body := 0, crypto := ⟨false, false, false, false⟩,
    tack := { knownKinds := false, limits := ⟨0, 0, 0, 0, 0, 0, 0⟩, regs := [], mem := [], linkmap := [], caldef := [],
              sched := [], tethered := [], softstart := [], fwset := [] },
    mark := 0 }

/-- A link after reset: the scrambler all ones (R89), nothing queued. -/
def LinkSt.initial : LinkSt :=
  { scr := BitVec.allOnes 58, scr0 := BitVec.allOnes 58, dsc := 0, tail := 0, txLine := 0, badRun := 0, dnRun := 0, edges := [], flight := [],
    aborted := false, reflex := [], cmds := [], cmdPos := 0, cmdFly := false, accq := [], acc := none, aln := 0, lost := 0,
    req := [], wait := none, resends := 0, cseq := 0, tfail := 0, spreads := 0, pmin := 0, pmax := 0, psum := 0, lead := 0, known := none, hsrc := [], newHead := false, held := 0, digest := 0xFFF, digestOk := false,
    skip := 0, digs := [], rx := none, slipSeen := false }

/-- A context after reset (R167). -/
def CtxSt.initial : CtxSt := { hold := 0, tv := none, relAt := 0, prev := 0, y0 := none, met := false, ecc := false, bank := ⟨0, false, false, 0⟩ }

/-- A trace unit after reset: its buffer reads zero. -/
def TrcSt.initial : TrcSt :=
  { ticks := [], buf := [], next := 0, count := 0, post := 0, prim := false, seen := false, stopReq := false, force := false }

def PhSt.initial : PhSt := { pulses := [], starts := [], ons := [], onAt := none, old := 0, target := 0, angs := [], revive := false }

def StgSt.initial : StgSt :=
  { next := 0, formed := [], r := 0, rm := 0, rlen := 0, rfrom := 0, cmd := [], v1 := none, v2 := none, ts := 0,
    pulses := 0, te := none, spRel := 0, spD := 0, spLock := 0, ended := false, lock := 0, nreq := 0, pmt := 0, ft := 0, resp := none }

/-- A local channel after reset: both outputs in their safe states (R55, R205). -/
def LocSt.initial : LocSt := { edges := [], a := .safe, b := .safe, on := false, due := none, dt0 := 0, dtAt := 0 }

/-- A feeder after reset: its tracker sets hold no sample (R277). -/
def FdrSt.initial : FdrSt :=
  { pers := 0, acc := 0, psum := 0, rz := 0, frames := 0, peakE := -32768, minE := 32767, peakS := -32768,
    minS := 32767, peakB := -32768, minB := 32767, offAt := none, tripAt := none, follow := 0, refus := false,
    sent := none, dirty := false, writes := 0, hbad := false }

def StrSt.initial : StrSt := { disc := false, eodAt := none, preAt := none, want := [], term := 0 }

def MbSt.initial : MbSt := { active := false, open_ := false, lost := false, sub := none, bad := false, dec := none, pub := [] }

def ShfSt.initial : ShfSt :=
  { out := Vector.replicate 28 0, lat := Vector.replicate 28 0, hw := Vector.replicate 16 0, inBad := Vector.replicate 16 0, inGood := Vector.replicate 16 0, redo := false,
    shedN := 0, droopN := 0, droop := false, goodN := 0, qcap := 0, q := 0, qPrev := 0, entry := false, normN := 0,
    qual := Vector.replicate 4 0, thr := 0, pins := Vector.replicate 8 none }

/-- An empty statistics slot: MIN and MAX at the ends of their range, so that the first sample sets both. -/
def StatSt.initial : StatSt :=
  { count := 0, sum := 0, ssq := 0, mn := 8388607, mx := -8388608, sat := false, spare := false, mixed := false }

def EnSt.initial : EnSt :=
  { e := 0, v := none, at_ := none, sat := false, gap := false, restart := false, mixed := false, base := 0 }

def MeasSt.initial : MeasSt :=
  { pstale := Vector.replicate 17 0,
    rot := { check := 0, spareTest := false, overlapBad := false, last := 15, due := false, own := RotAvg.fresh,
             spare := RotAvg.fresh },
    seqIdx := Vector.replicate 2 0, seqSeen := Vector.replicate 2 false,
    tst := { tdacReq := none, tdac := 0, htReq := [], hts := [], shown := none, vals := [] },
    cal := { skip := 0, n := 0, sum := 0, z := 0, skipS := 0, nS := 0, sumS := 0, zS := 0, ref := 0 },
    store := [], calPend := [], wmUp := Vector.replicate 128 false, acted := [], cmpTick := 0, cmpChk := 0,
    cmpFail := Vector.replicate 16 0, gpos := Vector.replicate 8 0, gneg := Vector.replicate 8 0 }

def HkSt.initial : HkSt :=
  { vals := Vector.replicate 24 0, hist := [], used := false, badN := 0, warnN := 0, coolN := 0, shutN := 0,
    rateUp := Vector.replicate 2 0, rateDn := Vector.replicate 2 0, chkN := Vector.replicate 24 0,
    outN := Vector.replicate 24 0, inN := Vector.replicate 24 0 }

/-- A lane of the tandem link after reset (R89). -/
def TdLane.initial : TdLane := { scr := BitVec.allOnes 58, dsc := BitVec.allOnes 58, line := 0, aln := 0, lost := 0 }

/-- ALIGN begins: 256 PROBE frames each way (R332). -/
def TdAlign.initial : TdAlign :=
  { left := 256, n := 0, sum := 0, mn := 0, mx := 0, spreads := 0, shift := 0, again := false, arr := 0 }

/-- The pair logic after reset. -/
def PairSt.initial : PairSt :=
  { tx := .idle, txq := [], tx1 := .idle, lanes := Vector.replicate 2 TdLane.initial, al := TdAlign.initial, seen := false,
    frIn := none, frOut := [], found := none, img := none, partner := none, bad := Vector.replicate 2 0, epoch := 0, waited := 0, finding := none,
    noAct := 0, obeyOwn := Vector.replicate 16 0, obeyPart := Vector.replicate 16 0, claimOk := false,
    waitDone := false, fwd := [], image := none, swap := none, dwell := false, dwellMm := false, back := false,
    remWait := false, remAt := none, resEnd := none, resTest := false, split := 0,
    tokAct := 0, mism := false, load := false }

def UpdSt.initial : UpdSt :=
  { pendS := none, pendP := none, auth := none, trialrun := false, confirmed := false, confEnd := none, actWait := false,
    reason := 0, ovlA := none, ovlB := none, ovlAt := none }

def SmbSt.initial : SmbSt :=
  { active := false, addrDue := false, acmp := Vector.replicate 4 0, comp := none, reading := false, nptr := 0, ptrHi := 0,
    word := [], buf := [], bufPtr := 0, words := 0, nacked := false, result := 0, pec := 0, left := none, out := [],
    lost := false, ack := false }

def SpiSt.initial : SpiSt :=
  { cs := false, crcErr := false, busy := false, refused := false, nCrc := false, nBusy := false, nRef := false,
    used := false, early := false, buf := none, miso := [] }

/-- No counts declared. -/
def noLimits : Limits := ⟨0, 0, 0, 0, 0, 0, 0⟩

def State.reset : State :=
  { reg := [], shadow := [], mem := [], latch := [], readData := Vector.replicate 3 0,
    time := { mono := 0, rtc := 0, wall := 0, step := none, slew := none, rem := 0, fcnt := 0, gfc := 0, grid := false, lf := 0,
              fmono := 0, gaits := [] },
    unit := { life := .inReset, unitB := false, pairMode := false, sealed := false, okh := false, oik := false,
              tkskip := none, thermLatch := false, fdrPin := false, shelfEn := false, claimOut := false,
              txIdle := true, booted := false, cause := 1 },
    flash := { desc0 := [], desc1 := [], slots := Vector.replicate 4 Slot.erased },
    boot := { soft := [], softWait := false, softFrames := 0, softFail := [], fwset := [], limits := noLimits,
              tether := [], pdkOwner := none,
              pdkBytes := 0, pdkHdr := [], lrStart := none, lrPlanned := false },
    upd := UpdSt.initial, smb := SmbSt.initial, spi := SpiSt.initial,
    commit := none, check := none, pair := PairSt.initial, links := Vector.replicate 16 LinkSt.initial, frameNo := 0,
    chans := Vector.replicate 512 [], fine := Vector.replicate 512 0, ctx := Vector.replicate 256 CtxSt.initial,
    cwq := [], trc := Vector.replicate 8 TrcSt.initial, phs := Vector.replicate 128 PhSt.initial,
    stg := Vector.replicate 32 StgSt.initial, loc := Vector.replicate 16 LocSt.initial,
    fdr := Vector.replicate 64 FdrSt.initial, strs := Vector.replicate 8 StrSt.initial, shf := ShfSt.initial,
    mb := Vector.replicate 7 MbSt.initial, stat := Vector.replicate 512 StatSt.initial,
    statSnap := Vector.replicate 512 { s := StatSt.initial, ep := 0, ep2 := 0 },
    en := Vector.replicate 32 EnSt.initial, meas := MeasSt.initial, hk := HkSt.initial, evq := [],
    flt := { inq := [], list := [], retries := [], startDue := [], recSec := [], supp := [], fatalAt := none, minRun := false,
             injKey := none, lifeNv := 0, lifeAt := none },
    ecc := { flips := [], lastPass := [], thisPass := [] },
    linj := none,
    evr := { offers := [], queue := [], ring := [], log := [], high := 1, gap := [],
             sel := Vector.replicate 3 { words := [], seq := 0, log := false, want := none }, logWrites := 0 },
    sbg := Vector.replicate 98 { copyA := none, copyB := none, full := false, count := 0, bad := false,
                                 staged := none, last := none },
    free := 0, pending := [] }

end Sys2Proof.Machine
end

