-- ==== Sys2Proof/Machine/Ops.lean ====
section
/-!
DEFINITION. The named operations on the state that every command shares: registers and their fields, the shadow bank,
the context RAM, time stamps, free values, events, fault messages and records.
-/

namespace Sys2Proof.Machine

/-! ## Registers -/

/-- The register with key `a`. -/
def State.rd (s : State) (a : Nat) : Word := cellsGet regReset s.reg a

/-- The register with key `a`, as a number. -/
def State.rdN (s : State) (a : Nat) : Nat := (s.rd a).toNat

/-- Field `[hi:lo]` of the register with key `a`. -/
def State.fld (s : State) (a hi lo : Nat) : Nat := fieldOf (s.rd a) hi lo

/-- Bit `i` of the register with key `a`. -/
def State.bit (s : State) (a i : Nat) : Bool := bitOf (s.rd a) i

/-- Set the register with key `a`. -/
def State.wr (s : State) (a : Nat) (v : Word) : State := { s with reg := cellsSet regReset s.reg a v }

/-- Set the register with key `a` to a number. -/
def State.wrN (s : State) (a v : Nat) : State := s.wr a (word v)

/-- Set field `[hi:lo]` of the register with key `a`. -/
def State.put (s : State) (a hi lo v : Nat) : State := s.wr a (setField (s.rd a) hi lo v)

/-- Set bit `i` of the register with key `a`. -/
def State.setBit (s : State) (a i : Nat) (b : Bool) : State := s.put a i i (b2n b)

/-- Add `n` to the counter in field `[hi:lo]`, holding at its largest value (R399). -/
def State.bump (s : State) (a hi lo n : Nat) : State :=
  s.put a hi lo (min (s.fld a hi lo + n) (2 ^ (hi + 1 - lo) - 1))

/-- A field read as a two's complement value. -/
def State.sfld (s : State) (a hi lo : Nat) : Int := signed (hi + 1 - lo) (s.fld a hi lo)

/-- The shadow of the register with key `a`. -/
def State.srd (s : State) (a : Nat) : Word := cellsGet regReset s.shadow a

/-- A field of the shadow of a register. -/
def State.sfldN (s : State) (a hi lo : Nat) : Nat := fieldOf (s.srd a) hi lo

/-- A bit of the shadow of a register. -/
def State.sbit (s : State) (a i : Nat) : Bool := bitOf (s.srd a) i

/-- Set the shadow of the register with key `a`. -/
def State.swr (s : State) (a : Nat) (v : Word) : State := { s with shadow := cellsSet regReset s.shadow a v }

/-- The commit group of the register with key `a` (R468). -/
def groupOf (a : Nat) : Option Nat := (rowOf a).bind RegRow.grp

/-- Whether the register with key `a` is in one of the groups of mask `m`. -/
def inGroups (m a : Nat) : Bool :=
  match groupOf a with
  | some g => m.testBit g
  | none => false

/-! ## Context RAM (R168) -/

/-- What a byte of context RAM that nothing has written reads as: the reset value of R168 and R169, zero. -/
def memDefault (_ : Nat) : Byte := 0

/-- Byte `a` of the context RAM. -/
def State.mem8 (s : State) (a : Nat) : Byte := cellsGet memDefault s.mem a

/-- Set byte `a` of the context RAM. -/
def State.setMem8 (s : State) (a : Nat) (v : Byte) : State := { s with mem := cellsSet memDefault s.mem a v }

/-- The halfword at byte address `a`, little-endian. -/
def State.mem16 (s : State) (a : Nat) : Nat := (s.mem8 a).toNat + 256 * (s.mem8 (a + 1)).toNat

/-- The word at byte address `a`, little-endian. -/
def State.mem32 (s : State) (a : Nat) : Word := word (s.mem16 a + 65536 * s.mem16 (a + 2))

/-- Set the halfword at byte address `a`. -/
def State.setMem16 (s : State) (a v : Nat) : State :=
  (s.setMem8 a (BitVec.ofNat 8 v)).setMem8 (a + 1) (BitVec.ofNat 8 (v / 256))

/-- Set the word at byte address `a`. -/
def State.setMem32 (s : State) (a : Nat) (v : Word) : State :=
  (s.setMem16 a v.toNat).setMem16 (a + 2) (v.toNat / 65536)

/-- The three memories are in their canonical form: the registers, their shadow bank and the context RAM. -/
abbrev Memory.wf (s : State) : Prop :=
  cellsWf regReset s.reg = true ∧ cellsWf regReset s.shadow = true ∧ cellsWf memDefault s.mem = true

/-! ## Time -/

/-- WALL seconds and nanoseconds (R36). -/
def TimeSt.wallSec (t : TimeSt) : Nat := t.wall / 4000000 / 1000000000 % 2 ^ 48
def TimeSt.wallNs (t : TimeSt) : Nat := t.wall / 4000000 % 1000000000

/-- The stamp of the present instant (R393). -/
def State.stamp (s : State) : Stamp :=
  { mono := s.time.mono, sec := s.time.wallSec, ns := s.time.wallNs, wv := s.bit Reg.TIM_WALLSTAT 0 }

/-- GFC as a number. -/
def State.gfcN (s : State) : Nat := s.time.gfc.toNat

/-! ## Free values -/

/-- Take a free word. -/
def State.takeWord (s : State) : Word × State := (Config.freeWord s.free, { s with free := s.free + 1 })

/-- Take a free bit. -/
def State.takeBit (s : State) : Bool × State := (Config.freeBit s.free, { s with free := s.free + 1 })

/-! ## Records (R385, R386) -/

/-- Offer a record to the recorder (R388). -/
def State.offer (s : State) (r : Rec) : State := { s with evr := { s.evr with offers := s.evr.offers ++ [r] } }

/-- Offer a record of a hardware kind stamped now, its payload after the WALL nanoseconds. -/
def State.offerNow (s : State) (kind sev : Nat) (payload : List Byte) : State :=
  s.offer { kind := kind, sev := sev, inj := false, fwd := false, src := 0xFF, stamp := s.stamp,
            payload := leBytes 4 s.time.wallNs ++ payload }

/-! ## Events (R42, R372) -/

/-- Pulses of a source that one handshake and its 4-bit pending counter hold (R42). -/
def pulseRoom : Nat := 16

/-- Put an event pulse into crossing 3 of R44, or drop it when its source's counter is full (R42). -/
def State.pulse (s : State) (p : EvPulse) : State :=
  if (s.evq.filter (fun q => q.ev.src = p.ev.src)).length < pulseRoom then { s with evq := s.evq ++ [p] }
  else (s.setBit (Reg.EVT_CDCOVF (p.ev.src / 32)) (p.ev.src % 32) true).bump Reg.TIM_CDCDROP 15 0 1

/-- The overflow flag of crossing 3: the OR of its sources' flags (R44). -/
def State.evtOverflow (s : State) : Bool := (List.range 8).any (fun i => s.rd (Reg.EVT_CDCOVF i) != 0)

/-- Whether crossing 3 has room for a pulse of source `src`. -/
def State.pulseFits (s : State) (src : Nat) : Bool :=
  decide ((s.evq.filter (fun q => q.ev.src = src)).length < pulseRoom)

/-- Raise an event with its detail bytes; a dropped pulse raises CDC_OVERFLOW (R42). -/
def State.raiseWith (s : State) (e : Ev) (detail : List Byte) (inj fwd : Bool) : State :=
  let p := { ev := e, detail := detail, stamp := s.stamp, inj := inj, fwd := fwd : EvPulse }
  if s.pulseFits e.src then s.pulse p
  else (s.pulse p).pulse { ev := ⟨1, 0, 0⟩, detail := [], stamp := s.stamp, inj := false, fwd := false }

/-- Raise an event without detail. -/
def State.raise (s : State) (e : Ev) : State := s.raiseWith e [] false false

/-! ## Fault messages (R355 to R358) -/

/-- FLT_RXN of kind `k` as it applies in this gait frame (R380). -/
def State.rxn (s : State) (k : Nat) : Word := s.rd (0x1E400 + 0x10 * k)

/-- The class of a message of base class `cls` under CLASSUP (R358). -/
def classUp (rxn : Word) (cls : Nat) : Nat :=
  match fieldOf rxn 31 30 with
  | 1 => max cls 1
  | 2 => 2
  | _ => cls

/-- The severity of a message whose class was raised (R358). -/
def sevUp (base cls sev : Nat) : Nat :=
  if base < cls then (if cls = 1 then max sev 5 else max sev 7) else sev

/-- Insert a message by arrival (R356): after every message of an earlier cycle, and within one cycle in ascending SRC
and then ascending INST. -/
def insertFault (m : FltMsg) : List FltMsg → List FltMsg
  | [] => [m]
  | x :: r =>
    if x.mono = m.mono && (m.src < x.src || (m.src = x.src && m.inst < x.inst)) then m :: x :: r
    else x :: insertFault m r

/-- Send a message to the collector's input queue (R356): a full queue drops corrected messages; a contained or fatal
message waits at its place. -/
def State.sendFault (s : State) (m : FltMsg) : State :=
  if 256 ≤ s.flt.inq.length && m.cls = 0 then (s.bump Reg.FLT_DROP 15 0 1).raise ⟨35, 0, 0⟩
  else { s with flt := { s.flt with inq := insertFault m s.flt.inq } }

/-- The message of kind index `k` with base class `cls` and severity `sev` (R357), raised by its reaction entry. -/
def State.faultMsg (s : State) (k cls sev inst addr : Nat) : FltMsg :=
  let w := fltKindWord k
  let c := classUp (s.rxn k) cls
  { src := w / 64 % 1024, kind := w % 64, cls := c, sev := sevUp cls c sev, inst := inst % 128, addr := addr % 2 ^ 32,
    mono := s.time.mono, inj := false, fwd := false }

/-- Send a fault of kind index `k` at its class and severity of R357. -/
def State.fault (s : State) (k inst addr : Nat) : State :=
  let w := fltKindWord k
  s.sendFault (s.faultMsg k (w / 65536 % 4) (w / 1048576 % 8) inst addr)

/-! ## Domain resets (R43) -/

/-- A domain reset: TIM_CDCFLUSH counts it and CDC_FLUSH is raised. -/
def State.flushCrossing (s : State) : State := (s.bump Reg.TIM_CDCFLUSH 15 0 1).raise ⟨1, 1, 0⟩

end Sys2Proof.Machine
end

