-- ==== Sys2Proof/Machine/Time.lean ====
section
/-!
DEFINITION. Time bases, WALL and the capture timers (R31 to R40, R46, R47, R510), and the predicates on the unit's
state that many commands share.
-/

namespace Sys2Proof.Machine

/-! ## The unit's state -/

/-- The role this unit takes: 0 no claim, 1 standby, 2 active, 3 given up (R352). -/
def State.role (s : State) : Nat := s.fld Reg.PAIR_STAT 29 28

/-- The unit is the standby of a pair, or has no claim yet: it does not hold the pair's ACTIVE (R40, R76, R173). -/
def State.notActiveInPair (s : State) : Bool := s.unit.pairMode && s.role != 2

/-- The unit runs: the start sequence has completed step 7 (R59), or it is in the start sequence. -/
def State.runs (s : State) : Bool := decide (s.unit.life = Life.running)

/-- VIN is present and no reset is asserted: outside these states the logic is held and only what R56 keeps goes on. -/
def State.awake (s : State) : Bool := decide (s.unit.life ≠ Life.off) && decide (s.unit.life ≠ Life.inReset)

/-- A fatal fault has halted the unit (R360): FLT_STAT.FATAL. -/
def State.halted (s : State) : Bool := s.bit Reg.FLT_STAT 31

/-- The unit runs and no fatal fault has halted it. -/
def State.live (s : State) : Bool := s.runs && !s.halted

/-- Link frames of a gait frame of length code `len` (R32). -/
def gaitLinkFrames (len : Nat) : Nat := 10 * 2 ^ (len % 4)

/-- CK_CTL cycles of a gait frame of length code `len` (R32). -/
def gaitCycles (len : Nat) : Nat := 400 * 2 ^ (len % 4)

/-- The gait-frame length in effect (R32, R51). -/
def State.gaitLen (s : State) : Nat := s.fld Reg.TIM_GAIT 1 0

/-! ## MONO and WALL -/

/-- Units of WALL in one nanosecond. -/
def wallUnit : Nat := 4000000

/-- WALL wraps with its 48-bit seconds (R9). -/
def wallWrap : Nat := 2 ^ 48 * 1000000000 * wallUnit

/-- The slew rate in ppm that RATE acts as (R39). -/
def slewRate (rate : Nat) : Nat := if rate = 0 then 1 else if 1000 < rate then 1000 else rate

/-- `n` CK_CTL cycles of WALL: 1.25 ns each plus the slew correction, which never passes the remainder (R36, R38). -/
def TimeSt.wallTicks (t : TimeSt) (n rate : Nat) : TimeSt :=
  let d : Int := 5 * slewRate rate * n
  let c : Int := if 0 < t.rem then min t.rem d else if t.rem < 0 then - min (- t.rem) d else 0
  { t with wall := ((t.wall : Int) + 5000000 * n + c).toNat % wallWrap, rem := t.rem - c }

/-- `n` CK_CTL cycles: MONO, TIM_RTC and WALL advance (R35, R36, R48). -/
def State.ticks (s : State) (n : Nat) : State :=
  { s with time := { s.time.wallTicks n (s.fld Reg.TIM_WALLCTL 9 0) with
                     mono := s.time.mono + BitVec.ofNat 64 n, rtc := s.time.rtc + 16 * n } }

/-- TIM_RTC: whole ticks since power-on (R48). DESIGN CHOICE: XTAL32 runs at its nominal ratio to MONO, from an unknown
phase. -/
def TimeSt.rtcTicks (t : TimeSt) : Nat := (t.rtc + Config.rtcPhase % 390625) / 390625

/-- The running link frame has a CK_CTL cycle left: it is 40 cycles long (R31). -/
def TimeSt.inFrame (t : TimeSt) : Bool := decide (t.mono - t.fmono < 39)

/-- One CK_CTL cycle of the running link frame. The next frame begins with a boundary command, so time waits at the end of its
last cycle (R31). -/
def State.tick (s : State) : State := if s.time.inFrame then s.ticks 1 else s

/-- `k` link frames later: the link-frame timeline, FCNT, and MONO and WALL where they lag behind it (R31, R510). -/
def State.advance (s : State) (k : Nat) : State :=
  let b := s.time.fmono + BitVec.ofNat 64 (40 * k)
  let lag := if s.time.mono < b then (b - s.time.mono).toNat else 0
  let s := s.ticks lag
  { s with frameNo := s.frameNo + k, time := { s.time with fmono := b, fcnt := s.time.fcnt + BitVec.ofNat 8 k } }

/-- TIM_WSLEWREM: the remainder in signed nanoseconds, its fraction dropped (R38). -/
def TimeSt.remNs (t : TimeSt) : Int := Int.tdiv t.rem wallUnit

/-- The TIM_WALLSTAT.SLEWING bit follows the remainder (R53). -/
def TimeSt.slewing (t : TimeSt) : Bool := decide (t.rem ≠ 0)

/-- Apply a captured WALL step at a boundary (R37, R39): refused with BADSET when its nanoseconds are too large;
otherwise WALL takes the value, the slew request and any remainder are discarded, and a TIME_SET record is written. -/
def State.applyStep (s : State) : State :=
  match s.time.step with
  | none => s
  | some (ns, sec) =>
    let s := { s with time := { s.time with step := none } }
    if 1000000000 ≤ ns then s.setBit Reg.TIM_WALLSTAT 2 true
    else
      let oldSec := s.time.wallSec
      let oldNs := s.time.wallNs
      let can := s.time.slew.isSome || s.time.slewing
      let s := { s with time := { s.time with wall := (sec % 2 ^ 48 * 1000000000 + ns) * wallUnit, rem := 0,
                                              slew := none } }
      let s := s.setBit Reg.TIM_WALLSTAT 0 true
      let s := if can then s.setBit Reg.TIM_WALLSTAT 3 true else s
      s.offerNow 0x0003 2 (leBytes 6 oldSec ++ leBytes 2 0 ++ leBytes 4 oldNs ++ leBytes 4 s.gfcN)

/-- Apply a requested slew at a boundary (R38): it replaces any remainder, and a TIME_SLEW record is written. -/
def State.applySlew (s : State) : State :=
  match s.time.slew with
  | none => s
  | some c =>
    let old := s.time.remNs
    let s := { s with time := { s.time with slew := none, rem := c * wallUnit } }
    s.offerNow 0x0004 2 (leBytes 4 (code 32 old) ++ leBytes 4 (code 32 c) ++ leBytes 4 s.gfcN)

/-- A write of TIM_WALLCTL (R37, R38, R40, R52): RATE is stored; STEP captures the TIM_WSET words and SLEW the
correction, each for the next boundary. On a unit of a pair that is not active a step or slew is ignored and raises
WALL_REFUSED. DESIGN CHOICE: R37 fixes the capture at the write for STEP alone, and the model takes TIM_WSLEW at the SLEW write as
well. -/
def State.wallctlWrite (s : State) (v : Word) : State :=
  let s := s.put Reg.TIM_WALLCTL 9 0 (fieldOf v 9 0)
  if bitOf v 31 || bitOf v 30 then
    if s.notActiveInPair then s.raise (E.WALL_REFUSED 0)
    else
      let s := if bitOf v 31 then
          { s with time := { s.time with step := some (s.fld Reg.TIM_WSET_NS 29 0,
              s.rdN Reg.TIM_WSET_SLO + 2 ^ 32 * s.fld Reg.TIM_WSET_SHI 15 0) } }
        else s
      if bitOf v 30 then { s with time := { s.time with slew := some (signed 32 (s.rdN Reg.TIM_WSLEW)) } } else s
  else s

/-! ## Capture timers (R46, R47) -/

/-- Whether an EDGE code takes an edge of this polarity (R54). -/
def edgeTaken (edge : Nat) (rising : Bool) : Bool :=
  match edge with
  | 1 => rising
  | 2 => !rising
  | 3 => true
  | _ => false

/-- An edge of capture source `src` at capture timer `n` (R46, R47). -/
def State.capture1 (s : State) (src : Nat) (rising : Bool) (n : Nat) : State :=
  if decide (src < 58) && s.fld (Reg.TIM_CAP_CTL n) 5 0 == src && edgeTaken (s.fld (Reg.TIM_CAP_CTL n) 7 6) rising &&
      (!(decide (40 ≤ src) && decide (src < 56)) || rising) then
    if s.bit (Reg.TIM_CAP_CTL n) 30 then (s.setBit (Reg.TIM_CAP_CTL n) 31 true).raise (E.CAP_OVERRUN n)
    else
      (((s.wrN (Reg.TIM_CAP_LO n) s.time.mono.toNat).wrN (Reg.TIM_CAP_HI n) (s.time.mono.toNat / 2 ^ 32)).wrN
        (Reg.TIM_CAP_GFC n) s.gfcN).setBit (Reg.TIM_CAP_CTL n) 30 true
  else s

/-- An edge of a capture source, at every capture timer (R46). -/
def State.captureEdge (s : State) (src : Nat) (rising : Bool) : State :=
  (List.range 8).foldl (fun s n => s.capture1 src rising n) s

/-- CAPTURE_EDGE (R46, R482): an edge of GPIO8 is also an edge of the FDR_EN input. -/
def execCaptureEdge (src : Fin 64) (rising : Bool) (s : State) : Host.Outcome State Fault Refusal :=
  let s := if src.val = 8 then { s with unit := { s.unit with fdrPin := rising } } else s
  .next (if s.awake then s.captureEdge src rising else s)

end Sys2Proof.Machine
end

