-- ==== Sys2Proof/Machine/LinkOps.lean ====
section
/-!
DEFINITION. Operations on rein links: queueing edges, command units, register accesses and reflex words, and building
the downstream frame (R93 to R96, R98, R110, R111, R113, R133).
-/

namespace Sys2Proof.Machine

/-- Link `n` of the state. -/
def State.link (s : State) (n : Nat) : LinkSt := if h : n < 16 then s.links[n] else LinkSt.initial

/-- Replace link `n`. -/
def State.setLink (s : State) (n : Nat) (l : LinkSt) : State := { s with links := s.links.setIfInBounds n l }

/-- Change link `n`. -/
def State.onLink (s : State) (n : Nat) (f : LinkSt → LinkSt) : State := s.setLink n (f (s.link n))

/-- LNK_STAT.STATE (R132). -/
def State.linkState (s : State) (n : Nat) : Nat := s.fld (Reg.LNK_STAT n) 2 0

/-- The link is UP (R115). -/
def State.linkUp (s : State) (n : Nat) : Bool := s.linkState n == 5

/-- The link's transmitter sends: enabled, and not forced to electrical idle (R55, R56, R131). -/
def State.linkTx (s : State) (n : Nat) : Bool := s.bit (Reg.LNK_CTL n) 0 && !s.unit.txIdle

/-- The head kind assigned to the link (R131): 0 none, 1 converter, 2 feeder, 3 battery. -/
def State.linkKind (s : State) (n : Nat) : Nat := s.fld (Reg.LNK_KIND n) 1 0

/-- The calibration entry of source `k` of link `n` (R130, R261). An entry beyond 511 is taken modulo 512 (DESIGN CHOICE, log 121). -/
def State.linkEntry (s : State) (n k : Nat) : Nat := (s.fld (Reg.LNK_CALBASE n) 8 0 + k) % 512

/-- Queue an edge for a head channel. -/
def State.addEdge (s : State) (n : Nat) (e : Edge) : State := s.onLink n (fun l => { l with edges := l.edges ++ [e] })

/-- Queue a command of one or more units (R98). -/
def State.addCmd (s : State) (n : Nat) (units : List (BitVec 16)) : State :=
  s.onLink n (fun l => { l with cmds := l.cmds ++ [units] })

/-- Queue a TSRC ahead of the commands that wait, behind one under way and behind earlier TSRCs: it goes out in the first frame after the
boundary (R291). -/
def LinkSt.addTsrc (l : LinkSt) (u : BitVec 16) : LinkSt :=
  let begun := if l.cmdFly || l.cmdPos != 0 then l.cmds.take 1 else []
  let rest := l.cmds.drop begun.length
  let own (c : List (BitVec 16)) : Bool := c.any (fun u => u.toNat / 4096 == 4) && c.length == 1
  { l with cmds := begun ++ rest.takeWhile own ++ [[u]] ++ rest.dropWhile own }

/-- Queue a RELEASE of the channels in `mask` (R98). -/
def State.sendRelease (s : State) (n mask : Nat) : State :=
  if mask % 256 = 0 then s
  else (s.addCmd n [BitVec.ofNat 16 (0x1000 + mask % 256)]).onLink n
    (fun l => { l with held := l.held &&& (255 - mask % 256) })

/-- CK_CTL cycle of the running link frame, 0 to 39 (R31). -/
def State.frameCycle (s : State) : Nat := min (s.time.mono - s.time.fmono).toNat 39

/-- The edges that no word of a mask names. -/
def notNamed (mask : Nat) (es : List Edge) : List Edge := es.filter (fun e => !mask.testBit e.ch)

/-- The frame in flight is aborted where its cell `c` begins (R110, R113): its edges for channels that `mask` does not name go back to
the queue, its command starts again, and the scrambler has advanced over the bits sent. -/
def LinkSt.abort (l : LinkSt) (c mask : Nat) : LinkSt :=
  if l.aborted then l
  else
    { l with scr := scrAfter l.txLine (16 * (c - 1)) l.scr0, aborted := true, flight := [], skip := 2,
             edges := notNamed mask l.flight ++ l.edges, cmdPos := if l.cmdFly then 0 else l.cmdPos, cmdFly := false }

/-- The line bits of the frame in flight follow the reflex words. -/
def LinkSt.reline (l : LinkSt) : LinkSt :=
  let line := reflexLine l.reflex l.txLine
  { l with txLine := line, tail := line.extractLsb' 0 16 }

/-- Insert a reflex word (R110, R113) at the next 16-bit boundary, or behind the words under way: what is left of the frame in flight
is aborted. ACT 0 is FORCE, which discards the waiting edges of the named channels (R208); 1 is OFF. -/
def State.sendReflex (s : State) (n act mask : Nat) : State :=
  if s.linkTx n then
    let l := s.link n
    let m := mask % 256
    let l := if act = 0 then { l with edges := notNamed m l.edges, held := l.held ||| m } else l
    match mergeReflex s.frameCycle act m l.reflex with
    | some rs => s.setLink n ({ l with reflex := rs } : LinkSt).reline
    | none =>
      let c := reflexStart s.frameCycle l.reflex
      let l := if c ≤ 10 then l.abort c m else l
      (s.setLink n ({ l with reflex := l.reflex ++ [{ act := act, mask := m, at_ := c }] } : LinkSt).reline).bump (Reg.LNK_REFLEX n) 31 0 1
  else s

/-! ## Allocation of edges to a frame (R95, R96) -/

/-- Start of the edge window of the running frame on link `n`, at shelf time: t_f + LEAD_n (R95). -/
def State.windowStart (s : State) (n : Nat) : Nat := s.frameNo * 2560 + (s.link n).lead

/-- Rank of an EV code in the allocation (R96): force-safe, then turn-off, then turn-on. -/
def evRank (ev : Nat) : Nat := 3 - ev

/-- The order of R96 within one window: class, then time, then PH. -/
def edgeBefore (a b : Edge) : Bool :=
  evRank a.ev < evRank b.ev || (evRank a.ev = evRank b.ev && (a.at_ < b.at_ || (a.at_ = b.at_ && a.ch ≤ b.ch)))

/-- Insert an edge in the order of R96. -/
def insertEdge (e : Edge) : List Edge → List Edge
  | [] => [e]
  | x :: r => if edgeBefore e x then e :: x :: r else x :: insertEdge e r

/-- Edges in the order of R96. -/
def sortEdges (es : List Edge) : List Edge := es.foldl (fun acc e => insertEdge e acc) []

/-- What allocation decides for one frame: the edges it carries, those that wait, turn-ons dropped and late
turn-offs. -/
structure Alloc where
  sent    : List Edge
  wait    : List Edge
  dropped : Nat
  late    : Nat
  deriving DecidableEq, Repr

/-- Allocate the words of a frame whose window starts at `w` (R96): edges of the next window that its own frame has no word for
take what is free. A turn-on that is late, or finds no word in its own frame, is dropped. -/
def allocate (es : List Edge) (w : Nat) : Alloc :=
  let own := sortEdges (es.filter (fun e => e.at_ < w + 2560))
  let next := sortEdges (es.filter (fun e => w + 2560 ≤ e.at_ && e.at_ < w + 5120))
  let far := es.filter (fun e => w + 5120 ≤ e.at_)
  let own' := own.filter (fun e => !(e.ev = 1 && e.at_ < w))
  let sentOwn := own'.take 5
  let restOwn := (own'.drop 5).filter (fun e => e.ev ≠ 1)
  let sentNext := ((next.drop 5).filter (fun e => e.at_ < w + 4096)).take (5 - sentOwn.length)
  { sent := sentOwn ++ sentNext
    wait := restOwn ++ (next.filter (fun e => !sentNext.contains e)) ++ far
    dropped := own.length - sentOwn.length - restOwn.length
    late := (sentOwn.filter (fun e => e.at_ < w)).length }

/-- The word of an allocated edge (R94, R96): a late edge is sent with T = 0. -/
def wordOf (w : Nat) (e : Edge) : BitVec 20 := edgeWord e.ch e.ev (if e.at_ < w then 0 else e.at_ - w)

/-- The five edge words of a frame, the unused ones with EV = 0b00. -/
def edgeWords (w : Nat) (es : List Edge) : Vector (BitVec 20) 5 :=
  Vector.ofFn (fun i : Fin 5 => match es[i.val]? with | some e => wordOf w e | none => 0)

/-! ## Head register accesses (R133) -/

/-- The command units of an access: HWR and its data for a write, then HRD (R98, R133). LNK_HREG_ADDR has 14 word-address bits and ARG
12: of a byte address from 0x4000 up, which no head register has (R128), the low 12 word-address bits are sent (DESIGN CHOICE, log 118). -/
def accessUnits (a : HeadAccess) : List (List (BitVec 16)) :=
  let wa := a.addr / 4 % 4096
  (if a.write then [[BitVec.ofNat 16 (0x2000 + wa), a.data.extractLsb' 0 16, a.data.extractLsb' 16 16]] else [])
    ++ [[BitVec.ofNat 16 (0x3000 + wa)]]

/-- Start the next waiting access when none is in progress. -/
def LinkSt.startAccess (l : LinkSt) : LinkSt :=
  match l.acc, l.accq with
  | none, a :: r => { l with acc := some { acc := a, attempt := 1, frames := 0, got := [] }, accq := r,
                             cmds := l.cmds ++ accessUnits a }
  | _, _ => l

/-- An LNK_HREG access in progress gives way to a write of a feeder or of a channel (R202, R263): it waits again, and its units that have
not begun go with it (DEDUCED, log 129). -/
def LinkSt.giveWay (l : LinkSt) : LinkSt :=
  match l.acc with
  | some a =>
    if a.acc.owner = .user then
      let us := accessUnits a.acc
      let begun := if l.cmdFly || l.cmdPos != 0 then l.cmds.take 1 else []
      { l with acc := none, accq := a.acc :: l.accq, cmds := begun ++ (l.cmds.drop begun.length).filter (fun u => !us.contains u) }
    else l
  | none => l

/-- Queue a head register access; accesses of feeders and channels go ahead of those of LNK_HREG (R202, R263). -/
def State.addAccess (s : State) (n : Nat) (a : HeadAccess) : State :=
  s.onLink n (fun l =>
    let l := if a.owner = .user then l else l.giveWay
    { l with accq := if a.owner = .user then l.accq ++ [a]
                     else l.accq.filter (fun x => x.owner ≠ .user) ++ [a] ++ l.accq.filter (fun x => x.owner = .user) })

/-! ## Building the downstream frame (R93, R106, R111) -/

/-- The command unit of the next frame: the next unit of the first command, NOP when none waits (R98). -/
def LinkSt.nextUnit (l : LinkSt) : BitVec 16 :=
  match l.cmds with
  | u :: _ => (u[l.cmdPos]?).getD 0
  | [] => 0

/-- The link after the unit of the last frame has left whole: its command advances (R98). -/
def LinkSt.unitDone (l : LinkSt) : LinkSt :=
  if l.cmdFly then
    match l.cmds with
    | u :: r => if l.cmdPos + 1 < u.length then { l with cmdPos := l.cmdPos + 1, cmdFly := false }
                else { l with cmds := r, cmdPos := 0, cmdFly := false }
    | [] => { l with cmdFly := false }
  else l

/-- Count how a frame was sent (R111, R122). -/
def State.countForm (s : State) (n how : Nat) : State :=
  match how with
  | 1 => s.bump (Reg.LNK_EMUL n) 31 0 1
  | 2 => s.bump (Reg.LNK_BADSYNC n) 15 0 1
  | _ => s

/-- Count the slips of R96, and raise EDGE_SLIP at the first one since LNK_EDGESLIP was last written (R134). -/
def State.countSlips (s : State) (n dropped late : Nat) : State :=
  if dropped = 0 && late = 0 then s
  else
    let s := (s.bump (Reg.LNK_EDGESLIP n) 15 0 dropped).bump (Reg.LNK_EDGESLIP n) 31 16 late
    if (s.link n).slipSeen then s
    else (s.onLink n (fun l => { l with slipSeen := true })).raise (E.EDGE_SLIP n)

/-- The claim number this unit sends (R334): PAIR_CLAIM[15:0]. -/
def State.claimSent (s : State) : BitVec 16 := BitVec.ofNat 16 (s.fld Reg.PAIR_CLAIM 15 0)

/-! ## Injection on frames (R129, R375) -/

/-- Frame bits 2 to 143 of the injection mask, in line order (R375). -/
def State.injMask (s : State) : BitVec 160 :=
  (List.range 142).foldl (fun m j =>
    let b := j + 2
    if s.bit (Reg.INJ_MASK (b / 32)) (b % 32) then m ||| (BitVec.ofNat 160 1 <<< (159 - b)) else m) 0

/-- What stands in the place of the first of two reordered frames: the frame that follows is one FCNT later, so it is bad
where it stands, whatever else it carries (R129). -/
def fcntPlus (up : Bool) (f : BitVec 160) : BitVec 160 :=
  let lo := if up then 12 else 20
  let n := (ffield f lo (lo + 7) + 1) % 256
  withCrc ((f &&& ~~~ (BitVec.ofNat 160 255 <<< (152 - lo))) ||| (BitVec.ofNat 160 n <<< (152 - lo)))

/-- An injection ends. -/
def State.injEnd (s : State) : State := ({ s with linj := none }.setBit Reg.INJ_STAT 30 false)

/-- What the running injection makes of one frame of its path: nothing; a frame dropped; bits inverted under the CRC as it was; a frame
whose CRC is computed anew; another frame as it was. -/
inductive InjOut where
  | pass
  | drop
  | xor (m : BitVec 160)
  | fix (f : BitVec 160)
  | raw (f : BitVec 160)
  deriving DecidableEq, Repr

/-- A kept frame takes its place again, or is missing. -/
def InjOut.ofKept (f : Option (BitVec 160)) : InjOut :=
  match f with
  | some g => .raw g
  | none => .drop

/-- The running injection acts on the next frame of its path in true form, `none` for one that is missing anyway: each counts for START,
N and DUR (R375). -/
def State.injFrame (s : State) (n : Nat) (up : Bool) (f : Option (BitVec 160)) : InjOut × State :=
  match s.linj with
  | none => (.pass, s)
  | some x =>
    if x.link != n || x.up != up || !x.open_ then (.pass, s)
    else if 0 < x.start then (.pass, { s with linj := some { x with start := x.start - 1 } })
    else if x.left = 0 then (.pass, s.injEnd)
    else
      let m := s.injMask
      let s := s.bump Reg.INJ_LCNT 31 0 1
      let y := { x with left := x.left - 1 }
      let next (y : LinkInj) : State := if y.left = 0 then s.injEnd else { s with linj := some y }
      match x.op, f with
      | 0, _ => (.drop, next y)
      | 1, some _ => (.xor m, next y)
      | 2, some f => (.fix (f ^^^ m), next y)
      | 3, _ =>
        match x.kept with
        | [] => ((match f with | some f => .raw (fcntPlus up f) | none => .drop), next { y with kept := [f] })
        | g :: _ => (InjOut.ofKept g, next y)
      | 1, none => (.drop, next y)
      | 2, none => (.drop, next y)
      | _, _ =>
        let kept := x.kept ++ [f]
        if kept.length ≤ x.n then (.drop, next { y with kept := kept })
        else (InjOut.ofKept (kept.headD none), next { y with kept := kept.drop 1 })

/-- How a downstream frame in true form goes out under what an injection makes of it (R111, R129): either form of the frame that
results is sent as R111 chooses, and a dropped frame goes out with SYNC = 0b00. -/
def sendInj (o : InjOut) (f : BitVec 160) (tail : BitVec 16) (scr : BitVec 58) : Sent :=
  match o with
  | .pass => sendForm (withCrc f) (invertForm f) tail scr
  | .xor m => sendForm (withCrc f ^^^ m) (invertForm f ^^^ m) tail scr
  | .fix g => sendForm (withCrc g) (invertForm g) tail scr
  | .raw g => sendForm (withCrc g) (invertForm g) tail scr
  | .drop =>
    let n := scramble (withCrc f) scr
    { line := (n.1 <<< 2) >>> 2, scr := n.2, how := 2 }

/-! ## The downstream frame of a link (R93 to R96, R98, R106, R107, R111) -/

/-- Words of the last frame that run on into this one, by its cells (R110). -/
def LinkSt.carried (l : LinkSt) : List Rfx :=
  (l.reflex.filter (fun r => decide (10 ≤ r.at_))).map (fun r => { r with at_ := r.at_ - 10 })

/-- The edges that the unit sends in a frame: none once it has halted (R360). -/
def State.frameAlloc (s : State) (n : Nat) : Alloc := allocate (if s.halted then [] else (s.link n).edges) (s.windowStart n)

/-- A whole frame is displaced by the reflex words `rs` (R110, R113): its edges for channels that they do not name wait, and a
multi-unit command starts again. -/
def State.sendDisplaced (s : State) (n : Nat) (rs : List Rfx) : State :=
  let mask := rs.foldl (fun m r => m ||| r.mask) 0
  let a := if s.linkUp n then s.frameAlloc n else ⟨[], [], 0, 0⟩
  let l := (s.link n).unitDone
  let l := ({ l with edges := notNamed mask a.sent ++ a.wait, flight := [], aborted := true, reflex := rs, cmdPos := 0,
                     cmdFly := false, skip := 2, digs := (l.digest :: l.digs).take 32, scr0 := l.scr, txLine := 0 } : LinkSt).reline
  (s.setLink n l).countSlips n a.dropped 0

/-- A frame on link `n` carries command unit `u`: TSRC makes the samples of its source stale from now on, with level 0 for 8 more
upstream frames (R291). -/
def State.tsrcSent (s : State) (n : Nat) (u : BitVec 16) : State :=
  if u.toNat / 4096 = 4 then
    let k := u.toNat % 64
    let lvl := u.toNat / 256 % 4
    let t := s.meas.tst
    let hts := t.hts.filter (fun h => !(h.link == n && h.src == k)) ++
      [{ link := n, src := k, left := if lvl = 0 then some 8 else none }]
    let t := if lvl = 0 then { t with hts := hts } else { t with hts := hts, shown := some (s.linkEntry n k), vals := [] }
    ({ s with meas := { s.meas with tst := t } }).setBit Reg.ADC_TSTAT 29 (hts.any (·.left.isNone))
  else s

/-- A data frame on link `n`, which is UP (R93 to R96, R98). -/
def State.sendData (s : State) (n : Nat) : State :=
  let a := s.frameAlloc n
  let l := ((s.link n).unitDone).startAccess
  let f := downFrame s.claimSent s.time.fcnt (edgeWords (s.windowStart n) a.sent) l.nextUnit
  let (o, s) := s.injFrame n false (some f)
  let t := sendInj o f l.tail l.scr
  let d := digestStep (withCrc f) l.digest
  let restart := s.time.fcnt == 0
  let l := { l with
    digs := (d :: l.digs).take 32, digestOk := l.digestOk || restart,
    skip := if t.how = 2 then 2 else if restart then l.skip - 1 else l.skip,
    edges := a.wait, flight := a.sent, aborted := false, reflex := [], cmdFly := !l.cmds.isEmpty,
    scr := t.scr, scr0 := l.scr, tail := t.line.extractLsb' 0 16, txLine := t.line,
    digest := d }
  (((s.setLink n l).tsrcSent n ((s.link n).unitDone.startAccess).nextUnit).countForm n t.how).countSlips n a.dropped a.late

/-- The control request of the next frame in training, and the link after it (R107, R108): the outstanding request where it has not been
sent, and NOP while its reply is awaited or nothing is asked. -/
def LinkSt.nextCtrl (l : LinkSt) : CtrlReq × LinkSt :=
  match l.req, l.wait with
  | r :: _, none => (r, { l with wait := some 0 })
  | _ :: _, some k => (⟨0, 0⟩, { l with wait := some (k + 1) })
  | [], _ => (⟨0, 0⟩, l)

/-- A control frame on link `n`, which is not UP (R106 to R108). -/
def State.sendCtrl (s : State) (n : Nat) : State :=
  let (r, l) := (s.link n).nextCtrl
  let f := ctrlFrame s.claimSent s.time.fcnt (BitVec.ofNat 8 r.kind) l.cseq r.payload
  let (o, s) := s.injFrame n false (some f)
  let t := sendInj o f l.tail l.scr
  (s.setLink n { l with edges := [], flight := [], aborted := false, reflex := [], cmdFly := false, scr := t.scr, scr0 := l.scr,
                        tail := t.line.extractLsb' 0 16, txLine := t.line }).countForm n t.how

/-- One downstream frame on link `n`, with the running injection on it (R93, R106, R110, R129). -/
def State.sendFrame (s : State) (n : Nat) : State :=
  if !s.linkTx n then s.onLink n (fun l => { l with txLine := 0, reflex := [], flight := [], edges := [] })
  else
    let rs := (s.link n).carried
    if !rs.isEmpty then s.sendDisplaced n rs
    else if s.linkUp n then s.sendData n
    else s.sendCtrl n

end Sys2Proof.Machine
end

