-- ==== Sys2Proof/Machine/Sample.lean ====
section
/-!
DEFINITION. Delivered samples and their windows (R152, R185, R186), and the accessors of the blocks that hold more than
registers.
-/

namespace Sys2Proof.Machine

/-! ## Accessors -/

def State.chan (s : State) (e : Nat) : List Sample := vget s.chans e []
def State.ph (s : State) (i : Nat) : PhSt := vget s.phs i PhSt.initial
def State.onPh (s : State) (i : Nat) (f : PhSt → PhSt) : State := { s with phs := vset s.phs i (f (s.ph i)) }
def State.sg (s : State) (k : Nat) : StgSt := vget s.stg k StgSt.initial
def State.onSg (s : State) (k : Nat) (f : StgSt → StgSt) : State := { s with stg := vset s.stg k (f (s.sg k)) }
def State.lc (s : State) (n : Nat) : LocSt := vget s.loc n LocSt.initial
def State.onLc (s : State) (n : Nat) (f : LocSt → LocSt) : State := { s with loc := vset s.loc n (f (s.lc n)) }
def State.fd (s : State) (f : Nat) : FdrSt := vget s.fdr f FdrSt.initial
def State.onFd (s : State) (f : Nat) (g : FdrSt → FdrSt) : State := { s with fdr := vset s.fdr f (g (s.fd f)) }
def State.cx (s : State) (c : Nat) : CtxSt := vget s.ctx c CtxSt.initial
def State.onCx (s : State) (c : Nat) (f : CtxSt → CtxSt) : State := { s with ctx := vset s.ctx c (f (s.cx c)) }
def State.tr (s : State) (u : Nat) : TrcSt := vget s.trc u TrcSt.initial
def State.onTr (s : State) (u : Nat) (f : TrcSt → TrcSt) : State := { s with trc := vset s.trc u (f (s.tr u)) }
def State.str (s : State) (b : Nat) : StrSt := vget s.strs b StrSt.initial
def State.onStr (s : State) (b : Nat) (f : StrSt → StrSt) : State := { s with strs := vset s.strs b (f (s.str b)) }
def State.mbx (s : State) (f : Nat) : MbSt := vget s.mb f MbSt.initial
def State.onMb (s : State) (f : Nat) (g : MbSt → MbSt) : State := { s with mb := vset s.mb f (g (s.mbx f)) }

/-- An edge of phase `i` is committed or carried out for time `t`: PT_TON shows the on-time of the last pulse (R226). -/
def State.noteEdge (s : State) (i ev t : Nat) : State :=
  match (s.ph i).onAt with
  | none => if ev = 1 then s.onPh i (fun p => { p with onAt := some t }) else s
  | some a => if ev = 1 then s else (s.put (Reg.PT_TON i) 23 0 (t - a)).onPh i (fun p => { p with onAt := none })

/-! ## Shelf time -/

/-- Present shelf time in edge steps: the running link frame's start and the CK_CTL cycles since (R88). -/
def State.now (s : State) : Nat := s.frameNo * 2560 + min (64 * (s.time.mono - s.time.fmono).toNat) 2559

/-- Shelf time of the last gait-frame start. -/
def State.gaitStart (s : State) : Nat := s.time.gaits.headD 0

/-- Edge steps of the present gait frame. -/
def State.gaitSteps (s : State) : Nat := 64 * gaitCycles s.gaitLen

/-! ## Windows (R185, R186) -/

/-- The most samples of a source that a window can still need: 32, and those delivered since an anchor that is up to
two 4 µs gait frames old. -/
def histMax : Nat := 192

/-- Longest time from the nominal instant of a local sample to its delivery, in edge steps (R204). -/
def localLatency : Nat := 19 * 64

/-- The last sample at or before `lim` has been delivered by `now`: a later one has been, or the next one of a link
source lies beyond `lim`, or a local source can no longer deliver one. -/
def closedAt (h : List Sample) (lim now : Nat) : Bool :=
  match h with
  | [] => false
  | x :: _ => decide (lim < x.at_) || (decide (0 < x.gap) && decide (lim < x.at_ + x.gap)) ||
      (x.gap == 0 && decide (lim + localLatency ≤ now))

/-- The window value over the `2^m` most recent samples of `xs`; missing samples are stale zeros (R186). -/
def winValue (xs : List Sample) (m : Nat) : WinVal :=
  let ys := xs.take (2 ^ m)
  { v := cdiv (ys.foldl (fun a x => a + x.v) 0) (2 ^ m : Nat)
    stale := decide (ys.length < 2 ^ m) || ys.any (fun x => x.stale) }

/-- Insert into a list of times, newest first. -/
def insertTime (t : Nat) : List Nat → List Nat
  | [] => [t]
  | x :: r => if x ≤ t then t :: x :: r else x :: insertTime t r

/-- Whether the gait frame that starts at `g` contains an anchor of phase `i` (R185): one placed, past or ahead, or, for period starts
in the running frame, the next one of an ACTIVE phase. -/
def State.hasAnchor (s : State) (i g : Nat) (starts : Bool) (as : List Nat) : Bool :=
  let fin := g + s.gaitSteps
  as.any (fun a => decide (g ≤ a) && decide (a < fin)) ||
    (starts && decide (g = s.gaitStart) && s.fld (Reg.PT_STAT i) 31 30 == 1 &&
      match (s.ph i).pulses with
      | p :: _ => decide (p.start + p.len < fin)
      | [] => false)

/-- Anchors of a window up to `now`, newest first (R185). -/
def State.anchors (s : State) (anc i now : Nat) : List Nat :=
  let gs := s.time.gaits.filter (· ≤ now)
  let own (starts : Bool) (as : List Nat) :=
    (gs.filter (fun g => !s.hasAnchor i g starts as)).foldl (fun l g => insertTime g l) (as.filter (· ≤ now))
  match anc with
  | 2 => own true (s.ph i).starts
  | 3 => own false (s.ph i).ons
  | _ => gs

/-- The window of entry `e` with anchor `anc` of phase `i`, offset `ofs` and 2^m samples, as last closed before `now`
(R185). -/
def State.window (s : State) (e anc i ofs m now : Nat) : WinVal :=
  if 32 ≤ e && e < 64 then ⟨0, true⟩
  else
    let h := s.chan e
    if anc = 0 then (if h.isEmpty then ⟨0, true⟩ else winValue h (min m 5))
    else match (s.anchors anc i now).find? (fun a => closedAt h (a + ofs) now) with
      | some a => winValue (h.filter (fun x => x.at_ ≤ a + ofs)) (min m 5)
      | none => ⟨0, true⟩

/-- The window with ANC = 1 and ANCOFS = 0 that the phase manager and the shelf functions use. -/
def State.winM (s : State) (e m : Nat) : WinVal := s.window e 1 0 0 m s.now

/-- The last delivered sample of an entry. -/
def State.lastV (s : State) (e : Nat) : Int := ((s.chan e).head?.map (fun x => x.v)).getD 0

end Sys2Proof.Machine
end

