-- ==== Sys2Proof/Machine/Stages.lean ====
section
/-!
DEFINITION. Phases, stages and local PWM (chapter 07): edges from duties, the states of phases and stages, re-spacing,
set-point slewing, curb, spur, phase failure, and the snapshots of R224.
-/

namespace Sys2Proof.Machine

/-! ## Contexts as the edge engine sees them (R168, R188) -/

/-- STATUS of context `c`. -/
def State.cStat (s : State) (c : Nat) : Word := s.mem32 (512 * c)

/-- STATE of context `c`: 0 DISABLED, 1 TETHERED, 2 ARMED, 3 RUNNING. -/
def State.cState (s : State) (c : Nat) : Nat := fieldOf (s.cStat c) 1 0

/-- Set field `[hi:lo]` of STATUS. -/
def State.putStat (s : State) (c hi lo v : Nat) : State := s.setMem32 (512 * c) (setField (s.cStat c) hi lo v)

/-- The member that a read of context `c` yields (R188, R190): the driving member where `c` is the primary of an active
twin relation. -/
def State.driving (s : State) (c : Nat) : Nat :=
  let t := fieldOf (s.mem32 (512 * c + 8)) 7 0
  if bitOf (s.cStat c) 8 && decide (c < t) && !bitOf (s.cStat c) 2 then t else c

/-- The output of context `c` as last released: 0 where OUTV is clear (R180). -/
def State.liveOut (s : State) (c : Nat) : Int :=
  if bitOf (s.cStat c) 3 then signed 16 (s.mem16 (512 * c + 0x24)) else 0

/-- The duty of phase `i` (R200). -/
def State.duty (s : State) (i : Nat) : Int := s.liveOut (s.driving (s.fld (Reg.PT_LOC i) 7 0))

/-- On-time of a duty (R199). -/
def ton (d : Int) (p : Nat) : Nat := (cdiv (max d 0 * p) 32768).toNat

/-! ## Where a phase is (R209) -/

def State.phValid (s : State) (i : Nat) : Bool := s.bit (Reg.PT_LOC i) 31
def State.phLocal (s : State) (i : Nat) : Bool := s.bit (Reg.PT_LOC i) 30
def State.phWhere (s : State) (i : Nat) : Nat := s.fld (Reg.PT_LOC i) 27 24
def State.phCh (s : State) (i : Nat) : Nat := s.fld (Reg.PT_LOC i) 22 20
def State.phStage (s : State) (i : Nat) : Nat := s.fld (Reg.PT_LOC i) 16 12

/-- STATE of phase `i` (R210): 0 IDLE, 1 ACTIVE, 2 FAILED, 3 SAFE. -/
def State.phState (s : State) (i : Nat) : Nat := s.fld (Reg.PT_STAT i) 31 30

/-- Valid phases of stage `k`, ascending (R209). -/
def State.phases (s : State) (k : Nat) : List Nat :=
  (List.range 128).filter (fun i => s.phValid i && s.phStage i == k)

def State.activePhases (s : State) (k : Nat) : List Nat := (s.phases k).filter (fun i => s.phState i == 1)

/-- STATE of stage `k` (R211): 0 OFF, 1 START, 2 RUN, 3 SAFE. -/
def State.stState (s : State) (k : Nat) : Nat := s.fld (Reg.ST_STAT k) 31 30

def State.hasLocal (s : State) (k : Nat) : Bool := (s.phases k).any (fun i => s.phLocal i)

/-- Kill latch of R206: PHS_STAT.KILLLAT. -/
def State.killed (s : State) : Bool := s.bit Reg.PHS_STAT 30

/-- Counts of ST_STAT and PHS_STAT follow the phase states (R225, R228). -/
def State.countPhases (s : State) (k : Nat) : State :=
  let ps := s.phases k
  let n (x : Nat) := (ps.filter (fun i => s.phState i == x)).length
  let s := ((s.put (Reg.ST_STAT k) 23 16 (n 2)).put (Reg.ST_STAT k) 15 8 (n 1)).put (Reg.ST_STAT k) 7 0 ps.length
  s.put Reg.PHS_STAT 7 0 ((List.range 128).filter (fun i => s.phState i == 1)).length

/-! ## Edges of a phase (R200, R201) -/

/-- Insert a local edge in time order; at one position the higher EV code prevails (R97). -/
def insertLocal (e : Edge) : List Edge → List Edge
  | [] => [e]
  | x :: r =>
    if e.at_ = x.at_ then (if x.ev < e.ev then e :: r else x :: r)
    else if e.at_ < x.at_ then e :: x :: r else x :: insertLocal e r

/-- Start of the edge window of frame `f` on link `n` (R95). -/
def State.frameWindow (s : State) (n f : Nat) : Nat :=
  f * 2560 + (s.link n).lead

/-- Earliest committable instant E(x) of phase `i` for an output released at `x` (R201). -/
def State.earliest (s : State) (i x : Nat) : Nat :=
  if s.phLocal i then x + 5 * 64 else s.frameWindow (s.phWhere i) ((x + 3 * 64) / 2560 + 1)

/-- Place an edge of phase `i`. -/
def State.placeEdge (s : State) (i ev t : Nat) : State :=
  if s.phLocal i then
    s.onLc (s.phWhere i) (fun l => { l with edges := insertLocal { ch := 0, ev := ev, at_ := t } l.edges })
  else if s.linkUp (s.phWhere i) then s.addEdge (s.phWhere i) { ch := s.phCh i, ev := ev, at_ := t }
  else s

/-- Whether an edge of phase `i` is still uncommitted (R201): a remote edge until its frame begins, a local one until 2
CK_CTL cycles before its time. -/
def State.uncommitted (s : State) (i ev t : Nat) : Bool :=
  if s.phLocal i then
    (s.lc (s.phWhere i)).edges.any (fun e => e.ev == ev && e.at_ == t) && decide (s.now + 2 * 64 < t)
  else (s.link (s.phWhere i)).edges.any (fun e => e.ch == s.phCh i && e.ev == ev && e.at_ == t)

/-- Take one uncommitted edge of phase `i` back. -/
def State.removeEdge (s : State) (i ev t : Nat) : State :=
  if s.phLocal i then
    s.onLc (s.phWhere i) (fun l => { l with edges := l.edges.filter (fun e => !(e.ev == ev && e.at_ == t)) })
  else
    s.onLink (s.phWhere i) (fun l =>
      { l with edges := l.edges.filter (fun e => !(e.ch == s.phCh i && e.ev == ev && e.at_ == t)) })

/-- Discard every uncommitted edge of phase `i` (R208). -/
def State.discardEdges (s : State) (i : Nat) : State :=
  let s := s.onPh i (fun p => { p with pulses := [] })
  if s.phLocal i then
    let lim := s.now + 2 * 64
    s.onLc (s.phWhere i) (fun l => { l with edges := l.edges.filter (fun e => decide (e.at_ ≤ lim)) })
  else s.onLink (s.phWhere i) (fun l => { l with edges := l.edges.filter (fun e => e.ch != s.phCh i) })

/-- Take a pulse of phase `i` back, with its edges that are not committed. -/
def State.unplace (s : State) (i : Nat) (p : Pulse) : State :=
  let s := match p.on with | some t => s.removeEdge i 1 t | none => s
  let s := match p.off with | some t => s.removeEdge i 2 t | none => s
  s.onPh i (fun h => { h with pulses := h.pulses.filter (fun q => q != p),
                              ons := h.ons.filter (fun t => some t != p.on) })

/-- A pulse of phase `i` whose turn-on is committed (R201). -/
def State.turnedOn (s : State) (i : Nat) (p : Pulse) : Bool :=
  match p.on with | some t => !s.uncommitted i 1 t | none => false

/-- Phase `i` receives no further turn-on: pulses whose turn-on is not committed go, and a pulse already on ends at its
turn-off (R210). -/
def State.dropPulses (s : State) (i : Nat) : State :=
  ((s.ph i).pulses.filter (fun p => !s.turnedOn i p)).foldl (fun s p => s.unplace i p) s

/-- The edges of a pulse (R200): period start, period length, on-time and modulation. -/
def pulseEdges (start len t mod : Nat) : Option (Nat × Nat) :=
  if t = 0 then none
  else match mod with
    | 1 => some (start + len - t, start + len)
    | 2 => some (start + (len - t) / 2, start + (len - t) / 2 + t)
    | _ => some (start, start + t)

/-- Recent times kept per phase for the anchors of R185. -/
def anchorMax : Nat := 32

/-- Record a pulse of phase `i` and place its edges. -/
def State.addPulse (s : State) (i : Nat) (p : Pulse) : State :=
  let s := match p.on with | some t => s.placeEdge i 1 t | none => s
  let s := match p.off with | some t => s.placeEdge i 2 t | none => s
  s.onPh i (fun h => { h with pulses := (p :: h.pulses).take 12,
                              ons := (match p.on with | some t => (t :: h.ons).take anchorMax | none => h.ons) })

/-- A pulse after a release at `x` (R201); a period that takes no pulse keeps none (R213, R218). -/
def State.movePulse (s : State) (i x : Nat) (p : Pulse) : Pulse :=
  if p.spur || p.dead then p
  else
    let k := s.phStage i
    let ex := s.earliest i x
    let mod := s.fld (Reg.ST_CFG k) 13 12
    let t := ton (s.duty i) p.len
    let fixedOn := match p.on with
      | some a => decide (a < ex) || !s.uncommitted i 1 a
      | none => false
    if fixedOn then
      match p.on, p.off with
      | some a, some b =>
        if decide (b < ex) || !s.uncommitted i 2 b || mod == 1 then p else { p with off := some (max (a + t) ex) }
      | _, _ => p
    else match pulseEdges p.start p.len t mod with
      | some (a, b) => if a < ex then { p with on := none, off := none } else { p with on := some a, off := some b }
      | none => { p with on := none, off := none }

/-- Pulse `q` takes the place of pulse `p` of phase `i`, with its edges. -/
def State.replacePulse (s : State) (i : Nat) (p q : Pulse) : State :=
  if q = p then s
  else
    let s := if p.on = q.on then s else match p.on with | some t => s.removeEdge i 1 t | none => s
    let s := if p.off = q.off then s else match p.off with | some t => s.removeEdge i 2 t | none => s
    let s := if p.on = q.on then s else match q.on with | some t => s.placeEdge i 1 t | none => s
    let s := if p.off = q.off then s else match q.off with | some t => s.placeEdge i 2 t | none => s
    s.onPh i (fun h => { h with pulses := h.pulses.map (fun r => if r = p then q else r),
                                ons := (match p.on, q.on with
                                        | some a, some b => h.ons.map (fun t => if t = a then b else t)
                                        | some a, none => h.ons.filter (fun t => t != a)
                                        | none, some b => (b :: h.ons).take anchorMax
                                        | none, none => h.ons) })

/-- Apply a release at `x` to the pulses of phase `i` (R201). -/
def State.releasePhase (s : State) (i x : Nat) : State :=
  (s.ph i).pulses.foldl (fun s p => s.replacePulse i p (s.movePulse i x p)) s

/-- Act on every ACTIVE phase whose duty comes from a context that `c` selects. -/
def State.onDriven (s : State) (c : State → Nat → Bool) (f : State → Nat → State) : State :=
  (List.range 128).foldl (fun s i =>
    if s.phValid i && s.phState i == 1 && c s (s.fld (Reg.PT_LOC i) 7 0) then f s i else s) s

/-- Pass an output that context `c` released at `x` to the phases it drives (R154, R200, R201). -/
def State.releaseTo (s : State) (c x : Nat) : State :=
  s.onDriven (fun s y => s.driving y == c) (fun s i => s.releasePhase i x)

/-- OUTV of context `c` has cleared (R200): a phase that it drives does not turn on any more, and a pulse already on ends at its
turn-off. -/
def State.outputGone (s : State) (c : Nat) : State :=
  s.onDriven (fun s y => s.driving y == c) (fun s i =>
    (s.ph i).pulses.foldl (fun s p =>
      if p.spur || s.turnedOn i p then s else s.replacePulse i p { p with on := none, off := none }) s)

/-- The driving member of the contexts in `cs` may have changed at `x` (R188, R200): the phases that name them follow the duty now in
effect. -/
def State.redrive (s : State) (cs : List Nat) (x : Nat) : State :=
  s.onDriven (fun _ y => cs.contains y) (fun s i => s.releasePhase i x)

/-! ## Force-safe and release (R205, R208) -/

/-- An edge that local channel `n` carries out at `t` is one of the phase assigned to it. -/
def State.noteLocal (s : State) (n ev t : Nat) : State :=
  if s.bit (Reg.EDG_STAT n) 4 then s.noteEdge (s.fld (Reg.EDG_STAT n) 14 8) ev t else s

/-- Edges that a frame of link `n` commits are those of its phases (R201), each channel's in time order. -/
def State.noteSent (s : State) (n : Nat) (es : List Edge) : State :=
  if es.isEmpty then s
  else (List.range 128).foldl (fun s i =>
    if s.phValid i && !s.phLocal i && s.phWhere i == n then
      ((es.filter (fun e => e.ch == s.phCh i)).foldl (fun l e => insertLocal e l) []).foldl
        (fun s e => s.noteEdge i e.ev e.at_) s
    else s) s

/-- Force local channel `n` to its safe state and latch it (R205, R208). -/
def State.forceLocal (s : State) (n : Nat) : State :=
  ((s.noteLocal n 3 s.now).onLc n (fun l => { l with edges := [], a := .safe, b := .safe, on := false, due := none })).setBit
    (Reg.EDG_STAT n) 2 true

/-- Clear the force-safe latch of a local channel, unless the kill latch is set (R205). -/
def State.releaseLocal (s : State) (n : Nat) : State := if s.killed then s else s.setBit (Reg.EDG_STAT n) 2 false

/-- Mask of the head channels that remote phases of a list use on link `n`. -/
def State.phMask (s : State) (is : List Nat) (n : Nat) : Nat :=
  is.foldl (fun m i => if !s.phLocal i && s.phWhere i == n then m ||| (1 <<< s.phCh i) else m) 0

/-- Send a reflex word on every link that a list of phases uses (R208, R110). -/
def State.reflexPhases (s : State) (act : Nat) (is : List Nat) : State :=
  (List.range 16).foldl (fun s n => let m := s.phMask is n
    if m = 0 then s else s.sendReflex n act m) s

/-- Force-safe phases with a cause: each becomes SAFE unless it is FAILED, its uncommitted edges are discarded, remote
ones are named in FORCE reflex words, and local ones are forced directly (R208). -/
def State.forcePhases (s : State) (is : List Nat) (cause : Nat) : State :=
  let s := is.foldl (fun s i =>
    let s := s.discardEdges i
    let s := if s.phLocal i then s.forceLocal (s.phWhere i) else s.noteEdge i 3 s.now
    let s := s.setBit (Reg.PT_STAT i) 25 false
    if s.phState i == 2 then s else (s.put (Reg.PT_STAT i) 31 30 3).put (Reg.PT_STAT i) 29 26 cause) s
  s.reflexPhases 0 is

/-- Release phases (R98, R205, R211): RELEASE for each remote one, the latch of each local one. -/
def State.releasePhases (s : State) (is : List Nat) : State :=
  let s := is.foldl (fun s i => if s.phLocal i then s.releaseLocal (s.phWhere i) else s) s
  (List.range 16).foldl (fun s n => s.sendRelease n (s.phMask is n)) s

/-! ## Snapshots (R224, R397) -/

def State.slotOf (s : State) (k : Nat) : SbgSlot :=
  vget s.sbg k { copyA := none, copyB := none, full := false, count := 0, bad := false, staged := none, last := none }

/-- Capture a snapshot into staging (R397). -/
def State.takeSnap (s : State) (slot : Nat) (payload : List Byte) (urgent inj fwd : Bool) : State :=
  let x := s.slotOf slot
  let x := { x with count := min (x.count + 1) 0xFFFF }
  let x := if s.bit Reg.SBG_CFG 0 && (x.full || x.staged.isSome) then x
    else { x with staged := some { slot := slot, payload := payload, ponCnt := s.rd Reg.TIM_PONCNT, seq := 0,
                                   stamp := s.stamp, inj := inj, fwd := fwd, urgent := urgent } }
  { s with sbg := vset s.sbg slot x }

/-- The window of a phase current for phase failure (R221): M is ST_PF1.PFM. -/
def State.phCur (s : State) (i : Nat) : WinVal := s.winM (s.fld (Reg.PT_SENSE i) 8 0) (s.fld (Reg.ST_PF1 (s.phStage i)) 10 8)

/-- The window of the stage current channel times its scale (R221). -/
def State.stageCur (s : State) (k : Nat) : Int :=
  (s.winM (s.fld (Reg.ST_VCH k) 24 16) (s.fld (Reg.ST_PF1 k) 10 8)).v * (2 ^ s.fld (Reg.ST_VCH k) 28 25 : Nat)

/-- The load L of a stage (R222). -/
def State.stageLoad (s : State) (k : Nat) : Int :=
  if s.bit (Reg.ST_VCH k) 31 then s.stageCur k
  else (s.activePhases k).foldl (fun a i => a + (s.phCur i).v) 0

/-- The derated limit DLIM with `f` failed phases (R222). -/
def State.derated (s : State) (k f : Nat) : Int :=
  let c := (s.phases k).length
  cdiv ((s.fld (Reg.ST_ILIM k) 19 0 : Int) * ((c : Int) - f)) c

/-- Sticky flags of a context, 8 bits (R143). -/
def State.cFlags (s : State) (c : Nat) : Nat := fieldOf (s.mem32 (512 * c + 4)) 4 0

/-- Pad or cut a byte list to `n` bytes. -/
def padBytes (n : Nat) (l : List Byte) : List Byte := (l ++ List.replicate n 0).take n

/-- The stage snapshot of R224. -/
def State.stageSnapBytes (s : State) (k cause st ph : Nat) : List Byte :=
  let ps := (s.phases k).take 16
  leBytes 1 k ++ leBytes 1 cause ++ leBytes 1 st ++ leBytes 1 ph ++ leBytes 4 s.gfcN ++ leBytes 8 s.time.mono.toNat
    ++ leBytes 2 (code 16 (rnd (signed 32 (s.rdN (Reg.ST_REF k))))) ++ leBytes 2 (s.fld (Reg.ST_CURBL k) 31 16)
    ++ leBytes 2 (s.fld (Reg.ST_CURBL k) 15 0)
    ++ leBytes 2 (if s.bit (Reg.ST_TCH k) 15 then code 16 (s.lastV (s.fld (Reg.ST_TCH k) 8 0)) else 0)
    ++ leBytes 4 (code 32 (s.stageLoad k)) ++ leBytes 4 (s.fld (Reg.ST_DLIM k) 19 0)
    ++ leBytes 1 (s.fld (Reg.ST_STAT k) 15 8) ++ leBytes 1 (s.fld (Reg.ST_STAT k) 23 16)
    ++ leBytes 1 (s.fld (Reg.ST_STAT k) 29 28) ++ leBytes 1 (s.cFlags (s.fld (Reg.ST_CFG k) 23 16))
    ++ leBytes 4 ((ps.zipIdx).foldl (fun a x => a + s.phState x.1 * 4 ^ x.2) 0) ++ leBytes 8 0
    ++ padBytes 32 (ps.flatMap (fun i => leBytes 2 (code 16 (s.phCur i).v)))
    ++ padBytes 32 (ps.flatMap (fun i => leBytes 2 (code 16 (s.duty i))))
    ++ padBytes 16 (ps.flatMap (fun i => leBytes 1 (s.cFlags (s.fld (Reg.PT_LOC i) 7 0))))

/-- Take the stage snapshot into slot `k` (R224, R395). -/
def State.stageSnap (s : State) (k cause st ph : Nat) (urgent fwd : Bool) : State :=
  s.takeSnap k (s.stageSnapBytes k cause st ph) urgent false fwd

/-! ## Active set, stage periods and re-spacing (R203, R210, R213, R214) -/

/-- The pattern register's next value (R203). -/
def ditherNext (r : BitVec 16) : BitVec 16 := (r >>> 1) ^^^ (if r.getLsbD 0 then 0xB400 else 0)

/-- The phases that the active set of stage `k` holds (R210). -/
def State.wanted (s : State) (k : Nat) : List Nat :=
  let c := (s.phases k).filter (fun i => s.phState i < 2)
  let n := s.fld (Reg.ST_NREQ k) 7 0
  if n = 0 then c else c.take n

/-- Target angle of spaced position `j` among `n` (R213). -/
def spacedAngle (j n : Nat) : Nat := (cdiv ((j * 65536 : Nat) : Int) (n : Int)).toNat % 65536

/-- The angle between `old` and `target` after `m` of `r` steps (R214). -/
def angleStep (old target m r : Nat) : Nat :=
  if r ≤ m then target % 65536
  else
    let d0 : Int := (target : Int) - old
    let d := if d0 < -32767 then d0 + 65536 else if 32768 < d0 then d0 - 65536 else d0
    code 16 ((old : Int) + cdiv (d * m) r)

/-- The angle of phase `i` in the stage period in progress at `t` (R213, R214). -/
def State.angleAt (s : State) (i t : Nat) : Nat :=
  match (s.ph i).angs.find? (fun a => decide (a.1 ≤ t)) with
  | some a => a.2
  | none => s.fld (Reg.PT_STAT i) 15 0

/-- Re-spacing of stage `k` does not advance in a period that starts at `t`, in a spur (R220). -/
def State.pausedAt (s : State) (k t : Nat) : Bool :=
  match (s.sg k).te with
  | some e => decide ((s.sg k).ts ≤ t) && decide (t ≤ e)
  | none => false

/-- One stage period of re-spacing (R214): the period that starts at `start`. RESPACE_DONE is raised when the period in which every angle
is at its target is formed (DESIGN CHOICE, log 129). -/
def State.respaceStep (s : State) (k start : Nat) : State :=
  let g := s.sg k
  if s.bit (Reg.ST_STAT k) 27 && decide (g.rfrom < start) then
    let m := g.rm + 1
    let done := decide (g.rlen ≤ m)
    let s := (s.activePhases k).foldl (fun s i =>
      let p := s.ph i
      let a := angleStep p.old p.target m g.rlen
      (s.put (Reg.PT_STAT i) 15 0 a).setBit (Reg.PT_STAT i) 25 (!done && a != p.target)) s
    let s := s.onSg k (fun g => { g with rm := m })
    if done then (s.setBit (Reg.ST_STAT k) 27 false).raise (E.RESPACE_DONE k) else s
  else s

/-- The pulse of phase `i` in the period that starts at `start` (R200, R213): a turn-on that cannot be committed any more is
dropped, and no pulse starts in a spur (R218, R219). -/
def State.formPulse (s : State) (i k start len : Nat) : Pulse :=
  let none_ : Pulse := { start := start, len := len, on := none, off := none, spur := false, dead := false }
  let inSpur := match (s.sg k).te with
    | some t => decide (start ≤ t)
    | none => false
  if inSpur then { none_ with dead := true }
  else match pulseEdges start len (ton (s.duty i) len) (s.fld (Reg.ST_CFG k) 13 12) with
    | some (a, b) => if a < s.earliest i s.now then { none_ with dead := true } else { none_ with on := some a, off := some b }
    | none => none_

/-- Place the pulses of the stage period of stage `k` that starts at `start`: every ACTIVE phase whose period in it starts at `lim` or
later, and whose pulse there is not committed, gets that pulse (R200, R213). -/
def State.placePeriod (s : State) (k start len lim : Nat) : State :=
  (s.activePhases k).foldl (fun s i =>
    let st := start + (cdiv ((s.angleAt i start : Int) * len) 65536).toNat
    let inside (t : Nat) : Bool := decide (start ≤ t) && decide (t < start + len)
    let old := (s.ph i).pulses.filter (fun p => inside p.start && !p.spur)
    if decide (st < lim) || old.any (fun p => s.turnedOn i p) then s
    else
      let s := old.foldl (fun s p => s.unplace i p) s
      let s := s.onPh i (fun p => { p with starts := (st :: p.starts.filter (fun t => !inside t)).take anchorMax })
      s.addPulse i (s.formPulse i k st len)) s

/-- Form the stage period of stage `k` that starts at `start` (R213): its angles, its pulses, and its place among those formed. -/
def State.formPeriod (s : State) (k start len : Nat) : State :=
  let s := if s.pausedAt k start then s else s.respaceStep k start
  let s := (s.activePhases k).foldl (fun s i =>
    let a := s.fld (Reg.PT_STAT i) 15 0
    s.onPh i (fun p => { p with angs := ((start, a) :: p.angs.filter (fun x => decide (x.1 < start))).take 8 })) s
  (s.placePeriod k start len 0).onSg k (fun g =>
    { g with next := start + len, formed := ({ start := start, len := len, m := g.rm } :: g.formed).take 8 })

/-- The next stage period's length and the pattern register after it (R203). -/
def State.periodLen (s : State) (k : Nat) : Nat × BitVec 16 :=
  let p := s.fld (Reg.ST_PER k) 23 0
  let damp := s.fld (Reg.ST_DITH k) 11 0
  let r := (s.sg k).r
  if damp = 0 then (p, r)
  else
    let r := ditherNext r
    let d := min damp (p / 16)
    let d := if s.hasLocal k then min d (min (p - 10240) (2560000 - p)) else d
    (p + r.toNat * (2 * d + 1) / 65536 - d, r)

/-- Form the next stage period of stage `k` with its own length (R203, R213). -/
def State.formNext (s : State) (k : Nat) : State :=
  let (len, r) := s.periodLen k
  (s.onSg k (fun g => { g with r := r })).formPeriod k (s.sg k).next len

/-- The stage periods of stage `k` that have been formed and have yet to begin are formed again, after a change of what they rest on
(R202, R212, R214, R218 to R220); `relen` gives them lengths anew. -/
def State.reform (s : State) (k : Nat) (relen : Bool) : State :=
  let g := s.sg k
  let redo := (g.formed.filter (fun p => decide (s.now < p.start))).reverse
  match redo with
  | [] => s
  | f :: _ =>
    let kept := g.formed.filter (fun p => decide (p.start ≤ s.now))
    let rm := match kept with
      | p :: _ => if g.rfrom < p.start then p.m else 0
      | [] => 0
    let s := s.onSg k (fun g => { g with formed := kept, next := f.start })
    let s := if s.bit (Reg.ST_STAT k) 27 then
        (s.activePhases k).foldl (fun s i =>
          let p := s.ph i
          s.put (Reg.PT_STAT i) 15 0 (if rm = 0 then p.old else angleStep p.old p.target rm g.rlen))
          (s.onSg k (fun g => { g with rm := rm }))
      else s
    redo.foldl (fun s p => if relen then s.formNext k else s.formPeriod k p.start p.len) s

/-- Set the active set of stage `k` and start re-spacing where it changed, or where `force` says that it did (R210, R212,
R214); `fresh` gives every phase its angle at once, as at a stage start. Periods already formed that have yet to begin are
formed again. -/
def State.setActiveFrom (s : State) (k : Nat) (fresh force : Bool) : State :=
  let want := if s.stState k == 1 || s.stState k == 2 then s.wanted k else []
  let had := s.activePhases k
  let s := (s.phases k).foldl (fun s i =>
    if s.phState i < 2 then
      s.put (Reg.PT_STAT i) 31 30 (if want.contains i then 1 else 0)
    else s) s
  let s := had.foldl (fun s i => if want.contains i then s else (s.dropPulses i).setBit (Reg.PT_STAT i) 25 false) s
  let s :=
    if want = had && !fresh && !force then s
    else
      let s := (want.zipIdx).foldl (fun s x =>
        let t := spacedAngle x.2 want.length
        if had.contains x.1 && !fresh then
          let a := s.angleAt x.1 s.now
          let s := s.onPh x.1 (fun p => { p with old := a, target := t })
          (s.put (Reg.PT_STAT x.1) 15 0 a).setBit (Reg.PT_STAT x.1) 25 (a != t)
        else
          (s.onPh x.1 (fun p => { p with old := t, target := t, angs := [] })).put (Reg.PT_STAT x.1) 15 0 t) s
      if fresh || want.isEmpty then s.setBit (Reg.ST_STAT k) 27 false
      else
        let s := (s.onSg k (fun g => { g with rm := 0, rlen := g.resp.getD (s.fld (Reg.ST_CFG k) 7 0), rfrom := s.now,
                                              resp := none })).setBit (Reg.ST_STAT k) 27 true
        s.reform k false
  s.countPhases k

/-- Set the active set of stage `k` (R210, R214). -/
def State.setActive (s : State) (k : Nat) (fresh : Bool) : State := s.setActiveFrom k fresh false

/-! ## Stage states (R206, R211) -/

/-- A capping request of stage `k` ends when it leaves RUN (R222); its fault timer clears (R251). -/
def State.leaveRun (s : State) (k : Nat) : State :=
  (((s.setBit (Reg.ST_STAT k) 26 false).setBit Reg.PHS_CAPREQ k false).setBit Reg.SHF_FTRUN k false).onSg k
    (fun g => { g with ft := 0, pmt := 0 })

/-- Stage `k` goes to SAFE with a cause (R211): every phase force-safed, a snapshot taken, a spur in progress ended. -/
def State.stageSafe (s : State) (k cause : Nat) (fwd : Bool) : State :=
  let st := s.stState k
  if st == 3 then s
  else
    let s := s.stageSnap k cause st 0xFF (cause == 8 || cause == 9) fwd
    let s := s.forcePhases (s.phases k) cause
    let s := ((s.put (Reg.ST_STAT k) 31 30 3).put (Reg.ST_STAT k) 29 28 0).setBit (Reg.ST_STAT k) 27 false
    let s := (s.onSg k (fun g => { g with te := none, ended := false, lock := 0, rm := 0 })).leaveRun k
    (s.countPhases k).raise (E.STAGE_SAFE k)

/-- A contained fault takes a stage in START or RUN to SAFE (R211). -/
def State.stageFaultSafe (s : State) (k cause : Nat) (fwd : Bool) : State :=
  if s.stState k == 1 || s.stState k == 2 then s.stageSafe k cause fwd else s

/-- The pattern register's start value (R203). -/
def State.ditherSeed (s : State) (k : Nat) : BitVec 16 :=
  let d := s.fld (Reg.ST_DITH k) 31 16
  if d = 0 then 0xACE1 else BitVec.ofNat 16 d

/-- START acting on stage `k` (R211). -/
def State.stageStart (s : State) (k : Nat) : State :=
  if s.stState k != 0 then s
  else
    let ps := s.phases k
    if s.bit (Reg.ST_CFG k) 31 && ps.all (fun i => s.phLocal i || s.linkUp (s.phWhere i)) &&
        ps.any (fun i => s.phState i < 2) then
      let s := (s.setBit (Reg.ST_STAT k) 25 false).put (Reg.ST_STAT k) 31 30 1
      let s := s.wrN (Reg.ST_REF k) (s.fld (Reg.ST_VSET k) 31 16 * 65536)
      let s := s.onSg k (fun g => { g with next := s.gaitStart + s.fld (Reg.ST_ORG k) 23 0, formed := [],
                                           r := s.ditherSeed k, te := none, ended := false, lock := 0 })
      (s.setActive k true).raise (E.STAGE_START k)
    else (s.setBit (Reg.ST_STAT k) 25 true).raise (E.START_REFUSED k)

/-- STOP acting on stage `k` (R211, R220): turn-offs at the earliest committable instants. -/
def State.stageStop (s : State) (k : Nat) : State :=
  if s.stState k == 1 || s.stState k == 2 then
    let x := s.gaitStart
    let spur := s.fld (Reg.ST_STAT k) 29 28 == 1
    let s := ((s.phases k).filter (fun i => s.phState i < 2)).foldl (fun s i =>
      let s := s.discardEdges i
      let s := s.placeEdge i 2 (s.earliest i x)
      (s.put (Reg.PT_STAT i) 31 30 0).setBit (Reg.PT_STAT i) 25 false) s
    let s := ((s.put (Reg.ST_STAT k) 31 30 0).put (Reg.ST_STAT k) 29 28 0).setBit (Reg.ST_STAT k) 27 false
    let s := (s.onSg k (fun g => { g with te := none, ended := false, lock := 0, rm := 0 })).leaveRun k
    let s := if spur then s.raise (E.SPUR_END k) else s
    (s.countPhases k).raise (E.STAGE_OFF k)
  else s

/-- CLEAR acting on stage `k` (R206, R211). -/
def State.stageClear (s : State) (k : Nat) : State :=
  if s.stState k == 3 && !(s.hasLocal k && s.killed) then
    let ps := (s.phases k).filter (fun i => s.phState i != 2)
    let s := s.releasePhases ps
    let s := ps.foldl (fun s i => s.put (Reg.PT_STAT i) 31 30 0) s
    (s.put (Reg.ST_STAT k) 31 30 0).countPhases k
  else s

/-- One command of ST_CTL (R227). -/
def State.stageOp (s : State) (k op : Nat) : State :=
  match op with
  | 1 => s.stageStart k
  | 2 => s.stageStop k
  | 3 => s.stageClear k
  | _ => s

/-- Commands of ST_CTL act (R211); while a PHASE commit is pending a START waits, and the other commands act (R509). -/
def State.stageCommands (s : State) (phasePending : Bool) (k : Nat) : State :=
  let ops := (s.sg k).cmd
  let now := if phasePending then ops.filter (· != 1) else ops
  let wait := if phasePending then ops.filter (· == 1) else []
  now.foldl (fun s op => s.stageOp k op) (s.onSg k (fun g => { g with cmd := wait }))

/-- REVIVE acting on phase `i` (R223). -/
def State.phaseRevive (s : State) (i : Nat) : State :=
  if (s.ph i).revive then
    let s := s.onPh i (fun p => { p with revive := false })
    if s.phState i == 2 && s.stState (s.phStage i) == 0 then
      let s := (s.put (Reg.PT_STAT i) 31 30 0).wrN (Reg.PT_PFCNT i) 0
      (s.releasePhases [i]).countPhases (s.phStage i)
    else s
  else s

/-! ## Turnover steps of the phase manager (R215, R216, R221) -/

/-- Slew the reference of stage `k` (R215) and enter RUN where it has arrived (R211). -/
def State.slewStage (s : State) (k : Nat) : State :=
  if s.stState k == 1 || s.stState k == 2 then
    let r := signed 32 (s.rdN (Reg.ST_REF k))
    let t := signed 16 (s.fld (Reg.ST_VSET k) 15 0) * 65536
    let d : Int := s.fld (Reg.ST_SLEW k) 23 0
    let r := if r < t then min (r + d) t else if t < r then max (r - d) t else r
    let s := s.wrN (Reg.ST_REF k) (code 32 r)
    if s.stState k == 1 && r == t then (s.put (Reg.ST_STAT k) 31 30 2).raise (E.STAGE_RUN k) else s
  else s

/-- The curb limit at voltage `v` (R216). -/
def curbl (imin imax vfloor vknee v : Int) : Int :=
  if vknee ≤ v then imax
  else if v ≤ vfloor then imin
  else imin + cdiv ((imax - imin) * (v - vfloor)) (vknee - vfloor)

/-- V of stage `k` (R216). -/
def State.stageV (s : State) (k : Nat) : Int := (s.winM (s.fld (Reg.ST_VCH k) 8 0) (s.fld (Reg.ST_VCH k) 14 12)).v

/-- Curb of stage `k` (R216). -/
def State.curbStage (s : State) (k : Nat) : State :=
  if s.bit (Reg.ST_CFG k) 31 then
    let v := s.stageV k
    let c := curbl (s.sfld (Reg.ST_CURB0 k) 15 0) (s.sfld (Reg.ST_CURB0 k) 31 16) (s.sfld (Reg.ST_CURB1 k) 15 0)
      (s.sfld (Reg.ST_CURB1 k) 31 16) v
    s.wrN (Reg.ST_CURBL k) (code 16 c + 65536 * code 16 v)
  else s

/-- One failure counter of a phase: field `[hi:lo]` of PT_PFCNT (R221). -/
def State.pfCount (s : State) (i lo : Nat) (c : Bool) : State :=
  if c then s.bump (Reg.PT_PFCNT i) (lo + 7) lo 1 else s.put (Reg.PT_PFCNT i) (lo + 7) lo 0

/-- The phase that condition SUM is charged to (R221). -/
def sumCharged (mean : Int) (cur : Nat → Int) (ps : List Nat) : Nat :=
  (ps.foldl (fun (b : Option Nat) i =>
    match b with
    | none => some i
    | some j => if (cur j - mean).natAbs < (cur i - mean).natAbs then some i else b) none).getD 128

/-- A capping request of stage `k` is cleared at the first turnover at which DLIM ≥ L (R222). -/
def State.capEnd (s : State) (k : Nat) : State :=
  if s.bit (Reg.ST_STAT k) 26 && s.stState k == 2 && decide (s.stageLoad k ≤ s.derated k (s.fld (Reg.ST_STAT k) 23 16)) then
    (s.setBit (Reg.ST_STAT k) 26 false).setBit Reg.PHS_CAPREQ k false
  else s

/-- Phase-failure evaluation of stage `k` (R221), with its load and derated limit (R222). IFLOOR, IOPEN and SUMTOL are current fields, so
Q15 (R227); FRAC and DOPEN are unsigned fractions of 2^15 (DEDUCED, log 129). -/
def State.pfStage (s : State) (k : Nat) : State :=
  if s.stState k == 2 && s.bit (Reg.ST_CFG k) 29 && s.fld (Reg.ST_STAT k) 29 28 != 1 then
    let ps := s.activePhases k
    let cur (i : Nat) : Int := (s.phCur i).v
    let sum := ps.foldl (fun a i => a + cur i) 0
    let mean := cdiv sum ps.length
    let frac : Int := s.fld (Reg.ST_PF0 k) 15 0
    let ifloor : Int := s.sfld (Reg.ST_PF0 k) 31 16
    let sumBad := s.bit (Reg.ST_VCH k) 31 && decide (s.sfld (Reg.ST_PF1 k) 31 16 < ((sum - s.stageCur k).natAbs : Int))
    let sc := if sumBad then sumCharged mean cur ps else 128
    let load := s.stageLoad k
    let lim := s.derated k (s.fld (Reg.ST_STAT k) 23 16)
    let s' := ps.foldl (fun t i =>
      if (s.phCur i).stale then t
      else
        let x := cur i
        let t := t.pfCount i 0 (decide (x < s.sfld (Reg.ST_PF3 k) 15 0) || decide (s.sfld (Reg.ST_PF3 k) 31 16 < x))
        let t := t.pfCount i 8 (decide ((s.fld (Reg.ST_PF2 k) 15 0 : Int) ≤ s.duty i) &&
          decide ((x.natAbs : Int) < s.sfld (Reg.ST_PF2 k) 31 16))
        let t := t.pfCount i 16 (decide (2 ≤ ps.length) &&
          decide (cdiv (frac * max (mean.natAbs : Int) ifloor) 32768 < ((x - mean).natAbs : Int)))
        t.pfCount i 24 (i == sc)) s
    (s'.wrN (Reg.ST_LOAD k) (code 32 load)).put (Reg.ST_DLIM k) 19 0 lim.toNat
  else s

/-- The lowest cause whose counter of phase `i` has reached N (R221). -/
def State.pfCause (s : State) (i : Nat) : Option Nat :=
  let n := max 1 (s.fld (Reg.ST_PF1 (s.phStage i)) 7 0)
  [1, 2, 3, 4].find? (fun c => decide (n ≤ s.fld (Reg.PT_PFCNT i) (8 * c - 1) (8 * c - 8)))

/-- The stage fault of R223. -/
def State.stageFaultCheck (s : State) (k : Nat) : State :=
  let ps := s.phases k
  let f := (ps.filter (fun i => s.phState i == 2)).length
  if (s.stState k == 1 || s.stState k == 2) && (decide (2 ≤ f) || ps.all (fun i => decide (2 ≤ s.phState i))) then
    (s.fault 9 k f).stageSafe k 5 false
  else s

/-- Force-safe of a phase by a routed action: it becomes SAFE with cause 11, the others re-space, and a stage left without
phases takes its fault (R210, R223, R307). -/
def State.phaseForce (s : State) (i : Nat) : State :=
  let k := s.phStage i
  if s.phState i == 2 || s.phState i == 3 then s.forcePhases [i] 11
  else ((s.forcePhases [i] 11).setActiveFrom k false (s.phState i == 1)).stageFaultCheck k

/-- A phase failure with cause `c` (R222, R223). -/
def State.failPhase (s : State) (i c : Nat) : State :=
  let k := s.phStage i
  let f := s.fld (Reg.ST_STAT k) 23 16 + 1
  let load := s.stageLoad k
  let lim := s.derated k f
  let s := (s.wrN (Reg.ST_LOAD k) (code 32 load)).put (Reg.ST_DLIM k) 19 0 lim.toNat
  let s := if lim < load then
      ((s.setBit (Reg.ST_STAT k) 26 true).setBit Reg.PHS_CAPREQ k true).raise (E.STAGE_CAPREQ k)
    else s
  let st := s.stState k
  let s := (((s.put (Reg.PT_STAT i) 31 30 2).put (Reg.PT_STAT i) 29 26 c).setBit (Reg.PT_STAT i) 25 false).discardEdges i
  let s := if s.phLocal i then s.forceLocal (s.phWhere i) else s.placeEdge i 3 (s.earliest i s.now)
  let s := ((s.fault 8 i c).raise (E.PHASE_FAILED i)).bump (Reg.ST_PFCNT k) 15 0 1
  let s := (s.countPhases k).stageSnap k c st i false false
  (s.setActiveFrom k false true).stageFaultCheck k

/-! ## Spur (R217 to R220) -/

/-- Duration of a spur in pulses (R227: 1 to 8). -/
def State.spurLen (s : State) (k : Nat) : Nat := max 1 (min 8 (s.fld (Reg.ST_SPUR2 k) 3 0))

/-- T_s of a spur decided now (R218): of several links, the latest window start. -/
def State.spurStart (s : State) (k : Nat) : Nat :=
  let rs := (s.activePhases k).filter (fun i => !s.phLocal i)
  let f := (s.now + 3 * 64) / 2560 + 2
  if rs.isEmpty then s.now + 5 * 64 else rs.foldl (fun m i => max m (s.frameWindow (s.phWhere i) f)) 0

/-- A spur begins (R218). -/
def State.startSpur (s : State) (k : Nat) : State :=
  let ts := s.spurStart k
  let p := s.fld (Reg.ST_PER k) 23 0
  let t := ton (signed 16 (s.fld (Reg.ST_SPUR1 k) 31 16)) p
  let n := s.spurLen k
  let s := (s.activePhases k).foldl (fun s i =>
    (List.range n).foldl (fun s m =>
      if t = 0 then s
      else s.addPulse i { start := ts + m * p, len := p, on := some (ts + m * p), off := some (ts + m * p + t),
                          spur := true, dead := false }) (s.discardEdges i)) s
  let s := s.onSg k (fun g => { g with ts := ts, pulses := n, te := some (ts + (n - 1) * p + t), ended := false,
                                       spRel := s.sfld (Reg.ST_SPUR0 k) 31 16, spD := s.sfld (Reg.ST_SPUR1 k) 31 16,
                                       spLock := s.fld (Reg.ST_SPUR2 k) 31 16 })
  (((s.reform k false).put (Reg.ST_STAT k) 29 28 1).bump (Reg.ST_SPURCNT k) 15 0 1).raise (E.SPUR_START k)

/-- The release of a spur (R219): pulses whose turn-on is not committed are not sent, and each phase resumes with its first period after
the T_e that follows. -/
def State.releaseSpur (s : State) (k : Nat) : State :=
  let last := (s.activePhases k).foldl (fun (m : Nat) i =>
    ((s.ph i).pulses.filter (fun p => p.spur)).foldl (fun m p =>
      match p.on, p.off with
      | some a, some b => if s.uncommitted i 1 a then m else max m b
      | _, _ => m) m) 0
  let s := (s.activePhases k).foldl (fun s i =>
    let dead := (s.ph i).pulses.filter (fun p => p.spur && (match p.on with | some a => s.uncommitted i 1 a | none => false))
    let s := dead.foldl (fun s p =>
      let s := match p.on with | some a => s.removeEdge i 1 a | none => s
      match p.off with | some b => s.removeEdge i 2 b | none => s) s
    s.onPh i (fun h => { h with pulses := h.pulses.filter (fun p => !dead.contains p) })) s
  let te := if last = 0 then s.now else last
  let s := s.onSg k (fun g => { g with te := some te, pulses := 0 })
  let s := ((s.sg k).formed.filter (fun p => decide (p.start ≤ s.now))).foldl
    (fun s p => s.placePeriod k p.start p.len (te + 1)) s
  s.reform k false

/-- The spur test of a stage at a delivery of its voltage (R217, R219). -/
def State.spurTest (s : State) (k : Nat) (v : Int) : State :=
  let g := s.sg k
  let dv := s.sfld (Reg.ST_SPUR1 k) 15 0
  let trig := decide (v < s.sfld (Reg.ST_SPUR0 k) 15 0) ||
    (match g.v1, g.v2 with
     | some a, some b => decide (v - a < -dv) && decide (a - b < -dv)
     | _, _ => false)
  let s' := s.onSg k (fun g => { g with v2 := g.v1, v1 := some v })
  if s.stState k == 2 then
    match s.fld (Reg.ST_STAT k) 29 28 with
    | 0 => if s.bit (Reg.ST_CFG k) 30 && trig then s'.startSpur k else s'
    | 1 => if g.spRel < v && g.pulses != 0 then s'.releaseSpur k else s'
    | _ => s'
  else s'

/-- The entry runs after a spur, and its lockout (R219), at a turnover. -/
def State.spurTurnover (s : State) (k : Nat) : State :=
  let g := s.sg k
  if g.ended then
    let ps := s.activePhases k
    let y0 := cdiv (ps.foldl (fun a i => a + s.lastV (s.fld (Reg.PT_SENSE i) 8 0)) 0) ps.length
    let entry (s : State) (c : Nat) (y : Int) := if s.cState c == 3 then s.onCx c (fun x => { x with y0 := some y }) else s
    let s := entry s (s.fld (Reg.ST_CFG k) 23 16) y0
    let d := g.spD
    let s := ps.foldl (fun s i => entry s (s.driving (s.fld (Reg.PT_LOC i) 7 0)) d) s
    s.onSg k (fun g => { g with ended := false, lock := g.spLock })
  else if s.fld (Reg.ST_STAT k) 29 28 == 2 && decide (0 < g.lock) then s.onSg k (fun g => { g with lock := g.lock - 1 })
  else s

/-! ## Local channels (R205, R229) -/

/-- EDG_STAT.ASSIGNED and the phase index follow the phase table; a channel whose entry changed loses its latch, unless
the kill latch is set, and a newly assigned phase starts IDLE (R205). -/
def State.assignLocal (s : State) (n : Nat) : State :=
  let i? := (List.range 128).find? (fun i => s.phValid i && s.phLocal i && s.phWhere i == n)
  let was := if s.bit (Reg.EDG_STAT n) 4 then some (s.fld (Reg.EDG_STAT n) 14 8) else none
  if i? = was then s
  else
    let s := s.releaseLocal n
    match i? with
    | some i =>
      (((s.setBit (Reg.EDG_STAT n) 4 true).put (Reg.EDG_STAT n) 14 8 i).put (Reg.PT_STAT i) 31 30 0).onLc n
        (fun _ => LocSt.initial)
    | none => ((s.setBit (Reg.EDG_STAT n) 4 false).put (Reg.EDG_STAT n) 14 8 0).onLc n (fun _ => LocSt.initial)

/-- The delayed transition of a local channel that is due by `t` (R97). -/
def LocSt.settle (l : LocSt) (t : Nat) : LocSt :=
  match l.due with
  | some (a, at_) =>
    if at_ ≤ t then (if a then { l with a := .on, due := none } else { l with b := .on, due := none }) else l
  | none => l

/-- One edge on a local channel with dead time `dt` (R97, R205). -/
def LocSt.edge (l : LocSt) (e : Edge) (dt : Nat) : LocSt :=
  let l := l.settle e.at_
  match e.ev with
  | 1 => if l.on then l else { l with b := .off, a := .off, on := true, due := some (true, e.at_ + dt) }
  | 2 => if l.on then { l with a := .off, b := .off, on := false, due := some (false, e.at_ + dt) } else l
  | _ => l

end Sys2Proof.Machine
end

