-- ==== Sys2Proof/Machine/Feeders.lean ====
section
/-!
DEFINITION. Feeders (chapter 09): refusals, head registers, states, fast and slow trips, trackers and the snapshot.
-/

namespace Sys2Proof.Machine

/-! ## A feeder and its head channel (R261, R262) -/

def State.fdrValid (s : State) (f : Nat) : Bool := s.bit (Reg.FDR_CFG f) 31
def State.fdrLink (s : State) (f : Nat) : Nat := s.fld (Reg.FDR_CFG f) 27 24
def State.fdrPh (s : State) (f : Nat) : Nat := s.fld (Reg.FDR_CFG f) 22 20

/-- STATE of feeder `f` (R264): 0 OFF, 1 INRUSH, 2 ON, 3 TRIPPED. -/
def State.fdrState (s : State) (f : Nat) : Nat := s.fld (Reg.FDR_CTL f) 25 24

/-- Calibration entries of a feeder's current and voltage (R261). -/
def State.fdrCurE (s : State) (f : Nat) : Nat := (s.fld (Reg.LNK_CALBASE (s.fdrLink f)) 8 0 + 2 * s.fdrPh f) % 512
def State.fdrVoltE (s : State) (f : Nat) : Nat := (s.fdrCurE f + 1) % 512

/-- Slot `i` of a link's sample map (R101). -/
def State.smapSlot (s : State) (n i : Nat) : Nat := s.fld (Reg.LNK_SMAP n (i / 4)) (8 * (i % 4) + 7) (8 * (i % 4))

/-- Source `k` is mapped in the same slot in all four rows (R101, R262). -/
def State.mappedAlways (s : State) (n k : Nat) : Bool :=
  (List.range 7).any (fun j => (List.range 4).all (fun r => s.smapSlot n (7 * r + j) == k))

/-- Why feeder `f` is refused (R262); 0 when it is not. -/
def State.fdrRefusal (s : State) (f : Nat) : Nat :=
  let n := s.fdrLink f
  let c := s.fdrPh f
  let kind (k : Nat) := fieldOf ((s.link n).hsrc.getD k 0) 7 0
  if s.linkKind n != 2 then 1
  else if (List.range f).any (fun g => s.fdrValid g && s.fdrLink g == n && s.fdrPh g == c) then 2
  else if decide (s.fld (Reg.LNK_HID n) 19 16 ≤ c) || kind (2 * c) != 4 || kind (2 * c + 1) != 5 then 3
  else if !s.mappedAlways n (2 * c) then 4
  else if s.bit (Reg.FDR_CTL f) 26 then 5
  else 0

/-- Effective enable (R264): EN, with the latched pin where PINEN is set. A feeder that is not valid has none. -/
def State.fdrEnable (s : State) (f : Nat) : Bool :=
  s.fdrValid f && s.bit (Reg.FDR_CTL f) 0 && (!s.bit (Reg.FDR_CFG f) 28 || s.bit (Reg.FDR_CTL f) 1)

/-! ## Head registers (R263) -/

/-- The raw code of a calibrated value under entry `e`: the inverse of R293, rounded toward zero. -/
def State.rawCode (s : State) (e : Nat) (v : Int) : Nat :=
  let g := s.sfld (Reg.CAL_GAIN e) 31 0
  let x := (v * 256 - s.sfld (Reg.CAL_OFS e) 23 0) * 268435456
  let r := if g = 0 then Config.divByZero x else Int.tdiv x (g * 256)
  if -32768 ≤ r && r ≤ 32767 then code 16 r else Config.rawCodeRange r % 65536

/-- The three head register values of feeder `f`: CHc_P0, CHc_P1 and CHc_LIM (R263). -/
def State.fdrHead (s : State) (f : Nat) : Word × Word × Word :=
  let e := s.fdrCurE f
  (word (s.fld (Reg.FDR_CFG f) 15 8), word (s.rawCode e (s.sfld (Reg.FDR_INR f) 15 0)),
   word (s.rawCode e (s.sfld (Reg.FDR_SLOW f) 31 16)))

/-- Send the head values of feeder `f` where writes are due and its state allows them (R263). -/
def State.fdrSendHead (s : State) (f : Nat) : State :=
  let d := s.fd f
  let n := s.fdrLink f
  if d.dirty && s.linkUp n && (s.fdrState f == 0 || s.fdrState f == 3) then
    let v := s.fdrHead f
    let a := 0x200 + 0x20 * s.fdrPh f
    let acc (o : Nat) (w : Word) : HeadAccess := { owner := .feeder f, write := true, addr := a + o, data := w }
    let s := ((s.addAccess n (acc 0x0C v.1)).addAccess n (acc 0x10 v.2.1)).addAccess n (acc 0x08 v.2.2)
    s.onFd f (fun d => { d with dirty := false, writes := d.writes + 3, hbad := false, sent := some v })
  else s

/-- Head values that a commit changed become due (R263). -/
def State.fdrCheckHead (s : State) (f : Nat) : State :=
  if s.fdrValid f && decide ((s.fd f).sent ≠ some (s.fdrHead f)) then
    ((s.onFd f (fun d => { d with dirty := true })).setBit (Reg.FDR_CTL f) 27 true).fdrSendHead f
  else s

/-- A head register write of feeder `f` completes (R263): HPEND clears once all have been confirmed. -/
def State.fdrHeadDone (s : State) (f : Nat) (ok : Bool) : State :=
  let s := s.onFd f (fun d => { d with writes := d.writes - 1, hbad := d.hbad || !ok })
  let d := s.fd f
  if d.writes = 0 && !d.hbad && !d.dirty then s.setBit (Reg.FDR_CTL f) 27 false else s

/-! ## Slow trip (R248, R269 to R271) -/

/-- The capping level L (R246). -/
def State.capLevel (s : State) : Nat := s.fld Reg.SHF_CAPLVL 15 8

/-- ICAP of feeder `f` (R248). -/
def State.icap (s : State) (f : Nat) : Int :=
  let nom := s.sfld (Reg.FDR_CAPL f) 15 0
  let mn := s.sfld (Reg.FDR_CAPL f) 31 16
  nom - cdiv ((s.capLevel : Int) * (nom - mn)) 255

/-- Capping applies to feeder `f` (R271). -/
def State.fdrCapped (s : State) (f : Nat) : Bool := s.bit (Reg.FDR_CFG f) 30 && s.fld (Reg.FDR_CAPL f) 15 0 != 0

/-- The pickup IPE in effect (R269, R271): not below zero. -/
def State.fdrPickup (s : State) (f : Nat) : Int :=
  let ipu := s.sfld (Reg.FDR_SLOW f) 15 0
  if s.fdrCapped f then max 0 (min ipu (s.icap f)) else ipu

/-- The trip rise TTE in effect (R270, R271). -/
def State.fdrTte (s : State) (f : Nat) : Int :=
  let t : Int := s.fld (Reg.FDR_SLOW f) 15 0
  if s.fdrCapped f then
    let nom := s.sfld (Reg.FDR_CAPL f) 15 0
    let c := max 0 (min (s.icap f) nom)
    cdiv (t * c ^ 2) (nom ^ 2)
  else t

/-- The slow-trip state as a Q15 fraction of the trip level (R277). -/
def State.fdrSlowFrac (s : State) (f : Nat) : Nat :=
  let frac (a b : Int) : Nat := if b ≤ 0 then 32767 else (max 0 (min 32767 (cdiv (a * 32768) b))).toNat
  if s.bit (Reg.FDR_CFG f) 29 then frac (s.fd f).rz (s.fdrTte f * 65536)
  else frac (s.fd f).acc ((s.rdN (Reg.FDR_KTRIP f) : Int) * 65536)

/-- One turnover of the slow trip (R269, R270): the feeder's record after it, and the cause of a trip. -/
def State.fdrSlow (s : State) (f : Nat) : FdrSt × Option Nat :=
  let d := s.fd f
  let on := s.fdrState f == 1 || s.fdrState f == 2
  let i := (s.window (s.fdrCurE f) 1 0 0 4 s.now).v
  if s.bit (Reg.FDR_CFG f) 29 then
    let psum := if on then d.psum + cdiv (i * i) 32768 else d.psum
    if s.gfcN % 1024 = 0 then
      let ka : Int := s.fld (Reg.FDR_KTRIP f) 15 0
      let kl : Int := s.fld (Reg.FDR_KTRIP f) 31 16
      let sv := min (cdiv (kl * cdiv psum 1024) 4096) 65535
      let rz := d.rz + cdiv (ka * (sv * 65536 - d.rz)) 32768
      ({ d with psum := 0, rz := rz }, if on && decide (s.fdrTte f * 65536 ≤ rz) then some 5 else none)
    else ({ d with psum := psum }, none)
  else if on then
    let ipe := s.fdrPickup f
    let a := (min (max 0 ((d.acc : Int) + i * i - ipe * ipe)) 281474976710655).toNat
    ({ d with acc := a }, if s.rdN (Reg.FDR_KTRIP f) * 65536 ≤ a then some 4 else none)
  else (d, none)

/-! ## Trips (R265, R267, R272 to R274, R278) -/

/-- The fast threshold in effect (R266). -/
def State.fdrThreshold (s : State) (f : Nat) : Int :=
  if s.fdrState f == 1 then s.sfld (Reg.FDR_FAST f) 31 16 else s.sfld (Reg.FDR_FAST f) 15 0

/-- The feeder snapshot (R278). -/
def State.fdrSnapBytes (s : State) (f cause : Nat) : List Byte :=
  let d := s.fd f
  let last8 := ((s.chan (s.fdrCurE f)).take 8).reverse.map (fun x => x.v)
  leBytes 1 f ++ leBytes 1 cause ++ leBytes 1 (s.fdrState f) ++ leBytes 1 (16 * s.fdrLink f + s.fdrPh f)
    ++ leBytes 4 s.gfcN ++ leBytes 8 s.time.mono.toNat ++ leBytes 2 (code 16 (s.lastV (s.fdrCurE f)))
    ++ leBytes 2 (code 16 (s.lastV (s.fdrVoltE f))) ++ leBytes 2 (code 16 (s.fdrThreshold f))
    ++ leBytes 2 (code 16 d.peakE) ++ leBytes 4 d.frames ++ leBytes 2 (s.fdrSlowFrac f) ++ leBytes 1 d.pers
    ++ leBytes 1 (s.fld (Reg.LNK_STAT (s.fdrLink f)) 23 16)
    ++ (List.replicate (8 - last8.length) (0 : Int) ++ last8).flatMap (fun v => leBytes 2 (code 16 v))

/-- Take the feeder snapshot into slot 32 + f (R278, R395). -/
def State.fdrSnap (s : State) (f cause : Nat) (urgent fwd : Bool) : State :=
  s.takeSnap (32 + f) (s.fdrSnapBytes f cause) urgent false fwd

/-- Discard the uncommitted edges of a feeder's channel (R267). -/
def State.fdrDiscard (s : State) (f : Nat) : State :=
  s.onLink (s.fdrLink f) (fun l => { l with edges := l.edges.filter (fun e => e.ch != s.fdrPh f) })

/-- T = 0 of the frame that an edge decided now goes into (R265): the first that begins after it for a turn-on, and at least 3 CK_CTL cycles
after it otherwise. -/
def State.fdrNextFrame (s : State) (f ev : Nat) : Nat :=
  s.frameWindow (s.fdrLink f) ((s.now + (if ev = 1 then 1 else 3 * 64) + 2559) / 2560)

/-- Put an edge for a feeder into its frame at T = 0 (R265). -/
def State.fdrEdge (s : State) (f ev : Nat) : State :=
  s.addEdge (s.fdrLink f) { ch := s.fdrPh f, ev := ev, at_ := s.fdrNextFrame f ev }

/-- Another cause is decided for a feeder in the CK_CTL cycle of its trip (R274): the lowest is recorded, in FDR_CTL and in the snapshot
that the trip took. -/
def State.tripAgain (s : State) (f cause : Nat) : State :=
  if s.fdrState f == 3 && (s.fd f).tripAt == some s.time.mono && decide (cause < s.fld (Reg.FDR_CTL f) 23 20) then
    let x := s.slotOf (32 + f)
    let x := { x with staged := x.staged.map (fun y => { y with payload := y.payload.set 1 (BitVec.ofNat 8 cause) }) }
    { s.put (Reg.FDR_CTL f) 23 20 cause with sbg := vset s.sbg (32 + f) x }
  else s

/-- A trip of a feeder in INRUSH or ON (R265, R267, R272 to R274): its state and cause, the snapshot, the discarded
edges, FDR_TRIP and FEEDER_TRIP. How the head is told, a reflex word or a force-safe edge, is `edge`. -/
def State.tripState (s : State) (f cause : Nat) (fwd : Bool) : State :=
  if s.fdrState f == 1 || s.fdrState f == 2 then
    let st := s.fdrState f
    let s := s.fdrSnap f cause (cause == 10) fwd
    let s := (s.put (Reg.FDR_CTL f) 25 24 3).put (Reg.FDR_CTL f) 23 20 cause
    let s := (s.onFd f (fun d => { d with psum := 0, offAt := none, tripAt := some s.time.mono, follow := 0 })).fdrDiscard f
    let s := s.raiseWith (E.FEEDER_TRIP f) [BitVec.ofNat 8 cause, BitVec.ofNat 8 st] false fwd
    (s.fault 12 f cause).fdrSendHead f
  else s.tripAgain f cause

/-- A trip told to the head by a FORCE reflex word (R267). -/
def State.tripReflex (s : State) (f cause : Nat) (fwd : Bool) : State :=
  if s.fdrState f == 1 || s.fdrState f == 2 then
    (s.tripState f cause fwd).sendReflex (s.fdrLink f) 0 (1 <<< s.fdrPh f)
  else s.tripAgain f cause

/-- A trip told to the head by a force-safe edge word (R265 line 1, R274). -/
def State.tripEdge (s : State) (f cause : Nat) (fwd : Bool) : State :=
  if s.fdrState f == 1 || s.fdrState f == 2 then (s.tripState f cause fwd).fdrEdge f 3
  else s.tripAgain f cause

/-- The backstop of link `n` (R272): every feeder of the head in INRUSH or ON, with one FORCE reflex word. -/
def State.backstop (s : State) (n : Nat) : State :=
  let fs := (List.range 64).filter (fun f => s.fdrValid f && s.fdrLink f == n && (s.fdrState f == 1 || s.fdrState f == 2))
  if fs.isEmpty then s
  else
    let mask := fs.foldl (fun m f => m ||| (1 <<< s.fdrPh f)) 0
    let s := fs.foldl (fun s f => (s.tripState f 7 false).raise (E.FEEDER_BACKSTOP f)) s
    s.sendReflex n 0 mask

/-! ## Samples and trackers (R266, R277) -/

/-- A non-stale current sample of feeder `f`. -/
def State.fdrCurrent (s : State) (f : Nat) (v : Int) : State :=
  if s.fdrState f == 1 || s.fdrState f == 2 then
    let h := s.fdrThreshold f
    s.onFd f (fun d => { d with pers := if h < v then min (d.pers + 1) 255 else 0, peakE := max d.peakE v,
                                peakS := max d.peakS v })
  else s

/-- A non-stale voltage sample of feeder `f`. -/
def State.fdrVoltage (s : State) (f : Nat) (v : Int) : State :=
  if s.fdrState f == 2 then s.onFd f (fun d => { d with minE := min d.minE v, minS := min d.minS v }) else s

/-- A delivered sample of entry `e`, for every feeder that it belongs to. -/
def State.fdrSample (s : State) (e : Nat) (v : Int) : State :=
  (List.range 64).foldl (fun s f =>
    if s.fdrValid f then
      if s.fdrCurE f == e then s.fdrCurrent f v else if s.fdrVoltE f == e then s.fdrVoltage f v else s
    else s) s

/-- The tracker snapshot of R277 at a turnover. -/
def State.fdrTakeSnap (s : State) (f : Nat) : State :=
  if s.bit (Reg.FDR_CTL f) 30 then
    (s.onFd f (fun d => { d with peakB := d.peakS, minB := d.minS, peakS := -32768, minS := 32767 })).setBit
      (Reg.FDR_CTL f) 30 false
  else s

/-- FDR_TRK as TSEL selects it (R277, R281). -/
def State.fdrTrk (s : State) (f : Nat) : Word :=
  let d := s.fd f
  match s.fld (Reg.FDR_CTL f) 29 28 with
  | 1 => word (code 16 d.peakE + 65536 * code 16 d.minE)
  | 2 => word (s.fdrSlowFrac f)
  | _ => word (code 16 d.peakB + 65536 * code 16 d.minB)

/-! ## The turnover (R265) -/

/-- A feeder in OFF with its enable on: refused, waiting, or into INRUSH (R262, line 5 of R265). -/
def State.fdrOff (s : State) (f : Nat) : State :=
  if s.linkUp (s.fdrLink f) then
    let why := s.fdrRefusal f
    if why != 0 then
      let s := s.put (Reg.FDR_CTL f) 19 16 why
      if (s.fd f).refus then s else (s.onFd f (fun d => { d with refus := true })).raise (E.FEEDER_REFUSED f)
    else if s.bit (Reg.FDR_CTL f) 27 then s
    else
      let s := (s.put (Reg.FDR_CTL f) 25 24 1).put (Reg.FDR_CTL f) 19 16 0
      let s := s.onFd f (fun d => { d with pers := 0, acc := 0, frames := 0, peakE := -32768, minE := 32767,
                                           refus := false })
      s.fdrEdge f 1
  else s

/-- Feeder `f` at a turnover (R265). -/
def State.fdrTurnover (s : State) (f : Nat) : State :=
  let s := (s.setBit (Reg.FDR_CTL f) 1 s.unit.fdrPin).fdrTakeSnap f
  if !s.fdrValid f && s.fdrState f == 0 then s
  else
    let r := s.fdrSlow f
    let up := s.fdrState f == 1 || s.fdrState f == 2
    let s := s.onFd f (fun _ => { r.1 with frames := if up then r.1.frames + 1 else r.1.frames })
    let en := s.fdrEnable f
    match s.fdrState f with
    | 0 =>
      if en then (s.fdrSendHead f).fdrOff f
      else ((s.onFd f (fun d => { d with refus := false })).setBit (Reg.FDR_CTL f) 26 false).fdrSendHead f
    | 3 => (s.onFd f (fun d => { d with offAt := if d.follow != 0 || !en then some (d.offAt.getD s.gaitStart) else none })).fdrSendHead f
    | st =>
      match r.2 with
      | some c => s.tripEdge f c false
      | none =>
        if !en then
          ((((s.put (Reg.FDR_CTL f) 25 24 0).fdrDiscard f).fdrEdge f 2).raise (E.FEEDER_OFF f)).fdrSendHead f
        else
          if st == 1 && decide (s.sfld (Reg.FDR_INR f) 31 16 ≤ (s.window (s.fdrVoltE f) 1 0 0 0 s.now).v) then
            (s.put (Reg.FDR_CTL f) 25 24 2).raise (E.FEEDER_ON f)
          else s

/-- A follow-up of the fault reaction for a TRIPPED feeder (R276): 1 retry, 2 clear. -/
def State.fdrFollow (s : State) (f kind : Nat) : State :=
  if s.fdrState f == 3 then s.onFd f (fun d => { d with follow := kind, offAt := some s.gaitStart }) else s

/-! ## Commands -/

/-- FEEDER_FAST_TRIP (R267): the persistence count of feeder `f` has reached FPERS. -/
def execFeederFastTrip (f : Fin 64) (s : State) : Host.Outcome State Fault Refusal :=
  if s.live && decide (max 1 (s.fld (Reg.FDR_CFG f) 19 16) ≤ (s.fd f).pers) then
    .next (s.tripReflex f (if s.fdrState f == 1 then 2 else 1) false)
  else .next s

/-- FEEDER_INRUSH_TIMEOUT (R265 line 4): TINR × 1,024 gait frames have passed in INRUSH. -/
def execFeederInrushTimeout (f : Fin 64) (s : State) : Host.Outcome State Fault Refusal :=
  if s.live && s.fdrState f == 1 && decide (1024 * max 1 (s.fld (Reg.FDR_CFG f) 7 0) ≤ (s.fd f).frames) then
    .next (s.tripEdge f 6 false)
  else .next s

/-- 10 µs of the toggle, in edge steps (R275). -/
def toggleSteps : Nat := 8000 * 64

/-- The toggle of feeder `f` is complete (R275, R276): the last turnover came 10 µs or more after the one at which it started. -/
def State.toggled (s : State) (f : Nat) : Bool :=
  match (s.fd f).offAt with
  | some t => decide (t + toggleSteps ≤ s.gaitStart)
  | none => false

/-- FEEDER_TOGGLE_DONE (R275, R276): the enable has been off, or a follow-up has run, for 10 µs. -/
def execFeederToggleDone (f : Fin 64) (s : State) : Host.Outcome State Fault Refusal :=
  let d := s.fd f
  if s.live && s.fdrState f == 3 && s.toggled f then
    let s := (s.put (Reg.FDR_CTL f) 25 24 0).setBit (Reg.FDR_CTL f) 26 (d.follow == 2)
    let s := s.onFd f (fun d => { d with offAt := none, follow := 0 })
    .next ((s.sendRelease (s.fdrLink f) (1 <<< s.fdrPh f)).fdrSendHead f)
  else .next s

end Sys2Proof.Machine
end

