-- ==== Sys2Proof/Machine/Ecc.lean ====
section
/-!
DEFINITION. Memory protection (R368, R369) and the armed injections that act on memories and lanes (R374, R376, R377).
A word is 16 bytes; its address is that of its first byte in its region. Context RAM has the byte addresses of R168;
the words of the other regions are numbered by the keys of their registers or by their positions.
-/

namespace Sys2Proof.Machine

/-- SRC of the block that owns a region (R357, R368). -/
def eccOwner (region addr : Nat) : Nat :=
  match region with
  | 0 => 0x024 | 1 => 0x02C | 2 => 0x020 | 3 => 0x03C | 4 => 0x026 | 5 => 0x005 | 6 => 0x3FF
  | _ => Config.memOwner region addr % 1024

/-- A fault of kind index `k` from the block `src`, with the INJ flag `inj` (R355). -/
def State.faultFrom (s : State) (k src inst addr : Nat) (inj : Bool) : State :=
  let w := fltKindWord k
  let m := s.faultMsg k (w / 65536 % 4) (w / 1048576 % 8) inst addr
  s.sendFault { m with src := src, inj := inj }

/-- An injection has been made (R374): counted, raised and recorded with the injection registers (R386). -/
def State.injected (s : State) : State :=
  let s := (s.bump Reg.INJ_CNT 15 0 1).raiseWith (E.INJ_APPLIED 0) [] true false
  let regs := [Reg.INJ_LCTL, Reg.INJ_LDUR, Reg.INJ_MASK 0, Reg.INJ_MASK 1, Reg.INJ_MASK 2, Reg.INJ_MASK 3, Reg.INJ_MASK 4,
    Reg.INJ_ECTL, Reg.INJ_LANE, Reg.INJ_FM_LO, Reg.INJ_FM_HI]
  s.offer { kind := 0x0008, sev := 3, inj := true, fwd := false, src := 0xFF, stamp := s.stamp,
            payload := leBytes 4 s.time.wallNs ++ regs.flatMap (fun r => leBytes 4 (s.rdN r)) }

/-- Count an ECC error and record its place (R368, R379). -/
def State.eccNote (s : State) (region addr : Nat) (bits : List Nat) (scrub : Bool) : State :=
  let unc := decide (2 ≤ bits.length)
  let s := s.wrN Reg.FLT_ECCADDR addr
  let s := s.wrN Reg.FLT_ECCINFO (region % 16 + Config.syndrome bits % 256 * 256 + b2n unc * 65536 + b2n scrub * 131072)
  if unc then s.bump Reg.FLT_ECCCNT 31 16 1 else s.bump Reg.FLT_ECCCNT 15 0 1

/-- Stage of a phase or stage table word (R368 region 1): keys of R226 and R227. -/
def eccStage (s : State) (addr : Nat) : Nat :=
  if addr < 0x12000 then s.phStage ((addr - 0x11000) / 0x20) else (addr - 0x12000) / 0x80 % 32

/-- Addresses of the shadow words of region 2 (schedule tables): the register's key above this base (R368). -/
def shadowKeys : Nat := 0x100000

/-- What follows an uncorrectable error in a region (R368). -/
def State.eccUnc (s : State) (region addr : Nat) : State :=
  match region with
  | 0 =>
    let c := addr / 512
    let s := (s.fault 7 0 addr).onCx c (fun x => { x with ecc := true })
    (List.range 32).foldl (fun s k =>
      if s.fld (Reg.ST_CFG k) 23 16 == c || (s.phases k).any (fun i => s.fld (Reg.PT_LOC i) 7 0 == c) then
        s.stageFaultSafe k 7 false
      else s) s
  | 1 => let k := eccStage s addr
         (s.fault 10 k addr).stageFaultSafe k 7 false
  | 2 => if shadowKeys ≤ addr then s else s.fault 6 0 addr
  | 3 => s.fault 16 ((addr - 0x14000) / 0x40 % 128) addr
  | 6 => s.fault 24 0 addr
  | _ => s.faultFrom 26 (eccOwner region addr) region addr false

/-- Take the flip of one word as a read finds it: the corrected data is written back; an uncorrectable one stays. -/
def State.eccTake (s : State) (x : EccFlip) (scrub : Bool) : State :=
  let s := s.eccNote x.region x.addr x.bits scrub
  if 2 ≤ x.bits.length then s.eccUnc x.region x.addr
  else
    let s := { s with ecc := { s.ecc with flips := s.ecc.flips.filter (fun y => y != x) } }
    s.faultFrom 25 (eccOwner x.region x.addr) x.region x.addr false

/-- Read the words of a region from `lo` to `hi`: every error takes its action. -/
def State.eccRead (s : State) (region lo hi : Nat) : State :=
  (s.ecc.flips.filter (fun x => x.region == region && decide (lo ≤ x.addr) && decide (x.addr < hi))).foldl
    (fun s x => s.eccTake x false) s

/-- Read the word of a region that holds `addr`. -/
def State.eccTouch (s : State) (region addr : Nat) : State := s.eccRead region (addr / 16 * 16) (addr / 16 * 16 + 16)

/-- Whether a read of the words from `lo` to `hi` of a region meets an uncorrectable error. -/
def State.eccBad (s : State) (region lo hi : Nat) : Bool :=
  s.ecc.flips.any (fun x => x.region == region && decide (lo ≤ x.addr) && decide (x.addr < hi) &&
    decide (2 ≤ x.bits.length))

/-- Write the word that holds `addr`: earlier flips of it end, and an armed injection inverts its bits (R376). -/
def State.eccWrite (s : State) (region addr : Nat) : State :=
  let a := addr / 16 * 16
  let fs := s.ecc.flips.filter (fun x => !(x.region == region && x.addr == a))
  let s := { s with ecc := { s.ecc with flips := fs } }
  if s.bit Reg.INJ_STAT 29 && s.fld Reg.INJ_ECTL 27 24 == region then
    let b := s.fld Reg.INJ_ECTL 7 0 :: (if s.bit Reg.INJ_ECTL 23 then [s.fld Reg.INJ_ECTL 15 8] else [])
    let x : EccFlip := { region := region, addr := a, bits := b }
    let s := { s with ecc := { s.ecc with flips := s.ecc.flips ++ [x] } }
    ((s.setBit Reg.INJ_STAT 29 false).wrN Reg.INJ_EADDR a).injected
  else s

/-- SCRUB_READ (R369): the next word of a region is read and checked; a word that two consecutive passes correct raises
ECC_HARD. The word of address 0 begins a pass of its region. -/
def execScrubRead (region : Fin 16) (addr : Nat) (s : State) : Host.Outcome State Fault Refusal :=
  if !s.awake then .next s else
  let a := addr / 16 * 16
  let r : Nat := region
  let s := if a = 0 then
      let s := if r = 0 then s.bump Reg.FLT_SCRUB 15 0 1 else if r = 8 then s.bump Reg.FLT_SCRUB 31 16 1 else s
      let own (l : List (Nat × Nat)) := l.filter (fun x => x.1 == r)
      let oth (l : List (Nat × Nat)) := l.filter (fun x => x.1 != r)
      { s with ecc := { s.ecc with lastPass := oth s.ecc.lastPass ++ own s.ecc.thisPass,
                                   thisPass := oth s.ecc.thisPass } }
    else s
  match s.ecc.flips.find? (fun x => x.region == r && x.addr == a) with
  | none => .next s
  | some x =>
    let s := s.eccTake x true
    if x.bits.length < 2 then
      let hard := s.ecc.lastPass.contains (r, a)
      let s := { s with ecc := { s.ecc with thisPass := s.ecc.thisPass ++ [(r, a)] } }
      .next (if hard then s.raise (E.ECC_HARD 0) else s)
    else .next s

end Sys2Proof.Machine
end

