-- ==== Sys2Proof/Machine/Contexts.lean ====
section
/-!
DEFINITION. Loop contexts (chapter 06): the inputs of a run, runs in each context state, the context window, state
changes, twins and hand-over.
-/

namespace Sys2Proof.Machine

/-! ## Words of a context (R168, R169) -/

/-- The word at byte offset `o` of context `c`. -/
def State.cw (s : State) (c o : Nat) : Word := s.mem32 (512 * c + o)

/-- Write a word of a context as the engine or the window does (R376: a write may meet an armed injection). -/
def State.setCw (s : State) (c o : Nat) (v : Word) : State :=
  (s.eccWrite 0 (512 * c + o)).setMem32 (512 * c + o) v

/-- Set field `[hi:lo]` of a word of a context. -/
def State.putCw (s : State) (c o hi lo v : Nat) : State := s.setCw c o (setField (s.cw c o) hi lo v)

/-- A 16-bit two's complement halfword of a context. -/
def State.ch (s : State) (c o : Nat) : Int := signed 16 (s.mem16 (512 * c + o))

/-- The valid schedule entry in effect that names context `c` (R158). -/
def State.entryOf (s : State) (c : Nat) : Option Nat :=
  (List.range 256).find? (fun e => s.bit (Reg.LE_SENT0 e) 31 && s.fld (Reg.LE_SENT0 e) 7 0 == c)

/-! ## Inputs (R152, R183 to R187) -/

/-- Output of context `c` in the frame bank, 0 where OUTV is clear (R180); the primary of a twin yields the driving
member (R188). -/
def State.bankOut (s : State) (c : Nat) : Int :=
  let b := (s.cx (s.driving c)).bank
  if b.outv then b.out else 0

/-- What a chain read of context `c` sees in a run that starts at `now`: the last release that was complete by then (R152, R153). -/
def State.chainOut (s : State) (c now : Nat) : Int :=
  let d := s.driving c
  if (s.cx d).relAt ≤ now then s.liveOut d else (s.cx d).prev

/-- Input `i` of context `c` in a run that starts at `now`: its value and whether it is stale (R152, R183, R186). -/
def State.runInput (s : State) (c i now : Nat) (t5 : Bool) : Int × Bool :=
  let sel := s.cw c (0x10 + 4 * i)
  let arg := fieldOf sel 15 0
  match fieldOf sel 31 28 with
  | 0 => (0, false)
  | 1 =>
    let w := s.cw c (0x100 + 4 * i)
    let v := s.window (arg % 512) (fieldOf w 5 4) (fieldOf w 14 8) (fieldOf w 31 16) (fieldOf w 2 0) now
    (v.v, v.stale)
  | 2 => (satI 16 (rnd (signed 32 (s.rdN (Reg.ST_REF (arg % 32))))), false)
  | 3 => (vget s.shf.lat (arg % 256) 0, false)
  | 4 => (s.bankOut (arg % 256), false)
  | 5 => (if t5 then s.chainOut (arg % 256) now else s.bankOut (arg % 256), false)
  | 6 => (signed 16 arg, false)
  | k => (signed 16 (Config.reservedInput k), false)

/-- The tracking read of TRKSRC (R187): TRK where the context tracks. -/
def State.trackRead (s : State) (c : Nat) : Option Int :=
  let w := s.cw c 0xC
  let b := (s.cx (s.driving (fieldOf w 7 0))).bank
  if bitOf w 15 && b.selv && b.selk != fieldOf w 9 8 then some (if b.outv then b.out else 0) else none

/-- Coefficients, limits and options of a run (R144, R168, R170). -/
def State.runIn (s : State) (c e : Nat) (xs : List Int) (trk : Option Int) : RunIn :=
  let w0 := s.rd (Reg.LE_SENT0 e)
  let sh := s.cw c 0x60
  { c := (List.range 10).map (fun n => s.ch c (0x40 + 2 * n)), ymin := s.ch c 0x58, ymax := s.ch c 0x5A,
    kff := s.ch c 0x5C, kdr := s.ch c 0x5E, sh := fieldOf sh 3 0, sh1 := fieldOf sh 7 4, sel := fieldOf sh 9 8,
    nx := fieldOf sh 12 10, ff := bitOf w0 25, droop := bitOf w0 26, curb := bitOf w0 27,
    curbl := s.sfld (Reg.ST_CURBL (fieldOf (s.cw c 8) 20 16)) 15 0, x := xs, trk := trk }

/-- The state words of a context (R168). -/
def State.runSt (s : State) (c : Nat) : RunSt :=
  { i := signed 32 (s.cw c 0x80).toNat, e1 := s.ch c 0x84, e2 := s.ch c 0x86, e3 := s.ch c 0x88, d := s.ch c 0x8A,
    u1 := s.ch c 0x8C, u2 := s.ch c 0x8E, u3 := s.ch c 0x90, w1 := s.ch c 0x92, w2 := s.ch c 0x94 }

/-- Two halfwords as a word. -/
def pair16 (lo hi : Int) : Word := word (code 16 lo + 65536 * code 16 hi)

/-- Store the state words of a context. -/
def State.putRunSt (s : State) (c : Nat) (r : RunSt) : State :=
  (((((s.setCw c 0x80 (word (code 32 r.i))).setCw c 0x84 (pair16 r.e1 r.e2)).setCw c 0x88 (pair16 r.e3 r.d)).setCw c 0x8C
    (pair16 r.u1 r.u2)).setCw c 0x90 (pair16 r.u3 r.w1)).setCw c 0x94 (pair16 r.w2 0)

/-! ## Flags (R143) -/

/-- Trace units that wait for a sticky flag of context `c`, an event source or a unit (R194 kinds 5 to 7) see it. -/
def State.traceSee (s : State) (kind src : Nat) : State :=
  (List.range 8).foldl (fun s u =>
    if s.fld (Reg.TRC_TRIG u) 31 28 == kind && s.fld (Reg.TRC_TRIG u) 7 0 == src then
      s.onTr u (fun t => { t with seen := true })
    else s) s

/-- Set the sticky flags of a context that a run set: a flag that goes from 0 to 1 is counted, and raises LE_FLAG where
the context's mask bit is set (R143). -/
def State.setFlags (s : State) (c fl : Nat) : State :=
  let old := fieldOf (s.cw c 4) 4 0
  let new := (List.range 5).filter (fun i => fl.testBit i && !old.testBit i)
  if new.isEmpty then s
  else
    let s := (s.setCw c 4 (word (old ||| fl % 32))).traceSee 5 c
    new.foldl (fun s _ =>
      let s := s.bump Reg.LE_FLAGCNT 31 0 1
      if s.bit (Reg.LE_FLAGMSK (c / 32)) (c % 32) then s.raise (E.LE_FLAG c) else s) s

/-! ## Ticks of the trace units (R191, R192, R197) -/

/-- STATE of trace unit `u` (R197): 0 IDLE, 1 arm pending, 2 filling, 3 waiting for trigger, 4 post-trigger, 5 DONE,
6 FROZEN, 7 STOPPED. -/
def State.trcState (s : State) (u : Nat) : Nat := s.fld (Reg.TRC_STAT u) 31 29

/-- MODE of unit `u` as it acts (R197). -/
def State.trcMode (s : State) (u : Nat) : Nat := let m := s.fld (Reg.TRC_CTL u) 5 4; if m = 3 then 1 else m

/-- The context signal that SIG names, as 16 bits (R192). -/
def State.traceSignal (s : State) (mode sig c : Nat) : Int :=
  match sig with
  | 0 => if mode = 0 then s.ch c 0x24 else (s.cx c).bank.out
  | 1 => s.ch c 0x110
  | 2 => s.ch c 0x112
  | 3 => s.ch c 0x114
  | 4 => s.ch c 0x116
  | 5 => s.ch c 0x118
  | 6 => satI 16 (rnd (signed 32 (s.cw c 0x80).toNat))
  | 7 => s.ch c 0x8C
  | 8 => s.ch c 0x8A
  | 9 => s.ch c 0x92
  | 10 => satI 16 (signed 17 (fieldOf (s.cw c 0x28) 16 0))
  | _ => 0

/-- The sample of channel `c` of unit `u` (R191, R192): in mode 2 only sample nodes are recorded. -/
def State.traceNode (s : State) (u c : Nat) : Int :=
  let w := s.rd (Reg.TRC_CHSEL u c)
  let mode := s.trcMode u
  match fieldOf w 31 28 with
  | 1 => if mode = 2 then 0 else s.traceSignal mode (fieldOf w 27 24) (fieldOf w 7 0)
  | 2 => s.lastV (fieldOf w 8 0)
  | _ => 0

/-- The source of unit `u` ticks: a recording unit takes the values of its channels (R191). -/
def State.traceDue (s : State) (u : Nat) : State :=
  if 2 ≤ s.trcState u && s.trcState u ≤ 4 then
    let k : TraceTick := { vals := (List.range 4).map (fun c => s.traceNode u c), mono := s.time.mono, gfc := s.time.gfc }
    s.onTr u (fun t => { t with ticks := t.ticks ++ [k] })
  else s

/-- A run of context `c` ticks the units that it paces (R191 mode 0). -/
def State.traceRun (s : State) (c : Nat) : State :=
  (List.range 8).foldl (fun s u => if s.trcMode u == 0 && s.fld (Reg.TRC_CTL u) 23 16 == c then s.traceDue u else s) s

/-- The turnover ticks each unit of mode 1 once in 2^DIV gait frames, DIV above 12 acting as 12 (R191, R197); in which of them is
free. -/
def State.traceTurnover (s : State) : State :=
  (List.range 8).foldl (fun s u =>
    if s.trcMode u == 1 && (s.gfcN + Config.tracePhase) % 2 ^ min 12 (s.fld (Reg.TRC_CTL u) 11 8) == 0 then s.traceDue u else s) s

/-- A delivery of entry `e` ticks the units whose channel 0 names it (R191 mode 2). -/
def State.traceDelivery (s : State) (e : Nat) : State :=
  (List.range 8).foldl (fun s u =>
    let w := s.rd (Reg.TRC_CHSEL u 0)
    if s.trcMode u == 2 && fieldOf w 31 28 == 2 && fieldOf w 8 0 == e then s.traceDue u else s) s

/-! ## Context states (R175, R176) -/

/-- Context `c` enters state `st` (R175 to R178, R190): TETHERED holds the last released output, DISABLED clears OUTV and
SELV, and the first RUNNING run is an entry run from the last released output. -/
def State.enterCtx (s : State) (c st : Nat) : State :=
  let out := s.ch c 0x24
  let s := s.putCw c 0 1 0 st
  let s := s.onCx c (fun x => { x with y0 := none, met := false })
  match st with
  | 0 => (s.putCw c 0 4 3 0).outputGone c
  | 1 => s.onCx c (fun x => { x with hold := out, tv := none })
  | 3 => s.onCx c (fun x => { x with y0 := some out })
  | _ => s

/-- The start takes context `c` to TETHERED with its hand value (R70). -/
def State.tetherHand (s : State) (c : Nat) : State :=
  (s.enterCtx c 1).onCx c (fun x => { x with hold := s.ch c 0x20 })

/-- The tether value of a run (R175): held, or moved from there toward HAND by at most HOSLEW codes a run. -/
def State.tetherValue (s : State) (c : Nat) : Int :=
  if bitOf (s.cw c 8) 9 then
    let p := (s.cx c).tv.getD (s.cx c).hold
    let h := s.ch c 0x20
    let d : Int := max 1 (fieldOf (s.cw c 0x20) 30 16)
    if p < h then min (p + d) h else max (p - d) h
  else (s.cx c).hold

/-- The arm condition of R178. -/
def State.armMet (s : State) (c : Nat) : Bool :=
  let w := s.cw c 8
  match fieldOf w 11 10 with
  | 1 => let st := s.stState (fieldOf w 20 16)
         st == 1 || st == 2
  | 2 => s.cState (fieldOf w 31 24) == 3
  | _ => true

/-! ## Runs (R137, R152, R175, R179, R181) -/

/-- What every run with arithmetic leaves: the inputs read, LERR, RUNGFC, the counters, OUT and STATUS. -/
def State.runTail (s : State) (c : Nat) (xs : List Int) (err y : Int) (selv tracked stale : Bool) : State :=
  let s := s.setCw c 0x110 (pair16 (xs.getD 0 0) (xs.getD 1 0))
  let s := s.setCw c 0x114 (pair16 (xs.getD 2 0) (xs.getD 3 0))
  let s := s.setCw c 0x118 (word (code 16 err))
  let s := s.setCw c 0x2C s.time.gfc
  let s := s.setCw c 0x11C (word (min ((s.cw c 0x11C).toNat + 1) 0xFFFFFFFF))
  let s := if stale then s.setCw c 0x120 (word (min (fieldOf (s.cw c 0x120) 15 0 + 1) 0xFFFF)) else s
  let s := s.putCw c 0x24 15 0 (code 16 y)
  let br := fieldOf (s.cw c 0x28) 16 0 != 0
  s.setCw c 0 (setField (s.cw c 0) 7 3
    (1 + 2 * b2n selv + 4 * b2n tracked + 8 * b2n stale + 16 * b2n br))

/-- A run of a TETHERED or ARMED context (R175). -/
def State.runTether (s : State) (c : Nat) (tmpl : Nat) (r : RunIn) (stale : Bool) : State :=
  let t := s.tetherValue c
  let armed := s.cState c == 2
  let (s, err) :=
    if tmpl = 5 then (s, 0)
    else
      let (e, f) := frontEnd r 0
      let q := s.runSt c
      let s := s.putRunSt c { q with e3 := q.e2, e2 := q.e1, e1 := e, u3 := q.u2, u2 := q.u1, u1 := t }
      (s.setFlags c f, e)
  let s := (s.runTail c r.x err t false false stale).onCx c (fun x => { x with tv := some t })
  if armed then (let m := s.armMet c; s.onCx c (fun x => { x with met := m })) else s

/-- A RUNNING run: the template and the bridge step (R181, R182). -/
def State.runRunning (s : State) (c : Nat) (tmpl : Nat) (r : RunIn) (stale : Bool) : State :=
  let y0 := (s.cx c).y0
  let step : Int := max 1 (fieldOf (s.cw c 0x20) 30 16)
  let tracked := y0.isNone && r.trk.isSome
  let o := runTemplate tmpl { r with trk := match y0 with | some y => some y | none => r.trk } (s.runSt c) 0
  let br := signed 17 (fieldOf (s.cw c 0x28) 16 0)
  let (y, br, f) := match y0 with
    | some y => (y, y - o.y, o.fl)
    | none =>
      let br := if 0 < br then max (br - step) 0 else if br < 0 then min (br + step) 0 else br
      let (y, f) := sat16 (o.y + br) o.fl
      (y, br, f)
  let s := s.putRunSt c o.s
  let s := s.setCw c 0x28 (word (code 17 br))
  let s := if tmpl = 5 then s.putCw c 0x24 17 16 o.k else s
  let s := (s.runTail c r.x o.e y (tmpl == 5) tracked stale).setFlags c f
  let s := s.onCx c (fun x => { x with y0 := none })
  match y0 with
  | some y => if y < r.ymin || r.ymax < y then s.raise (E.HANDOVER_STEP c) else s
  | none => s

/-- A lockstep mismatch (R137): nothing of the run is released, the engine halts and LANE_MISMATCH is sent. -/
def State.laneMismatch (s : State) (lane c : Nat) (inj : Bool) : State :=
  let s := s.faultFrom 4 0x020 lane c inj
  let s := (s.wrN Reg.LE_MISMATCH (0x80000000 + lane * 256 + c)).wr Reg.LE_MMGFC s.time.gfc
  s.setBit Reg.LE_STAT 31 true

/-- A run with arithmetic of entry `e` on context `c` (R136, R152, R175, R179). -/
def State.runContext (s : State) (e c : Nat) (checkerDiffers : Bool) : State :=
  let lane := s.fld (Reg.LE_SENT0 e) 23 20
  let larm := s.bit Reg.INJ_STAT 28 && s.fld Reg.INJ_LANE 7 0 == c
  let s := if larm then (s.setBit Reg.INJ_STAT 28 false).injected else s
  let bad := s.eccBad 0 (512 * c) (512 * c + 512)
  let s := s.eccRead 0 (512 * c) (512 * c + 512)
  if checkerDiffers || larm then s.laneMismatch lane c larm
  else if bad then s
  else
    let w0 := s.rd (Reg.LE_SENT0 e)
    let tmpl := fieldOf w0 30 28
    let slot := s.fld (Reg.LE_SENT1 e) 11 0
    let now := s.gaitStart + 64 * slot
    let running := s.cState c == 3
    let ins := (List.range 4).map (fun i => s.runInput c i now (tmpl == 5))
    let used (i : Nat) := if tmpl = 5 then running else i < 2 || (i == 2 && running && bitOf w0 25) || (i == 3 && bitOf w0 26)
    let stale := (List.range 4).any (fun i => used i && (ins.getD i (0, false)).2)
    let trk := if running && tmpl != 5 then s.trackRead c else none
    let r := s.runIn c e (ins.map (·.1)) trk
    let opts := b2n (bitOf w0 25) + b2n (bitOf w0 26) + b2n (bitOf w0 27)
    let rel := now + 64 * runCost tmpl opts
    let s := s.onCx c (fun x => { x with prev := s.liveOut c, relAt := rel })
    let s := if running then s.runRunning c tmpl r stale else s.runTether c tmpl r stale
    (s.releaseTo c rel).traceRun c

/-- LOOP_RUN (R152, R162): the command stands where the run's release is complete, with the inputs of its start cycle; the run of a valid entry that is due in this gait frame (R158). A halted engine releases
nothing. -/
def execLoopRun (e : Fin 256) (checkerDiffers : Bool) (s : State) : Host.Outcome State Fault Refusal :=
  let w0 := s.rd (Reg.LE_SENT0 e)
  let due := s.gfcN % 2 ^ fieldOf w0 19 16 == s.fld (Reg.LE_SENT1 e) 27 16
  let c := fieldOf w0 7 0
  if s.live && bitOf w0 31 && due && !s.bit Reg.LE_STAT 31 && s.cState c != 0 then
    .next ((s.eccTouch 2 (Reg.LE_SENT0 e)).runContext e c checkerDiffers)
  else .next s

/-! ## Twins (R188 to R190) -/

/-- Whether contexts `c` and `t` name each other with TWINEN set (R188). -/
def State.twins (s : State) (c t : Nat) : Bool :=
  let wc := s.cw c 8
  let wt := s.cw t 8
  c != t && bitOf wc 8 && bitOf wt 8 && fieldOf wc 7 0 == t && fieldOf wt 7 0 == c

/-- STATUS.TWINOK and DRIVING of context `c` follow its relation: when it becomes active the primary drives. -/
def State.twinSync (s : State) (c : Nat) : State :=
  let t := fieldOf (s.cw c 8) 7 0
  let ok := bitOf (s.cw c 0) 8
  if s.twins c t then
    if ok then s
    else
      let one (s : State) (x : Nat) (d : Bool) := s.setCw x 0 (setField (setField (s.cw x 0) 8 8 1) 2 2 (b2n d))
      one (one s (min c t) true) (max c t) false
  else if ok then s.setCw c 0 (setField (setField (s.cw c 0) 8 8 0) 2 2 0)
  else s

/-- Write CFG of context `c`; the relations it had and has follow (R188). -/
def State.writeCfg (s : State) (c : Nat) (v : Word) : State :=
  let old := fieldOf (s.cw c 8) 7 0
  let s := s.setCw c 8 v
  (((s.twinSync c).twinSync old).twinSync (fieldOf v 7 0)).redrive [c, old, fieldOf v 7 0] s.gaitStart

/-! ## The context window (R171 to R174, R177) -/

/-- The bits of each word of a context that are in some field (R168, R169). -/
def cwKnown (o : Nat) : Word :=
  if o = 0 then 0x1FF else if o = 4 then 0x1F else if o = 8 then 0xFF1F0FFF else if o = 0xC then 0x83FF
  else if 0x10 ≤ o && o < 0x20 then 0xF000FFFF else if o = 0x20 then 0x7FFFFFFF
  else if o = 0x24 then 0x3FFFF else if o = 0x28 then 0x1FFFF else if o = 0x2C then 0xFFFFFFFF
  else if 0x40 ≤ o && o < 0x60 then 0xFFFFFFFF else if o = 0x60 then 0x1FFF
  else if 0x80 ≤ o && o < 0x94 then 0xFFFFFFFF else if o = 0x94 then 0xFFFF
  else if 0x100 ≤ o && o < 0x110 then 0xFFFF7F37 else if 0x110 ≤ o && o < 0x118 then 0xFFFFFFFF
  else if o = 0x118 then 0xFFFF else if o = 0x11C then 0xFFFFFFFF else if o = 0x120 then 0xFFFF else 0

/-- The words of R177, writable only in DISABLED and TETHERED. -/
def cwLocked (o : Nat) : Bool :=
  (8 ≤ o && o < 0x20) || (0x40 ≤ o && o < 0x64) || (0x80 ≤ o && o < 0x98) || (0x100 ≤ o && o < 0x110)

/-- A reserved code that R174 refuses with RANGE. -/
def cwRange (o : Nat) (v : Word) : Bool :=
  if 0x10 ≤ o && o < 0x20 then 7 ≤ fieldOf v 31 28 || (fieldOf v 31 28 == 1 && 511 < fieldOf v 15 0)
  else if 0x100 ≤ o && o < 0x110 then 6 ≤ fieldOf v 2 0 else false

/-- A refusal of the context window (R172, R174). -/
def State.cwRefuse (s : State) (c rcode : Nat) : State :=
  let s := ((s.setBit Reg.CW_STAT 30 true).put Reg.CW_STAT 27 24 rcode).put Reg.CW_STAT 23 16 c
  (s.bump Reg.CW_REFCNT 15 0 1).raise (E.CTX_REFUSED c)

/-- The commits that R509 holds ARMED and hand-over for: SCHED (1), GAIT (0) and LINK (2). -/
def State.commitPending (s : State) (m : Nat) : Bool :=
  match s.commit with
  | some c => !c.discard && c.groups &&& m != 0
  | none => false

/-- Apply a write of one word (R172, R177), whose reserved codes have been checked. -/
def State.cwStore (s : State) (c o : Nat) (v : Word) : State :=
  if cwLocked o then
    if 2 ≤ s.cState c then s.cwRefuse c 1
    else
      let v := v &&& cwKnown o
      if o = 8 then s.writeCfg c v else s.setCw c o v
  else if o = 4 then s.setCw c 4 (s.cw c 4 &&& ~~~v)
  else if o = 0x20 then s.setCw c 0x20 (v &&& cwKnown 0x20)
  else if o = 0x11C then (if v = 0 then s.setCw c o 0 else s)
  else if o = 0x120 then (if fieldOf v 15 0 = 0 then s.setCw c o 0 else s)
  else s

/-- A write of one word through the window: reserved codes are refused with RANGE (R174). -/
def State.cwData (s : State) (c o : Nat) (v : Word) : State :=
  if cwRange o v then s.cwRefuse c 8 else s.cwStore c o v

/-- SETSTATE at its turnover (R174, R176). A command to the present state has no effect, which the model lets stand for RUNNING as well,
where R176 also says that SETSTATE to RUNNING is refused (DEDUCED, log 125). -/
def State.cwSetState (s : State) (c st : Nat) : State :=
  let cur := s.cState c
  if st = cur then s
  else if st = 2 && s.commitPending 7 then s.cwRefuse c 4
  else if st = 3 || (st = 2 && cur != 1) then s.cwRefuse c 2
  else if st = 2 && (s.entryOf c).isNone then s.cwRefuse c 3
  else s.enterCtx c st

/-- HANDOVER at its turnover (R189, R190). -/
def State.cwHandOver (s : State) (c : Nat) : State :=
  let t := fieldOf (s.cw c 8) 7 0
  let out := if bitOf (s.cw c 0) 2 then c else t
  let inc := if bitOf (s.cw c 0) 2 then t else c
  let equal := match s.entryOf c, s.entryOf t with
    | some a, some b => s.fld (Reg.LE_SENT0 a) 19 16 == s.fld (Reg.LE_SENT0 b) 19 16 &&
        s.fld (Reg.LE_SENT1 a) 27 16 == s.fld (Reg.LE_SENT1 b) 27 16
    | _, _ => false
  if s.commitPending 7 then s.cwRefuse c 4
  else if !equal then s.cwRefuse c 3
  else if !bitOf (s.cw c 0) 8 || s.cState inc != 1 then s.cwRefuse c 5
  else
    let y0 := s.liveOut out
    let s := (s.putCw inc 0 1 0 3).putCw out 0 1 0 1
    let s := (s.putCw inc 0 2 2 1).putCw out 0 2 2 0
    let s := ((s.putCw inc 0x24 15 0 (code 16 y0)).putCw inc 0 3 3 1).onCx inc
      (fun x => { x with y0 := some y0, met := false })
    let s := (s.putCw out 8 9 9 0).onCx out (fun x => { x with y0 := none, met := false, hold := y0, tv := none })
    s.raise (E.HANDOVER_DONE c)

/-- Apply one entry of the write buffer (R172). -/
def State.cwApply (s : State) (x : CwItem) : State :=
  match x with
  | .data c o v => s.cwData c o v
  | .setState c st => s.cwSetState c st
  | .handOver c => s.cwHandOver c
  | .badOp c => s.cwRefuse c 8
  | .none _ => s

/-- Window writes and commands that wait: in the write buffer, or for the GFC fixed for them in a pair (R173). -/
def State.cwWaiting (s : State) : Nat :=
  s.cwq.length + (s.pair.fwd.filter (fun x => match x.2 with | .window _ => true | _ => false)).length

/-- PEND follows the write buffer (R171). -/
def State.cwCount (s : State) : State := s.put Reg.CW_STAT 8 0 s.cwWaiting

/-- A write or command of the context window arrives (R172, R173). -/
def State.cwArrive (s : State) (c : Nat) (x : CwItem) : State :=
  if s.notActiveInPair then s.cwRefuse c 7
  else if 256 ≤ s.cwWaiting then s.cwRefuse c 6
  else { s with cwq := s.cwq ++ [x] }.cwCount

/-- A write of CW_CMD with context `c` selected (R171). -/
def State.cwCommand (s : State) (c : Nat) (v : Word) : State :=
  match fieldOf v 31 28 with
  | 0 => s.cwArrive c (.none c)
  | 1 => s.cwArrive c (.setState c (fieldOf v 1 0))
  | 2 => s.cwArrive c (.handOver c)
  | _ => s.cwArrive c (.badOp c)

/-- Step 2 of the turnover (R155, R161): contexts that met an uncorrectable error go to DISABLED (R179), at most 64
waiting writes apply, and armed contexts whose condition was true become RUNNING (R178). -/
def State.ctxTurnover (s : State) : State :=
  let s := (List.range 256).foldl (fun s c =>
    if (s.cx c).ecc then (s.enterCtx c 0).onCx c (fun x => { x with ecc := false }) else s) s
  let now := s.cwq.take 64
  let s := now.foldl (fun s x => s.cwApply x) { s with cwq := s.cwq.drop 64 }
  let s := s.cwCount
  (List.range 256).foldl (fun s c =>
    if s.cState c == 2 && (s.cx c).met then (s.enterCtx c 3).raise (E.CTX_RUNNING c) else s) s

/-- Step 3 of the turnover (R155): the live bank is copied into the frame bank. -/
def State.copyBank (s : State) : State :=
  (List.range 256).foldl (fun s c =>
    let w := s.cw c 0
    let o := s.cw c 0x24
    s.onCx c (fun x => { x with bank := { out := signed 16 (fieldOf o 15 0), outv := bitOf w 3, selv := bitOf w 4,
                                          selk := fieldOf o 17 16 } })) s

end Sys2Proof.Machine
end

