-- ==== Sys2Proof/Machine/Trace.lean ====
section
/-!
DEFINITION. Trace units (R191 to R197).
-/

namespace Sys2Proof.Machine

def State.trcGoto (s : State) (u st : Nat) : State := s.put (Reg.TRC_STAT u) 31 29 st

/-- P of R193. -/
def State.trcP (s : State) (u : Nat) : Nat := s.fld (Reg.TRC_POST u) 13 0

/-- The trigger of unit `u` on the sample just written (R194), and whether the value has lain beyond the hysteresis
since the last crossing. -/
def State.traceTrigger (s : State) (u : Nat) (xs : List Int) : Bool × Bool :=
  let w := s.rd (Reg.TRC_TRIG u)
  let x := xs.getD (fieldOf w 25 24) 0
  let thr := s.sfld (Reg.TRC_THR u) 15 0
  let hys : Int := s.fld (Reg.TRC_THR u) 31 16
  let t := s.tr u
  match fieldOf w 31 28 with
  | 1 => (decide (thr < x), false)
  | 2 => (decide (x < thr), false)
  | 3 => (t.prim && decide (thr ≤ x), (t.prim || decide (x < thr - hys)) && decide (x < thr))
  | 4 => (t.prim && decide (x ≤ thr), (t.prim || decide (thr + hys < x)) && decide (thr < x))
  | 5 => (t.seen, false)
  | 6 => (t.seen, false)
  | 7 => (t.seen, false)
  | _ => (false, false)

/-- Write the sample of a tick and evaluate the trigger (R191, R193, R194). -/
def State.traceSample (s : State) (u : Nat) (k : TraceTick) : State :=
  let st := s.trcState u
  let xs := k.vals
  let t := s.tr u
  let i := t.next
  let v : BitVec 64 := BitVec.ofNat 64 (xs.zipIdx.foldl (fun a x => a + code 16 x.1 * 65536 ^ x.2) 0)
  let r := s.traceTrigger u xs
  let hit := st == 3 && (r.1 || t.force)
  let s := s.onTr u (fun t => { t with
    buf := cellsSet (fun _ => 0) t.buf i v, next := (i + 1) % 16384, count := min (t.count + 1) 16384,
    post := if hit then 0 else if st = 4 then t.post + 1 else t.post, prim := r.2, seen := false, force := false })
  let s := s.eccWrite 4 ((u * 16384 + i) * 8)
  let s := (s.wrN (Reg.TRC_LAST u) i).setBit (Reg.TRC_STAT u) 16 (s.bit (Reg.TRC_STAT u) 16 || i == 16383)
  if hit then
    let s := ((s.trcGoto u 4).wrN (Reg.TRC_TRIGPOS u) i).wr (Reg.TRC_TGFC u) k.gfc
    let s := (s.wrN (Reg.TRC_TMONO_LO u) k.mono.toNat).wrN (Reg.TRC_TMONO_HI u) (k.mono.toNat / 2 ^ 32)
    (s.raise (E.TRACE_TRIG u)).traceSee 7 u
  else if st = 2 && 16383 - s.trcP u ≤ (s.tr u).count then s.trcGoto u 3
  else s

/-- TRACE_TICK (R191): the oldest tick of the unit's source is recorded. A unit that has its P samples after the trigger records nothing
more. -/
def execTraceTick (u : Fin 8) (s : State) : Host.Outcome State Fault Refusal :=
  let st := s.trcState u
  match (s.tr u).ticks with
  | [] => .next s
  | k :: rest =>
    if s.runs && 2 ≤ st && st ≤ 4 then
      let s := s.onTr u (fun t => { t with ticks := rest })
      if (s.tr u).stopReq then .next ((s.trcGoto u 7).onTr u (fun t => { t with stopReq := false }))
      else if st = 4 && s.trcP u ≤ (s.tr u).post then .next s
      else .next (s.traceSample u k)
    else .next s

/-- TRACE_DONE (R193): P samples after the trigger the unit stops in DONE. -/
def execTraceDone (u : Fin 8) (s : State) : Host.Outcome State Fault Refusal :=
  if s.runs && s.trcState u == 4 && decide (s.trcP u ≤ (s.tr u).post) then
    .next ((s.trcGoto u 5).raise (E.TRACE_DONE u))
  else .next s

/-- The gait-frame boundary at a unit whose ARM is pending (R193). -/
def State.traceArm (s : State) (u : Nat) : State :=
  if s.trcState u == 1 then
    let s := s.onTr u (fun t => { t with ticks := [], next := 0, count := 0, post := 0, prim := false, seen := false,
                                         stopReq := false, force := false })
    (s.setBit (Reg.TRC_STAT u) 16 false).trcGoto u (if s.trcP u = 16383 then 3 else 2)
  else s

/-- A write of TRCu_CTL (R197): the fields are stored, ARM waits for the boundary, STOP and FORCE for the next tick. -/
def State.trcCtlWrite (s : State) (u : Nat) (v : Word) : State :=
  let s := s.wr (Reg.TRC_CTL u) (v &&& 0x18FF0F30)
  let st := s.trcState u
  if bitOf v 31 then s.trcGoto u 1
  else
    let s := if bitOf v 30 && 2 ≤ st && st ≤ 4 then s.onTr u (fun t => { t with stopReq := true }) else s
    if bitOf v 29 && st = 3 then s.onTr u (fun t => { t with force := true }) else s

/-- A fault classification freezes a unit (R195): FRZEN, and FRZFATAL limits it to fatal faults. -/
def State.traceFreeze (s : State) (fatal : Bool) : State :=
  (List.range 8).foldl (fun s u =>
    let st := s.trcState u
    if s.bit (Reg.TRC_CTL u) 28 && (fatal || !s.bit (Reg.TRC_CTL u) 27) && 1 ≤ st && st ≤ 4 then
      (s.trcGoto u 6).raise (E.TRACE_FROZEN u)
    else s) s

/-- A sample word of channel `c` at index `i`; an uncorrectable one reads 0 (R368 region 4). -/
def State.traceWord (s : State) (u c i : Nat) : Nat :=
  let a := (u * 16384 + i) * 8 / 16 * 16
  if s.eccBad 4 a (a + 16) then 0
  else (cellsGet (fun _ => (0 : BitVec 64)) (s.tr u).buf i).toNat / 65536 ^ c % 65536

/-- A read of TRCu_RDATA with RADDR `w` (R196): two samples. -/
def State.trcRead (s : State) (u : Nat) (w : Word) : Word × State :=
  let c := fieldOf w 15 14
  let i := fieldOf w 13 0
  let j := (i + 1) % 16384
  let v := word (s.traceWord u c i + 65536 * s.traceWord u c j)
  let a := (u * 16384 + i) * 8 / 16 * 16
  let b := (u * 16384 + j) * 8 / 16 * 16
  (v, (s.eccRead 4 a (a + 16)).eccRead 4 b (b + 16))

/-- RADDR after a read of RDATA: 2 further within its channel (R196). -/
def trcNext (w : Word) : Word := setField w 13 0 ((fieldOf w 13 0 + 2) % 16384)

end Sys2Proof.Machine
end

