-- ==== Sys2Proof/Machine/Token.lean ====
section
/-!
DEFINITION. Claims, health, giving up and the maintenance token (R334 to R336, R348, R349), which several blocks use.
-/

namespace Sys2Proof.Machine

/-! ## Injection lock (R374) -/

/-- The injection block locks: armed injections are disarmed (R374, R383). -/
def State.injLock (s : State) : State :=
  let s := { s with flt := { s.flt with injKey := none } }
  (((s.setBit Reg.INJ_STAT 31 false).setBit Reg.INJ_STAT 29 false).setBit Reg.INJ_STAT 28 false)

/-! ## The token (R348, R349) -/

def State.tokHeld (s : State) : Bool := s.bit Reg.SYS_TOKSTAT 31
def State.tokMine (s : State) : Bool := s.bit Reg.SYS_TOKSTAT 30
def State.tokAct (s : State) : Nat := s.fld Reg.SYS_TOKSTAT 27 24

/-- This unit may do an activity that needs the token with one of `acts`; a unit that runs alone needs none (R330). -/
def State.tokOk (s : State) (acts : List Nat) : Bool :=
  !s.unit.pairMode || (s.tokHeld && s.tokMine && acts.contains s.tokAct)

/-- Grant the token to this unit or its partner. -/
def State.tokGrant (s : State) (mine : Bool) (act : Nat) : State :=
  let holder := if mine then s.unit.unitB else !s.unit.unitB
  let s := (((s.setBit Reg.SYS_TOKSTAT 31 true).setBit Reg.SYS_TOKSTAT 30 mine).setBit Reg.SYS_TOKSTAT 28 holder).put
    Reg.SYS_TOKSTAT 27 24 act
  s.wr Reg.SYS_TOKGFC s.time.gfc

/-- The token becomes free; the release locks the injection block of the unit that held it (R374). -/
def State.tokFree (s : State) : State :=
  let s' := if s.tokMine then s.injLock else s
  (((s'.setBit Reg.SYS_TOKSTAT 31 false).setBit Reg.SYS_TOKSTAT 30 false).setBit Reg.SYS_TOKSTAT 28 false).put
    Reg.SYS_TOKSTAT 27 24 0

/-- A request that finds the token held (R349). -/
def State.tokBusy (s : State) : State := (s.bump Reg.SYS_TOKREF 15 0 1).raise (E.MAINT_BUSY 0)

/-! ## Tandem transmit (R331) -/

/-- Queue content for lane 0. -/
def State.tdmSend (s : State) (x : TandemContent) : State :=
  if s.unit.pairMode then { s with pair := { s.pair with txq := s.pair.txq ++ [x] } } else s

/-- The tandem link is UP (R351). -/
def State.tdmUp (s : State) : Bool := s.fld Reg.PAIR_TDSTAT 2 0 == 5

/-- CLAIM_IN level (R352). -/
def State.claimIn (s : State) : Bool := s.bit Reg.PAIR_STAT 23

/-- This unit is the active one of a pair whose standby is present and past MATCH (R341). -/
def State.forwards (s : State) : Bool := s.unit.pairMode && s.role == 2 && s.tdmUp && decide (2 ≤ s.fld Reg.PAIR_SYNC 2 0)

/-- The GFC fixed for an item forwarded now: the second boundary (R75, R173). -/
def State.forwardGfc (s : State) : Nat := (s.gfcN + 2) % 2 ^ 32

/-- Forward an item to the standby while it is present and past MATCH (R341, R345). -/
def State.forward (s : State) (x : FwdItem) : State := if s.forwards then s.tdmSend (.fwd s.forwardGfc x) else s

/-- Forward an item, which this unit also applies at the GFC fixed for it (R173). -/
def State.forwardOwn (s : State) (x : FwdItem) : State :=
  { s.forward x with pair := { (s.forward x).pair with fwd := s.pair.fwd ++ [(s.forwardGfc, x)] } }

/-! ## Claim and health (R334, R335) -/

/-- A role change is counted and recorded in PAIR_LAST (R351). -/
def State.roleChange (s : State) (role last : Nat) : State :=
  let s := (s.put Reg.PAIR_STAT 29 28 role).bump Reg.PAIR_SWAPCNT 15 0 1
  (s.put Reg.PAIR_LAST 3 0 last).wr Reg.PAIR_LASTGFC s.time.gfc

/-- An assigned rein link, or a tandem lane, is not UP (R335). -/
def State.linkMissing (s : State) : Bool :=
  (List.range 16).any (fun n => s.linkKind n != 0 && !s.linkUp n) ||
    (s.unit.pairMode && !(s.bit Reg.PAIR_TDSTAT 3 && s.bit Reg.PAIR_TDSTAT 4))

/-- A contained fault not yet released (R335). -/
def State.faultHeld (s : State) : Bool :=
  s.flt.list.any (fun e => match e with
    | some x => x.st != 3 && x.msg.cls == 1
    | none => false)

/-- Standby and not SYNCED (R335). -/
def State.notSynced (s : State) : Bool := s.unit.pairMode && s.role != 2 && s.fld Reg.PAIR_SYNC 2 0 != 4

/-- HEALTH and its conditions, computed at every turnover (R335, R351). -/
def State.healthTurnover (s : State) : State :=
  let c0 := s.faultHeld || s.bit Reg.HK_STAT 29
  let c1 := s.linkMissing
  let c2 := s.bit Reg.PAIR_STAT 27
  let c3 := s.notSynced
  let h := if c3 then 3 else if c2 then 4 else if c1 then 5 else if c0 then 6 else 7
  s.wrN Reg.PAIR_HEALTH (h + 256 * b2n c0 + 512 * b2n c1 + 1024 * b2n c2 + 2048 * b2n c3)

/-- A unit of a pair whose REFMODE is 2 holds its claim at zero (R29). -/
def State.clkHeld (s : State) : Bool := s.unit.pairMode && s.fld Reg.TIM_CLKCFG 1 0 == 2

/-- The claim number this unit sends (R334): zero until READY, in paddock mode, with OOS set and after a give-up. -/
def State.claimNow (s : State) : Nat :=
  if s.clkHeld || !s.bit Reg.SYS_STAT 0 || s.bit Reg.SYS_STAT 1 || s.bit Reg.PAIR_CTL 30 || s.role == 3 || s.role == 0 || s.pair.mism || s.halted then 0
  else
    (if s.role = 2 then 32768 else 0) + s.fld Reg.PAIR_HEALTH 2 0 * 4096 + s.pair.epoch % 256 * 16 +
      (if s.unit.unitB then 0xE else 0xF)

/-- PAIR_CLAIM and CLAIM_OUT follow the claim number. -/
def State.claimUpdate (s : State) : State :=
  let c := s.claimNow
  let s := s.put Reg.PAIR_CLAIM 15 0 c
  { s with unit := { s.unit with claimOut := 32768 ≤ c } }

/-- Give up (R336): the claim is zero at once, CLAIM_OUT deasserts and the token is released. -/
def State.giveUp (s : State) : State :=
  let s := if s.role = 3 then s else s.roleChange 3 6
  let s := { s with pair := { s.pair with dwell := false, back := false, swap := none, remWait := false,
                                          finding := none, remAt := none } }
  let s := if s.tokHeld && s.tokMine then s.tokFree else s
  s.claimUpdate

end Sys2Proof.Machine
end

