-- ==== Sys2Proof/Machine/Housekeeping.lean ====
section
/-!
DEFINITION. Housekeeping and thermal management (chapter 11). A slot decision carries the averaged value of the slot: mV
for a supply, 1/256 °C for the two diode readings, converter codes for slots 16, 17 and 23.
-/

namespace Sys2Proof.Machine

/-- Marks a count whose finding has been sent and holds until the condition ends. -/
def countSent : Nat := 255

/-- One round of a count that a condition raises and its absence clears; a sent finding holds its mark. -/
def countRound (n : Nat) (c : Bool) : Nat := if c then (if n = countSent then n else min (n + 1) 254) else 0

/-- Whether a count has reached four rounds and its finding has not been sent. -/
def countDue (n : Nat) : Bool := decide (4 ≤ n) && n != countSent

/-- A temperature in 0.0625 °C codes (R317). -/
def tempCode (t : Int) : Int := cdiv t 16

/-- Slot value `i` as last decided. -/
def State.hkVal (s : State) (i : Nat) : Int := vget s.hk.vals i 0

/-- T of the latest round in which it was used, in 1/256 °C (R317, R318). -/
def State.hkT (s : State) : Int := s.hk.hist.headD 0

/-- The rise over `w` rounds, when the window is full (R322). -/
def riseOver (hist : List Int) (w : Nat) : Option Int :=
  match hist.head?, hist[w]? with
  | some t, some u => some (t - u)
  | _, _ => none

/-- Whether a rise exceeds `limit` mK/s over `w` rounds (R322). -/
def riseExceeds (r : Option Int) (limit w : Nat) : Bool :=
  match r with
  | some x => decide ((limit * 256 * w : Nat) < x * 1000000)
  | none => false

/-- One rise window: counts of rounds exceeded and not, and the flag in bit `bit` of HK_STAT, which clears after four
rounds not exceeded (R323). -/
def State.riseWindow (s : State) (i w limit bit : Nat) : State :=
  match riseOver s.hk.hist w with
  | none => s
  | some r =>
    let x := riseExceeds (some r) limit w
    let up := countRound (vget s.hk.rateUp i 0) x
    let dn := countRound (vget s.hk.rateDn i 0) (!x)
    let s := { s with hk := { s.hk with rateUp := vset s.hk.rateUp i up, rateDn := vset s.hk.rateDn i dn } }
    let s := s.setBit Reg.HK_STAT (bit - 2) true
    let s := s.put Reg.HK_RISE (16 * i + 15) (16 * i) (code 16 r)
    if 4 ≤ dn then s.setBit Reg.HK_STAT bit false else s

/-- The decision of T at the end of slot 12 (R317, R318, R320 to R323). -/
def State.hkTemp (s : State) : State :=
  let a := s.hkVal 0
  let b := s.hkVal 12
  let t := cdiv (a + b) 2
  if 1024 < (a - b).natAbs || t < -14080 || 44800 < t then
    { s with hk := { s.hk with badN := countRound s.hk.badN true, used := false } }
  else
    let warn := s.sfld Reg.HK_TLIM 15 0 * 16
    let shut := s.sfld Reg.HK_TLIM 31 16 * 16
    let top := match s.hk.hist with
      | [] => tempCode t
      | _ => max (s.sfld Reg.HK_TEMP 31 16) (tempCode t)
    let s := { s with hk := { s.hk with
      badN := 0, used := true, hist := (t :: s.hk.hist).take 1025, warnN := countRound s.hk.warnN (warn < t),
      coolN := countRound s.hk.coolN (t ≤ warn - 2048), shutN := countRound s.hk.shutN (shut < t) } }
    let s := (s.wrN Reg.HK_TEMP (code 16 (tempCode t) + 65536 * code 16 top)).wrN Reg.HK_TFINE (code 32 t)
    (s.riseWindow 0 16 (s.fld Reg.HK_RATE 15 0) 28).riseWindow 1 1024 (s.fld Reg.HK_RATE 31 16) 27

/-- Whether the check of a slot fails (R319); `none` where the slot has no check, or none is made: a round without a check ends a run of
failed ones. -/
def State.hkCheckFails (s : State) (slot : Nat) : Option Bool :=
  let v := s.hkVal slot
  match slot with
  | 17 => some (decide (8 < v.natAbs))
  | 23 => some (decide (8 < (v - 3584).natAbs))
  | 15 => some (decide (5 * (s.hkVal 6).natAbs < 1000 * (v - s.hkVal 6).natAbs))
  | 16 => if fieldOf s.meas.tst.tdac 13 12 = 0 then none
          else some (decide (4 < (v - (fieldOf s.meas.tst.tdac 11 0 : Nat)).natAbs))
  | _ => none

/-- Slots that have a supply monitor (R326). -/
def hkHasMonitor (slot : Nat) : Bool := !([0, 12, 15, 16, 17, 23].contains slot)

/-- The supply monitor of a slot (R326): its counts, and the end of a violation. -/
def State.hkMonitor (s : State) (slot : Nat) : State :=
  let lo : Int := s.fld (Reg.HK_SUPLIM slot) 15 0
  let hi : Int := s.fld (Reg.HK_SUPLIM slot) 31 16
  if hkHasMonitor slot && decide (lo < hi) then
    let v := s.hkVal slot
    let out := decide (v < lo) || decide (hi < v)
    let inn := countRound (vget s.hk.inN slot 0) (!out)
    let s := { s with hk := { s.hk with outN := vset s.hk.outN slot (countRound (vget s.hk.outN slot 0) out),
                                        inN := vset s.hk.inN slot inn } }
    if 4 ≤ inn then s.setBit Reg.HK_SUPSTAT slot false else s
  else s

/-- The round runs from step 2 of R59, whose PLL gives CK_HK (R316): in a unit that has started, and in paddock mode where a valid
descriptor was read. -/
def State.hkOn (s : State) : Bool := s.runs || (decide (s.unit.life = .paddock) && s.bit Reg.TIM_CLKSTAT 2)

/-- HK_VAL of a decision (R327): 0.0625 °C codes for the diode readings, else mV; what a converter code of slots 16, 17 and 23 is in mV the
spec does not say (log 135). -/
def hkShown (i : Nat) (value : Int) : Nat :=
  if i = 0 || i = 12 then code 32 (tempCode value)
  else if i = 16 || i = 17 || i = 23 then code 32 (Config.hkMilliVolts i value)
  else code 32 value

/-- HK_SLOT_DECISION (R317): the averaged value of a slot. -/
def execHkSlotDecision (slot : Fin 24) (value : Int) (s : State) : Host.Outcome State Fault Refusal :=
  if s.hkOn then
    let i : Nat := slot
    let s := { s with hk := { s.hk with vals := vset s.hk.vals i value } }
    let s := s.wrN (Reg.HK_VAL i) (hkShown i value)
    let s := if i = 12 then s.hkTemp else s
    let s := match s.hkCheckFails i with
      | some b => { s with hk := { s.hk with chkN := vset s.hk.chkN i (countRound (vget s.hk.chkN i 0) b) } }
      | none => { s with hk := { s.hk with chkN := vset s.hk.chkN i 0 } }
    let s := s.hkMonitor i
    .next (if i = 23 then s.bump Reg.HK_ROUNDS 31 0 1 else s)
  else .next s

/-- HK_SENSOR (R318): implausible in four consecutive rounds. -/
def execHkSensor (s : State) : Host.Outcome State Fault Refusal :=
  if s.hkOn && countDue s.hk.badN then
    let s := { s with hk := { s.hk with badN := countSent } }
    .next ((s.setBit Reg.HK_STAT 30 true).fault 19 0 (code 32 s.hkT))
  else .next s

/-- HK_CHECK (R319): a check has failed in four consecutive rounds. -/
def execHkCheck (slot : Fin 24) (s : State) : Host.Outcome State Fault Refusal :=
  if s.hkOn && countDue (vget s.hk.chkN slot 0) then
    let s := { s with hk := { s.hk with chkN := vset s.hk.chkN slot countSent } }
    .next (s.fault 20 slot (code 32 (s.hkVal slot)))
  else .next s

/-- THERM_WARN (R320). -/
def execThermWarn (s : State) : Host.Outcome State Fault Refusal :=
  if s.hkOn && decide (4 ≤ s.hk.warnN) && !s.bit Reg.HK_STAT 29 then
    .next ((s.setBit Reg.HK_STAT 29 true).raise (E.THERM_WARN 0))
  else .next s

/-- THERM_WARN_CLEAR (R320). -/
def execThermWarnClear (s : State) : Host.Outcome State Fault Refusal :=
  if s.hkOn && decide (4 ≤ s.hk.coolN) && s.bit Reg.HK_STAT 29 then
    .next ((s.setBit Reg.HK_STAT 29 false).raise (E.THERM_WARN_CLEAR 0))
  else .next s

/-- The thermal record (R325). -/
def State.thermBytes (s : State) : List Byte :=
  let ts := (s.hk.hist.take 64).reverse
  leBytes 4 s.gfcN ++ leBytes 8 s.time.mono.toNat ++ leBytes 2 (s.fld Reg.HK_TLIM 31 16) ++
    leBytes 2 (s.fld Reg.HK_TLIM 15 0) ++ leBytes 2 (s.fld Reg.HK_RISE 15 0) ++ leBytes 2 (s.fld Reg.HK_RISE 31 16) ++
    leBytes 2 (code 16 (s.hkVal 1)) ++ leBytes 2 (code 16 (s.hkVal 2)) ++ leBytes 8 0 ++
    (List.replicate (64 - ts.length) (0 : Int) ++ ts).flatMap (fun t => leBytes 2 (code 16 (tempCode t)))

/-- THERM_SHUT (R321, R324, R325): shutdown latches, the fatal message is sent and the thermal record is taken. -/
def execThermShut (s : State) : Host.Outcome State Fault Refusal :=
  if s.hkOn && decide (4 ≤ s.hk.shutN) && !s.bit Reg.HK_STAT 31 then
    let s := s.setBit Reg.HK_STAT 31 true
    let s := { s with unit := { s.unit with thermLatch := true } }
    .next ((s.takeSnap 97 s.thermBytes true false false).fault 22 0 (code 32 s.hkT))
  else .next s

/-- THERM_RATE (R323): a rise window exceeded for four rounds sets its flag. -/
def execThermRate (long : Bool) (s : State) : Host.Outcome State Fault Refusal :=
  let i := if long then 1 else 0
  let bit := if long then 27 else 28
  if s.hkOn && decide (4 ≤ vget s.hk.rateUp i 0) && !s.bit Reg.HK_STAT bit then
    .next ((s.setBit Reg.HK_STAT bit true).raise (E.THERM_RATE 0))
  else .next s

/-- HK_SUPPLY (R326): a supply out of its limits for four rounds. -/
def execHkSupply (slot : Fin 24) (s : State) : Host.Outcome State Fault Refusal :=
  let i : Nat := slot
  if s.hkOn && decide (4 ≤ vget s.hk.outN i 0) && !s.bit Reg.HK_SUPSTAT i then
    let s := (s.setBit Reg.HK_SUPSTAT i true).setBit Reg.HK_SUPSTKY i true
    let s := s.raise (E.SUPPLY_WARN i)
    let fatal := s.bit (Reg.HK_SUPCFG i) 0
    .next (s.sendFault (s.faultMsg 21 (if fatal then 2 else 0) (if fatal then 7 else 4) i (code 32 (s.hkVal i))))
  else .next s

end Sys2Proof.Machine
end

