-- ==== Sys2Proof/Machine/Sched.lean ====
section
/-!
DEFINITION. The schedule: its checks (R157 to R160), its load (R164), LE_CHECK, and the lane tests (R138, R139).
-/

namespace Sys2Proof.Machine

/-! ## A schedule to check (R158, R160) -/

/-- Register `a` of a schedule: the shadow one where `sh` is set, otherwise the one in effect. -/
def State.view (s : State) (sh : Bool) (a : Nat) : Word := if sh then s.srd a else s.rd a

/-- A schedule entry (R158). -/
structure Entry where
  i     : Nat
  tmpl  : Nat
  curb  : Bool
  droop : Bool
  ff    : Bool
  lane  : Nat
  k     : Nat
  ctx   : Nat
  phase : Nat
  slot  : Nat
  deriving DecidableEq, Repr

/-- Entry `i` of a schedule, when it is valid. -/
def State.entry (s : State) (sh : Bool) (i : Nat) : Option Entry :=
  let a := s.view sh (Reg.LE_SENT0 i)
  let b := s.view sh (Reg.LE_SENT1 i)
  if bitOf a 31 then
    some { i := i, tmpl := fieldOf a 30 28, curb := bitOf a 27, droop := bitOf a 26, ff := bitOf a 25,
           lane := fieldOf a 23 20, k := fieldOf a 19 16, ctx := fieldOf a 7 0, phase := fieldOf b 27 16,
           slot := fieldOf b 11 0 }
  else none

/-- The valid entries of a schedule, ascending. -/
def State.entries (s : State) (sh : Bool) : List Entry := (List.range 256).filterMap (fun i => s.entry sh i)

/-- Cost of an entry in lane-cycles (R145). -/
def Entry.cost (e : Entry) : Nat := runCost e.tmpl (b2n e.curb + b2n e.droop + b2n e.ff)

/-- Whether the entry is due in the frame with GFC `g` (R158). -/
def Entry.due (e : Entry) (g : Nat) : Bool := g % 2 ^ e.k == e.phase

/-- Two entries conflict (R159). -/
def Entry.conflict (a b : Entry) : Bool :=
  let m := min a.k b.k
  a.lane == b.lane && a.phase % 2 ^ m == b.phase % 2 ^ m && decide (a.slot < b.slot + b.cost) &&
    decide (b.slot < a.slot + a.cost)

/-- Start of the background block of lane `l` in a frame of `len` cycles (R157). -/
def State.bgStart (s : State) (sh : Bool) (l len : Nat) : Nat :=
  let p := fieldOf (s.view sh (Reg.LE_LANE l)) 11 0
  if p = 0 then len - 48 else p

/-- The entry's cycles lie within schedulable cycles (R157, R160). -/
def State.entryFits (s : State) (sh : Bool) (len : Nat) (e : Entry) : Bool :=
  let b := s.bgStart sh e.lane len
  decide (16 ≤ e.slot) && decide (e.slot + e.cost ≤ len) && (decide (e.slot + e.cost ≤ b) || decide (b + 48 ≤ e.slot))

/-- A failed line of R160: ERR, the register and low bit of the field, and the entries of LE_SCHERR. -/
structure SchedFail where
  err    : Nat
  addr   : Nat
  lo     : Nat
  isLane : Bool
  second : Nat
  first  : Nat
  deriving DecidableEq, Repr

/-- LE_SCHERR of a failure. -/
def SchedFail.word (f : SchedFail) : Word :=
  Machine.word (0x80000000 + 0x40000000 * b2n f.isLane + 65536 * (f.second % 512) + f.first % 512)

/-- Addresses at which LE_SENT0 and LE_SENT1 are reached (R78, R163). -/
def sent0Addr : Nat := 0x2024
def sent1Addr : Nat := 0x2028

/-- The lowest option bit set of an entry (R160). -/
def Entry.lowOption (e : Entry) : Option Nat :=
  if e.ff then some 25 else if e.droop then some 26 else if e.curb then some 27 else none

/-- The range line of R160: TMPL, the option bits, K, then PHASE. -/
def Entry.rangeFail (e : Entry) : Option SchedFail :=
  let f (addr lo : Nat) : Option SchedFail := some ⟨1, addr, lo, false, 0x1FF, e.i⟩
  if 5 < e.tmpl then f sent0Addr 28
  else match (if e.tmpl = 5 then e.lowOption else none) with
    | some b => f sent0Addr b
    | none =>
      if 12 < e.k then f sent0Addr 16 else if 2 ^ e.k ≤ e.phase then f sent1Addr 16 else none

/-- The state line of R160 for entry `e` against the schedule in effect. -/
def State.stateFail (s : State) (e : Entry) : Option SchedFail :=
  let f (addr lo : Nat) : Option SchedFail := some ⟨4, addr, lo, false, 0x1FF, e.i⟩
  if s.cState e.ctx < 2 then none
  else match (s.entries false).find? (fun x => x.ctx == e.ctx) with
    | none => f sent0Addr 0
    | some o =>
      if o.tmpl != e.tmpl then f sent0Addr 28
      else if o.curb != e.curb then f sent0Addr 27
      else if o.droop != e.droop then f sent0Addr 26
      else if o.ff != e.ff then f sent0Addr 25
      else if o.k != e.k then f sent0Addr 16
      else if o.phase != e.phase then f sent1Addr 16
      else none

/-- The lines of R160 for one entry that do not depend on the frame length. -/
def State.entryFixedFail (s : State) (es : List Entry) (e : Entry) : Option SchedFail :=
  e.rangeFail.orElse fun _ =>
    if s.boot.limits.contexts ≤ e.ctx then some ⟨6, sent0Addr, 0, false, 0x1FF, e.i⟩
    else if es.any (fun x => decide (x.i < e.i) && x.ctx == e.ctx) then some ⟨2, sent0Addr, 0, false, 0x1FF, e.i⟩
    else none

/-- The two budget lines of R160 for one entry. -/
def State.budgetFail (s : State) (sh : Bool) (len : Nat) (es : List Entry) (e : Entry) : Option SchedFail :=
  if !s.entryFits sh len e then some ⟨3, sent1Addr, 0, false, 0x1FF, e.i⟩
  else match es.find? (fun x => decide (x.i < e.i) && e.conflict x) with
    | some x => some ⟨3, sent1Addr, 0, false, x.i, e.i⟩
    | none => none

/-- The BGPOS line of R160 for the lanes in ascending order. -/
def State.bgFail (s : State) (sh : Bool) (len : Nat) : Option SchedFail :=
  ((List.range 16).find? (fun l =>
    let p := fieldOf (s.view sh (Reg.LE_LANE l)) 11 0
    p != 0 && !(decide (16 ≤ p) && decide (p ≤ len - 48)))).map
    (fun l => ⟨1, 0x2040 + 4 * l, 0, true, 0x1FF, l⟩)

/-- The final pass of R160: every ARMED or RUNNING context is still named. -/
def State.unnamedFail (s : State) (es : List Entry) : Option SchedFail :=
  ((List.range 256).find? (fun c => decide (2 ≤ s.cState c) && !es.any (fun e => e.ctx == c))).map
    (fun c => ⟨4, sent0Addr, 31, false, 0x1FF, (s.entryOf c).getD 0x1FF⟩)

/-- All checks of R160 on the shadow schedule at a frame of `len` cycles. -/
def State.schedFail (s : State) (len : Nat) : Option SchedFail :=
  let es := s.entries true
  (s.bgFail true len).orElse fun _ =>
    ((es.findSome? (fun e =>
      (s.entryFixedFail es e).orElse fun _ => (s.budgetFail true len es e).orElse fun _ => s.stateFail e))).orElse
      fun _ => s.unnamedFail es

/-- The fit check of a GAIT commit (R34): the lines that depend on the frame length, passing over entries that fail
another line. -/
def State.fitFail (s : State) (sh : Bool) (len : Nat) : Option SchedFail :=
  let all := s.entries sh
  let es := all.filter (fun e => (s.entryFixedFail all e).isNone && (s.stateFail e).isNone)
  (s.bgFail sh len).orElse fun _ => es.findSome? (fun e => s.budgetFail sh len es e)

/-- LE_SCHERR after a check (R160): written by a failure, VALID cleared by a pass. -/
def State.noteSched (s : State) (f : Option SchedFail) : State :=
  match f with
  | some f => s.wr Reg.LE_SCHERR f.word
  | none => s.setBit Reg.LE_SCHERR 31 false

/-! ## Load (R164) -/

/-- Cycles occupied on lane `l` in the frame with GFC `g`; all lanes for `none`. -/
def laneLoad (es : List Entry) (l : Option Nat) (g : Nat) : Nat :=
  (es.filter (fun e => e.due g && (match l with | some l => e.lane == l | none => true))).foldl (fun a e => a + e.cost) 0

/-- Largest occupied cycles in any frame. -/
def peakLoad (es : List Entry) (l : Option Nat) : Nat :=
  (List.range (2 ^ (es.foldl (fun m e => max m (min e.k 12)) 0))).foldl (fun m g => max m (laneLoad es l g)) 0

/-- LE_LOAD of a schedule (R164). -/
def loadWord (es : List Entry) : Word :=
  let b := (List.range 16).foldl (fun (b : Nat × Nat) l => let p := peakLoad es (some l)
    if b.2 < p then (l, p) else b) (0, 0)
  word (b.1 * 0x10000000 + b.2 % 4096 * 65536 + peakLoad es none % 65536)

/-- NENT and LE_LOAD follow the schedule in effect (R164). -/
def State.schedApplied (s : State) : State :=
  let es := s.entries false
  (s.put Reg.LE_STAT 8 0 es.length).wr Reg.LE_LOAD (loadWord es)

/-! ## LE_CHECK (R163, R164) -/

/-- A write of LE_CHECK with GO: the checks use the shadow schedule, the shadow frame length and the context states of this
moment. -/
def State.leCheckWrite (s : State) (v : Word) : State :=
  if bitOf v 31 && !s.bit Reg.LE_STAT 17 then
    let len := gaitCycles (s.sfldN Reg.TIM_GAIT 1 0)
    let f := s.schedFail len
    let c : SchedCheck := { err := (f.map (·.err)).getD 0, addr := 0, lo := 0, scherr := (f.map (·.word)).getD 0,
                            load := loadWord (s.entries true) }
    let s := { s with check := some c }
    ((s.setBit Reg.LE_STAT 17 true).setBit Reg.LE_CHECKSTAT 31 false).setBit Reg.LE_CHECKSTAT 30 false
  else s

/-- A shadow SCHED write during a check (R164). -/
def State.schedStale (s : State) : State := if s.bit Reg.LE_STAT 17 then s.setBit Reg.LE_CHECKSTAT 30 true else s

/-- LE_CHECK_DONE (R160, R164). -/
def execLeCheckDone (s : State) : Host.Outcome State Fault Refusal :=
  match s.check with
  | none => .next s
  | some c =>
    if !s.awake then .next s else
    let s := { s with check := none }
    let s := (s.setBit Reg.LE_STAT 17 false).put Reg.LE_CHECKSTAT 23 16 c.err
    let s := (s.setBit Reg.LE_CHECKSTAT 31 true).wr Reg.LE_CHECKLOAD c.load
    .next (if c.err = 0 then s.setBit Reg.LE_SCHERR 31 false else s.wr Reg.LE_SCHERR c.scherr)

/-! ## Lane tests (R138, R139) -/

/-- The vector of the background test in this gait frame (R138): the set of 256 rotates once in 256 gait frames; with which one it
begins is free. -/
def State.bgVector (s : State) : Nat := (Config.laneVector + s.gfcN) % 256

/-- Failing lane pairs, each with its vector, are reported and the engine halts (R138, R357). -/
def State.laneTestFail (s : State) (failing : List (Fin 16 × Nat)) : State :=
  failing.foldl (fun s x =>
    ((s.setBit Reg.LE_BGFAIL x.1 true).fault 5 x.1 x.2).setBit Reg.LE_STAT 31 true) s

/-- BACKGROUND_LANE_TEST (R138): the lane pairs whose vector failed. -/
def execBackgroundLaneTest (failing : BitVec 16) (s : State) : Host.Outcome State Fault Refusal :=
  if s.live && !s.bit Reg.LE_STAT 31 then
    .next (s.laneTestFail (((List.finRange 16).filter (fun (l : Fin 16) => failing.getLsbD l.val)).map (fun l => (l, s.bgVector))))
  else .next s

/-- Start the 768-vector test (R139). -/
def State.laneTestStart (s : State) : State :=
  (s.setBit Reg.LE_LSTEST 30 true).setBit Reg.LE_STAT 16 true

/-- A write of LE_LSTEST (R139, R165): DONE and REFUSED are cleared by ones, GO starts a test or is refused for lack of the
token. That refusal raises MAINT_BUSY, as R139 says, and does not count in SYS_TOKREF, since it is no token request (DEDUCED, log 124). -/
def State.lstestWrite (s : State) (v : Word) : State :=
  let s := s.wr Reg.LE_LSTEST (s.rd Reg.LE_LSTEST &&& ~~~(v &&& 0x30000000))
  if bitOf v 31 && !s.bit Reg.LE_LSTEST 30 then
    if s.tokOk [4, 5] then s.laneTestStart else (s.setBit Reg.LE_LSTEST 28 true).raise (E.MAINT_BUSY 0)
  else s

/-- LSTEST_DONE (R139): the test completes with the failing lane pairs and the vector of each; a token taken for it is released (R348). -/
def execLstestDone (failing : List (Fin 16 × Fin 768)) (s : State) : Host.Outcome State Fault Refusal :=
  if s.runs && s.bit Reg.LE_LSTEST 30 then
    let s := ((s.setBit Reg.LE_LSTEST 30 false).setBit Reg.LE_LSTEST 29 true).setBit Reg.LE_STAT 16 false
    let s := (s.put Reg.LE_LSTEST 15 0 (failing.foldl (fun m x => m ||| (1 <<< x.1.val)) 0)).raise (E.LSTEST_DONE 0)
    let s := s.laneTestFail (failing.map (fun x => (x.1, x.2.val)))
    .next (if s.tokHeld && s.tokMine && s.tokAct == 4 then s.tokFree else s)
  else .next s

end Sys2Proof.Machine
end

