-- ==== Sys2Proof/Machine/Records.lean ====
section
/-!
DEFINITION. The event recorder, its log and the saddlebag (chapter 14).
-/

namespace Sys2Proof.Machine

/-! ## CRC-32 (R62) -/

/-- One bit of the reflected CRC-32. -/
def crc32Bit (c : BitVec 32) : BitVec 32 := if c.getLsbD 0 then (c >>> 1) ^^^ 0xEDB88320 else c >>> 1

/-- CRC-32: polynomial 0x04C1_1DB7, reflected, initial and final XOR 0xFFFF_FFFF (R62). -/
def crc32 (bs : List Byte) : BitVec 32 :=
  ~~~(bs.foldl (fun c b => (List.range 8).foldl (fun c _ => crc32Bit c) (c ^^^ b.setWidth 32)) (BitVec.allOnes 32))

/-! ## Records as bytes (R385, R387) -/

/-- Cells of a record (R387). -/
def Rec.cells (r : Rec) : Nat := (24 + r.payload.length + 15) / 16

/-- The bytes of a stored record (R385). -/
def StoredRec.bytes (x : StoredRec) : List Byte :=
  let r := x.r
  leBytes 2 r.payload.length ++ leBytes 2 r.kind ++
    leBytes 1 (r.sev % 8 + 8 * b2n r.inj + 16 * b2n r.stamp.wv + 32 * b2n r.fwd) ++ leBytes 1 r.src ++
    leBytes 6 r.stamp.sec ++ leBytes 4 x.seq ++ leBytes 8 r.stamp.mono.toNat ++ r.payload

/-- The words of a byte list. -/
def bytesWords (bs : List Byte) : List Word :=
  (List.range ((bs.length + 3) / 4)).map (fun i => wordOfBytes ((bs.drop (4 * i)).take 4))

/-- `a` is `b` or after it in SEQ order (R388). -/
def seqFrom (b a : Nat) : Bool := decide ((a + 2 ^ 32 - b) % 2 ^ 32 ≤ 0x7FFFFFFF)

/-- Byte position by which the model names a record's words for the memory protection of the ring and of the log. -/
def seqAddr (seq : Nat) : Nat := seq * 1024

/-- Cells in use by stored records. -/
def cellsUsed (l : List StoredRec) : Nat := l.foldl (fun a x => a + x.r.cells) 0

/-- The rule of R390: the records left after a record of severity `sev` that needs `n` cells of `cap` has made its room,
and those evicted; `none` where it is dropped. -/
def makeRoom (cap sev n : Nat) (l : List StoredRec) : Option (List StoredRec × List StoredRec) :=
  let go := l.foldl (fun (acc : Nat × List StoredRec) x =>
    if n ≤ acc.1 || sev < x.r.sev then acc else (acc.1 + x.r.cells, acc.2 ++ [x])) (cap - cellsUsed l, [])
  if n ≤ go.1 then some (l.filter (fun x => !go.2.contains x), go.2) else none

/-! ## The ring (R388 to R390) -/

/-- A stored record is due for mirroring (R391). -/
def State.mirrorDue (s : State) (x : StoredRec) : Bool := !x.mir && decide (s.fld Reg.EVR_CFG 2 0 ≤ x.r.sev)

/-- EVR_RCNT, EVR_OLDEST, EVR_MIRSEQ and the unmirrored count follow the ring (R402). -/
def State.ringCount (s : State) : State :=
  let l := s.evr.ring
  let due := l.filter (fun x => s.mirrorDue x)
  let s := s.wrN Reg.EVR_RCNT (l.length % 65536 + 65536 * cellsUsed l)
  let s := s.wrN Reg.EVR_OLDEST ((l.head?.map (·.seq)).getD 0)
  let s := s.wrN Reg.EVR_MIRSEQ ((due.head?.map (·.seq)).getD (s.rdN Reg.EVR_SEQ))
  s.put Reg.EVR_STAT 15 0 (min due.length 65535)

/-- Order of the offers of one CK_SYS cycle (R388): FAULT, the other kinds, then EVENT by source. -/
def Rec.rank (r : Rec) : Nat := if r.kind = 2 then 0 else if r.kind = 1 then 2 + r.src else 1

/-- The first offer in the order of R388. -/
def nextOffer (l : List Rec) : Option Rec :=
  l.foldl (fun b r =>
    match b with
    | none => some r
    | some x =>
      let a := (r.stamp.mono.toNat / 2, r.rank)
      let c := (x.stamp.mono.toNat / 2, x.rank)
      if a.1 < c.1 || (a.1 = c.1 && a.2 < c.2) then some r else some x) none

/-- A START or firmware record is stamped as it enters the queue (R393). -/
def State.stampRec (s : State) (r : Rec) : Rec :=
  if r.kind = 9 || 0x100 ≤ r.kind then
    { r with stamp := s.stamp, payload := leBytes 4 s.time.wallNs ++ r.payload.drop 4 }
  else r

/-- RECORD_OFFER (R388): the next offered record enters the input queue; an EVENT record that finds it full is dropped and
any other waits. -/
def execRecordOffer (s : State) : Host.Outcome State Fault Refusal :=
  match nextOffer s.evr.offers with
  | none => .next s
  | some r =>
    if !s.awake then .next s else
    let s' := { s with evr := { s.evr with offers := s.evr.offers.erase r } }
    if s.evr.queue.length < 128 then
      .next { s' with evr := { s'.evr with queue := s'.evr.queue ++ [s.stampRec r] } }
    else if r.kind = 1 then .next ((s'.bump (Reg.EVR_DROP r.sev) 31 0 1).setBit Reg.EVR_STAT 31 true)
    else .next s

/-- The SEQ after `n` (R388): modulo 2^32, skipping 0. -/
def seqNext (n : Nat) : Nat := if (n + 1) % 2 ^ 32 = 0 then 1 else (n + 1) % 2 ^ 32

/-- Put a SEQ into a list in SEQ order. -/
def insertSeq (q : Nat) : List Nat → List Nat
  | [] => [q]
  | x :: r => if seqFrom q x then q :: x :: r else x :: insertSeq q r

/-- Evicted records that were due for mirroring are lost to the log (R392). -/
def State.noteGap (s : State) (gone : List StoredRec) : State :=
  let gap := (gone.filter (fun x => s.mirrorDue x)).foldl (fun g x => insertSeq x.seq g) s.evr.gap
  { s with evr := { s.evr with gap := gap } }

/-- A FAULT record gives its SEQ to the staged snapshots of its fault (R396). -/
def State.seqSnaps (s : State) (r : Rec) (seq : Nat) : State :=
  { s with sbg := s.sbg.map (fun x => match x.staged with
      | some p => if p.seq = 0 && r.snaps.contains (p.slot, p.stamp.mono) then { x with staged := some { p with seq := seq } } else x
      | none => x) }

/-- RECORD_STORE (R388 to R390). -/
def execRecordStore (s : State) : Host.Outcome State Fault Refusal :=
  match s.evr.queue with
  | [] => .next s
  | r :: rest =>
    if !s.awake then .next s else
    let s := { s with evr := { s.evr with queue := rest } }
    match makeRoom 32768 r.sev r.cells s.evr.ring with
    | none => .next (s.bump (Reg.EVR_DROP r.sev) 31 0 1)
    | some (keep, gone) =>
      let seq := s.rdN Reg.EVR_SEQ
      let s := s.noteGap gone
      let h := if seq = s.evr.high then (s.evr.high + 2 ^ 20) % 2 ^ 32 else s.evr.high
      let x : StoredRec := { r := r, seq := seq, mir := false }
      let s := { s with evr := { s.evr with ring := keep ++ [x], high := h } }
      let s := (s.wrN Reg.EVR_SEQ (seqNext seq)).bump Reg.EVR_WRCNT 31 0 1
      .next (((s.eccWrite 5 (seqAddr seq)).seqSnaps r seq).ringCount)

/-! ## Mirroring (R391, R392) -/

/-- Firmware serves: HST_STAT.FWOK (R415). -/
def State.fwOk (s : State) : Bool := s.bit Reg.HST_STAT 31

/-- EVR_LCNT and EVR_NVWEAR follow the log (R402). -/
def State.logCount (s : State) : State :=
  let l := s.evr.log
  s.wrN Reg.EVR_LCNT (min l.length 65535 + 65536 * ((cellsUsed l * 16 + 1023) / 1024))

/-- Store a record in the log under R390. -/
def State.logStore (s : State) (x : StoredRec) : State :=
  match makeRoom 65536 x.r.sev x.r.cells s.evr.log with
  | none => s.bump (Reg.EVR_LDROP x.r.sev) 31 0 1
  | some (keep, _) =>
    ({ s with evr := { s.evr with log := keep ++ [x], logWrites := s.evr.logWrites + x.r.cells } }.eccWrite 8
      (seqAddr x.seq)).logCount

/-- The next ring record due for mirroring. -/
def State.nextMirror (s : State) : Option StoredRec := s.evr.ring.find? (fun x => s.mirrorDue x)

/-- Mark a ring record mirrored. -/
def State.markMirrored (s : State) (x : StoredRec) : State :=
  { s with evr := { s.evr with ring := s.evr.ring.map (fun y => if y.seq = x.seq then { y with mir := true } else y) } }

/-- The lost records that come before the next one to be mirrored (R392): the GAP record that is due names them. -/
def State.gapRun (s : State) : List Nat :=
  s.evr.gap.takeWhile (fun q => match s.nextMirror with
    | none => true
    | some x => seqFrom q x.seq)

/-- LOG_MIRROR (R391, R392): firmware writes the GAP record that is due first, or copies the next due ring record. -/
def execLogMirror (s : State) : Host.Outcome State Fault Refusal :=
  if s.awake && s.fwOk && s.bit Reg.EVR_CFG 8 then
    match s.gapRun with
    | first :: more =>
      let n := more.length + 1
      let r : Rec := { kind := 0xA, sev := 3, inj := false, fwd := false, src := 0xFF, stamp := s.stamp,
                       payload := leBytes 4 s.time.wallNs ++ leBytes 4 first ++ leBytes 4 n }
      let s := { s with evr := { s.evr with gap := s.evr.gap.drop n } }
      .next ((s.logStore { r := r, seq := first, mir := true }).setBit Reg.EVR_STAT 29 true)
    | [] =>
      match s.nextMirror with
      | none => .next s
      | some x =>
        let a := seqAddr x.seq
        let bad := s.eccBad 5 a (a + 1024)
        let s := (s.eccRead 5 a (a + 1024)).markMirrored x
        if bad then .next ({ s with evr := { s.evr with gap := insertSeq x.seq s.evr.gap } }.ringCount)
        else .next ((s.logStore { x with mir := true }).ringCount)
  else .next s

/-! ## Reading records (R394) -/

/-- The copy of a banked register that requester `p` uses (R405). -/
def portIdx (p : Port) : Nat := match p with | .smbus => 0 | .spi => 1 | .fw => 2
def bankKey (p : Port) (a : Nat) : Nat := 0x30000 + 0x10000 * portIdx p + a

/-- The record selection of a requester. -/
def State.recSel (s : State) (p : Port) : RecSel :=
  vget s.evr.sel (portIdx p) { words := [], seq := 0, log := false, want := none }

def State.setRecSel (s : State) (p : Port) (x : RecSel) : State :=
  { s with evr := { s.evr with sel := vset s.evr.sel (portIdx p) x } }

/-- A write of EVR_RSEL starts a selection in the source that EVR_RCTL names. -/
def State.recSelect (s : State) (p : Port) (v : Word) : State :=
  let log := s.bit (bankKey p Reg.EVR_RCTL) 0
  (s.wr (bankKey p Reg.EVR_RSEL) v).setRecSel p { s.recSel p with want := some (v.toNat, log) }

/-- The selected record for `v`: of those that read correctly, the one at or next after it (R394). -/
def State.findRec (s : State) (l : List StoredRec) (region v : Nat) : Option StoredRec :=
  let ok := l.filter (fun x => seqFrom v x.seq && !s.eccBad region (seqAddr x.seq) (seqAddr x.seq + 1024))
  ok.foldl (fun b x =>
    match b with
    | none => some x
    | some y => if (x.seq + 2 ^ 32 - v) % 2 ^ 32 < (y.seq + 2 ^ 32 - v) % 2 ^ 32 then some x else some y) none

/-- The reads of a selection (R368, R394): the records from `v` up to the one found, all of them where none is found. -/
def State.recScan (s : State) (l : List StoredRec) (region v : Nat) (found : Option StoredRec) : State :=
  (l.filter (fun x => seqFrom v x.seq && match found with | some y => seqFrom x.seq y.seq | none => true)).foldl
    (fun s x => s.eccRead region (seqAddr x.seq) (seqAddr x.seq + 1024)) s

/-- RECORD_SELECT_DONE (R394): a log selection is not made while firmware is not serving. -/
def execRecordSelectDone (p : Port) (s : State) : Host.Outcome State Fault Refusal :=
  let r := s.recSel p
  match r.want with
  | none => .next s
  | some (v, log) =>
    if !s.awake || (log && !s.fwOk) then .next s
    else
      let l := if log then s.evr.log else s.evr.ring
      let region := if log then 8 else 5
      let x := s.findRec l region v
      let s := (s.recScan l region v x).wrN (bankKey p Reg.EVR_ROFS) 0
      .next (match x with
        | some x => s.setRecSel p { words := bytesWords x.bytes, seq := x.seq, log := log, want := none }
        | none => s.setRecSel p { words := [], seq := 0, log := log, want := none })

/-- EVR_RSTAT as a requester reads it (R402). -/
def State.recStat (s : State) (p : Port) : Word :=
  let r := s.recSel p
  let log := s.bit (bankKey p Reg.EVR_RCTL) 0
  let mir := !r.log && s.evr.ring.any (fun x => x.seq == r.seq && x.mir)
  word (2 ^ 31 * b2n (!r.words.isEmpty) + 2 ^ 30 * b2n r.want.isSome + 2 ^ 29 * b2n (mir && !r.words.isEmpty) +
    2 ^ 28 * b2n (log && !s.fwOk) + ((r.words.headD 0).toNat % 65536) % 1024)

/-- The selected record is still in its cells. -/
def State.recAlive (s : State) (r : RecSel) : Bool :=
  (if r.log then s.evr.log else s.evr.ring).any (fun x => x.seq == r.seq)

/-- A read of EVR_RDATA (R394). After an eviction the cells hold the old words, or a new record's as far as they have been
written, and the spec does not say which cells a new record takes: the word is a free value, but the SEQ word is never the evicted
record's. -/
def State.recRead (s : State) (p : Port) : Word × State :=
  let r := s.recSel p
  if r.want.isSome then (0, s)
  else
    let o := s.fld (bankKey p Reg.EVR_ROFS) 10 0
    let s' := s.wrN (bankKey p Reg.EVR_ROFS) ((o + 4) % 2048)
    match r.words[o / 4]? with
    | none => (0, s')
    | some w =>
      if s.recAlive r then (w, s')
      else
        let x := s'.takeWord
        (if o = 12 && x.1.toNat = r.seq then 0 else x.1, x.2)

/-- EVR_STAT as read (R402): mirroring is active while it is enabled and firmware serves (R24, R391). -/
def State.evrStat (s : State) : Word := setField (s.rd Reg.EVR_STAT) 30 30 (b2n (s.awake && s.fwOk && s.bit Reg.EVR_CFG 8))

/-! ## The saddlebag (R395 to R397, R403) -/

/-- Kind and payload length of a slot (R395, R396). -/
def slotKind (i : Nat) : Nat := if i < 32 then 1 else if i < 96 then 2 else if i = 96 then 3 else 4
def slotLen (i : Nat) : Nat := if i < 32 then 128 else if i < 96 then 48 else if i = 96 then 64 else 160

/-- GEN `a` is newer than `b`. -/
def genNewer (a b : Nat) : Bool := let d := (a + 2 ^ 32 - b) % 2 ^ 32
  d != 0 && decide (d ≤ 0x7FFFFFFF)

/-- Address by which the memory protection names copy `c` of slot `i`. -/
def copyAddr (i c : Nat) : Nat := 0x100000 + (2 * i + c) * 256

/-- A copy that reads without an uncorrectable error. -/
def State.sbgValid (s : State) (i c : Nat) (x : Option SbgCopy) : Option SbgCopy :=
  if s.eccBad 8 (copyAddr i c) (copyAddr i c + 256) then none else x

/-- The valid copy with the newer GEN (R397). -/
def State.sbgNewest (s : State) (i : Nat) : Option SbgCopy :=
  let x := s.slotOf i
  match s.sbgValid i 0 x.copyA, s.sbgValid i 1 x.copyB with
  | some a, some b => if genNewer b.gen a.gen then some b else some a
  | some a, none => some a
  | none, some b => some b
  | none, none => none

/-- The bytes of a copy (R396). -/
def snapBytes (p : Snap) (gen count : Nat) : List Byte :=
  let body := padBytes (slotLen p.slot) p.payload
  let h := leBytes 1 p.slot ++ leBytes 1 (slotKind p.slot) ++ leBytes 2 1 ++ leBytes 4 gen ++ leBytes 2 count ++
    leBytes 2 (slotLen p.slot) ++ leBytes 4 p.ponCnt.toNat ++ leBytes 4 p.seq ++ leBytes 6 p.stamp.sec ++
    leBytes 1 (b2n p.inj + 2 * b2n p.stamp.wv + 4 * b2n p.fwd) ++ leBytes 1 0
  h ++ leBytes 4 (crc32 (h ++ body)).toNat ++ body

/-- Write a staged snapshot to the copy with the older GEN (R397). -/
def State.sbgStore (s : State) (i : Nat) (p : Snap) : State :=
  let x := s.slotOf i
  let top := match x.copyA, x.copyB with
    | some a, some b => if genNewer b.gen a.gen then b.gen else a.gen
    | some a, none => a.gen
    | none, some b => b.gen
    | none, none => 0
  let gen := (top + 1) % 2 ^ 32
  let toB := match x.copyA, x.copyB with
    | some a, some b => genNewer a.gen b.gen
    | some _, none => true
    | none, _ => false
  let c : SbgCopy := { gen := gen, bytes := snapBytes p gen x.count }
  let x := { x with full := true, staged := none, last := some s.time.mono }
  let x := if toB then { x with copyB := some c } else { x with copyA := some c }
  ({ s with sbg := vset s.sbg i x }.eccWrite 8 (copyAddr i (b2n toB))).bump Reg.SBG_WRCNT 31 0 1

/-- Whether the snapshot staged for slot `i` may be written now (R397). -/
def State.sbgDue (s : State) (i : Nat) : Bool :=
  let x := s.slotOf i
  match x.staged with
  | none => false
  | some p => decide (96 ≤ i) || p.urgent || (match x.last with
      | none => true
      | some t => decide (800000000 ≤ (s.time.mono - t).toNat))

/-- SADDLEBAG_WRITE (R397): slot 96, slot 97, stages, then feeders. -/
def execSaddlebagWrite (s : State) : Host.Outcome State Fault Refusal :=
  match ([96, 97] ++ List.range 96).find? (fun i => s.sbgDue i) with
  | none => .next s
  | some i =>
    if s.unit.life = Life.off then .next s else
    match (s.slotOf i).staged with
    | some p => .next (s.sbgStore i p)
    | none => .next s

/-- SBG_SSTAT as requester `p` reads it (R403). -/
def State.sbgStat (s : State) (p : Port) : Word :=
  let i := s.fld (bankKey p Reg.SBG_SEL) 6 0
  let x := s.slotOf i
  let bad (c : Nat) (y : Option SbgCopy) := y.isSome && (s.sbgValid i c y).isNone
  if 98 ≤ i then 0
  else word (2 ^ 31 * b2n x.full + 2 ^ 30 * b2n (s.sbgNewest i).isSome + 2 ^ 29 * b2n x.staged.isSome +
    2 ^ 28 * b2n (x.bad || bad 0 x.copyA || bad 1 x.copyB) + x.count % 65536)

/-- A read of SBG_RDATA (R403): a word that no valid copy holds is a free value. -/
def State.sbgRead (s : State) (p : Port) : Word × State :=
  let i := s.fld (bankKey p Reg.SBG_SEL) 6 0
  let o := s.fld (bankKey p Reg.SBG_ROFS) 7 0
  let c := s.sbgNewest i
  let s := (s.wrN (bankKey p Reg.SBG_ROFS) ((o + 4) % 256)).eccRead 8 (copyAddr i 0) (copyAddr i 2)
  match c.bind (fun c => (bytesWords c.bytes)[o / 4]?) with
  | some w => (w, s)
  | none => s.takeWord

/-- Clear FULL and COUNT of a slot. -/
def State.sbgClear (s : State) (i : Nat) : State :=
  if i < 98 then { s with sbg := vset s.sbg i { s.slotOf i with full := false, count := 0 } } else s

/-- A write of SBG_ACK (R403). -/
def State.sbgAck (s : State) (p : Port) (v : Word) : State :=
  let s := if bitOf v 31 then s.sbgClear (s.fld (bankKey p Reg.SBG_SEL) 6 0) else s
  if bitOf v 30 then (List.range 98).foldl (fun s i => s.sbgClear i) s else s

/-- EVR_NVWEAR (R401, R402): the log's writes are spread evenly; a slot's go to its copies in turn. -/
def State.nvWear (s : State) : Word :=
  let log := (s.evr.logWrites + 65535) / 65536
  let sbg := s.sbg.toList.foldl (fun m x =>
    let g (c : Option SbgCopy) := (c.map (·.gen)).getD 0
    max m ((max (g x.copyA) (g x.copyB) + 1) / 2)) 0
  word (min (log / 16384) 65535 + 65536 * min (sbg / 16384) 65535)

/-- SBG_STAT (R397, R403): WRPEND shows a staged snapshot whose write may be made now. -/
def State.sbgSum (s : State) : Word :=
  word (2 ^ 31 * b2n ((List.range 98).any (fun i => s.sbgDue i)) +
    min (s.sbg.toList.filter (fun x => x.staged.isSome)).length 255)

/-! ## Lifetime counters (R400) -/

/-- FLT_LIFECON_FLUSH (R400): at most once in 60 s, when changed. -/
def execFltLifeconFlush (s : State) : Host.Outcome State Fault Refusal :=
  let v := s.rdN Reg.FLT_LIFECON
  let ok := match s.flt.lifeAt with
    | none => true
    | some t => decide (48000000000 ≤ (s.time.mono - t).toNat)
  if s.awake && v != s.flt.lifeNv && ok then
    .next { s with flt := { s.flt with lifeNv := v, lifeAt := some s.time.mono } }
  else .next s

end Sys2Proof.Machine
end

