-- ==== Sys2Proof/Machine/Faults.lean ====
section
/-!
DEFINITION. The fault collector, the event controller and the injection block (chapter 13).
-/

namespace Sys2Proof.Machine

/-! ## Messages and kinds (R355, R357) -/

/-- The 64-bit message (R355). -/
def FltMsg.bits (m : FltMsg) : Nat :=
  m.src % 1024 * 2 ^ 54 + m.kind % 64 * 2 ^ 48 + m.cls % 4 * 2 ^ 46 + m.sev % 8 * 2 ^ 43 + m.inst % 128 * 2 ^ 36 +
    m.addr % 2 ^ 32 * 16

/-- The kind index of a message (R357): KIND values 62 and 63 alone name ECC_COR and ECC_UNC. -/
def FltMsg.kindIdx (m : FltMsg) : Option Nat :=
  if m.kind = 62 then some 25 else if m.kind = 63 then some 26
  else (List.range 25).find? (fun k => fltKindWord k % 65536 == m.src * 64 + m.kind)

/-- Scope code and item of a message (R357, R359); 0xFF for none. A check of a comparator without a routing action names no scope,
whatever its class was raised to (R311, R358). -/
def FltMsg.scope (m : FltMsg) (k : Nat) : Nat × Nat :=
  match fltKindWord k / 16777216 with
  | 0xFF => (0xFF, 0)
  | 0xFE => if m.cls = 0 || m.addr / 2 ^ 24 % 16 = 0 then (0xFF, 0) else (m.addr / 2 ^ 24 % 16, m.inst)
  | 0 => (0, m.addr / 512 % 256)
  | c => (c, m.inst)

/-! ## The list (R361) -/

def State.fltAt (s : State) (i : Nat) : Option FltEntry := (s.flt.list[i]?).getD none

def State.fltPut (s : State) (i : Nat) (e : Option FltEntry) : State :=
  { s with flt := { s.flt with list := (List.range 64).map (fun j => if j = i then e else s.fltAt j) } }

/-- Places of the list that hold an entry with property `p`, oldest first. -/
def State.fltFind (s : State) (p : FltEntry → Bool) : List Nat :=
  let hits := (List.range 64).filter (fun i => match s.fltAt i with | some e => p e | none => false)
  let age (i : Nat) : Nat := match s.fltAt i with
    | some e => e.mono.toNat
    | none => 0
  hits.foldl (fun acc i => acc.takeWhile (fun j => decide (age j ≤ age i)) ++ [i] ++
    acc.dropWhile (fun j => decide (age j ≤ age i))) []

/-- The place a new entry takes: a free one, or else the oldest RELEASED one. -/
def State.fltPlace (s : State) : Option Nat :=
  match (List.range 64).find? (fun i => (s.fltAt i).isNone) with
  | some i => some i
  | none => (s.fltFind (fun e => e.st == 3)).head?

/-- An entry names the item and is not released. -/
def FltEntry.names (e : FltEntry) (scope item : Nat) : Bool := e.scope == scope && e.item == item && e.st != 3

/-- Non-fatal fault reaction runs in host-assisted mode (R257, R361). -/
def State.fltHosted (s : State) : Bool := s.bit (Reg.MB_MODE 4) 0 && (s.mbx 4).active && s.fwOk

/-! ## Safe states of scopes (R359) -/

/-- Stages with a phase on link `n`. -/
def State.linkStages (s : State) (n : Nat) : List Nat :=
  (List.range 32).filter (fun k => (s.phases k).any (fun i => !s.phLocal i && s.phWhere i == n))

/-- Valid feeders of link `n`. -/
def State.linkFeeders (s : State) (n : Nat) : List Nat :=
  (List.range 64).filter (fun f => s.fdrValid f && s.fdrLink f == n)

/-- Scope link (R120, R273, R359): a FORCE word to every channel, its stages SAFE with cause 6, its feeders TRIPPED
with cause 8; the decisions are forwarded (R345). -/
def State.linkSafe (s : State) (n : Nat) : State :=
  let s := s.sendReflex n 0 0xFF
  let s := (s.linkStages n).foldl (fun s k =>
    (s.stageFaultSafe k 6 false).forward (.decision (.stage k 6))) s
  (s.linkFeeders n).foldl (fun s f =>
    if s.fdrState f == 1 || s.fdrState f == 2 then (s.tripState f 8 false).forward (.decision (.feeder f 8)) else s) s

/-- The ROUTE action of a reaction entry (R380), as a safe state of the named item. -/
def State.fltRoute (s : State) (rxn : Word) (scope item : Nat) : State :=
  let tgt := fieldOf rxn 7 0
  match fieldOf rxn 25 24 with
  | 1 =>
    match scope with
    | 0 => s.stageFaultSafe (fieldOf (s.cw item 8) 20 16) 11 false
    | 1 => if s.phValid item then s.stageFaultSafe (s.phStage item) 11 false else s
    | 2 => s.stageFaultSafe item 11 false
    | 3 => (s.linkStages item).foldl (fun s k => s.stageFaultSafe k 11 false) s
    | _ => s
  | 2 => if tgt < 32 then s.stageFaultSafe tgt 11 false else s
  | 3 => if tgt < 64 then s.tripEdge tgt 9 false else s
  | _ => s

/-! ## Live restart (R24, R26, R79) -/

/-- Firmware stops serving (R79): mailboxes fall back to hardware mode, their open windows are cut (R257), and the core is reset (R43). -/
def State.startRestart (s : State) (planned : Bool) : State :=
  let s := { s with boot := { s.boot with lrStart := some s.time.mono, lrPlanned := planned } }
  let s := (List.range 7).foldl (fun s f => s.onMb f (fun m => { m with sub := none, dec := none, lost := m.open_ })) s
  ((s.setBit Reg.HST_STAT 31 false).bump Reg.BOOT_LRCNT 15 0 1).flushCrossing

/-- Scope unit (R26, R359): a live restart, and in pair mode the claim goes to zero. -/
def State.unitReaction (s : State) : State :=
  let s := if s.unit.pairMode then s.giveUp else s
  s.startRestart false

/-! ## The fatal reaction (R360, R398) -/

/-- The unit slot's payload (R398). -/
def State.unitSnapBytes (s : State) (msg : Nat) : List Byte :=
  leBytes 8 msg ++ leBytes 4 s.gfcN ++ leBytes 2 (s.fld Reg.PAIR_CLAIM 15 0) ++ leBytes 1 s.role ++
    leBytes 1 (s.fld Reg.PAIR_HEALTH 2 0) ++ leBytes 8 s.time.mono.toNat ++ leBytes 4 (s.rdN Reg.FLT_STAT) ++
    leBytes 4 (s.rdN Reg.LE_MISMATCH) ++ leBytes 4 (s.rdN Reg.LE_BGFAIL) ++ leBytes 4 (s.rdN Reg.TIM_CLKSTAT) ++
    leBytes 4 (s.rdN Reg.HK_TEMP) ++ leBytes 2 (code 16 (s.hkVal 1)) ++ leBytes 2 (code 16 (s.hkVal 2)) ++
    leBytes 4 (s.rdN Reg.SYS_STAT) ++ leBytes 4 (s.rdN Reg.BOOT_FWVER) ++ leBytes 4 (s.rdN Reg.BOOT_TKVER) ++ leBytes 4 0

/-- The stage snapshots that a thermal shutdown staged in this CK_CTL cycle record cause 8 beside another fatal fault (R324). -/
def State.recause (s : State) : State :=
  (List.range 32).foldl (fun s k =>
    match (s.slotOf k).staged with
    | some x =>
      if x.stamp.mono = s.time.mono && x.payload[1]? == some 9 then
        { s with sbg := vset s.sbg k { s.slotOf k with staged := some { x with payload := x.payload.set 1 8 } } }
      else s
    | none => s) s

/-- The stage and feeder snapshots of a fatal fault (R324, R360): one set in a CK_CTL cycle, whose stage snapshots have cause 9 for a thermal
shutdown alone. -/
def State.fatalSnaps (s : State) (thermal : Bool) : State :=
  if s.flt.fatalAt == some s.time.mono then (if thermal then s else s.recause)
  else
    let s := (List.range 32).foldl (fun s k =>
      if s.stState k != 0 && s.bit (Reg.ST_CFG k) 31 then s.stageSnap k (if thermal then 9 else 8) (s.stState k) 0xFF true false
      else s) s
    (List.range 64).foldl (fun s f =>
      if s.fdrState f == 1 || s.fdrState f == 2 then (s.fdrSnap f 10 true false) else s) s

/-- The fatal reaction (R360). `msg` is the message, `thermal` a thermal shutdown. -/
def State.fatalReaction (s : State) (msg : Nat) (thermal inj : Bool) : State :=
  let unitBytes := s.unitSnapBytes msg
  let force := !s.unit.pairMode || (!s.claimIn && !s.tdmUp)
  let s := (List.range 16).foldl (fun s n => s.forceLocal n) s
  let s := s.giveUp
  let s := if force then (List.range 16).foldl (fun s n => if s.linkUp n then s.sendReflex n 0 0xFF else s) s else s
  let s := (s.fatalSnaps thermal).takeSnap 96 unitBytes true inj false
  let s := { s with flt := { s.flt with fatalAt := some s.time.mono } }
  let s := (s.setBit Reg.LE_STAT 31 true).setBit Reg.FLT_STAT 31 true
  s.claimUpdate

/-! ## Classification (R356, R358, R361, R364) -/

/-- Value of a keyed count; 0 where none is listed. -/
def countOf (l : List (Nat × Nat)) (k : Nat) : Nat := ((l.find? (fun x => x.1 == k)).map (·.2)).getD 0
def setCountOf (l : List (Nat × Nat)) (k v : Nat) : List (Nat × Nat) := (k, v) :: l.filter (fun x => x.1 != k)

/-- The staged snapshots that belong to a message (R396), by slot and MONO: a fatal one has those of its reaction, taken at the
classification, or at the decision of a clock fault; a contained one those of its scope's item, taken at the detection. -/
def State.snapsOf (s : State) (m : FltMsg) (k : Nat) : List (Nat × BitVec 64) :=
  if m.cls = 2 then (List.range 98).map (fun i => (i, if k < 2 && !m.inj then m.mono else s.time.mono))
  else if m.cls = 1 then
    let (scope, item) := m.scope k
    let slots := match scope with
      | 1 => [s.phStage item]
      | 2 => [item]
      | 3 => s.linkStages item ++ (s.linkFeeders item).map (· + 32)
      | 4 => [item + 32]
      | _ => []
    slots.map (fun i => (i, m.mono))
  else []

/-- Write the FAULT record of a message (R364, R386, R393), with the number suppressed since the last one of its kind. -/
def State.fltRecord (s : State) (m : FltMsg) (k idx : Nat) : State :=
  let n := countOf s.flt.supp k
  let s := { s with flt := { s.flt with supp := setCountOf s.flt.supp k 0,
                                        recSec := setCountOf s.flt.recSec k (s.time.mono.toNat / 800000000) } }
  s.offer { kind := 2, sev := m.sev, inj := m.inj, fwd := m.fwd, src := k, stamp := s.stamp, snaps := s.snapsOf m k,
            payload := leBytes 4 s.time.wallNs ++ leBytes 4 s.gfcN ++ leBytes 8 m.bits ++ leBytes 4 n ++ leBytes 1 idx ++
              leBytes 3 0 }

/-- The record of a corrected message (R364): at most one per kind in each second. -/
def State.fltCorrected (s : State) (m : FltMsg) (k idx : Nat) : State :=
  if bitOf (s.rxn k) 26 then
    if s.flt.recSec.any (fun x => x.1 == k && x.2 == s.time.mono.toNat / 800000000) then
      { s with flt := { s.flt with supp := setCountOf s.flt.supp k (min (countOf s.flt.supp k + 1) 0xFFFFFFFF) } }
    else s.fltRecord m k idx
  else s

/-- Create the entry of a message (R361): one of keep off is DONE with that follow-up at once in hardware mode; answers its place, 0xFF where none is stored. -/
def State.fltEnter (s : State) (m : FltMsg) (k : Nat) : State × Nat :=
  match s.fltPlace with
  | none => ((s.setBit Reg.FLT_STAT 30 true).raise (E.FLT_OVERFLOW 0), 0xFF)
  | some i =>
    let rxn := s.rxn k
    let (scope, item) := m.scope k
    let follow := if fieldOf rxn 29 28 = 3 then 0 else fieldOf rxn 29 28
    let active := m.cls == 1 && decide (2 ≤ scope) && decide (scope ≤ 4) && (follow != 0 || s.fltHosted || m.fwd)
    let e : FltEntry := { msg := m, kidx := k, scope := scope, item := item, gfc := s.time.gfc, mono := s.time.mono,
                          st := if active then 1 else 2,
                          made := if active || !(m.cls == 1 && decide (2 ≤ scope) && decide (scope ≤ 4)) then 0 else 3,
                          byHost := false, retries := 0, follow := follow,
                          rdly := fieldOf rxn 19 8, rmax := fieldOf rxn 23 20 }
    (s.fltPut i (some e), i)

/-- FAULT_CLASSIFY: the collector classifies the message at the head of its queue (R356). The reaction to a clock fault was taken at
its decision (R360). -/
def execFaultClassify (s : State) : Host.Outcome State Fault Refusal :=
  match s.flt.inq with
  | [] => .next s
  | m :: rest =>
    if !s.awake then .next s else
    let s := { s with flt := { s.flt with inq := rest } }
    let m := if m.cls = 3 then { m with cls := 2 } else m
    match m.kindIdx with
    | none => .next s
    | some k =>
      let rxn := s.rxn k
      let s := ((s.wrN Reg.FLT_LAST_LO (m.bits % 2 ^ 32)).wrN Reg.FLT_LAST_HI (m.bits / 2 ^ 32)).wr Reg.FLT_LASTGFC
        s.time.gfc
      let s := s.bump (Reg.FLT_KCNT k) 15 0 1
      let asserts := m.cls != 0 || bitOf rxn 27
      let (s, idx) := if asserts then s.fltEnter m k else (s, 0xFF)
      let s := if asserts && !m.fwd then { s with flt := { s.flt with minRun := true } } else s
      if m.cls = 0 then
        .next (((s.bump Reg.FLT_CNTCOR 31 0 1).raiseWith (E.FLT_CORRECTED 0) [] m.inj m.fwd).fltCorrected m k idx)
      else
        let (scope, item) := m.scope k
        let s := s.fltRecord m k idx
        let s := (s.fltRoute rxn scope item).traceFreeze (m.cls == 2)
        if m.cls = 1 then
          let s := (s.bump Reg.FLT_CNTCON 31 0 1).bump Reg.FLT_LIFECON 31 0 1
          let s := s.raiseWith (E.FLT_CONTAINED 0) [] m.inj m.fwd
          .next (if scope = 7 && !m.fwd then s.unitReaction else s)
        else
          let s := (s.bump Reg.FLT_LIFEFAT 31 0 1).raiseWith (E.FLT_FATAL 0) [] m.inj m.fwd
          .next (if k < 2 && !m.inj then s else s.fatalReaction m.bits (k == 22) m.inj)

/-! ## Follow-up (R362) -/

/-- The item has an entry that requires keep off. -/
def State.keepOff (s : State) (scope item : Nat) : Bool :=
  (List.range 64).any (fun i => match s.fltAt i with
    | some e => e.names scope item && e.follow == 0
    | none => false)

/-- Retry count of an item. -/
def State.retriesOf (s : State) (scope item : Nat) : Nat :=
  ((s.flt.retries.find? (fun x => x.1 == scope && x.2.1 == item)).map (·.2.2)).getD 0

def State.setRetries (s : State) (scope item n : Nat) : State :=
  let rest := s.flt.retries.filter (fun x => !(x.1 == scope && x.2.1 == item))
  let rs := if n = 0 then rest else (scope, item, n) :: rest
  { s with flt := { s.flt with retries := rs } }

/-- A stage's follow-up: CLEAR is issued now, and START at the turnover after it for a retry (R362); each acts under R211. -/
def State.followStage (s : State) (k : Nat) (retry : Bool) : State :=
  let s := s.onSg k (fun g => { g with cmd := g.cmd ++ [3] })
  if retry then { s with flt := { s.flt with startDue := s.flt.startDue ++ [k] } } else s

/-- The follow-up of an item (R359): 1 retry, 2 clear. -/
def State.followItem (s : State) (scope item kind : Nat) : State :=
  match scope with
  | 2 => s.followStage item (kind == 1)
  | 4 => s.fdrFollow item kind
  | 3 =>
    let s := (s.linkStages item).foldl (fun s k =>
      if s.stState k == 3 && (s.phases k).any (fun i => s.phState i == 3 && s.fld (Reg.PT_STAT i) 29 26 == 6) then
        s.followStage k (kind == 1)
      else s) s
    (s.linkFeeders item).foldl (fun s f =>
      if s.fdrState f == 3 && s.fld (Reg.FDR_CTL f) 23 20 == 8 then s.fdrFollow f kind else s) s
  | _ => s

/-- Whether an item's follow-up may be made at this turnover (R362). -/
def State.followReady (s : State) (scope item : Nat) : Bool :=
  let act := (List.range 64).filterMap (fun i => (s.fltAt i).filter (fun e => e.names scope item && e.st == 1 && !e.msg.fwd))
  !act.isEmpty && act.all (fun e => decide (e.rdly * 800000 ≤ (s.time.mono - e.mono).toNat)) &&
    (scope != 3 || s.linkUp item) && !s.keepOff scope item

/-- Make the entries of an item DONE with the follow-up made. -/
def State.followDone (s : State) (scope item made retries : Nat) : State :=
  (List.range 64).foldl (fun s i => match s.fltAt i with
    | some e => if e.names scope item && e.st == 1 then
        s.fltPut i (some { e with st := 2, made := made, retries := retries, follow := if made = 3 then 0 else e.follow })
      else s
    | none => s) s

/-- FAULT_FOLLOW_UP (R362): the most restrictive follow-up of the item's ACTIVE entries; a retry beyond the smallest RMAX is
made as keep off. -/
def execFaultFollowUp (scope : Fin 8) (inst : Fin 128) (s : State) : Host.Outcome State Fault Refusal :=
  let c : Nat := scope
  let i : Nat := inst
  if s.live && decide (2 ≤ c) && decide (c ≤ 4) && s.followReady c i then
    let act := (List.range 64).filterMap (fun j => (s.fltAt j).filter (fun e => e.names c i && e.st == 1 && !e.msg.fwd))
    let kind : Nat := if act.any (fun e => e.follow == 2) then 2 else 1
    let n := s.retriesOf c i + 1
    if kind = 1 && act.any (fun e => decide (e.rmax < n)) then
      .next ((s.followDone c i 3 (n - 1)).raise (E.FLT_RETRY_LIMIT i))
    else
      let s := if kind = 1 then (s.setRetries c i n).raise (E.FLT_RETRY i) else s
      let s := s.followDone c i kind (s.retriesOf c i)
      .next ((s.followItem c i kind).forward (.decision (.follow c i kind)))
  else .next s

/-- RETRY_COUNT_CLEAR (R362): the item has been in its working state for 1 s without a new entry. -/
def execRetryCountClear (scope : Fin 8) (inst : Fin 128) (s : State) : Host.Outcome State Fault Refusal :=
  let c : Nat := scope
  let i : Nat := inst
  let works := match c with
    | 2 => s.stState (i % 32) == 2 && decide (i < 32)
    | 3 => s.linkUp i && decide (i < 16)
    | 4 => s.fdrState i == 2 && decide (i < 64)
    | _ => false
  let quiet := (List.range 64).all (fun j => match s.fltAt j with
    | some e => !(e.scope == c && e.item == i) || decide (800000000 ≤ (s.time.mono - e.mono).toNat)
    | none => true)
  if s.awake && works && quiet then .next (s.setRetries c i 0) else .next s

/-! ## Release and FAULT# (R366, R367) -/

/-- Release entry `i` if it is DONE; an ACTIVE one sets RELSKIP (R367). -/
def State.fltReleaseOne (s : State) (i : Nat) : State :=
  match s.fltAt i with
  | some e => if e.st = 2 then s.fltPut i (some { e with st := 3 })
              else if e.st = 1 then s.setBit Reg.FLT_STAT 29 true else s
  | none => s

/-- A write of FLT_RELEASE (R367). -/
def State.fltRelease (s : State) (v : Word) : State :=
  if bitOf v 31 then (List.range 64).foldl (fun s i => s.fltReleaseOne i) s
  else s.fltReleaseOne (fieldOf v 5 0)

/-- FAULT_MIN_TIME_END (R366): tFLT_MIN has passed since the last asserting classification. -/
def execFaultMinTimeEnd (s : State) : Host.Outcome State Fault Refusal :=
  if s.awake then .next { s with flt := { s.flt with minRun := false } } else .next s

/-- Whether source `n` is pending, enabled and routed by configuration bit `b` at priority `thr` or more (R372). -/
def State.evtRoutes (s : State) (b thr n : Nat) : Bool :=
  let w := s.rd (Reg.EVT_SRCCFG n)
  s.bit (Reg.EVT_PEND (n / 32)) (n % 32) && bitOf w 31 && bitOf w b && decide (thr ≤ fieldOf w 18 16)

/-- INT# is asserted (R372). -/
def State.intPin (s : State) : Bool := (List.range 256).any (fun n => s.evtRoutes 30 (s.fld Reg.EVT_CFG 2 0) n)

/-- ALERT# is asserted (R372, R418). -/
def State.alertPin (s : State) : Bool :=
  !s.bit Reg.HST_STAT 30 && (List.range 256).any (fun n => s.evtRoutes 29 (s.fld Reg.EVT_CFG 6 4) n)

/-- FAULT# is asserted (R366); a forwarded entry does not assert it (R365). -/
def State.faultPin (s : State) : Bool :=
  !s.bit Reg.SYS_STAT 0 || s.flt.minRun || s.bit Reg.FLT_STAT 30 || s.bit Reg.FLT_STAT 31 ||
    (List.range 64).any (fun i => match s.fltAt i with | some e => e.st != 3 && !e.msg.fwd | none => false) ||
    (List.range 256).any (fun n => s.evtRoutes 28 0 n)

/-- FLT_STAT as read (R379): FAULT#, and the entries not released and ACTIVE. -/
def State.fltStat (s : State) : Word :=
  let n (p : FltEntry → Bool) := (s.fltFind p).length
  setField (setField (setField (s.rd Reg.FLT_STAT) 28 28 (b2n s.faultPin)) 22 16 (n (fun e => e.st != 3))) 6 0
    (n (fun e => e.st == 1))

/-- FLT_ENT_LO, FLT_ENT_HI, FLT_ENTS and FLT_ENTGFC of entry `i` (R379, R380). -/
def State.fltEntry (s : State) (i w : Nat) : Word :=
  match s.fltAt i with
  | none => 0
  | some e =>
    match w with
    | 0 => word (e.msg.bits % 2 ^ 32)
    | 1 => word (e.msg.bits / 2 ^ 32)
    | 2 => word (e.st * 2 ^ 30 + b2n e.msg.inj * 2 ^ 29 + b2n e.msg.fwd * 2 ^ 28 + e.made % 4 * 2 ^ 26 +
             b2n e.byHost * 2 ^ 24 + min (s.retriesOf e.scope e.item) 15 * 2 ^ 20)
    | _ => e.gfc

/-! ## Events (R372) -/

/-- EVT_TOP (R372): the enabled pending source of highest PRIO, the lower number on a tie. -/
def State.evtTop (s : State) : Word :=
  let b := (List.range 256).foldl (fun (b : Option (Nat × Nat)) n =>
    if s.bit (Reg.EVT_PEND (n / 32)) (n % 32) && s.bit (Reg.EVT_SRCCFG n) 31 then
      let p := s.fld (Reg.EVT_SRCCFG n) 18 16
      match b with
      | none => some (p, n)
      | some x => if x.1 < p then some (p, n) else b
    else b) none
  match b with
  | some (p, n) => word (2 ^ 31 + p * 65536 + n)
  | none => 0

/-- EVENT_RAISE: the event controller takes the oldest pulse of a source (R372). -/
def execEventRaise (src : Fin 256) (s : State) : Host.Outcome State Fault Refusal :=
  let n : Nat := src
  match s.evq.find? (fun p => p.ev.src == n) with
  | none => .next s
  | some p =>
    if !s.awake then .next s else
    let s := { s with evq := s.evq.erase p }
    let w := s.rd (Reg.EVT_SRCCFG n)
    let s := (s.setBit (Reg.EVT_PEND (n / 32)) (n % 32) true).bump (Reg.EVT_SRCCNT n) 15 0 1
    let s := s.wrN (Reg.EVT_SRCLAST n) (256 * n % 65536 + p.ev.k % 256 + p.ev.inst % 256 * 65536)
    let s := if bitOf w 26 then
        s.offer { kind := 1, sev := fieldOf w 22 20, inj := p.inj, fwd := p.fwd, src := n, stamp := p.stamp,
                  payload := leBytes 4 p.stamp.ns ++ leBytes 2 (256 * n + p.ev.k) ++ leBytes 1 p.ev.inst ++ leBytes 1 0 ++
                    p.detail }
      else s
    let s := if s.evtRoutes 29 (s.fld Reg.EVT_CFG 6 4) n then s.setBit Reg.HST_STAT 30 false else s
    .next (s.traceSee 6 n)

/-! ## Injection (R374 to R378, R383, R384) -/

/-- REFCODE of INJ_STAT. -/
def State.injRefuse (s : State) (c : Nat) : State := s.put Reg.INJ_STAT 7 0 c

/-- A write of INJ_KEY (R374). -/
def State.injKeyWrite (s : State) (v : Word) : State :=
  let k := fieldOf v 15 0
  let soon := match s.flt.injKey with
    | some t => decide ((s.time.mono - t).toNat ≤ 800000)
    | none => false
  let first := { s with flt := { s.flt with injKey := if k = 0x494E then some s.time.mono else none } }
  if k = 0x4A21 && soon then
    if s.tokOk [5] then ((first.setBit Reg.INJ_STAT 31 true).injRefuse 0).raise (E.INJ_UNLOCKED 0) else first.injRefuse 4
  else first

/-- A write of INJ_LCTL (R375, R384). -/
def State.injLctl (s : State) (v : Word) : State :=
  let s := s.wr Reg.INJ_LCTL (v &&& 0x00FFFFFF)
  if bitOf v 31 then
    let n := fieldOf v 3 0
    let op := fieldOf v 7 5
    if 5 ≤ op then s.injRefuse 5
    else if s.linj.isSome then s.injRefuse 3
    else if !s.linkUp n then s.injRefuse 6
    else
      let num := max 1 (fieldOf v 15 8)
      let left := match op with
        | 3 => 2
        | 4 => s.fld Reg.INJ_LDUR 15 0
        | _ => num
      let x : LinkInj := { link := n, up := bitOf v 4, op := op, n := num, left := left, start := fieldOf v 23 16,
                           open_ := false, kept := [] }
      ((({ s with linj := some x }.injRefuse 0).setBit Reg.INJ_STAT 30 true).wrN Reg.INJ_LCNT 0).injected
  else s

/-- A write of INJ_ECTL (R376, R384). -/
def State.injEctl (s : State) (v : Word) : State :=
  let s := s.wr Reg.INJ_ECTL (v &&& 0x0F80FFFF)
  if bitOf v 31 then
    if 9 ≤ fieldOf v 27 24 || 136 < fieldOf v 7 0 || (bitOf v 23 && 136 < fieldOf v 15 8) then s.injRefuse 5
    else (s.setBit Reg.INJ_STAT 29 true).injRefuse 0
  else s

/-- A write of INJ_LANE (R377). -/
def State.injLane (s : State) (v : Word) : State :=
  let s := s.wr Reg.INJ_LANE (v &&& 0xFF)
  if bitOf v 31 then (s.setBit Reg.INJ_STAT 28 true).injRefuse 0 else s

/-- The message in INJ_FM_LO and INJ_FM_HI (R355, R378). -/
def State.injMessage (s : State) : FltMsg :=
  let x := s.rdN Reg.INJ_FM_LO + 2 ^ 32 * s.rdN Reg.INJ_FM_HI
  { src := x / 2 ^ 54 % 1024, kind := x / 2 ^ 48 % 64, cls := x / 2 ^ 46 % 4, sev := x / 2 ^ 43 % 8,
    inst := x / 2 ^ 36 % 128, addr := x / 16 % 2 ^ 32, mono := s.time.mono, inj := true, fwd := false }

/-- The instance of a message exists (R378). -/
def State.injInstOk (s : State) (m : FltMsg) (k : Nat) : Bool :=
  let item (c i : Nat) : Bool := match c with
    | 0 => decide (i < 256)
    | 1 => decide (i < 128) && s.phValid i
    | 2 => decide (i < 32)
    | 3 => decide (i < 16)
    | 4 => decide (i < 64) && s.fdrValid i
    | 7 => true
    | _ => false
  match k with
  | 3 | 4 | 5 => decide (m.inst < 16)
  | 13 | 14 => decide (m.inst < 17)
  | 17 => item (m.scope k).1 m.inst
  | 18 => m.cls == 0 || item (m.scope k).1 m.inst
  | 20 | 21 => decide (m.inst < 24)
  | _ => let x := m.scope k
         x.1 == 0xFF || item x.1 x.2

/-- The safe state of the scope that an injected contained message names (R359, R378). -/
def State.injSafe (s : State) (m : FltMsg) (k : Nat) : State :=
  let (scope, i) := m.scope k
  match scope with
  | 0 => s.onCx i (fun c => { c with ecc := true })
  | 1 => s.phaseForce i
  | 2 => s.stageFaultSafe i 11 false
  | 3 => s.linkSafe i
  | 4 =>
    let t := s.tripReflex i 3 false
    { t with flt := { t.flt with inq := s.flt.inq } }
  | _ => s

/-- A write of INJ_FMGO (R378). -/
def State.injFmgo (s : State) (v : Word) : State :=
  if bitOf v 31 then
    let m := s.injMessage
    match m.kindIdx with
    | none => s.injRefuse 5
    | some k =>
      if s.injInstOk m k then
        let s := (s.injRefuse 0).injected
        let s := if m.cls = 1 then s.injSafe m k else s
        s.sendFault m
      else s.injRefuse 5
  else s

/-- A write of an INJ register other than INJ_KEY (R374, R383): ignored while the block is locked. -/
def State.injWrite (s : State) (a : Nat) (v : Word) : State :=
  let s := { s with flt := { s.flt with injKey := none } }
  if !s.bit Reg.INJ_STAT 31 then s
  else if a = Reg.INJ_LOCK then (if bitOf v 31 then s.injLock else s)
  else if a = Reg.INJ_LCTL then s.injLctl v
  else if a = Reg.INJ_ECTL then s.injEctl v
  else if a = Reg.INJ_LANE then s.injLane v
  else if a = Reg.INJ_FMGO then s.injFmgo v
  else if a = Reg.INJ_LDUR then s.wr a (v &&& 0xFFFF)
  else if a = Reg.INJ_CNT then (if fieldOf v 15 0 = 0 then s.wr a 0 else s)
  else if (0xB18 ≤ a && a < 0xB2C) || a = Reg.INJ_FM_LO || a = Reg.INJ_FM_HI then s.wr a v
  else s

/-- INJ_IDLE_LOCK (R374): 10 minutes without an injection. -/
def execInjIdleLock (s : State) : Host.Outcome State Fault Refusal :=
  if s.awake && s.bit Reg.INJ_STAT 31 then .next s.injLock else .next s

end Sys2Proof.Machine
end

