-- ==== Sys2Proof/Machine/Shelf.lean ====
section
/-!
DEFINITION. The shelf functions (chapter 08): sharing, hold-up, strings, capping, phase management, power-good and the
mailboxes, as evaluated in step 4 of a turnover (R231), and the commands of their counts.
-/

namespace Sys2Proof.Machine

/-! ## Shared parts (R231, R232, R253) -/

/-- Whether this turnover is a period start of function `f` (R231, R253). -/
def State.periodStart (s : State) (f : Nat) : Bool :=
  let pk := s.fld (Reg.MB_MODE f) 12 8
  s.gfcN % 2 ^ (if pk < 10 then 10 else if 22 < pk then 22 else pk) == 0

/-- The window of channel `e` with M = SHF_CFG.PM (R232). -/
def State.winS (s : State) (e : Nat) : Int := (s.winM (e % 512) (s.fld Reg.SHF_CFG 6 4)).v

/-- Output `i` of R233. -/
def State.shOut (s : State) (i : Nat) : Int := vget s.shf.out i 0
def State.setOut (s : State) (i : Nat) (v : Int) : State := { s with shf := { s.shf with out := vset s.shf.out i v } }

/-- HUSTATE (R259): 0 NORMAL, 1 DISCHARGE, 2 RECOVER. -/
def State.huState (s : State) : Nat := s.fld Reg.SHF_STAT 1 0
def State.shaving (s : State) : Bool := s.bit Reg.SHF_STAT 3
def State.huLow (s : State) : Bool := s.bit Reg.SHF_STAT 6

/-- The decision of function `f` in effect (R256). -/
def State.decision (s : State) (f : Nat) : Option (List Word) := (s.mbx f).dec

/-- Word `i` of a decision. -/
def decWord (d : List Word) (i : Nat) : Word := d.getD i 0

/-- A decision field was replaced by the hardware result (R256). -/
def State.clamped (s : State) (f : Nat) (b : Bool) : State := if b then s.setBit (Reg.MB_DSTAT f) 31 true else s

/-! ## Line 1: power sums (R232) -/

/-- The contribution of pair `i` and its flags. -/
def State.pairPower (s : State) (i : Nat) : Fl :=
  let w := s.rd (Reg.SHF_PPAIR i)
  let (a, f) := mac 0 (s.winS (fieldOf w 8 0)) (s.winS (fieldOf w 17 9)) 0
  let (a, f) := shlA a (s.fld Reg.SHF_CFG 11 8) f
  st16 a f

/-- One power sum, of the input pairs or of the output pairs. -/
def State.powerSum (s : State) (out : Bool) : Fl :=
  let ps := (List.range 8).filter (fun i => s.bit (Reg.SHF_PPAIR i) 31 && s.bit (Reg.SHF_PPAIR i) 30 == out)
  let (t, f) := ps.foldl (fun (acc : Fl) i => let x := s.pairPower i
    (acc.1 + x.1, acc.2 ||| x.2)) (0, 0)
  sat16 t f

def State.lnPower (s : State) : State :=
  let i := s.powerSum false
  let o := s.powerSum true
  let s := (s.wrN Reg.SHF_PWR (code 16 i.1 + 65536 * code 16 o.1)).setBit Reg.SHF_STAT 5 (i.2 ||| o.2 != 0)
  (((s.setOut 24 i.1).setOut 25 (s.fld Reg.PS_CAP 15 0)).setOut 26 o.1)

/-- P_in and P_out of this turnover. -/
def State.pIn (s : State) : Int := s.shOut 24
def State.pOut (s : State) : Int := s.shOut 26

/-! ## Modules (R234 to R236) -/

def State.modI (s : State) (m : Nat) : Int := s.winS (s.fld (Reg.SHM_CH m) 8 0)
def State.modT (s : State) (m : Nat) : Int := s.winS (s.fld (Reg.SHM_CH m) 26 18)
def State.modStages (s : State) (m : Nat) : List Nat :=
  (List.range 32).filter (fun k => s.bit (Reg.ST_CFG k) 31 && s.fld (Reg.ST_CFG k) 27 24 == m)
def State.modOnline (s : State) (m : Nat) : Bool :=
  s.bit (Reg.SHM_CFG m) 16 && (s.modStages m).any (fun k => s.stState k == 2)
def State.modShed (s : State) (m : Nat) : Bool := s.bit Reg.SH_ONLINE (16 + m)
def State.inFailed (s : State) (m : Nat) : Bool := s.bit Reg.SH_INFAIL m
def State.rating (s : State) (m : Nat) : Int := s.fld (Reg.SHM_CFG m) 15 0
def State.iTot (s : State) : Int := ((List.range 16).filter (fun m => s.modOnline m)).foldl (fun a m => a + s.modI m) 0

/-- Entry `i` of a table of halfword pairs whose first register is `a` (SH_KT, SH_KE). -/
def State.tab16 (s : State) (a i : Nat) : Int := s.fld (a + 4 * (i / 2)) (16 * (i % 2) + 15) (16 * (i % 2))

/-- The weight of module `m` (R235). -/
def State.modWeight (s : State) (m : Nat) : Int :=
  if !s.modOnline m || s.modShed m || s.inFailed m then 0
  else match s.fld Reg.SHF_CFG 1 0 with
    | 0 => 32767
    | 2 =>
      let ti := (clampI 0 7 (asr (s.modT m - s.fld Reg.SH_PAR 31 16) (s.fld Reg.SH_PAR 11 8))).toNat
      let r := s.rating m
      let li := if r = 0 then 7 else (clampI 0 7 (8 * max (s.modI m) 0 / r)).toNat
      cdiv (cdiv (r * s.tab16 (Reg.SH_KT 0) ti) 32768 * s.tab16 (Reg.SH_KE 0) li) 32768
    | _ => s.rating m

/-- The hardware result for the module targets (R235), which is computed under a decision too (R21). -/
def State.hwTargets (s : State) : State :=
  let ws := (List.range 16).map (fun m => s.modWeight m)
  let w := ws.foldl (· + ·) 0
  let i := s.iTot
  { s with shf := { s.shf with
      hw := Vector.ofFn (fun m : Fin 16 => if 0 < w then satI 16 (cdiv (i * ws.getD m.val 0) w) else 0), redo := false } }

/-- The module targets in effect (R233, R254, R256): those of a sharing decision, or else the hardware result. -/
def State.shareTargets (s : State) : State :=
  (List.range 16).foldl (fun s m =>
    s.setOut m (match s.decision 0 with
      | some d => if s.huState == 1 && s.inFailed m then 0 else signed 16 (fieldOf (decWord d m) 15 0)
      | none => vget s.shf.hw m 0)) s

/-- Outputs `lo` to `hi` are latched again for a gait frame that has just begun: the command stands for a part of its turnover (R152). -/
def State.relatch (s : State) (lo hi : Nat) : State :=
  if s.now = s.gaitStart then
    { s with shf := { s.shf with
        lat := (List.range 28).foldl (fun l i => if lo ≤ i ∧ i ≤ hi then vset l i (s.shOut i) else l) s.shf.lat } }
  else s

/-- A stage command issued by a shelf function acts at the next turnover (R231). -/
def State.issue (s : State) (op : Nat) (ks : List Nat) : State :=
  ks.foldl (fun s k => s.onSg k (fun g => { g with cmd := g.cmd ++ [op] })) s

/-- Shed module `m` (R236). -/
def State.shedModule (s : State) (m : Nat) : State :=
  let s := (s.setBit Reg.SH_ONLINE (16 + m) true).issue 2 (s.modStages m)
  { s.raise (E.MODULE_SHED m) with shf := { s.shf with redo := true, shedN := 0 } }

/-- Shed module `m` may rejoin: one with a stage in SAFE stays shed until software clears the stage (R236). -/
def State.mayRejoin (s : State) (m : Nat) : Bool := s.modShed m && !(s.modStages m).any (fun k => s.stState k == 3)

/-- Module `m` rejoins (R236). -/
def State.addModule (s : State) (m : Nat) : State :=
  let s := (s.setBit Reg.SH_ONLINE (16 + m) false).issue 1 (s.modStages m)
  { s.raise (E.MODULE_ADDED m) with shf := { s.shf with redo := true } }

/-- The module that would be shed (R236). -/
def State.shedTarget (s : State) : Option Nat :=
  ((List.range 16).filter (fun m => s.modOnline m && !s.modShed m && s.bit (Reg.SHM_CFG m) 17)).getLast?

/-- The sum C of R236. -/
def State.shedCap (s : State) : Int :=
  ((List.range 16).filter (fun m => s.modOnline m && !s.modShed m)).foldl (fun a m => a + s.rating m) 0

/-- Shedding is inactive (R236). -/
def State.shedOff (s : State) : Bool :=
  decide (s.fld Reg.SH_SHED 31 16 ≤ s.fld Reg.SH_SHED 15 0) || s.huState != 0 || s.shaving || s.capLevel != 0 ||
    s.rdN Reg.PHS_CAPREQ != 0

/-- The shed condition of R236 for module `x`. -/
def State.shedLow (s : State) (x : Nat) : Bool :=
  decide (s.iTot < cdiv ((s.fld Reg.SH_SHED 15 0 : Int) * (s.shedCap - s.rating x)) 32768)

/-- Line 4: a sharing decision's shed mask, or shedding and adding at a period start, then the targets (R235, R236). -/
def State.lnShare (s : State) (fresh : Bool) : State :=
  let start := s.periodStart 0
  let s := (List.range 16).foldl (fun s m => s.setBit Reg.SH_ONLINE m (s.modOnline m)) s
  let s : State := match s.decision 0 with
    | some d =>
      let s := { s with shf := { s.shf with shedN := 0 } }
      if fresh then (List.range 16).foldl (fun s m =>
        let want := bitOf (decWord d 16) m
        if want && !s.modShed m then s.shedModule m else if !want && s.mayRejoin m then s.addModule m else s) s
      else s
    | none =>
      if !start then (if s.shedOff then { s with shf := { s.shf with shedN := 0 } } else s)
      else
        let n := match s.shedTarget with
          | some x => if !s.shedOff && s.shedLow x then min (s.shf.shedN + 1) 255 else 0
          | none => 0
        let s := { s with shf := { s.shf with shedN := n } }
        match (List.range 16).find? (fun m => s.mayRejoin m) with
        | some m =>
          if n = 0 && decide (cdiv ((s.fld Reg.SH_SHED 31 16 : Int) * s.shedCap) 32768 < s.iTot) then s.addModule m else s
        | none => s
  (if start || s.shf.redo then s.hwTargets else s).shareTargets

/-- MODULE_SHED (R236): the condition has held at SHEDT consecutive period starts. The targets are computed again in the turnover that
sheds the module (R235). -/
def execModuleShed (s : State) : Host.Outcome State Fault Refusal :=
  if s.live && !s.shedOff && (s.decision 0).isNone && decide (max 1 (s.fld Reg.SH_PAR 7 0) ≤ s.shf.shedN) then
    match s.shedTarget with
    | some x => .next ((s.shedModule x).hwTargets.shareTargets.relatch 0 15)
    | none => .next s
  else .next s

/-! ## Strings (R237, R238, R241 to R243) -/

def State.strEn (s : State) (b : Nat) : Bool := s.bit (Reg.BS_CH b) 31
def State.strMode (s : State) (b : Nat) : Nat := s.fld (Reg.BS_STAT b) 2 0
def State.setStrMode (s : State) (b m : Nat) : State := s.put (Reg.BS_STAT b) 2 0 m
def State.strV (s : State) (b : Nat) : Int := s.winS (s.fld (Reg.BS_CH b) 8 0)
def State.strI (s : State) (b : Nat) : Int := s.winS (s.fld (Reg.BS_CH b) 17 9)
def State.strT (s : State) (b : Nat) : Int :=
  let e := s.fld (Reg.BS_CH b) 26 18
  [1, 2, 3].foldl (fun m i => max m (s.winS (e + i))) (s.winS e)
def State.strE (s : State) (b : Nat) : Int := s.rdN (Reg.BS_E b)

/-- A string is eligible: enabled and neither disconnected nor in EOD (R241). A string that has not been connected since the
reset is off. -/
def State.eligible (s : State) (b : Nat) : Bool :=
  s.strEn b && !(s.str b).disc && decide (1 ≤ s.strMode b) && decide (s.strMode b ≤ 4)
def State.eligibles (s : State) : List Nat := (List.range 8).filter (fun b => s.eligible b)

/-- Send the contactor commands of string `b` that wait, when its link is UP (R238). -/
def State.strFlush (s : State) (b : Nat) : State :=
  let n := s.fld (Reg.BS_LOC b) 3 0
  if s.linkUp n then
    let s := (s.str b).want.foldl (fun s x => s.addEdge n { ch := x.1, ev := x.2, at_ := s.frameWindow n (s.frameNo + 1) }) s
    s.onStr b (fun t => { t with want := [] })
  else s

/-- Command a contactor of string `b` (R238): the main one, or the precharge one. -/
def State.contactor (s : State) (b : Nat) (pre : Bool) (ev : Nat) : State :=
  let hs := s.fld (Reg.BS_LOC b) 4 4
  (s.onStr b (fun t => { t with want := t.want ++ [(hs + (if pre then 2 else 0), ev)] })).strFlush b

/-- Charging is allowed (R242): NORMAL, RDELAY passed, and no input-power excess. -/
def State.chargeOk (s : State) : Bool :=
  s.huState == 0 && decide (1024 * s.fld Reg.HU_REC 31 16 ≤ s.shf.normN) &&
    !(s.bit Reg.SHF_CFG 12 && decide ((s.fld Reg.PS_CAP 15 0 : Int) < s.pIn))

/-- The temperature-compensated voltage of R242 from its value at 25 degrees. -/
def State.tempV (s : State) (b : Nat) (v25 : Int) : Int :=
  v25 + cdiv (s.sfld Reg.BT_CV0 31 16 * (s.strT b - s.fld Reg.BT_CV1 15 0)) 32768

/-- The charge current of string `b` (R242). -/
def State.chargeI (s : State) (b : Nat) : Int :=
  let icc : Int := s.fld Reg.BT_CC 15 0
  let law (v : Int) := clampI 0 icc (cdiv ((s.fld Reg.BT_CV1 31 16 : Int) * (v - s.strV b)) 4096)
  if !s.chargeOk then 0
  else match s.strMode b with
    | 1 => icc
    | 2 => law (s.tempV b (s.fld Reg.BT_CV0 15 0))
    | 3 => law (s.tempV b (s.fld Reg.BT_FLT 15 0))
    | _ => 0

/-- Line 3: charge modes (R242). -/
def State.lnCharge (s : State) : State :=
  (List.range 8).foldl (fun s b =>
    if s.strEn b && s.chargeOk then
      match s.strMode b with
      | 1 => if s.tempV b (s.fld Reg.BT_CV0 15 0) ≤ s.strV b then (s.setStrMode b 2).onStr b (fun t => { t with term := 0 }) else s
      | 2 => s.onStr b (fun t => { t with term := if s.chargeI b < (s.fld Reg.BT_CC 31 16 : Int) then t.term + 1 else 0 })
      | _ => s
    else s.onStr b (fun t => { t with term := 0 })) s

/-- CV_TO_FLOAT (R242). -/
def execCvToFloat (b : Fin 8) (s : State) : Host.Outcome State Fault Refusal :=
  if s.live && s.strMode b == 2 && decide (1 ≤ (s.str b).term) && decide (1024 * s.fld Reg.BT_TERM 15 0 ≤ (s.str b).term) then
    .next ((s.setStrMode b 3).onStr b (fun t => { t with term := 0 }))
  else .next s

/-- Shares of the demand `q` (R241): by energy, or in the decided order with the decided limits. -/
def State.shares (s : State) (q : Int) : List (Nat × Int) × Bool :=
  let es := s.eligibles
  let idis : Int := s.fld Reg.BT_LIM 15 0
  match s.decision 1 with
  | some d =>
    let order := ((List.range 8).map (fun p => fieldOf (decWord d 0) (3 * p + 2) (3 * p))).eraseDups.filter (fun b => es.contains b)
    let r := order.foldl (fun (acc : Int × List (Nat × Int) × Bool) b =>
      let lim : Int := (decWord d (1 + b)).toNat
      let x := min acc.1 (min lim idis)
      (acc.1 - x, acc.2.1 ++ [(b, x)], acc.2.2 || decide (idis < lim))) (q, [], false)
    (r.2.1, r.2.2)
  | none =>
    let e := es.foldl (fun a b => a + s.strE b) 0
    (es.map (fun b => (b, min (if e = 0 then cdiv q es.length else cdiv (q * s.strE b) e) idis)), false)

/-- Line 5: string targets (R241 to R243). -/
def State.lnStrings (s : State) (h : Int) : State :=
  let v := if s.shaving then s.bankOut (s.fld Reg.HU_CFG 15 8) else 0
  let q := max h v
  let q := if s.huState = 2 then min q s.shf.qcap else q
  let s := { s with shf := { s.shf with q := q } }
  let had := s.eligibles
  let (sh, cl) := s.shares q
  let s := s.clamped 1 (cl && decide (0 < q))
  let s := (List.range 8).foldl (fun s b =>
    let x := ((sh.find? (fun y => y.1 == b)).map (·.2)).getD 0
    let eod := decide (0 < x) && decide (0 < q) && decide (s.strV b ≤ (s.fld Reg.BT_LIM 31 16 : Int))
    let s := if eod then (s.setStrMode b 5).onStr b (fun t => { t with eodAt := some 0 }) else s
    let tgt := if eod || !s.strEn b then 0 else if 0 < q then -x else s.chargeI b
    (s.setOut (16 + b) tgt).put (Reg.BS_STAT b) 31 16 (code 16 tgt)) s
  let gone := s.huState == 1 && s.eligibles.isEmpty && (!had.isEmpty || s.shf.entry) && (List.range 8).any (fun b => s.strEn b)
  if gone then s.raise (E.BATT_EXHAUSTED 0) else s

/-- CHARGE_RESUME (R242): RDELAY has passed since NORMAL, and the strings charge. -/
def execChargeResume (s : State) : Host.Outcome State Fault Refusal :=
  if s.live && s.chargeOk then .next (s.lnStrings 0) else .next s

/-- BATT_EOD (R243): one gait frame after EOD the main contactor opens. -/
def execBattEod (b : Fin 8) (s : State) : Host.Outcome State Fault Refusal :=
  match (s.str b).eodAt with
  | some n =>
    if s.live && s.strMode b == 5 && decide (1 ≤ n) then
      .next (((s.onStr b (fun t => { t with eodAt := none, disc := true })).contactor b false 2).raise (E.BATT_EOD b))
    else .next s
  | none => .next s

/-- A write of SHF_CMD (R243): a disconnected or off string closes its precharge contactor. -/
def State.reconnect (s : State) (v : Word) : State :=
  (List.range 8).foldl (fun s b =>
    if bitOf v (8 + b) && s.strEn b && ((s.str b).disc || s.strMode b == 0) then
      ((s.setStrMode b 6).onStr b (fun t => { t with disc := true, preAt := some (1024 * s.fld Reg.BT_TERM 31 16) })).contactor b
        true 1
    else s) s

/-- STRING_PRECHARGE_DONE (R243). -/
def execStringPrechargeDone (b : Fin 8) (s : State) : Host.Outcome State Fault Refusal :=
  if s.live && s.strMode b == 6 && (s.str b).preAt == some 0 then
    let s := (s.setStrMode b 1).onStr b (fun t => { t with disc := false, preAt := none, term := 0 })
    .next ((s.contactor b false 1).contactor b true 2)
  else .next s

/-- Counts of strings at a turnover, and contactor commands that waited for their link. -/
def State.strTick (s : State) (b : Nat) : State :=
  (s.onStr b (fun t => { t with eodAt := t.eodAt.map (fun n => min (n + 1) 65535), preAt := t.preAt.map (fun n => n - 1) })).strFlush b

/-! ## Line 2: hold-up state and peak shave (R239, R240, R245) -/

/-- Failed inputs. -/
def State.failedInputs (s : State) : Nat := ((List.range 16).filter (fun m => s.bit (Reg.SHM_CFG m) 16 && s.inFailed m)).length

/-- Hold-up is demanded (R239). -/
def State.huTrigger (s : State) : Bool :=
  decide (max 1 (s.fld Reg.HU_CFG 20 16) ≤ s.failedInputs) || (s.bit Reg.HU_CFG 30 && s.shf.droop)

/-- Strings that float charge again after a discharge or a peak shave; after a discharge every discharging string too
(R242). -/
def State.toCC (s : State) (from_ : List Nat) : State :=
  (List.range 8).foldl (fun s b => if from_.contains (s.strMode b) then s.setStrMode b 1 else s) s

/-- Line 2; answers h of R240. -/
def State.lnHoldup (s : State) : State × Int :=
  let s := { s with shf := { s.shf with entry := false, normN := if s.huState = 0 then s.shf.normN + 1 else s.shf.normN } }
  let hv := s.fld Reg.HU_CFG 7 0
  let s :=
    if s.bit Reg.HU_CFG 31 && s.huState != 1 && s.huTrigger then
      let y0 := cdiv (max s.pOut 0 * (s.fld Reg.HU_PRE 15 0 : Int)) 32768
      let s := s.put Reg.SHF_STAT 1 0 1
      let s := { s with shf := { s.shf with entry := true, goodN := 0, redo := true, q := y0 } }
      let s := if s.cState hv = 3 then s.onCx hv (fun c => { c with y0 := some y0 }) else s
      let s := (List.range 8).foldl (fun s b => if 1 ≤ s.strMode b && s.strMode b ≤ 3 then s.setStrMode b 4 else s) s
      s.raise (E.HOLDUP_START 0)
    else if s.huState = 1 then
      { s with shf := { s.shf with goodN := if s.huTrigger || !s.bit Reg.HU_CFG 31 then 0 else s.shf.goodN + 1 } }
    else if s.huState = 2 then
      { s with shf := { s.shf with qcap := max 0 (s.shf.qcap - max 1 (s.fld Reg.HU_PRE 31 16 : Int)) } }
    else s
  let h := if s.shf.entry then s.shf.q else if s.huState = 0 then 0 else s.bankOut hv
  let cap : Int := s.fld Reg.PS_CAP 15 0
  let s :=
    if s.shaving then
      if (s.bankOut (s.fld Reg.HU_CFG 15 8) == 0 && decide (s.pIn ≤ cap)) || s.huLow || s.huState != 0 ||
          !s.bit Reg.SHF_CFG 12 then
        ((s.setBit Reg.SHF_STAT 3 false).toCC [3]).raise (E.PEAK_SHAVE_END 0)
      else s
    else if s.bit Reg.SHF_CFG 12 && decide (cap < s.pIn) && s.huState == 0 && !s.huLow then
      (s.setBit Reg.SHF_STAT 3 true).raise (E.PEAK_SHAVE_START 0)
    else s
  (s, h)

/-- HOLDUP_RECOVER (R239): the state moves in the turnover that completes the count, with q of the previous one as the cap, and the
string targets of that turnover follow. -/
def execHoldupRecover (s : State) : Host.Outcome State Fault Refusal :=
  if s.live && s.bit Reg.HU_CFG 31 && s.huState == 1 && !s.huTrigger &&
      decide (max 1 (1024 * s.fld Reg.HU_REC 15 0) ≤ s.shf.goodN) then
    let s := (s.put Reg.SHF_STAT 1 0 2).toCC [3, 4]
    let s := { s with shf := { s.shf with qcap := s.shf.qPrev } }
    .next ((s.lnStrings (s.bankOut (s.fld Reg.HU_CFG 7 0))).relatch 16 23)
  else .next s

/-- HOLDUP_END (R239). -/
def execHoldupEnd (s : State) : Host.Outcome State Fault Refusal :=
  if s.live && s.bit Reg.HU_CFG 31 && s.huState == 2 && decide (s.shf.qcap ≤ 0) then
    let s := s.put Reg.SHF_STAT 1 0 0
    .next ({ s with shf := { s.shf with normN := 0, qcap := 0 } }.raise (E.HOLDUP_END 0))
  else .next s

/-! ## Line 6: the hold-up estimate (R244) -/

def State.lnEstimate (s : State) : State :=
  if s.periodStart 1 then
    let e := s.eligibles.foldl (fun a b => a + s.strE b) 0
    let d := s.pOut * (s.rdN Reg.HU_PWU : Int)
    let t := if d ≤ 0 then 0xFFFFFFFF else min (cdiv (e * 1000000) d).toNat 0xFFFFFFFF
    let s := s.wrN Reg.SHF_HUTEST t
    let low := decide (t < s.rdN Reg.HU_TLOW) && s.rdN Reg.HU_PWU != 0
    let s' := s.setBit Reg.SHF_STAT 6 low
    if low && !s.huLow then s'.raise (E.HOLDUP_LOW 0) else s'
  else s

/-! ## Line 7: capping (R246, R247) -/

/-- Floors 0 to 3 that are active (R246). -/
def State.floors (s : State) : List Bool :=
  [s.rdN Reg.PHS_CAPREQ != 0, s.huLow, s.bit Reg.HK_STAT 29 && s.bit Reg.HK_CFG 0,
   (s.bit Reg.HK_STAT 28 || s.bit Reg.HK_STAT 27) && s.bit Reg.HK_CFG 1]

/-- The floor of request `i`: under a thermal response decision those of floors 2 and 3 are at least its level (R246). -/
def State.capFloor (s : State) (i : Nat) : Nat :=
  let r := s.fld Reg.CP_REQ (8 * i + 7) (8 * i)
  match s.decision 6 with
  | some d => if 2 ≤ i then max r (fieldOf (decWord d 0) 7 0) else r
  | none => r

/-- L_hw (R246): the largest of L_int and the floors of the active requests. -/
def State.capHw (s : State) (li : Nat) : Nat :=
  (s.floors.zipIdx).foldl (fun m x => if x.1 then max m (s.capFloor x.2) else m) li

/-- The THROTTLE pins follow the asserted outputs in `m` (R247): POL = 0 drives a pin high when asserted; before the boot commit they are
high-impedance (R55). -/
def State.throttlePins (s : State) (m : Nat) : State :=
  if s.unit.booted then
    { s with shf := { s.shf with pins := Vector.ofFn (fun k : Fin 8 => some (m.testBit k.val != s.bit (Reg.CP_TH k.val) 16)) } }
  else s

def State.lnCap (s : State) : State :=
  let li := s.fld Reg.SHF_CAPLVL 7 0
  let cap : Int := s.fld Reg.CP_CFG 15 0
  let hys : Int := s.fld Reg.CP_CFG 31 16
  let li := if s.periodStart 2 then
      if cap < s.pOut then min 255 (li + s.fld Reg.CP_RATE 7 0)
      else if s.pOut < cap - hys then li - s.fld Reg.CP_RATE 15 8 else li
    else li
  let fl := s.floors
  let th := (s.decision 6).map (fun d => fieldOf (decWord d 0) 7 0)
  let hw := s.capHw li
  let (l, mask) := match s.decision 2 with
    | some d => (max hw (fieldOf (decWord d 0) 7 0), fieldOf (decWord d 0) 23 16)
    | none => (hw, 0)
  let s := match s.decision 2 with
    | some d => s.clamped 2 (decide (fieldOf (decWord d 0) 7 0 < hw))
    | none => s
  let s := match th with
    | some d => s.clamped 6 ((fl.getD 2 false && decide (d < s.fld Reg.CP_REQ 23 16)) ||
        (fl.getD 3 false && decide (d < s.fld Reg.CP_REQ 31 24)))
    | none => s
  let old := s.capLevel
  let thr := (List.range 8).foldl (fun t k =>
    let on := s.fld (Reg.CP_TH k) 7 0
    let off := if on ≤ s.fld (Reg.CP_TH k) 15 8 then on - 1 else s.fld (Reg.CP_TH k) 15 8
    let was := s.shf.thr.testBit k
    let now := on != 0 && (decide (on ≤ l) || (was && !decide (l ≤ off)))
    t + b2n now * 2 ^ k) 0
  let s := { s with shf := { s.shf with thr := thr } }
  let flw := (List.range 4).foldl (fun t i => t + b2n (fl.getD i false) * 2 ^ i) 0
  let s := s.wrN Reg.SHF_CAPLVL (li + 256 * l + 65536 * (thr ||| mask) + 16777216 * flw)
  let s := ((s.throttlePins (thr ||| mask)).setBit Reg.SHF_STAT 4 (l != 0)).setOut 27 (l * 128)
  if old = 0 && l != 0 then s.raise (E.CAP_ACTIVE 0) else if old != 0 && l = 0 then s.raise (E.CAP_CLEAR 0) else s

/-! ## Line 8: phase management (R249) -/

/-- Change ST_NREQ of stage `k`, with the re-spacing length of a decision. -/
def State.setNreq (s : State) (k n : Nat) (resp : Option Nat) : State :=
  if s.fld (Reg.ST_NREQ k) 7 0 = n then s
  else
    let s := s.put (Reg.ST_NREQ k) 7 0 n
    if s.stState k == 1 || s.stState k == 2 then
      let s := (s.onSg k (fun g => { g with resp := resp })).setActive k false
      s.onSg k (fun g => { g with resp := none })
    else s

/-- ST_STAT.NACT. -/
def State.nAct (s : State) (k : Nat) : Nat := s.fld (Reg.ST_STAT k) 15 8

/-- Phase management in hardware (R249), which runs under a decision too (R21): the count that it requests of stage `k`. -/
def State.hwNreq (s : State) (k : Nat) : State :=
  if !s.bit Reg.PM_EN k then s.onSg k (fun g => { g with pmt := 0, nreq := 0 })
  else if s.stState k == 2 && s.periodStart 3 then
    let l := signed 32 (s.rdN (Reg.ST_LOAD k))
    let n := s.nAct k
    let add : Int := s.fld Reg.PM_THR 15 0
    let drop : Int := s.fld Reg.PM_THR 31 16
    let low := decide (drop < add) && decide (l < drop * ((n : Int) - 1))
    s.onSg k (fun g => { g with pmt := if low then min (g.pmt + 1) 255 else 0,
                                nreq := if add * n < l then min 255 (n + 1) else g.nreq })
  else s

/-- ST_NREQ of stage `k` (R249): a non-zero count of a phase-management decision, or else what hardware requests. -/
def State.applyNreq (s : State) (k : Nat) : State :=
  let w := ((s.decision 3).map (fun d => decWord d k)).getD 0
  if fieldOf w 7 0 = 0 then s.setNreq k (s.sg k).nreq none
  else s.setNreq k (fieldOf w 7 0) (if fieldOf w 15 8 = 0 then none else some (fieldOf w 15 8))

def State.lnPhases (s : State) : State := (List.range 32).foldl (fun s k => (s.hwNreq k).applyNreq k) s

/-- PHASE_DROP (R249): low load has held for PMT period starts. -/
def execPhaseDrop (k : Fin 32) (s : State) : Host.Outcome State Fault Refusal :=
  let n := s.nAct k
  if s.live && s.stState k == 2 && s.bit Reg.PM_EN k && decide (max 1 (s.fld Reg.PM_PAR 7 0) ≤ (s.sg k).pmt) then
    let m := max (n - 1) (max 1 (s.fld Reg.PM_PAR 11 8))
    .next ((s.onSg k (fun g => { g with pmt := 0, nreq := if m < n then m else g.nreq })).applyNreq k)
  else .next s

/-! ## Lines 9 and 10: fault timers and power-good (R250 to R252) -/

/-- V of stage `k` is inside its window (R250). -/
def State.inWindow (s : State) (k : Nat) : Bool :=
  let v := s.stageV k
  decide (s.sfld (Reg.ST_WIN k) 15 0 ≤ v) && decide (v ≤ s.sfld (Reg.ST_WIN k) 31 16)

def State.lnTimers (s : State) : State :=
  (List.range 32).foldl (fun s k =>
    if s.bit Reg.PG_FTEN k && s.stState k == 2 then
      if s.inWindow k then (s.setBit Reg.SHF_FTRUN k false).onSg k (fun g => { g with ft := 0 })
      else if s.bit Reg.SHF_FTRUN k then s.onSg k (fun g => { g with ft := g.ft + 1 })
      else ((s.setBit Reg.SHF_FTRUN k true).onSg k (fun g => { g with ft := 0 })).raise (E.FAULT_TIMER_START k)
    else (s.setBit Reg.SHF_FTRUN k false).onSg k (fun g => { g with ft := 0 })) s

/-- PG_TIMEOUT (R251): a fault timer expires. ADDR names the lowest power-good output that covers the stage. -/
def execPgTimeout (k : Fin 32) (s : State) : Host.Outcome State Fault Refusal :=
  if s.live && s.bit Reg.SHF_FTRUN k && decide (max 1 (s.fld Reg.PG_FTIME 15 0) ≤ (s.sg k).ft) then
    let o := ((List.range 4).find? (fun g => s.bit (Reg.PG_CFG g) 31 && s.bit (Reg.PG_STG g) k)).getD 0
    .next ((s.fault 11 k o).stageSafe k 11 false)
  else .next s

/-- Stage `k` is good (R250). -/
def State.stageGood (s : State) (k : Nat) : Bool := s.stState k == 2 && s.inWindow k && !s.bit Reg.SHF_FTRUN k

/-- Feeder `f` is good for output `g` (R250). -/
def State.feederGood (s : State) (g f : Nat) : Bool :=
  let v := (s.window (s.fdrVoltE f) 1 0 0 0 s.now).v
  s.fdrState f == 2 && decide (s.sfld (Reg.PG_FWIN g) 15 0 ≤ v) && decide (v ≤ s.sfld (Reg.PG_FWIN g) 31 16)

/-- Items that output `g` covers. -/
def State.pgStages (s : State) (g : Nat) : List Nat := (List.range 32).filter (fun k => s.bit (Reg.PG_STG g) k)
def State.pgFeeders (s : State) (g : Nat) : List Nat :=
  (List.range 64).filter (fun f => s.bit (if f < 32 then Reg.PG_FDRLO g else Reg.PG_FDRHI g) (f % 32))

/-- Every covered item of output `g` is good (R250). -/
def State.pgGood (s : State) (g : Nat) : Bool :=
  let ks := s.pgStages g
  let fs := s.pgFeeders g
  s.bit (Reg.PG_CFG g) 31 && !(ks.isEmpty && fs.isEmpty) && ks.all (fun k => s.stageGood k) && fs.all (fun f => s.feederGood g f)

/-- Set power-good output `g`; the pin level follows POL (R252). -/
def State.setPg (s : State) (g : Nat) (b : Bool) : State :=
  let was := s.bit Reg.PG_STAT g
  let s := (s.setBit Reg.PG_STAT g b).setBit Reg.PG_STAT (4 + g) (b != s.bit (Reg.PG_CFG g) 30)
  if was = b then s else s.raise (if b then E.PG_ASSERT g else E.PG_DEASSERT g)

def State.lnPg (s : State) : State :=
  (List.range 4).foldl (fun s g =>
    let q := vget s.shf.qual g 0
    let n := if s.pgGood g then q + 1 else 0
    let s := { s with shf := { s.shf with qual := vset s.shf.qual g n } }
    s.setPg g (s.bit Reg.PG_STAT g && n != 0)) s

/-- PG_ASSERT (R252): the qualification count has reached QUAL × 16. -/
def execPgAssert (g : Fin 4) (s : State) : Host.Outcome State Fault Refusal :=
  if s.live && s.unit.booted && decide (16 * max 1 (s.fld (Reg.PG_CFG g) 15 0) ≤ vget s.shf.qual g 0) then .next (s.setPg g true)
  else .next s

/-! ## Mailboxes (R253 to R257) -/

/-- Pending contained faults of function 4 (R363): the oldest ACTIVE entries of scopes 2 to 4. -/
def State.mbFaults (s : State) : List Nat :=
  (s.fltFind (fun e => e.st == 1 && decide (2 ≤ e.scope) && decide (e.scope ≤ 4) && !e.msg.fwd)).take 16

/-- The inputs of a mailbox (R254). -/
def State.mbInputs (s : State) (f : Nat) : List Word :=
  let c32 (v : Int) := word (code 32 v)
  match f with
  | 0 => (List.range 16).map (fun m => c32 (s.modI m)) ++ (List.range 16).map (fun m => c32 (s.modT m)) ++
      [word (s.fld Reg.SH_ONLINE 15 0 + 65536 * s.fld Reg.SH_INFAIL 15 0), c32 s.iTot]
  | 1 => (List.range 8).map (fun b => c32 (s.strV b)) ++ (List.range 8).map (fun b => c32 (s.strI b)) ++
      (List.range 8).map (fun b => s.rd (Reg.BS_E b)) ++ [word s.huState, s.rd Reg.SHF_HUTEST]
  | 2 => [c32 s.pOut, word (s.capHw (s.fld Reg.SHF_CAPLVL 7 0)), word (s.fld Reg.SHF_CAPLVL 27 24)]
  | 3 => (List.range 32).map (fun k => s.rd (Reg.ST_LOAD k)) ++
      (List.range 8).map (fun i => word ((List.range 4).foldl (fun a j => a + s.nAct (4 * i + j) * 256 ^ j) 0))
  | 4 => s.mbFaults.map (fun i => match s.fltAt i with
      | some e => word ((e.msg.src * 64 + e.msg.kind) * 65536 + e.scope * 256 + e.item)
      | none => 0)
  | 5 => (List.range 8).flatMap (fun g => [word (vget s.meas.gpos g 0), word (vget s.meas.gpos g 0 / 2 ^ 32),
      word (vget s.meas.gneg g 0), word (vget s.meas.gneg g 0 / 2 ^ 32)])
  | _ => [s.rd Reg.HK_TEMP &&& 0xFFFF, s.rd Reg.HK_RISE, word (s.fld Reg.HK_STAT 29 27)]

/-- A fault-reaction decision, or the hardware FOLLOW, at the application point (R254, R363). -/
def State.mbFollow (s : State) (d : Option (List Word)) : State :=
  ((s.mbx 4).pub.zipIdx).foldl (fun s x =>
    match s.fltAt x.1 with
    | some e =>
      if e.st != 1 then s
      else match d.map (fun d => fieldOf (decWord d x.2) 1 0) with
        | some 1 => s.fltPut x.1 (some { e with follow := 1, byHost := true })
        | some 2 => s.fltPut x.1 (some { e with follow := 0, byHost := true, st := 2, made := 3 })
        | some 3 => s.fltPut x.1 (some { e with follow := 2, byHost := true })
        | _ => if e.follow = 0 then s.fltPut x.1 (some { e with st := 2, made := 3 }) else s
    | none => s) s

/-- A period without a decision (R256): its outcome is written and SHF_FALLBACK raised; the fault reaction uses its FOLLOW (R363). -/
def State.mbFallback (s : State) (f outcome : Nat) : State :=
  let s := s.onMb f (fun m => { m with dec := none, open_ := false, lost := false, sub := none })
  let s := ((s.put (Reg.MB_DSTAT f) 19 16 outcome).bump (Reg.MB_FBCNT f) 15 0 1).raise (E.SHF_FALLBACK f)
  if f = 4 then s.mbFollow none else s

/-- The application point of function `f` (R256); answers whether a decision was applied. -/
def State.mbApply (s : State) (f : Nat) : State × Bool :=
  let m := s.mbx f
  if m.open_ && s.gfcN == s.rdN (Reg.MB_DGFC f) then
    match if m.lost then none else m.sub with
    | some d =>
      let s := s.onMb f (fun m => { m with dec := some d, sub := none, open_ := false })
      let s := (s.put (Reg.MB_DSTAT f) 19 16 1).put (Reg.MB_DSTAT f) 15 0 (s.fld (Reg.MB_PSEQ f) 15 0)
      (if f = 4 then s.mbFollow (some d) else s, true)
    | none =>
      (s.mbFallback f (if m.lost || !s.fwOk then 5 else if m.bad then 4 else 3), false)
  else (s, false)

/-- Line 11: publication of function `f` (R255, R257). -/
def State.mbPublish (s : State) (f : Nat) : State :=
  if s.bit (Reg.MB_MODE f) 0 && s.periodStart f then
    if s.fwOk then
      let s := ((s.mbInputs f).zipIdx).foldl (fun s x => s.wr (Reg.MB_IN f x.2) x.1)
        ((List.range 48).foldl (fun s i => s.wr (Reg.MB_IN f i) 0) s)
      let n := (s.fld (Reg.MB_PSEQ f) 15 0 + 1) % 65536
      let s := (s.wrN (Reg.MB_PSEQ f) (65536 + n)).wr (Reg.MB_PGFC f) s.time.gfc
      let s := s.wrN (Reg.MB_DGFC f) ((s.gfcN + s.fld (Reg.MB_MODE f) 31 16) % 2 ^ 32)
      let s := s.put (Reg.MB_DSTAT f) 19 16 6
      let s := s.onMb f (fun m => { m with active := true, open_ := true, lost := false, sub := none, bad := false,
                                           pub := if f = 4 then s.mbFaults else [] })
      s.raise (E.MB_PUBLISH f)
    else (if f = 4 then s.onMb 4 (fun m => { m with pub := s.mbFaults }) else s).mbFallback f 5
  else s

/-- SHF_STAT.APPLIED follows the decisions in effect (R259). -/
def State.mbApplied (s : State) : State :=
  (List.range 7).foldl (fun s f => s.setBit Reg.SHF_STAT (16 + f) (s.decision f).isSome) s

/-- A MODE commit clears HOST of function `f` (R257). -/
def State.mbModeCommit (s : State) (f : Nat) : State :=
  if s.bit (Reg.MB_MODE f) 0 then s
  else s.onMb f (fun m => { m with active := false, open_ := false, lost := false, sub := none, dec := none })

/-- A write of MB_DCTL (R255, R256): outside the window, or in one that a live restart has cut (R257), a submission is discarded as late. -/
def State.mbSubmit (s : State) (f : Nat) (v : Word) : State :=
  if f < 7 && bitOf v 31 then
    let m := s.mbx f
    if fieldOf v 15 0 != s.fld (Reg.MB_PSEQ f) 15 0 || !m.active then
      (s.onMb f (fun m => { m with bad := true })).put (Reg.MB_DSTAT f) 19 16 4
    else if !m.open_ || m.lost then s.put (Reg.MB_DSTAT f) 19 16 2
    else s.onMb f (fun m => { m with sub := some ((List.range 32).map (fun i => s.rd (Reg.MB_DEC f i))) })
  else s

/-! ## Step 4 of the turnover (R231) -/

def State.shelfTurnover (s : State) : State :=
  let s := (List.range 8).foldl (fun s b => s.strTick b) { s with shf := { s.shf with qPrev := s.shf.q } }
  let (s, fresh0) := s.mbApply 0
  let s := [1, 2, 3, 4, 6].foldl (fun s f => (s.mbApply f).1) s
  let s := s.lnPower
  let (s, h) := s.lnHoldup
  let s := s.lnCharge
  let s := s.lnShare fresh0
  let s := s.lnStrings h
  let s := s.lnEstimate
  let s := s.lnCap
  let s := s.lnPhases
  let s := s.lnTimers
  s.lnPg.mbApplied

/-- Line 11 for every function (R231). -/
def State.publishAll (s : State) : State := ((List.range 7).foldl (fun s f => s.mbPublish f) s).mbApplied

end Sys2Proof.Machine
end

