-- ==== Sys2Proof/Machine/Phases.lean ====
section
/-!
DEFINITION. Commands of the edge engine and the phase manager (chapter 07): local edges, stage periods, PWM_KILL#, the
ends of a spur and of its lockout, and phase failure.
-/

namespace Sys2Proof.Machine

/-! ## Local channels (R97, R205, R229) -/

/-- The dead time of an edge of local channel `n` at `t`: PT_DT of the phase assigned to it, a changed one from the edges that are
committed after the boundary of the change (R202). -/
def State.localDt (s : State) (n t : Nat) : Nat :=
  let l := s.lc n
  if t ≤ l.dtAt + 2 * 64 then l.dt0 else s.fld (Reg.PT_DT (s.fld (Reg.EDG_STAT n) 14 8)) 16 0

/-- Local channel `n` may drive its outputs (R205, R206). -/
def State.localLive (s : State) (n : Nat) : Bool :=
  s.bit (Reg.EDG_STAT n) 4 && !s.bit (Reg.EDG_STAT n) 2 && !s.bit (Reg.EDG_STAT n) 3

/-- LOCAL_EDGE (R97, R205): the earliest edge of a local channel executes; a channel that is latched, killed or not assigned
takes none. -/
def execLocalEdge (ch : Fin 16) (s : State) : Host.Outcome State Fault Refusal :=
  let n : Nat := ch
  match (s.lc n).edges with
  | [] => .next s
  | e :: rest =>
    if !s.live then .next s
    else
      let s := s.onLc n (fun l => { l with edges := rest })
      if s.localLive n then
        let dt := s.localDt n e.at_
        let on := e.ev == 1 && !(s.lc n).on
        let s := (s.onLc n (fun l => l.edge e dt)).noteLocal n e.ev e.at_
        .next (if on then s.bump (Reg.EDG_PULSES n) 31 0 1 else s)
      else .next s

/-- The level of one output of a local channel; high-impedance is a free bit (R205, R229). -/
def State.outLevel (s : State) (l : OutLvl) (safe : Nat) (inv : Bool) : Bool × State :=
  match l with
  | .on => (!inv, s)
  | .off => (inv, s)
  | .safe =>
    match safe with
    | 0 => (false, s)
    | 1 => (true, s)
    | _ => s.takeBit

/-- EDG_STAT of channel `n` as read (R229). -/
def State.edgStat (s : State) (n : Nat) : Word × State :=
  let l := (s.lc n).settle s.now
  let c := s.rd (Reg.EDG_CFG n)
  let held := !s.localLive n
  let (a, s) := s.outLevel (if held then .safe else l.a) (fieldOf c 1 0) (bitOf c 4)
  let (b, s) := s.outLevel (if held then .safe else l.b) (fieldOf c 3 2) (bitOf c 5)
  (setField (setField (s.rd (Reg.EDG_STAT n)) 0 0 (b2n a)) 1 1 (b2n b), s)

/-! ## Stage periods (R200, R203, R213) -/

/-- Longest time before its start at which a period of stage `k` may be formed, in edge steps: one link frame before its first
edge would have to be committed (R201). -/
def State.formLead (s : State) (k : Nat) : Nat :=
  (s.phases k).foldl (fun m i => max m (s.earliest i s.now - s.now)) 0 + 2560

/-- STAGE_PERIOD_START (R213): the next stage period of a stage in START or RUN is formed. -/
def execStagePeriodStart (k : Fin 32) (s : State) : Host.Outcome State Fault Refusal :=
  let g := s.sg k
  if s.live && (s.stState k == 1 || s.stState k == 2) && decide (g.next ≤ s.now + s.formLead k) then
    let s := s.eccRead 1 (Reg.ST_CFG k) (Reg.ST_CFG k + 0x80)
    .next (s.formNext k)
  else .next s

/-! ## PWM_KILL# (R206) -/

/-- PWM_KILL: the pin is asserted. Local channels, phases and stages go safe with cause 10. -/
def execPwmKill (s : State) : Host.Outcome State Fault Refusal :=
  if s.runs then
    let s := (s.setBit Reg.PHS_STAT 31 true).setBit Reg.PHS_STAT 30 true
    let s := (List.range 16).foldl (fun s n => (s.forceLocal n).setBit (Reg.EDG_STAT n) 3 true) s
    let s := (List.range 32).foldl (fun s k =>
      if s.hasLocal k && s.stState k != 3 then
        let s := s.stageSafe k 10 false
        if (s.phases k).any (fun i => !s.phLocal i) then s.forward (.decision (.stage k 10)) else s
      else s) s
    .next ((s.bump Reg.PHS_KILLCNT 15 0 1).raise (E.PWM_KILL 0))
  else .next s

/-- PWM_KILL_DEASSERT (R206). -/
def execPwmKillDeassert (s : State) : Host.Outcome State Fault Refusal := .next (s.setBit Reg.PHS_STAT 31 false)

/-- A write of PHS_CMD (R206): KILLREL clears the kill latch unless the pin is asserted. -/
def State.killRelease (s : State) (v : Word) : State :=
  if bitOf v 31 && !s.bit Reg.PHS_STAT 31 then
    (List.range 16).foldl (fun s n => s.setBit (Reg.EDG_STAT n) 3 false) (s.setBit Reg.PHS_STAT 30 false)
  else s

/-! ## Spur and phase failure (R219, R222) -/

/-- SPUR_END (R219): the turn-off of the last pulse, at T_e. -/
def execSpurEnd (k : Fin 32) (s : State) : Host.Outcome State Fault Refusal :=
  if s.live && s.fld (Reg.ST_STAT k) 29 28 == 1 && (match (s.sg k).te with | some t => decide (t ≤ s.now) | none => false) then
    let s := (s.put (Reg.ST_STAT k) 29 28 2).onSg k (fun g => { g with ended := true })
    .next (s.raise (E.SPUR_END k))
  else .next s

/-- SPUR_LOCKOUT_END (R219): LOCKOUT gait frames have passed since the first boundary after T_e. -/
def execSpurLockoutEnd (k : Fin 32) (s : State) : Host.Outcome State Fault Refusal :=
  let g := s.sg k
  if s.live && s.fld (Reg.ST_STAT k) 29 28 == 2 && !g.ended && g.lock == 0 then
    .next ((s.put (Reg.ST_STAT k) 29 28 0).onSg k (fun g => { g with te := none }))
  else .next s

/-- PHASE_FAILED (R221, R222): a failure counter of an ACTIVE phase has reached N. -/
def execPhaseFailed (i : Fin 128) (s : State) : Host.Outcome State Fault Refusal :=
  if s.live && s.phValid i && s.phState i == 1 && s.stState (s.phStage i) == 2 then
    match s.pfCause i with
    | some c => .next (s.failPhase i c)
    | none => .next s
  else .next s

end Sys2Proof.Machine
end

