-- ==== Sys2Proof/Machine/Links.lean ====
section
/-!
DEFINITION. Training, health and head registers of the rein links (R107, R108, R115 to R120, R131 to R133).
-/

namespace Sys2Proof.Machine

/-! ## Training (R115 to R119) -/

def State.setLinkState (s : State) (n st : Nat) : State := s.put (Reg.LNK_STAT n) 2 0 st

/-- The requests of ALIGN (R116): 256 probes. -/
def probeReqs : List CtrlReq := (List.range 256).map (fun i => ⟨2, BitVec.ofNat 96 i⟩)

/-- HREG_WR and HREG_RD requests (R107). -/
def hregWr (addr : Nat) (v : Word) : CtrlReq := ⟨4, BitVec.ofNat 96 (addr % 65536 * 2 ^ 64 + v.toNat)⟩
def hregRd (addr : Nat) : CtrlReq := ⟨5, BitVec.ofNat 96 (addr % 65536 * 2 ^ 64)⟩

/-- The requests of CONFIG (R115): the sample map (R101), the dead times of the phases (R202), the head values of the feeders (R263),
and the reads of the head's source registers (R261). -/
def State.configReqs (s : State) (n : Nat) : List CtrlReq :=
  let maps := (List.range 7).map (fun i => hregWr (0x20 + 4 * i) (s.rd (Reg.LNK_SMAP n i)))
  let dts := ((List.range 128).filter (fun i => s.phValid i && !s.phLocal i && s.phWhere i == n)).map
    (fun i => hregWr (0x204 + 0x20 * s.phCh i) (s.rd (Reg.PT_DT i)))
  let fds := (s.linkFeeders n).flatMap (fun f =>
    let v := s.fdrHead f
    let a := 0x200 + 0x20 * s.fdrPh f
    [hregWr (a + 0x0C) v.1, hregWr (a + 0x10) v.2.1, hregWr (a + 0x08) v.2.2])
  let srcs := (List.range (min 64 (s.fld (Reg.LNK_HID n) 31 24))).map (fun k => hregRd (0x40 + 4 * k))
  maps ++ dts ++ fds ++ srcs

/-- The requests with which a training state begins (R115). -/
def State.stateReqs (s : State) (n st : Nat) : List CtrlReq :=
  match st with
  | 2 => [⟨1, 0⟩]
  | 3 => probeReqs
  | 4 => s.configReqs n
  | _ => []

/-- The next request of the state becomes the outstanding one (R107). -/
def LinkSt.nextReq (l : LinkSt) : LinkSt := { l with req := l.req.tail, wait := none, resends := 0, cseq := l.cseq + 1 }

/-- Requests of the state begin. -/
def LinkSt.startReqs (l : LinkSt) (rs : List CtrlReq) : LinkSt :=
  { l with req := rs, wait := none, resends := 0, cseq := l.cseq + 1, pmin := 65535, pmax := 0, psum := 0 }

/-- A state of training begins with its requests (R115). In LOCK the receiver aligns and adopts FCNT anew; CONFIG takes the head values
of the feeders as they stand (R263). -/
def State.trainTo (s : State) (n st : Nat) : State :=
  let s := s.setLinkState n st
  let rs := s.stateReqs n st
  let s := s.onLink n (fun l =>
    let l := { l.startReqs rs with tfail := 0, spreads := 0 }
    if st = 1 then { l with aln := 0, lost := 0, rx := none }
    else if st = 4 then { l with hsrc := [] }
    else l)
  if st = 4 then
    (s.linkFeeders n).foldl (fun s f =>
      s.onFd f (fun d => { d with sent := some (s.fdrHead f), dirty := false, writes := 0, hbad := false })) s
  else s

/-- A failed state ends training (R117). -/
def State.trainFail (s : State) (n code : Nat) : State :=
  let s := (s.put (Reg.LNK_STAT n) 11 8 code).trainTo n 6
  let s := if code = 3 then s.raise (E.HEAD_MISMATCH n) else s
  s.raise (E.LINK_TRAIN_FAIL n)

/-- The head channels of link `n` that a FAILED or SAFE phase, a SAFE stage or a TRIPPED feeder still holds (R120). -/
def State.heldMask (s : State) (n : Nat) : Nat :=
  let ps := (List.range 128).filter (fun i => s.phValid i && !s.phLocal i && s.phWhere i == n &&
    (decide (2 ≤ s.phState i) || s.stState (s.phStage i) == 3))
  let fs := (s.linkFeeders n).filter (fun f => s.fdrState f == 3)
  fs.foldl (fun m f => m ||| (1 <<< s.fdrPh f)) (s.phMask ps n)

/-- RELEASE of the channels of a link that has come UP (R120, R273): a unit that runs alone or holds ACTIVE sends it for every channel that
is not held, and forwards it, so that the frames of a standby carry the same units. -/
def State.releaseHead (s : State) (n : Nat) : State :=
  if s.unit.pairMode && s.role != 2 then s
  else
    let m := 255 - s.heldMask n
    (s.sendRelease n m).forward (.decision (.release n m))

/-- Link `n` comes UP (R115, R118 to R120, R202, R263). -/
def State.trainUp (s : State) (n : Nat) : State :=
  let l := s.link n
  let s := (s.trainTo n 5).setBit (Reg.LNK_STAT n) 24 false
  let s := s.onLink n (fun l => { l with badRun := 0, dnRun := 0, edges := [], flight := [],
                                         cmds := [], cmdPos := 0, cmdFly := false, accq := [], acc := none,
                                         held := 0xFF, digestOk := false, newHead := false,
                                         known := some (BitVec.ofNat 48 (s.rdN (Reg.LNK_HSER_LO n) +
                                           2 ^ 32 * s.fld (Reg.LNK_HSER_HI n) 15 0)) })
  let s := s.raise (E.LINK_UP n)
  let s := if l.newHead then s.raise (E.HEAD_CHANGED n) else s
  let s := (s.linkFeeders n).foldl (fun s f => if (s.fd f).dirty then s.fdrSendHead f else s.setBit (Reg.FDR_CTL f) 27 false) s
  let s := s.releaseHead n
  (List.range 8).foldl (fun s b => if s.strEn b then s.strFlush b else s) s

/-- The enumeration reply (R107, R119). -/
def State.enumReply (s : State) (n kind version chans srcs steps : Nat) (serial : BitVec 48) : State :=
  let sn := serial.toNat
  let s := s.wrN (Reg.LNK_HID n) (kind % 256 + version % 256 * 256 + chans % 16 * 65536 + srcs % 256 * 16777216)
  let s := (s.wrN (Reg.LNK_HSER_LO n) sn).wrN (Reg.LNK_HSER_HI n) (sn / 2 ^ 32 % 65536 + steps % 65536 * 65536)
  s.onLink n (fun l => { l with newHead := match l.known with | some k => k != serial | none => false })

/-- ENUM completes (R17, R115): the reported kind is checked against LNK_KIND. -/
def State.enumDone (s : State) (n : Nat) : State :=
  if s.fld (Reg.LNK_HID n) 7 0 = s.linkKind n then s.trainTo n 3 else s.trainFail n 3

/-- The probes of an ALIGN attempt have been measured (R116, R117): a spread above 8 steps starts two more attempts; otherwise d and the
LEAD check decide, and OFS goes out in TIME_SET. ρ is the residual of R332. -/
def State.alignMeasured (s : State) (n minRtt maxRtt sumRtt : Nat) : State :=
  if 8 < maxRtt - minRtt then
    s.onLink n (fun l => if l.spreads < 2 then { l.startReqs probeReqs with spreads := l.spreads + 1 }
                         else { l.startReqs [] with tfail := 5 })
  else
    let h := s.fld (Reg.LNK_HSER_HI n) 31 16
    let lead := s.fld (Reg.LNK_CFG n) 7 0
    let d := cdiv ((sumRtt : Int) - 256 * h) 512 + s.sfld (Reg.LNK_CFG n) 15 8
    if lead < 48 || 200 < lead || (lead * 64 : Int) < d + 2816 then s.onLink n (fun l => { l.startReqs [] with tfail := 4 })
    else
      let rho : Int := if s.unit.pairMode then s.sfld Reg.PAIR_ALIGN 15 0 else 0
      let ofs : Int := lead * 64 - d - rho
      let rtt := (cdiv sumRtt 256).toNat % 65536
      let s := s.wrN (Reg.LNK_DLY n) (code 16 d + code 16 ofs * 65536)
      let s := s.wrN (Reg.LNK_RTT n) (rtt + rtt * 65536)
      s.onLink n (fun l => { l.startReqs [⟨3, BitVec.ofNat 96 (code 16 ofs)⟩] with lead := lead * 64 })

/-- A training state in which no reply comes (R108, R115, R132). R132 gives ALIGN no code for it: a free value. -/
def State.trainSilent (s : State) (n : Nat) : State :=
  match s.linkState n with
  | 1 => s.trainFail n 1
  | 2 => s.trainFail n 2
  | 3 => let w := s.takeWord
         w.2.trainFail n (fieldOf w.1 3 0)
  | 4 => s.trainFail n 6
  | _ => s

/-- A training state completes by what its frames have shown (R115, R117): it fails with the code a reply has brought, and goes on once
every request has been answered; LOCK once the receiver is aligned and has adopted FCNT. -/
def State.trainDone (s : State) (n : Nat) : State :=
  let l := s.link n
  if l.tfail ≠ 0 then s.trainFail n l.tfail
  else if !l.req.isEmpty then s
  else match s.linkState n with
    | 1 => if l.aln = 64 && l.rx.isSome then s.trainTo n 2 else s
    | 2 => s.enumDone n
    | 3 => s.trainTo n 4
    | 4 => s.trainUp n
    | _ => s

/-- A whole training state of link `n` at once, by what the head shows in it (R59, R115): step 6 of a start. -/
def State.trainWhole (s : State) (n : Nat) (r : TrainReply) : State :=
  match s.linkState n, r with
  | 1, .locked true => s.trainTo n 2
  | 2, .enum k v c q h sn => (s.enumReply n k v c q h sn).enumDone n
  | 3, .align a b t refused =>
    let s := s.alignMeasured n a b t
    let l := s.link n
    if l.tfail ≠ 0 then s.trainFail n l.tfail
    else if l.spreads ≠ 0 && l.req == probeReqs then s
    else if refused then s.trainFail n 7
    else s.trainTo n 4
  | 4, .config ok hsrc => if ok then (s.onLink n (fun l => { l with hsrc := hsrc })).trainUp n else s.trainFail n 6
  | _, .locked false => s.trainSilent n
  | _, .noReply => s.trainSilent n
  | _, _ => s

/-- A training state of link `n` ends (R115): by its frames, or without them when its time has passed. -/
def State.trainStep (s : State) (n : Nat) (r : TrainReply) : State :=
  if !s.linkTx n then s
  else match r with
    | .shown => s.trainDone n
    | .noReply => if (s.link n).tfail ≠ 0 then s.trainDone n else s.trainSilent n
    | _ => s

/-! ## Replies of the head (R107, R108) -/

/-- A reply to the outstanding request (R107, R115, R116): an echoed probe is measured, a register written is compared with its
read-back, and a register read is kept. -/
def State.ctrlReplied (s : State) (n : Nat) (r : CtrlReq) (p : BitVec 96) (rtt : Nat) : State :=
  let v := p.toNat
  let go (s : State) := s.onLink n (·.nextReq)
  match r.kind with
  | 1 => go (s.enumReply n (v / 2 ^ 88 % 256) (v / 2 ^ 80 % 256) (v / 2 ^ 72 % 256) (v / 2 ^ 64 % 256) (v / 2 ^ 48 % 65536)
      (p.extractLsb' 0 48))
  | 2 =>
    if v % 256 = r.payload.toNat % 256 then
      let s := go (s.onLink n (fun l => { l with pmin := min l.pmin rtt, pmax := max l.pmax rtt, psum := l.psum + rtt }))
      let l := s.link n
      if l.req.isEmpty then s.alignMeasured n l.pmin l.pmax l.psum else s
    else s
  | 4 =>
    if p.extractLsb' 0 32 = r.payload.extractLsb' 0 32 then go s
    else s.onLink n (fun l => { l.startReqs [] with tfail := 6 })
  | 5 => go (s.onLink n (fun l => { l with hsrc := l.hsrc ++ [word (v % 2 ^ 32)] }))
  | _ => go s

/-- A refusal of the outstanding request (R107, R132): skew of TIME_SET and any of HREG_WR fail the state; another one is no reply. -/
def State.ctrlRefused (s : State) (n : Nat) (r : CtrlReq) (reason : Nat) : State :=
  if r.kind = 3 && reason = 3 then s.onLink n (fun l => { l.startReqs [] with tfail := 7 })
  else if r.kind = 4 then s.onLink n (fun l => { l.startReqs [] with tfail := 6 })
  else s

/-- An upstream control frame in training (R107): a reply has RKIND = CKIND + 0x80 and RSEQ = CSEQ, a refusal RKIND = 0xFF. -/
def State.ctrlFrameRx (s : State) (n : Nat) (c : UpCtrl) (rtt : Nat) : State :=
  let l := s.link n
  match l.req, l.wait with
  | r :: _, some _ =>
    if c.rseq = l.cseq && c.rkind = r.kind + 0x80 then s.ctrlReplied n r c.payload rtt
    else if c.rseq = l.cseq && c.rkind = 0xFF then s.ctrlRefused n r (c.payload.toNat % 256)
    else s
  | _, _ => s

/-- CONTROL_REQUEST_RESEND (R108): no reply for 32 link frames; the request is sent again, up to three times, and then the step
fails. -/
def execControlRequestResend (n : Fin 16) (s : State) : Host.Outcome State Fault Refusal :=
  let l := s.link n
  match l.req, l.wait with
  | _ :: _, some k =>
    if !(s.runs && s.linkTx n) || decide (k < 32) then .next s
    else if l.resends < 3 then .next (s.onLink n (fun l => { l with resends := l.resends + 1, wait := none }))
    else .next (s.trainSilent n)
  | _, _ => .next s

/-- Start again from LOCK (R117): a domain reset of R43. -/
def State.retrainLink (s : State) (n : Nat) : State :=
  ((s.trainTo n 1).bump (Reg.LNK_RETRAIN n) 15 0 1).flushCrossing

/-! ## Head register accesses (R133) -/

/-- The access in progress on link `n` ends: `ok`, with the value read. `diff` marks a write whose value read back differs after three
attempts, which raises HREG_FAIL (R133). -/
def State.accessDone (s : State) (n : Nat) (ok diff : Bool) (v : Word) : State :=
  match (s.link n).acc with
  | none => s
  | some a =>
    let s := s.onLink n (fun l => { l with acc := none })
    let s := match a.acc.owner with
      | .user =>
        let s := (s.setBit (Reg.LNK_HREG_CTL n) 29 false).setBit (Reg.LNK_HREG_CTL n) 28 (!ok)
        if ok && !a.acc.write then s.wr (Reg.LNK_HREG_DATA n) v else s
      | .feeder f => s.fdrHeadDone f ok
      | .chan => s
    if diff then s.raise (E.HREG_FAIL n) else s

/-- Another attempt of the access in progress, or its failure after three (R133). -/
def State.accessRetry (s : State) (n : Nat) (diff : Bool) (v : Word) : State :=
  match (s.link n).acc with
  | none => s
  | some a =>
    if 3 ≤ a.attempt then s.accessDone n false diff v
    else s.onLink n (fun l => { l with acc := some { a with attempt := a.attempt + 1, frames := 0, got := [] },
                                       cmds := l.cmds ++ accessUnits a.acc })

/-- A REPLY word for the access in progress (R101): the echo of the address, then the data. A bad or missing upstream frame hides the
REPLY slots of its row, and the next one received is taken as the word that was due (DESIGN CHOICE, log 119). -/
def State.accessWord (s : State) (n w : Nat) : State :=
  match (s.link n).acc with
  | none => s
  | some a =>
    if a.got.isEmpty then
      if w = 0xA000 + a.acc.addr / 4 % 4096 then s.onLink n (fun l => { l with acc := some { a with got := [w] } }) else s
    else if a.got.length = 1 then s.onLink n (fun l => { l with acc := some { a with got := a.got ++ [w] } })
    else
      let v := word (a.got.getD 1 0 + 65536 * w)
      if !a.acc.write || v == a.acc.data then s.accessDone n true false v else s.accessRetry n true v

/-- Frames without a reply before an attempt ends, as R108 counts them for control requests. -/
def replyFrames : Nat := 32

/-- One link frame of the access in progress. -/
def State.accessTick (s : State) (n : Nat) : State :=
  match (s.link n).acc with
  | none => s
  | some a =>
    if replyFrames ≤ a.frames then s.accessRetry n false 0
    else s.onLink n (fun l => { l with acc := some { a with frames := a.frames + 1 } })

/-- A write of LNK_HREG_CTL (R133). -/
def State.hregCtl (s : State) (n : Nat) (v : Word) : State :=
  if s.bit (Reg.LNK_HREG_CTL n) 29 then s.setBit (Reg.LNK_HREG_CTL n) 30 (bitOf v 30)
  else
    let s := s.setBit (Reg.LNK_HREG_CTL n) 30 (bitOf v 30)
    if bitOf v 31 then
      if s.linkUp n then
        let a : HeadAccess := { owner := .user, write := !bitOf v 30, addr := s.fld (Reg.LNK_HREG_ADDR n) 15 2 * 4,
                                data := s.rd (Reg.LNK_HREG_DATA n) }
        ((s.setBit (Reg.LNK_HREG_CTL n) 29 true).setBit (Reg.LNK_HREG_CTL n) 28 false).addAccess n a
      else s.setBit (Reg.LNK_HREG_CTL n) 28 true
    else s

/-! ## Link down (R120, R117, R131) -/

/-- Accesses of a link that goes down fail (R133). -/
def State.dropAccesses (s : State) (n : Nat) : State :=
  let s := s.accessDone n false false 0
  let q := (s.link n).accq
  q.foldl (fun s a =>
    (s.onLink n (fun l => { l with acc := some { acc := a, attempt := 3, frames := 0, got := [] } })).accessDone n false false 0)
    (s.onLink n (fun l => { l with accq := [] }))

/-- What waits on a link that leaves UP is lost (R133), and the head values of its feeders are due again in the next
CONFIG (R263). A standby's own link-down changes no feeder state (R273). -/
def State.linkLost (s : State) (n : Nat) : State :=
  let s := (s.dropAccesses n).onLink n (fun l =>
    { l with edges := [], flight := [], cmds := [], cmdPos := 0, cmdFly := false, badRun := 0, dnRun := 0, digestOk := false })
  if s.unit.pairMode && s.role != 2 then s
  else (s.linkFeeders n).foldl (fun s f =>
    (s.onFd f (fun d => { d with sent := none, dirty := true, writes := 0 })).setBit (Reg.FDR_CTL f) 27 true) s

/-- Link `n` is declared down (R120) with the reason of LINK_FAULT. -/
def State.linkDown (s : State) (n reason : Nat) : State :=
  let s :=
    if s.unit.pairMode && s.role != 2 then s
    else (s.linkSafe n).fault 2 n reason
  ((s.linkLost n).trainTo n 6).raise (E.LINK_DOWN n)

/-- Link `n` is disabled while UP (R117, R131): its transmitter is idle, and its channels stay in their safe states. Nothing declares the
link down, so R120's word, event and fault do not follow (DEDUCED). -/
def State.linkOff (s : State) (n : Nat) : State :=
  let s := s.setBit (Reg.LNK_CTL n) 0 false
  let s := if s.unit.pairMode && s.role != 2 then s else s.linkSafe n
  s.linkLost n

/-- A cause of R120 stands on a link: 3 bad or missing frames, 3 good frames with DNERR, or 16 frames without SYNC (R90). -/
def LinkSt.downFor (l : LinkSt) : DownCause → Bool
  | .badFrames => decide (3 ≤ l.badRun)
  | .dnErr     => decide (3 ≤ l.dnRun)
  | .alignment => decide (16 ≤ l.lost)

/-- The reason by which LINK_DOWN and its fault name a cause (R120). -/
def downReason : DownCause → Nat
  | .badFrames => 1
  | .dnErr     => 2
  | .alignment => 3

/-- LINK_DOWN (R90, R120): an UP link is declared down for a cause that stands; which one is named where several stand is the command's
(DESIGN CHOICE, log 137). -/
def execLinkDown (n : Fin 16) (cause : DownCause) (s : State) : Host.Outcome State Fault Refusal :=
  if s.linkUp n && (s.link n).downFor cause then .next (s.linkDown n (downReason cause)) else .next s

/-- A write of LNK_CTL (R131): EN and RETRAIN. RETRAIN of an enabled link that is not UP takes it to state 6 with no FORCE, LINK_DOWN or
fault: what R120 declares down is a link that was UP (DEDUCED, log 57). -/
def State.lnkCtl (s : State) (n : Nat) (v : Word) : State :=
  let was := s.bit (Reg.LNK_CTL n) 0
  let en := bitOf v 0
  if !en then
    let s := if s.linkUp n then s.linkOff n else s
    (s.setBit (Reg.LNK_CTL n) 0 false).trainTo n 0
  else
    let s := s.setBit (Reg.LNK_CTL n) 0 true
    if !was then s.trainTo n 1
    else if bitOf v 31 then (if s.linkUp n then s.linkDown n 0 else s.trainTo n 6)
    else s

/-- Channel settings of a commit that changed PT_DT (R202). -/
def State.sendDeadTime (s : State) (i : Nat) : State :=
  if s.phValid i && !s.phLocal i && s.linkUp (s.phWhere i) then
    s.addAccess (s.phWhere i) { owner := .chan, write := true, addr := 0x204 + 0x20 * s.phCh i, data := s.rd (Reg.PT_DT i) }
  else s

/-- The sample map of link `n` goes to the head after a LINK commit (R101). -/
def State.sendSmap (s : State) (n : Nat) : State :=
  if s.linkUp n then
    (List.range 7).foldl (fun s i =>
      s.addAccess n { owner := .chan, write := true, addr := 0x20 + 4 * i, data := s.rd (Reg.LNK_SMAP n i) }) s
  else s

/-- The gait-frame boundary at which a waiting injection starts to count (R375). -/
def State.injOpen (s : State) : State :=
  match s.linj with
  | some x => { s with linj := some { x with open_ := true } }
  | none => s

end Sys2Proof.Machine
end

