-- ==== Sys2Proof/Machine/Deliver.lean ====
section
/-!
DEFINITION. Calibration and delivery of samples to every consumer (R234, R239, R293, R300, R301, R306 to R311).
-/

namespace Sys2Proof.Machine

/-! ## Routed actions (R208, R307) -/

/-- OFF of phase `i` for the rest of its present period (R208): a turn-on of that period that is not committed is not
sent, and one of a local channel that has yet to act does not. -/
def State.phaseOff (s : State) (i : Nat) : State :=
  let t := s.now
  let cut := (s.ph i).pulses.filter (fun p => decide (p.start ≤ t) && decide (t < p.start + p.len) && !s.turnedOn i p)
  let due := ((s.ph i).pulses.filter (fun p => decide (p.start ≤ t) && decide (t < p.start + p.len))).filterMap (·.on)
  let s := (cut.foldl (fun s p => s.unplace i p) s).noteEdge i 2 t
  if s.phLocal i then
    let n := s.phWhere i
    let dt := s.fld (Reg.PT_DT i) 16 0
    let s := s.onLc n (fun l => { l with edges := l.edges.filter (fun e => !(e.ev == 1 && due.contains e.at_)) })
    s.onLc n (fun l => l.edge { ch := 0, ev := 2, at_ := t } dt)
  else s.reflexPhases 1 [i]

/-- An action on `tgt` at least as strong has been taken in this CK_CTL cycle: the same one, or FORCE where OFF is asked (R307). -/
def State.actTaken (s : State) (act tgt : Nat) : Bool :=
  s.meas.acted.any (fun r => r.at_ == s.time.mono && r.tgt == tgt && (r.act == act || (r.act == 2 && act == 1)))

/-- The action of a routing word, not yet taken in this cycle, on the target (R307). OFF is the part that `repeated` further samples
take. -/
def State.actOn (s : State) (act tgt addr : Nat) (repeated : Bool) : State :=
  match act with
  | 1 => if tgt < 128 && s.phValid tgt then s.phaseOff tgt else s
  | 2 =>
    if repeated then s
    else if tgt < 128 && s.phValid tgt then (s.fault 17 tgt (addr % 128 + 2 ^ 24)).phaseForce tgt else s
  | 3 => if repeated then s else if tgt < 64 then s.tripReflex tgt 3 false else s
  | 4 => if repeated then s
         else if tgt < 32 then (s.fault 17 tgt (addr % 128 + 2 * 2 ^ 24)).stageFaultSafe tgt 11 false else s
  | _ => s

/-- Take the action of a routing word (R307), once in a CK_CTL cycle on one target. `addr` names the monitor or comparator. -/
def State.routeAct (s : State) (route : Word) (addr : Nat) (repeated : Bool) : State :=
  let tgt := fieldOf route 7 0
  let act := fieldOf route 31 28
  if s.actTaken act tgt || act = 0 || 4 < act || (repeated && act != 1) then s
  else
    let r : RouteAct := { at_ := s.time.mono, act := act, tgt := tgt }
    let l : List RouteAct := s.meas.acted.filter (fun x => x.at_ == r.at_)
    let s := { s with meas := { s.meas with acted := l ++ [r] } }
    s.actOn act tgt addr repeated

/-- Whether SIDE of a routing word names the side `up` (R307). -/
def sideNamed (route : Word) (up : Bool) : Bool :=
  match fieldOf route 27 26 with
  | 1 => up
  | 2 => !up
  | _ => true

/-! ## Calibration (R293) -/

/-- y23 of a raw value under entry `e`, and whether it was clamped. -/
def State.calibrate (s : State) (e : Nat) (r : Int) : Int × Bool :=
  let y := cdiv (r * s.sfld (Reg.CAL_GAIN e) 31 0) 268435456 + s.sfld (Reg.CAL_OFS e) 23 0
  (satI 24 y, y != satI 24 y)

/-- y16 of a y23 value. -/
def toY16 (y : Int) : Int := satI 16 (cdiv y 256)

/-- Set OVR of the channel of entry `e` (R293). -/
def State.setOvr (s : State) (e : Nat) : State :=
  if e < 16 then s.setBit Reg.ADC_PSTAT e true
  else if e < 32 then s.setBit Reg.ADC_FSTAT (e - 16) true
  else if e < 48 then s.setBit Reg.ADC_PSTAT 16 true
  else s

/-! ## Statistics and energy (R300, R301) -/

/-- One sample into a statistics slot: a field that would exceed its range holds its limit and sets SAT. -/
def StatSt.add (x : StatSt) (y : Int) (spare : Bool) : StatSt :=
  let c := x.count + 1
  let t := x.sum + y
  let q := x.ssq + y.natAbs ^ 2
  let bad := decide (2 ^ 48 ≤ c) || t != satI 64 t || decide (2 ^ 96 ≤ q)
  { x with count := min c (2 ^ 48 - 1), sum := satI 64 t, ssq := min q (2 ^ 96 - 1), mn := min x.mn y, mx := max x.mx y,
           sat := x.sat || bad, spare := x.spare || spare }

/-- The visible value of an energy accumulator (R301). -/
def EnSt.visible (x : EnSt) : Int := x.e / 2 ^ 96

/-- A current sample of an energy accumulator. -/
def EnSt.addI (x : EnSt) (y : Int) (at_ : Nat) (ek : Nat) : EnSt :=
  match x.v, x.at_ with
  | some v, some t =>
    let d := at_ - t
    let cap := decide (2 ^ 24 < d)
    let d := min d (2 ^ 24)
    let e := x.e + v * y * d * ek
    { x with e := satI 160 e, at_ := some at_, gap := x.gap || cap, sat := x.sat || e != satI 160 e }
  | _, _ => { x with at_ := some at_ }

def State.enAt (s : State) (a : Nat) : EnSt := vget s.en a EnSt.initial
def State.onEn (s : State) (a : Nat) (f : EnSt → EnSt) : State := { s with en := vset s.en a (f (s.enAt a)) }

/-- A non-stale sample of entry `e` for the energy accumulators. -/
def State.energySample (s : State) (e : Nat) (y : Int) (at_ : Nat) : State :=
  (List.range 32).foldl (fun s a =>
    let w := s.rd (Reg.MET_EPAIR a)
    if bitOf w 31 then
      let s := if fieldOf w 8 0 = e then s.onEn a (fun x => { x with v := some y }) else s
      if fieldOf w 24 16 = e then
        let ek := s.rdN (Reg.MET_EK_LO a) + 2 ^ 32 * s.rdN (Reg.MET_EK_HI a)
        s.onEn a (fun x => x.addI y at_ ek)
      else s
    else s) s

/-! ## Window monitors (R306) -/

/-- State and count of monitor `m`. -/
def State.wmState (s : State) (m : Nat) : Nat := s.fld (Reg.WM_STAT m) 1 0
def State.wmCount (s : State) (m : Nat) : Nat := s.fld (Reg.WM_STAT m) 15 8
def State.wmUp (s : State) (m : Nat) : Bool := vget s.meas.wmUp m false
def State.wmSet (s : State) (m st n : Nat) (up : Bool) : State :=
  let s := s.wrN (Reg.WM_STAT m) (st + 256 * n)
  { s with meas := { s.meas with wmUp := vset s.meas.wmUp m up } }

/-- A non-stale sample at monitor `m`: its count, its return to IN, and a repeated OFF. -/
def State.wmSample (s : State) (m : Nat) (v : Int) : State :=
  let lo := s.sfld (Reg.WM_LIM m) 15 0
  let hi := s.sfld (Reg.WM_LIM m) 31 16
  let hys : Int := s.fld (Reg.WM_HYS m) 15 0
  let up := decide (hi < v)
  let dn := decide (v < lo)
  let st := s.wmState m
  let n := s.wmCount m
  let route := s.rd (Reg.WM_ROUTE m)
  let clear (s : State) : State := if bitOf route 25 then s.raise (E.WMON_CLEAR m) else s
  let count (side : Bool) (hit : Bool) : Nat := if hit then (if n != 0 && s.wmUp m == side then min (n + 1) 255 else 1) else 0
  match st with
  | 1 =>
    let s := s.wmSet m (if v < hi - hys then 0 else 1) (count false dn) false
    let s := if v < hi - hys then clear s else s
    if up && sideNamed route true then s.routeAct route m true else s
  | 2 =>
    let s := s.wmSet m (if lo + hys < v then 0 else 2) (count true up) true
    let s := if lo + hys < v then clear s else s
    if dn && sideNamed route false then s.routeAct route m true else s
  | _ => if up then s.wmSet m 0 (count true true) true
         else if dn then s.wmSet m 0 (count false true) false else s.wmSet m 0 0 (s.wmUp m)

/-- WMON_ENTRY (R306, R307): the count of a monitor has reached PERS. -/
def execWmonEntry (m : Fin 128) (s : State) : Host.Outcome State Fault Refusal :=
  if s.live && s.bit (Reg.WM_CFG m) 31 && decide (1 ≤ s.wmCount m) &&
      decide (max 1 (s.fld (Reg.WM_CFG m) 23 16) ≤ s.wmCount m) then
    let up := s.wmUp m
    let route := s.rd (Reg.WM_ROUTE m)
    let s := (s.wmSet m (if up then 1 else 2) 0 up).bump (Reg.WM_HITS m) 15 0 1
    let s := if bitOf route 25 then s.raise (if up then E.WMON_HIGH m else E.WMON_LOW m) else s
    .next (if sideNamed route up then s.routeAct route m false else s)
  else .next s

/-! ## Module inputs and bus droop (R234, R239) -/

/-- A non-stale sample at the input monitors of the modules and of the bus. -/
def State.inputSample (s : State) (e : Nat) (v : Int) : State :=
  let lo : Int := s.fld Reg.HU_INWIN 15 0
  let hi : Int := s.fld Reg.HU_INWIN 31 16
  let s := (List.range 16).foldl (fun s m =>
    if s.bit (Reg.SHM_CFG m) 16 && s.fld (Reg.SHM_CH m) 17 9 == e then
      let bad := decide (v < lo) || decide (hi < v)
      let b := if bad then min (vget s.shf.inBad m 0 + 1) 255 else 0
      let g := if bad then 0 else min (vget s.shf.inGood m 0 + 1) 255
      { s with shf := { s.shf with inBad := vset s.shf.inBad m b, inGood := vset s.shf.inGood m g } }
    else s) s
  if s.bit Reg.HU_CFG 30 && s.fld Reg.HU_BUS 8 0 == e then
    let low := decide (v < (s.fld Reg.HU_BUS 31 16 : Int))
    { s with shf := { s.shf with droopN := if low then min (s.shf.droopN + 1) 255 else 0, droop := s.shf.droop && low } }
  else s

/-- INP of R234. -/
def State.huInp (s : State) : Nat := max 1 (s.fld Reg.HU_CFG 24 21)

/-- MODULE_INPUT_FAILED (R234). -/
def execModuleInputFailed (m : Fin 16) (s : State) : Host.Outcome State Fault Refusal :=
  if s.live && !s.inFailed m && decide (s.huInp ≤ vget s.shf.inBad m 0) then
    let s := s.setBit Reg.SH_INFAIL m true
    .next { s with shf := { s.shf with redo := true } }
  else .next s

/-- MODULE_INPUT_RESTORED (R234). -/
def execModuleInputRestored (m : Fin 16) (s : State) : Host.Outcome State Fault Refusal :=
  if s.live && s.inFailed m && decide (s.huInp ≤ vget s.shf.inGood m 0) then
    let s := s.setBit Reg.SH_INFAIL m false
    .next { s with shf := { s.shf with redo := true } }
  else .next s

/-- BUS_DROOP (R239). -/
def execBusDroop (s : State) : Host.Outcome State Fault Refusal :=
  if s.live && s.bit Reg.HU_CFG 30 && decide (s.huInp ≤ s.shf.droopN) then
    .next { s with shf := { s.shf with droop := true } }
  else .next s

/-! ## Calibration procedure: samples (R295) -/

def State.calState (s : State) : Nat := s.fld Reg.CAL_STAT 31 28
def State.calCh (s : State) : Nat := s.fld Reg.CAL_STAT 8 0

/-- A procedure runs in one of its two phases (R295). -/
def State.calRuns (s : State) : Bool := s.calState == 1 || s.calState == 3

/-- Entry `e` is under a calibration procedure, which lasts from its CAL_ZERO to READY (R292, R295). -/
def State.underCal (s : State) (e : Nat) : Bool := (s.calRuns || s.calState == 2) && s.calCh == e

/-- A rotation step is in progress (R285). -/
def State.rotPhase (s : State) : Nat := s.fld Reg.ADC_ROTSTAT 6 4

/-- Exponent k of the averages (R295). -/
def State.calK (s : State) : Nat := max 4 (min 20 (s.fld Reg.CAL_AVG 4 0))

/-- A non-stale raw delivery of channel `e` at the procedure; `spare` for the spare's own result. -/
def State.calSample (s : State) (e : Nat) (r : Int) (spare : Bool) : State :=
  if s.calRuns && s.calCh == e && !(decide (e < 16) && s.rotPhase != 0) then
    let c := s.meas.cal
    let full := 2 ^ s.calK
    let c := if spare then
        (if 0 < c.skipS then { c with skipS := c.skipS - 1 }
         else if c.nS < full then { c with nS := c.nS + 1, sumS := c.sumS + r } else c)
      else
        (if 0 < c.skip then { c with skip := c.skip - 1 }
         else if c.n < full then { c with n := c.n + 1, sum := c.sum + r } else c)
    { s with meas := { s.meas with cal := c } }
  else s

/-! ## Path tests (R290, R291) -/

/-- The calibration entry under the test DAC in effect. -/
def State.tdacEntry (s : State) : Option Nat :=
  let w := s.meas.tst.tdac
  match fieldOf w 13 12 with
  | 1 => if fieldOf w 20 16 < 16 then some (fieldOf w 20 16) else none
  | 2 => if fieldOf w 20 16 < 16 then some (16 + fieldOf w 20 16) else none
  | _ => none

/-- Samples of entry `e` are stale because a path test runs on it. -/
def State.underTest (s : State) (e : Nat) : Bool :=
  s.tdacEntry == some e || s.meas.tst.hts.any (fun h => s.linkEntry h.link h.src == e)

/-- One upstream frame of link `n`: the 8 of a head test that has ended pass (R291). -/
def State.testFrame (s : State) (n : Nat) : State :=
  let step (h : HeadTest) : Option HeadTest :=
    match h.left with
    | some k => if h.link = n then (if k ≤ 1 then none else some { h with left := some (k - 1) }) else some h
    | none => some h
  { s with meas := { s.meas with tst := { s.meas.tst with hts := s.meas.tst.hts.filterMap step } } }

/-- A calibrated value of a channel under test joins TDRES, where that is the channel that was switched last (R290; DESIGN CHOICE,
log 134). -/
def State.testValue (s : State) (e : Nat) (v : Int) : State :=
  if s.meas.tst.shown == some e then
    let vs := (v :: s.meas.tst.vals).take 16
    let s := { s with meas := { s.meas with tst := { s.meas.tst with vals := vs } } }
    s.put Reg.ADC_TSTAT 15 0 (code 16 (cdiv (vs.foldl (· + ·) 0) vs.length))
  else s

/-! ## Delivery (R104, R185, R293) -/

/-- Put a sample into the fabric. -/
def State.pushSample (s : State) (e : Nat) (x : Sample) : State :=
  { s with chans := vset s.chans e ((x :: s.chan e).take histMax) }.traceDelivery e

/-- A stale delivery repeats the last calibrated value (R104). -/
def State.deliverStale (s : State) (e at_ gap : Nat) : State :=
  s.pushSample e { v := s.lastV e, stale := true, at_ := at_, gap := gap }

/-- Deliver raw value `r` of entry `e`, calibrated with entry `ce` (R293): a value under a path test is stale to every
consumer. -/
def State.deliver (s : State) (e ce : Nat) (r : Int) (at_ gap : Nat) (spare : Bool) : State :=
  let (y, ovr) := s.calibrate ce r
  let s := s.eccTouch 3 (Reg.CAL_GAIN ce)
  let s := if ovr then s.setOvr ce else s
  let v := toY16 y
  if s.underTest e then (s.testValue e v).deliverStale e at_ gap
  else
    let s := s.pushSample e { v := v, stale := false, at_ := at_, gap := gap }
    let s := { s with fine := vset s.fine e y }
    let s := if spare then s else s.calSample e r false
    let x := (vget s.stat e StatSt.initial).add y spare
    let s := { s with stat := vset s.stat e x }
    let s := s.energySample e y at_
    if s.halted then s
    else
      let s := (List.range 128).foldl (fun s m =>
        if s.bit (Reg.WM_CFG m) 31 && s.fld (Reg.WM_CFG m) 8 0 == e then s.wmSample m v else s) s
      let s := s.fdrSample e v
      let s := (List.range 32).foldl (fun s k =>
        if s.bit (Reg.ST_CFG k) 31 && s.fld (Reg.ST_VCH k) 8 0 == e then s.spurTest k v else s) s
      s.inputSample e v

end Sys2Proof.Machine
end

