-- ==== Sys2Proof/Machine/Measure.lean ====
section
/-!
DEFINITION. Converters, rotation, path tests, the calibration procedure and store, snapshots and roll-up, and comparators
(chapter 10).
-/

namespace Sys2Proof.Machine

/-! ## Shadow writes by hardware (R295, R471) -/

/-- A write accepted into a shadow register: its group becomes dirty (R471). -/
def State.shdStore (s : State) (a : Nat) (v : Word) : State :=
  let s := if 0x10000 ≤ a && a < 0x11000 then s.eccWrite 2 (shadowKeys + a) else s.eccWrite 7 a
  match groupOf a with
  | some g => (s.swr a v).setBit Reg.SYS_SHDDIRTY g true
  | none => s.swr a v

/-! ## Precision converters (R284, R285) -/

/-- Output period in CK_CTL cycles (R284). -/
def State.outPeriod (s : State) : Nat :=
  match s.fld Reg.ADC_PRATE 1 0 with
  | 0 => 80000
  | 1 => 32000
  | 2 => 16000
  | _ => 8000

/-- The precision channel whose input the spare delivers: the channel in work in phase 2, or a parked one (R285, R286). -/
def State.spareFor (s : State) : Option Nat :=
  if s.bit Reg.ADC_ROTSTAT 7 then some (s.fld Reg.ADC_ROTSTAT 11 8)
  else if s.rotPhase == 2 then some (s.fld Reg.ADC_ROTSTAT 3 0)
  else none

/-- Channel `c` is enabled. -/
def State.precOn (s : State) (c : Nat) : Bool := s.bit Reg.ADC_PCFG c

/-- A precision result of channel `k` as entry `k`, calibrated with entry `ce` (R284, R285). -/
def State.precDeliver (s : State) (k ce : Nat) (r : Int) (spare : Bool) : State :=
  let at_ := s.now - 96 * s.outPeriod
  let n := vget s.meas.pstale k 0
  if 0 < n then
    ({ s with meas := { s.meas with pstale := vset s.meas.pstale k (n - 1) } }).deliverStale k at_ 0
  else s.deliver k ce r at_ 0 spare

/-- Number of results that a rotation check averages: 2^SPAVG (R285). -/
def State.rotFull (s : State) : Nat := 2 ^ max 4 (min 10 (s.fld Reg.ADC_ROT 7 4))

/-- Value of a result in the running check: calibrated in an overlap, raw against a level of the test DAC (R285). -/
def State.rotValue (s : State) (spare : Bool) (r : Int) : Int :=
  let k := s.fld Reg.ADC_ROTSTAT 3 0
  if s.rotPhase == 2 || s.meas.rot.spareTest then r else (s.calibrate (if spare then 32 + k else k) r).1

/-- A result of one path: the first 4 of a check are discarded, the next 2^SPAVG summed (R285). -/
def RotAvg.take (a : RotAvg) (full : Nat) (v : Int) : RotAvg :=
  if 0 < a.skip then { a with skip := a.skip - 1 }
  else if a.n < full then { a with n := a.n + 1, sum := a.sum + v } else a

/-- A result of the own path of the channel in work, or of the spare, at the running check (R285). -/
def State.rotSample (s : State) (spare : Bool) (r : Int) : State :=
  if s.rotPhase == 0 then s
  else
    let v := s.rotValue spare r
    let x := s.meas.rot
    let x := if spare then { x with spare := x.spare.take s.rotFull v } else { x with own := x.own.take s.rotFull v }
    { s with meas := { s.meas with rot := x } }

/-- PRECISION_RESULT (R284, R285, R295): a result of channel 0 to 15, or of the spare. -/
def execPrecisionResult (c : Fin 17) (raw : BitVec 24) (s : State) : Host.Outcome State Fault Refusal :=
  let k : Nat := c
  let r := raw.toInt
  let endOf := r == 8388607 || r == -8388608
  if !s.runs then .next s
  else if k < 16 then
    if s.precOn k then
      let s := if endOf then s.setBit Reg.ADC_PSTAT k true else s
      let s := if s.spareFor == some k then s else s.precDeliver k k r false
      .next (if s.fld Reg.ADC_ROTSTAT 3 0 == k then s.rotSample false r else s)
    else .next s
  else
    let s := if endOf then s.setBit Reg.ADC_PSTAT 16 true else s
    match s.spareFor with
    | some k => .next ((s.precDeliver k (32 + k) r true).rotSample true r)
    | none =>
      let n := vget s.meas.pstale 16 0
      let s := { s with meas := { s.meas with pstale := vset s.meas.pstale 16 (n - 1) } }
      .next ((if s.calCh < 16 && n == 0 then s.calSample s.calCh r true else s).rotSample true r)

/-! ## Rotation (R285, R286) -/

/-- Rotation can start a step: enabled, none in progress, neither parked nor failed, and no calibration procedure on a precision channel
suspends it (R285, R286). -/
def State.rotMayStart (s : State) : Bool :=
  s.bit Reg.ADC_ROT 0 && s.rotPhase == 0 && !s.bit Reg.ADC_ROTSTAT 7 && !s.bit Reg.ADC_ROTSTAT 12 &&
    !(s.calRuns && decide (s.calCh < 16))

/-- A step is due in the frame whose turnover has a GFC that is a multiple of PER * 2^16, once the previous one has ended (R285). -/
def State.rotTurnover (s : State) : State :=
  let due := decide (s.gfcN % (max 1 (s.fld Reg.ADC_ROT 31 16) * 65536) = 0) && s.rotMayStart
  { s with meas := { s.meas with rot := { s.meas.rot with due := due } } }

/-- The enabled precision channel after `k`, wrapping from 15 to 0 (R285). -/
def State.nextPrec (s : State) (k : Nat) : Option Nat := ((List.range 16).map (fun i => (k + 1 + i) % 16)).find? (fun c => s.precOn c)

/-- ROTATION_STEP_START (R285): a due step starts unless rotation has stopped, a step runs, or a calibration procedure on a
precision channel suspends it. -/
def execRotationStepStart (s : State) : Host.Outcome State Fault Refusal :=
  if s.runs && s.meas.rot.due && s.rotMayStart then
    match s.nextPrec s.meas.rot.last with
    | some k =>
      let s := { s with meas := { s.meas with rot := { check := 0, spareTest := false, overlapBad := false, last := k,
                                                       due := false, own := RotAvg.fresh, spare := RotAvg.fresh } } }
      .next ((s.put Reg.ADC_ROTSTAT 3 0 k).put Reg.ADC_ROTSTAT 6 4 1)
    | none => .next s
  else .next s

/-- Change the rotation's record. -/
def State.onRot (s : State) (f : RotSt → RotSt) : State := { s with meas := { s.meas with rot := f s.meas.rot } }

/-- A rotation step ends (R286). -/
def State.rotEnd (s : State) (bad : Bool) : State :=
  let s := (s.put Reg.ADC_ROTSTAT 6 4 0).bump Reg.ADC_ROTSTAT 31 16 1
  if bad then s.raise (E.CAL_MISMATCH (s.fld Reg.ADC_ROTSTAT 3 0)) else s

/-- The averages of the running check are complete: of both paths in an overlap, of the tested path at a level (R285). -/
def State.rotComplete (s : State) : Bool :=
  let r := s.meas.rot
  let full := s.rotFull
  if s.rotPhase == 2 then decide (full ≤ r.own.n)
  else if r.spareTest then decide (full ≤ r.spare.n)
  else decide (full ≤ r.own.n) && decide (full ≤ r.spare.n)

/-- Nominal raw code of test-DAC level `i`: -0.75, 0 and +0.75 of full scale in turn (R285). -/
def rotLevel (i : Nat) : Int := 6291456 * ((i : Int) - 1)

/-- The finding of the running check (R285), on the means as they are, without rounding (DEDUCED, log 133): the difference of the two paths at most
SPTOL, or the path at a level within TTOL of its nominal code. -/
def State.rotPass (s : State) : Bool :=
  let r := s.meas.rot
  let near (a : RotAvg) : Bool := decide ((a.sum - rotLevel r.check * a.n).natAbs ≤ s.fld Reg.ADC_ROTTOL 31 16 * 256 * a.n)
  if s.rotPhase == 2 then near r.own
  else if r.spareTest then near r.spare
  else decide ((r.own.sum * r.spare.n - r.spare.sum * r.own.n).natAbs ≤ s.fld Reg.ADC_ROTTOL 15 0 * r.own.n * r.spare.n)

/-- The next check of a rotation step (R285): `f` changes its record, and its averages begin again. -/
def State.rotNext (s : State) (f : RotSt → RotSt) : State := s.onRot (fun r => { f r with own := RotAvg.fresh, spare := RotAvg.fresh })

/-- A finding of the running check takes the step on (R286). -/
def State.rotFound (s : State) (pass : Bool) : State :=
  let k := s.fld Reg.ADC_ROTSTAT 3 0
  let r := s.meas.rot
  match s.rotPhase with
  | 1 =>
    if r.spareTest then
      if !pass then
        let s := (s.setBit Reg.ADC_ROTSTAT 12 true).put Reg.ADC_ROTSTAT 6 4 0
        (s.fault 14 k 0).raise (E.SPARE_FAIL k)
      else if r.check < 2 then s.rotNext (fun r => { r with check := r.check + 1 })
      else (s.rotNext (fun r => { r with check := 0, spareTest := false })).put Reg.ADC_ROTSTAT 6 4 2
    else if pass then (s.rotNext id).put Reg.ADC_ROTSTAT 6 4 2
    else s.rotNext (fun r => { r with spareTest := true, overlapBad := true })
  | 2 =>
    if !pass then
      let s := ((s.setBit Reg.ADC_ROTSTAT 7 true).put Reg.ADC_ROTSTAT 11 8 k).put Reg.ADC_ROTSTAT 6 4 0
      (s.fault 13 k r.check).raise (E.PATH_PARKED k)
    else if r.check < 2 then s.rotNext (fun r => { r with check := r.check + 1 })
    else (s.rotNext (fun r => { r with check := 0 })).put Reg.ADC_ROTSTAT 6 4 3
  | 3 => s.rotEnd (r.overlapBad || !pass)
  | _ => s

/-- ROTATION_CHECK_DONE (R285, R286): on the channel in work, the averages of the check in progress are complete and decide its next
level, phase or finding. -/
def execRotationCheckDone (k : Fin 16) (s : State) : Host.Outcome State Fault Refusal :=
  if s.runs && s.rotPhase != 0 && s.fld Reg.ADC_ROTSTAT 3 0 == k.val && s.rotComplete then .next (s.rotFound s.rotPass) else .next s

/-! ## SAR sequencers (R287 to R289) -/

/-- The channel of entry `i` of core `c`'s list. -/
def State.seqChan (s : State) (c i : Nat) : Nat :=
  s.fld (if i < 8 then Reg.ADC_SEQ_LIST0 c else Reg.ADC_SEQ_LIST1 c) (4 * (i % 8) + 2) (4 * (i % 8))

/-- A trigger of core `c`'s sequence (R289). -/
def State.seqTrigger (s : State) (c : Nat) : State :=
  if !s.bit (Reg.ADC_SEQ_STAT c) 31 then
    { s.setBit (Reg.ADC_SEQ_STAT c) 31 true with meas := { s.meas with seqIdx := vset s.meas.seqIdx c 0 } }
  else if !s.bit (Reg.ADC_SEQ_STAT c) 30 then s.setBit (Reg.ADC_SEQ_STAT c) 30 true
  else
    let s := s.bump (Reg.ADC_SEQ_STAT c) 15 0 1
    if vget s.meas.seqSeen c false then s
    else { s with meas := { s.meas with seqSeen := vset s.meas.seqSeen c true } }.raise (E.ADC_OVERRUN c)

/-- SEQUENCE_TRIGGER (R288): a trigger of TRIG 1 to 5. -/
def execSequenceTrigger (core : Fin 2) (s : State) : Host.Outcome State Fault Refusal :=
  let t := s.fld (Reg.ADC_SEQ_CFG core) 3 0
  if s.runs && decide (1 ≤ t) && decide (t ≤ 5) then .next (s.seqTrigger core) else .next s

/-- A write of ADC_SEQGO (R288): it triggers a core whose TRIG is 6, and, as in the worked example of R289, one that another source
triggers; TRIG 0, and the reserved values that act as 0, never start (DEDUCED, log 133). -/
def State.seqGo (s : State) (v : Word) : State :=
  [0, 1].foldl (fun s c =>
    let t := s.fld (Reg.ADC_SEQ_CFG c) 3 0
    if bitOf v c && decide (1 ≤ t) && decide (t ≤ 6) then s.seqTrigger c else s) s

/-- SAR_RESULT (R287, R289): the next result of a running sequence; the last one ends it. -/
def execSarResult (core : Fin 2) (raw : BitVec 16) (s : State) : Host.Outcome State Fault Refusal :=
  let c : Nat := core
  if s.runs && s.bit (Reg.ADC_SEQ_STAT c) 31 then
    let i := vget s.meas.seqIdx c 0
    let ch := 8 * c + s.seqChan c i
    let r := raw.toInt
    let s := if 32764 ≤ r || r = -32768 then s.setBit Reg.ADC_FSTAT ch true else s
    let s := s.deliver (16 + ch) (16 + ch) (r * 256) (s.now - 14 * 64) 0 false
    let last := decide (s.fld (Reg.ADC_SEQ_CFG c) 7 4 ≤ i)
    let s := { s with meas := { s.meas with seqIdx := vset s.meas.seqIdx c (if last then 0 else i + 1) } }
    .next (if last then (s.setBit (Reg.ADC_SEQ_STAT c) 31 (s.bit (Reg.ADC_SEQ_STAT c) 30)).setBit (Reg.ADC_SEQ_STAT c) 30 false
           else s)
  else .next s

/-! ## Path tests (R290 to R292) -/

/-- A routed monitor or comparator watches entry `e` (R292). -/
def State.guarded (s : State) (e : Nat) : Bool :=
  (List.range 128).any (fun m => s.bit (Reg.WM_CFG m) 31 && s.fld (Reg.WM_CFG m) 8 0 == e && s.fld (Reg.WM_ROUTE m) 31 28 != 0) ||
    (List.range 16).any (fun k => e == 16 + k && s.bit (Reg.CMP_CFG k) 31 && s.fld (Reg.CMP_ROUTE k) 31 28 != 0)

/-- A context that is ARMED or RUNNING has entry `e` as an input (R292). -/
def State.inLoop (s : State) (e : Nat) : Bool :=
  (List.range 256).any (fun c => decide (2 ≤ s.cState c) && (List.range 4).any (fun i =>
    let w := s.cw c (0x10 + 4 * i)
    fieldOf w 31 28 == 1 && fieldOf w 8 0 == e))

/-- Refuse a path test on the channel of entry `e` (R292, R315): bit 31 TREF or 30 HREF. -/
def State.testRefuse (s : State) (bit e : Nat) : State := (s.setBit Reg.ADC_TSTAT bit true).raise (E.TEST_REFUSED (e % 256))

/-- A write of ADC_TDAC (R290, R292). -/
def State.tdacWrite (s : State) (v : Word) : State :=
  let ch := fieldOf v 20 16
  let tgt := fieldOf v 13 12
  let e := if tgt = 1 then ch else 16 + ch
  let sw := (tgt == 1 || tgt == 2) && decide (ch < 16)
  let rot := tgt == 1 && ((s.rotPhase != 0 && s.fld Reg.ADC_ROTSTAT 3 0 == ch) ||
    (s.bit Reg.ADC_ROTSTAT 7 && s.fld Reg.ADC_ROTSTAT 11 8 == ch))
  if sw && (s.guarded e || s.inLoop e || s.underCal e || rot) then s.testRefuse 31 e
  else
    let s := s.wr Reg.ADC_TDAC (v &&& 0x401F3FFF)
    { s with meas := { s.meas with tst := { s.meas.tst with tdacReq := some (v &&& 0x401F3FFF) } } }

/-- The calibration entry of the source that a write of ADC_HTEST names. -/
def State.htestEntry (s : State) (v : Word) : Nat := s.linkEntry (fieldOf v 3 0) (fieldOf v 9 4)

/-- A write of ADC_HTEST (R291, R292): refused whatever its LEVEL, or it waits for the boundary. -/
def State.htestWrite (s : State) (v : Word) : State :=
  let n := fieldOf v 3 0
  let k := fieldOf v 9 4
  let e := s.htestEntry v
  let feeder := (s.linkFeeders n).any (fun f => (s.fdrState f == 1 || s.fdrState f == 2) && (k == 2 * s.fdrPh f || k == 2 * s.fdrPh f + 1))
  if !s.linkUp n || decide (s.fld (Reg.LNK_HID n) 31 24 ≤ k) || feeder || s.guarded e || s.inLoop e || s.underCal e then s.testRefuse 30 e
  else
    let s := s.wr Reg.ADC_HTEST (v &&& 0xFFF)
    { s with meas := { s.meas with tst := { s.meas.tst with htReq := s.meas.tst.htReq ++ [v &&& 0xFFF] } } }

/-- A waiting write of ADC_TDAC takes effect (R290). -/
def State.tdacTurnover (s : State) : State :=
  match s.meas.tst.tdacReq with
  | none => s
  | some w =>
    let s := { s with meas := { s.meas with tst := { s.meas.tst with tdac := w, tdacReq := none } } }
    let s := match s.tdacEntry with
      | some e => { s with meas := { s.meas with tst := { s.meas.tst with shown := some e, vals := [] } } }
      | none => s
    s.setBit Reg.ADC_TSTAT 28 s.tdacEntry.isSome

/-- Path tests at a turnover (R290, R291): waiting writes take effect; TSRC goes out in the first frame after the boundary. -/
def State.testTurnover (s : State) : State :=
  let s := s.tdacTurnover
  let ws := s.meas.tst.htReq
  let s := { s with meas := { s.meas with tst := { s.meas.tst with htReq := [] } } }
  ws.foldl (fun s w => s.onLink (fieldOf w 3 0) (fun l => l.addTsrc (BitVec.ofNat 16 (0x4000 + fieldOf w 11 10 * 256 + fieldOf w 9 4)))) s

/-! ## The calibration procedure (R295, R296) -/

/-- End a procedure in ERROR (R296). -/
def State.calError (s : State) (err : Nat) : State :=
  ((s.put Reg.CAL_STAT 31 28 5).put Reg.CAL_STAT 27 24 err).raise (E.CAL_ERR (s.calCh % 256))

/-- Entry `e` delivers samples that a procedure can use (R296 cause 6). -/
def State.calChannelOk (s : State) (e : Nat) : Bool :=
  if e < 16 then s.precOn e
  else if e < 32 then true
  else if e < 64 then false
  else (List.range 16).any (fun n => s.linkKind n != 0 && (List.range 28).any (fun i =>
    decide (s.smapSlot n i < 64) && s.fld (Reg.LNK_CALBASE n) 8 0 + s.smapSlot n i == e))

/-- The checks of a command of CAL_CMD (R296): standby, token, channel. -/
def State.calRefusal (s : State) (e : Nat) : Option Nat :=
  if s.notActiveInPair then some 8
  else if !s.tokOk [3, 5] then some 5
  else if !s.calChannelOk e then some 6
  else none

def State.setCal (s : State) (c : CalProc) : State := { s with meas := { s.meas with cal := c } }

/-- A command that cannot start a procedure: it is an error of its own where none runs; a running one goes on (R295). -/
def State.calDeny (s : State) (e err : Nat) : State :=
  let s := if err = 5 then s.raise (E.MAINT_BUSY 0) else s
  if s.calRuns then (s.put Reg.CAL_STAT 27 24 err).raise (E.CAL_ERR (e % 256)) else (s.put Reg.CAL_STAT 8 0 e).calError err

/-- A write of CAL_CMD (R295, R296). -/
def State.calCmd (s : State) (v : Word) : State :=
  let e := fieldOf v 8 0
  let fresh : CalProc := { s.meas.cal with skip := 4, n := 0, sum := 0, skipS := 4, nS := 0, sumS := 0 }
  match fieldOf v 31 28 with
  | 1 =>
    match s.calRefusal e with
    | some r => s.calDeny e r
    | none =>
      if s.calRuns && s.calCh != e then s.calDeny e 7
      else (s.setCal { fresh with z := 0, zS := 0 }).wrN Reg.CAL_STAT (2 ^ 28 + e)
  | 2 =>
    match s.calRefusal e with
    | some r => s.calDeny e r
    | none =>
      if s.calRuns && s.calCh != e then s.calDeny e 7
      else if s.calState != 2 || s.calCh != e then (if s.calRuns then s.calError 1 else s.calDeny e 1)
      else (s.setCal { fresh with ref := s.sfld Reg.CAL_REF 23 0 }).wrN Reg.CAL_STAT (3 * 2 ^ 28 + e)
  | 3 => s.wrN Reg.CAL_STAT 0
  | _ => s

/-- GAIN and OFS from two means and the reference (R295); the error of R296 otherwise. -/
def calResult (z f ref : Int) : Except Nat (Int × Int) :=
  let d := f - z
  if ref = 0 || d = 0 || (0 < d) != (0 < ref) || d.natAbs < 4096 then .error 2
  else
    let g := cdiv (ref * 268435456) d
    let o := - cdiv (z * g) 268435456
    if 2147483648 ≤ g.natAbs || 8388608 ≤ o.natAbs then .error 3 else .ok (g, o)

/-- Write the result of a procedure into the shadow of an entry, with its METHOD, k and companion. -/
def State.calStore (s : State) (e : Nat) (r : Int × Int) (other : Option Nat) : State :=
  let base := 0x14000 + 0x40 * e
  let comp := match other with | some o => o + 1 | none => 0
  ((s.shdStore (Reg.CAL_GAIN e) (word (code 32 r.1))).shdStore (Reg.CAL_OFS e) (word (code 24 r.2))).swr base
    (word (1 + 256 * s.calK + 65536 * comp))

/-- CAL_AVERAGE_DONE (R295): the averages of the running phase are complete. READY waits while group CAL is locked (R296). -/
def execCalAverageDone (s : State) : Host.Outcome State Fault Refusal :=
  let c := s.meas.cal
  let full := 2 ^ s.calK
  let e := s.calCh
  let prec := decide (e < 16)
  let g := (groupOf (Reg.CAL_GAIN 0)).getD 0
  if s.runs && decide (full ≤ c.n) && (!prec || decide (full ≤ c.nS)) then
    let m := cdiv c.sum (full : Nat)
    let mS := cdiv c.sumS (full : Nat)
    match s.calState with
    | 1 => .next ((s.setCal { c with z := m, zS := mS }).put Reg.CAL_STAT 31 28 2)
    | 3 =>
      if s.commit.any (fun x => x.groups.testBit g) then .next s
      else match calResult c.z m c.ref, (if prec then calResult c.zS mS c.ref else .ok (0, 0)) with
        | .ok a, .ok b =>
          let s := s.calStore e a (if prec then some (32 + e) else none)
          let s := if prec then s.calStore (32 + e) b (some e) else s
          .next ((s.put Reg.CAL_STAT 31 28 4).raise (E.CAL_DONE (e % 256)))
        | .error x, _ => .next (s.calError x)
        | _, .error x => .next (s.calError x)
    | _ => .next s
  else .next s

/-- CAL_STALE_TIMEOUT (R296): no non-stale delivery for 1 s. -/
def execCalStaleTimeout (s : State) : Host.Outcome State Fault Refusal :=
  if s.runs && s.calRuns then .next (s.calError 4) else .next s

/-! ## The calibration store (R297, R298) -/

/-- The bytes of a calibration record (R298). -/
def State.calBytes (s : State) (e epoch : Nat) (m : Word) : List Byte :=
  let proc := bitOf m 0
  let comp := fieldOf m 31 16
  let body := leBytes 2 1 ++ leBytes 2 e ++ leBytes 4 epoch ++ leBytes 4 (s.rdN (Reg.CAL_GAIN e)) ++
    leBytes 4 (code 32 (s.sfld (Reg.CAL_OFS e) 23 0)) ++ (List.range 4).flatMap (fun i => leBytes 4 (s.rdN (Reg.CAL_TAG e i))) ++
    leBytes 6 s.time.wallSec ++ leBytes 2 (s.fld Reg.HK_TEMP 15 0) ++ leBytes 4 s.time.wallNs ++
    leBytes 1 (if proc then 0 else 1) ++ leBytes 1 (if proc then fieldOf m 15 8 else 0) ++
    leBytes 2 (if proc && comp != 0 then comp - 1 else 0xFFFF) ++ leBytes 4 s.gfcN ++ leBytes 8 s.time.mono.toNat
  body ++ leBytes 4 (crc32 body).toNat

/-- An epoch that the interval's flags name changes (R302). -/
def State.markMixed (s : State) (e : Nat) : State :=
  let one (s : State) (i : Nat) : State :=
    let x := vget s.stat i StatSt.initial
    { s with stat := vset s.stat i { x with mixed := true } }
  let s := one s e
  let s := if 32 ≤ e && e < 48 then one s (e - 32) else s
  (List.range 32).foldl (fun s a =>
    if s.fld (Reg.MET_EPAIR a) 8 0 == e || s.fld (Reg.MET_EPAIR a) 24 16 == e then s.onEn a (fun x => { x with mixed := true }) else s) s

/-- One entry that a CAL commit changed (R297). `m` is its METHOD word, and `carried` the epoch of an entry that the active unit
carried to this one (R299). Where a snapshot at the boundary has `closed` the interval of the old coefficients, no interval is mixed
(R302, R303). -/
def State.calApply (s : State) (m : Word) (e : Nat) (carried : Option Nat) (closed : Bool) : State :=
  let top := s.rdN Reg.CAL_GEPOCH
  let ep := match carried with
    | some x => x
    | none => (top + 1) % 2 ^ 32
  let s := (s.wrN Reg.CAL_GEPOCH (match carried with | some x => max top x | none => ep)).wrN (Reg.CAL_EPOCH e) ep
  let sec := s.time.wallSec
  let temp := s.fld Reg.HK_TEMP 15 0
  let s := (s.wrN (Reg.CAL_RWALL_LO e) (sec % 2 ^ 32)).wrN (Reg.CAL_RWALL_HI e) (sec / 2 ^ 32 % 65536 + temp * 65536)
  let s := s.wrN (Reg.CAL_INFO e) 6
  let bytes := s.calBytes e ep m
  let r : CalRec := { entry := e, epoch := ep, gain := s.rd (Reg.CAL_GAIN e), ofs := s.rd (Reg.CAL_OFS e),
                      tag := (List.range 4).map (fun i => s.rd (Reg.CAL_TAG e i)), sec := sec, temp := temp, bytes := bytes }
  let s := { s with meas := { s.meas with calPend := s.meas.calPend ++ [r] } }
  let s := s.put Reg.CAL_NVSTAT 15 0 s.meas.calPend.length
  let s := s.offer { kind := 6, sev := 2, inj := false, fwd := false, src := 0xFF, stamp := s.stamp, payload := bytes }
  (if closed then s else s.markMixed e).raiseWith (E.CAL_APPLIED (e % 256)) (leBytes 2 e) false false

/-- Put a record in the place of the older copy of its entry. -/
def storeCopy (r : CalRec) (l : List CalRec) : List CalRec :=
  let own := l.filter (fun x => x.entry == r.entry)
  if own.length < 2 then l ++ [r]
  else
    let old := (own.map (·.epoch)).foldl min (2 ^ 32)
    l.map (fun x => if x.entry = r.entry && x.epoch = old then r else x)

/-- The copy that a record of entry `e` is written to: the first free one, else the older (R297). -/
def copyOf (l : List CalRec) (e : Nat) : Nat :=
  match l.filter (fun x => x.entry == e) with
  | [] => 0
  | [_] => 1
  | a :: b :: _ => if b.epoch < a.epoch then 1 else 0

/-- CAL_RECORD_WRITE_DONE (R297): the oldest pending record has been written, and verifies or not. -/
def execCalRecordWriteDone (ok : Bool) (s : State) : Host.Outcome State Fault Refusal :=
  match s.meas.calPend with
  | [] => .next s
  | r :: rest =>
    if !s.awake then .next s else
    let copy := copyOf s.meas.store r.entry
    let s := { s with meas := { s.meas with calPend := rest } }
    let s := s.put Reg.CAL_NVSTAT 15 0 rest.length
    let s := if rest.any (fun x => x.entry == r.entry) then s else s.setBit (Reg.CAL_INFO r.entry) 2 false
    if ok then .next { s with meas := { s.meas with store := storeCopy r s.meas.store } }
    else .next ((s.bump Reg.CAL_NVSTAT 31 16 1).fault 15 (r.entry % 128) copy)

/-! ## Snapshots and roll-up (R302 to R304) -/

/-- Take the snapshot due at this boundary (R302). -/
def State.metSnap (s : State) : State :=
  let snaps := (List.range 512).map (fun i =>
    ({ s := vget s.stat i StatSt.initial, ep := s.rd (Reg.CAL_EPOCH i),
       ep2 := if i < 16 then s.rd (Reg.CAL_EPOCH (32 + i)) else 0 } : StatSnap))
  let s := { s with statSnap := s.statSnap.mapIdx (fun i x => snaps.getD i x), stat := Vector.replicate 512 StatSt.initial }
  let s := (List.range 32).foldl (fun s a =>
    let x := s.enAt a
    let v := code 64 x.visible
    let s := (s.wrN (Reg.MET_ESNAP_LO a) (v % 2 ^ 32)).wrN (Reg.MET_ESNAP_HI a) (v / 2 ^ 32)
    let s := s.wrN (Reg.MET_ESTAT a) (b2n x.mixed + 4 * b2n x.sat + 8 * b2n x.gap + 16 * b2n x.restart)
    let s := (s.wr (Reg.MET_EEPV a) (s.rd (Reg.CAL_EPOCH (s.fld (Reg.MET_EPAIR a) 8 0)))).wr (Reg.MET_EEPI a)
      (s.rd (Reg.CAL_EPOCH (s.fld (Reg.MET_EPAIR a) 24 16)))
    s.onEn a (fun x => { x with mixed := false, sat := false, gap := false, restart := false })) s
  let m := s.time.mono.toNat
  let s := (s.put Reg.MET_SNAPSTAT 15 0 (s.fld Reg.MET_SNAPSTAT 15 0 + 1)).wr Reg.MET_SGFC s.time.gfc
  let s := (s.wrN Reg.MET_SMONO_LO (m % 2 ^ 32)).wrN Reg.MET_SMONO_HI (m / 2 ^ 32)
  let s := (s.wrN Reg.MET_SWALL_NS s.time.wallNs).wrN Reg.MET_SWALL_SLO (s.time.wallSec % 2 ^ 32)
  (s.wrN Reg.MET_SWALL_SHI (s.time.wallSec / 2 ^ 32)).raise (E.SNAP_DONE 0)

/-- A snapshot has been taken at this boundary: a further one due at it is merged with it (R302). -/
def State.snapTaken (s : State) : Bool :=
  s.rdN Reg.MET_SMONO_LO + 2 ^ 32 * s.rdN Reg.MET_SMONO_HI == s.time.mono.toNat

/-- The boundary at which a snapshot is due (R302, R303). -/
def State.metTurnover (s : State) : State :=
  if s.bit Reg.MET_SNAPSTAT 31 then
    let s := s.setBit Reg.MET_SNAPSTAT 31 false
    if s.snapTaken then s
    else if s.bit Reg.MET_CTL 30 then
      ((s.setBit Reg.MET_SNAPSTAT 30 true).bump Reg.MET_SREFCNT 15 0 1).raise (E.SNAP_REFUSED 0)
    else s.metSnap
  else s

/-- A write of MET_CTL (R302, R303). -/
def State.metCtl (s : State) (v : Word) : State :=
  let s := s.wr Reg.MET_CTL (v &&& 0x60000000)
  if bitOf v 31 then s.setBit Reg.MET_SNAPSTAT 31 true else s

/-- Metering roll-up at a period start of function 5 (R304). -/
def State.rollUp (s : State) : State :=
  if s.periodStart 5 then
    let diff (a : Nat) : Int := (s.enAt a).visible - (s.enAt a).base
    let mask (g : Nat) : Word := match s.decision 5 with
      | some d => decWord d g
      | none => s.rd (Reg.MET_GRP g)
    let sums := (List.range 8).map (fun g =>
      ((List.range 32).filter (fun a => bitOf (mask g) a)).foldl (fun (p : Nat × Nat) a =>
        let d := diff a
        if 0 < d then (min (p.1 + d.toNat) (2 ^ 64 - 1), p.2) else (p.1, min (p.2 + d.natAbs) (2 ^ 64 - 1))) (0, 0))
    let s := { s with meas := { s.meas with gpos := s.meas.gpos.mapIdx (fun i _ => (sums.getD i (0, 0)).1),
                                            gneg := s.meas.gneg.mapIdx (fun i _ => (sums.getD i (0, 0)).2) } }
    (List.range 32).foldl (fun s a => s.onEn a (fun x => { x with base := x.visible })) s
  else s

/-- What a MET commit changes in the energy accumulators and the precision channels (R284, R301); `old` is the state before
it. -/
def State.metCommitted (s old : State) : State :=
  let s := (List.range 32).foldl (fun s a =>
    let w := s.rd (Reg.MET_EPAIR a)
    let o := old.rd (Reg.MET_EPAIR a)
    let s := if bitOf w 31 && !bitOf o 31 then s.onEn a (fun x => { x with v := none, at_ := none }) else s
    if fieldOf w 8 0 != fieldOf o 8 0 || fieldOf w 24 16 != fieldOf o 24 16 then
      s.onEn a (fun x => { x with e := 0, v := none, at_ := none, restart := true })
    else s) s
  let rate := s.fld Reg.ADC_PRATE 1 0 != old.fld Reg.ADC_PRATE 1 0
  let s := if rate then { s with meas := { s.meas with pstale := vset s.meas.pstale 16 3 } } else s
  (List.range 16).foldl (fun s c =>
    if s.precOn c && (rate || !old.precOn c) then { s with meas := { s.meas with pstale := vset s.meas.pstale c 3 } } else s) s

/-- A WMON commit (R306): a monitor newly enabled, or with a new channel, starts in IN with count 0. -/
def State.wmonCommitted (s old : State) : State :=
  (List.range 128).foldl (fun s m =>
    let w := s.rd (Reg.WM_CFG m)
    let o := old.rd (Reg.WM_CFG m)
    if bitOf w 31 && (!bitOf o 31 || fieldOf w 8 0 != fieldOf o 8 0) then s.wmSet m 0 0 false else s) s

/-! ## Comparators (R308 to R311) -/

/-- State of comparator `k` (R314): 0 INSIDE, 1 ABOVE, 2 BELOW. -/
def State.cmpState (s : State) (k : Nat) : Nat := s.fld Reg.CMP_OUT (2 * k + 1) (2 * k)

/-- Comparator `k` moves to state `st`: counted, raised where its outside output changes, and routed (R307, R310); `entry` counts it as
an entry, for routing and for events, even without a change (R309, R311). -/
def State.cmpMove (s : State) (k st : Nat) (entry : Bool) : State :=
  let was := s.cmpState k
  let route := s.rd (Reg.CMP_ROUTE k)
  let s := s.put Reg.CMP_OUT (2 * k + 1) (2 * k) st
  let s := if was = st then s else s.bump (Reg.CMP_CNT k) 15 0 1
  if was != st || entry then
    let s := if bitOf route 25 && (entry || (was != 0) != (st != 0)) then s.raise (E.CMP_CHANGE k) else s
    if st != 0 && sideNamed route (st == 1) then s.routeAct route k false else s
  else if st != 0 && sideNamed route (st == 1) then s.routeAct route k true
  else s

/-- The SAFE state of comparator `k` (R309). -/
def State.cmpSafe (s : State) (k : Nat) : Nat := let c := s.fld (Reg.CMP_CFG k) 29 28
  if c = 3 then 0 else c

/-- A CMP commit enables comparator `k` (R309). -/
def State.cmpCommitted (s old : State) : State :=
  (List.range 16).foldl (fun s k =>
    if s.bit (Reg.CMP_CFG k) 31 && !old.bit (Reg.CMP_CFG k) 31 && !s.bit Reg.CMP_STAT (16 + k) then
      (s.setBit Reg.CMP_STAT k true).cmpMove k (s.cmpSafe k) true
    else s) s

/-- One input tick of comparator `k` with input code `c` (R308, R309). -/
def State.cmpTick (s : State) (k c : Nat) : State :=
  let x : Int := c
  let lo : Int := s.fld (Reg.CMP_THR k) 9 0
  let hi : Int := s.fld (Reg.CMP_THR k) 25 16
  let hys : Int := s.fld (Reg.CMP_CFG k) 9 0
  let direct : Nat := if hi < x then 1 else if x < lo then 2 else 0
  if s.bit Reg.CMP_STAT k then
    if (decide (hi - hys ≤ x) && decide (x ≤ hi)) || (decide (lo ≤ x) && decide (x ≤ lo + hys)) then s
    else (s.setBit Reg.CMP_STAT k false).cmpMove k direct false
  else match s.cmpState k with
    | 1 => s.cmpMove k (if x < hi - hys then (if x < lo then 2 else 0) else 1) false
    | 2 => s.cmpMove k (if lo + hys < x then (if hi < x then 1 else 0) else 2) false
    | _ => s.cmpMove k direct false

/-- COMPARATOR_TICK (R308, R311): an input tick with the input codes, or every 2^CHKP ticks a check tick with the comparators
whose check fails. -/
def execComparatorTick (codes : List Nat) (failing : BitVec 16) (s : State) : Host.Outcome State Fault Refusal :=
  if !s.live then .next s
  else
    let ks := (List.range 16).filter (fun k => s.bit (Reg.CMP_CFG k) 31 && !s.bit Reg.CMP_STAT (16 + k))
    let n := s.meas.cmpTick + 1
    let chkp := max 4 (min 15 (s.fld Reg.CMP_TICK 11 8))
    if 2 ^ chkp ≤ n then
      let f := s.meas.cmpFail.mapIdx (fun k x => if ks.contains k then (if failing.getLsbD k then min (x + 1) 255 else 0) else x)
      .next { s with meas := { s.meas with cmpTick := 0, cmpChk := (s.meas.cmpChk + 1) % 4, cmpFail := f } }
    else
      let s := { s with meas := { s.meas with cmpTick := n } }
      .next (ks.foldl (fun s k => match codes[k]? with
        | some c => s.cmpTick k (min c 1023)
        | none => s) s)

/-- CMP_FAILED (R311): two consecutive failed checks. -/
def execCmpFailed (k : Fin 16) (s : State) : Host.Outcome State Fault Refusal :=
  if s.live && s.bit (Reg.CMP_CFG k) 31 && !s.bit Reg.CMP_STAT (16 + (k : Nat)) && decide (2 ≤ vget s.meas.cmpFail k 0) then
    let route := s.rd (Reg.CMP_ROUTE k)
    let act := fieldOf route 31 28
    let chk := (s.meas.cmpChk + 3) % 4
    let s := ((s.setBit Reg.CMP_STAT (16 + (k : Nat)) true).cmpMove k (s.cmpSafe k) true).raise (E.CMP_FAILED k)
    let scope := match act with | 1 => 1 | 2 => 1 | 3 => 4 | 4 => 2 | _ => 0
    if scope = 0 then .next (s.sendFault (s.faultMsg 18 0 4 0 ((k : Nat) + 16 * chk)))
    else .next (s.sendFault (s.faultMsg 18 1 5 (fieldOf route 7 0) ((k : Nat) + 16 * chk + scope * 2 ^ 24)))
  else .next s

end Sys2Proof.Machine
end

