-- ==== Sys2Proof/Machine/Commit.lean ====
section
/-!
DEFINITION. The commit mechanism (R34, R74 to R78, R509): requests, the checks of every group, application at a boundary,
DISCARD, and the maintenance of what each block keeps beside its registers.
-/

namespace Sys2Proof.Machine

/-! ## Values after the commit (R74) -/

/-- Register `a` of group `g` as it will stand after a commit of the groups in `m`. -/
def State.cv (s : State) (m g a : Nat) : Word := if m.testBit g then s.srd a else s.rd a

/-- A field of a register after the commit, unsigned. -/
def State.cvN (s : State) (m g a hi lo : Nat) : Nat := fieldOf (s.cv m g a) hi lo

/-- A field of a register after the commit, signed. -/
def State.cvS (s : State) (m g a hi lo : Nat) : Int := signed (hi + 1 - lo) (s.cvN m g a hi lo)

/-- A failed check (R78): ERR, the address at which the register is reached, and the low bit of the field. -/
structure CommitFail where
  err  : Nat
  addr : Nat
  lo   : Nat
  deriving DecidableEq, Repr

/-- A check that fails where `bad` holds. -/
def failIf (bad : Bool) (err addr lo : Nat) : Option CommitFail := if bad then some ⟨err, addr, lo⟩ else none

/-- The first failure of a list of checks. -/
def firstFail (l : List (Option CommitFail)) : Option CommitFail := l.findSome? id

/-! ## LINK (R77) -/

/-- Whether context `c` uses a sample or a phase of link `n`: a sample window on one of its 64 calibration entries or
anchored to one of its phases, or the duty of one of its phases (R77, R183, R185). -/
def State.ctxUsesLink (s : State) (c n : Nat) : Bool :=
  let base := s.fld (Reg.LNK_CALBASE n) 8 0
  let mine (i : Nat) : Bool := s.phValid i && !s.phLocal i && s.phWhere i == n
  (List.range 4).any (fun i =>
      let sel := s.cw c (0x10 + 4 * i)
      let w := s.cw c (0x100 + 4 * i)
      let e := fieldOf sel 8 0
      fieldOf sel 31 28 == 1 &&
        ((decide (base ≤ e) && decide (e < base + 64)) || (decide (2 ≤ fieldOf w 5 4) && mine (fieldOf w 14 8)))) ||
    (List.range 128).any (fun i => mine i && s.fld (Reg.PT_LOC i) 7 0 == c)

/-- LINK: no ARMED or RUNNING context uses a link whose kind changes. -/
def State.checkLink (s : State) (m : Nat) : Option CommitFail :=
  (List.range 16).findSome? (fun n =>
    failIf (s.cvN m 2 (Reg.LNK_KIND n) 1 0 != s.linkKind n &&
      (List.range 256).any (fun c => decide (2 ≤ s.cState c) && s.ctxUsesLink c n)) 4 (Reg.LNK_KIND n) 0)

/-! ## PHASE (R15, R77, R209) -/

/-- Addresses at which the phase and stage windows reach their registers (R78, R225). -/
def phaseAddr (o : Nat) : Nat := 0x2C00 + o

/-- PT_LOC of phase `i` after the commit. -/
def State.newLoc (s : State) (m i : Nat) : Word := s.cv m 3 (Reg.PT_LOC i)

/-- The location that PT_LOC names: local or not, link or channel, head channel. -/
def locOf (w : Word) : Bool × Nat × Nat := (bitOf w 30, fieldOf w 27 24, if bitOf w 30 then 0 else fieldOf w 22 20)

/-- The stage is in START or RUN. -/
def State.stageUp (s : State) (k : Nat) : Bool := s.stState k == 1 || s.stState k == 2

/-- An entry of the phase table, its fields from VALID down (R78): a stage in START or RUN that loses its last phase, a location that an
earlier entry names (a local one by its channel, a remote one by its head channel), a stage or a context that does not exist. -/
def State.checkPhaseEntry (s : State) (m i : Nat) : Option CommitFail :=
  let w := s.newLoc m i
  let old := s.rd (Reg.PT_LOC i)
  let so := fieldOf old 16 12
  let count (k : Nat) := ((List.range 128).filter (fun j => bitOf (s.newLoc m j) 31 && fieldOf (s.newLoc m j) 16 12 == k)).length
  let a := phaseAddr 0x100
  let leaves := bitOf old 31 && (!bitOf w 31 || fieldOf w 16 12 != so) && s.stageUp so && count so == 0
  firstFail [
    failIf (leaves && !bitOf w 31) 4 a 31,
    failIf (bitOf w 31 && (List.range i).any (fun j => bitOf (s.newLoc m j) 31 && locOf (s.newLoc m j) == locOf w)) 2 a
      (if bitOf w 30 then 24 else 20),
    failIf leaves 4 a 12,
    failIf (bitOf w 31 && !bitOf (s.cv m 3 (Reg.ST_CFG (fieldOf w 16 12))) 31) 6 a 12,
    failIf (bitOf w 31 && decide (s.boot.limits.contexts ≤ fieldOf w 7 0)) 6 a 0]

def State.checkStageEntry (s : State) (m k : Nat) : Option CommitFail :=
  let w := s.cv m 3 (Reg.ST_CFG k)
  let a := phaseAddr 0x200
  let same := ((List.range k).filter (fun j => bitOf (s.cv m 3 (Reg.ST_CFG j)) 31 &&
    s.cvN m 3 (Reg.ST_CFG j) 27 24 == fieldOf w 27 24)).length
  firstFail [
    failIf (!bitOf w 31 && s.stageUp k) 4 a 31,
    failIf (bitOf w 31 && decide (2 ≤ same)) 5 a 24,
    failIf (bitOf w 31 && decide (s.boot.limits.contexts ≤ fieldOf w 23 16)) 6 a 16]

def State.checkPhase (s : State) (m : Nat) : Option CommitFail :=
  ((List.range 128).findSome? (fun i => s.checkPhaseEntry m i)).orElse fun _ =>
    (List.range 32).findSome? (fun k => s.checkStageEntry m k)

/-! ## EDGE, SETPT, CURB, SPUR (R77) -/

/-- The stages in use after the commit. -/
def State.newStages (s : State) (m : Nat) : List Nat := (List.range 32).filter (fun k => bitOf (s.cv m 3 (Reg.ST_CFG k)) 31)

/-- The phases of stage `k` after the commit. -/
def State.newPhases (s : State) (m k : Nat) : List Nat :=
  (List.range 128).filter (fun i => bitOf (s.newLoc m i) 31 && fieldOf (s.newLoc m i) 16 12 == k)

def State.checkEdge (s : State) (m : Nat) : Option CommitFail :=
  ((List.range 128).findSome? (fun i =>
    failIf (bitOf (s.newLoc m i) 31 && decide (65536 < s.cvN m 4 (Reg.PT_DT i) 16 0)) 1 (phaseAddr 0x108) 0)).orElse fun _ =>
  (s.newStages m).findSome? (fun k =>
    let p := s.cvN m 4 (Reg.ST_PER k) 23 0
    let ps := s.newPhases m k
    firstFail [
      failIf (p == 0) 1 (phaseAddr 0x204) 0,
      failIf (ps.any (fun i => bitOf (s.newLoc m i) 30) && (decide (p < 10240) || decide (2560000 < p))) 1 (phaseAddr 0x204) 0,
      failIf (ps.any (fun i => decide (p ≤ 2 * s.cvN m 4 (Reg.PT_DT i) 16 0))) 2 (phaseAddr 0x204) 0])

def State.checkSetpt (s : State) (m : Nat) : Option CommitFail :=
  (s.newStages m).findSome? (fun k =>
    let v := s.cvS m 5 (Reg.ST_VSET k) 15 0
    firstFail [
      failIf (decide (v < s.cvS m 5 (Reg.ST_WIN k) 15 0) || decide (s.cvS m 5 (Reg.ST_WIN k) 31 16 < v)) 2 (phaseAddr 0x220) 0,
      failIf (s.cvN m 5 (Reg.ST_SLEW k) 23 0 == 0) 1 (phaseAddr 0x224) 0])

def State.checkCurb (s : State) (m : Nat) : Option CommitFail :=
  (s.newStages m).findSome? (fun k =>
    firstFail [
      failIf (decide (s.cvS m 6 (Reg.ST_CURB0 k) 31 16 < s.cvS m 6 (Reg.ST_CURB0 k) 15 0)) 2 (phaseAddr 0x228) 0,
      failIf (decide (s.cvS m 6 (Reg.ST_CURB1 k) 31 16 ≤ s.cvS m 6 (Reg.ST_CURB1 k) 15 0)) 2 (phaseAddr 0x22C) 0])

def State.checkSpur (s : State) (m : Nat) : Option CommitFail :=
  ((s.newStages m).filter (fun k => bitOf (s.cv m 3 (Reg.ST_CFG k)) 30)).findSome? (fun k =>
    let len := s.cvN m 7 (Reg.ST_SPUR2 k) 3 0
    firstFail [
      failIf (decide (s.cvS m 7 (Reg.ST_SPUR0 k) 31 16 ≤ s.cvS m 7 (Reg.ST_SPUR0 k) 15 0)) 2 (phaseAddr 0x230) 0,
      failIf (s.cvN m 7 (Reg.ST_SPUR2 k) 31 16 == 0) 1 (phaseAddr 0x238) 16,
      failIf (len == 0 || decide (8 < len)) 1 (phaseAddr 0x238) 0])

/-! ## FDR, WMON, CAL, MET (R77) -/

/-- FDR: the fast limits, the I²t pickup with and without the temperature model (R270), and the eight feeders of a head (R15). -/
def State.checkFdr (s : State) (m : Nat) : Option CommitFail :=
  let cfg (f : Nat) := s.cv m 8 (Reg.FDR_CFG f)
  ((List.range 64).filter (fun f => bitOf (cfg f) 31)).findSome? (fun f =>
    let head := ((List.range f).filter (fun j => bitOf (cfg j) 31 && fieldOf (cfg j) 27 24 == fieldOf (cfg f) 27 24)).length
    firstFail [
      failIf (decide (8 ≤ head)) 5 (Reg.FDR_CFG f) 24,
      failIf (s.cvN m 8 (Reg.FDR_FAST f) 31 16 == 0) 1 (Reg.FDR_FAST f) 16,
      failIf (s.cvN m 8 (Reg.FDR_FAST f) 15 0 == 0) 1 (Reg.FDR_FAST f) 0,
      failIf (decide (s.cvS m 8 (Reg.FDR_FAST f) 15 0 ≤
        (if bitOf (cfg f) 29 then (s.cvN m 8 (Reg.FDR_SLOW f) 15 0 : Int) else s.cvS m 8 (Reg.FDR_SLOW f) 15 0))) 2 (Reg.FDR_SLOW f) 0])

def State.checkWmon (s : State) (m : Nat) : Option CommitFail :=
  ((List.range 128).filter (fun i => bitOf (s.cv m 9 (Reg.WM_CFG i)) 31)).findSome? (fun i =>
    let lo := s.cvS m 9 (Reg.WM_LIM i) 15 0
    let hi := s.cvS m 9 (Reg.WM_LIM i) 31 16
    firstFail [
      failIf (s.cvN m 9 (Reg.WM_CFG i) 23 16 == 0) 1 0x4184 16,
      failIf (decide (hi ≤ lo)) 2 0x4188 0,
      failIf (decide (hi - lo ≤ (s.cvN m 9 (Reg.WM_HYS i) 15 0 : Int))) 2 0x418C 0])

def State.checkCal (s : State) (m : Nat) : Option CommitFail :=
  (failIf (!s.tokOk [3, 5]) 7 Reg.SYS_COMMIT 10).orElse fun _ =>
    (List.range 512).findSome? (fun e => failIf (s.cv m 10 (Reg.CAL_GAIN e) == 0) 1 0x3C94 0)

/-- Calibration entry `e` is a channel that exists after the commit (R294, R300): a local input, or an entry that the sample map of a link
with a head fills. -/
def State.channelExists (s : State) (m e : Nat) : Bool :=
  decide (e < 32) || (decide (64 ≤ e) && (List.range 16).any (fun n => s.cvN m 2 (Reg.LNK_KIND n) 1 0 != 0 &&
    (List.range 28).any (fun i =>
      let v := s.cvN m 2 (Reg.LNK_SMAP n (i / 4)) (8 * (i % 4) + 7) (8 * (i % 4))
      decide (v < 64) && s.fld (Reg.LNK_CALBASE n) 8 0 + v == e)))

/-- MET: each pair in use names a voltage and a current channel that exist. -/
def State.checkMet (s : State) (m : Nat) : Option CommitFail :=
  ((List.range 32).filter (fun e => bitOf (s.cv m 11 (Reg.MET_EPAIR e)) 31)).findSome? (fun e =>
    firstFail [
      failIf (!s.channelExists m (s.cvN m 11 (Reg.MET_EPAIR e) 24 16)) 6 0x3E44 16,
      failIf (!s.channelExists m (s.cvN m 11 (Reg.MET_EPAIR e) 8 0)) 6 0x3E44 0])

/-! ## SHF, MODE, PAIR, HK, CMP (R77) -/

/-- SHF: the weight tables, HU_PWU, the string locations and the power-good windows. -/
def State.checkShf (s : State) (m : Nat) : Option CommitFail :=
  let zero (a : Nat → Nat) : Bool := (List.range 4).all (fun i => s.cv m 12 (a i) == 0)
  let loc (b : Nat) := s.cv m 12 (Reg.BS_LOC b)
  let on (b : Nat) := bitOf (s.cv m 12 (Reg.BS_CH b)) 31
  let fixed := firstFail [
    failIf (zero Reg.SH_KT) 1 (Reg.SH_KT 3) 0,
    failIf (zero Reg.SH_KE) 1 (Reg.SH_KE 3) 0,
    failIf ((bitOf (s.cv m 12 Reg.HU_CFG) 31 || bitOf (s.cv m 12 Reg.SHF_CFG) 12) && s.cv m 12 Reg.HU_PWU == 0) 1
      Reg.HU_PWU 0]
  (fixed.orElse fun _ => ((List.range 8).filter on).findSome? (fun b =>
      firstFail [
        failIf (s.cvN m 2 (Reg.LNK_KIND (fieldOf (loc b) 3 0)) 1 0 != 3) 6 (Reg.BS_LOC b) 0,
        failIf ((List.range b).any (fun j => on j && fieldOf (loc j) 4 0 == fieldOf (loc b) 4 0)) 2 (Reg.BS_LOC b) 0])).orElse
    fun _ => (List.range 4).findSome? (fun k =>
      failIf (bitOf (s.cv m 12 (Reg.PG_CFG k)) 31 &&
        decide (s.cvS m 12 (Reg.PG_FWIN k) 31 16 ≤ s.cvS m 12 (Reg.PG_FWIN k) 15 0)) 2 (Reg.PG_FWIN k) 0)

/-- MODE (R253): 16 ≤ D ≤ 65,535 and D ≤ 2^PK, PK outside 10 to 22 acting as the nearer end. -/
def State.checkMode (s : State) (m : Nat) : Option CommitFail :=
  (List.range 7).findSome? (fun f =>
    let d := s.cvN m 13 (Reg.MB_MODE f) 31 16
    let pk := max 10 (min 22 (s.cvN m 13 (Reg.MB_MODE f) 12 8))
    firstFail [failIf (decide (d < 16)) 1 0x3200 16, failIf (decide (2 ^ pk < d)) 2 0x3200 8])

def State.checkPair (s : State) (m : Nat) : Option CommitFail :=
  let iv := s.cvN m 14 Reg.PAIR_REMINT 7 0
  let dw := s.cvN m 14 Reg.PAIR_REMINT 31 16
  firstFail [failIf (iv == 0 || decide (168 < iv)) 1 Reg.PAIR_REMINT 0, failIf (decide (60 * iv ≤ dw)) 2 Reg.PAIR_REMINT 0]

def State.checkHk (s : State) (m : Nat) : Option CommitFail :=
  firstFail [
    failIf (decide (s.cvS m 15 Reg.HK_TLIM 31 16 < s.cvS m 15 Reg.HK_TLIM 15 0 + 128)) 2 Reg.HK_TLIM 0,
    failIf (s.cvN m 15 Reg.HK_RATE 31 16 == 0) 1 Reg.HK_RATE 16,
    failIf (s.cvN m 15 Reg.HK_RATE 15 0 == 0) 1 Reg.HK_RATE 0]

def State.checkCmp (s : State) (m : Nat) : Option CommitFail :=
  ((List.range 16).filter (fun k => bitOf (s.cv m 16 (Reg.CMP_CFG k)) 31)).findSome? (fun k =>
    let lo := s.cvN m 16 (Reg.CMP_THR k) 9 0
    let hi := s.cvN m 16 (Reg.CMP_THR k) 25 16
    failIf (decide (hi ≤ lo) || decide (hi - lo ≤ s.cvN m 16 (Reg.CMP_CFG k) 9 0)) 2 (Reg.CMP_THR k) 0)

/-! ## The checks of a request (R77, R78) -/

/-- GAIT (R34): every context DISABLED or TETHERED, then the fit check; LE_SCHERR follows the fit check. -/
def State.checkGait (s : State) (m : Nat) : Option CommitFail × State :=
  if (List.range 256).any (fun c => decide (2 ≤ s.cState c)) then (some ⟨4, Reg.TIM_GAIT, 0⟩, s)
  else
    let f := s.fitFail (m.testBit 1) (gaitCycles (s.cvN m 0 Reg.TIM_GAIT 1 0))
    (f.map (fun x => ⟨x.err, x.addr, x.lo⟩), s.noteSched f)

/-- SCHED (R160). -/
def State.checkSched (s : State) (m : Nat) : Option CommitFail × State :=
  let f := s.schedFail (gaitCycles (s.cvN m 0 Reg.TIM_GAIT 1 0))
  (f.map (fun x => ⟨x.err, x.addr, x.lo⟩), s.noteSched f)

/-- Shadow words of the named groups that an uncorrectable error makes unreadable reject the commit with 0x01 (R368):
the first of them. A corrected word is reported and read. -/
def State.shadowEcc (s : State) (m : Nat) : Option Nat × State :=
  let mine (x : EccFlip) : Bool :=
    (x.region == 7 && (List.range 4).any (fun i => inGroups m (x.addr + 4 * i))) ||
      (x.region == 2 && decide (shadowKeys ≤ x.addr) && m.testBit 1)
  let fs := s.ecc.flips.filter mine
  let s := fs.foldl (fun s x => s.eccTake x false) s
  ((fs.find? (fun x => decide (2 ≤ x.bits.length))).map (fun x => x.addr % shadowKeys), s)

/-- The checks of group `g`. -/
def State.checkGroup (s : State) (m g : Nat) : Option CommitFail × State :=
  match g with
  | 0 => s.checkGait m
  | 1 => s.checkSched m
  | 2 => (s.checkLink m, s)
  | 3 => (s.checkPhase m, s)
  | 4 => (s.checkEdge m, s)
  | 5 => (s.checkSetpt m, s)
  | 6 => (s.checkCurb m, s)
  | 7 => (s.checkSpur m, s)
  | 8 => (s.checkFdr m, s)
  | 9 => (s.checkWmon m, s)
  | 10 => (s.checkCal m, s)
  | 11 => (s.checkMet m, s)
  | 12 => (s.checkShf m, s)
  | 13 => (s.checkMode m, s)
  | 14 => (s.checkPair m, s)
  | 15 => (s.checkHk m, s)
  | 16 => (s.checkCmp m, s)
  | _ => (none, s)

/-- The address at which the register with a key above 0xFFFF is reached (R78). -/
def reachedAt (a : Nat) : Nat :=
  if a < 0x10000 then a
  else if a < 0x11000 then 0x2024 + a % 8
  else if a < 0x12000 then 0x2D00 + a % 0x20
  else if a < 0x13000 then 0x2E00 + a % 0x80
  else if a < 0x1C000 then 0x3C80 + a % 0x40
  else if a < 0x1D000 then 0x3E40 + a % 0x40
  else if a < 0x1E000 then 0x4180 + a % 0x20
  else if a < 0x1E400 then 0xA28 + a % 0x10
  else if a < 0x1F000 then 0x460 + a % 0x10
  else if a < 0x20000 then 0x310 + a % 0x10
  else 0x3200 + a % 0x200

/-- All checks of the named groups, in group-bit order: the first failure with its group (R74, R78). -/
def State.commitChecks (s : State) (m : Nat) : Option (CommitFail × Nat) × State :=
  match s.shadowEcc m with
  | (some a, s) => (some (⟨1, reachedAt a, 0⟩, (groupOf a).getD 1), s)
  | (none, s) =>
    (List.range 17).foldl (fun (r : Option (CommitFail × Nat) × State) g =>
      if r.1.isSome || !m.testBit g then r
      else
        let (f, t) := r.2.checkGroup m g
        (f.map (fun x => (x, g)), t)) (none, s)

/-! ## Status (R78, R86) -/

/-- The outcome of a request in SYS_COMMITSTAT and SYS_COMMITERR. -/
def State.commitResult (s : State) (result err : Nat) (f : Option (CommitFail × Nat)) : State :=
  let s := (s.put Reg.SYS_COMMITSTAT 26 24 result).put Reg.SYS_COMMITSTAT 23 16 err
  match f with
  | some (x, g) => s.wrN Reg.SYS_COMMITERR (x.addr % 65536 + x.lo * 65536 + g * 0x1000000)
  | none => s.wrN Reg.SYS_COMMITERR 0

/-- SYS_COMMITSTAT.STATE: 0 idle, 1 checking, 2 waiting for boundary. -/
def State.commitState (s : State) (st : Nat) : State := s.put Reg.SYS_COMMITSTAT 31 30 st

/-- The request ends (R74, R75): SYS_COMMITGFC and the outcome. -/
def State.commitEnd (s : State) (result err : Nat) (f : Option (CommitFail × Nat)) : State :=
  (({ s with commit := none }.commitState 0).commitResult result err f).wr Reg.SYS_COMMITGFC s.time.gfc

/-! ## Application (R12, R74, R202, R212, R263, R297, R305, R306) -/

/-- Forget the METHOD of every calibration entry in the shadow (R298). -/
def State.calMethodClear (s : State) : State := (List.range 512).foldl (fun s e => s.swr (0x14000 + 0x40 * e) 0) s

/-- Phases whose location, stage or context a PHASE commit changes leave their place before it applies (R212). -/
def State.phaseLeave (s : State) : State :=
  (List.range 128).foldl (fun s i =>
    if s.phValid i && s.rd (Reg.PT_LOC i) != s.srd (Reg.PT_LOC i) && s.phState i == 1 then
      let s := (s.dropPulses i).onPh i (fun p => { p with pulses := [] })
      (s.put (Reg.PT_STAT i) 31 30 0).setBit (Reg.PT_STAT i) 25 false
    else s) s

/-- After a PHASE commit: local channels follow the table, and a stage in START or RUN whose phases changed is spaced again
(R205, R212). -/
def State.phaseCommitted (s old : State) : State :=
  let s := (List.range 16).foldl (fun s n => s.assignLocal n) s
  (List.range 32).foldl (fun s k =>
    if s.stageUp k then s.setActiveFrom k false (old.activePhases k != s.activePhases k) else s.countPhases k) s

/-- A changed dead time of phase `i` (R202): a local one holds for the edges committed after the boundary, a remote one goes to its
head. -/
def State.deadTimeCommitted (s old : State) (i : Nat) : State :=
  if s.phLocal i then
    s.onLc (s.phWhere i) (fun l => { l with dt0 := old.fld (Reg.PT_DT i) 16 0, dtAt := s.gaitStart })
  else s.sendDeadTime i

/-- After an EDGE commit (R202, R203): changed dead times, and stage periods that start after the boundary take a changed ST_PER or
ST_DITH, with the pattern reloaded. -/
def State.edgeCommitted (s old : State) : State :=
  let s := (List.range 128).foldl (fun s i =>
    if s.phValid i && s.rd (Reg.PT_DT i) != old.rd (Reg.PT_DT i) then s.deadTimeCommitted old i else s) s
  (List.range 32).foldl (fun s k =>
    if s.rd (Reg.ST_DITH k) != old.rd (Reg.ST_DITH k) || s.rd (Reg.ST_PER k) != old.rd (Reg.ST_PER k) then
      let s := s.onSg k (fun g => { g with r := s.ditherSeed k })
      if s.stageUp k then s.reform k true else s
    else s) s

/-- Whether a CAL commit changes entry `e`. -/
def State.calChanges (s : State) (e : Nat) : Bool :=
  s.srd (Reg.CAL_GAIN e) != s.rd (Reg.CAL_GAIN e) || s.srd (Reg.CAL_OFS e) != s.rd (Reg.CAL_OFS e) ||
    (List.range 4).any (fun i => s.srd (Reg.CAL_TAG e i) != s.rd (Reg.CAL_TAG e i))

/-- What a CAL commit of this unit carries to the partner: the changed entries from 64 on, with the epochs that they take (R297,
R299). -/
def State.calCarry (s : State) : List CalCarry :=
  let changed := (List.range 512).filter (fun e => s.calChanges e)
  (changed.zipIdx.filter (fun x => decide (64 ≤ x.1))).map (fun x =>
    { entry := x.1, epoch := (s.rdN Reg.CAL_GEPOCH + 1 + x.2) % 2 ^ 32, method := s.srd (0x14000 + 0x40 * x.1),
      gain := s.srd (Reg.CAL_GAIN x.1), ofs := s.srd (Reg.CAL_OFS x.1),
      tag := (List.range 4).map (fun i => s.srd (Reg.CAL_TAG x.1 i)) })

/-- The register of a calibration entry of this unit's own converters, 0 to 63 (R299). -/
def ownCal (a : Nat) : Bool := decide (0x14000 ≤ a) && decide (a < 0x15000)

/-- The entries that a CAL commit of the partner carries take the place of this unit's shadow of entries 64 to 511 (R299). -/
def State.calTake (s : State) (cal : List CalCarry) : State :=
  let s := { s with shadow := cellsCopy (fun a => inGroups (2 ^ 10) a && !ownCal a) s.reg s.shadow }
  cal.foldl (fun s c =>
    let s := (((s.swr (Reg.CAL_GAIN c.entry) c.gain).swr (Reg.CAL_OFS c.entry) c.ofs).swr (0x14000 + 0x40 * c.entry) c.method)
    (List.range 4).foldl (fun s i => s.swr (Reg.CAL_TAG c.entry i) (c.tag.getD i 0)) s) s

/-- The snapshot of a CAL commit's boundary, asked for or due with CALSNAP, is taken, or refused under LOCK, before the epochs change
(R302, R303; DEDUCED, log 133). -/
def State.calSnap (s : State) : State :=
  (if s.bit Reg.MET_CTL 29 then s.setBit Reg.MET_SNAPSTAT 31 true else s).metTurnover

/-- Each calibration entry whose GAIN, OFS or tag the commit changed, in ascending order (R297); a carried one has the epoch of
the active unit (R299). -/
def State.calCommitted (s old : State) (cal : List CalCarry) : State :=
  let s := s.calSnap
  let closed := s.snapTaken
  let s := (List.range 512).foldl (fun s e =>
    if s.rd (Reg.CAL_GAIN e) != old.rd (Reg.CAL_GAIN e) || s.rd (Reg.CAL_OFS e) != old.rd (Reg.CAL_OFS e) ||
        (List.range 4).any (fun i => s.rd (Reg.CAL_TAG e i) != old.rd (Reg.CAL_TAG e i)) then
      s.calApply (s.srd (0x14000 + 0x40 * e)) e ((cal.find? (fun c => c.entry == e)).map (·.epoch)) closed
    else s) s
  s.calMethodClear

/-- After a GAIT commit: a changed length is recorded (R34, R386). DESIGN CHOICE: a commit that leaves LEN as it is writes no record. -/
def State.gaitCommitted (s old : State) : State :=
  if s.gaitLen = old.gaitLen then s
  else s.offerNow 0x0005 2 (leBytes 1 old.gaitLen ++ leBytes 1 s.gaitLen ++ leBytes 2 0 ++ leBytes 4 s.gfcN)

/-- What each block does when its group has applied. -/
def State.committed (s old : State) (m : Nat) (cal : List CalCarry) : State :=
  let s := if m.testBit 0 then s.gaitCommitted old else s
  let s := if m.testBit 0 || m.testBit 1 then s.schedApplied else s
  let s := if m.testBit 2 then
      (List.range 16).foldl (fun s n =>
        if (List.range 7).any (fun i => s.rd (Reg.LNK_SMAP n i) != old.rd (Reg.LNK_SMAP n i)) then s.sendSmap n else s) s
    else s
  let s := if m.testBit 3 then s.phaseCommitted old else s
  let s := if m.testBit 4 then s.edgeCommitted old else s
  let s := if m.testBit 9 then s.wmonCommitted old else s
  let s := if m.testBit 10 then s.calCommitted old cal else s
  let s := if m.testBit 11 then s.metCommitted old else s
  let s := if m.testBit 13 then (List.range 7).foldl (fun s f => s.mbModeCommit f) s else s
  let s := if m.testBit 16 then s.cmpCommitted old else s
  if m.testBit 8 || m.testBit 10 then (List.range 64).foldl (fun s f => s.fdrCheckHead f) s else s

/-- Words of the tables that the copy writes, for an armed ECC injection (R368, R376). -/
def eccTableRegion (a : Nat) : Option Nat :=
  if 0x10000 ≤ a && a < 0x11000 then some 2
  else if 0x11000 ≤ a && a < 0x13000 then some 1
  else if 0x14000 ≤ a && a < 0x1C000 then some 3
  else none

/-- Copy the shadow banks of the groups in `m` into effect (R74); a commit of the partner leaves entries 0 to 63 (R299). -/
def State.commitCopy (s : State) (m : Nat) (own : Bool) : State :=
  let p (a : Nat) : Bool := inGroups m a && (own || !ownCal a)
  let s := (s.shadow.filter (fun e => p e.1)).foldl (fun s e =>
    match eccTableRegion e.1 with
    | some r => if s.rd e.1 = e.2 then s else s.eccWrite r e.1
    | none => s) s
  { s with reg := cellsCopy p s.shadow s.reg }

/-- Put the groups in `m` into effect: every value at once, then what each block does; the commit is counted in the
epoch and clears the dirty bits (R74, R334, R471). `fwd` is what a commit of the partner carries (R299). -/
def State.commitApply (s : State) (m : Nat) (fwd : Option (List CalCarry)) : State :=
  let old := s
  let s := if m.testBit 3 then s.phaseLeave else s
  let s := (s.commitCopy m fwd.isNone).committed old m (fwd.getD [])
  let s := { s with pair := { s.pair with epoch := s.pair.epoch + 1 } }
  s.wr Reg.SYS_SHDDIRTY (s.rd Reg.SYS_SHDDIRTY &&& ~~~word m)

/-- DISCARD (R74, R471). -/
def State.discardApply (s : State) (m : Nat) : State :=
  let s := { s with shadow := cellsCopy (inGroups m) s.reg s.shadow }
  let s := if m.testBit 10 then s.calMethodClear else s
  let s := if m.testBit 1 then s.schedStale else s
  s.wr Reg.SYS_SHDDIRTY (s.rd Reg.SYS_SHDDIRTY &&& ~~~word m)

/-! ## The request (R74 to R76) -/

/-- A write of SYS_COMMIT. -/
def State.commitWrite (s : State) (v : Word) : State :=
  let m := fieldOf v 16 0
  let d := bitOf v 31
  if s.notActiveInPair || s.bit Reg.SYS_STAT 1 then s.commitResult 3 0 none
  else if m = 0 && !d then s
  else if s.commit.isSome then s.commitResult 2 0 none
  else
    let s := { s with commit := some { groups := m, discard := d, wait := 0 } }
    (s.commitState 1).put Reg.SYS_COMMITSTAT 15 0 (s.fld Reg.SYS_COMMITSTAT 15 0 + 1)

/-- COMMIT_CHECKS_DONE (R74, R75, R77, R509): a DISCARD takes effect; a commit waits for its boundary, the second one on the
active unit of a pair, or is rejected. -/
def execCommitChecksDone (s : State) : Host.Outcome State Fault Refusal :=
  match s.commit with
  | none => .next s
  | some c =>
    if !s.awake || s.fld Reg.SYS_COMMITSTAT 31 30 != 1 then .next s
    else if c.discard then .next ((s.discardApply c.groups).commitEnd 4 0 none)
    else
      match s.commitChecks c.groups with
      | (some (f, g), s) => .next (s.commitEnd 1 f.err (some (f, g)))
      | (none, s) =>
        let s := { s with commit := some { c with wait := if s.unit.pairMode then 2 else 1 } }
        .next ((s.commitState 2).forward (.commit c.groups (if c.groups.testBit 10 then s.calCarry else [])))

/-- Step 1 of the turnover: the accepted commit whose boundary this is applies (R75, R155). -/
def State.commitTurnover (s : State) (fwd : Option (List CalCarry)) : State :=
  match s.commit with
  | none => s
  | some c =>
    if s.fld Reg.SYS_COMMITSTAT 31 30 != 2 then s
    else if 1 < c.wait then { s with commit := some { c with wait := c.wait - 1 } }
    else
      let s := match fwd with
        | some cal => if c.groups.testBit 10 then s.calTake cal else s
        | none => s
      (s.commitApply c.groups fwd).commitEnd 0 0 none

/-- Whether an SHD write to group `g` is locked (R76). -/
def State.groupLocked (s : State) (g : Nat) : Bool :=
  match s.commit with
  | some c => c.groups.testBit g
  | none => false

/-- An SHD write of register `a`, by the shadow mask of its row, reaches the shadow; a shadow schedule write during LE_CHECK is
noted (R164), and a GAIN or OFS written directly forgets the entry's method (R298). -/
def State.shdPut (s : State) (a : Nat) (v mask : Word) : State :=
  let s := s.shdStore a ((s.srd a &&& ~~~mask) ||| (v &&& mask))
  let s := if groupOf a = some 1 then s.schedStale else s
  if 0x14000 ≤ a && a < 0x1C000 && (a == Reg.CAL_GAIN ((a - 0x14000) / 0x40) || a == Reg.CAL_OFS ((a - 0x14000) / 0x40)) then
    s.swr (a / 0x40 * 0x40) 0
  else s

/-- Whether the group of register `a` is locked by a pending commit (R76). -/
def State.shdLocked (s : State) (a : Nat) : Bool :=
  match groupOf a with
  | some g => s.groupLocked g
  | none => false

/-- An SHD write of register `a` (R76): ignored, counted and raised where its group is locked. -/
def State.shdWrite (s : State) (a : Nat) (v mask : Word) : State :=
  if s.shdLocked a then (s.bump Reg.SYS_SHDLOCKWR 15 0 1).raise (E.SHD_LOCKED 0) else s.shdPut a v mask

end Sys2Proof.Machine
end

