-- ==== Sys2Proof/Machine/Pair.lean ====
section
/-!
DEFINITION. The redundant pair (chapter 12): the tandem link, take-over, state sync, planned swaps, remount, and the
maintenance token of both units.
-/

namespace Sys2Proof.Machine

def State.onPair (s : State) (f : PairSt → PairSt) : State := { s with pair := f s.pair }

/-- PAIR_TDSTAT.STATE, coded as LNK_STAT.STATE (R351). -/
def State.tdState (s : State) : Nat := s.fld Reg.PAIR_TDSTAT 2 0

/-- PAIR_SYNC phase (R341). -/
def State.syncPhase (s : State) : Nat := s.fld Reg.PAIR_SYNC 2 0
def State.setSync (s : State) (p : Nat) : State := s.put Reg.PAIR_SYNC 2 0 p

/-- The partner's claim last seen (R351). -/
def State.partnerClaim (s : State) : Nat := s.fld Reg.PAIR_CLAIM 31 16

/-- The partner's last claim carries ACTIVE. -/
def State.partnerActive (s : State) : Bool := s.bit Reg.PAIR_CLAIM 31

/-- MONO cycles in a second (R9). -/
def monoSecond : Nat := 800000000

/-! ## Tandem content sent (R331) -/

/-- The STAT content of this unit. -/
def State.ownStat (s : State) : PartnerStat :=
  { health := s.fld Reg.PAIR_HEALTH 2 0, epoch := s.pair.epoch % 256, phase := s.syncPhase, tackId := s.rd Reg.BOOT_TKID,
    tackVer := s.rd Reg.BOOT_TKVER, stepping := s.fld Reg.SYS_ID 7 0, fwVer := s.rd Reg.BOOT_FWVER,
    tokenHeld := s.tokHeld && s.tokMine, tokenAct := if s.tokMine then s.tokAct else 0, laneTest := s.pair.resTest,
    laneFail := s.bit Reg.LE_STAT 31 }

/-- The FRAME content of this gait frame. -/
def State.ownFrame (s : State) : TandemContent :=
  .frame s.gfcN s.time.wallSec s.time.wallNs s.gaitLen

/-- Both lanes of the tandem link are UP: without one, state sync pauses (R331). -/
def State.lanesUp (s : State) : Bool := s.bit Reg.PAIR_TDSTAT 3 && s.bit Reg.PAIR_TDSTAT 4

/-- The bits of a register that the configuration image carries (R299, R341): what a REGS or MEM section can set, calibration entries 64 to
511 with their epochs, and CAL_GEPOCH. -/
def imageMask (k : Nat) : Word :=
  if ownCal k || 0x30000 ≤ k then 0
  else if k = Reg.CAL_GEPOCH || (0x15000 ≤ k && k < 0x1C000 && k % 0x40 == 0x30) then BitVec.allOnes 32
  else match rowOf k with
    | some r => word r.rw ||| word r.shd
    | none => 0

/-- The configuration image as in effect (R341). -/
def State.captureImage (s : State) : SyncImage :=
  { regs := (s.reg.filter (fun e => imageMask e.1 != 0)).map (fun e => (e.1, e.2 &&& imageMask e.1)), mem := s.mem,
    commits := s.pair.epoch }

/-- The active unit captures the configuration image at a boundary of CONFIG, and keeps it until the standby has it (R341). -/
def State.imageTurnover (s : State) : State :=
  let img := if s.role == 2 && s.tdmUp && s.syncPhase == 2 then some (s.pair.img.getD s.captureImage) else none
  s.onPair (fun p => { p with img := img })

/-- What lane 1 carries: the data of state sync from the active unit, while both lanes are UP (R331, R341). -/
def State.laneOne (s : State) : TandemContent :=
  if !(s.tdmUp && s.role == 2 && s.lanesUp) then .idle
  else match s.pair.img with
    | some x => .sync x
    | none => if s.syncPhase == 3 then .groups else .idle

/-- KIND of a content (R331). -/
def tandemKind (x : TandemContent) : Nat :=
  match x with
  | .idle => 0 | .frame _ _ _ _ => 1 | .probe => 2 | .stat _ => 3 | .fwd _ _ => 4 | .ack _ => 5 | .propose _ => 6 | .order => 6
  | .sync _ => 7 | .groups => 7

/-- PAYLOAD of a content (R331): the spec lays out that of IDLE and of FRAME, the others are free (log 136). -/
def State.tandemPayload (s : State) (lane : Nat) (x : TandemContent) : BitVec 112 :=
  match x with
  | .idle => 0
  | .frame gfc sec ns len => framePayload gfc sec ns len
  | _ => Config.tandemPayload lane s.time.mono

def State.onLane (s : State) (i : Nat) (f : TdLane → TdLane) : State :=
  s.onPair (fun p => { p with lanes := vset p.lanes i (f (vget p.lanes i TdLane.initial)) })

/-- A lane sends a frame: claim, FCNT and content, scrambled and never inverted (R331). -/
def State.laneSend (s : State) (i : Nat) (x : TandemContent) : State :=
  let f := withCrc (tandemFrame s.claimSent s.time.fcnt (BitVec.ofNat 4 (tandemKind x)) (s.tandemPayload i x))
  s.onLane i (fun l => { l with line := (scramble f l.scr).1, scr := (scramble f l.scr).2 })

/-- FRAME and STAT of a gait frame go out first; then what waits (R331). -/
def State.tdmTurnover (s : State) : State :=
  let s := s.imageTurnover
  if s.unit.pairMode && s.tdmUp then s.onPair (fun p => { p with txq := s.ownFrame :: .stat s.ownStat :: p.txq })
  else s.onPair (fun p => { p with txq := [] })

/-- The content of lane 0 in a link frame: the next that waits while the link is UP, the PROBE frames of ALIGN (R331, R332). -/
def State.laneZero (s : State) : TandemContent × State :=
  if s.tdmUp then
    match s.pair.txq with
    | x :: r => (x, s.onPair (fun p => { p with txq := r }))
    | [] => (.idle, s)
  else if s.tdState == 3 && s.pair.al.left != 0 then
    (.probe, s.onPair (fun p => { p with al := { p.al with left := p.al.left - 1 } }))
  else (.idle, s)

/-- The lanes of the tandem link send one frame each in a link frame; content of lane 0 moves to lane 1 where lane 0 alone is lost
(R331). -/
def State.tdmFrame (s : State) : State :=
  if !s.unit.pairMode || s.unit.txIdle || s.tdState == 0 then
    s.onPair (fun p => { p with tx := .idle, tx1 := .idle, lanes := p.lanes.map (fun l => { l with line := 0 }) })
  else
    let (x, s) := s.laneZero
    let y := s.laneOne
    let s := match x with
      | .frame g _ _ _ => s.onPair (fun p => { p with frOut := ((g, s.claimSent) :: p.frOut).take 4 })
      | _ => s
    let s := s.onPair (fun p => { p with tx := x, tx1 := y })
    if s.tdmUp && !s.bit Reg.PAIR_TDSTAT 3 && s.bit Reg.PAIR_TDSTAT 4 then (s.laneSend 0 .idle).laneSend 1 x
    else (s.laneSend 0 x).laneSend 1 y

/-! ## Taking and leaving ACTIVE (R337 to R340) -/

/-- The remount interval in MONO cycles (R347). -/
def State.remountLen (s : State) : BitVec 64 := BitVec.ofNat 64 (s.fld Reg.PAIR_REMINT 7 0 * 3600 * monoSecond)

/-- The remount timer starts (R347). -/
def State.remountStart (s : State) : State :=
  s.onPair (fun p => { p with remAt := some (s.time.mono + s.remountLen), remWait := false })

/-- The fourth finding (R337, R338): no unit holds ACTIVE in the FRAME frames of 2 consecutive gait frames, and of the two claims of the
same gait frame this unit's is the higher. -/
def State.noneActive (s : State) : Bool :=
  match s.pair.frIn with
  | some (g, c) => decide (2 ≤ s.pair.noAct) && c != 0 && !c.getLsbD 15 &&
      (match s.pair.frOut.find? (fun x => x.1 == g) with
       | some (_, o) => decide (c < o)
       | none => false)
  | none => false

/-- The finding of R337 that holds now for this standby, under R338: 1 to 4. -/
def State.takeFinding (s : State) : Option Nat :=
  let up := (List.range 16).filter (fun n => s.linkUp n)
  let obeyed := !up.isEmpty && up.all (fun n => decide (2 ≤ vget s.pair.obeyOwn n 0))
  if !(s.runs && s.unit.pairMode && s.role == 1 && s.bit Reg.SYS_STAT 0 && !s.bit Reg.PAIR_CTL 30 && !s.pair.mism &&
      decide (2 ≤ s.pair.waited)) then none
  else if s.tdmUp && s.pair.seen && s.partnerClaim == 0 then some 1
  else if obeyed then some 2
  else if !s.tdmUp && !s.claimIn && (!s.unit.unitB || s.pair.claimOk) then some 3
  else if s.tdmUp && s.noneActive then some 4
  else none

/-- A finding is held until the boundary (R337). -/
def State.noteFinding (s : State) : State :=
  match s.pair.found, s.takeFinding with
  | none, some f => s.onPair (fun p => { p with found := some f })
  | _, _ => s

/-- The findings made before a boundary take effect at it (R337). -/
def State.findingTurnover (s : State) : State :=
  let s := s.noteFinding
  s.onPair (fun p => { p with finding := if p.finding = some 9 then some 9 else if s.role = 1 then p.found else none, found := none })

/-- This unit takes ACTIVE with change code `last` (R339, R351); a token that the partner held is free where the partner
gave up (R349). -/
def State.becomeActive (s : State) (last : Nat) : State :=
  let s := (s.roleChange 2 last).setBit Reg.TIM_WALLSTAT 4 false
  let s := s.setBit Reg.PAIR_STAT 25 true
  (s.onPair (fun p => { p with noAct := 0, finding := none, found := none, load := false })).remountStart

/-- This unit leaves ACTIVE and is standby with change code `last`. -/
def State.becomeStandby (s : State) (last : Nat) : State :=
  (s.roleChange 1 last).onPair (fun p => { p with remAt := none, remWait := false, noAct := 0, waited := 2 })

/-- TAKEOVER (R337 to R339): a standby takes ACTIVE at the boundary that a finding has reached. -/
def execTakeover (s : State) : Host.Outcome State Fault Refusal :=
  match s.pair.finding with
  | none => .next s
  | some f =>
    if !(s.runs && s.role == 1 && f != 9) then .next s else
    let good := s.syncPhase == 4 && !s.bit Reg.PAIR_STAT 26
    let s := s.becomeActive 1
    let s := if f != 4 && s.tokHeld && !s.tokMine then s.tokFree else s
    let s := (s.setSync 0).claimUpdate
    .next (s.raise (if good then E.TAKEOVER 0 else E.TAKEOVER_UNSYNCED 0))

/-- CLAIM_WIRE (R337): CLAIM_IN deasserted while the tandem link is up and the partner's claim carries ACTIVE. -/
def State.claimWire (s : State) : Bool := s.role == 1 && s.tdmUp && s.partnerActive && !s.claimIn

/-- CLAIM_IN_CHANGE (R337, R352). -/
def execClaimInChange (level : Bool) (s : State) : Host.Outcome State Fault Refusal :=
  let was := s.claimWire
  let s := s.setBit Reg.PAIR_STAT 23 level
  let s := s.setBit Reg.PAIR_STAT 24 (level || s.tdmUp)
  let s := if level then s.onPair (fun p => { p with claimOk := false }) else s
  .next (if s.awake && s.claimWire && !was then s.raise (E.CLAIM_WIRE 0) else s).noteFinding

/-- CLAIM_IN_WAIT_EXPIRY (R338): the 100 ms of unit B have passed; the third finding gives it ACTIVE at the boundary. -/
def execClaimInWaitExpiry (s : State) : Host.Outcome State Fault Refusal :=
  if s.runs && s.unit.pairMode && s.unit.unitB && !s.tdmUp && !s.claimIn then
    .next (s.onPair (fun p => { p with claimOk := true })).noteFinding
  else .next s

/-- DUAL_ACTIVE (R340): more than half of the links that are UP obey the partner. -/
def execDualActive (s : State) : Host.Outcome State Fault Refusal :=
  let up := (List.range 16).filter (fun n => s.linkUp n)
  let lost := up.filter (fun n => decide (2 ≤ vget s.pair.obeyPart n 0))
  if s.runs && s.unit.pairMode && s.role == 2 && decide (up.length < 2 * lost.length) then
    .next ((((s.becomeStandby 7).setSync 1).claimUpdate).raise (E.DUAL_ACTIVE 0))
  else .next s

/-! ## The token (R348, R349) -/

/-- The result of this unit's last request (R353). -/
def State.tokResult (s : State) (r : Nat) : State := s.put Reg.SYS_TOKSTAT 7 0 r

/-- A request for activity `act` by a host port or firmware. -/
def State.tokRequest (s : State) (act : Nat) : State :=
  if act = 0 || 6 ≤ act then s.tokResult 2
  else if !s.unit.pairMode || s.role = 2 then
    if s.tokHeld then s.tokBusy.tokResult 1 else (s.tokGrant true act).tokResult 0
  else if s.tdmUp then
    ((s.setBit Reg.SYS_TOKSTAT 29 true).onPair (fun p => { p with tokAct := act })).tdmSend (.fwd s.gfcN (.tokenRequest act))
  else if !s.claimIn then
    (if s.tokHeld then s.tokBusy.tokResult 1 else (s.tokGrant true act).tokResult 0)
  else s.tokBusy.tokResult 3

/-- Release the token that this unit holds; a standby tells the active unit. -/
def State.tokGive (s : State) : State :=
  let s := s.tokFree
  if s.notActiveInPair && s.tdmUp then s.tdmSend (.fwd s.gfcN .tokenRelease) else s

/-- A write of SYS_TOKREQ (R348, R353): REL, then REQ. -/
def State.tokWrite (s : State) (v : Word) : State :=
  let s := if bitOf v 30 && s.tokHeld && s.tokMine && decide (3 ≤ s.tokAct) then s.tokGive else s
  if bitOf v 31 then s.tokRequest (fieldOf v 3 0) else s

/-- MAINT_EXPIRED (R348): a token held for 1 h by a host's activity is released. -/
def execMaintExpired (s : State) : Host.Outcome State Fault Refusal :=
  if s.runs && s.tokHeld && s.tokMine && decide (3 ≤ s.tokAct) then .next (s.tokGive.raise (E.MAINT_EXPIRED 0)) else .next s

/-! ## Planned swaps and remount (R346, R347) -/

/-- Propose a swap of this kind: 2 take-back, 3 remount out, 4 remount back, 5 health remount. -/
def State.proposeSwap (s : State) (kind : Nat) : State :=
  let gh := (s.gfcN + 4) % 2 ^ 32
  (s.onPair (fun p => { p with swap := some { out := true, gh := gh, ok := false, kind := kind } })).tdmSend (.propose gh)

/-- The active unit may order a swap: its standby is SYNCED and no swap is in progress. -/
def State.canSwap (s : State) : Bool :=
  s.runs && s.unit.pairMode && s.role == 2 && s.syncPhase == 4 && s.pair.swap.isNone

/-- A remount is requested (R347): the token is taken and the swap proposed, or the request waits. -/
def State.remountRequest (s : State) : State :=
  if !s.canSwap || s.pair.dwell then s
  else if s.tokHeld then
    let s := if s.pair.remWait then s
      else s.onPair (fun p => { p with remWait := true, remAt := some (s.time.mono + BitVec.ofNat 64 (3600 * monoSecond)) })
    s.tokBusy
  else
    ((s.tokGrant true 1).onPair (fun p => { p with remWait := false, remAt := none })).proposeSwap 3

/-- REMOUNT_TIMER (R347). -/
def execRemountTimer (s : State) : Host.Outcome State Fault Refusal :=
  if s.awake && s.pair.remAt.isSome && !s.pair.remWait then .next (s.remountRequest) else .next s

/-- REMOUNT_RETRY (R347): the request of each second; after 1 h the remount is skipped. -/
def execRemountRetry (s : State) : Host.Outcome State Fault Refusal :=
  if !(s.awake && s.pair.remWait) then .next s
  else
    match s.pair.remAt with
    | some t =>
      if s.tokHeld && decide (t ≤ s.time.mono) then .next ((s.remountStart).raise (E.REMOUNT_SKIPPED 0))
      else .next s.remountRequest
    | none => .next s.remountRequest

/-- A swap ends without a change of roles (R346, R347): the token of a remount is released. -/
def State.swapFail (s : State) : State :=
  let kind := (s.pair.swap.map (·.kind)).getD 0
  let s := s.onPair (fun p => { p with swap := none, dwell := if kind = 4 then false else p.dwell,
                                       back := if kind = 4 then false else p.back })
  let s := if kind != 2 && s.tokHeld && s.tokMine && s.tokAct == 1 then s.tokGive else s
  (s.remountStart).raise (E.ROLE_SWAP_FAIL 0)

/-- SWAP_ORDER (R346): at the turnover of G_h − 1 the order goes out with the acknowledgement, or the swap is
cancelled. -/
def execSwapOrder (s : State) : Host.Outcome State Fault Refusal :=
  match s.pair.swap with
  | some x =>
    if s.runs && x.out && s.role == 2 && decide ((s.gfcN + 1) % 2 ^ 32 = x.gh) then
      .next (if x.ok then s.tdmSend .order else s.swapFail)
    else .next s
  | none => .next s

/-- The kind of a swap as the incoming unit can tell it (R347, R351). -/
def State.incomingKind (s : State) : Nat :=
  match s.pair.partner with
  | some p =>
    if s.pair.dwell then 4
    else if !(p.tokenHeld && p.tokenAct = 1) then 2
    else if p.health < s.fld Reg.PAIR_HEALTH 2 0 then 5
    else 3
  | none => 3

/-- What a completed swap of this kind leaves (R347): the dwell of a remount begins, or the token is released. -/
def State.swapDone (s : State) (kind : Nat) : State :=
  let s := s.onPair (fun p => { p with dwell := kind == 3, dwellMm := false, back := false })
  if (kind = 4 || kind = 5) && s.tokHeld && s.tokMine && s.tokAct == 1 then s.tokGive else s

/-- ROLE_SWAP (R346): in the first link frame of G_h the outgoing unit clears ACTIVE, and the incoming unit sets it where it
has the order. -/
def execRoleSwap (s : State) : Host.Outcome State Fault Refusal :=
  match s.pair.swap with
  | some x =>
    if !(s.runs && decide (s.gfcN = x.gh)) then .next s
    else if x.out then
      if s.role == 2 && x.ok then
        .next ((((s.becomeStandby x.kind).swapDone x.kind).claimUpdate).raise (E.ROLE_SWAP 0))
      else .next s
    else if x.ok && s.role == 1 then
      let k := s.incomingKind
      let s := s.onPair (fun p => { p with swap := none })
      .next ((((s.becomeActive k).swapDone k).claimUpdate).raise (E.ROLE_SWAP 0))
    else .next (s.onPair (fun p => { p with swap := none }))
  | none => .next s

/-- REMOUNT_DWELL_END (R344, R347): a dwell without a mismatch clears SUSPECT; the active unit proposes the swap back. -/
def execRemountDwellEnd (s : State) : Host.Outcome State Fault Refusal :=
  if s.awake && s.pair.dwell then
    let s := if s.pair.dwellMm then s else s.setBit Reg.PAIR_STAT 27 false
    if s.canSwap then .next ((s.onPair (fun p => { p with back := true })).proposeSwap 4)
    else .next (if s.role == 2 then s.onPair (fun p => { p with dwell := false }) else s)
  else .next s

/-- REVERT_TAKEBACK (R347): unit B is active and unit A, SYNCED and in clean health, is at least as healthy. -/
def execRevertTakeback (s : State) : Host.Outcome State Fault Refusal :=
  match s.pair.partner with
  | some p =>
    if s.canSwap && s.unit.unitB && s.bit Reg.PAIR_CTL 0 && !s.tokHeld && p.health == 7 &&
        decide (s.fld Reg.PAIR_HEALTH 2 0 ≤ p.health) then .next (s.proposeSwap 2)
    else .next s
  | none => .next s

/-- A link that is down at the active unit while no health remount can be made (R345): PAIR_HEADSPLIT once for each. -/
def State.headSplit (s : State) : State :=
  (List.range 16).foldl (fun s n =>
    if s.linkKind n != 0 && !s.linkUp n && !s.pair.split.testBit n then
      (s.onPair (fun p => { p with split := p.split ||| (1 <<< n) })).raise (E.PAIR_HEADSPLIT n)
    else s) s

/-- HEALTH_REMOUNT (R345, R347): the SYNCED standby has been healthier for 2 s. -/
def execHealthRemount (s : State) : Host.Outcome State Fault Refusal :=
  match s.pair.partner with
  | some p =>
    if s.canSwap && s.bit Reg.PAIR_CTL 1 && decide (s.fld Reg.PAIR_HEALTH 2 0 < p.health) then
      if s.tokHeld then .next (s.tokBusy.headSplit)
      else .next ((s.tokGrant true 1).proposeSwap 5)
    else .next s
  | none => .next s

/-- A write of PAIR_CTL (R334, R347, R351): OOS is refused on the active unit. -/
def State.pairCtl (s : State) (v : Word) : State :=
  let s := s.put Reg.PAIR_CTL 1 0 (fieldOf v 1 0)
  let s := if s.role = 2 then s else s.setBit Reg.PAIR_CTL 30 (bitOf v 30)
  let s := if s.unit.pairMode then s.claimUpdate else s
  if bitOf v 31 then s.remountRequest else s

/-- PAIR_REMNEXT (R351). -/
def State.remNext (s : State) : Word :=
  match s.pair.remAt with
  | some t => if s.pair.remWait then 0xFFFFFFFF else word (min (t - s.time.mono).toNat (2 ^ 63) / monoSecond)
  | none => 0xFFFFFFFF

/-! ## Training of the tandem link (R331 to R333) -/

/-- Rein links train from LOCK on this unit's timeline: at a start, or again after an alignment (R333). -/
def State.startLinks (s : State) : State :=
  let s := s.onPair (fun p => { p with waitDone := true })
  (List.range 16).foldl (fun s n =>
    if s.bit (Reg.LNK_CTL n) 0 then
      (if s.linkUp n then (s.linkDown n 0).retrainLink n
       else if s.linkState n == 0 then s.trainTo n 1 else s.retrainLink n)
    else s) s

/-- This unit aligns (R332): it does not hold ACTIVE, and the partner does or it is unit B. -/
def State.aligns (s : State) : Bool := s.role != 2 && (s.partnerActive || s.unit.unitB)

def State.setTd (s : State) (st : Nat) : State := s.put Reg.PAIR_TDSTAT 2 0 st

/-- Training of the tandem link fails with a code of R132. -/
def State.tandemFail (s : State) (c : Nat) : State := (s.put Reg.PAIR_TDSTAT 11 8 c).setTd 6

/-- Training of the tandem link begins from LOCK (R331). -/
def State.tandemLock (s : State) : State :=
  (s.setTd 1).onPair (fun p => { p with al := TdAlign.initial, lanes := p.lanes.map (fun l => { l with aln := 0, lost := 0 }) })

/-- ALIGN begins, or begins again with what `f` keeps of it (R332). -/
def State.tandemProbe (s : State) (f : TdAlign → TdAlign) : State :=
  (s.setTd 3).onPair (fun p => { p with al := f p.al })

/-- The tandem link is UP with the lanes of `m` (R331, R332). -/
def State.tandemUp (s : State) (m : Nat) (ms ma d : Int) : State :=
  let s := ((s.setTd 5).setBit Reg.PAIR_TDSTAT 3 (m.testBit 0)).setBit Reg.PAIR_TDSTAT 4 (m.testBit 1)
  let s := s.onPair (fun p => { p with bad := Vector.replicate 2 0, al := { p.al with arr := ms } })
  let s := (s.setBit Reg.PAIR_STAT 24 true).put Reg.PAIR_ALIGN 31 16 (code 16 (cdiv (ms + ma) 2))
  if s.aligns then
    let s := (s.put Reg.PAIR_ALIGN 15 0 (code 16 d)).onPair (fun p => { p with load := true })
    ((s.setSync 1).setBit Reg.PAIR_STAT 25 true).startLinks
  else
    let s := s.setBit Reg.PAIR_STAT 25 true
    let s := if s.role == 1 then s.setSync 1 else s
    if s.pair.waitDone then s else s.startLinks

/-- Both units have measured the other's PROBE frames (R332): the aligning unit shifts its clock dividers by whole CK_EDGE cycles, of 16
edge steps, and measures again; what remains within 8 edge steps is the residual. A spread above 8 steps is retried twice (R117). -/
def State.tandemMeasured (s : State) (m : Nat) (ms ma : Int) (spread : Nat) : State :=
  let d := cdiv (ma - ms) 2
  let al := s.pair.al
  if 8 < spread then
    (if al.spreads < 2 then
       s.tandemProbe (fun a => { TdAlign.initial with spreads := a.spreads + 1, shift := a.shift, again := a.again })
     else s.tandemFail 4)
  else if s.aligns && (!al.again || 8 < d.natAbs) then
    s.tandemProbe (fun a => { TdAlign.initial with shift := a.shift + 16 * cdiv d 16, again := true })
  else s.tandemUp m ms ma d

/-- The lanes whose receiver is aligned. -/
def State.lanesAligned (s : State) : Nat :=
  (if (vget s.pair.lanes 0 TdLane.initial).aln = 64 then 1 else 0) + (if (vget s.pair.lanes 1 TdLane.initial).aln = 64 then 2 else 0)

/-- A whole training state of the tandem link at once, as in step 6 of a start (R59, R331, R332): LOCK and ALIGN only. -/
def State.tandemWhole (s : State) (r : TrainReply) : State :=
  if !s.unit.pairMode || s.unit.txIdle then s
  else match s.tdState, r with
    | 1, .locked true => (s.onPair (fun p => { p with lanes := p.lanes.map (fun l => { l with aln := 64 }) })).tandemProbe (fun _ => TdAlign.initial)
    | 1, .locked false => s.tandemFail 1
    | 1, .noReply => s.tandemFail 1
    | 3, .tandem ms ma spread => s.tandemMeasured 3 ms ma spread
    | 3, .noReply => s.tandemFail 4
    | _, _ => s

/-- A training state of the tandem link ends, by what the frames have shown (R331, R332): LOCK once a lane is aligned, ALIGN once 256 PROBE
frames have been measured and the partner's measurement is known. -/
def State.tandemStep (s : State) (r : TrainReply) : State :=
  let al := s.pair.al
  if !s.unit.pairMode || s.unit.txIdle then s
  else match s.tdState, r with
    | 1, .shown => if s.lanesAligned = 0 then s else s.tandemProbe (fun _ => TdAlign.initial)
    | 1, .noReply => s.tandemFail 1
    | 3, .partner ma spread =>
      if al.n < 256 then s
      else s.tandemMeasured s.lanesAligned (cdiv al.sum 256) ma (max spread (al.mx - al.mn).toNat)
    | 3, .noReply => s.tandemFail 4
    | _, _ => s

/-- LINK_TRAINING_STEP (R115 to R119, R331): link 0 to 15, or the tandem link as 16. -/
def execLinkTrainingStep (n : Fin 17) (r : TrainReply) (s : State) : Host.Outcome State Fault Refusal :=
  if s.runs then .next (if n.val < 16 then s.trainStep n r else s.tandemStep r) else .next s

/-- RETRAIN_WAIT_EXPIRY (R117): training begins again from LOCK. -/
def execRetrainWaitExpiry (n : Fin 17) (s : State) : Host.Outcome State Fault Refusal :=
  if !s.runs then .next s
  else if n.val < 16 then
    .next (if s.linkState n == 6 && s.bit (Reg.LNK_CTL n) 0 then s.retrainLink n else s)
  else .next (if s.tdState == 6 && s.unit.pairMode then s.tandemLock.flushCrossing else s)

/-- TANDEM_WAIT_EXPIRY (R333): the rein links train on this unit's own timeline. -/
def execTandemWaitExpiry (s : State) : Host.Outcome State Fault Refusal :=
  if s.runs && s.unit.pairMode && !s.tdmUp && !s.pair.waitDone then .next s.startLinks else .next s

/-- TANDEM_DOWN (R331, R341): both lanes have 3 bad or missing frames. -/
def execTandemDown (s : State) : Host.Outcome State Fault Refusal :=
  if s.awake && s.unit.pairMode && s.tdmUp && decide (3 ≤ vget s.pair.bad 0 0) && decide (3 ≤ vget s.pair.bad 1 0) then
    let s := ((s.setTd 6).setBit Reg.PAIR_TDSTAT 3 false).setBit Reg.PAIR_TDSTAT 4 false
    let s := s.onPair (fun p => { p with partner := none, txq := [], tx := .idle, tx1 := .idle, noAct := 0, seen := false, frIn := none,
                                         load := false, img := none })
    let s := s.setBit Reg.PAIR_STAT 24 s.claimIn
    let s := s.setBit Reg.SYS_TOKSTAT 29 false
    let s := if 2 ≤ s.syncPhase then s.setSync 2 else s
    .next (s.raise (E.TANDEM_DOWN 0)).noteFinding
  else .next s

/-! ## Tandem frames received (R331 to R349) -/

/-- The aligning unit leaves SYNCED and aligns again, retraining its rein links (R333). -/
def State.realign (s : State) : State :=
  let s := (s.tandemProbe (fun a => { TdAlign.initial with shift := a.shift })).setBit Reg.PAIR_STAT 25 false
  let s := if 2 ≤ s.syncPhase then s.setSync 2 else s
  (s.raise (E.PAIR_DRIFT 0))

/-- The partner's timeline is loaded after an alignment (R332). -/
def State.loadTimeline (s : State) (gfc : Nat) (fcnt : BitVec 8) : State :=
  { s with
    time := { s.time with gfc := BitVec.ofNat 32 gfc, fcnt := fcnt, lf := 0, grid := true,
                          gaits := (s.frameNo * 2560 :: s.time.gaits).take 8 }
    pair := { s.pair with load := false } }

/-- WALL follows the active unit (R40). -/
def State.followWall (s : State) (sec ns : Nat) : State :=
  { s with time := { s.time with wall := (sec % 2 ^ 48 * 1000000000 + ns) * wallUnit, rem := 0, slew := none, step := none } }.setBit
    Reg.TIM_WALLSTAT 4 true

/-- FRAME frames of consecutive gait frames whose claim lacks ACTIVE (R337). -/
def PairSt.noteFrame (p : PairSt) (gfc : Nat) (claim : BitVec 16) : PairSt :=
  let run := match p.frIn with
    | some (g, _) => decide ((g + 1) % 2 ^ 32 = gfc)
    | none => false
  { p with frIn := some (gfc, claim), noAct := if claim.getLsbD 15 then 0 else if run then min (p.noAct + 1) 2 else 1 }

/-- FRAME content (R331, R333, R337, R346), which arrived `arrival` edge steps after this unit's own frame began. A unit that holds ACTIVE
never moves its timeline. -/
def State.rxFrame (s : State) (gfc sec ns : Nat) (fcnt : BitVec 8) (arrival : Int) (claim : BitVec 16) : State :=
  let act := claim.getLsbD 15
  let s := s.onPair (fun p => p.noteFrame gfc claim)
  let s := if s.pair.load && s.role != 2 then s.loadTimeline gfc fcnt
    else if s.bit Reg.PAIR_STAT 25 && s.aligns && (decide (gfc ≠ s.gfcN) || decide (4 < (arrival - s.pair.al.arr).natAbs)) then s.realign
    else s
  let s := if s.role != 2 && act then s.followWall sec ns else s
  match s.pair.swap with
  | some x =>
    if x.out && s.role == 1 && decide (gfc = x.gh) then
      (if act then s.onPair (fun p => { p with swap := none }) else s.onPair (fun p => { p with finding := some 9 }))
    else s
  | none => s

/-- STAT content (R331, R341, R344, R348). -/
def State.rxStat (s : State) (p : PartnerStat) : State :=
  let was := s.syncPhase
  let s := s.onPair (fun q => { q with partner := some p })
  let s := if s.role == 2 then
      let s := s.setSync p.phase
      if p.phase == 4 && was != 4 then s.remountStart else s
    else s
  let s := if p.tokenHeld then
      (if s.tokHeld && s.tokMine then s
       else ((((s.setBit Reg.SYS_TOKSTAT 31 true).setBit Reg.SYS_TOKSTAT 30 false).setBit Reg.SYS_TOKSTAT 28
         (!s.unit.unitB)).put Reg.SYS_TOKSTAT 27 24 p.tokenAct))
    else if s.tokHeld && !s.tokMine && s.role != 2 then s.tokFree else s
  if p.laneTest && !s.bit Reg.LE_LSTEST 30 then s.laneTestStart else s

/-- FWD content (R341, R345, R349). -/
def State.rxFwd (s : State) (gfc : Nat) (x : FwdItem) : State :=
  match x with
  | .tokenRequest act =>
    if s.role != 2 then s
    else if s.tokHeld then s.tdmSend (.ack (.token false))
    else (s.tokGrant false act).tdmSend (.ack (.token true))
  | .tokenRelease => if s.tokHeld && !s.tokMine then s.tokFree else s
  | .commit g _ =>
    if s.role == 1 then
      let s := (s.onPair (fun p => { p with fwd := p.fwd ++ [(gfc, x)] })).tdmSend (.ack .fwd)
      if s.commit.isNone then { s with commit := some { groups := g, discard := false, wait := 0 } }.commitState 2 else s
    else s
  | x => if s.role == 1 then (s.onPair (fun p => { p with fwd := p.fwd ++ [(gfc, x)] })).tdmSend (.ack .fwd) else s

/-- ACK content (R346, R349). -/
def State.rxAck (s : State) (x : AckItem) : State :=
  match x with
  | .fwd => s
  | .swap gh =>
    s.onPair (fun p => { p with swap := p.swap.map (fun w => if w.out && decide (w.gh = gh) then { w with ok := true } else w) })
  | .token granted =>
    if !s.bit Reg.SYS_TOKSTAT 29 then s
    else
      let s := s.setBit Reg.SYS_TOKSTAT 29 false
      if granted then (s.tokGrant true s.pair.tokAct).tokResult 0 else s.tokBusy.tokResult 1

/-- What a good frame's content does. A PROBE frame that comes while the link is UP is one of a partner that aligns again: this unit
answers with its own. -/
def State.rxContent (s : State) (claim : BitVec 16) (fcnt : BitVec 8) (arrival : Int) (x : TandemContent) : State :=
  match x with
  | .frame gfc sec ns _ => s.rxFrame gfc sec ns fcnt arrival claim
  | .probe => if s.aligns then s else s.tdmSend .probe
  | .stat p => s.rxStat p
  | .fwd gfc x => s.rxFwd gfc x
  | .ack x => s.rxAck x
  | .propose gh =>
    if s.role == 1 && s.syncPhase == 4 && !s.bit Reg.PAIR_STAT 26 then
      (s.onPair (fun p => { p with swap := some { out := false, gh := gh, ok := false, kind := 0 } })).tdmSend (.ack (.swap gh))
    else s
  | .order => s.onPair (fun p => { p with swap := p.swap.map (fun w => if w.out then w else { w with ok := true }) })
  | .sync image => if s.role == 1 && s.syncPhase == 2 && s.lanesUp then s.onPair (fun p => { p with image := some image }) else s
  | .groups => s
  | .idle => s

/-- A bad or missing frame of a lane (R331): a lane with 3 in a row is lost, TANDEM_LANE where the other is not. -/
def State.laneBad (s : State) (lane : Nat) : State :=
  let n := min (vget s.pair.bad lane 0 + 1) 3
  let s := s.onPair (fun p => { p with bad := vset p.bad lane n })
  if n = 3 && s.bit Reg.PAIR_TDSTAT (3 + lane) then
    let s := s.setBit Reg.PAIR_TDSTAT (3 + lane) false
    if vget s.pair.bad (1 - lane) 0 < 3 then s.raise (E.TANDEM_LANE lane) else s
  else s

/-- A frame on a lane, descrambled; none for one that is missing, bad, or received out of alignment (R90, R331). -/
def State.laneRx (s : State) (lane : Nat) (line : Option (BitVec 160)) : Option (BitVec 160) × State :=
  match line with
  | none => (none, s)
  | some w =>
    let l := vget s.pair.lanes lane TdLane.initial
    let (f, dsc) := descramble w l.dsc
    let x := noteSync l.aln l.lost (ffield w 0 1 == 1)
    (if x.1 = 64 && tandemGood f then some f else none, s.onLane lane (fun l => { l with dsc := dsc, aln := x.1, lost := x.2 }))

/-- The content of a good frame: by its bits where the spec lays out the PAYLOAD, else `x` where it is of the frame's KIND (R331). -/
def contentOf (f : BitVec 160) (x : TandemContent) : TandemContent :=
  match ffield f 28 31 with
  | 0 => .idle
  | 1 => .frame (ffield f 32 63) (ffield f 64 111) (ffield f 112 141) (ffield f 142 143)
  | 2 => .probe
  | k => if tandemKind x = k then x else .idle

/-- A PROBE frame of ALIGN is measured (R332). -/
def TdAlign.probe (a : TdAlign) (arrival : Int) : TdAlign :=
  if a.n < 256 then
    { a with n := a.n + 1, sum := a.sum + arrival, mn := if a.n = 0 then arrival else min a.mn arrival,
             mx := if a.n = 0 then arrival else max a.mx arrival }
  else a

/-- A good frame of a lane (R331): it ends the lane's bad run and shows the sender's claim, and its content acts. A unit that has halted takes
no content. -/
def State.laneGood (s : State) (lane : Nat) (f : BitVec 160) (arrival : Int) (x : TandemContent) : State :=
  let claim := BitVec.ofNat 16 (ffield f 4 19)
  let was := s.claimWire
  let s := s.onPair (fun p => { p with bad := vset p.bad lane 0, seen := true })
  let s := (s.put Reg.PAIR_CLAIM 31 16 claim.toNat).setBit Reg.PAIR_STAT 24 true
  let s := if s.tdmUp then
      let s := s.setBit Reg.PAIR_TDSTAT (3 + lane) true
      if s.halted then s else s.rxContent claim (BitVec.ofNat 8 (ffield f 20 27)) arrival x
    else if s.tdState == 3 && tandemKind x == 2 then s.onPair (fun p => { p with al := p.al.probe arrival })
    else s
  let s := if claim.getLsbD 15 then { s with boot := { s.boot with softWait := false } } else s
  if s.claimWire && !was then s.raise (E.CLAIM_WIRE 0) else s

/-- TANDEM_FRAME (R331): the line bits of a frame received on a lane, none where it is missing; its arrival in edge steps after the start of
this unit's own frame; and what the PAYLOAD means where the spec does not lay it out. -/
def execTandemFrame (lane : Fin 2) (line : Option (BitVec 160)) (arrival : Int) (content : TandemContent) (s : State) :
    Host.Outcome State Fault Refusal :=
  if !(s.runs && s.unit.pairMode) || s.tdState == 0 then .next s
  else match s.laneRx lane line with
    | (none, s) => .next (s.laneBad lane).noteFinding
    | (some f, s) => .next (s.laneGood lane f arrival (contentOf f content)).noteFinding

/-! ## State sync (R341, R342) -/

/-- A register takes the image's bits, in effect and in the shadow. -/
def State.imagePut (s : State) (k : Nat) (v : Word) : State :=
  let m := imageMask k
  let v := if k = Reg.CAL_GEPOCH then word (max (s.rdN k) v.toNat) else v
  let s := s.wr k ((s.rd k &&& ~~~m) ||| (v &&& m))
  match rowOf k with
  | some r => if r.shd = 0 then s else s.swr k ((s.srd k &&& ~~~word r.shd) ||| (v &&& word r.shd))
  | none => s

/-- The configuration image applies at once (R341): what it does not list returns to its reset value. Entries 0 to 63 stay this unit's own,
and CAL_GEPOCH the larger (R299). -/
def State.applyImage (s : State) (x : SyncImage) : State :=
  let old := s
  let s := ((s.reg ++ s.shadow).map (·.1)).foldl (fun s k => if imageMask k = 0 then s else s.imagePut k (regReset k)) s
  let s := x.regs.foldl (fun s r => s.imagePut r.1 r.2) s
  let s := { s with mem := [] }
  let s := x.mem.foldl (fun s m => s.setMem8 m.1 m.2) s
  let s := s.onPair (fun p => { p with image := none, epoch := x.commits })
  ((s.schedApplied).phaseCommitted old).metCommitted old

/-- SYNC_PHASE_DONE (R341): MATCH, CONFIG or STATE completes on the standby. -/
def execSyncPhaseDone (s : State) : Host.Outcome State Fault Refusal :=
  if !(s.live && s.unit.pairMode && s.role == 1 && s.tdmUp) then .next s
  else match s.syncPhase with
    | 1 =>
      match s.pair.partner with
      | none => .next s
      | some p =>
        let o := s.ownStat
        if p.tackId = o.tackId && p.tackVer = o.tackVer && p.stepping = o.stepping then
          .next (((s.onPair (fun q => { q with mism := false })).setSync 2).claimUpdate)
        else if s.pair.mism then .next s
        else .next (((s.onPair (fun q => { q with mism := true })).claimUpdate).raise (E.PAIR_TACK_MISMATCH 0))
    | 2 =>
      match s.pair.image with
      | none => .next s
      | some x => .next ((s.applyImage x).setSync 3)
    | 3 =>
      if s.fld Reg.PAIR_SYNC 31 16 = 0 then
        .next (((s.setSync 4).wr Reg.PAIR_SYNCGFC s.time.gfc).raise (E.PAIR_SYNCED 0))
      else .next s
    | _ => .next s

/-- SYNC_FAIL (R341): phases 2 and 3 have not completed within 50 ms. -/
def execSyncFail (s : State) : Host.Outcome State Fault Refusal :=
  if s.awake && s.unit.pairMode && s.role == 1 && (s.syncPhase == 2 || s.syncPhase == 3) then
    let s := s.onPair (fun p => { p with image := none })
    .next (((s.setSync 2).put Reg.PAIR_SYNC 31 16 0).raise (E.SYNC_FAIL 0))
  else .next s

/-- A feeder, stage, phase and string take the copied state (R342). -/
def FdrSt.copied (d : FdrSt) (x : SyncFeeder) : FdrSt :=
  { d with pers := x.pers, acc := x.acc, psum := x.psum, rz := x.rz, frames := x.frames }
def StgSt.copied (d : StgSt) (x : SyncStage) : StgSt :=
  { d with next := x.next, r := x.r, rm := x.rm, rlen := x.rlen, rfrom := x.rfrom, ts := x.ts, pulses := x.pulses, te := x.te,
           spRel := x.spRel, spD := x.spD, spLock := x.spLock, ended := x.ended, lock := x.lock, nreq := x.nreq, pmt := x.pmt,
           ft := x.ft }
def PhSt.copied (d : PhSt) (x : SyncPhase) : PhSt := { d with old := x.old, target := x.target, angs := x.angs }
def StrSt.copied (d : StrSt) (x : SyncString) : StrSt :=
  { d with disc := x.disc, eodAt := x.eodAt, preAt := x.preAt, term := x.term }
def ShfSt.copied (d : ShfSt) (x : SyncShelf) : ShfSt :=
  { d with goodN := x.goodN, droopN := x.droopN, droop := x.droop, qcap := x.qcap, q := x.q, shedN := x.shedN, normN := x.normN,
           qual := x.qual, thr := x.thr }

/-- The items of a sync group apply together (R342). -/
def State.groupCopy (s : State) (g : SyncGroup) : State :=
  let s := g.regs.foldl (fun s r => s.wr r.1 r.2) s
  let s := g.mem.foldl (fun s m => s.setMem8 m.1 m.2) s
  let s := { s with meas := { s.meas with wmUp := g.monitors.foldl (fun v m => vset v m.1 m.2) s.meas.wmUp } }
  let s := g.feeders.foldl (fun s x => s.onFd x.1 (fun d => d.copied x.2)) s
  let s := g.stages.foldl (fun s x => s.onSg x.1 (fun d => d.copied x.2)) s
  let s := g.phases.foldl (fun s x => s.onPh x.1 (fun d => d.copied x.2)) s
  let s := g.strings.foldl (fun s x => s.onStr x.1 (fun d => d.copied x.2)) s
  match g.shelf with
  | some x => { s with shf := s.shf.copied x }
  | none => s

/-- SYNC_GROUP_COPY (R331, R342): the standby applies one sync group; state sync pauses while a lane is lost. -/
def execSyncGroupCopy (g : SyncGroup) (s : State) : Host.Outcome State Fault Refusal :=
  if s.live && s.unit.pairMode && s.role == 1 && s.syncPhase == 3 && s.lanesUp then
    .next ((s.groupCopy g).put Reg.PAIR_SYNC 31 16 g.left)
  else .next s

/-! ## Mismatch resolution (R343, R344) -/

/-- A failed compare on link `n` (R344): recorded and, unless a resolution runs or ended less than 1 s ago, resolved. -/
def State.mismatch (s : State) (n : Nat) : State :=
  let s := (s.bump Reg.PAIR_MMCNT 31 0 1).onPair (fun p => { p with dwellMm := true })
  let late := match s.pair.resEnd with
    | some t => decide ((s.time.mono - t).toNat < monoSecond)
    | none => false
  if s.bit Reg.PAIR_STAT 26 || late then s
  else
    let s := (s.wrN Reg.PAIR_MM (0x80000000 + n * 65536)).wr Reg.PAIR_MMGFC s.time.gfc
    ((s.setBit Reg.PAIR_STAT 26 true).onPair (fun p => { p with resTest := true })).raise (E.SHADOW_MISMATCH n)

/-- RESOLUTION_TIMEOUT (R344): neither unit failed; the standby sets SUSPECT and records it. -/
def execResolutionTimeout (s : State) : Host.Outcome State Fault Refusal :=
  if s.runs && s.bit Reg.PAIR_STAT 26 then
    let s := (s.setBit Reg.PAIR_STAT 26 false).onPair (fun p => { p with resEnd := some s.time.mono, resTest := false })
    if s.role == 1 then
      let s := (s.setBit Reg.PAIR_STAT 27 true).raise (E.SUSPECT (s.fld Reg.PAIR_MM 19 16))
      .next (s.offerNow 0x0007 3 (leBytes 1 (s.fld Reg.PAIR_MM 19 16) ++ leBytes 3 0 ++ leBytes 4 (s.rdN Reg.PAIR_MMGFC)))
    else .next s
  else .next s

/-! ## At the boundary -/

/-- The pair logic at a gait-frame boundary: the 2 frames of R338, the findings made before it (R337), the return of an outgoing unit whose swap did not take
place (R346), the lane test of a resolution (R344), and the claim. -/
def State.pairTurnover (s : State) : State :=
  let s := if s.unit.pairMode && s.role == 1 && decide (s.fld Reg.PAIR_CLAIM 15 0 ≠ 0) then
      s.onPair (fun p => { p with waited := min (p.waited + 1) 2 })
    else s
  let s := s.findingTurnover
  let s := if s.pair.finding = some 9 && s.role == 1 then
      let kind := (s.pair.swap.map (·.kind)).getD 0
      (s.becomeActive kind).swapFail
    else s
  let s := if s.pair.resTest && !s.bit Reg.LE_LSTEST 30 then s.laneTestStart else s
  let s := s.claimUpdate.tdmTurnover
  s.onPair (fun p => { p with resTest := false })

end Sys2Proof.Machine
end

