-- ==== Sys2Proof/Machine/Receive.lean ====
section
/-!
DEFINITION. Link frames at their boundaries: what every link sends, and upstream frames received, bad or missing (R93, R99
to R104, R118, R120, R343).
-/

namespace Sys2Proof.Machine

/-! ## Downstream (R93) -/

/-- The next link-frame boundary is a gait-frame boundary: the gait frame has its link frames (R32), or FCNT comes to 0 for the first
time after a reset (R510). -/
def State.boundaryDue (s : State) : Bool :=
  if s.time.grid then decide (gaitLinkFrames s.gaitLen ≤ s.time.lf) else s.time.fcnt == 255

/-- DOWNSTREAM_FRAME (R93, R510): a link frame begins; every link sends its frame, and lane 0 of the tandem its content. The
first link frame of a gait frame begins at its boundary, and none begins at a gait-frame boundary before its turnover. In a reset and
before the start the timeline goes on and nothing is sent. Sending moves no time line. -/
def execDownstreamFrame (s : State) : Host.Outcome State Fault Refusal :=
  if s.unit.life = .inReset || s.unit.life = .testHold then .next (s.advance 1)
  else if s.unit.life = .off || s.boundaryDue then .next s
  else
    let s := if s.time.lf = 0 then s else s.advance 1
    let b := { s with time := { s.time with lf := s.time.lf + 1 } }
    let s := (List.range 16).foldl (fun s n =>
      let t := s.sendFrame n
      (t.noteSent n (t.link n).flight).accessTick n) b
    .next { s.tdmFrame with time := b.time }

/-! ## Upstream frames (R99 to R104) -/

/-- The trained round trip of link `n` (R116, R118). -/
def State.trainedRtt (s : State) (n : Nat) : Nat := s.fld (Reg.LNK_RTT n) 15 0

/-- d + H and 2d + H of link `n`: from t_f to the nominal instant of its samples (R185), and to the expected start of upstream frame `f`
(R100). -/
def State.upDelay (s : State) (n : Nat) : Int := s.sfld (Reg.LNK_DLY n) 15 0 + s.fld (Reg.LNK_HSER_HI n) 31 16
def State.upExpect (s : State) (n : Nat) : Int := s.upDelay n + s.sfld (Reg.LNK_DLY n) 15 0

/-- The row slots of upstream frame `f` on link `n`: slot 7·row + j for Sj (R101). -/
def State.rowSlots (s : State) (n f : Nat) : List Nat := (List.range 7).map (fun j => s.smapSlot n (7 * (f % 4) + j))

/-- The source that a slot carries. -/
def slotSource (v : Nat) : Option Nat := if v / 64 = 0 then some (v % 64) else none

/-- Edge steps to the next frame whose row carries source `k` (R185). -/
def State.sourceGap (s : State) (n f k : Nat) : Nat :=
  2560 * (((List.range 4).map (· + 1)).find? (fun d => (s.rowSlots n (f + d)).contains k)).getD 4

/-- FCNT of the upstream frame that is received now: the one after the last, or, where no frame of the training was received one by one, the
latest one that can have arrived whole (R88, R100). -/
def State.rxExpected (s : State) (n : Nat) : BitVec 8 :=
  match (s.link n).rx with
  | some f => f
  | none => s.time.fcnt - BitVec.ofNat 8 (s.frameNo + 1 - ((s.now : Int) + 64 - s.upExpect n).toNat / 2560)

/-- Nominal instant of the samples of upstream frame `f`: t_f + d + H (R185). -/
def State.rxInstant (s : State) (n : Nat) (f : BitVec 8) : Nat :=
  ((s.frameNo - (s.time.fcnt - f).toNat : Nat) * 2560 + s.upDelay n).toNat

/-- A bad or missing upstream frame (R104, R120): its sources repeat their values, stale; it is counted and reported as a
corrected fault. -/
def State.rxBad (s : State) (n : Nat) (missing : Bool) : State :=
  let f := s.rxExpected n
  let s := s.bump (if missing then Reg.LNK_LOST n else Reg.LNK_CRCERR n) 31 0 1
  let s := s.fault 3 n (if missing then 1 else 2)
  let at_ := s.rxInstant n f
  let s := (s.rowSlots n f.toNat).foldl (fun s v =>
    match slotSource v with
    | some k => s.deliverStale (s.linkEntry n k) at_ (s.sourceGap n f.toNat k)
    | none => s) s
  (s.onLink n (fun l => { l with badRun := min (l.badRun + 1) 3, rx := some (f + 1) }))

/-- OBEY of a good frame: the port of this unit and of its partner (R102, R337, R340). -/
def State.rxObey (s : State) (n obey : Nat) : State :=
  let own := if s.unit.unitB then 2 else 1
  let step (v : Vector Nat 16) (hit : Bool) := vset v n (if hit then min (vget v n 0 + 1) 2 else 0)
  s.onPair (fun p => { p with obeyOwn := step p.obeyOwn (obey == own), obeyPart := step p.obeyPart (obey == 3 - own) })

/-- Shadow compare (R343). -/
def State.rxDigest (s : State) (n obey : Nat) (f : BitVec 8) (digest : BitVec 12) : State :=
  if s.unit.pairMode && s.role == 1 && s.syncPhase == 4 then
    let l := s.link n
    let partner := if s.unit.unitB then 1 else 2
    if digest = 0 then s.onLink n (fun l => { l with skip := 2 })
    else if obey == partner && l.digestOk && l.skip == 0 then
      match l.digs[(s.time.fcnt - f).toNat + 1]? with
      | some d => if d = digest then s else s.mismatch n
      | none => s
    else s
  else s

/-- Round-trip drift (R118). -/
def State.rxDrift (s : State) (n rtt : Nat) : State :=
  let s := s.put (Reg.LNK_RTT n) 31 16 rtt
  let t := s.trainedRtt n
  if 16 < (max rtt t - min rtt t) && !s.bit (Reg.LNK_STAT n) 24 then (s.setBit (Reg.LNK_STAT n) 24 true).raise (E.LINK_DRIFT n)
  else s

/-- The samples of a good data frame (R99, R101): replies to head accesses, and the calibrated sources. -/
def State.rxSamples (s : State) (n : Nat) (f : BitVec 8) (frame : BitVec 160) : State :=
  let at_ := s.rxInstant n f
  ((s.rowSlots n f.toNat).zipIdx).foldl (fun s x =>
    let w := ffield frame (20 + 16 * x.2) (35 + 16 * x.2)
    match slotSource x.1 with
    | some k =>
      let e := s.linkEntry n k
      s.deliver e e (signed 16 w * 256) at_ (s.sourceGap n f.toNat k) false
    | none => if x.1 / 64 = 1 then s.accessWord n w else s) s

/-- A good upstream data frame (R99 to R103). -/
def State.rxGood (s : State) (n : Nat) (frame : BitVec 160) : State :=
  let f := upFcnt frame
  let status := upStatus frame
  let trip := s.bit (Reg.LNK_STAT n) 19
  let s := s.put (Reg.LNK_STAT n) 23 16 status
  let dn := status.testBit 0
  let s := if dn then s.bump (Reg.LNK_DNERR n) 31 0 1 else s
  let s := if status.testBit 3 && !trip then s.backstop n else s
  let s := s.rxObey n (status / 64)
  let s := s.rxSamples n f frame
  let s := (s.rxDigest n (status / 64) f (BitVec.ofNat 12 (ffield frame 132 143)))
  s.onLink n (fun l => { l with badRun := 0, dnRun := if dn then min (l.dnRun + 1) 3 else 0, rx := some (f + 1) })

/-- The alignment of a link's receiver after a frame (R90). -/
def LinkSt.noteSync (l : LinkSt) (ok : Bool) : LinkSt :=
  let x := Sys2Proof.Machine.noteSync l.aln l.lost ok
  { l with aln := x.1, lost := x.2 }

/-- The frame that the receive logic takes for `f` under an injection; none for a missing one (R129). -/
def injSeen (o : InjOut) (f : Option (BitVec 160)) : Option (BitVec 160) :=
  match o with
  | .pass => f
  | .drop => none
  | .xor m => f.map (· ^^^ m)
  | .fix g => some (withCrc g)
  | .raw g => some g

/-- An upstream frame of a link in training (R90, R106, R115): LOCK adopts FCNT from a good frame once aligned; later a good control
frame with the FCNT that is due is taken. -/
def State.rxTraining (s : State) (n : Nat) (f : Option (BitVec 160)) (rtt : Nat) : State :=
  let l := s.link n
  match f with
  | none => s.onLink n (fun l => { l with rx := l.rx.map (· + 1) })
  | some g =>
    let good := l.aln == 64 && upFrameGood g
    let s := if good then s.put (Reg.LNK_STAT n) 23 16 (upStatus g) else s
    if s.linkState n = 1 then (if good then s.onLink n (fun l => { l with rx := some (upFcnt g + 1) }) else s)
    else
      let s := s.onLink n (fun l => { l with rx := l.rx.map (· + 1) })
      if good && ffield g 2 3 == 2 && l.rx == some (upFcnt g) then s.ctrlFrameRx n (upCtrl g) rtt else s

/-- An upstream frame of a link that is UP (R99 to R104, R118); none for a missing one. A good control frame is bad here: the link
carries data frames only (DESIGN CHOICE, log 120). -/
def State.rxUp (s : State) (n : Nat) (f : Option (BitVec 160)) (rtt : Nat) : State :=
  match f with
  | none => s.rxBad n true
  | some g =>
    if 64 < ((rtt : Int) - s.upExpect n).natAbs then s.rxBad n true
    else
      let s := s.rxDrift n rtt
      if upFrameGood g && upFcnt g == s.rxExpected n && ffield g 2 3 == 0 then s.rxGood n g else s.rxBad n false

/-- An upstream frame as the receive logic sees it, by the state of the link. -/
def State.rxFrameSeen (s : State) (n : Nat) (f : Option (BitVec 160)) (rtt : Nat) : State :=
  let (o, s) := s.injFrame n true f
  let f := injSeen o f
  (if s.linkUp n then s.rxUp n f rtt else s.rxTraining n f rtt).testFrame n

/-- UPSTREAM_FRAME (R89, R90, R99): line bits received on link `n`, and the measured round trip. -/
def execUpstreamFrame (n : Fin 16) (line : BitVec 160) (rtt : Nat) (s : State) : Host.Outcome State Fault Refusal :=
  if !s.runs || s.linkState n == 0 then .next s
  else
    let (f, dsc) := descramble line (s.link n).dsc
    let s := s.onLink n (fun l => ({ l with dsc := dsc } : LinkSt).noteSync (ffield line 0 1 == 1))
    .next (s.rxFrameSeen n (some f) rtt).noteFinding

/-- UPSTREAM_FRAME_MISSING (R100). -/
def execUpstreamFrameMissing (n : Fin 16) (s : State) : Host.Outcome State Fault Refusal :=
  if !s.runs || s.linkState n == 0 then .next s else .next (s.rxFrameSeen n none 0).noteFinding

end Sys2Proof.Machine
end

