-- ==== Sys2Proof/Machine/Reset.lean ====
section
/-!
DEFINITION. Reset and power (R55, R56, R58, R465, R478, R488, R510): what an assertion forces, and which state survives a
reset or a power cycle.
-/

namespace Sys2Proof.Machine

/-- Every output in its state of R55: no claim, links idle, local channels safe, SHELF_EN and power-good low. -/
def State.outputsSafe (s : State) : State :=
  let s := (List.range 16).foldl (fun s n => s.onLc n (fun c => { c with edges := [], a := .safe, b := .safe, due := none })) s
  let s := (s.wrN Reg.PG_STAT 0).put Reg.PAIR_CLAIM 15 0 0
  { s with unit := { s.unit with claimOut := false, txIdle := true, shelfEn := false, booted := false } }

/-- A recognised RESET# assertion or a software reset (R56, R58, R478): local channels go to their configured safe states,
the claim to none and the links to electrical idle; the unit stays in reset until its release. -/
def State.assertReset (s : State) (cause : Nat) : State :=
  let booted := s.unit.booted
  let s := s.outputsSafe
  { s with unit := { s.unit with life := .inReset, cause := if s.unit.thermLatch then 3 else cause, booted := booted } }

/-- Registers that neither power-on nor RESET# changes (R465): the non-volatile ones; UPD_ARB and UPD_TRIAL among them. -/
def keptReg (a : Nat) : Bool :=
  a == Reg.TIM_PONCNT || a == Reg.EVR_LCNT || a == Reg.EVR_NVWEAR || (decide (0x560 ≤ a) && decide (a < 0x580)) ||
    a == Reg.CAL_GEPOCH || a == Reg.FLT_LIFECON || a == Reg.FLT_LIFEFAT || a == Reg.UPD_ARB || a == Reg.EVR_SEQ

/-- Registers that only power-on clears (R387, R402). -/
def ringReg (a : Nat) : Bool :=
  a == Reg.EVR_STAT || a == Reg.EVR_RCNT || a == Reg.EVR_OLDEST || a == Reg.EVR_MIRSEQ

/-- Time after a reset (R510): MONO and the link-frame timeline go on, the gait-frame grid, GFC and WALL start again. -/
def TimeSt.afterReset (t : TimeSt) : TimeSt :=
  { t with wall := 0, step := none, slew := none, rem := 0, gfc := 0, grid := false, lf := 0, gaits := [] }

/-- CLAIM_IN is a pin: its level is what it is (R352). -/
def State.withClaimIn (s : State) (level : Bool) : State :=
  if level then (s.setBit Reg.PAIR_STAT 23 true).setBit Reg.PAIR_STAT 24 true else s

/-- The state that a RESET# or a software reset leaves (R56, R6, R465): the non-volatile array, the saddlebag with its
staging, the recorder ring, MONO and the pins survive. -/
def State.afterReset (s : State) : State :=
  let r := State.reset
  { r with
    reg := s.reg.filter (fun e => keptReg e.1 || ringReg e.1)
    time := s.time.afterReset
    frameNo := s.frameNo
    unit := { s.unit with booted := false, shelfEn := false, claimOut := false, txIdle := true, thermLatch := false }
    flash := s.flash
    upd := { r.upd with trialrun := s.upd.trialrun, confirmed := s.upd.confirmed, ovlA := s.upd.ovlA, ovlB := s.upd.ovlB,
                        ovlAt := s.upd.ovlAt }
    meas := { r.meas with store := s.meas.store }
    flt := { r.flt with lifeNv := s.flt.lifeNv, lifeAt := s.flt.lifeAt }
    evr := { s.evr with sel := r.evr.sel }
    sbg := s.sbg
    ecc := { r.ecc with flips := s.ecc.flips.filter (fun x => x.region == 5 || x.region == 8) }
    free := s.free
    pending := s.pending }.withClaimIn s.claimIn

/-- The state that a power cycle leaves (R35, R387, R389, R397, R400): MONO, the ring and the staging are lost; the
power-on is counted. -/
def State.afterPower (s : State) : State :=
  let s := s.afterReset
  let s : State := { s with
    reg := s.reg.filter (fun e => keptReg e.1),
    time := State.reset.time,
    frameNo := 0,
    upd := { s.upd with ovlAt := none },
    flt := { s.flt with lifeAt := none },
    evr := { s.evr with offers := [], queue := [], ring := [], gap := [] },
    sbg := s.sbg.map (fun g => { g with staged := none, last := none }),
    ecc := { s.ecc with flips := s.ecc.flips.filter (fun x => x.region == 8) },
    unit := { s.unit with tkskip := none } }
  let s := (s.bump Reg.TIM_PONCNT 31 0 1).wrN Reg.FLT_LIFECON s.flt.lifeNv
  ((s.wrN Reg.EVR_SEQ s.evr.high).wrN Reg.EVR_MIRSEQ s.evr.high).setBit Reg.EVR_STAT 28 true

/-- POWER_FAIL (R488): VIN has fallen through 1.45 V and every output is high-impedance. -/
def execPowerFail (s : State) : Host.Outcome State Fault Refusal :=
  let s := s.outputsSafe
  .next { s with unit := { s.unit with life := .off } }

/-- RESET_ASSERT (R56). -/
def execResetAssert (s : State) : Host.Outcome State Fault Refusal :=
  if s.unit.life = .off then .next s else .next (s.assertReset 1)

/-! ## Clock faults (R30, R49) -/

/-- A clock fault of kind index `k` is declared (R30, R360, R398): the fatal reaction is taken at the decision, and BKOSC holds every
output in its safe state. The links go on with data frames and no edges. -/
def State.clockFault (s : State) (k addr : Nat) : State :=
  let w := fltKindWord k
  let m := s.faultMsg k (w / 65536 % 4) (w / 1048576 % 8) 0 addr
  let s := (s.sendFault m).setBit Reg.TIM_CLKSTAT 6 true
  let s := if s.runs then s.fatalReaction m.bits false false else s
  let s := (List.range 16).foldl (fun s n => s.onLc n (fun c => { c with edges := [], a := .safe, b := .safe, due := none })) s
  let s := s.wrN Reg.PG_STAT 0
  { s with unit := { s.unit with claimOut := false, shelfEn := false } }

/-- CLK_LOSS (R30): REFCLK, the PLL lock, or both are lost. -/
def execClkLoss (ref pll : Bool) (s : State) : Host.Outcome State Fault Refusal :=
  if (s.runs || s.unit.life = .paddock) && (ref || pll) then
    let s := if ref then s.setBit Reg.TIM_CLKSTAT 4 true else s
    let s := if pll then (s.setBit Reg.TIM_CLKSTAT 3 true).setBit Reg.TIM_CLKSTAT 2 false else s
    .next (s.clockFault 0 (b2n ref + 2 * b2n pll))
  else .next s

/-- CLK_FREQ (R30): the count of CK_HK cycles over 1,024 RTC ticks differs from 3,125,000 by more than 0.5 %. The check runs
wherever RTCEN has been loaded, in paddock mode too. -/
def execClkFreq (count : Word) (s : State) : Host.Outcome State Fault Refusal :=
  if (s.runs || s.unit.life = .paddock) && s.bit Reg.TIM_CLKCFG 7 && decide (15625 < ((count.toNat : Int) - 3125000).natAbs) then
    .next ((s.setBit Reg.TIM_CLKSTAT 5 true).clockFault 1 count.toNat)
  else .next s

end Sys2Proof.Machine
end

