-- ==== Sys2Proof/Machine/Update.lean ====
section
/-!
DEFINITION. Images and updates (chapter 16; R62, R63): the boot descriptor, the checks of a container, update sessions,
activation, confirmation, fallback and the settings overlay.
-/

namespace Sys2Proof.Machine

/-! ## The boot descriptor (R62, R63, R428) -/

/-- A boot descriptor. -/
structure Desc where
  dseq   : Nat
  clksel : Nat
  qdiv   : Nat
  fwsel  : Nat
  tksel  : Nat
  at_    : List Nat
  deriving DecidableEq, Repr

/-- `n` bytes at an offset, little-endian. -/
def leAt (bs : List Byte) (o n : Nat) : Nat := leNat ((bs.drop o).take n)

def Desc.trial (d : Desc) : Bool := d.fwsel.testBit 7

/-- Bytes of slot `i` (R428). -/
def slotSize (i : Nat) : Nat := if i < 2 then 4194304 else 1048576

/-- The slots overlap neither one another nor the descriptor sectors, and each lies below 2^31 (R428). -/
def slotsOk (at_ : List Nat) : Bool :=
  let xs := at_.zipIdx
  xs.all (fun x => decide (0x2000 ≤ x.1) && decide (x.1 + slotSize x.2 ≤ 2 ^ 31) &&
    xs.all (fun y => x.2 == y.2 || decide (x.1 + slotSize x.2 ≤ y.1) || decide (y.1 + slotSize y.2 ≤ x.1)))

/-- A valid descriptor copy (R27, R62, R63). -/
def descOf (bs : List Byte) : Option Desc :=
  let d : Desc := { dseq := leAt bs 6 2, clksel := leAt bs 8 1, qdiv := leAt bs 9 1, fwsel := leAt bs 10 1, tksel := leAt bs 11 1,
                    at_ := [leAt bs 0x10 4, leAt bs 0x14 4, leAt bs 0x18 4, leAt bs 0x1C 4] }
  if bs.length = 64 && leAt bs 0 4 == 0x44425856 && leAt bs 4 2 == 1 && leAt bs 0x3C 4 == (crc32 (bs.take 60)).toNat &&
      decide (3 ≤ d.qdiv) && decide (d.qdiv ≤ 15) && d.clksel % 4 != 3 && d.fwsel % 128 / 2 == 0 && d.tksel / 2 == 0 &&
      slotsOk d.at_ then some d
  else none

/-- The bytes of a descriptor (R62). -/
def Desc.bytes (d : Desc) : List Byte :=
  let b := leBytes 4 0x44425856 ++ leBytes 2 1 ++ leBytes 2 d.dseq ++ leBytes 1 d.clksel ++ leBytes 1 d.qdiv ++
    leBytes 1 d.fwsel ++ leBytes 1 d.tksel ++ leBytes 4 0 ++ d.at_.flatMap (leBytes 4) ++ List.replicate 28 0
  b ++ leBytes 4 (crc32 b).toNat

/-- The descriptor copy that the ROM uses (R63): its content and which copy. -/
def FlashSt.desc (f : FlashSt) : Option (Desc × Nat) :=
  match descOf f.desc0, descOf f.desc1 with
  | some a, some b =>
    let ahead := (b.dseq + 65536 - a.dseq) % 65536
    if 1 ≤ ahead && ahead ≤ 0x7FFF then some (b, 1) else some (a, 0)
  | some a, none => some (a, 0)
  | none, some b => some (b, 1)
  | none, none => none

/-- The descriptor that stands for none: the layout of R428. -/
def Desc.default : Desc :=
  { dseq := 0, clksel := 0, qdiv := 3, fwsel := 0, tksel := 0, at_ := [0x100000, 0x500000, 0x900000, 0xA00000] }

/-- Write the descriptor copy not in use, changed by `f`, with DSEQ incremented (R439, R441, R442, R447). -/
def State.writeDesc (s : State) (f : Desc → Desc) : State :=
  let (d, c) := (s.flash.desc).getD (Desc.default, 1)
  let b := (f { d with dseq := (d.dseq + 1) % 65536 }).bytes
  if c = 0 then { s with flash := { s.flash with desc1 := b } } else { s with flash := { s.flash with desc0 := b } }

/-- The TRIAL bit of the descriptor (R62). -/
def State.trial (s : State) : Bool := (s.flash.desc.map (fun d => d.1.trial)).getD false

/-! ## Containers (R429 to R431) -/

def State.slot (s : State) (i : Nat) : Slot := vget s.flash.slots i Slot.erased
def State.setSlot (s : State) (i : Nat) (x : Slot) : State := { s with flash := { s.flash with slots := vset s.flash.slots i x } }

def hdrVersion (h : List Byte) : Word := word (leAt h 0x0C 4)
def hdrArb (h : List Byte) : Nat := leAt h 0x10 1
def hdrKind (h : List Byte) : Nat := leAt h 6 1
def hdrMinFw (h : List Byte) : Nat := leAt h 0x14 4
def hdrTkid (h : List Byte) : Word := word (leAt h 0x18 4)

/-- Whole length of the container (R429). -/
def hdrTotal (h : List Byte) : Nat := leAt h 0x1C 4 + 368

/-- Check 1 of R431: magic, format, kind and zero fields. -/
def hdrFormat (h : List Byte) (kind : Nat) : Bool :=
  decide (h.length = 256) && leAt h 0 4 == 0x4E424D4C && leAt h 4 2 == 1 && hdrKind h == kind && leAt h 7 1 == 0 &&
    leAt h 0x11 3 == 0 && (kind == 1 || (leAt h 0x14 4 == 0 && leAt h 0x18 4 == 0)) && leAt h 0x2C 4 == 0 &&
    leAt h 0xB9 71 == 0 && hdrTotal h % 4 == 0

/-- Check 2 of R431. -/
def hdrPart (h : List Byte) : Bool := leAt h 8 4 == 0x948000A1

/-- The anti-rollback counter of an image kind (R433); provisioning containers follow the firmware counter. -/
def State.arb (s : State) (kind : Nat) : Nat := if kind = 1 then s.fld Reg.UPD_ARB 15 8 else s.fld Reg.UPD_ARB 7 0

/-- Raise an anti-rollback counter (R433). -/
def State.raiseArb (s : State) (kind v : Nat) : State :=
  if s.arb kind < v then
    (if kind = 1 then s.put Reg.UPD_ARB 15 8 v else s.put Reg.UPD_ARB 7 0 v).raise (E.ARB_RAISED 0)
  else s

/-- The checks of R431 in order, `lenOk` being the length line: 1 accepted, or the code of the first check that fails. -/
def State.checkContainer (s : State) (h : List Byte) (kind : Nat) (lenOk : Bool) (cr : Crypto) (fw : Nat) : Nat :=
  if cr.readErr then 9
  else if !(hdrFormat h kind && lenOk) then 2
  else if !hdrPart h then 6
  else if !(cr.signerOk && cr.sigOk) then 4
  else if hdrArb h < s.arb kind then 5
  else if !cr.tagOk then 3
  else if kind = 1 && fw < hdrMinFw h then 8
  else 1

/-- The check of slot `i` at a start or live restart, with firmware version `fw` loaded (R64, R431). -/
def State.checkSlot (s : State) (i fw : Nat) : Nat :=
  let x := s.slot i
  let n := hdrTotal x.header
  s.checkContainer x.header (if i < 2 then 0 else 1) (decide (n ≤ slotSize i) && decide (256 + x.body = n)) x.crypto fw

/-! ## Overlay (R443 to R445) -/

/-- Copy A is the newer one (R443). -/
def UpdSt.newerA (u : UpdSt) : Bool :=
  match u.ovlA, u.ovlB with
  | some a, some b => decide (b.gen ≤ a.gen)
  | some _, none => true
  | none, _ => false

/-- Copy `a` of the overlay. -/
def UpdSt.copy (u : UpdSt) (a : Bool) : Option OvlCopy := if a then u.ovlA else u.ovlB

/-- Firmware reads the overlay (R443 to R445): whether it found settings; UPD_OVL shows the copy in use. -/
def State.readOverlay (s : State) (r : OverlayRead) : State × Bool :=
  let newest := s.upd.newerA
  let use (s : State) (a : Bool) (c : OvlCopy) : State :=
    s.wrN Reg.UPD_OVL ((if a then 0 else 1) + c.format % 256 * 256 + c.gen % 65536 * 65536)
  let fmt (a : Bool) := ((s.upd.copy a).map (·.format)).getD 0
  let none_ (s : State) : State × Bool :=
    (((s.wrN Reg.UPD_OVL 2).raise (E.SETTINGS_UNREADABLE 0)).offerNow 0x0103 3 (leBytes 4 (fmt true) ++ leBytes 4 (fmt false)), false)
  match r with
  | .newest =>
    match s.upd.copy newest with
    | some c => (use s newest c, true)
    | none => none_ s
  | .older =>
    match s.upd.copy (!newest) with
    | some c => (((use s (!newest) c).raise (E.SETTINGS_OLDER 0)).offerNow 0x0104 2 (leBytes 4 c.gen), true)
    | none => none_ s
  | .none => none_ s

/-- Whether an overlay write leaves copy A and writes B (R443, R444): the copy in use stays; where none is in use, the newer one. -/
def UpdSt.keepsA (u : UpdSt) (inUse : Nat) : Bool :=
  match inUse with
  | 0 => true
  | 1 => false
  | _ => u.newerA

/-- OVERLAY_WRITE (R443, R444): the copy that firmware does not use takes the next GEN; at most once in 60 s, and never in a trial. -/
def execOverlayWrite (s : State) : Host.Outcome State Fault Refusal :=
  let wait := match s.upd.ovlAt with
    | some t => decide ((s.time.mono - t).toNat < 48000000000)
    | none => false
  if s.live && s.fwOk && !s.upd.trialrun && !wait then
    let a := s.upd.keepsA (s.fld Reg.UPD_OVL 1 0)
    let gen := match s.upd.copy s.upd.newerA with | some c => c.gen + 1 | none => 1
    let c : OvlCopy := { format := 1, gen := gen, version := s.rd Reg.BOOT_FWVER }
    let u := if a then { s.upd with ovlB := some c } else { s.upd with ovlA := some c }
    let s := { s with upd := { u with ovlAt := some s.time.mono } }
    .next (s.wrN Reg.UPD_OVL ((if a then 1 else 0) + 256 + gen % 65536 * 65536))
  else .next s

/-! ## Sessions (R434 to R438) -/

/-- Code of a source in UPD_STAT.OWNER. -/
def srcCode (p : Port) : Nat := match p with | .smbus => 1 | .spi => 2 | .fw => 0

def State.pendOf (s : State) (p : Port) : Option PendSess :=
  match p with | .smbus => s.upd.pendS | .spi => s.upd.pendP | .fw => none

def State.setPend (s : State) (p : Port) (x : Option PendSess) : State :=
  match p with
  | .smbus => { s with upd := { s.upd with pendS := x } }.setBit Reg.UPD_STAT 25 x.isSome
  | .spi => { s with upd := { s.upd with pendP := x } }.setBit Reg.UPD_STAT 24 x.isSome
  | .fw => s

/-- A session of source `p` for a slot has ended with a code (R435, R438, R448, R449). -/
def State.sessEnded (s : State) (p : Port) (slot code : Nat) : State :=
  let s := s.put Reg.UPD_RESULT 7 0 code
  let s := if code = 16 then (s.put Reg.UPD_RESULT 15 8 16).raise (E.UPD_BUSY 0) else s
  let s := if code = 0 then s else s.bump Reg.UPD_ERRCNT 15 0 1
  s.offerNow 0x0105 2 (leBytes 4 (srcCode p) ++ leBytes 4 slot ++ leBytes 4 code)

/-- End the pending session of a source (R435). -/
def State.endPend (s : State) (p : Port) (code : Nat) : State :=
  match s.pendOf p with
  | some x => (s.setPend p none).sessEnded p x.slot code
  | none => s

/-- End the authenticated session (R438). -/
def State.endAuth (s : State) (code : Nat) : State :=
  match s.upd.auth with
  | some x =>
    let s := { s with upd := { s.upd with auth := none, actWait := false } }
    ((s.wr Reg.UPD_STAT (s.rd Reg.UPD_STAT &&& 0x03000000)).wrN Reg.UPD_OFS 0).sessEnded x.src x.slot code
  | none => s

/-- A write of the UPD block by a source that does not own the authenticated session ends its pending one (R435). -/
def State.otherOwner (s : State) (p : Port) : Bool :=
  match s.upd.auth with
  | some x => x.src != p
  | none => false

/-- UPD_OPEN (R435, R436). -/
def State.updOpen (s : State) (p : Port) (v : Word) : State :=
  let slot := if bitOf v 4 then 4 else fieldOf v 1 0
  let len := s.fld Reg.UPD_LEN 23 0
  let inUse := (decide (slot < 2) && slot == s.fld Reg.BOOT_STAT 7 7) || (slot == 2 + s.fld Reg.BOOT_STAT 8 8)
  let refuse (s : State) (c : Nat) : State := (s.put Reg.UPD_RESULT 7 0 c).bump Reg.UPD_ERRCNT 15 0 1
  if inUse || (decide (slot < 2) && (s.upd.trialrun || s.trial)) then refuse s 18
  else if len < 368 || len % 4 != 0 || (decide (slot < 4) && decide (slotSize slot < len)) then refuse s 20
  else s.setPend p (some { slot := slot, len := len, hdr := [] })

/-- UPD_DATA (R435, R437): header bytes of a pending session, then the pages of the authenticated one while RDY is set. -/
def State.updData (s : State) (p : Port) (v : Word) : State :=
  if s.otherOwner p then s.endPend p 16
  else match s.pendOf p with
    | some x => if x.hdr.length < 256 then s.setPend p (some { x with hdr := x.hdr ++ leBytes 4 v.toNat }) else s
    | none =>
      match s.upd.auth with
      | some x =>
        if x.src = p && s.bit Reg.UPD_STAT 31 && x.ofs < x.len then
          let y := { x with ofs := x.ofs + 4, page := x.page + 4 }
          let s := { s with upd := { s.upd with auth := some y } }.wrN Reg.UPD_OFS y.ofs
          if 256 ≤ y.page || y.len ≤ y.ofs then s.setBit Reg.UPD_STAT 31 false else s
        else s
      | none => s

/-- KIND that a slot takes: firmware, tack image, or provisioning for none (R435). -/
def imageKind (slot : Nat) : Nat := if slot < 2 then 0 else if slot < 4 then 1 else 2

/-- UPD_HEADER_CHECK (R435, R437): checks 1 to 4 of R431 on the header of source `p`; the SIGNER hash is the operand. -/
def execUpdHeaderCheck (p : Port) (signerOk : Bool) (s : State) : Host.Outcome State Fault Refusal :=
  match s.pendOf p with
  | none => .next s
  | some x =>
    if !(s.runs && s.fwOk && decide (x.hdr.length = 256)) then .next s
    else
      let k := imageKind x.slot
      let len := decide (hdrTotal x.hdr = x.len) && !(k == 2 && s.unit.okh)
      let code := s.checkContainer x.hdr k len { signerOk := signerOk, sigOk := true, tagOk := true, readErr := false }
        (2 ^ 32)
      if code != 1 then .next (s.endPend p code)
      else if s.upd.auth.isSome then .next (s.endPend p 16)
      else
        let s := s.setPend p none
        let s := { s with upd := { s.upd with auth := some { src := p, slot := x.slot, len := x.len, hdr := x.hdr, ofs := 256,
                                                             page := 256 } } }
        let s := ((s.setBit Reg.UPD_STAT 30 true).put Reg.UPD_STAT 27 26 (srcCode p)).put Reg.UPD_STAT 1 0 x.slot
        let s := (s.wrN Reg.UPD_OFS 256)
        let s := if x.slot < 4 then s.setSlot x.slot { Slot.erased with mark := 1 } else s
        .next (s.endPend (if p = .smbus then .spi else .smbus) 16)

/-- UPD_PAGE_PROGRAMMED (R437): the next 256 bytes may be written. -/
def execUpdPageProgrammed (s : State) : Host.Outcome State Fault Refusal :=
  match s.upd.auth with
  | some x =>
    if s.runs && s.fwOk && !s.bit Reg.UPD_STAT 31 && decide (x.ofs < x.len) then
      .next ({ s with upd := { s.upd with auth := some { x with page := 0 } } }.setBit Reg.UPD_STAT 31 true)
    else .next s
  | none => .next s

/-- UPD_VERIFY_DONE (R432, R437): the slot is read back and all of R431 runs on it. -/
def execUpdVerifyDone (cr : Crypto) (tack : TackImage) (s : State) : Host.Outcome State Fault Refusal :=
  match s.upd.auth with
  | none => .next s
  | some x =>
    if !(s.runs && s.fwOk && decide (x.ofs = x.len) && !s.bit Reg.UPD_STAT 29) then .next s
    else
      let k := imageKind x.slot
      let code := s.checkContainer x.hdr k (decide (hdrTotal x.hdr = x.len) && !(k == 2 && s.unit.okh)) cr
        (s.rdN Reg.BOOT_FWVER)
      if code != 1 then .next ((s.endAuth code).raise (E.UPD_ERR 0))
      else
        let s := ((s.setBit Reg.UPD_STAT 29 true).put Reg.UPD_RESULT 7 0 0).raise (E.UPD_DONE 0)
        if k = 2 then
          let s := { s with unit := { s.unit with okh := true, oik := true } }
          .next ((s.offerNow 0x0107 3 []).endAuth 0)
        else .next (s.setSlot x.slot { header := x.hdr, body := x.len - 256, crypto := cr, tack := tack, mark := 2 })

/-- UPD_EXPIRED (R438): the idle session ends: the authenticated one, or else the pending ones. -/
def execUpdExpired (s : State) : Host.Outcome State Fault Refusal :=
  if !s.runs then .next s
  else if s.upd.auth.isSome then .next ((s.endAuth 17).raise (E.UPD_EXPIRED 0))
  else if s.upd.pendS.isSome || s.upd.pendP.isSome then
    .next (((s.endPend .smbus 17).endPend .spi 17).raise (E.UPD_EXPIRED 0))
  else .next s

/-- UPD_ABORT (R438). -/
def State.updAbort (s : State) (p : Port) : State :=
  let s := s.endPend p 21
  match s.upd.auth with
  | some x => if x.src = p then s.endAuth 21 else s
  | none => s

/-! ## Activation, confirmation and fallback (R439 to R442) -/

/-- A verified firmware slot is activated (R439). -/
def State.activateFw (s : State) (slot : Nat) : State :=
  let new := hdrVersion (s.slot slot).header
  let s := s.writeDesc (fun d => { d with fwsel := slot + 128 })
  let s := (s.offerNow 0x0100 2 (leBytes 4 (s.rdN Reg.BOOT_FWVER) ++ leBytes 4 new.toNat ++ leBytes 4 slot)).raise (E.FW_ACTIVATED 0)
  let s := { s with upd := { s.upd with confirmed := false } }
  let s := (s.endAuth 0).setBit Reg.UPD_STAT 28 true
  s.startRestart true

/-- A verified tack slot is staged for the next start (R442). -/
def State.activateTack (s : State) (slot : Nat) : State :=
  let s := s.writeDesc (fun d => { d with tksel := slot - 2 })
  let s := s.offerNow 0x0106 2 (leBytes 4 slot ++ leBytes 4 (hdrVersion (s.slot slot).header).toNat)
  (s.raise (E.TACK_STAGED 0)).endAuth 0

/-- UPD_ACTIVATE (R438, R439, R442, R448). -/
def State.updActivate (s : State) (p : Port) : State :=
  match s.upd.auth with
  | none => s.put Reg.UPD_RESULT 7 0 22
  | some x =>
    if x.src != p then s
    else if !s.bit Reg.UPD_STAT 29 then s.put Reg.UPD_RESULT 7 0 22
    else if 2 ≤ x.slot then s.activateTack x.slot
    else if s.calRuns then s.put Reg.UPD_RESULT 7 0 18
    else if !s.unit.pairMode then s.activateFw x.slot
    else
      let s := s.tokRequest 2
      if s.bit Reg.SYS_TOKSTAT 29 then
        { s with upd := { s.upd with actWait := true } }.setBit Reg.UPD_STAT 28 true
      else if s.tokHeld && s.tokMine && s.tokAct == 2 then s.activateFw x.slot
      else s.put Reg.UPD_RESULT 7 0 19

/-- The activation that waited for the token of the pair (R349, R439). -/
def State.actTurnover (s : State) : State :=
  if s.upd.actWait && !s.bit Reg.SYS_TOKSTAT 29 then
    let s := { s with upd := { s.upd with actWait := false } }
    match s.upd.auth with
    | some x =>
      if s.tokHeld && s.tokMine && s.tokAct == 2 then s.activateFw x.slot
      else (s.put Reg.UPD_RESULT 7 0 19).setBit Reg.UPD_STAT 28 false
    | none => s
  else s

/-- UPD_FALLBACK (R441): during a trial a live restart into the previous firmware starts. -/
def State.updFallback (s : State) (reason : Nat) : State :=
  if s.upd.trialrun then { s with upd := { s.upd with reason := reason } }.startRestart true else s

/-- A write of UPD_CTL (R435, R452). -/
def State.updCtl (s : State) (p : Port) (v : Word) : State :=
  if p = .fw then s
  else if s.otherOwner p then s.endPend p 16
  else match fieldOf v 31 28 with
    | 1 => s.updOpen p v
    | 2 => s.updActivate p
    | 3 => s.updAbort p
    | 4 => s.updFallback 2
    | _ => s

/-- FW_CONFIRMED (R441): the steps of a confirmation, in order. -/
def execFwConfirmed (s : State) : Host.Outcome State Fault Refusal :=
  if s.live && s.fwOk && s.upd.trialrun && s.fld Reg.UPD_OVL 1 0 != 2 then
    let s := s.writeDesc (fun d => { d with fwsel := d.fwsel % 2 })
    let s := { s with upd := { s.upd with trialrun := false, confirmed := true, confEnd := none } }
    let s := s.raiseArb 0 (hdrArb (s.slot (s.fld Reg.BOOT_STAT 7 7)).header)
    let s := if s.tokHeld && s.tokMine && s.tokAct == 2 then s.tokGive else s
    let s := s.offerNow 0x0101 2 (leBytes 4 (s.rdN Reg.BOOT_FWVER) ++ leBytes 4 (s.arb 0))
    .next (s.raise (E.FW_CONFIRMED 0))
  else .next s

/-- FW_CONFIRM_TIMEOUT (R441). -/
def execFwConfirmTimeout (s : State) : Host.Outcome State Fault Refusal :=
  if s.runs && s.upd.trialrun && s.upd.confEnd.isSome then
    let s := { s with upd := { s.upd with confEnd := none } }.raise (E.FW_CONFIRM_TIMEOUT 0)
    .next (s.updFallback 1)
  else .next s

/-! ## Which firmware slot loads (R440) -/

/-- The firmware slot that the ROM loads, by TRIAL and TRIALRUN. -/
def State.fwChoice (s : State) (d : Desc) : Nat :=
  if d.trial && s.upd.trialrun then 1 - d.fwsel % 2 else d.fwsel % 2

/-- What follows when slot `i` of the descriptor's choice has loaded (R433, R440): TRIALRUN, and after a fallback the
descriptor and its record. `was` is the version left. -/
def State.fwLoaded (s : State) (d : Desc) (i : Nat) (was : Nat) : State :=
  let v := hdrVersion (s.slot i).header
  let s := (s.wr Reg.BOOT_FWVER v).put Reg.BOOT_STAT 7 7 i
  if !d.trial then
    let s := { s with upd := { s.upd with trialrun := false } }
    if i = d.fwsel % 2 then s.raiseArb 0 (hdrArb (s.slot i).header) else s
  else if s.upd.trialrun then
    let s := s.writeDesc (fun d => { d with fwsel := i })
    let reason := if s.upd.reason = 0 then 4 else s.upd.reason
    let s := { s with upd := { s.upd with trialrun := false, reason := 0, confEnd := none } }
    let s := if s.tokHeld && s.tokMine && s.tokAct == 2 then s.tokGive else s
    (s.offerNow 0x0102 3 (leBytes 4 was ++ leBytes 4 v.toNat ++ leBytes 4 reason)).raise (E.FW_FALLBACK 0)
  else if i = d.fwsel % 2 then { s with upd := { s.upd with trialrun := true } }
  else s

/-- Firmware serves (R79, R445): FWOK, the overlay, and the confirmation window of a trial. -/
def State.fwServes (s : State) (r : OverlayRead) : State :=
  let (s, found) := s.readOverlay r
  let s := s.setBit Reg.HST_STAT 31 true
  if s.upd.trialrun then
    let s := { s with upd := { s.upd with confEnd := some (s.time.mono + 48000000000) } }
    if found then s else s.updFallback 3
  else s

/-! ## Values read (R451, R452) -/

/-- UPD_SINFO state of slot `i`. -/
def State.slotState (s : State) (i : Nat) : Nat :=
  if i < 2 && i == s.fld Reg.BOOT_STAT 7 7 && s.bit Reg.SYS_STAT 0 then (if s.upd.trialrun then 4 else 3)
  else if 2 ≤ i && i == 2 + s.fld Reg.BOOT_STAT 8 8 && s.bit Reg.SYS_STAT 0 then 3
  else (s.slot i).mark

/-- UPD_SVER and UPD_SINFO of the slot that UPD_SIDX shows. -/
def State.updSver (s : State) : Word := hdrVersion (s.slot (s.fld Reg.UPD_SIDX 1 0)).header
def State.updSinfo (s : State) : Word :=
  let i := s.fld Reg.UPD_SIDX 1 0
  word (hdrArb (s.slot i).header + 256 * s.slotState i)

/-- UPD_TRIAL. -/
def State.updTrial (s : State) : Word := word (b2n s.trial + 2 * b2n s.upd.trialrun + 4 * b2n s.upd.confirmed)

/-- UPD_OTP. -/
def State.updOtp (s : State) : Word := word (b2n s.unit.okh + 2 * b2n s.unit.oik + 4 * b2n s.unit.sealed)

/-- UPD_CONFTMR: milliseconds left. -/
def State.confTmr (s : State) : Word :=
  match s.upd.confEnd with
  | some t => if s.time.mono < t then word ((t - s.time.mono).toNat / 800000) else 0
  | none => 0

end Sys2Proof.Machine
end

