-- ==== Sys2Proof/Machine/Window.lean ====
section
/-!
DEFINITION. The Studbook and the generic memory window (R453 to R464): the header and block entries, the event, fault-kind
and record-kind tables, and the calibration store.
-/

namespace Sys2Proof.Machine

/-! ## Events (R462) -/

/-- An event of a source: its instance meaning (R462), detail length and name. -/
structure EvtInfo where
  inst : Nat
  len  : Nat
  name : String
  deriving DecidableEq, Repr

/-- Events without detail and of one instance meaning. -/
def plain (inst : Nat) (names : List String) : List EvtInfo := names.map (fun n => ⟨inst, 0, n⟩)

/-- The block kind and the events of a source of the system and fault groups (R373, R427, R450, R354). -/
def sysSource (src : Nat) : Nat × List EvtInfo :=
  match src with
  | 0 => (2, plain 0 ["CLK_CFG", "WALL_REFUSED"])
  | 1 => (2, plain 0 ["CDC_OVERFLOW", "CDC_FLUSH"])
  | 2 => (2, plain 0 ["CAP_OVERRUN"])
  | 3 => (1, plain 0 ["SHD_LOCKED", "SOFTSTART_TIMEOUT"])
  | 4 => (9, plain 0 ["UPD_BUSY"])
  | 5 => (9, plain 0 ["UPD_DONE", "UPD_ERR"])
  | 6 => (9, plain 0 ["UPD_EXPIRED"])
  | 7 => (9, plain 0 ["FW_ACTIVATED", "FW_CONFIRMED"])
  | 8 => (9, plain 0 ["FW_FALLBACK", "FW_CONFIRM_TIMEOUT"])
  | 9 => (9, plain 0 ["SETTINGS_UNREADABLE", "SETTINGS_OLDER"])
  | 10 => (9, plain 0 ["ARB_RAISED"])
  | 11 => (9, plain 0 ["TACK_STAGED"])
  | 24 => (8, plain 0 ["HOST_PEC_ERR"])
  | 25 => (8, plain 0 ["HOST_TIMEOUT"])
  | 26 => (8, plain 0 ["HOST_BUSY"])
  | 27 => (8, plain 0 ["HOST_PARTIAL", "RSV_WRITE"])
  | 28 => (8, plain 0 ["HOST_ARBLOST"])
  | 32 => (5, plain 0 ["FLT_CORRECTED"])
  | 33 => (5, plain 0 ["FLT_CONTAINED"])
  | 34 => (5, plain 0 ["FLT_FATAL"])
  | 35 => (5, plain 0 ["FLT_OVERFLOW"])
  | 36 => (5, plain 0 ["ECC_HARD"])
  | 37 => (5, plain 0 ["FLT_RETRY", "FLT_RETRY_LIMIT"])
  | 38 => (0xC, plain 0 ["INJ_UNLOCKED", "INJ_APPLIED"])
  | 48 => (0xA, plain 0 ["TAKEOVER", "TAKEOVER_UNSYNCED", "DUAL_ACTIVE", "CLAIM_WIRE"])
  | 49 => (0xA, plain 0 ["ROLE_SWAP", "ROLE_SWAP_FAIL", "REMOUNT_SKIPPED"])
  | 50 => (0xA, plain 0 ["PAIR_SYNCED", "SYNC_FAIL", "PAIR_TACK_MISMATCH"])
  | 51 => (0xA, plain 1 ["SHADOW_MISMATCH", "SUSPECT", "PAIR_HEADSPLIT"])
  | 52 => (0xA, plain 0 ["TANDEM_DOWN", "TANDEM_LANE", "PAIR_DRIFT"])
  | 53 => (0xA, plain 0 ["MAINT_BUSY", "MAINT_EXPIRED"])
  | _ => (0, [])

/-- The block kind and the events of a control, shelf or measurement source (R166, R198, R230, R260, R315, R329). -/
def ctlSource (src : Nat) : Nat × List EvtInfo :=
  match src with
  | 96 => (0x11, plain 2 ["LE_FLAG"])
  | 97 => (0x11, plain 0 ["LSTEST_DONE"])
  | 98 => (0x13, plain 12 ["TRACE_TRIG", "TRACE_DONE", "TRACE_FROZEN"])
  | 99 => (0x12, plain 2 ["CTX_RUNNING", "HANDOVER_DONE", "HANDOVER_STEP", "CTX_REFUSED"])
  | 100 => (0x15, plain 0 ["PWM_KILL"])
  | 101 => (0x15, plain 3 ["STAGE_START", "STAGE_RUN", "STAGE_OFF", "STAGE_SAFE", "START_REFUSED"])
  | 102 => (0x15, plain 3 ["SPUR_START", "SPUR_END"])
  | 103 => (0x15, plain 4 ["PHASE_FAILED"] ++ plain 3 ["STAGE_CAPREQ", "RESPACE_DONE"])
  | 192 => (0x16, plain 7 ["MODULE_SHED", "MODULE_ADDED"])
  | 193 => (0x16, plain 0 ["HOLDUP_START", "HOLDUP_END"])
  | 194 => (0x16, plain 6 ["BATT_EOD"] ++ plain 0 ["BATT_EXHAUSTED"])
  | 195 => (0x16, plain 0 ["HOLDUP_LOW"])
  | 196 => (0x16, plain 0 ["PEAK_SHAVE_START", "PEAK_SHAVE_END"])
  | 197 => (0x16, plain 0 ["CAP_ACTIVE", "CAP_CLEAR"])
  | 198 => (0x16, plain 8 ["PG_ASSERT", "PG_DEASSERT"])
  | 199 => (0x16, plain 3 ["FAULT_TIMER_START"])
  | 224 => (0x18, plain 0 ["ADC_OVERRUN"])
  | 225 => (0x18, plain 0 ["SPARE_FAIL", "PATH_PARKED", "CAL_MISMATCH"])
  | 226 => (0x18, plain 10 ["CAL_DONE", "CAL_ERR"] ++ [⟨10, 2, "CAL_APPLIED"⟩])
  | 227 => (0x19, plain 0 ["SNAP_DONE", "SNAP_REFUSED"])
  | 228 => (0x18, plain 0 ["TEST_REFUSED"])
  | 229 => (0x1A, plain 11 ["WMON_HIGH", "WMON_LOW", "WMON_CLEAR"])
  | 230 => (0x1A, plain 11 ["CMP_CHANGE", "CMP_FAILED"])
  | 231 => (0xB, plain 0 ["THERM_WARN", "THERM_WARN_CLEAR"])
  | 232 => (0xB, plain 0 ["THERM_RATE"])
  | 233 => (0xB, plain 0 ["SUPPLY_WARN"])
  | _ => (0, [])

/-- The block kind and the events of a source. -/
def sourceInfo (src : Nat) : Nat × List EvtInfo :=
  if src < 64 then sysSource src
  else if src < 96 then
    (0x10, plain 1 (if src % 2 = 0 then ["LINK_UP", "LINK_DOWN", "LINK_TRAIN_FAIL", "HEAD_MISMATCH", "HEAD_CHANGED"]
                    else ["LINK_DRIFT", "EDGE_SLIP", "HREG_FAIL"]))
  else if 128 ≤ src && src < 192 then
    (0x17, plain 5 ["FEEDER_ON", "FEEDER_OFF"] ++ [⟨5, 2, "FEEDER_TRIP"⟩] ++ plain 5 ["FEEDER_REFUSED", "FEEDER_BACKSTOP"])
  else if 200 ≤ src && src < 207 then (0x16, plain 9 ["MB_PUBLISH", "SHF_FALLBACK"])
  else ctlSource src

/-- Index of the first event row of a source. -/
def firstRow (src : Nat) : Nat := (List.range src).foldl (fun n s => n + (sourceInfo s).2.length) 0

/-- Source and number within it of event row `i`. -/
def rowSource (i : Nat) : Nat × Nat :=
  ((List.range 256).foldl (fun (r : Nat × Nat × Bool) s =>
    let n := (sourceInfo s).2.length
    if r.2.2 then r else if r.2.1 < n then (s, r.2.1, true) else (s, r.2.1 - n, false)) (0, i, false) : Nat × Nat × Bool) |>
    fun r => (r.1, r.2.1)

/-- A name in ASCII, padded with zero bytes. -/
def ascii (n : Nat) (s : String) : List Byte :=
  let bs := s.toList.map (fun c => BitVec.ofNat 8 c.toNat)
  bs.take n ++ List.replicate (n - bs.length) 0

/-- Source row (R462). -/
def sourceRow (src : Nat) : List Byte :=
  let (kind, es) := sourceInfo src
  leBytes 4 (evtCfgReset src) ++ leBytes 2 (if es.isEmpty then 0 else firstRow src) ++ leBytes 1 es.length ++ leBytes 1 kind

/-- Event row (R462). -/
def eventRow (i : Nat) : List Byte :=
  let (src, k) := rowSource i
  match (sourceInfo src).2[k]? with
  | some e => leBytes 2 (256 * src + k) ++ leBytes 1 src ++ leBytes 1 e.len ++ leBytes 1 e.inst ++ leBytes 3 0 ++ ascii 24 e.name
  | none => List.replicate 32 0

/-! ## Fault kinds and record kinds (R463, R464) -/

/-- Name and instance meaning of a fault kind (R357). -/
def faultName (k : Nat) : String × Nat :=
  match k with
  | 0 => ("CLK_LOSS", 0) | 1 => ("CLK_FREQ", 0) | 2 => ("LINK_FAULT", 1) | 3 => ("LINK_FRAME", 1)
  | 4 => ("LANE_MISMATCH", 0) | 5 => ("LANE_TEST", 0) | 6 => ("SCHED_ECC", 0) | 7 => ("CTX_ECC", 0)
  | 8 => ("PHASE_FAIL", 4) | 9 => ("STAGE_FAULT", 3) | 10 => ("STAGE_ECC", 3) | 11 => ("PG_TIMEOUT", 3)
  | 12 => ("FDR_TRIP", 5) | 13 => ("ADC_PATH", 0) | 14 => ("ADC_SPARE", 0) | 15 => ("CAL_STORE", 10)
  | 16 => ("CAL_ECC", 10) | 17 => ("WMON_TRIP", 0) | 18 => ("CMP_CHECK", 0) | 19 => ("HK_SENSOR", 0)
  | 20 => ("HK_CHECK", 0) | 21 => ("HK_SUPPLY", 0) | 22 => ("THERM_SHUT", 0) | 23 => ("FW_STALL", 0)
  | 24 => ("FW_ECC", 0) | 25 => ("ECC_COR", 0) | 26 => ("ECC_UNC", 0)
  | _ => ("", 0)

/-- Fault-kind row (R463). -/
def faultRow (k : Nat) : List Byte :=
  let w := fltKindWord k
  let (name, inst) := faultName k
  leBytes 2 w ++ leBytes 1 (w / 65536 % 4 + 128 * (w / 262144 % 2)) ++ leBytes 1 (w / 1048576 % 8) ++ leBytes 1 (w / 16777216) ++
    leBytes 1 inst ++ leBytes 2 0 ++ leBytes 4 (fltRxnReset k) ++ ascii 20 name

/-- A record kind: KIND, SEV, flags, smallest and largest LEN, offset of WALL nanoseconds, and its name (R386, R449). -/
def recordKinds : List (Nat × Nat × Nat × Nat × Nat × Nat × String) :=
  [(0x0001, 0xFF, 0, 8, 32, 0, "EVENT"), (0x0002, 0xFF, 0, 24, 24, 0, "FAULT"), (0x0003, 2, 0, 20, 20, 0, "TIME_SET"),
   (0x0004, 2, 0, 16, 16, 0, "TIME_SLEW"), (0x0005, 2, 0, 12, 12, 0, "GAIT_CHANGE"),
   (0x0006, 2, 0, 64, 64, 0x28, "CAL_APPLIED"), (0x0007, 3, 0, 12, 12, 0, "SUSPECT"),
   (0x0008, 3, 0, 48, 48, 0, "INJ_APPLIED"), (0x0009, 2, 0, 24, 24, 0, "START"), (0x000A, 3, 3, 12, 12, 0, "GAP"),
   (0x0100, 2, 1, 16, 16, 0, "FW_ACTIVATED"), (0x0101, 2, 1, 12, 12, 0, "FW_CONFIRMED"),
   (0x0102, 3, 1, 16, 16, 0, "FW_FALLBACK"), (0x0103, 3, 1, 12, 12, 0, "SETTINGS_UNREADABLE"),
   (0x0104, 2, 1, 8, 8, 0, "SETTINGS_OLDER"), (0x0105, 2, 1, 16, 16, 0, "UPD_SESSION"),
   (0x0106, 2, 1, 12, 12, 0, "TACK_STAGED"), (0x0107, 3, 1, 4, 4, 0, "OTP_PROVISIONED")]

/-- Record-kind row (R464). -/
def recordRow (i : Nat) : List Byte :=
  match recordKinds[i]? with
  | some (k, sev, fl, lo, hi, o, name) =>
    leBytes 2 k ++ leBytes 1 sev ++ leBytes 1 fl ++ leBytes 2 lo ++ leBytes 2 hi ++ leBytes 2 o ++ leBytes 2 0 ++ ascii 20 name
  | none => []

/-! ## Regions (R460, R461) -/

/-- The word at an offset of a row. -/
def rowWord (bs : List Byte) (o : Nat) : Word := wordOfBytes ((bs.drop o).take 4)

/-- Word of region 0 (R461, R462 to R464). -/
def tableWord (o : Nat) : Word :=
  if o < 0x800 then rowWord (sourceRow (o / 8)) (o % 8)
  else if o < 0x4EE0 then rowWord (eventRow ((o - 0x800) / 32)) (o % 32)
  else if o < 0x5240 then rowWord (faultRow ((o - 0x4EE0) / 32)) (o % 32)
  else rowWord (recordRow ((o - 0x5240) / 32)) (o % 32)

/-- Word of the calibration store (R461): copy `c` of an entry is the `c`-th of its records; a copy never written reads
zero. -/
def State.storeWord (s : State) (o : Nat) : Word :=
  match (s.meas.store.filter (fun r => r.entry == o / 128))[o / 64 % 2]? with
  | some r => rowWord r.bytes (o % 64)
  | none => 0

/-- Length of a region. -/
def regionLen (r : Nat) : Nat := if r = 0 then 0x5480 else if r = 1 then 0x10000 else 0

/-- Word at an offset of a region (R460). -/
def State.regionWord (s : State) (r o : Nat) : Word :=
  if regionLen r ≤ o then 0 else if r = 0 then tableWord o else s.storeWord o

/-! ## The Studbook (R455 to R458) -/

/-- A block entry: KIND, INST, BASE, STRIDE, SPAN, FEAT, GROUPS (R456, R457). -/
def stbEntries (sealed : Bool) : List (Nat × Nat × Nat × Nat × Nat × Nat × Nat) :=
  [(0x01, 1, 0x0000, 0, 0x100, 4, 0), (0x02, 1, 0x0100, 0, 0x100, 0, 1), (0x03, 1, 0x0200, 0, 0x100, 4, 0),
   (0x04, 1, 0x0300, 0, 0x100, 9, 0), (0x05, 1, 0x0400, 0, 0x100, 9, 0), (0x06, 1, 0x0500, 0, 0x100, 9, 0),
   (0x07, 1, 0x0600, 0, 0x100, 9, 0), (0x08, 1, 0x0700, 0, 0x100, 8, 0), (0x09, 1, 0x0800, 0, 0x100, 0xA, 0),
   (0x0A, 1, 0x0900, 0, 0x100, 0, 0x4000), (0x0B, 1, 0x0A00, 0, 0x100, 9, 0x8000),
   (0x0C, if sealed then 0 else 1, 0x0B00, 0, 0x100, 0, 0), (0x10, 16, 0x1000, 0x100, 0x100, 0, 4),
   (0x11, 1, 0x2000, 0, 0x400, 9, 2), (0x12, 1, 0x2400, 0, 0x200, 1, 0), (0x13, 8, 0x2600, 0x40, 0x40, 1, 0),
   (0x14, 16, 0x2800, 0x40, 0x40, 0, 0x10), (0x15, 1, 0x2C00, 0, 0x400, 9, 0xF8), (0x16, 1, 0x3000, 0, 0x400, 9, 0x3000),
   (0x17, 64, 0x3400, 0x20, 0x20, 0, 0x100), (0x18, 1, 0x3C00, 0, 0x200, 0xB, 0xC00), (0x19, 1, 0x3E00, 0, 0x200, 9, 0x800),
   (0x1A, 1, 0x4000, 0, 0x200, 9, 0x10200), (0x1E, 1, 0xF000, 0, 0x100, 9, 0), (0x1F, 1, 0xFC00, 0, 0x400, 4, 0)]

def stbEntryBytes (e : Nat × Nat × Nat × Nat × Nat × Nat × Nat) : List Byte :=
  leBytes 2 e.1 ++ leBytes 1 e.2.1 ++ leBytes 1 1 ++ leBytes 2 e.2.2.1 ++ leBytes 2 e.2.2.2.1 ++ leBytes 2 e.2.2.2.2.1 ++
    leBytes 2 e.2.2.2.2.2.1 ++ leBytes 4 e.2.2.2.2.2.2

/-- The header without its CRC (R455), with the table places of R464. -/
def stbHeader : List Byte :=
  leBytes 4 0x4B425453 ++ leBytes 2 1 ++ leBytes 2 0x20 ++ leBytes 1 25 ++ leBytes 1 16 ++ leBytes 2 0x00A1 ++ leBytes 2 0x9480 ++
    leBytes 2 1 ++ leBytes 4 0x23700000 ++ leBytes 4 0x01B04EE0 ++ leBytes 4 0x01205240

/-- Word of the Studbook window at offset `o` from 0xFC00 (R455). -/
def stbWord (sealed : Bool) (o : Nat) : Word :=
  let es := (stbEntries sealed).flatMap stbEntryBytes
  if o < 0x1C then rowWord stbHeader o
  else if o < 0x20 then word (crc32 (stbHeader ++ es)).toNat
  else rowWord es (o - 0x20)

end Sys2Proof.Machine
end

