-- ==== Sys2Proof/Machine/Paddock.lean ====
section
/-!
DEFINITION. Paddock mode (R80, R81, R447): the download session that the ROM runs.
-/

namespace Sys2Proof.Machine

/-- The unit is in paddock mode. -/
def State.inPaddock (s : State) : Bool := decide (s.unit.life = Life.paddock)

/-- Enter paddock mode for a reason of R84 (R80): outputs keep the state of R55 and the claim stays zero. -/
def State.enterPaddock (s : State) (why : Nat) : State :=
  let s := { s with unit := { s.unit with life := .paddock, txIdle := true, booted := false, claimOut := false } }
  ((s.put Reg.BOOT_STAT 14 12 why).setBit Reg.BOOT_STAT 11 true).setBit Reg.SYS_STAT 1 true

/-- The paddock session ends. -/
def State.pdkEnd (s : State) : State := { s with boot := { s.boot with pdkOwner := none, pdkBytes := 0, pdkHdr := [] } }

/-- An error code of BOOT_PDK_STAT (R448). -/
def State.pdkErr (s : State) (c : Nat) : State := s.put Reg.BOOT_PDK_STAT 7 0 c

/-- Open a session for port `p` (R81, R447); KIND 2 and 3 are refused with code 2. -/
def State.pdkOpen (s : State) (p : Port) (v : Word) : State :=
  let s := (s.pdkEnd.wr Reg.BOOT_PDK_CTL (v &&& 0x80000007)).wrN Reg.BOOT_PDK_STAT 0
  if 2 ≤ fieldOf v 1 0 then s.pdkErr 2 else { s with boot := { s.boot with pdkOwner := some p } }

/-- A write of BOOT_PDK_CTL (R81): START opens a session for its port; the other port is refused while one is open. DESIGN CHOICE: a
write with START clear stores KIND and SLOT whichever port makes it, during a session too. -/
def State.pdkCtl (s : State) (p : Port) (v : Word) : State :=
  if s.inPaddock && bitOf v 31 then
    match s.boot.pdkOwner with
    | some q => if q = p then s.pdkOpen p v else s.pdkErr 16
    | none => s.pdkOpen p v
  else s.wr Reg.BOOT_PDK_CTL (v &&& 0x80000007)

/-- A full page, or the rest of the container, waits to be written. -/
def State.pdkFull (s : State) : Bool :=
  decide (0 < s.boot.pdkBytes) && (s.boot.pdkBytes % 256 == 0 || decide (s.rdN Reg.BOOT_PDK_LEN ≤ s.boot.pdkBytes)) &&
    !s.bit Reg.BOOT_PDK_STAT 31

/-- A write of BOOT_PDK_DATA (R81): a word of the container for the session's owner; a full page clears RDY. -/
def State.pdkData (s : State) (p : Port) (v : Word) : State :=
  if s.inPaddock && s.boot.pdkOwner == some p && !s.pdkFull && decide (s.boot.pdkBytes < s.rdN Reg.BOOT_PDK_LEN) then
    let n := s.boot.pdkBytes + 4
    let s := { s with boot := { s.boot with pdkBytes := n, pdkHdr := (s.boot.pdkHdr ++ leBytes 4 v.toNat).take 256 } }
    if n % 256 = 0 || s.rdN Reg.BOOT_PDK_LEN ≤ n then s.setBit Reg.BOOT_PDK_STAT 31 false else s
  else s

/-- PADDOCK_PAGE_DONE (R81): the ROM has written the page. -/
def execPaddockPageDone (s : State) : Host.Outcome State Fault Refusal :=
  .next (if s.inPaddock && s.boot.pdkOwner.isSome && s.pdkFull then s.setBit Reg.BOOT_PDK_STAT 31 true else s)

/-- PADDOCK_DOWNLOAD_DONE (R81, R431, R447): the whole container is checked; an accepted one fills its slot, and the new
descriptor names that slot with TRIAL clear. MINFW is compared with the firmware that this start loaded, if any. -/
def execPaddockDownloadDone (cr : Crypto) (tack : TackImage) (s : State) : Host.Outcome State Fault Refusal :=
  let len := s.rdN Reg.BOOT_PDK_LEN
  if s.inPaddock && s.boot.pdkOwner.isSome && decide (0 < s.boot.pdkBytes) && decide (len ≤ s.boot.pdkBytes) then
    let c := s.rd Reg.BOOT_PDK_CTL
    let kind := fieldOf c 1 0
    let slot := 2 * kind + fieldOf c 2 2
    let h := s.boot.pdkHdr
    let fw := if s.rdN Reg.BOOT_FWVER = 0 then 2 ^ 32 else s.rdN Reg.BOOT_FWVER
    let code := s.checkContainer h kind (decide (hdrTotal h = len) && decide (len ≤ slotSize slot)) cr fw
    let s := s.pdkEnd.setBit Reg.BOOT_PDK_STAT 30 true
    if code != 1 then .next ((s.setSlot slot { Slot.erased with mark := 5 }).pdkErr code)
    else
      let s := s.setSlot slot { header := h, body := len - 256, crypto := cr, tack := tack, mark := 2 }
      let s := s.writeDesc (fun d =>
        if kind = 0 then { d with fwsel := slot } else { d with fwsel := d.fwsel % 128, tksel := slot - 2 })
      .next (({ s with upd := { s.upd with trialrun := false } }).pdkErr 0)
  else .next s

/-- PADDOCK_SESSION_EXPIRY (R81, R448): no data for 30 s. -/
def execPaddockSessionExpiry (s : State) : Host.Outcome State Fault Refusal :=
  .next (if s.inPaddock && s.boot.pdkOwner.isSome then s.pdkEnd.pdkErr 17 else s)

end Sys2Proof.Machine
end

