-- ==== Sys2Proof/Machine/Operands.lean ====
section
/-!
DEFINITION. The register fabric (R4 to R7, R404, R405, R415, R453, R454, R465 to R467): which register an address names for a
requester, what a read of it returns and changes, and what a write of it does.
-/

namespace Sys2Proof.Machine

/-! ## Addresses (R405, R453, R454) -/

/-- The registers of which each requester has its own copy (R405, R460). -/
def bankedReg (a : Nat) : Bool :=
  [Reg.LE_SIDX, Reg.LE_SVIEW, Reg.CW_CTX, Reg.PW_IDX, Reg.SW_IDX, Reg.PHS_VIEW, Reg.MB_SEL, Reg.CAL_IDX, Reg.CAL_VIEW, Reg.MET_EIDX,
   Reg.MET_SIDX, Reg.MET_GIDX, Reg.WM_IDX, Reg.WM_VIEW, Reg.HK_SEL, Reg.FLT_EIDX, Reg.FLT_KIDX, Reg.EVT_IDX, Reg.EVR_RSEL, Reg.EVR_RCTL,
   Reg.EVR_ROFS, Reg.SBG_SEL, Reg.SBG_ROFS, Reg.WIN_SEL, Reg.WIN_BASE].contains a ||
    (decide (0x2600 ≤ a) && decide (a < 0x2800) && a % 0x40 == 0x38)

/-- The copy of banked register `a` that requester `p` uses, as a number. -/
def State.bankN (s : State) (p : Port) (a : Nat) : Nat := s.rdN (bankKey p a)

/-- Address `a` lies in `[lo, hi)`. -/
def within (a lo hi : Nat) : Bool := decide (lo ≤ a) && decide (a < hi)

/-- The key of the register that requester `p` reaches at word address `a`; none where an index names no entry. -/
def State.keyOf (s : State) (p : Port) (a : Nat) : Option Nat :=
  if within a 0x2024 0x202C then some (0x10000 + 8 * s.bankN p Reg.LE_SIDX + (a - 0x2024))
  else if within a 0x2D00 0x2D20 then some (0x11000 + 0x20 * s.bankN p Reg.PW_IDX + (a - 0x2D00))
  else if within a 0x2E00 0x2E80 then some (0x12000 + 0x80 * s.bankN p Reg.SW_IDX + (a - 0x2E00))
  else if within a 0x3200 0x3380 then
    let f := s.bankN p Reg.MB_SEL
    if f < 7 then some (0x20000 + 0x200 * f + (a - 0x3200)) else none
  else if within a 0x3C94 0x3CBC then some (0x14000 + 0x40 * s.bankN p Reg.CAL_IDX + (a - 0x3C80))
  else if within a 0x3E44 0x3E6C then some (0x1C000 + 0x40 * s.bankN p Reg.MET_EIDX + (a - 0x3E40))
  else if within a 0x4184 0x419C then some (0x1D000 + 0x20 * s.bankN p Reg.WM_IDX + (a - 0x4180))
  else if within a 0xA28 0xA34 then
    let i := s.bankN p Reg.HK_SEL
    if i < 24 then some (0x1E000 + 0x10 * i + (a - 0xA28)) else none
  else if within a 0x464 0x470 then
    let k := s.bankN p Reg.FLT_KIDX
    if k < 27 then some (0x1E400 + 0x10 * k + (a - 0x460)) else none
  else if within a 0x310 0x31C then some (0x1F000 + 0x10 * s.bankN p Reg.EVT_IDX + (a - 0x310))
  else if bankedReg a then some (bankKey p a)
  else some a

/-- The row of the register with a key; the copies of a banked register share its row. -/
def rowOfKey (k : Nat) : Option RegRow := if 0x30000 ≤ k then rowOf (k % 0x10000) else rowOf k

/-- The fabric answers: the unit has started, or is in paddock mode (R57, R80). -/
def State.fabricUp (s : State) : Bool := s.runs || s.inPaddock

/-- Address `a` belongs to a block that exists (R3, R80, R454): in paddock mode only SYS, BOOT and STB do. -/
def State.mapped (s : State) (a : Nat) : Bool :=
  if s.inPaddock then decide (a < 0x100) || within a 0x200 0x300 || decide (0xFC00 ≤ a)
  else !(s.unit.sealed && within a 0xB00 0xC00)

/-- Byte offset in a context that CW_DATA at address `a` reaches (R171). -/
def State.cwOffset (s : State) (p : Port) (a : Nat) : Nat := 0x100 * (s.bankN p Reg.CW_CTX / 256 % 2) + (a - 0x2500)
def State.cwSel (s : State) (p : Port) : Nat := s.bankN p Reg.CW_CTX % 256

/-- The bits of the word at `a` that are in some field; a one written elsewhere counts as a reserved write (R5, R454). Writes
to the Studbook, to the window aperture and through an index that names no entry are only ignored. -/
def State.knownBits (s : State) (p : Port) (a : Nat) : Word :=
  if !s.mapped a then 0
  else if 0xFC00 ≤ a || within a 0xF080 0xF100 then BitVec.allOnes 32
  else if within a 0x2500 0x2600 then cwKnown (s.cwOffset p a)
  else match s.keyOf p a with
    | none => BitVec.allOnes 32
    | some k => match rowOfKey k with
      | some r => word r.known
      | none => 0

/-! ## Values read (R4, R7, R466) -/

/-- Whether the view register of the window with key `k` selects the shadow (R466). -/
def State.viewsShadow (s : State) (p : Port) (k : Nat) : Bool :=
  if within k 0x10000 0x11000 then s.bankN p Reg.LE_SVIEW == 0
  else if within k 0x11000 0x13000 then s.bankN p Reg.PHS_VIEW == 0
  else if within k 0x14000 0x1C000 then s.bankN p Reg.CAL_VIEW == 0
  else if within k 0x1D000 0x1E000 then s.bankN p Reg.WM_VIEW == 0
  else false

/-- A read of the register with key `k` as stored: SHD fields in effect, or their shadow where the view says so; WO fields
and reserved bits read zero. A table word read in effect is checked by its memory's protection (R368). -/
def State.readStored (s : State) (p : Port) (k : Nat) : Word × State :=
  match rowOfKey k with
  | none => (0, s)
  | some r =>
    let sh := s.viewsShadow p k
    let w := if sh then (s.rd k &&& ~~~word r.shd) ||| (s.srd k &&& word r.shd) else s.rd k
    let s := match eccTableRegion k with
      | some g => if sh then s else s.eccTouch g k
      | none => s
    (w &&& word r.known &&& ~~~word r.wo, s)

/-- A word of 16 fields of `n` bits each, from index `i·16`. -/
def packed (n i : Nat) (f : Nat → Nat) : Word :=
  word ((List.range (32 / n)).foldl (fun a j => a + f ((32 / n) * i + j) * 2 ^ (n * j)) 0)

/-- SYS and TIM registers that show other state (R33, R35 to R38, R53, R469, R470). -/
def State.readTime (s : State) (a : Nat) : Option Word :=
  let t := s.time
  let serial := Config.unitSerial.toNat
  if a = Reg.SYS_PART then some (word (0x0E5A + 0x10000 * b2n s.unit.sealed + 0x20000 * b2n Config.gradeIFB))
  else if a = Reg.SYS_UID_LO then some (word serial)
  else if a = Reg.SYS_UID_HI then some (word (serial / 2 ^ 32))
  else if a = Reg.TIM_GFC then some t.gfc
  else if a = Reg.TIM_MONO_LO then some (word t.mono.toNat)
  else if a = Reg.TIM_MONO_HI then some (word (t.mono.toNat / 2 ^ 32))
  else if a = Reg.TIM_WALL_NS then some (word t.wallNs)
  else if a = Reg.TIM_WALL_SLO then some (word t.wallSec)
  else if a = Reg.TIM_WALL_SHI then some (word (t.wallSec / 2 ^ 32))
  else if a = Reg.TIM_WSLEWREM then some (word (code 32 t.remNs))
  else if a = Reg.TIM_WALLSTAT then some (setField (s.rd a) 1 1 (b2n t.slewing))
  else if a = Reg.TIM_RTC then some (if s.bit Reg.TIM_CLKCFG 7 then word t.rtcTicks else 0)
  else if a = Reg.TIM_CDCSTAT then some (setField (s.rd a) 3 3 (b2n s.evtOverflow))
  else none

/-- A statistics word of the snapshot slot that MET_SIDX shows (R302, R313). -/
def State.readStat (s : State) (p : Port) (a : Nat) : Word :=
  let x := vget s.statSnap (s.bankN p Reg.MET_SIDX) { s := StatSt.initial, ep := 0, ep2 := 0 }
  let y := x.s
  match (a - Reg.MET_SCNT_LO) / 4 with
  | 0 => word y.count
  | 1 => word (y.count / 2 ^ 32)
  | 2 => word (code 64 y.sum)
  | 3 => word (code 64 y.sum / 2 ^ 32)
  | 4 => word y.ssq
  | 5 => word (y.ssq / 2 ^ 32)
  | 6 => word (y.ssq / 2 ^ 64)
  | 7 => word (code 32 y.mn)
  | 8 => word (code 32 y.mx)
  | 9 => x.ep
  | 10 => x.ep2
  | _ => word (b2n y.mixed + 2 * b2n y.spare + 4 * b2n y.sat)

/-- Registers of the loop engine, edge engine, feeders and measurement that show other state (R163, R171, R225, R229, R281,
R312 to R314). -/
def State.readControl (s : State) (p : Port) (a : Nat) : Option (Word × State) :=
  if within a 0x20A0 0x20C0 then some (packed 1 ((a - 0x20A0) / 4) (fun c => b2n (s.cFlags c != 0)), s)
  else if within a 0x2440 0x2480 then some (packed 2 ((a - 0x2440) / 4) (fun c => s.cState c), s)
  else if within a 0x2500 0x2600 then
    let m := 512 * s.cwSel p + s.cwOffset p a
    some (s.mem32 m, s.eccTouch 0 m)
  else if within a 0x2600 0x2800 && a % 0x40 == 0x3C then
    let u := (a - 0x2600) / 0x40
    let k := bankKey p (Reg.TRC_RADDR u)
    let (v, t) := s.trcRead u (s.rd k)
    some (v, t.wr k (trcNext (s.rd k)))
  else if within a 0x2800 0x2C00 && a % 0x40 == 4 then some (s.edgStat ((a - 0x2800) / 0x40))
  else if a = 0x2D10 then
    let i := s.bankN p Reg.PW_IDX
    some (setField (s.rd (Reg.PT_STAT i)) 15 0 (s.angleAt i s.now), s)
  else if within a 0x2C40 0x2C60 then some (packed 2 ((a - 0x2C40) / 4) (fun i => s.phState i), s)
  else if within a 0x2C60 0x2C68 then some (packed 2 ((a - 0x2C60) / 4) (fun k => s.stState k), s)
  else if within a 0x3400 0x3C00 && a % 0x20 == 0x1C then some (s.fdrTrk ((a - 0x3400) / 0x20), s)
  else if a = 0x3E50 || a = 0x3E54 then
    let e := code 64 (s.enAt (s.bankN p Reg.MET_EIDX)).visible
    some (word (if a = 0x3E50 then e else e / 2 ^ 32), s)
  else if within a Reg.MET_SCNT_LO 0x3EA4 then some (s.readStat p a, s)
  else if within a Reg.MET_GPOS_LO 0x3EF4 then
    let g := s.bankN p Reg.MET_GIDX
    let x := vget (if a < Reg.MET_GNEG_LO then s.meas.gpos else s.meas.gneg) g 0
    some (word (if (a - Reg.MET_GPOS_LO) % 8 = 0 then x else x / 2 ^ 32), s)
  else if within a 0x41A0 0x41B0 then some (packed 1 ((a - 0x41A0) / 4) (fun m => b2n (s.wmState m != 0)), s)
  else none

/-- Registers of the fault, record, pair, port and update blocks that show other state (R351, R379, R381, R402, R403, R426,
R451). -/
def State.readService (s : State) (p : Port) (a : Nat) : Option (Word × State) :=
  if a = Reg.PAIR_REMNEXT then some (s.remNext, s)
  else if a = Reg.FLT_STAT then some (s.fltStat, s)
  else if within a Reg.FLT_ENT_LO 0x454 then some (s.fltEntry (s.bankN p Reg.FLT_EIDX) ((a - Reg.FLT_ENT_LO) / 4), s)
  else if a = Reg.EVT_TOP then some (s.evtTop, s)
  else if a = Reg.EVR_STAT then some (s.evrStat, s)
  else if a = Reg.EVR_RSTAT then some (s.recStat p, s)
  else if a = Reg.EVR_RSEQ then some (word (s.recSel p).seq, s)
  else if a = Reg.EVR_RDATA then some (s.recRead p)
  else if a = Reg.EVR_NVWEAR then some (s.nvWear, s)
  else if a = Reg.SBG_STAT then some (s.sbgSum, s)
  else if a = Reg.SBG_SSTAT then some (s.sbgStat p, s)
  else if a = Reg.SBG_RDATA then some (s.sbgRead p)
  else if a = Reg.HST_STAT then some (setField (s.rd a) 29 29 (b2n s.alertPin), s)
  else if a = Reg.UPD_SVER then some (s.updSver, s)
  else if a = Reg.UPD_SINFO then some (s.updSinfo, s)
  else if a = Reg.UPD_TRIAL then some (s.updTrial, s)
  else if a = Reg.UPD_OTP then some (s.updOtp, s)
  else if a = Reg.UPD_CONFTMR then some (s.confTmr, s)
  else none

/-- The memory window (R460): WIN_DATA advances WIN_BASE by 4; the aperture does not. -/
def State.readWindow (s : State) (p : Port) (a : Nat) : Option (Word × State) :=
  let r := s.bankN p Reg.WIN_SEL % 16
  let b := s.bankN p Reg.WIN_BASE
  if a = Reg.WIN_LEN then some (word (regionLen r + 2 ^ 31 * b2n (decide (b < regionLen r))), s)
  else if a = Reg.WIN_DATA then some (s.regionWord r b, s.wrN (bankKey p Reg.WIN_BASE) ((b + 4) % 2 ^ 24))
  else if within a 0xF080 0xF100 then some (s.regionWord r (b + (a - 0xF080)), s)
  else none

/-- The value of the word at `a` now, and the state after reading it. -/
def State.readNow (s : State) (p : Port) (a : Nat) : Word × State :=
  if 0xFC00 ≤ a then (stbWord s.unit.sealed (a - 0xFC00), s)
  else match s.readTime a with
    | some w => (w, s)
    | none =>
      match (s.readControl p a).orElse fun _ => (s.readService p a).orElse fun _ => s.readWindow p a with
      | some r => r
      | none => match s.keyOf p a with
        | some k => s.readStored p k
        | none => (0, s)

/-- The remaining words of the wide value whose lowest word is at `a` (R7, R47); empty for any other register. -/
def wideRest (a : Nat) : List Nat :=
  if a = Reg.TIM_MONO_LO then [Reg.TIM_MONO_HI]
  else if a = Reg.TIM_WALL_NS then [Reg.TIM_WALL_SLO, Reg.TIM_WALL_SHI]
  else if within a 0x164 0x1E0 && a % 16 == 4 then [a + 4, a + 8]
  else if a = Reg.SYS_UID_LO then [Reg.SYS_UID_HI]
  else if within a 0x1000 0x2000 && a % 0x100 == 0x40 then [a + 4]
  else if within a 0x2600 0x2800 && a % 0x40 == 0x2C then [a + 4]
  else if a = 0x3CB4 then [0x3CB8]
  else if a = Reg.MET_SMONO_LO then [Reg.MET_SMONO_HI]
  else if a = Reg.MET_SWALL_NS then [Reg.MET_SWALL_SLO, Reg.MET_SWALL_SHI]
  else if a = Reg.MET_SSUM_LO then [Reg.MET_SSUM_HI]
  else if a = Reg.MET_SSQ 0 then [Reg.MET_SSQ 1, Reg.MET_SSQ 2]
  else if a = 0x3E48 || a = 0x3E50 || a = 0x3E58 || a = Reg.INJ_FM_LO then [a + 4]
  else if a = Reg.MET_SCNT_LO then (List.range 11).map (fun i => Reg.MET_SCNT_HI + 4 * i)
  else if a = Reg.MET_GPOS_LO || a = Reg.MET_GNEG_LO then [a + 4]
  else if a = Reg.FLT_LAST_LO || a = Reg.FLT_ENT_LO then [a + 4]
  else []

/-- Every word that some wide value latches. -/
def wideWord (a : Nat) : Bool :=
  a == Reg.TIM_MONO_HI || a == Reg.TIM_WALL_SLO || a == Reg.TIM_WALL_SHI || (within a 0x168 0x1E0 && (a % 16 == 8 || a % 16 == 12)) ||
    a == Reg.SYS_UID_HI || (within a 0x1000 0x2000 && a % 0x100 == 0x44) || (within a 0x2600 0x2800 && a % 0x40 == 0x30) || a == 0x3CB8 ||
    a == Reg.MET_SMONO_HI || a == Reg.MET_SWALL_SLO || a == Reg.MET_SWALL_SHI || a == 0x3E4C || a == 0x3E54 || a == 0x3E5C ||
    a == Reg.INJ_FM_HI ||
    within a Reg.MET_SCNT_HI 0x3EA4 || a == Reg.MET_GPOS_HI || a == Reg.MET_GNEG_HI || a == Reg.FLT_LAST_HI || a == Reg.FLT_ENT_HI

/-- The name of a latched word: with the entry that an index register selects for the requester. -/
def State.latchKey (s : State) (p : Port) (a : Nat) : Nat :=
  let i := if within a Reg.MET_SCNT_LO 0x3EA4 then s.bankN p Reg.MET_SIDX
    else if within a Reg.MET_GPOS_LO 0x3EF4 then s.bankN p Reg.MET_GIDX
    else if within a 0x444 0x450 then s.bankN p Reg.FLT_EIDX
    else if within a 0x3C94 0x3CBC then s.bankN p Reg.CAL_IDX
    else if within a 0x3E44 0x3E6C then s.bankN p Reg.MET_EIDX
    else 0
  i * 0x10000 + a

/-- The latched value of a word (R7). -/
def State.latched (s : State) (p : Port) (a : Nat) : Option Word :=
  (s.latch.find? (fun e => e.1 == s.latchKey p a)).map (·.2)

/-- Latch the remaining words of a wide value in place of what they held (R7). -/
def State.latchRest (s : State) (p : Port) (l : List (Nat × Word)) : State :=
  let l := l.map (fun e => (s.latchKey p e.1, e.2))
  { s with latch := l ++ s.latch.filter (fun e => !(l.any (fun x => x.1 == e.1))) }

/-- What a read does beside returning its value: LE_SENT1 steps LE_SIDX, and TIM_CAPn_LO clears VALID (R47, R163). -/
def State.readEffect (s : State) (p : Port) (a : Nat) : State :=
  if a = sent1Addr then s.wrN (bankKey p Reg.LE_SIDX) ((s.bankN p Reg.LE_SIDX + 1) % 256)
  else if within a 0x164 0x1E0 && a % 16 == 4 then s.setBit (a - 4) 30 false
  else s

/-- A register read of requester `p` at word address `a` (R7, R404, R413). -/
def State.fabricRead (s : State) (p : Port) (a : Nat) : Word × State :=
  if !s.fabricUp || !s.mapped a then (0, s)
  else
    match (if wideWord a then s.latched p a else none) with
    | some w => (w, s)
    | none =>
      let rest := (wideRest a).map (fun b => (b, (s.readNow p b).1))
      let (w, t) := s.readNow p a
      (w, (if rest.isEmpty then t else t.latchRest p rest).readEffect p a)

/-! ## Writes (R4, R5, R399, R467) -/

/-- The register value after a write of its RW, W1C and counter fields (R4, R399). -/
def RegRow.written (r : RegRow) (w v : Word) : Word :=
  let w := (w &&& ~~~word r.rw) ||| (v &&& word r.rw)
  let w := w &&& ~~~(v &&& word r.w1c)
  r.ctr.foldl (fun w f => if fieldOf v f.1 f.2 = 0 then setField w f.1 f.2 0 else w) w

/-- A write by access type (R4, R399): RW, counter and W1C fields at once, SHD fields into the shadow, where an unforwarded
write meets the lock of R76. -/
def State.storeByType (s : State) (own : Bool) (k : Nat) (v : Word) : State :=
  match rowOfKey k with
  | none => s
  | some r =>
    let w := r.written (s.rd k) v
    let s := if w = s.rd k then s else s.wr k w
    if r.shd = 0 then s
    else if own then s.shdWrite k v (word r.shd)
    else s.shdPut k v (word r.shd)

/-- A write of SYS_RSTREQ (R58): the key resets the unit; another key is counted. It does not leave a latched thermal shutdown
(R325). -/
def State.rstreqWrite (s : State) (v : Word) : State :=
  if fieldOf v 15 0 = 0xD0A1 then (if s.unit.thermLatch then s else s.assertReset 2) else s.bump Reg.SYS_RSTREQ 23 16 1

/-- A write of TIM_CDCSTAT (R42, R44): W1C. Bit 3 shows the OR of the overflow flags of the event sources, so a 1 written to it clears
them all. -/
def State.cdcStatWrite (s : State) (v : Word) : State :=
  let s := s.storeByType true Reg.TIM_CDCSTAT v
  if bitOf v 3 then (List.range 8).foldl (fun s i => s.wrN (Reg.EVT_CDCOVF i) 0) s else s

/-- A write of FDR_CTL (R262, R277, R281): SNAP waits for the turnover. -/
def State.fdrCtlWrite (s : State) (k : Nat) (v : Word) : State :=
  let s := s.storeByType true k v
  if bitOf v 31 then s.setBit k 30 true else s

/-- Writes of fixed registers of the system, link, loop and measurement blocks that start something. -/
def State.writeFixed (s : State) (p : Port) (k : Nat) (v : Word) : Option State :=
  if k = Reg.SYS_RSTREQ then some (s.rstreqWrite v)
  else if k = Reg.SYS_COMMIT then some (s.commitWrite v)
  else if k = Reg.SYS_TOKREQ then some (s.tokWrite v)
  else if k = Reg.TIM_WALLCTL then some (s.wallctlWrite v)
  else if k = Reg.TIM_CDCSTAT then some (s.cdcStatWrite v)
  else if k = Reg.BOOT_PDK_CTL then some (s.pdkCtl p v)
  else if k = Reg.BOOT_PDK_DATA then some (s.pdkData p v)
  else if within k 0x1000 0x2000 then
    let n := (k - 0x1000) / 0x100
    match k % 0x100 with
    | 0 => some (s.lnkCtl n v)
    | 0x58 => some ((s.storeByType true k v).onLink n (fun l => { l with slipSeen := false }))
    | _ => none
  else if k = Reg.LE_CHECK then some (s.leCheckWrite v)
  else if k = Reg.LE_LSTEST then some (s.lstestWrite v)
  else if k = Reg.CW_CMD then some (s.cwCommand (s.cwSel p) v)
  else if within k 0x2500 0x2600 then some (s.cwArrive (s.cwSel p) (.data (s.cwSel p) (s.cwOffset p k) v))
  else if within k 0x2600 0x2800 && k % 0x40 == 0 then some (s.trcCtlWrite ((k - 0x2600) / 0x40) v)
  else if k = Reg.ADC_SEQGO then some (s.seqGo v)
  else if k = Reg.ADC_TDAC then some (s.tdacWrite v)
  else if k = Reg.ADC_SEQ_STAT 0 || k = Reg.ADC_SEQ_STAT 1 then
    let c := if k = Reg.ADC_SEQ_STAT 0 then 0 else 1
    some { s.storeByType true k v with meas := { s.meas with seqSeen := vset s.meas.seqSeen c false } }
  else if k = Reg.CAL_CMD then some (s.calCmd v)
  else if k = Reg.PAIR_CTL then some (s.pairCtl v)
  else if k = Reg.FLT_RELEASE then some (s.fltRelease v)
  else if k = Reg.INJ_KEY then some (s.injKeyWrite v)
  else if within k 0xB00 0xC00 then some (s.injWrite k v)
  else if k = Reg.EVR_CFG then some (s.storeByType true k v).ringCount
  else if k = bankKey p Reg.EVR_RSEL then some (s.recSelect p v)
  else if k = Reg.SBG_ACK then some (s.sbgAck p v)
  else if k = bankKey p Reg.SBG_SEL then some ((s.storeByType true k v).wrN (bankKey p Reg.SBG_ROFS) 0)
  else if k = Reg.UPD_CTL then some (s.updCtl p v)
  else if k = Reg.UPD_DATA then some (s.updData p v)
  else if k = bankKey p Reg.WIN_SEL then some ((s.storeByType true k v).wrN (bankKey p Reg.WIN_BASE) 0)
  else none

/-- A write that follows R173 in a pair (R211, R257, R276, R291, R302, R343, R365): stage, phase, string and feeder commands, the kill
release, decisions, head tests, metering control, the reaction table and head register accesses. -/
def followsPair (k : Nat) : Bool :=
  (within k 0x12000 0x13000 && k % 0x80 == 0x4C) || (within k 0x11000 0x12000 && k % 0x20 == 0xC) || k == Reg.SHF_CMD ||
    k == Reg.PHS_CMD || (within k 0x20000 0x21000 && (k % 0x200 == 0x10 || 0x100 ≤ k % 0x200)) ||
    (within k 0x3400 0x3C00 && k % 0x20 == 0x18) || k == Reg.ADC_HTEST || k == Reg.MET_CTL ||
    (within k 0x1E400 0x1E800 && k % 0x10 == 8) || (within k 0x1000 0x2000 && within (k % 0x100) 0x68 0x74)

/-- What a write that follows R173 does where it applies. -/
def State.writePair (s : State) (k : Nat) (v : Word) : State :=
  if within k 0x12000 0x13000 then
    (if fieldOf v 1 0 = 0 then s else s.onSg ((k - 0x12000) / 0x80) (fun g => { g with cmd := g.cmd ++ [fieldOf v 1 0] }))
  else if within k 0x11000 0x12000 then
    (if bitOf v 31 then s.onPh ((k - 0x11000) / 0x20) (fun x => { x with revive := true }) else s)
  else if k = Reg.SHF_CMD then s.reconnect v
  else if k = Reg.PHS_CMD then s.killRelease v
  else if within k 0x20000 0x21000 && k % 0x200 == 0x10 then s.mbSubmit ((k - 0x20000) / 0x200) v
  else if within k 0x3400 0x3C00 then s.fdrCtlWrite k v
  else if k = Reg.ADC_HTEST then s.htestWrite v
  else if k = Reg.MET_CTL then s.metCtl v
  else if within k 0x1000 0x2000 && k % 0x100 == 0x70 then s.hregCtl ((k - 0x1000) / 0x100) v
  else s.storeByType true k v

/-- A write that follows R173 at its arrival: a unit that is not active refuses it; an active unit whose standby syncs applies it, as
the standby does, at the GFC fixed for it; otherwise it acts at once. -/
def State.pairWrite (s : State) (k : Nat) (v : Word) : State :=
  if s.notActiveInPair then (if k = Reg.ADC_HTEST then s.testRefuse 30 (s.htestEntry v) else s)
  else if s.forwards then s.forwardOwn (.write k v)
  else s.writePair k v

/-- The active unit of a pair holds the window items it has accepted until the GFC fixed for them (R173). -/
def State.holdItems (s old : State) : State :=
  if s.forwards then
    ((s.cwq.drop old.cwq.length).foldl (fun (s : State) x => s.forwardOwn (.window x)) { s with cwq := old.cwq }).cwCount
  else s

/-- A write of the register with key `k` by requester `p`. A shadow write that is not locked is forwarded, but for
the entries of this unit's own converters (R299). -/
def State.writeKey (s : State) (p : Port) (k : Nat) (v : Word) : State :=
  if followsPair k then s.pairWrite k v
  else match s.writeFixed p k v with
    | some t => if k = Reg.CW_CMD || within k 0x2500 0x2600 then t.holdItems s else t
    | none =>
      let t := s.storeByType true k v
      match rowOfKey k with
      | some r => if r.shd != 0 && !s.shdLocked k && !ownCal k then t.forward (.write k v) else t
      | none => t

/-- A forwarded write where it applies. -/
def State.applyForwarded (s : State) (k : Nat) (v : Word) : State :=
  if followsPair k then s.writePair k v else s.storeByType false k v

/-- A non-zero write to reserved bits (R5, R454). -/
def State.reservedWrite (s : State) : State := (s.bump Reg.HST_RSVWR 15 0 1).raise (E.RSV_WRITE 0)

/-- A register write of requester `p` at word address `a` (R4, R5, R404, R454). -/
def State.fabricWrite (s : State) (p : Port) (a : Nat) (v : Word) : State :=
  if !s.fabricUp then s
  else
    let known := s.knownBits p a
    let count (t : State) : State := if v &&& ~~~known = 0 then t else t.reservedWrite
    if !s.mapped a || 0xFC00 ≤ a then count s
    else match s.keyOf p a with
      | none => count s
      | some k =>
        let t := count (s.writeKey p k (v &&& known))
        if a = sent1Addr then t.readEffect p a else t

/-! ## Firmware-served registers (R415) -/

/-- A write to this address is served by firmware. -/
def fwServed (a : Nat) : Bool := a == Reg.CAL_CMD || within a 0x800 0x900

/-- A write of a host port that firmware would serve while it does not. -/
def State.fwBusy (s : State) (p : Port) (a : Nat) : Bool := p != .fw && fwServed a && !s.fwOk

/-- A busy answer to a port (R408, R415). -/
def State.busyAnswer (s : State) (p : Port) : State :=
  (s.bump Reg.HST_FWBUSY (if p = .spi then 31 else 15) (if p = .spi then 16 else 0) 1).raise (E.HOST_BUSY 0)

/-- A register write of requester `p` by a command of its own: the fabric's write, or the busy answer. -/
def State.hostWrite (s : State) (p : Port) (a : Nat) (v : Word) : State :=
  let a := a / 4 * 4
  if s.fabricUp && s.fwBusy p a then s.busyAnswer p else s.fabricWrite p a v

/-- A register read of requester `p` by a command of its own: the value goes to its read data. -/
def State.hostRead (s : State) (p : Port) (a : Nat) : State :=
  let (w, s) := s.fabricRead p (a / 4 * 4)
  { s with readData := vset s.readData (portIdx p) w }

end Sys2Proof.Machine
end

