-- ==== Sys2Proof/Machine/Smbus.lean ====
section
/-!
DEFINITION. The SMBus target (R406 to R418).
-/

namespace Sys2Proof.Machine

/-! ## Bytes and words (R411, R414) -/

/-- One bit of the SMBus CRC-8. -/
def crc8Bit (c : Byte) : Byte := if c.getLsbD 7 then (c <<< 1) ^^^ 7 else c <<< 1

/-- A byte into the CRC-8 of R414: x^8 + x^2 + x + 1, no reflection. -/
def crc8Byte (c b : Byte) : Byte := (List.range 8).foldl (fun c _ => crc8Bit c) (c ^^^ b)

/-- The CRC-8 of a byte list from 0. -/
def crc8 (bs : List Byte) : Byte := bs.foldl crc8Byte 0

/-- What a data byte at pointer `p` does to the bytes `cur` of its word (R411): the word it completes, the bytes held on, and
whether a word without its first bytes is discarded. -/
def wordStep (p : Nat) (cur : List Byte) (b : Byte) : Option Word × List Byte × Bool :=
  if p % 4 != 3 then (none, cur ++ [b], false)
  else if cur.length = 3 then (some (wordOfBytes (cur ++ [b])), [], false)
  else (none, [], true)

/-- The pointer after a byte of a write: its page wraps (R412). -/
def pageNext (p : Nat) : Nat := p / 256 * 256 + (p + 1) % 256

/-- The complete words of data bytes from pointer `p`, in order of arrival, and the words discarded in part; `next` steps the
pointer. -/
def splitWords (next : Nat → Nat) (p : Nat) (bs : List Byte) : List (Nat × Word) × Nat :=
  let r := bs.foldl (fun (a : Nat × List Byte × List (Nat × Word) × Nat) b =>
    let x := wordStep a.1 a.2.1 b
    (next a.1, x.2.1, (match x.1 with | some w => a.2.2.1 ++ [(a.1 / 4 * 4, w)] | none => a.2.2.1), a.2.2.2 + b2n x.2.2))
    (p, [], [], 0)
  (r.2.2.1, r.2.2.2 + b2n (!r.2.1.isEmpty))

/-- Insert a write by ascending address, after those of the same address. -/
def insertWrite (x : Nat × Word) : List (Nat × Word) → List (Nat × Word)
  | [] => [x]
  | y :: r => if x.1 < y.1 then x :: y :: r else y :: insertWrite x r

/-- Apply a buffered block (R404, R424): in ascending address, a submission capturing what the block writes. -/
def State.applyBlock (s : State) (p : Port) (ws : List (Nat × Word)) : State :=
  let ord := ws.foldl (fun l x => insertWrite x l) []
  let sub (x : Nat × Word) : Bool := x.1 == 0x3210
  (ord.filter (fun x => !sub x) ++ ord.filter sub).foldl (fun s x => s.fabricWrite p x.1 x.2) s

/-- Words discarded in part (R411). -/
def State.countPartial (s : State) (p : Port) (n : Nat) : State :=
  if n = 0 then s
  else ((s.bump Reg.HST_PARTIAL (if p = .spi then 31 else 15) (if p = .spi then 16 else 0) n).setBit Reg.HST_STAT 0 true).raise
    (E.HOST_PARTIAL 0)

/-- A PEC or CRC that fails (R414, R422). -/
def State.pecError (s : State) (p : Port) : State :=
  ((s.bump Reg.HST_PECERR (if p = .spi then 31 else 15) (if p = .spi then 16 else 0) 1).setBit Reg.HST_STAT 1 true).raise
    (E.HOST_PEC_ERR 0)

/-- HST_WRSTAT of a port: outcome and words applied (R426). -/
def State.wrStat (s : State) (p : Port) (result words : Nat) : State :=
  let o := if p = .spi then 0 else 16
  (s.put Reg.HST_WRSTAT (o + 15) (o + 14) result).put Reg.HST_WRSTAT (o + 13) o (min words 16383)

/-- A domain reset of a port (R43, R417, R423). -/
def State.portReset (s : State) (p : Port) : State :=
  let s := (s.bump Reg.HST_TIMEOUT (if p = .spi then 31 else 15) (if p = .spi then 16 else 0) 1).setBit Reg.HST_STAT 2 true
  s.flushCrossing.raise (E.HOST_TIMEOUT 0)

/-! ## The transaction -/

def State.onSmb (s : State) (f : SmbSt → SmbSt) : State := { s with smb := f s.smb }

/-- Comparator `k` as it stood at the START. -/
def State.acmp (s : State) (k : Nat) : Word := vget s.smb.acmp k 0

/-- The PEC mode of the comparator that serves. -/
def State.pecMode (s : State) : Bool := match s.smb.comp with
  | some k => bitOf (s.acmp k) 20
  | none => false

/-- The pointer (HST_PTR). -/
def State.ptr (s : State) : Nat := s.fld Reg.HST_PTR 15 0

/-- Whether a write phase has carried data bytes. -/
def State.wroteData (s : State) : Bool := decide (s.smb.words != 0) || !s.smb.word.isEmpty || s.smb.result != 0

/-- A PEC-mode-1 write that ends in STOP (R414). -/
def State.pecStop (s : State) : State :=
  let data := s.smb.buf.dropLast
  let (ws, part) := splitWords pageNext s.smb.bufPtr data
  let s' := if s.smb.nacked then s else s.wrN Reg.HST_PTR ((List.range data.length).foldl (fun p _ => pageNext p) s.smb.bufPtr)
  let s' := s'.countPartial .smbus part
  if s.smb.nacked then s'.wrStat .smbus s.smb.result 0
  else if s.smb.buf.isEmpty || s.smb.pec != 0 then (s'.pecError .smbus).wrStat .smbus 1 0
  else if ws.any (fun x => s.fwBusy .smbus x.1) then (s'.busyAnswer .smbus).wrStat .smbus 2 0
  else (s'.applyBlock .smbus ws).wrStat .smbus 0 ws.length

/-- The write phase ends in a STOP: what it leaves (R411, R414). -/
def State.writeStop (s : State) : State :=
  if s.pecMode then s.pecStop
  else (s.countPartial .smbus (b2n (!s.smb.word.isEmpty))).wrStat .smbus s.smb.result s.smb.words

/-- The write phase ends in a repeated START (R410, R411). -/
def State.writeRestart (s : State) : State :=
  if s.pecMode then
    if s.smb.nptr = 2 && s.smb.buf.length = 1 && !s.smb.nacked then
      let c := (s.smb.buf.headD 0).toNat
      s.onSmb (fun m => { m with left := some (if c = 0 then 256 else c), buf := [] })
    else
      let part := (splitWords pageNext s.smb.bufPtr s.smb.buf.dropLast).2
      ((s.countPartial .smbus part).wrStat .smbus 3 0).onSmb (fun m => { m with nacked := true, result := 3, buf := [] })
  else
    let s' := s.countPartial .smbus (b2n (!s.smb.word.isEmpty))
    let s' := if s.wroteData then s'.wrStat .smbus s.smb.result s.smb.words else s'
    s'.onSmb (fun m => { m with word := [], nacked := false })

/-- SMBUS_START (R408, R410, R417): a START, or a repeated START within the transaction that the target serves. -/
def execSmbusStart (s : State) : Host.Outcome State Fault Refusal :=
  if !s.fabricUp then .next s
  else
    let serving := s.smb.active && s.smb.comp.isSome
    let s := if serving && !s.smb.reading && !s.smb.addrDue then s.writeRestart else s
    let regs := Vector.ofFn (fun (k : Fin 4) => s.rd (Reg.HST_ACMP k))
    .next (s.onSmb (fun m => if serving then { m with acmp := regs, addrDue := true, lost := false, ack := false, out := [] }
      else { SmbSt.initial with active := true, addrDue := true, acmp := regs }))

/-- The comparator that address `a` matches first (R408). -/
def State.smbMatch (s : State) (a : Nat) : Option Nat :=
  if a ≤ 7 || a = 0xC || 0x78 ≤ a then none
  else (List.range 4).find? (fun k =>
    let w := s.acmp k
    fieldOf w 17 16 != 0 && (a ^^^ fieldOf w 6 0) &&& fieldOf w 14 8 == 0)

/-- Whether the function of comparator `k` is answered now (R408, R409). -/
def State.smbAnswers (s : State) (k : Nat) : Bool :=
  match fieldOf (s.acmp k) 17 16 with
  | 1 => true
  | 2 => !s.inPaddock && s.bit Reg.PAIR_CLAIM 15
  | 3 => !s.inPaddock && s.fwOk
  | _ => false

/-- The address byte is not answered: the target takes no part until the next START. -/
def State.smbLeave (s : State) : State := (s.onSmb (fun _ => SmbSt.initial)).setBit Reg.HST_STAT 28 false

/-- SMBUS_ADDRESS (R408 to R410): the address byte; a function that firmware does not serve is not acknowledged and counted. -/
def execSmbusAddress (b : Byte) (s : State) : Host.Outcome State Fault Refusal :=
  if !(s.fabricUp && s.smb.active && s.smb.addrDue) then .next (s.onSmb (fun m => { m with ack := false }))
  else
    let a := b.toNat / 2
    match s.smbMatch a with
    | none => .next s.smbLeave
    | some k =>
      let same := s.smb.comp == some k
      if s.smb.nacked && same then .next (s.onSmb (fun m => { m with addrDue := false, ack := false, reading := bitOf (word b.toNat) 0 }))
      else if !(same || s.smbAnswers k) then
        .next (if fieldOf (s.acmp k) 17 16 = 3 then (s.busyAnswer .smbus).smbLeave else s.smbLeave)
      else
        let rd := b.getLsbD 0
        let s := if same then s else s.bump (Reg.HST_ACNT k) 31 0 1
        let s := (s.put Reg.HST_STAT 22 16 a).setBit Reg.HST_STAT 28 true
        let pecOn := bitOf (s.acmp k) 20
        .next (s.onSmb (fun m => { m with
          comp := some k, addrDue := false, reading := rd, ack := true, pec := crc8Byte (if same then m.pec else 0) b,
          nptr := 0, word := [], buf := [], words := 0, nacked := false, result := 0, out := [],
          left := if rd && pecOn then (match (if same then m.left else none) with | some c => some c | none => some 4) else none }))

/-- A data byte in PEC mode 0 (R411, R412, R415). -/
def State.writePlain (s : State) (b : Byte) : State :=
  let p := s.ptr
  let (w, cur, lost) := wordStep p s.smb.word b
  let s := (s.onSmb (fun m => { m with word := cur })).wrN Reg.HST_PTR (pageNext p)
  let s := s.countPartial .smbus (b2n lost)
  match w with
  | none => s
  | some w =>
    let a := p / 4 * 4
    if s.fwBusy .smbus a then
      (s.busyAnswer .smbus).onSmb (fun m => { m with nacked := true, result := 2, ack := false })
    else (s.fabricWrite .smbus a w).onSmb (fun m => { m with words := m.words + 1 })

/-- SMBUS_WRITE_BYTE (R410 to R412, R414, R434): a byte received after the address: the pointer, then data. -/
def execSmbusWriteByte (b : Byte) (s : State) : Host.Outcome State Fault Refusal :=
  match s.smb.comp with
  | none => .next s
  | some k =>
    if !s.fabricUp || s.smb.addrDue || s.smb.reading then .next s
    else if s.smb.nacked then .next (s.onSmb (fun m => { m with ack := false }))
    else
      let s := s.onSmb (fun m => { m with pec := crc8Byte m.pec b, ack := true })
      if s.smb.nptr = 0 then
        if fieldOf (s.acmp k) 17 16 = 3 && b != 8 then
          .next (s.onSmb (fun m => { m with nacked := true, result := 3, ack := false }))
        else .next (s.onSmb (fun m => { m with ptrHi := b, nptr := 1 }))
      else if s.smb.nptr = 1 then
        let p := s.smb.ptrHi.toNat * 256 + b.toNat
        .next ((s.onSmb (fun m => { m with nptr := 2, bufPtr := p })).wrN Reg.HST_PTR p)
      else if s.pecMode then
        if 257 ≤ s.smb.buf.length then .next (s.onSmb (fun m => { m with nacked := true, result := 3, ack := false }))
        else .next (s.onSmb (fun m => { m with buf := m.buf ++ [b] }))
      else .next (s.writePlain b)

/-- The byte that is due at the pointer, its register read when its first byte is due (R413). -/
def State.fetchByte (s : State) : Byte × State :=
  let p := s.ptr
  match s.smb.out with
  | b :: rest => (b, s.onSmb (fun m => { m with out := rest }))
  | [] =>
    let (w, s) := s.fabricRead .smbus (p / 4 * 4)
    let bs := (List.range 4).map (fun i => byteOf w i)
    let bs := bs.drop (p % 4)
    (bs.headD 0, s.onSmb (fun m => { m with out := bs.tail }))

/-- Arbitration lost (R416, R418). -/
def State.arbLost (s : State) : State :=
  ((s.bump Reg.HST_ARA 31 16 1).setBit Reg.HST_STAT 3 true).raise (E.HOST_ARBLOST 0)

/-- What the target sends next (R410, R413): a data byte, the PEC byte, or 0xFF after it. -/
def State.sendByte (s : State) : Byte × State :=
  let data (s : State) : Byte × State :=
    let (b, s) := s.fetchByte
    (b, (s.onSmb (fun m => { m with pec := crc8Byte m.pec b, left := m.left.map (fun n => n - 1) })).wrN Reg.HST_PTR
      ((s.ptr + 1) % 65536))
  match s.smb.left with
  | none => if s.pecMode then (0xFF, s) else data s
  | some 0 => (s.smb.pec, s.onSmb (fun m => { m with left := none }))
  | some _ => data s

/-- SMBUS_READ_BYTE (R410, R413, R416, R417): the target sends a byte, unless it has left the transaction. A lost arbitration
needs a bit sent as 1. -/
def execSmbusReadByte (lost ack : Bool) (s : State) : Host.Outcome State Fault Refusal :=
  if !(s.fabricUp && s.smb.comp.isSome && s.smb.reading && !s.smb.addrDue && !s.smb.nacked && !s.smb.lost) then .next s
  else
    let (b, s) := s.sendByte
    let s := { s with readData := vset s.readData 0 (b.setWidth 32) }
    if lost && b != 0 then .next (s.arbLost.onSmb (fun m => { m with lost := true }))
    else .next (s.onSmb (fun m => { m with nacked := !ack }))

/-- SMBUS_STOP (R410, R411, R414, R417): the transaction ends. -/
def execSmbusStop (s : State) : Host.Outcome State Fault Refusal :=
  if !s.fabricUp then .next s
  else if s.smb.comp.isSome && !s.smb.reading && !s.smb.addrDue then .next s.writeStop.smbLeave
  else .next s.smbLeave

/-- SMBUS_TIMEOUT (R417): SCL has stayed low: the partial word and the PEC buffer are discarded, the pointer stays. -/
def execSmbusTimeout (s : State) : Host.Outcome State Fault Refusal :=
  if !s.fabricUp then .next s
  else
    let part := if s.pecMode then (splitWords pageNext s.smb.bufPtr s.smb.buf).2 else b2n (!s.smb.word.isEmpty)
    .next ((s.countPartial .smbus part).smbLeave.portReset .smbus)

/-- ALERT_RESPONSE (R418): a read of the Alert Response Address; a unit whose ALERT# is deasserted does not answer. The byte, and
the PEC byte in bits 15:8 where the comparator's PEC field is set, are the data sent. -/
def execAlertResponse (lost : Bool) (s : State) : Host.Outcome State Fault Refusal :=
  if s.fabricUp && s.smb.comp.isNone && s.alertPin then
    let w := s.rd (Reg.HST_ACMP (s.fld Reg.HST_CFG 1 0))
    let b : Byte := BitVec.ofNat 8 (2 * fieldOf w 6 0)
    let sent := b.toNat + (if bitOf w 20 then 256 * (crc8 [0x19, b]).toNat else 0)
    let s := { s with readData := vset s.readData 0 (word sent) }
    .next (if lost && sent != 0 then s.arbLost else (s.setBit Reg.HST_STAT 30 true).bump Reg.HST_ARA 15 0 1)
  else .next s

end Sys2Proof.Machine
end

