-- ==== Sys2Proof/Machine/Spi.lean ====
section
/-!
DEFINITION. The service SPI (R419 to R423). A command carries its whole data phase; with CRC set, the last byte of a write frame's
bytes is its CRC.
-/

namespace Sys2Proof.Machine

def State.onSpi (s : State) (f : SpiSt → SpiSt) : State := { s with spi := f s.spi }

/-- The status byte of a frame (R421). -/
def State.spiStatusByte (s : State) : Byte :=
  BitVec.ofNat 8 (128 * b2n s.fwOk + 64 * b2n s.spi.crcErr + 32 * b2n s.spi.busy + 16 * b2n s.spi.refused + 8 * b2n s.alertPin +
    4 * b2n s.intPin + 2 * b2n s.faultPin + b2n s.inPaddock)

/-- SPI_FRAME_START (R419, R421): the mode is detected and the status byte is sent, which clears the history bits. -/
def execSpiFrameStart (mode3 : Bool) (s : State) : Host.Outcome State Fault Refusal :=
  if s.fabricUp && !s.spi.cs then
    let b := s.spiStatusByte
    let s := (s.put Reg.HST_SPISTAT 7 0 b.toNat).setBit Reg.HST_SPISTAT 16 mode3
    .next ((s.setBit Reg.HST_STAT 27 true).onSpi (fun m => { SpiSt.initial with cs := true, miso := m.miso }))
  else .next s

/-- Take the command byte of a frame: none where no frame is open or it has had its command. -/
def State.spiCommand (s : State) (op : Nat) (crc : Bool) : Option State :=
  if s.fabricUp && s.spi.cs && !s.spi.used then
    some ((s.put Reg.HST_SPISTAT 15 8 (op + 128 * b2n crc)).onSpi (fun m => { m with used := true, miso := [] }))
  else none

/-- A refused frame (R420, R422). -/
def State.spiRefuse (s : State) : State := s.onSpi (fun m => { m with nRef := true, miso := [0xFF] })

/-- The next byte address of a frame: across pages, or back to its start after 4 bytes (R420). -/
def spiNext (fixed : Bool) (p : Nat) : Nat := if fixed then p / 4 * 4 + (p + 1) % 4 else (p + 1) % 65536

/-- The words before the first that firmware would have to serve, and whether there is one (R415). -/
def State.spiServed (s : State) (ws : List (Nat × Word)) : List (Nat × Word) × Bool :=
  let ok := ws.takeWhile (fun x => !s.fwBusy .spi x.1)
  (ok, ok.length < ws.length)

/-- The end of a write frame's words: BUSY where one was firmware-served, and HST_WRSTAT. -/
def State.spiWritten (s : State) (busy : Bool) (n : Nat) : State :=
  if busy then ((s.busyAnswer .spi).onSpi (fun m => { m with nBusy := true })).wrStat .spi 2 n else s.wrStat .spi 0 n

/-- A write frame (R420, R422). -/
def State.spiWriteFrame (s : State) (op : Nat) (crc fixed : Bool) (a : Nat) (bytes : List Byte) : State :=
  if (fixed && a % 4 != 0) || (!crc && s.bit Reg.HST_CFG 4) || (crc && 257 < bytes.length) then s.spiRefuse.wrStat .spi 3 0
  else if crc then
    let data := bytes.dropLast
    let good := crc8 ([BitVec.ofNat 8 (op + 128), BitVec.ofNat 8 (a / 256), BitVec.ofNat 8 a] ++ data) == bytes.getLastD 0
    s.onSpi (fun m => { m with buf := some { addr := a, fixed := fixed, data := data, ok := good && !bytes.isEmpty } })
  else
    let (ws, part) := splitWords (spiNext fixed) a bytes
    let tail := (a + bytes.length) % 4 != 0
    let (ok, busy) := s.spiServed ws
    let s := ok.foldl (fun s x => s.fabricWrite .spi x.1 x.2) s
    let s := (s.spiWritten busy ok.length).countPartial .spi part
    s.onSpi (fun m => { m with early := tail })

/-- Read `n` bytes at an address: each register is read once, when its first byte is due; with CRC a byte follows each word
(R413, R420, R422). -/
def State.spiFetch (s : State) (crc fixed : Bool) : Nat → Nat → List Byte → State × List Byte
  | 0, _, _ => (s, [])
  | n + 1, p, cur =>
    let a := p / 4 * 4
    let (bs, s) : List Byte × State :=
      match cur with
      | _ :: _ => (cur, s)
      | [] =>
        let (w, s) := s.fabricRead .spi a
        (((List.range 4).map (fun i => byteOf w i)).drop (p % 4), { s with readData := vset s.readData 1 w })
    let w := vget s.readData 1 0
    let sum : List Byte := if crc && p % 4 = 3 then
        [crc8 ([BitVec.ofNat 8 (a / 256), BitVec.ofNat 8 a] ++ (List.range 4).map (fun i => byteOf w i))] else []
    let (s, out) := s.spiFetch crc fixed n (spiNext fixed p) bs.tail
    (s, bs.headD 0 :: sum ++ out)

/-- A read frame (R420). -/
def State.spiReadFrame (s : State) (crc fixed : Bool) (a n : Nat) : State :=
  if fixed && a % 4 != 0 then s.spiRefuse
  else
    let (s, out) := s.spiFetch crc fixed n a []
    s.onSpi (fun m => { m with miso := out, early := (a + n) % 4 != 0 })

/-- SPI_WRITE (R420). -/
def execSpiWrite (crc : Bool) (a : Addr) (bytes : List Byte) (s : State) : Host.Outcome State Fault Refusal :=
  match s.spiCommand 0x02 crc with
  | some s => .next (s.spiWriteFrame 0x02 crc false a.toNat bytes)
  | none => .next s

/-- SPI_WRITE_FIXED (R420). -/
def execSpiWriteFixed (crc : Bool) (a : Addr) (bytes : List Byte) (s : State) : Host.Outcome State Fault Refusal :=
  match s.spiCommand 0x0A crc with
  | some s => .next (s.spiWriteFrame 0x0A crc true a.toNat bytes)
  | none => .next s

/-- SPI_READ (R420): `n` data bytes. -/
def execSpiRead (crc : Bool) (a : Addr) (n : Nat) (s : State) : Host.Outcome State Fault Refusal :=
  match s.spiCommand 0x03 crc with
  | some s => .next (s.spiReadFrame crc false a.toNat n)
  | none => .next s

/-- SPI_READ_FIXED (R420): `n` data bytes. -/
def execSpiReadFixed (crc : Bool) (a : Addr) (n : Nat) (s : State) : Host.Outcome State Fault Refusal :=
  match s.spiCommand 0x0B crc with
  | some s => .next (s.spiReadFrame crc true a.toNat n)
  | none => .next s

/-- SPI_STATUS (R420, R421): the status byte, repeated for `n` further bytes. -/
def execSpiStatus (crc : Bool) (n : Nat) (s : State) : Host.Outcome State Fault Refusal :=
  match s.spiCommand 0x05 crc with
  | some s =>
    let b : Byte := BitVec.ofNat 8 (s.fld Reg.HST_SPISTAT 7 0)
    .next (({ s with readData := vset s.readData 1 (b.setWidth 32) }).onSpi (fun m => { m with miso := List.replicate n b }))
  | none => .next s

/-- The opcodes of R420. -/
def spiOpcode (op : Nat) : Bool := [0x02, 0x03, 0x0A, 0x0B, 0x05].contains op

/-- SPI_REFUSED (R420): a command byte whose opcode is none of R420's. -/
def execSpiRefused (op : Byte) (s : State) : Host.Outcome State Fault Refusal :=
  if spiOpcode (op.toNat % 128) then .next s
  else match s.spiCommand (op.toNat % 128) (op.getLsbD 7) with
    | some s => .next s.spiRefuse
    | none => .next s

/-- A buffered CRC frame at the deassertion of SPI_CS# (R404, R415, R422). -/
def State.spiApply (s : State) (x : SpiBuf) : State :=
  let (ws, part) := splitWords (spiNext x.fixed) x.addr x.data
  let s := s.countPartial .spi part
  if !x.ok then ((s.pecError .spi).onSpi (fun m => { m with nCrc := true })).wrStat .spi 1 0
  else
    let (ok, busy) := s.spiServed ws
    (s.applyBlock .spi ok).spiWritten busy ok.length

/-- SPI_FRAME_END (R421 to R423): a buffered frame applies, or a frame without its address or in the middle of a word has ended
early; the history bits for the next status byte are left. -/
def execSpiFrameEnd (s : State) : Host.Outcome State Fault Refusal :=
  if s.fabricUp && s.spi.cs then
    let s := match s.spi.buf with
      | some x => s.spiApply x
      | none => s
    let s := if !s.spi.used || s.spi.early then s.portReset .spi else s
    .next ((s.setBit Reg.HST_STAT 27 false).onSpi (fun m => { SpiSt.initial with
      crcErr := m.nCrc, busy := m.nBusy, refused := m.nRef, miso := m.miso }))
  else .next s

end Sys2Proof.Machine
end

