-- ==== Sys2Proof/Machine/Boot.lean ====
section
/-!
DEFINITION. The start sequence (R55 to R73), soft start, and the live restart of the firmware (R24 to R26, R79, R371). A start runs
from its release to READY, to paddock mode or to its stop in one command.
-/

namespace Sys2Proof.Machine

/-! ## Steps 1 and 2 (R57, R59, R62, R63, R407, R480) -/

/-- The value of a three-level strap (R480): 0 low, 1 mid, 2 high. -/
def strapValue (r : StrapRead) : Nat :=
  match r.withPullUp, r.withPullDown with
  | false, false => 0
  | true, true => 2
  | _, _ => 1

/-- Strap sampling (R57, R407, R409). -/
def State.sampleStraps (s : State) (e : StartEnv) : State :=
  let a0 := strapValue e.addr0
  let a1 := strapValue e.addr1
  let a2 := strapValue e.addr2
  let s := { s with unit := { s.unit with unitB := e.unitId, pairMode := e.pairEn } }
  let s := s.wrN Reg.SYS_STRAP (b2n e.unitId + 2 * b2n e.pairEn + 4 * b2n e.paddockN + 16 * a0 + 64 * a1 + 256 * a2)
  let s := (s.setBit Reg.PAIR_STAT 31 e.pairEn).setBit Reg.PAIR_STAT 30 e.unitId
  (s.put (Reg.HST_ACMP 0) 6 0 (0x40 + a0 + 3 * a1 + 9 * a2)).put (Reg.HST_ACMP 1) 17 16 (if e.pairEn then 2 else 0)

/-- The last start step completed (R84). -/
def State.bootPhase (s : State) (n : Nat) : State := s.put Reg.BOOT_STAT 3 0 n

/-- Load the clock settings of the descriptor in use (R49, R50, R62). DESIGN CHOICE: RTCOK is set with RTCEN, as if XTAL32 ran from the
start. -/
def State.loadDesc (s : State) (d : Desc) (copy : Nat) : State :=
  let mode := d.clksel % 4
  let rtc := d.clksel.testBit 7
  let s := (s.wrN Reg.BOOT_DESC (d.dseq + 65536 * copy)).wrN Reg.TIM_CLKCFG (mode + 128 * b2n rtc)
  s.wrN Reg.TIM_CLKSTAT (mode + 4 + 128 * b2n rtc)

/-! ## Steps 3 and 4 (R64, R83) -/

/-- The outcome of a slot in BOOT_FAIL (R83), and in what UPD_SINFO shows of it. -/
def State.slotOutcome (s : State) (i code : Nat) : State :=
  let s := s.put Reg.BOOT_FAIL (8 * i + 7) (8 * i) code
  if (s.slot i).header.isEmpty then s else s.setSlot i { s.slot i with mark := if code = 1 then 2 else 5 }

/-- Try the slots of an image kind in order (R64): the slot accepted. -/
def State.trySlots (s : State) (fw fallBit : Nat) (a b : Nat) : Option Nat × State :=
  let try1 (s : State) (i : Nat) : Nat × State :=
    if s.unit.tkskip.any (fun k => k.val + 2 == i) then (10, s.slotOutcome i 10)
    else
      let c := s.checkSlot i fw
      (c, s.slotOutcome i c)
  let (c, s) := try1 s a
  if c = 1 then (some a, s)
  else
    let (c, s) := try1 (s.setBit Reg.BOOT_STAT fallBit true) b
    (if c = 1 then some b else none, s)

/-! ## Step 5 (R65 to R69, R294) -/

/-- The limits of R15 that LIMITS declares (R16). -/
def limitsOk (l : Limits) : Bool :=
  decide (l.links ≤ 16) && decide (l.phases ≤ 128) && decide (l.modules ≤ 16) && decide (l.stages ≤ 32) &&
    decide (l.feeders ≤ 64) && decide (l.strings ≤ 8) && decide (l.contexts ≤ 256)

/-- A REGS pair may be written (R66): its register exists and has fields that are neither RO, WO nor reserved. -/
def State.regsOk (s : State) (x : Addr × Word) : Bool :=
  let a := x.1.toNat
  a % 4 == 0 && s.mapped a && decide (a < 0xF000) && (match s.keyOf .fw a with
    | none => true
    | some k => match rowOfKey k with
      | some r => r.rw != 0 || r.shd != 0 || r.w1c != 0 || !r.ctr.isEmpty
      | none => false)

/-- Write one item of the MEM section through its window (R65). -/
def State.memWrite (s : State) (x : MemItem) : State :=
  match x with
  | .ctx c w v => s.cwStore c (4 * w.val) v
  | .phase i w v => s.storeByType false (0x11000 + 0x20 * i.val + 4 * w.val) v
  | .stage k w v => s.storeByType false (0x12000 + 0x80 * k.val + 4 * w.val) v

/-- Write one link of the LINKMAP section. -/
def State.linkmapWrite (s : State) (x : LinkMapItem) : State :=
  let s := s.shdPut (Reg.LNK_KIND x.link) (word x.kind.val) 3
  (List.range 7).foldl (fun s i => s.shdPut (Reg.LNK_SMAP x.link i) (vget x.smap i 0) (BitVec.allOnes 32)) s

/-- Set a calibration entry in effect and in the shadow. -/
def State.calSet (s : State) (a : Nat) (v : Word) : State := (s.wr a v).swr a v

/-- The newest complete record of a calibration entry (R294). -/
def State.calNewest (s : State) (e : Nat) : Option CalRec :=
  (s.meas.store.filter (fun r => r.entry == e)).foldl (fun b r =>
    match b with
    | none => some r
    | some x => if x.epoch < r.epoch then some r else some x) none

/-- Calibration at a start (R67, R294, R312): the newest record of an entry, or its CALDEF value. -/
def State.calLoad (s : State) (defs : List CalDefItem) : State :=
  let s := defs.foldl (fun s d =>
    if (s.calNewest d.entry).isSome then s
    else ((s.calSet (Reg.CAL_GAIN d.entry) d.gain).calSet (Reg.CAL_OFS d.entry) (d.ofs &&& 0xFFFFFF)).wrN (Reg.CAL_INFO d.entry) 1) s
  let s := s.meas.store.foldl (fun s r =>
    if s.calNewest r.entry == some r then
      let s := (s.calSet (Reg.CAL_GAIN r.entry) r.gain).calSet (Reg.CAL_OFS r.entry) r.ofs
      let s := (List.range 4).foldl (fun s i => s.calSet (Reg.CAL_TAG r.entry i) (r.tag.getD i 0)) s
      let s := (s.wrN (Reg.CAL_EPOCH r.entry) r.epoch).wrN (Reg.CAL_INFO r.entry) 2
      (s.wrN (Reg.CAL_RWALL_LO r.entry) (r.sec % 2 ^ 32)).wrN (Reg.CAL_RWALL_HI r.entry) (r.sec / 2 ^ 32 % 65536 + 65536 * r.temp)
    else s) s
  let top := (s.meas.store.map (·.epoch)).foldl max 0
  if s.rdN Reg.CAL_GEPOCH < top then s.wrN Reg.CAL_GEPOCH top else s

/-- The checks of a commit that a start makes: no maintenance token is asked for, since none can be held before READY. -/
def State.bootChecks (s : State) (m : Nat) : Bool × State :=
  let pm := s.unit.pairMode
  let (f, s) := ({ s with unit := { s.unit with pairMode := false } }).commitChecks m
  (f.isNone, { s with unit := { s.unit with pairMode := pm } })

/-- A commit of a start (R69, R70): true where it applies. -/
def State.bootCommit (s : State) (m : Nat) : Bool × State :=
  match s.bootChecks m with
  | (false, s) => (false, s)
  | (true, s) =>
    let s := s.put Reg.SYS_COMMITSTAT 15 0 (s.fld Reg.SYS_COMMITSTAT 15 0 + 1)
    (true, (s.commitApply m none).commitEnd 0 0 none)

/-- Apply the sections of step 5 and make the boot commit: 0, or the code of R83 for which the image is refused. -/
def State.bootConfig (s : State) (t : TackImage) : Nat × State :=
  if !t.knownKinds then (2, s)
  else if !limitsOk t.limits then (7, s)
  else if !(t.regs.all (fun x => s.regsOk x)) then (2, s)
  else
    let s := { s with boot := { s.boot with limits := t.limits, soft := t.softstart.take 256, fwset := t.fwset,
                                            tether := t.tethered.map (fun (c : Fin 256) => c.val) } }
    let s := s.calLoad t.caldef
    let s := t.regs.foldl (fun s x => s.fabricWrite .fw x.1.toNat x.2) s
    let s := t.mem.foldl (fun s x => s.memWrite x) s
    let s := t.linkmap.foldl (fun s x => s.linkmapWrite x) s
    match s.bootCommit 0x1FFFD with
    | (false, s) => (10, s)
    | (true, s) => (0, ({ s with unit := { s.unit with booted := true } }.throttlePins 0).bootPhase 5)

/-! ## Steps 6 and 7 (R61, R70, R73, R333) -/

/-- What the heads show to one training state of step 6 (R59). -/
def State.bootTrain (s : State) (x : Fin 17 × TrainReply) : State :=
  if x.1.val < 16 then s.trainWhole x.1 x.2 else s.tandemWhole x.2

/-- Training that step 6 has not completed has failed (R61). -/
def State.bootUntrained (s : State) : State :=
  let s := (List.range 16).foldl (fun s n => s.trainSilent n) s
  s.tandemWhole .noReply

/-- Step 6 (R59, R61, R333): every assigned link is enabled, unless the REGS section has set its LNK_CTL, and trained by what the heads
show; in pair mode the tandem link trains first, and the rein links on this unit's own timeline where it does not come UP. -/
def State.bootLinks (s : State) (env : StartEnv) (t : TackImage) : State :=
  let s := { s with unit := { s.unit with txIdle := false } }
  let s := (List.range 16).foldl (fun s n =>
    (s.setLinkState n 0).setBit (Reg.LNK_CTL n) 0 (s.bit (Reg.LNK_CTL n) 0 ||
      (s.linkKind n != 0 && !t.regs.any (fun r => r.1.toNat == Reg.LNK_CTL n)))) s
  let s := (env.train.filter (fun x => x.1.val == 16)).foldl (fun s x => s.bootTrain x) (if s.unit.pairMode then s.tandemLock else s)
  let s := if s.pair.waitDone then s else s.startLinks
  let s := (env.train.filter (fun x => x.1.val != 16)).foldl (fun s x => s.bootTrain x) s
  s.bootUntrained.bootPhase 6

/-- Step 7: the SCHED section and its commit; contexts marked TETHERED enter that state (R70, R175). -/
def State.bootSched (s : State) (t : TackImage) : Bool × State :=
  let s := t.sched.foldl (fun s x =>
    (s.shdPut (Reg.LE_SENT0 x.entry) x.w0 (BitVec.allOnes 32)).shdPut (Reg.LE_SENT1 x.entry) x.w1 (BitVec.allOnes 32)) s
  match s.bootCommit 2 with
  | (false, s) => (false, s)
  | (true, s) => (true, s.boot.tether.foldl (fun s c => s.tetherHand c) s)

/-- The role with which a unit becomes READY (R29, R73, R338): active alone; in a pair without ACTIVE, and without a claim where it
takes its clock from a crystal. -/
def State.readyRole (s : State) : State :=
  if !s.unit.pairMode then (s.put Reg.PAIR_STAT 29 28 2).setBit Reg.PAIR_STAT 25 true
  else if s.clkHeld then (s.put Reg.PAIR_STAT 29 28 0).raise (E.CLK_CFG 0)
  else s.put Reg.PAIR_STAT 29 28 1

/-- READY (R60, R64, R73, R386, R393, R433): BOOT_TIME is a free value within its bound. -/
def State.bootReady (s : State) : State :=
  let s := ((s.setBit Reg.SYS_STAT 0 true).bootPhase 7).readyRole
  let s := { s with unit := { s.unit with tkskip := none }, boot := { s.boot with softWait := true, softFrames := 0, softFail := [] } }
  let s := if s.bit Reg.BOOT_STAT 10 then s else s.raiseArb 1 (hdrArb (s.slot (2 + s.fld Reg.BOOT_STAT 8 8)).header)
  let (w, s) := s.takeWord
  let bound := if s.bit Reg.BOOT_STAT 10 || s.bit Reg.BOOT_STAT 9 then 240001 else 150001
  let s := s.wrN Reg.BOOT_TIME (w.toNat % bound)
  let s := s.offerNow 9 2 (leBytes 4 (s.rdN Reg.TIM_PONCNT) ++ leBytes 4 (s.rdN Reg.SYS_RSTCAUSE) ++
    leBytes 4 (s.rdN Reg.BOOT_STAT) ++ leBytes 4 (s.rdN Reg.BOOT_FWVER) ++ leBytes 4 (s.rdN Reg.BOOT_TKVER))
  s.healthTurnover.claimUpdate

/-- A tack image refused at step 5 or 7 (R64): the skip latch and an internal reset, or paddock mode where the latch is already
set. -/
def State.tackRefused (s : State) (slot code : Nat) : State :=
  let s := s.slotOutcome slot code
  if s.unit.tkskip.isSome then s.enterPaddock 4
  else { s with unit := { s.unit with tkskip := some (if slot = 2 then 0 else 1) } }.assertReset 4

/-- Steps 5 to 7 with the image of tack slot `slot` and firmware slot `fw`. -/
def State.bootRun (s : State) (env : StartEnv) (d : Desc) (fw slot : Nat) : State :=
  let t := (s.slot slot).tack
  let s := { s with unit := { s.unit with life := .running } }
  let was := (hdrVersion (s.slot (d.fwsel % 2)).header).toNat
  match s.bootConfig t with
  | (0, s) =>
    match (s.bootLinks env t).bootSched t with
    | (true, s) => ((s.fwLoaded d fw was).bootReady).fwServes env.overlay
    | (false, s) => s.tackRefused slot 10
  | (c, s) => s.tackRefused slot c

/-- The start sequence after a release of the reset (R59). -/
def State.startOnce (s : State) (env : StartEnv) : State :=
  if env.testmode && !s.unit.sealed then { s with unit := { s.unit with life := .testHold } }
  else
    let s := (s.sampleStraps env).bootPhase 1
    let s := match s.flash.desc with
      | some (d, c) => (s.loadDesc d c).bootPhase 2
      | none => s
    if !env.paddockN then s.enterPaddock 1
    else match s.flash.desc with
      | none => s.enterPaddock 2
      | some (d, _) =>
        let i := s.fwChoice d
        match s.trySlots 0 9 i (1 - i) with
        | (none, s) => s.enterPaddock 3
        | (some fw, s) =>
          let v := hdrVersion (s.slot fw).header
          let s := ((s.wr Reg.BOOT_FWVER v).put Reg.BOOT_STAT 7 7 fw).bootPhase 3
          match s.trySlots v.toNat 10 (2 + d.tksel % 2) (3 - d.tksel % 2) with
          | (none, s) => s.enterPaddock 4
          | (some tk, s) =>
            let h := (s.slot tk).header
            let s := ((s.wr Reg.BOOT_TKVER (hdrVersion h)).wr Reg.BOOT_TKID (hdrTkid h)).put Reg.BOOT_STAT 8 8 (tk - 2)
            (s.bootPhase 4).bootRun env d fw tk

/-- The release of a reset (R6, R56, R64, R86): what the reset leaves, with its cause. Only an internal reset keeps the skip
latch. -/
def State.released (s : State) : State :=
  let c := s.unit.cause
  let s := s.afterReset
  let s := { s with unit := { s.unit with life := .inReset, tkskip := if c = 4 then s.unit.tkskip else none } }
  s.wrN Reg.SYS_RSTCAUSE (2 ^ c)

/-- A release and its start; a tack image refused at step 5 or 7 leads to one more (R64). -/
def State.start (s : State) (env : StartEnv) : State :=
  let s := s.released.startOnce env
  if s.unit.life = .inReset && s.unit.cause = 4 then s.released.startOnce env else s

/-- POWER_ON (R35, R55, R389). -/
def execPowerOn (env : StartEnv) (s : State) : Host.Outcome State Fault Refusal :=
  let s := s.afterPower
  .next ({ s with unit := { s.unit with life := .inReset, cause := 0 } }.start env)

/-- RESET_RELEASE (R57, R59). -/
def execResetRelease (env : StartEnv) (s : State) : Host.Outcome State Fault Refusal :=
  if s.unit.life = .inReset then .next (s.start env) else .next s

/-- SOFTWARE_RESET (R58): the write of SYS_RSTREQ; the key resets the unit, and it starts again. -/
def execSoftwareReset (p : Port) (v : Word) (env : StartEnv) (s : State) : Host.Outcome State Fault Refusal :=
  let t := s.hostWrite p Reg.SYS_RSTREQ v
  if s.fabricUp && decide (t.unit.life = .inReset) then .next (t.start env) else .next t

/-! ## Soft start (R71 to R73) -/

/-- Index of the current soft-start entry (SYS_SSTAT). -/
def State.softIdx (s : State) : Nat := s.fld Reg.SYS_SSTAT 7 0

/-- The item of a soft-start entry has power-good (R71, R250): a good stage, a feeder that is ON and good for every power-good output
that names it, a string connected. -/
def State.itemGood (s : State) (x : StartItem) : Bool :=
  match x with
  | .stage k => s.stageGood k
  | .feeder f => s.fdrState f == 2 && (List.range 4).all (fun g => !(s.pgFeeders g).contains f.val || s.feederGood g f)
  | .string b => s.strMode b != 0 && !(s.str b).disc

/-- The start condition of the current entry is met (R71). -/
def State.softMet (s : State) (e : StartEntry) : Bool :=
  match e.cond with
  | .frames n => decide (n ≤ s.boot.softFrames)
  | .pgOf j => match s.boot.soft[j]? with
    | some x => decide (j < s.softIdx) && s.itemGood x.item
    | none => false

/-- Entry `e` depends on an item that stayed safe (R72). -/
def State.softDepends (s : State) (e : StartEntry) : Bool :=
  match e.cond with
  | .pgOf j => s.boot.softFail.contains j
  | .frames _ => false

/-- The current entry stays safe (R72): counted. -/
def State.softFailed (s : State) (i : Nat) : State :=
  { s with boot := { s.boot with softFail := s.boot.softFail ++ [i] } }.bump Reg.SYS_SSTAT 23 16 1

/-- Go on with entry `i`, whose tail of the list is given: dependants of failed items are skipped, and after the last entry soft
start is done (R72). -/
def State.softGo (s : State) (i : Nat) : List StartEntry → State
  | [] => (((s.setBit Reg.SYS_SSTAT 31 true).setBit Reg.SYS_STAT 2 false).bootPhase 8)
  | e :: rest =>
    if s.softDepends e then (s.softFailed i).softGo (i + 1) rest
    else { s with boot := { s.boot with softFrames := 0 } }.put Reg.SYS_SSTAT 7 0 i

/-- The entry after the current one. -/
def State.softNext (s : State) : State := s.softGo (s.softIdx + 1) (s.boot.soft.drop (s.softIdx + 1))

/-- Soft start is in progress on the unit that drives (R73). -/
def State.softOn (s : State) : Bool := s.live && s.bit Reg.SYS_STAT 2 && s.role == 2

/-- The contexts that soft start arms with stage `k` (R71): the TETHERED ones of the schedule whose CFG names the stage. -/
def State.armedWith (s : State) (k : Nat) : List Nat :=
  (List.range 256).filter (fun c => s.cState c == 1 && fieldOf (s.cw c 8) 20 16 == k && (s.entryOf c).isSome)

/-- Start the item of an entry (R71): a stage is armed and run, a feeder is enabled, a string is connected. Arming a stage is SETSTATE to
ARMED of its contexts, and running it is a START (DEDUCED, log 130). -/
def State.startItem (s : State) (x : StartItem) : State :=
  match x with
  | .stage k =>
    let s := { s with cwq := s.cwq ++ (s.armedWith k).map (fun c => CwItem.setState c 2) }
    s.cwCount.onSg k (fun g => { g with cmd := g.cmd ++ [1] })
  | .feeder f => s.setBit (Reg.FDR_CTL f) 0 true
  | .string b => s.reconnect (word (2 ^ (8 + b.val)))

/-- SOFTSTART_ENTRY (R71): the current entry's condition is met and its item starts. -/
def execSoftstartEntry (s : State) : Host.Outcome State Fault Refusal :=
  match s.boot.soft[s.softIdx]? with
  | none => .next s
  | some e => if s.softOn && s.softMet e then .next (s.startItem e.item).softNext else .next s

/-- SOFTSTART_TIMEOUT (R72): the current entry's condition has not been met within its timeout. -/
def execSoftstartTimeout (s : State) : Host.Outcome State Fault Refusal :=
  match s.boot.soft[s.softIdx]? with
  | none => .next s
  | some e =>
    if s.softOn && !s.softMet e then .next ((s.softFailed s.softIdx).raise (E.SOFTSTART_TIMEOUT 0)).softNext else .next s

/-- Soft start at a gait-frame boundary (R71, R73): SHELF_EN goes high at the first one after READY, where the active unit takes up
the list; later ones count the frames since the previous entry. -/
def State.softTurnover (s : State) : State :=
  if !s.live || !s.bit Reg.SYS_STAT 0 then s
  else
    let s := if s.bit Reg.TIM_CLKSTAT 6 then s else { s with unit := { s.unit with shelfEn := true } }
    if s.boot.softWait && s.role == 2 then
      let s := { s with boot := { s.boot with softWait := false, softFrames := 0 } }
      (s.setBit Reg.SYS_STAT 2 true).softGo 0 s.boot.soft
    else if s.bit Reg.SYS_STAT 2 then
      { s with boot := { s.boot with softFrames := s.boot.softFrames + 1 } }
    else s

/-! ## Live restart (R24 to R26, R79, R371, R438, R440) -/

/-- FW_WATCHDOG_EXPIRY (R371): firmware has not signalled within 10 ms; a planned restart does not arm the watchdog. -/
def execFwWatchdogExpiry (s : State) : Host.Outcome State Fault Refusal :=
  if s.live && s.boot.lrStart.isNone then .next (s.fault 23 0 1) else .next s

/-- Sessions end at a live restart that is no activation (R438). -/
def State.sessionsLost (s : State) : State := ((s.endPend .smbus 23).endPend .spi 23).endAuth 23

/-- What the pair does after a live restart (R26, R341): a unit that had given up joins again as a standby, and sync restarts. -/
def State.pairRestarted (s : State) : State :=
  if !s.unit.pairMode then s
  else if s.clkHeld then (s.put Reg.PAIR_STAT 29 28 0).claimUpdate
  else if s.role = 3 && !s.halted then
    (((s.put Reg.PAIR_STAT 29 28 1).setSync 1).onPair (fun p => { p with waited := 0, noAct := 0 })).claimUpdate
  else if s.role = 1 && 2 ≤ s.syncPhase then s.setSync 2
  else s

/-- LIVE_RESTART_COMPLETE (R79, R438, R440): the ROM loads the firmware slot, and firmware serves again; a slot that is refused is the
firmware-stall fault. -/
def execLiveRestartComplete (lr : LiveStart) (s : State) : Host.Outcome State Fault Refusal :=
  if !s.runs || s.boot.lrStart.isNone then .next s
  else
    let (d, c) := (s.flash.desc).getD (Desc.default, 0)
    let i := s.fwChoice d
    let activation := s.boot.lrPlanned && d.trial && !s.upd.trialrun
    let code := s.checkSlot i 0
    let s := { s with boot := { s.boot with lrStart := none, lrPlanned := false } }
    if code != 1 then .next (s.fault 23 0 2)
    else
      let was := s.rdN Reg.BOOT_FWVER
      let s := s.wrN Reg.BOOT_DESC (d.dseq + 65536 * c)
      let s := if activation then s else s.sessionsLost
      let s := (s.fwLoaded d i was).setBit Reg.UPD_STAT 28 false
      let s := (s.wrN Reg.BOOT_LRTIME lr.micros).pairRestarted
      .next (s.fwServes lr.overlay)

/-- LIVE_RESTART_TIMEOUT (R371): the restart has not completed within 200 ms. -/
def execLiveRestartTimeout (s : State) : Host.Outcome State Fault Refusal :=
  if s.live && s.boot.lrStart.isSome then .next (s.fault 23 0 2) else .next s

end Sys2Proof.Machine
end

