-- ==== Sys2Proof/Machine/Turnover.lean ====
section
/-!
DEFINITION. The gait-frame boundary (R31 to R34, R155, R510): the time lines move to it, and the turnover applies what waits for it,
block by block in the order of R155.
-/

namespace Sys2Proof.Machine

/-! ## The boundary in time (R31 to R33, R510) -/

/-- Link frames to the next gait-frame boundary: the rest of a frame of the length in effect, or, before the first boundary after a
reset, those until FCNT is 0 again. -/
def State.framesToBoundary (s : State) : Nat :=
  let t := s.time
  let len := gaitLinkFrames s.gaitLen
  if t.grid then (if t.lf ≤ len then len - (max t.lf 1 - 1) else 1)
  else 256 - t.fcnt.toNat

/-- The next gait frame starts: GFC takes its new value (R33). -/
def State.nextGait (s : State) : State :=
  let s := s.advance s.framesToBoundary
  { s with time := { s.time with lf := 0, grid := true, gfc := s.time.gfc + 1, gaits := (s.frameNo * 2560 :: s.time.gaits).take 8 } }

/-! ## Items with a fixed GFC (R75, R173, R345) -/

/-- A compare skip on a link until its second digest restart (R345). -/
def State.skipLink (s : State) (n : Nat) : State := s.onLink n (fun l => { l with skip := 2 })

/-- Remote links of stage `k`. -/
def State.stageLinks (s : State) (k : Nat) : List Nat := ((s.phases k).filter (fun i => !s.phLocal i)).map (fun i => s.phWhere i)

/-- A decision of the active unit on the standby's shadow (R345). -/
def State.applyDecision (s : State) (d : LocalDecision) : State :=
  match d with
  | .stage k c => (s.stageLinks k).foldl (fun s n => s.skipLink n) (s.stageFaultSafe k c true)
  | .feeder f c => (s.tripState f c true).skipLink (s.fdrLink f)
  | .context c => s.enterCtx c 0
  | .follow scope item kind => s.followItem scope item kind
  | .release n m => if s.linkUp n then (s.sendRelease n m).skipLink n else s

/-- One item at its GFC. -/
def State.applyItem (s : State) (x : FwdItem) : State :=
  match x with
  | .write k v => s.applyForwarded k v
  | .window w => { s with cwq := s.cwq ++ [w] }
  | .commit _ cal => s.commitTurnover (some cal)
  | .decision d => s.applyDecision d
  | .tokenRequest _ => s
  | .tokenRelease => s

/-- An item fixed for `g` is due at this boundary. -/
def State.itemDue (s : State) (g : Nat) : Bool := decide ((s.gfcN + 2 ^ 32 - g) % 2 ^ 32 < 2 ^ 31)

/-- The items due at this boundary apply in order; a standby first waits for its configuration image (R341). -/
def State.itemsTurnover (s : State) : State :=
  if s.role == 2 || 3 ≤ s.syncPhase then
    let due := s.pair.fwd.filter (fun x => s.itemDue x.1)
    due.foldl (fun s x => s.applyItem x.2) (s.onPair (fun p => { p with fwd := p.fwd.filter (fun x => !s.itemDue x.1) }))
  else s

/-- A commit of this unit at its boundary; one forwarded to this unit waits for the item that fixes its GFC (R75). -/
def State.ownCommitTurnover (s : State) : State :=
  match s.commit with
  | some c => if c.wait = 0 then s else s.commitTurnover none
  | none => s

/-! ## The blocks at the turnover -/

/-- FLT_RXN takes effect at the boundary after its write (R380). -/
def State.rxnTurnover (s : State) : State :=
  (List.range 27).foldl (fun s k => s.wr (0x1E400 + 0x10 * k) (s.rd (Reg.FLT_RXN k))) s

/-- Stage commands and revivals (R211, R223, R509); after them fault retries issue their STARTs (R362), and a stage that a START or a
commit leaves with its stage fault takes it (R223). -/
def State.stagesTurnover (s : State) : State :=
  let hold := s.commitPending 8
  let s := (List.range 32).foldl (fun s k => s.stageCommands hold k) s
  let s := s.flt.startDue.foldl (fun s k => s.onSg k (fun g => { g with cmd := g.cmd ++ [1] })) s
  let s := { s with flt := { s.flt with startDue := [] } }
  let s := (List.range 128).foldl (fun s i => s.phaseRevive i) s
  (List.range 32).foldl (fun s k => s.stageFaultCheck k) s

/-- Set-points, curb limits and shelf functions for the frame (R155 step 4, R215, R216, R231, R265). -/
def State.controlTurnover (s : State) : State :=
  let s := (List.range 32).foldl (fun s k => (s.slewStage k).curbStage k) s
  let s := (s.mbApply 5).1.shelfTurnover
  let s := (List.range 64).foldl (fun s f => s.fdrTurnover f) s
  let s := (List.range 32).foldl (fun s k => ((s.pfStage k).capEnd k).spurTurnover k) s
  s.rotTurnover

/-- The blocks that run after the control functions (R193, R290, R302, R304, R334, R346, R439, R71). -/
def State.serviceTurnover (s : State) : State :=
  let s := s.testTurnover.metTurnover.rollUp.publishAll
  let s := s.softTurnover.actTurnover
  s.healthTurnover.pairTurnover

/-- The turnover of a unit that has halted (R360): its time lines, its claim and its partner's content run on. -/
def State.haltedTurnover (s : State) : State := s.applyStep.applySlew.healthTurnover.pairTurnover

/-- The turnover of R155 of a unit that has started. -/
def State.turnover (s : State) : State :=
  let s := s.ownCommitTurnover.itemsTurnover
  let s := s.applyStep.applySlew.rxnTurnover.injOpen
  let s := (List.range 8).foldl (fun s u => s.traceArm u) s
  let s := s.ctxTurnover
  let s := s.stagesTurnover
  let s := s.copyBank.traceTurnover.controlTurnover
  { s with shf := { s.shf with lat := s.shf.out } }.serviceTurnover

/-- The state `t` of a turnover at boundary `b`: whatever the blocks do, the time lines are those of the boundary, and only WALL is set by
the turnover (R31, R33, R37, R38). -/
def State.onTimeLine (t b : State) : State :=
  { t with time := { b.time with wall := t.time.wall, rem := t.time.rem, step := t.time.step, slew := t.time.slew } }

/-- GAIT_FRAME_TURNOVER (R33, R155, R510). In paddock mode only the time lines run; before the start sequence and in reset there is no
gait-frame grid. -/
def execGaitFrameTurnover (s : State) : Host.Outcome State Fault Refusal :=
  let b := s.nextGait
  if s.runs then .next ((if s.halted then b.haltedTurnover else b.turnover).onTimeLine b)
  else if s.unit.life = .paddock then .next b
  else .next s

end Sys2Proof.Machine
end

