-- ==== Sys2Proof/Machine/Writes.lean ====
section
/-!
DEFINITION. The commands that are accesses of a register with a row of their own: each is the requester's write of the word given, with
the trigger of its row set, or its read.
-/

namespace Sys2Proof.Machine

/-- A word with a trigger bit set. -/
def withBit (v : Word) (i : Nat) : Word := setField v i i 1

/-- A word with an operation code in its OP field. -/
def withOp (v : Word) (n : Nat) : Word := setField v 31 28 n

/-- Addresses at which ST_CTL, PT_CMD and MB_DCTL are reached (R226, R227, R258). -/
def stCtlAddr : Nat := 0x2E4C
def ptCmdAddr : Nat := 0x2D0C
def mbDctlAddr : Nat := 0x3210

/-! ## Any register -/

/-- WIDE_VALUE_READ (R7): a read of any register; the lowest word of a wide value latches the others. -/
def execWideValueRead (p : Port) (a : Addr) (s : State) : Host.Outcome State Fault Refusal :=
  .next (s.hostRead p a.toNat)

/-- REGISTER_WRITE (R4, R5, R399, R467): a write of any register. -/
def execRegisterWrite (p : Port) (a : Addr) (v : Word) (s : State) : Host.Outcome State Fault Refusal :=
  .next (s.hostWrite p a.toNat v)

/-- SHD_WRITE (R4, R74, R76): a write of a register with SHD fields. -/
def execShdWrite (p : Port) (a : Addr) (v : Word) (s : State) : Host.Outcome State Fault Refusal :=
  .next (s.hostWrite p a.toNat v)

/-! ## System and time -/

/-- WALL_STEP (R37). -/
def execWallStep (p : Port) (v : Word) (s : State) : Host.Outcome State Fault Refusal :=
  .next (s.hostWrite p Reg.TIM_WALLCTL (withBit v 31))

/-- WALL_SLEW (R38). -/
def execWallSlew (p : Port) (v : Word) (s : State) : Host.Outcome State Fault Refusal :=
  .next (s.hostWrite p Reg.TIM_WALLCTL (withBit v 30))

/-- CAPTURE_READ (R47). -/
def execCaptureRead (p : Port) (n : Fin 8) (s : State) : Host.Outcome State Fault Refusal :=
  .next (s.hostRead p (Reg.TIM_CAP_LO n))

/-- COMMIT_REQUEST (R74): DISCARD is clear. -/
def execCommitRequest (p : Port) (v : Word) (s : State) : Host.Outcome State Fault Refusal :=
  .next (s.hostWrite p Reg.SYS_COMMIT (setField v 31 31 0))

/-- COMMIT_DISCARD (R74). -/
def execCommitDiscard (p : Port) (v : Word) (s : State) : Host.Outcome State Fault Refusal :=
  .next (s.hostWrite p Reg.SYS_COMMIT (withBit v 31))

/-- PADDOCK_START (R81). -/
def execPaddockStart (p : Port) (v : Word) (s : State) : Host.Outcome State Fault Refusal :=
  .next (s.hostWrite p Reg.BOOT_PDK_CTL (withBit v 31))

/-- PADDOCK_DATA (R81). -/
def execPaddockData (p : Port) (v : Word) (s : State) : Host.Outcome State Fault Refusal :=
  .next (s.hostWrite p Reg.BOOT_PDK_DATA v)

/-- TOKEN_REQUEST (R348, R349, R353). -/
def execTokenRequest (p : Port) (v : Word) (s : State) : Host.Outcome State Fault Refusal :=
  .next (s.hostWrite p Reg.SYS_TOKREQ (withBit v 31))

/-- TOKEN_RELEASE (R348, R353). -/
def execTokenRelease (p : Port) (v : Word) (s : State) : Host.Outcome State Fault Refusal :=
  .next (s.hostWrite p Reg.SYS_TOKREQ (withBit v 30))

/-- REMOUNT_NOW (R347). -/
def execRemountNow (p : Port) (v : Word) (s : State) : Host.Outcome State Fault Refusal :=
  .next (s.hostWrite p Reg.PAIR_CTL (withBit v 31))

/-- PAIR_OOS (R334). -/
def execPairOos (p : Port) (v : Word) (s : State) : Host.Outcome State Fault Refusal :=
  .next (s.hostWrite p Reg.PAIR_CTL (withBit v 30))

/-! ## Links, loop engine and context window -/

/-- LINK_RETRAIN (R131). -/
def execLinkRetrain (p : Port) (n : Fin 16) (v : Word) (s : State) : Host.Outcome State Fault Refusal :=
  .next (s.hostWrite p (Reg.LNK_CTL n) (withBit v 31))

/-- LINK_ENABLE (R131): RETRAIN is clear. -/
def execLinkEnable (p : Port) (n : Fin 16) (v : Word) (s : State) : Host.Outcome State Fault Refusal :=
  .next (s.hostWrite p (Reg.LNK_CTL n) (setField v 31 31 0))

/-- HREG_WRITE (R133). -/
def execHregWrite (p : Port) (n : Fin 16) (v : Word) (s : State) : Host.Outcome State Fault Refusal :=
  .next (s.hostWrite p (Reg.LNK_HREG_CTL n) (setField (withBit v 31) 30 30 0))

/-- HREG_READ (R133). -/
def execHregRead (p : Port) (n : Fin 16) (v : Word) (s : State) : Host.Outcome State Fault Refusal :=
  .next (s.hostWrite p (Reg.LNK_HREG_CTL n) (withBit (withBit v 31) 30))

/-- LANE_TEST_START (R139). -/
def execLaneTestStart (p : Port) (v : Word) (s : State) : Host.Outcome State Fault Refusal :=
  .next (s.hostWrite p Reg.LE_LSTEST (withBit v 31))

/-- LE_CHECK (R164). -/
def execLeCheck (p : Port) (v : Word) (s : State) : Host.Outcome State Fault Refusal :=
  .next (s.hostWrite p Reg.LE_CHECK (withBit v 31))

/-- SCHED_ENTRY_ACCESS (R163): a read, or a write of the word given, of LE_SENT1. -/
def execSchedEntryAccess (p : Port) (v : Option Word) (s : State) : Host.Outcome State Fault Refusal :=
  match v with
  | some w => .next (s.hostWrite p sent1Addr w)
  | none => .next (s.hostRead p sent1Addr)

/-- CONTEXT_WINDOW_WRITE (R172): a write of the CW_DATA word at this offset. -/
def execContextWindowWrite (p : Port) (a : Addr) (v : Word) (s : State) : Host.Outcome State Fault Refusal :=
  .next (s.hostWrite p (0x2500 + a.toNat % 256) v)

/-- SETSTATE (R176). -/
def execSetstate (p : Port) (v : Word) (s : State) : Host.Outcome State Fault Refusal :=
  .next (s.hostWrite p Reg.CW_CMD (withOp v 1))

/-- HANDOVER (R189). -/
def execHandover (p : Port) (v : Word) (s : State) : Host.Outcome State Fault Refusal :=
  .next (s.hostWrite p Reg.CW_CMD (withOp v 2))

/-- TRACE_ARM (R193). -/
def execTraceArm (p : Port) (u : Fin 8) (v : Word) (s : State) : Host.Outcome State Fault Refusal :=
  .next (s.hostWrite p (Reg.TRC_CTL u) (withBit v 31))

/-- TRACE_STOP (R195). -/
def execTraceStop (p : Port) (u : Fin 8) (v : Word) (s : State) : Host.Outcome State Fault Refusal :=
  .next (s.hostWrite p (Reg.TRC_CTL u) (withBit v 30))

/-- TRACE_FORCE (R194). -/
def execTraceForce (p : Port) (u : Fin 8) (v : Word) (s : State) : Host.Outcome State Fault Refusal :=
  .next (s.hostWrite p (Reg.TRC_CTL u) (withBit v 29))

/-- TRACE_DATA_READ (R196). -/
def execTraceDataRead (p : Port) (u : Fin 8) (s : State) : Host.Outcome State Fault Refusal :=
  .next (s.hostRead p (Reg.TRC_RDATA u))

/-! ## Phases, stages, shelf functions and feeders -/

/-- KILL_RELEASE (R206). -/
def execKillRelease (p : Port) (v : Word) (s : State) : Host.Outcome State Fault Refusal :=
  .next (s.hostWrite p Reg.PHS_CMD (withBit v 31))

/-- STAGE_START_COMMAND (R211): for the stage that SW_IDX selects. -/
def execStageStartCommand (p : Port) (v : Word) (s : State) : Host.Outcome State Fault Refusal :=
  .next (s.hostWrite p stCtlAddr (setField v 1 0 1))

/-- STAGE_STOP_COMMAND (R211): for the stage that SW_IDX selects. -/
def execStageStopCommand (p : Port) (v : Word) (s : State) : Host.Outcome State Fault Refusal :=
  .next (s.hostWrite p stCtlAddr (setField v 1 0 2))

/-- STAGE_CLEAR_COMMAND (R211): for the stage that SW_IDX selects. -/
def execStageClearCommand (p : Port) (v : Word) (s : State) : Host.Outcome State Fault Refusal :=
  .next (s.hostWrite p stCtlAddr (setField v 1 0 3))

/-- PHASE_REVIVE (R223): for the phase that PW_IDX selects. -/
def execPhaseRevive (p : Port) (v : Word) (s : State) : Host.Outcome State Fault Refusal :=
  .next (s.hostWrite p ptCmdAddr (withBit v 31))

/-- STRING_RECONNECT (R243): for each string whose RECONN bit is set. -/
def execStringReconnect (p : Port) (v : Word) (s : State) : Host.Outcome State Fault Refusal :=
  .next (s.hostWrite p Reg.SHF_CMD v)

/-- DECISION_SUBMIT (R255): for the mailbox that MB_SEL selects. -/
def execDecisionSubmit (p : Port) (v : Word) (s : State) : Host.Outcome State Fault Refusal :=
  .next (s.hostWrite p mbDctlAddr (withBit v 31))

/-- FEEDER_SNAP (R277). -/
def execFeederSnap (p : Port) (f : Fin 64) (v : Word) (s : State) : Host.Outcome State Fault Refusal :=
  .next (s.hostWrite p (Reg.FDR_CTL f) (withBit v 31))

/-! ## Measurement -/

/-- SEQGO (R288). -/
def execSeqgo (p : Port) (v : Word) (s : State) : Host.Outcome State Fault Refusal :=
  .next (s.hostWrite p Reg.ADC_SEQGO v)

/-- TEST_DAC_WRITE (R290). -/
def execTestDacWrite (p : Port) (v : Word) (s : State) : Host.Outcome State Fault Refusal :=
  .next (s.hostWrite p Reg.ADC_TDAC v)

/-- HEAD_TEST_WRITE (R291). -/
def execHeadTestWrite (p : Port) (v : Word) (s : State) : Host.Outcome State Fault Refusal :=
  .next (s.hostWrite p Reg.ADC_HTEST v)

/-- CAL_ZERO (R295). -/
def execCalZero (p : Port) (v : Word) (s : State) : Host.Outcome State Fault Refusal :=
  .next (s.hostWrite p Reg.CAL_CMD (withOp v 1))

/-- CAL_FS (R295). -/
def execCalFs (p : Port) (v : Word) (s : State) : Host.Outcome State Fault Refusal :=
  .next (s.hostWrite p Reg.CAL_CMD (withOp v 2))

/-- CAL_ABORT (R295). -/
def execCalAbort (p : Port) (v : Word) (s : State) : Host.Outcome State Fault Refusal :=
  .next (s.hostWrite p Reg.CAL_CMD (withOp v 3))

/-- METER_SNAP (R302). -/
def execMeterSnap (p : Port) (v : Word) (s : State) : Host.Outcome State Fault Refusal :=
  .next (s.hostWrite p Reg.MET_CTL (withBit v 31))

/-! ## Faults, events and injection -/

/-- FAULT_RELEASE (R367). -/
def execFaultRelease (p : Port) (v : Word) (s : State) : Host.Outcome State Fault Refusal :=
  .next (s.hostWrite p Reg.FLT_RELEASE v)

/-- EVENT_CLEAR (R372). -/
def execEventClear (p : Port) (i : Fin 8) (v : Word) (s : State) : Host.Outcome State Fault Refusal :=
  .next (s.hostWrite p (Reg.EVT_PEND i) v)

/-- INJ_UNLOCK (R374): one of the two writes. -/
def execInjUnlock (p : Port) (v : Word) (s : State) : Host.Outcome State Fault Refusal :=
  .next (s.hostWrite p Reg.INJ_KEY v)

/-- INJ_LOCK (R374). -/
def execInjLock (p : Port) (v : Word) (s : State) : Host.Outcome State Fault Refusal :=
  .next (s.hostWrite p Reg.INJ_LOCK (withBit v 31))

/-- LINK_INJECTION (R375). -/
def execLinkInjection (p : Port) (v : Word) (s : State) : Host.Outcome State Fault Refusal :=
  .next (s.hostWrite p Reg.INJ_LCTL (withBit v 31))

/-- ECC_INJECTION_ARM (R376). -/
def execEccInjectionArm (p : Port) (v : Word) (s : State) : Host.Outcome State Fault Refusal :=
  .next (s.hostWrite p Reg.INJ_ECTL (withBit v 31))

/-- LANE_INJECTION_ARM (R377). -/
def execLaneInjectionArm (p : Port) (v : Word) (s : State) : Host.Outcome State Fault Refusal :=
  .next (s.hostWrite p Reg.INJ_LANE (withBit v 31))

/-- FAULT_MESSAGE_INJECTION (R378). -/
def execFaultMessageInjection (p : Port) (v : Word) (s : State) : Host.Outcome State Fault Refusal :=
  .next (s.hostWrite p Reg.INJ_FMGO (withBit v 31))

/-! ## Records, update and window -/

/-- RECORD_SELECT (R394). -/
def execRecordSelect (p : Port) (v : Word) (s : State) : Host.Outcome State Fault Refusal :=
  .next (s.hostWrite p Reg.EVR_RSEL v)

/-- RECORD_DATA_READ (R394). -/
def execRecordDataRead (p : Port) (s : State) : Host.Outcome State Fault Refusal :=
  .next (s.hostRead p Reg.EVR_RDATA)

/-- SADDLEBAG_SELECT (R403). -/
def execSaddlebagSelect (p : Port) (v : Word) (s : State) : Host.Outcome State Fault Refusal :=
  .next (s.hostWrite p Reg.SBG_SEL v)

/-- SADDLEBAG_DATA_READ (R403). -/
def execSaddlebagDataRead (p : Port) (s : State) : Host.Outcome State Fault Refusal :=
  .next (s.hostRead p Reg.SBG_RDATA)

/-- SADDLEBAG_CLEAR (R403). -/
def execSaddlebagClear (p : Port) (v : Word) (s : State) : Host.Outcome State Fault Refusal :=
  .next (s.hostWrite p Reg.SBG_ACK (withBit v 31))

/-- SADDLEBAG_CLEAR_ALL (R403). -/
def execSaddlebagClearAll (p : Port) (v : Word) (s : State) : Host.Outcome State Fault Refusal :=
  .next (s.hostWrite p Reg.SBG_ACK (withBit v 30))

/-- UPD_OPEN (R435). -/
def execUpdOpen (p : Port) (v : Word) (s : State) : Host.Outcome State Fault Refusal :=
  .next (s.hostWrite p Reg.UPD_CTL (withOp v 1))

/-- UPD_DATA (R437). -/
def execUpdData (p : Port) (v : Word) (s : State) : Host.Outcome State Fault Refusal :=
  .next (s.hostWrite p Reg.UPD_DATA v)

/-- UPD_ACTIVATE (R439). -/
def execUpdActivate (p : Port) (v : Word) (s : State) : Host.Outcome State Fault Refusal :=
  .next (s.hostWrite p Reg.UPD_CTL (withOp v 2))

/-- UPD_ABORT (R438). -/
def execUpdAbort (p : Port) (v : Word) (s : State) : Host.Outcome State Fault Refusal :=
  .next (s.hostWrite p Reg.UPD_CTL (withOp v 3))

/-- UPD_FALLBACK (R441). -/
def execUpdFallback (p : Port) (v : Word) (s : State) : Host.Outcome State Fault Refusal :=
  .next (s.hostWrite p Reg.UPD_CTL (withOp v 4))

/-- WINDOW_SELECT (R460). -/
def execWindowSelect (p : Port) (v : Word) (s : State) : Host.Outcome State Fault Refusal :=
  .next (s.hostWrite p Reg.WIN_SEL v)

/-- WINDOW_DATA_READ (R460). -/
def execWindowDataRead (p : Port) (s : State) : Host.Outcome State Fault Refusal :=
  .next (s.hostRead p Reg.WIN_DATA)

end Sys2Proof.Machine
end

