-- ==== Sys2Proof/Machine/Dispatch.lean ====
section
/-!
DEFINITION. One arm per command: each is one call of the command's meaning.
-/

namespace Sys2Proof.Machine

def exec (i : Instr) (s : State) : Host.Outcome State Fault Refusal :=
  match i with
  | .powerOn env => Sys2Proof.Machine.execPowerOn env s
  | .powerFail => Sys2Proof.Machine.execPowerFail s
  | .resetAssert => Sys2Proof.Machine.execResetAssert s
  | .resetRelease env => Sys2Proof.Machine.execResetRelease env s
  | .softwareReset p v env => Sys2Proof.Machine.execSoftwareReset p v env s
  | .wideValueRead p a => Sys2Proof.Machine.execWideValueRead p a s
  | .registerWrite p a v => Sys2Proof.Machine.execRegisterWrite p a v s
  | .shdWrite p a v => Sys2Proof.Machine.execShdWrite p a v s
  | .gaitFrameTurnover => Sys2Proof.Machine.execGaitFrameTurnover s
  | .clkLoss ref pll => Sys2Proof.Machine.execClkLoss ref pll s
  | .clkFreq count => Sys2Proof.Machine.execClkFreq count s
  | .wallStep p v => Sys2Proof.Machine.execWallStep p v s
  | .wallSlew p v => Sys2Proof.Machine.execWallSlew p v s
  | .captureEdge src rising => Sys2Proof.Machine.execCaptureEdge src rising s
  | .captureRead p n => Sys2Proof.Machine.execCaptureRead p n s
  | .softstartEntry => Sys2Proof.Machine.execSoftstartEntry s
  | .softstartTimeout => Sys2Proof.Machine.execSoftstartTimeout s
  | .commitRequest p v => Sys2Proof.Machine.execCommitRequest p v s
  | .commitDiscard p v => Sys2Proof.Machine.execCommitDiscard p v s
  | .commitChecksDone => Sys2Proof.Machine.execCommitChecksDone s
  | .paddockStart p v => Sys2Proof.Machine.execPaddockStart p v s
  | .paddockData p v => Sys2Proof.Machine.execPaddockData p v s
  | .paddockPageDone => Sys2Proof.Machine.execPaddockPageDone s
  | .paddockDownloadDone cr tack => Sys2Proof.Machine.execPaddockDownloadDone cr tack s
  | .paddockSessionExpiry => Sys2Proof.Machine.execPaddockSessionExpiry s
  | .fwWatchdogExpiry => Sys2Proof.Machine.execFwWatchdogExpiry s
  | .liveRestartComplete lr => Sys2Proof.Machine.execLiveRestartComplete lr s
  | .liveRestartTimeout => Sys2Proof.Machine.execLiveRestartTimeout s
  | .downstreamFrame => Sys2Proof.Machine.execDownstreamFrame s
  | .upstreamFrame n line rtt => Sys2Proof.Machine.execUpstreamFrame n line rtt s
  | .upstreamFrameMissing n => Sys2Proof.Machine.execUpstreamFrameMissing n s
  | .linkDown n cause => Sys2Proof.Machine.execLinkDown n cause s
  | .linkTrainingStep n r => Sys2Proof.Machine.execLinkTrainingStep n r s
  | .controlRequestResend n => Sys2Proof.Machine.execControlRequestResend n s
  | .retrainWaitExpiry n => Sys2Proof.Machine.execRetrainWaitExpiry n s
  | .linkRetrain p n v => Sys2Proof.Machine.execLinkRetrain p n v s
  | .linkEnable p n v => Sys2Proof.Machine.execLinkEnable p n v s
  | .hregWrite p n v => Sys2Proof.Machine.execHregWrite p n v s
  | .hregRead p n v => Sys2Proof.Machine.execHregRead p n v s
  | .loopRun e checkerDiffers => Sys2Proof.Machine.execLoopRun e checkerDiffers s
  | .backgroundLaneTest failing => Sys2Proof.Machine.execBackgroundLaneTest failing s
  | .laneTestStart p v => Sys2Proof.Machine.execLaneTestStart p v s
  | .lstestDone failing => Sys2Proof.Machine.execLstestDone failing s
  | .leCheck p v => Sys2Proof.Machine.execLeCheck p v s
  | .leCheckDone => Sys2Proof.Machine.execLeCheckDone s
  | .schedEntryAccess p v => Sys2Proof.Machine.execSchedEntryAccess p v s
  | .contextWindowWrite p a v => Sys2Proof.Machine.execContextWindowWrite p a v s
  | .setstate p v => Sys2Proof.Machine.execSetstate p v s
  | .handover p v => Sys2Proof.Machine.execHandover p v s
  | .traceArm p u v => Sys2Proof.Machine.execTraceArm p u v s
  | .traceStop p u v => Sys2Proof.Machine.execTraceStop p u v s
  | .traceForce p u v => Sys2Proof.Machine.execTraceForce p u v s
  | .traceTick u => Sys2Proof.Machine.execTraceTick u s
  | .traceDone u => Sys2Proof.Machine.execTraceDone u s
  | .traceDataRead p u => Sys2Proof.Machine.execTraceDataRead p u s
  | .localEdge ch => Sys2Proof.Machine.execLocalEdge ch s
  | .stagePeriodStart k => Sys2Proof.Machine.execStagePeriodStart k s
  | .pwmKill => Sys2Proof.Machine.execPwmKill s
  | .killRelease p v => Sys2Proof.Machine.execKillRelease p v s
  | .stageStartCommand p v => Sys2Proof.Machine.execStageStartCommand p v s
  | .stageStopCommand p v => Sys2Proof.Machine.execStageStopCommand p v s
  | .stageClearCommand p v => Sys2Proof.Machine.execStageClearCommand p v s
  | .phaseRevive p v => Sys2Proof.Machine.execPhaseRevive p v s
  | .spurEnd k => Sys2Proof.Machine.execSpurEnd k s
  | .spurLockoutEnd k => Sys2Proof.Machine.execSpurLockoutEnd k s
  | .phaseFailed ph => Sys2Proof.Machine.execPhaseFailed ph s
  | .moduleInputFailed m => Sys2Proof.Machine.execModuleInputFailed m s
  | .moduleInputRestored m => Sys2Proof.Machine.execModuleInputRestored m s
  | .busDroop => Sys2Proof.Machine.execBusDroop s
  | .moduleShed => Sys2Proof.Machine.execModuleShed s
  | .holdupRecover => Sys2Proof.Machine.execHoldupRecover s
  | .holdupEnd => Sys2Proof.Machine.execHoldupEnd s
  | .chargeResume => Sys2Proof.Machine.execChargeResume s
  | .cvToFloat b => Sys2Proof.Machine.execCvToFloat b s
  | .battEod b => Sys2Proof.Machine.execBattEod b s
  | .stringReconnect p v => Sys2Proof.Machine.execStringReconnect p v s
  | .stringPrechargeDone b => Sys2Proof.Machine.execStringPrechargeDone b s
  | .phaseDrop k => Sys2Proof.Machine.execPhaseDrop k s
  | .pgTimeout k => Sys2Proof.Machine.execPgTimeout k s
  | .pgAssert g => Sys2Proof.Machine.execPgAssert g s
  | .decisionSubmit p v => Sys2Proof.Machine.execDecisionSubmit p v s
  | .feederFastTrip f => Sys2Proof.Machine.execFeederFastTrip f s
  | .feederInrushTimeout f => Sys2Proof.Machine.execFeederInrushTimeout f s
  | .feederToggleDone f => Sys2Proof.Machine.execFeederToggleDone f s
  | .feederSnap p f v => Sys2Proof.Machine.execFeederSnap p f v s
  | .precisionResult c raw => Sys2Proof.Machine.execPrecisionResult c raw s
  | .sarResult core raw => Sys2Proof.Machine.execSarResult core raw s
  | .sequenceTrigger core => Sys2Proof.Machine.execSequenceTrigger core s
  | .seqgo p v => Sys2Proof.Machine.execSeqgo p v s
  | .rotationStepStart => Sys2Proof.Machine.execRotationStepStart s
  | .rotationCheckDone k => Sys2Proof.Machine.execRotationCheckDone k s
  | .testDacWrite p v => Sys2Proof.Machine.execTestDacWrite p v s
  | .headTestWrite p v => Sys2Proof.Machine.execHeadTestWrite p v s
  | .calZero p v => Sys2Proof.Machine.execCalZero p v s
  | .calFs p v => Sys2Proof.Machine.execCalFs p v s
  | .calAbort p v => Sys2Proof.Machine.execCalAbort p v s
  | .calAverageDone => Sys2Proof.Machine.execCalAverageDone s
  | .calStaleTimeout => Sys2Proof.Machine.execCalStaleTimeout s
  | .calRecordWriteDone ok => Sys2Proof.Machine.execCalRecordWriteDone ok s
  | .meterSnap p v => Sys2Proof.Machine.execMeterSnap p v s
  | .wmonEntry m => Sys2Proof.Machine.execWmonEntry m s
  | .comparatorTick codes failing => Sys2Proof.Machine.execComparatorTick codes failing s
  | .cmpFailed k => Sys2Proof.Machine.execCmpFailed k s
  | .hkSlotDecision slot value => Sys2Proof.Machine.execHkSlotDecision slot value s
  | .hkSensor => Sys2Proof.Machine.execHkSensor s
  | .hkCheck slot => Sys2Proof.Machine.execHkCheck slot s
  | .thermWarn => Sys2Proof.Machine.execThermWarn s
  | .thermWarnClear => Sys2Proof.Machine.execThermWarnClear s
  | .thermShut => Sys2Proof.Machine.execThermShut s
  | .thermRate long => Sys2Proof.Machine.execThermRate long s
  | .hkSupply slot => Sys2Proof.Machine.execHkSupply slot s
  | .tandemFrame lane line arrival content => Sys2Proof.Machine.execTandemFrame lane line arrival content s
  | .tandemDown => Sys2Proof.Machine.execTandemDown s
  | .takeover => Sys2Proof.Machine.execTakeover s
  | .claimInChange level => Sys2Proof.Machine.execClaimInChange level s
  | .claimInWaitExpiry => Sys2Proof.Machine.execClaimInWaitExpiry s
  | .dualActive => Sys2Proof.Machine.execDualActive s
  | .syncPhaseDone => Sys2Proof.Machine.execSyncPhaseDone s
  | .syncFail => Sys2Proof.Machine.execSyncFail s
  | .syncGroupCopy g => Sys2Proof.Machine.execSyncGroupCopy g s
  | .resolutionTimeout => Sys2Proof.Machine.execResolutionTimeout s
  | .remountNow p v => Sys2Proof.Machine.execRemountNow p v s
  | .remountTimer => Sys2Proof.Machine.execRemountTimer s
  | .remountRetry => Sys2Proof.Machine.execRemountRetry s
  | .swapOrder => Sys2Proof.Machine.execSwapOrder s
  | .roleSwap => Sys2Proof.Machine.execRoleSwap s
  | .remountDwellEnd => Sys2Proof.Machine.execRemountDwellEnd s
  | .revertTakeback => Sys2Proof.Machine.execRevertTakeback s
  | .healthRemount => Sys2Proof.Machine.execHealthRemount s
  | .pairOos p v => Sys2Proof.Machine.execPairOos p v s
  | .tokenRequest p v => Sys2Proof.Machine.execTokenRequest p v s
  | .tokenRelease p v => Sys2Proof.Machine.execTokenRelease p v s
  | .maintExpired => Sys2Proof.Machine.execMaintExpired s
  | .faultClassify => Sys2Proof.Machine.execFaultClassify s
  | .faultFollowUp scope inst => Sys2Proof.Machine.execFaultFollowUp scope inst s
  | .retryCountClear scope inst => Sys2Proof.Machine.execRetryCountClear scope inst s
  | .faultRelease p v => Sys2Proof.Machine.execFaultRelease p v s
  | .faultMinTimeEnd => Sys2Proof.Machine.execFaultMinTimeEnd s
  | .scrubRead region addr => Sys2Proof.Machine.execScrubRead region addr s
  | .eventRaise src => Sys2Proof.Machine.execEventRaise src s
  | .eventClear p n v => Sys2Proof.Machine.execEventClear p n v s
  | .injUnlock p v => Sys2Proof.Machine.execInjUnlock p v s
  | .injLock p v => Sys2Proof.Machine.execInjLock p v s
  | .injIdleLock => Sys2Proof.Machine.execInjIdleLock s
  | .linkInjection p v => Sys2Proof.Machine.execLinkInjection p v s
  | .eccInjectionArm p v => Sys2Proof.Machine.execEccInjectionArm p v s
  | .laneInjectionArm p v => Sys2Proof.Machine.execLaneInjectionArm p v s
  | .faultMessageInjection p v => Sys2Proof.Machine.execFaultMessageInjection p v s
  | .recordOffer => Sys2Proof.Machine.execRecordOffer s
  | .recordStore => Sys2Proof.Machine.execRecordStore s
  | .logMirror => Sys2Proof.Machine.execLogMirror s
  | .recordSelect p v => Sys2Proof.Machine.execRecordSelect p v s
  | .recordSelectDone p => Sys2Proof.Machine.execRecordSelectDone p s
  | .recordDataRead p => Sys2Proof.Machine.execRecordDataRead p s
  | .saddlebagWrite => Sys2Proof.Machine.execSaddlebagWrite s
  | .saddlebagSelect p v => Sys2Proof.Machine.execSaddlebagSelect p v s
  | .saddlebagDataRead p => Sys2Proof.Machine.execSaddlebagDataRead p s
  | .saddlebagClear p v => Sys2Proof.Machine.execSaddlebagClear p v s
  | .saddlebagClearAll p v => Sys2Proof.Machine.execSaddlebagClearAll p v s
  | .smbusStart => Sys2Proof.Machine.execSmbusStart s
  | .smbusAddress b => Sys2Proof.Machine.execSmbusAddress b s
  | .smbusWriteByte b => Sys2Proof.Machine.execSmbusWriteByte b s
  | .smbusReadByte lost ack => Sys2Proof.Machine.execSmbusReadByte lost ack s
  | .smbusStop => Sys2Proof.Machine.execSmbusStop s
  | .smbusTimeout => Sys2Proof.Machine.execSmbusTimeout s
  | .alertResponse lost => Sys2Proof.Machine.execAlertResponse lost s
  | .spiFrameStart mode3 => Sys2Proof.Machine.execSpiFrameStart mode3 s
  | .spiWrite crc a bytes => Sys2Proof.Machine.execSpiWrite crc a bytes s
  | .spiRead crc a n => Sys2Proof.Machine.execSpiRead crc a n s
  | .spiWriteFixed crc a bytes => Sys2Proof.Machine.execSpiWriteFixed crc a bytes s
  | .spiReadFixed crc a n => Sys2Proof.Machine.execSpiReadFixed crc a n s
  | .spiStatus crc n => Sys2Proof.Machine.execSpiStatus crc n s
  | .spiRefused op => Sys2Proof.Machine.execSpiRefused op s
  | .spiFrameEnd => Sys2Proof.Machine.execSpiFrameEnd s
  | .updOpen p v => Sys2Proof.Machine.execUpdOpen p v s
  | .updData p v => Sys2Proof.Machine.execUpdData p v s
  | .updHeaderCheck p signerOk => Sys2Proof.Machine.execUpdHeaderCheck p signerOk s
  | .updPageProgrammed => Sys2Proof.Machine.execUpdPageProgrammed s
  | .updVerifyDone cr tack => Sys2Proof.Machine.execUpdVerifyDone cr tack s
  | .updActivate p v => Sys2Proof.Machine.execUpdActivate p v s
  | .updAbort p v => Sys2Proof.Machine.execUpdAbort p v s
  | .updFallback p v => Sys2Proof.Machine.execUpdFallback p v s
  | .updExpired => Sys2Proof.Machine.execUpdExpired s
  | .fwConfirmed => Sys2Proof.Machine.execFwConfirmed s
  | .fwConfirmTimeout => Sys2Proof.Machine.execFwConfirmTimeout s
  | .overlayWrite => Sys2Proof.Machine.execOverlayWrite s
  | .windowSelect p v => Sys2Proof.Machine.execWindowSelect p v s
  | .windowDataRead p => Sys2Proof.Machine.execWindowDataRead p s
  | .pwmKillDeassert => Sys2Proof.Machine.execPwmKillDeassert s
  | .tandemWaitExpiry => Sys2Proof.Machine.execTandemWaitExpiry s
  | .fltLifeconFlush => Sys2Proof.Machine.execFltLifeconFlush s

end Sys2Proof.Machine
end

