-- ==== Sys2Proof/Machine/Tap.lean ====
section
/-!
DEFINITION. The test access port (R3, R483): which access a part grants, which balls have a boundary-scan cell, and what the kill input
does to a channel under scan control. The port follows IEEE 1149.1; no command of the part reaches it (log entry 109).
-/

namespace Sys2Proof.Machine

/-- The balls of R477, those of links, analog inputs, clocks and supplies as one kind each. -/
inductive Ball where
  | resetN | faultN | intN | alertN | scl | sda | addr (i : Fin 3) | spiSck | spiCsN | spiMosi | spiMiso | qspiSck | qspiCsN
  | qspiIo (i : Fin 4) | unitId | pairEn | paddockN | claimOut | claimIn | tck | trstN | tms | tdi | tdo | testmode
  | pwmA (n : Fin 16) | pwmB (n : Fin 16) | pwmKillN | pg (i : Fin 4) | shelfEn | gpio (i : Fin 24)
  | linkLane | analog | clock | supply
  deriving DecidableEq, Repr

/-- The VDDIO bank of a ball (R477); none where its levels depend on no bank. -/
def Ball.bank : Ball → Option Nat
  | .linkLane | .analog | .clock | .supply => none
  | .pwmA _ | .pwmB _ | .pwmKillN => some 1
  | .pg _ | .shelfEn | .gpio _ => some 2
  | _ => some 0

/-- Whether a ball has a boundary-scan cell (R483): every ball of banks 0 to 2 but those of the port, TESTMODE and RESET#. -/
def Ball.scanCell (b : Ball) : Bool :=
  match b with
  | .tck | .tms | .tdi | .tdo | .trstN | .testmode | .resetN => false
  | _ => b.bank.isSome

/-- What is asked of the test access port. -/
inductive TapAccess where
  | boundaryScan | debug
  deriving DecidableEq, Repr

/-- Whether the port grants an access (R3, R483): a sealed part refuses debug access; boundary scan remains. -/
def State.tapGrants (s : State) : TapAccess → Bool
  | .boundaryScan => true
  | .debug => !s.unit.sealed

/-- TRST# low, Test-Logic-Reset (R483): no effect on device function. -/
def State.tapReset (s : State) : State := s

/-- The pin level of a local output whose channel is forced (R205): none is high-impedance. -/
def safeLevel (safe : Nat) : Option Bool :=
  match safe with
  | 0 => some false
  | 1 => some true
  | _ => none

/-- The level of PWMnA (`side` 0) or PWMnB (`side` 1) while boundary scan drives it with `drive` (R483): an asserted PWM_KILL# overrides
the scan with the safe state of the last boot commit, or high-impedance before one. -/
def State.scannedPwm (s : State) (n side : Nat) (drive : Option Bool) : Option Bool :=
  if s.bit Reg.PHS_STAT 31 then
    (if s.unit.booted then safeLevel (s.fld (Reg.EDG_CFG n) (2 * side + 1) (2 * side)) else none)
  else drive

end Sys2Proof.Machine
end

