-- ==== Sys2Proof/Safety.lean ====
section
/-!
DEFINITION. What counts as a safe run, and the words in which the claims are made: what it means that a command completes, raises an
event, reports a fault or leaves registers and memory alone, and the outputs' safe states of R55.
-/

namespace Sys2Proof.Machine

/-! ## What a command leaves -/

/-- The command answers a next state, which holds `P`. -/
def Completes (c : Instr) (s : State) (P : State → Prop) : Prop := ∃ t, exec c s = .next t ∧ P t

/-- The event has been raised between `s` and `t`: its pulse waits in crossing 3 of R44, unless its source's counter was full (R42). -/
def Raised (s t : State) (e : Ev) : Prop := s.pulseFits e.src = true → ∃ p ∈ t.evq, p.ev = e

/-- A fault message of kind index `k` with this instance and address waits in the collector's input queue (R355, R356). -/
def Reported (t : State) (k inst addr : Nat) : Prop :=
  ∃ m ∈ t.flt.inq, 64 * m.src + m.kind = fltKindWord k % 65536 ∧ m.inst = inst % 128 ∧ m.addr = addr % 2 ^ 32

/-- Registers that any command may touch beside its own effect: TIM_CDCDROP and EVT_CDCOVFi when the crossing of events
is full (R42), FLT_DROP when the collector's queue is full (R356), HST_RSVWR when a write sets a reserved bit (R5), and the count
of waiting window items, CW_STAT.PEND (R171). -/
def sideReg (a : Nat) : Bool :=
  a == Reg.TIM_CDCDROP || (decide (0x340 ≤ a) && decide (a < 0x360)) || a == Reg.FLT_DROP ||
    a == Reg.HST_RSVWR || a == Reg.CW_STAT

/-- Every register outside `w` and the side registers, all of the shadow bank and every byte of context RAM are as before. -/
def Keeps (s t : State) (w : List Nat) : Prop :=
  (∀ a, a ∉ w → sideReg a = false → t.rd a = s.rd a) ∧ (∀ a, t.srd a = s.srd a) ∧ ∀ a, t.mem8 a = s.mem8 a

/-- A write that follows R173 acts at once: the unit is alone or active, and no standby syncs. -/
def State.actsNow (s : State) : Bool := !s.notActiveInPair && !s.forwards

/-- A plain register address: a whole word below the windows of memory, outside CW_DATA and LE_SENT1. -/
def plainAddr (a : Nat) : Bool := a % 4 == 0 && decide (a < 0xF080) && !within a 0x2500 0x2600 && a != sent1Addr

/-! ## The safe states of R55 -/

/-- The unit is off or in reset (R55, R56). -/
def State.held (s : State) : Bool := decide (s.unit.life = .off) || decide (s.unit.life = .inReset)

/-- No claim, links in electrical idle, SHELF_EN low and every local output in its safe state. -/
def State.outputsAreSafe (s : State) : Bool :=
  !s.unit.claimOut && s.unit.txIdle && !s.unit.shelfEn && s.loc.toList.all (fun c => c.a == .safe && c.b == .safe)

/-- A command that starts the unit, or ends a reset: POWER_ON, RESET_RELEASE. -/
def starts : Instr → Bool
  | .powerOn _ => true
  | .resetRelease _ => true
  | _ => false

/-- A unit that is off or in reset, with no start waiting, holds its outputs in their safe states. -/
def State.heldSafe (s : State) : Bool := s.held && s.outputsAreSafe && s.pending.all (fun c => !starts c)

end Sys2Proof.Machine
end

