-- ==== Sys2Proof/WellFormed.lean ====
section
/-!
DEFINITION. Which commands are well formed: what the environment decides about an event, and the address of an access, as the spec admits
them. The machine gives every command a meaning; an ill-formed one is one that nothing outside the block can send.
-/

namespace Sys2Proof

/-- A byte address of a 32-bit register: a multiple of 4 (R4, R404). -/
def aligned (a : Addr) : Bool := a.toNat % 4 == 0

/-- Whether a command is one that the spec's outside world can send. -/
def Instr.wellFormed : Instr → Bool
  | .wideValueRead _ a => aligned a
  | .registerWrite _ a _ => aligned a
  | .shdWrite _ a _ => aligned a
  | .contextWindowWrite _ a _ => aligned a && decide (0x2500 ≤ a.toNat) && decide (a.toNat < 0x2600)
  | .comparatorTick codes _ => codes.length == 16 && codes.all (fun c => decide (c < 1024))
  | .scrubRead _ addr => addr % 16 == 0
  | .linkTrainingStep _ .shown => true
  | .linkTrainingStep _ .noReply => true
  | .linkTrainingStep n (.partner _ _) => n.val == 16
  | .linkTrainingStep _ _ => false
  | .clkLoss ref pll => ref || pll
  | .spiRefused op => !([0x02, 0x03, 0x0A, 0x0B, 0x05].contains (op.toNat % 128))
  | _ => true

end Sys2Proof
end

