-- ==== Sys2Proof/Certificates/Slice0/Obligations.lean ====
section
/-!
DEFINITION. The claims about the model, for the provers. Each is about the block and its commands: what a command does to the state, where it
completes, and what no command changes.
-/

open Sys2Proof Sys2Proof.Machine

/-! ## The queue and the whole machine -/

/-- A step runs the command at the front of the queue on the state with the queue's rest: what it answers is what `exec` answers. -/
def Obligations.StepRunsFront : Prop :=
  ∀ (c : Instr) (rest : List Instr) (s : State), step { s with pending := c :: rest } = exec c { s with pending := rest }

/-- The model's choice for an empty queue (assumption 3): while the running link frame has a CK_CTL cycle left, one passes. MONO counts
it, and nothing but MONO, the RTC and WALL changes. At the end of the frame's last cycle time waits for the boundary command. -/
def Obligations.IdleStepIsOneCycle : Prop :=
  ∀ s : State, s.pending = [] →
    (s.time.inFrame = true → ∃ t, step s = .next { s with time := t } ∧ t.mono = s.time.mono + 1 ∧ t.fmono = s.time.fmono ∧
      t.gfc = s.time.gfc ∧ t.fcnt = s.time.fcnt ∧ t.lf = s.time.lf ∧ t.grid = s.time.grid ∧ t.gaits = s.time.gaits ∧
      t.step = s.time.step ∧ t.slew = s.time.slew) ∧
    (s.time.inFrame = false → step s = .next s)

/-- No command stops the block: on every state each one answers a next state. -/
def Obligations.EveryCommandAnswersNext : Prop := ∀ (c : Instr) (s : State), ∃ t, exec c s = .next t

/-- What a RESET# assertion leaves before the start sequence: the registers at the values of their tables, shadow and context RAM
clear, nothing pending, no claim, links idle and local outputs safe. -/
def Obligations.ResetLeaves : Prop :=
  State.reset.reg = [] ∧ State.reset.shadow = [] ∧ State.reset.mem = [] ∧ State.reset.pending = [] ∧ State.reset.evq = [] ∧
    State.reset.time.gfc = 0 ∧ State.reset.time.mono = 0 ∧ State.reset.heldSafe = true ∧
    State.reset.rd Reg.TIM_WALLCTL = 0x1F4 ∧ State.reset.rd Reg.MB_SEL = 7 ∧ State.reset.srd 0x20000 = 0x100A00 ∧
    (∀ a, State.reset.mem8 a = 0) ∧ Memory.wf State.reset

/-- THE INVARIANT OF A HELD UNIT. While the unit is off or in reset and no start waits in its queue, no command makes it claim, drive
a link, raise SHELF_EN or take a local output out of its safe state: every step keeps it held with its outputs safe. -/
def Obligations.HeldUnitStaysSafe : Prop :=
  ∀ s t : State, s.heldSafe = true → step s = .next t → t.heldSafe = true

/-! ## Power, reset and start -/

/-- POWER_FAIL and RESET_ASSERT, from any state of a unit that is on: no claim, transmitters in electrical idle, SHELF_EN low and
every local output in its safe state; MONO, the non-volatile registers, the recorder ring and the saddlebag stay. A start with
TESTMODE high on an unsealed part is held before step 1; one with PADDOCK# low enters paddock mode for reason 1. Both hold for a
power-on from any state and for a release of a reset, with no claim, idle transmitters and, after a power-on, MONO at 0. Any other
power-on without a valid boot descriptor enters paddock mode for reason 2, and one that runs is READY. -/
def Obligations.PowerAndStart : Prop :=
  (∀ s : State,
    Completes .powerFail s (fun t => t.unit.life = .off ∧ t.outputsAreSafe = true) ∧
    (s.unit.life ≠ .off → Completes .resetAssert s (fun t =>
      t.unit.life = .inReset ∧ t.outputsAreSafe = true ∧ t.time.mono = s.time.mono ∧ t.evr = s.evr ∧ t.sbg = s.sbg ∧ t.flash = s.flash ∧
      ∀ a, keptReg a = true → t.rd a = s.rd a)) ∧
    (s.unit.life = .off → exec .resetAssert s = .next s)) ∧
  (∀ (env : StartEnv) (s : State),
    (env.testmode = true → s.unit.sealed = false →
      Completes (.powerOn env) s (fun t => t.unit.life = .testHold ∧ t.time.mono = 0 ∧ t.unit.claimOut = false ∧ t.unit.txIdle = true) ∧
      (s.unit.life = .inReset → Completes (.resetRelease env) s (fun t =>
        t.unit.life = .testHold ∧ t.time.mono = s.time.mono ∧ t.unit.claimOut = false ∧ t.unit.txIdle = true))) ∧
    (env.testmode = false → env.paddockN = false →
      Completes (.powerOn env) s (fun t => t.unit.life = .paddock ∧ t.fld Reg.BOOT_STAT 14 12 = 1 ∧ t.bit Reg.SYS_STAT 1 = true ∧
        t.rdN Reg.SYS_RSTCAUSE = 1 ∧ t.unit.unitB = env.unitId ∧ t.unit.pairMode = env.pairEn ∧ t.unit.claimOut = false ∧
        t.unit.txIdle = true ∧ t.time.mono = 0 ∧ t.evr.ring = []) ∧
      (s.unit.life = .inReset → Completes (.resetRelease env) s (fun t => t.unit.life = .paddock ∧ t.fld Reg.BOOT_STAT 14 12 = 1 ∧
        t.bit Reg.SYS_STAT 1 = true ∧ t.rdN Reg.SYS_RSTCAUSE = 2 ^ s.unit.cause % 2 ^ 32 ∧ t.unit.unitB = env.unitId ∧
        t.unit.pairMode = env.pairEn ∧ t.unit.claimOut = false ∧ t.unit.txIdle = true ∧ t.time.mono = s.time.mono ∧
        t.evr.ring = s.evr.ring ∧ t.sbg = s.sbg))) ∧
    ((env.testmode = false ∨ s.unit.sealed = true) → env.paddockN = true → Completes (.powerOn env) s (fun t => t.time.mono = 0 ∧
      (s.flash.desc = none → t.unit.life = .paddock ∧ t.fld Reg.BOOT_STAT 14 12 = 2) ∧
      (t.unit.life = .running → t.bit Reg.SYS_STAT 0 = true ∧ t.unit.booted = true ∧ t.time.gfc = 0))))

/-- SOFTWARE_RESET on a unit that runs with no thermal shutdown latched: the key acts as a RESET# pulse, with its own cause; another
key is ignored and counted in BADKEY. -/
def Obligations.SoftwareResetIsAPulse : Prop :=
  ∀ (p : Port) (env : StartEnv) (s : State), s.runs = true → s.unit.thermLatch = false →
    (∀ v : Word, v &&& 0xFFFF0000 = 0 → fieldOf v 15 0 = 0xD0A1 → ∃ t, exec (.softwareReset p v env) s = .next t ∧
      exec (.resetRelease env) (s.assertReset 2) = .next t ∧ (s.assertReset 2).outputsAreSafe = true ∧
      (s.assertReset 2).unit.life = .inReset ∧ exec .resetAssert s = .next (s.assertReset 1)) ∧
    ∀ v : Word, fieldOf v 15 0 ≠ 0xD0A1 → Completes (.softwareReset p v env) s (fun t =>
      t.fld Reg.SYS_RSTREQ 23 16 = min (s.fld Reg.SYS_RSTREQ 23 16 + 1) 255 ∧ t.unit = s.unit ∧ Keeps s t [Reg.SYS_RSTREQ])

/-! ## Registers, time and captures (R4, R5, R7, R37, R38, R40, R46, R47, R76, R399) -/

/-- REGISTER_WRITE to a register of the map that has no shadow field and starts nothing: each RW bit takes the value written, each W1C
bit that is written 1 clears, a counter field written as 0 clears, and no other bit, register or byte of memory changes. A requester's
own copy of a banked register is the one written. SHD_WRITE: where no commit has the register's group locked, the shadow takes the
word in its SHD fields, and the values in effect stay; where one has, the write is ignored, counted in SYS_SHDLOCKWR and SHD_LOCKED is
raised. -/
def Obligations.RegisterWritesByAccessType : Prop :=
  (∀ (p : Port) (a : Addr) (v : Word) (s : State), s.runs = true → s.mapped a.toNat = true →
    plainAddr a.toNat = true → s.fwBusy p a.toNat = false → ∀ k, s.keyOf p a.toNat = some k → ∀ r, rowOfKey k = some r → r.shd = 0 →
    followsPair k = false → s.writeFixed p k (v &&& word r.known) = none → (sideReg k = false ∨ v &&& ~~~word r.known = 0) →
    Completes (.registerWrite p a v) s (fun t =>
      (r.ctr = [] → ∀ i < 32, t.bit k i =
        if (word r.w1c).getLsbD i && v.getLsbD i then false else if (word r.rw).getLsbD i then v.getLsbD i else s.bit k i) ∧
      (∀ f ∈ r.ctr, t.fld k f.1 f.2 = if fieldOf v f.1 f.2 = 0 then 0 else s.fld k f.1 f.2) ∧
      Keeps s t [k] ∧ t.time = s.time ∧ t.unit = s.unit ∧ t.pending = s.pending)) ∧
  (∀ (p : Port) (a : Addr) (v : Word) (s : State), s.runs = true → s.mapped a.toNat = true →
    plainAddr a.toNat = true → s.fwBusy p a.toNat = false → ∀ k, s.keyOf p a.toNat = some k → ∀ r, rowOfKey k = some r → r.shd ≠ 0 →
    r.rw = 0 → r.w1c = 0 → r.ctr = [] → followsPair k = false → s.writeFixed p k (v &&& word r.known) = none →
    (s.shdLocked k = false → (k < 0x14000 ∨ 0x1C000 ≤ k) → Completes (.shdWrite p a v) s (fun t =>
      t.srd k = (s.srd k &&& ~~~word r.shd) ||| (v &&& word r.known &&& word r.shd) ∧ t.rd k = s.rd k ∧
      (∀ b, b ≠ k → t.srd b = s.srd b) ∧ ∀ b, t.mem8 b = s.mem8 b)) ∧
    (s.shdLocked k = true → Completes (.shdWrite p a v) s (fun t =>
      t.fld Reg.SYS_SHDLOCKWR 15 0 = min (s.fld Reg.SYS_SHDLOCKWR 15 0 + 1) 0xFFFF ∧ Raised s t (E.SHD_LOCKED 0) ∧
      Keeps s t [Reg.SYS_SHDLOCKWR])))

/-- REGISTER_WRITE with ones in reserved bits, by any requester to any address, does what the write without them does; it is counted
in HST_RSVWR, and nothing else differs but the event that it raises. -/
def Obligations.ReservedBitsAreIgnored : Prop :=
  ∀ (p : Port) (a : Addr) (v : Word) (s : State), s.runs = true → a.toNat % 4 = 0 → s.fwBusy p a.toNat = false →
    v &&& ~~~s.knownBits p a.toNat ≠ 0 →
    Completes (.registerWrite p a (v &&& s.knownBits p a.toNat)) s (fun u => Completes (.registerWrite p a v) s (fun t =>
      t.fld Reg.HST_RSVWR 15 0 = min (u.fld Reg.HST_RSVWR 15 0 + 1) 0xFFFF ∧ Raised u t (E.RSV_WRITE 0) ∧
      Keeps u t [Reg.HST_RSVWR] ∧ t.unit = u.unit ∧ t.time = u.time ∧ t.commit = u.commit ∧ t.cwq = u.cwq ∧ t.links = u.links ∧
      t.stg = u.stg ∧ t.phs = u.phs ∧ t.meas = u.meas ∧ t.flt = u.flt ∧ t.evr = u.evr ∧ t.pair = u.pair ∧ t.upd = u.upd))

/-- WIDE_VALUE_READ of TIM_MONO_LO, by any requester in any state of a running unit: the requester gets the low word of MONO, and
every later read of TIM_MONO_HI returns the high word of the same instant, whatever has happened to MONO, until another read of the
low word. -/
def Obligations.MonoReadIsOneInstant : Prop :=
  ∀ (p q : Port) (s : State), s.runs = true →
    Completes (.wideValueRead p 0x110) s (fun t =>
      vget t.readData (portIdx p) 0 = BitVec.setWidth 32 s.time.mono ∧ t.latched q Reg.TIM_MONO_HI = some (BitVec.extractLsb' 32 32 s.time.mono) ∧
      (∀ u : State, u.runs = true → u.latch = t.latch →
        Completes (.wideValueRead q 0x114) u (fun w =>
          vget w.readData (portIdx q) 0 = BitVec.extractLsb' 32 32 s.time.mono ∧ w.latch = u.latch ∧ Keeps u w [])) ∧
      Keeps s t [] ∧ t.time = s.time ∧ t.evq = s.evq)

/-- WALL_STEP and WALL_SLEW on a unit that is alone or active: the step captures the TIM_WSET words and the slew the signed TIM_WSLEW,
each for the next boundary, and RATE is stored; on a standby both are ignored and WALL_REFUSED is raised. -/
def Obligations.WallStepAndSlewCapture : Prop :=
  ∀ (p : Port) (v : Word) (s : State), s.runs = true →
    let words := some (s.fld Reg.TIM_WSET_NS 29 0, s.rdN Reg.TIM_WSET_SLO + 2 ^ 32 * s.fld Reg.TIM_WSET_SHI 15 0)
    let ns := some (signed 32 (s.rdN Reg.TIM_WSLEW))
    (s.notActiveInPair = false →
      Completes (.wallStep p v) s (fun t => t.time = { s.time with step := words, slew := if bitOf v 30 then ns else s.time.slew } ∧
        t.fld Reg.TIM_WALLCTL 9 0 = fieldOf v 9 0 ∧ Keeps s t [Reg.TIM_WALLCTL]) ∧
      Completes (.wallSlew p v) s (fun t => t.time = { s.time with step := if bitOf v 31 then words else s.time.step, slew := ns } ∧
        t.fld Reg.TIM_WALLCTL 9 0 = fieldOf v 9 0 ∧ Keeps s t [Reg.TIM_WALLCTL])) ∧
    (s.notActiveInPair = true →
      Completes (.wallStep p v) s (fun t => t.time = s.time ∧ Raised s t (E.WALL_REFUSED 0) ∧ Keeps s t [Reg.TIM_WALLCTL]) ∧
      Completes (.wallSlew p v) s (fun t => t.time = s.time ∧ Raised s t (E.WALL_REFUSED 0) ∧ Keeps s t [Reg.TIM_WALLCTL]))

/-- A capture sets VALID with MONO and GFC of the edge; an edge that finds VALID set leaves the held capture, sets OVR and raises
CAP_OVERRUN; a read of TIM_CAPn_LO returns it, latches the other words and clears VALID. -/
def Obligations.CaptureHoldsItsFirstEdge : Prop :=
  ∀ (p : Port) (src : Fin 64) (rising : Bool) (n : Fin 8) (s : State), s.runs = true →
    (src.val < 58 → s.fld (Reg.TIM_CAP_CTL n) 5 0 = src → edgeTaken (s.fld (Reg.TIM_CAP_CTL n) 7 6) rising = true →
      (40 ≤ src.val → src.val < 56 → rising = true) →
      (s.bit (Reg.TIM_CAP_CTL n) 30 = false → Completes (.captureEdge src rising) s (fun t =>
        t.bit (Reg.TIM_CAP_CTL n) 30 = true ∧ t.rd (Reg.TIM_CAP_LO n) = BitVec.setWidth 32 s.time.mono ∧
        t.rd (Reg.TIM_CAP_HI n) = BitVec.extractLsb' 32 32 s.time.mono ∧ t.rd (Reg.TIM_CAP_GFC n) = s.time.gfc)) ∧
      (s.bit (Reg.TIM_CAP_CTL n) 30 = true → Completes (.captureEdge src rising) s (fun t =>
        t.bit (Reg.TIM_CAP_CTL n) 30 = true ∧ t.bit (Reg.TIM_CAP_CTL n) 31 = true ∧ t.rd (Reg.TIM_CAP_LO n) = s.rd (Reg.TIM_CAP_LO n) ∧
        t.rd (Reg.TIM_CAP_HI n) = s.rd (Reg.TIM_CAP_HI n) ∧ t.rd (Reg.TIM_CAP_GFC n) = s.rd (Reg.TIM_CAP_GFC n) ∧
        ((s.evq.filter (fun q => q.ev.src = 2)).length ≤ 8 → ∃ q ∈ t.evq, q.ev = E.CAP_OVERRUN n)))) ∧
    Completes (.captureRead p n) s (fun t =>
      vget t.readData (portIdx p) 0 = s.rd (Reg.TIM_CAP_LO n) ∧ t.bit (Reg.TIM_CAP_CTL n) 30 = false ∧
      t.latched p (Reg.TIM_CAP_HI n) = some (s.rd (Reg.TIM_CAP_HI n)) ∧ t.latched p (Reg.TIM_CAP_GFC n) = some (s.rd (Reg.TIM_CAP_GFC n)) ∧
      Keeps s t [Reg.TIM_CAP_CTL n])

/-! ## The gait frame and the link frame (R31, R33, R155, R510) -/

/-- GAIT_FRAME_TURNOVER, in every state of a unit that runs, halted or not, and in paddock mode: GFC counts one, the link-frame count
of the gait frame starts again, the boundary lies a whole number of link frames of 40 CK_CTL cycles after the start of the running
one, and FCNT counts those link frames. In every other state there is no boundary. At the boundary of a halted unit a captured WALL
step with fewer than 10^9 nanoseconds becomes WALL, VALID is set, and the slew and its remainder are discarded; one with more sets
BADSET and leaves WALL as it runs. DOWNSTREAM_FRAME of a unit that runs or is in paddock mode, inside a gait frame: the first frame of
a gait frame begins at its boundary; each later one begins 40 CK_CTL cycles after the last, with FCNT one further. At the end of a gait
frame none begins before the turnover. In reset and before the start the timeline goes on and nothing is sent. -/
def Obligations.TurnoverAndLinkFrame : Prop :=
  (∀ s : State,
    (s.runs = true ∨ s.inPaddock = true → Completes .gaitFrameTurnover s (fun t =>
      t.time.gfc = s.time.gfc + 1 ∧ t.time.lf = 0 ∧ t.time.grid = true ∧
      t.time.fmono = s.time.fmono + BitVec.ofNat 64 (40 * s.framesToBoundary) ∧
      t.time.fcnt = s.time.fcnt + BitVec.ofNat 8 s.framesToBoundary ∧
      t.time.fmono ≤ t.time.mono)) ∧
    (s.time.grid = true → 1 ≤ s.time.lf → s.time.lf ≤ gaitLinkFrames s.gaitLen →
      s.framesToBoundary + (s.time.lf - 1) = gaitLinkFrames s.gaitLen) ∧
    (s.runs = false → s.inPaddock = false → exec .gaitFrameTurnover s = .next s)) ∧
  (∀ (s : State), s.runs = true → s.halted = true → ∀ ns sec, s.time.step = some (ns, sec) →
    Completes .gaitFrameTurnover s (fun t => t.time.step = none ∧
      (ns < 1000000000 → t.time.wallNs = ns ∧ t.time.wallSec = sec % 2 ^ 48 ∧ t.time.slew = none ∧ t.time.rem = 0 ∧
        t.bit Reg.TIM_WALLSTAT 0 = true) ∧
      (1000000000 ≤ ns → t.time.wall = s.nextGait.time.wall ∧ t.bit Reg.TIM_WALLSTAT 2 = true))) ∧
  (∀ s : State, (s.runs = true ∨ s.inPaddock = true →
      (s.boundaryDue = false → Completes .downstreamFrame s (fun t => t.time.lf = s.time.lf + 1 ∧ t.time.gfc = s.time.gfc ∧
        (s.time.lf = 0 → t.time = { s.time with lf := 1 }) ∧
        (0 < s.time.lf → t.time.fmono = s.time.fmono + 40 ∧ t.time.fcnt = s.time.fcnt + 1))) ∧
      (s.boundaryDue = true → exec .downstreamFrame s = .next s)) ∧
    (s.unit.life = .inReset ∨ s.unit.life = .testHold → Completes .downstreamFrame s (fun t =>
      t.time.fmono = s.time.fmono + 40 ∧ t.time.fcnt = s.time.fcnt + 1 ∧ t.links = s.links ∧ t.pair = s.pair ∧ Keeps s t [])))

/-! ## Soft start, commits, paddock and live restart -/

/-- SOFTSTART_ENTRY: where soft start runs on the unit that drives and the current entry's condition is met, its item starts: a START
for its stage with SETSTATE to ARMED of the contexts armed with it (assumption 130), the enable of its feeder, or the precharge of its
enabled string that was disconnected; after the last entry soft start is done. SOFTSTART_TIMEOUT: where the condition is not met, the
entry's item stays as it is, the entry is counted in SYS_SSTAT and noted as failed, and SOFTSTART_TIMEOUT is raised. -/
def Obligations.SoftStartEntryAndTimeout : Prop :=
  ∀ (s : State), s.softOn = true →
    let i := s.fld Reg.SYS_SSTAT 7 0
    ∀ e, s.boot.soft[i]? = some e →
    (s.softMet e = true → Completes .softstartEntry s (fun t =>
      (∀ k, e.item = .stage k → (t.sg k).cmd = (s.sg k).cmd ++ [1] ∧ t.cwq = s.cwq ++ (s.armedWith k).map (fun c => CwItem.setState c 2) ∧
        Keeps s t [Reg.SYS_SSTAT, Reg.SYS_STAT, Reg.BOOT_STAT]) ∧
      (∀ f, e.item = .feeder f → t.bit (Reg.FDR_CTL f) 0 = true ∧
        Keeps s t [Reg.FDR_CTL f, Reg.SYS_SSTAT, Reg.SYS_STAT, Reg.BOOT_STAT]) ∧
      (∀ b, e.item = .string b → s.strEn b = true → (s.str b).disc = true → t.strMode b = 6) ∧
      (s.boot.soft.length ≤ i + 1 → t.bit Reg.SYS_SSTAT 31 = true ∧ t.bit Reg.SYS_STAT 2 = false ∧ t.fld Reg.BOOT_STAT 3 0 = 8))) ∧
    (s.softMet e = false → Completes .softstartTimeout s (fun t =>
      (s.boot.softFail ++ [i]).isPrefixOf t.boot.softFail = true ∧
      min (s.fld Reg.SYS_SSTAT 23 16 + 1) 255 ≤ t.fld Reg.SYS_SSTAT 23 16 ∧ t.cwq = s.cwq ∧ t.stg = s.stg ∧ t.fdr = s.fdr ∧ t.strs = s.strs ∧
      Raised s t (E.SOFTSTART_TIMEOUT 0) ∧ Keeps s t [Reg.SYS_SSTAT, Reg.SYS_STAT, Reg.BOOT_STAT]))

/-- COMMIT_REQUEST and COMMIT_DISCARD. On a unit that may commit and has none pending, the request is accepted: STATE is checking,
CSEQ counts one and the named groups are pending, for a commit or for a DISCARD. While a commit is pending, the answer is BUSY and the
pending one stays; on the standby and in paddock mode the answer is STANDBY. COMMIT_CHECKS_DONE on a unit with a request in STATE
checking: a DISCARD puts the value in effect into every shadow register of its groups; a commit whose checks all pass waits for its
boundary, the second one in a pair; one that fails ends with RESULT rejected and the code of its first failing check, with nothing
pending. -/
def Obligations.CommitRequestsAndChecks : Prop :=
  (∀ (p : Port) (v : Word) (s : State), s.runs = true →
    (s.notActiveInPair = false → s.bit Reg.SYS_STAT 1 = false → s.commit = none →
      (fieldOf v 16 0 ≠ 0 → Completes (.commitRequest p v) s (fun t =>
        t.commit = some { groups := fieldOf v 16 0, discard := false, wait := 0 } ∧ t.fld Reg.SYS_COMMITSTAT 31 30 = 1 ∧
        t.fld Reg.SYS_COMMITSTAT 15 0 = (s.fld Reg.SYS_COMMITSTAT 15 0 + 1) % 65536 ∧ Keeps s t [Reg.SYS_COMMITSTAT])) ∧
      Completes (.commitDiscard p v) s (fun t =>
        t.commit = some { groups := fieldOf v 16 0, discard := true, wait := 0 } ∧ t.fld Reg.SYS_COMMITSTAT 31 30 = 1 ∧
        t.fld Reg.SYS_COMMITSTAT 15 0 = (s.fld Reg.SYS_COMMITSTAT 15 0 + 1) % 65536 ∧ Keeps s t [Reg.SYS_COMMITSTAT])) ∧
    (s.notActiveInPair = false → s.bit Reg.SYS_STAT 1 = false → s.commit.isSome = true → fieldOf v 16 0 ≠ 0 →
      Completes (.commitRequest p v) s (fun t => t.commit = s.commit ∧ t.fld Reg.SYS_COMMITSTAT 26 24 = 2 ∧
        Keeps s t [Reg.SYS_COMMITSTAT, Reg.SYS_COMMITERR]) ∧
      Completes (.commitDiscard p v) s (fun t => t.commit = s.commit ∧ t.fld Reg.SYS_COMMITSTAT 26 24 = 2 ∧
        Keeps s t [Reg.SYS_COMMITSTAT, Reg.SYS_COMMITERR])) ∧
    (s.notActiveInPair = true →
      Completes (.commitRequest p v) s (fun t => t.commit = s.commit ∧ t.fld Reg.SYS_COMMITSTAT 26 24 = 3 ∧
        Keeps s t [Reg.SYS_COMMITSTAT, Reg.SYS_COMMITERR]) ∧
      Completes (.commitDiscard p v) s (fun t => t.commit = s.commit ∧ t.fld Reg.SYS_COMMITSTAT 26 24 = 3 ∧
        Keeps s t [Reg.SYS_COMMITSTAT, Reg.SYS_COMMITERR]))) ∧
  (∀ (p : Port) (v : Word) (s : State), s.inPaddock = true → s.bit Reg.SYS_STAT 1 = true →
    Completes (.commitRequest p v) s (fun t => t.commit = s.commit ∧ t.fld Reg.SYS_COMMITSTAT 26 24 = 3 ∧
      Keeps s t [Reg.SYS_COMMITSTAT, Reg.SYS_COMMITERR]) ∧
    Completes (.commitDiscard p v) s (fun t => t.commit = s.commit ∧ t.fld Reg.SYS_COMMITSTAT 26 24 = 3 ∧
      Keeps s t [Reg.SYS_COMMITSTAT, Reg.SYS_COMMITERR])) ∧
  (∀ (s : State), s.awake = true → ∀ c, s.commit = some c → s.fld Reg.SYS_COMMITSTAT 31 30 = 1 → Memory.wf s →
    (c.discard = true → Completes .commitChecksDone s (fun t => t.commit = none ∧ t.fld Reg.SYS_COMMITSTAT 26 24 = 4 ∧
      t.fld Reg.SYS_COMMITSTAT 31 30 = 0 ∧ ∀ a, inGroups c.groups a = true → t.srd a = s.rd a)) ∧
    (c.discard = false → (s.commitChecks c.groups).1 = none → Completes .commitChecksDone s (fun t =>
      t.commit = some { c with wait := if (s.commitChecks c.groups).2.unit.pairMode then 2 else 1 } ∧
      t.fld Reg.SYS_COMMITSTAT 31 30 = 2)) ∧
    (c.discard = false → ∀ f g, (s.commitChecks c.groups).1 = some (f, g) → Completes .commitChecksDone s (fun t =>
      t.commit = none ∧ t.fld Reg.SYS_COMMITSTAT 26 24 = 1 ∧ t.fld Reg.SYS_COMMITSTAT 23 16 = f.err % 256 ∧
      t.fld Reg.SYS_COMMITSTAT 31 30 = 0)))

/-- The paddock port. PADDOCK_START of an image kind of the part opens a session for its port, and while the other port has one answers UPD_BUSY (code 16);
another kind answers code 2. PADDOCK_DATA passes four bytes of the container from the owner; PADDOCK_PAGE_DONE sets RDY when a page is
full; PADDOCK_SESSION_EXPIRY ends the session with code 17. PADDOCK_DOWNLOAD_DONE with the whole container received: DONE is set. A
container that the checks accept fills the slot that KIND and SLOT name with code 0, and no trial goes on; one that they refuse leaves
the slot erased, its code in BOOT_PDK_STAT and the descriptors as they were. -/
def Obligations.PaddockDownload : Prop :=
  (∀ (p : Port) (v : Word) (s : State), s.inPaddock = true →
    ((s.boot.pdkOwner = none ∨ s.boot.pdkOwner = some p) → fieldOf v 1 0 < 2 → Completes (.paddockStart p v) s (fun t =>
      t.boot.pdkOwner = some p ∧ t.boot.pdkBytes = 0 ∧ t.boot.pdkHdr = [] ∧ t.rd Reg.BOOT_PDK_STAT = 0 ∧
      Keeps s t [Reg.BOOT_PDK_CTL, Reg.BOOT_PDK_STAT])) ∧
    ((s.boot.pdkOwner = none ∨ s.boot.pdkOwner = some p) → 2 ≤ fieldOf v 1 0 → Completes (.paddockStart p v) s (fun t =>
      t.boot.pdkOwner = none ∧ t.fld Reg.BOOT_PDK_STAT 7 0 = 2 ∧ Keeps s t [Reg.BOOT_PDK_CTL, Reg.BOOT_PDK_STAT])) ∧
    (∀ q, s.boot.pdkOwner = some q → q ≠ p → Completes (.paddockStart p v) s (fun t =>
      t.boot = s.boot ∧ t.fld Reg.BOOT_PDK_STAT 7 0 = 16 ∧ Keeps s t [Reg.BOOT_PDK_STAT])) ∧
    (s.boot.pdkOwner = some p → s.pdkFull = false → s.boot.pdkBytes < s.rdN Reg.BOOT_PDK_LEN → Completes (.paddockData p v) s (fun t =>
      t.boot.pdkBytes = s.boot.pdkBytes + 4 ∧ t.boot.pdkHdr = (s.boot.pdkHdr ++ leBytes 4 v.toNat).take 256 ∧
      t.boot.pdkOwner = some p ∧ Keeps s t [Reg.BOOT_PDK_STAT])) ∧
    (s.boot.pdkOwner.isSome = true → s.pdkFull = true → Completes .paddockPageDone s (fun t =>
      t.bit Reg.BOOT_PDK_STAT 31 = true ∧ t.boot = s.boot ∧ Keeps s t [Reg.BOOT_PDK_STAT])) ∧
    (s.boot.pdkOwner.isSome = true → Completes .paddockSessionExpiry s (fun t =>
      t.boot.pdkOwner = none ∧ t.fld Reg.BOOT_PDK_STAT 7 0 = 17 ∧ t.flash = s.flash ∧ Keeps s t [Reg.BOOT_PDK_STAT]))) ∧
  (∀ (cr : Crypto) (tack : TackImage) (s : State), s.inPaddock = true → s.boot.pdkOwner.isSome = true → 0 < s.boot.pdkBytes →
    s.rdN Reg.BOOT_PDK_LEN ≤ s.boot.pdkBytes → s.fld Reg.BOOT_PDK_CTL 1 0 < 2 →
    let kind := s.fld Reg.BOOT_PDK_CTL 1 0
    let slot := 2 * kind + s.fld Reg.BOOT_PDK_CTL 2 2
    let code := s.checkContainer s.boot.pdkHdr kind
      (decide (hdrTotal s.boot.pdkHdr = s.rdN Reg.BOOT_PDK_LEN) && decide (s.rdN Reg.BOOT_PDK_LEN ≤ slotSize slot)) cr
      (if s.rdN Reg.BOOT_FWVER = 0 then 2 ^ 32 else s.rdN Reg.BOOT_FWVER)
    Completes (.paddockDownloadDone cr tack) s (fun t =>
      t.boot.pdkOwner = none ∧ t.bit Reg.BOOT_PDK_STAT 30 = true ∧ Keeps s t [Reg.BOOT_PDK_STAT] ∧
      (code = 1 → t.fld Reg.BOOT_PDK_STAT 7 0 = 0 ∧ (t.slot slot).header = s.boot.pdkHdr ∧ (t.slot slot).tack = tack ∧
        t.upd.trialrun = false) ∧
      (code ≠ 1 → t.fld Reg.BOOT_PDK_STAT 7 0 = code % 256 ∧ t.slot slot = { Slot.erased with mark := 5 } ∧
        t.flash.desc0 = s.flash.desc0 ∧ t.flash.desc1 = s.flash.desc1)))

/-- FW_WATCHDOG_EXPIRY and LIVE_RESTART_TIMEOUT report FW_STALL (kind 23) with address bit 0 for the watchdog and bit 1 for the
restart; LIVE_RESTART_COMPLETE ends the restart: where the ROM accepts the firmware slot it shows its version, and firmware serves
again; where it refuses it, FW_STALL is reported. -/
def Obligations.FirmwareStallAndRestart : Prop :=
  ∀ (lr : LiveStart) (s : State), s.live = true →
    (s.boot.lrStart = none → Completes .fwWatchdogExpiry s (fun t => Reported t 23 0 1 ∧ Keeps s t [])) ∧
    (s.boot.lrStart.isSome = true →
      Completes .liveRestartTimeout s (fun t => Reported t 23 0 2 ∧ Keeps s t []) ∧
      (let i := s.fwChoice ((s.flash.desc).getD (Desc.default, 0)).1
       (s.checkSlot i 0 = 1 → Completes (.liveRestartComplete lr) s (fun t => t.rd Reg.BOOT_FWVER = hdrVersion (s.slot i).header ∧
         (s.trial = false → t.boot.lrStart = none ∧ t.bit Reg.HST_STAT 31 = true))) ∧
       (s.checkSlot i 0 ≠ 1 → Completes (.liveRestartComplete lr) s (fun t => t.boot.lrStart = none ∧
         Reported t 23 0 2 ∧ Keeps s t []))))

/-! ## Rein links (R90, R99 to R104, R106 to R108, R115 to R120, R131, R133) -/

/-- UPSTREAM_FRAME_MISSING, and an UPSTREAM_FRAME that starts more than 64 edge steps from its instant, on a link that is UP with no
injection: the frame is counted in LNK_LOST, a corrected link-frame fault (kind 3) is sent while the collector has room, the run of bad
frames grows by one and stops at 3, and the next frame expected is the one after. An UPSTREAM_FRAME that starts within 64 steps, but
whose CRC, form, kind or FCNT is wrong: the same, counted in LNK_CRCERR, and its round trip is shown. UPSTREAM_FRAME with a good data
frame of the expected FCNT that starts within 64 steps: it is taken. The run of bad frames ends, the run of frames with DNERR follows
the STATUS byte, and the next frame expected is the one after. On a link in training a missing frame moves the FCNT expected, and
nothing else of the registers. -/
def Obligations.UpstreamFrames : Prop :=
  (∀ (n : Fin 16) (s : State), s.runs = true → s.linj = none →
    (s.linkUp n = true → Completes (.upstreamFrameMissing n) s (fun t =>
      t.fld (Reg.LNK_LOST n) 31 0 = min (s.fld (Reg.LNK_LOST n) 31 0 + 1) (2 ^ 32 - 1) ∧
      (s.flt.inq.length < 256 → Reported t 3 n 1) ∧ (t.link n).badRun = min ((s.link n).badRun + 1) 3 ∧
      (t.link n).rx = some (s.rxExpected n + 1) ∧ Keeps s t [Reg.LNK_LOST n])) ∧
    (s.linkUp n = false → s.linkState n ≠ 0 → Completes (.upstreamFrameMissing n) s (fun t =>
      (t.link n).rx = (s.link n).rx.map (· + 1) ∧ t.linkState n = s.linkState n ∧ Keeps s t []))) ∧
  (∀ (n : Fin 16) (line : BitVec 160) (rtt : Nat) (s : State), s.runs = true → s.linkUp n = true → s.linj = none →
    let f := (descramble line (s.link n).dsc).1
    (64 < ((rtt : Int) - s.upExpect n).natAbs → Completes (.upstreamFrame n line rtt) s (fun t =>
      t.fld (Reg.LNK_LOST n) 31 0 = min (s.fld (Reg.LNK_LOST n) 31 0 + 1) (2 ^ 32 - 1) ∧
      (s.flt.inq.length < 256 → Reported t 3 n 1) ∧ (t.link n).badRun = min ((s.link n).badRun + 1) 3 ∧
      (t.link n).dsc = (descramble line (s.link n).dsc).2 ∧ Keeps s t [Reg.LNK_LOST n])) ∧
    (((rtt : Int) - s.upExpect n).natAbs ≤ 64 → (upFrameGood f && upFcnt f == s.rxExpected n && ffield f 2 3 == 0) = false →
      Completes (.upstreamFrame n line rtt) s (fun t =>
        t.fld (Reg.LNK_CRCERR n) 31 0 = min (s.fld (Reg.LNK_CRCERR n) 31 0 + 1) (2 ^ 32 - 1) ∧
        t.fld (Reg.LNK_RTT n) 31 16 = rtt % 65536 ∧
        (s.flt.inq.length < 256 → Reported t 3 n 2) ∧ (t.link n).badRun = min ((s.link n).badRun + 1) 3 ∧
        (t.link n).dsc = (descramble line (s.link n).dsc).2 ∧
        Keeps s t [Reg.LNK_CRCERR n, Reg.LNK_RTT n, Reg.LNK_STAT n])) ∧
    (((rtt : Int) - s.upExpect n).natAbs ≤ 64 → upFrameGood f = true → upFcnt f = s.rxExpected n → ffield f 2 3 = 0 →
      Completes (.upstreamFrame n line rtt) s (fun t => (t.link n).badRun = 0 ∧ (t.link n).rx = some (s.rxExpected n + 1) ∧
        ((upStatus f).testBit 0 = false → (t.link n).dnRun = 0) ∧
        ((upStatus f).testBit 0 = true → (t.link n).dnRun = min ((s.link n).dnRun + 1) 3))))

/-- LINK_DOWN: an UP link on which the named cause stands, 3 bad frames, 3 frames with DNERR, or 16 frames without SYNC, leaves UP and
waits for its retraining; the edges and frames in flight are gone. Where the cause does not stand, or the link is not UP, it stays as it
is. LINK_RETRAIN of an enabled link has
the same outcome, and from any other training state too. LINK_TRAINING_STEP of a rein link that transmits, state by state: LOCK goes to
ENUM once the receiver is aligned and has adopted FCNT; ENUM goes to ALIGN when the head is of the assigned kind, and fails with code 3
otherwise; ALIGN goes to CONFIG and CONFIG brings the link UP when every request is answered. While a request is open nothing changes.
A failure that a reply has brought, or no reply, leaves the link waiting with its code in TFAIL; the code of an ALIGN without a reply
is free. -/
def Obligations.LinkStates : Prop :=
  (∀ (p : Port) (n : Fin 16) (v : Word) (s : State),
    (∀ (cause : DownCause), s.linkUp n = true → (s.link n).downFor cause = true →
      Completes (.linkDown n cause) s (fun t => t.linkState n = 6 ∧ (t.link n).edges = [] ∧ (t.link n).flight = [] ∧
        (t.link n).badRun = 0 ∧ (t.link n).dnRun = 0)) ∧
    (∀ (cause : DownCause), s.linkUp n = false ∨ (s.link n).downFor cause = false → exec (.linkDown n cause) s = .next s) ∧
    (s.runs = true → s.bit (Reg.LNK_CTL n) 0 = true → bitOf v 0 = true →
      Completes (.linkRetrain p n v) s (fun t => t.linkState n = 6))) ∧
  (∀ (n : Fin 17) (s : State), n.val < 16 → s.runs = true → s.linkTx n = true →
    ((s.link n).tfail = 0 → (s.link n).req = [] →
      (s.linkState n = 1 → (s.link n).aln = 64 → (s.link n).rx.isSome = true → Completes (.linkTrainingStep n .shown) s (fun t =>
        t.linkState n = 2 ∧ Keeps s t [Reg.LNK_STAT n])) ∧
      (s.linkState n = 2 → s.fld (Reg.LNK_HID n) 7 0 = s.linkKind n → Completes (.linkTrainingStep n .shown) s (fun t =>
        t.linkState n = 3 ∧ Keeps s t [Reg.LNK_STAT n])) ∧
      (s.linkState n = 2 → s.fld (Reg.LNK_HID n) 7 0 ≠ s.linkKind n → Completes (.linkTrainingStep n .shown) s (fun t =>
        t.linkState n = 6 ∧ t.fld (Reg.LNK_STAT n) 11 8 = 3 ∧ Raised s t (E.HEAD_MISMATCH n) ∧ Keeps s t [Reg.LNK_STAT n])) ∧
      (s.linkState n = 3 → Completes (.linkTrainingStep n .shown) s (fun t => t.linkState n = 4 ∧ Keeps s t [Reg.LNK_STAT n])) ∧
      (s.linkState n = 4 → Completes (.linkTrainingStep n .shown) s (fun t => t.linkState n = 5 ∧ (t.link n).badRun = 0 ∧
        (t.link n).dnRun = 0))) ∧
    ((s.link n).tfail = 0 → (s.link n).req ≠ [] → exec (.linkTrainingStep n .shown) s = .next s) ∧
    ((s.link n).tfail = 0 → Completes (.linkTrainingStep n .noReply) s (fun t =>
      (s.linkState n = 1 → t.linkState n = 6 ∧ t.fld (Reg.LNK_STAT n) 11 8 = 1 ∧ Raised s t (E.LINK_TRAIN_FAIL n)) ∧
      (s.linkState n = 2 → t.linkState n = 6 ∧ t.fld (Reg.LNK_STAT n) 11 8 = 2 ∧ Raised s t (E.LINK_TRAIN_FAIL n)) ∧
      (s.linkState n = 3 → t.linkState n = 6 ∧ Raised s t (E.LINK_TRAIN_FAIL n)) ∧
      (s.linkState n = 4 → t.linkState n = 6 ∧ t.fld (Reg.LNK_STAT n) 11 8 = 6 ∧ Raised s t (E.LINK_TRAIN_FAIL n)) ∧
      Keeps s t [Reg.LNK_STAT n])) ∧
    ((s.link n).tfail ≠ 0 → Completes (.linkTrainingStep n .shown) s (fun t =>
      t.linkState n = 6 ∧ t.fld (Reg.LNK_STAT n) 11 8 = (s.link n).tfail % 16 ∧ Raised s t (E.LINK_TRAIN_FAIL n) ∧
      Keeps s t [Reg.LNK_STAT n])))

/-- CONTROL_REQUEST_RESEND: a request that has waited 32 link frames for its reply is sent again, up to three times; then its training
state fails. One that has not waited as long stays. RETRAIN_WAIT_EXPIRY of a unit that runs, halted or not, starts an enabled waiting
link again from LOCK, counts it in LNK_RETRAIN and counts the domain reset in TIM_CDCFLUSH. LINK_ENABLE: EN set on a disabled link
starts its training from LOCK; EN clear puts the link, UP or not, into its disabled state with EN clear; EN set on an enabled link
changes nothing of the link. -/
def Obligations.LinkEnableAndWait : Prop :=
  (∀ (n : Fin 16) (m : Fin 17) (s : State), m.val = n.val → s.runs = true →
    (s.linkTx n = true → (s.link n).req ≠ [] → ∀ k, (s.link n).wait = some k →
      (32 ≤ k → (s.link n).resends < 3 → Completes (.controlRequestResend n) s (fun t =>
        (t.link n).resends = (s.link n).resends + 1 ∧ (t.link n).wait = none ∧ (t.link n).req = (s.link n).req ∧
        t.linkState n = s.linkState n ∧ Keeps s t [])) ∧
      (32 ≤ k → 3 ≤ (s.link n).resends → 2 ≤ s.linkState n → s.linkState n ≤ 4 → Completes (.controlRequestResend n) s (fun t =>
        t.linkState n = 6 ∧ (t.link n).req = [] ∧ (s.linkState n = 2 → t.fld (Reg.LNK_STAT n) 11 8 = 2) ∧
        (s.linkState n = 4 → t.fld (Reg.LNK_STAT n) 11 8 = 6) ∧ Raised s t (E.LINK_TRAIN_FAIL n) ∧ Keeps s t [Reg.LNK_STAT n])) ∧
      (k < 32 → exec (.controlRequestResend n) s = .next s)) ∧
    (s.linkState n = 6 → s.bit (Reg.LNK_CTL n) 0 = true → Completes (.retrainWaitExpiry m) s (fun t =>
      t.linkState n = 1 ∧ t.fld (Reg.LNK_RETRAIN n) 15 0 = min (s.fld (Reg.LNK_RETRAIN n) 15 0 + 1) 0xFFFF ∧
      t.fld Reg.TIM_CDCFLUSH 15 0 = min (s.fld Reg.TIM_CDCFLUSH 15 0 + 1) 0xFFFF ∧ Raised s t (E.CDC_FLUSH 0) ∧
      Keeps s t [Reg.LNK_STAT n, Reg.LNK_RETRAIN n, Reg.TIM_CDCFLUSH]))) ∧
  (∀ (p : Port) (n : Fin 16) (v : Word) (s : State), s.runs = true →
    (bitOf v 0 = true → s.bit (Reg.LNK_CTL n) 0 = false → Completes (.linkEnable p n v) s (fun t =>
      t.bit (Reg.LNK_CTL n) 0 = true ∧ t.linkState n = 1 ∧ Keeps s t [Reg.LNK_CTL n, Reg.LNK_STAT n])) ∧
    (bitOf v 0 = false → Completes (.linkEnable p n v) s (fun t => t.bit (Reg.LNK_CTL n) 0 = false ∧ t.linkState n = 0)) ∧
    (bitOf v 0 = true → s.bit (Reg.LNK_CTL n) 0 = true → Completes (.linkEnable p n v) s (fun t =>
      t.linkState n = s.linkState n ∧ t.links = s.links ∧ Keeps s t [Reg.LNK_CTL n])))

/-- HREG_WRITE and HREG_READ. On an UP link with no access of LNK_HREG in progress, BUSY is set, ERR is clear, and the access joins
the link's queue with the address and the data of the LNK_HREG registers; on a link that is not UP, ERR is set and no access is made.
A unit that is not active in its pair ignores the write. -/
def Obligations.HeadRegisterAccess : Prop :=
  ∀ (p : Port) (n : Fin 16) (v : Word) (s : State), s.runs = true →
    let a (w : Bool) : HeadAccess := { owner := .user, write := w, addr := s.fld (Reg.LNK_HREG_ADDR n) 15 2 * 4, data := s.rd (Reg.LNK_HREG_DATA n) }
    (s.actsNow = true → s.bit (Reg.LNK_HREG_CTL n) 29 = false → s.linkUp n = true →
      Completes (.hregWrite p n v) s (fun t => (t.link n).accq = (s.link n).accq ++ [a true] ∧ t.bit (Reg.LNK_HREG_CTL n) 29 = true ∧
        t.bit (Reg.LNK_HREG_CTL n) 28 = false ∧ Keeps s t [Reg.LNK_HREG_CTL n]) ∧
      Completes (.hregRead p n v) s (fun t => (t.link n).accq = (s.link n).accq ++ [a false] ∧ t.bit (Reg.LNK_HREG_CTL n) 29 = true ∧
        t.bit (Reg.LNK_HREG_CTL n) 28 = false ∧ Keeps s t [Reg.LNK_HREG_CTL n])) ∧
    (s.actsNow = true → s.bit (Reg.LNK_HREG_CTL n) 29 = false → s.linkUp n = false →
      Completes (.hregWrite p n v) s (fun t => t.links = s.links ∧ t.bit (Reg.LNK_HREG_CTL n) 28 = true ∧ Keeps s t [Reg.LNK_HREG_CTL n]) ∧
      Completes (.hregRead p n v) s (fun t => t.links = s.links ∧ t.bit (Reg.LNK_HREG_CTL n) 28 = true ∧ Keeps s t [Reg.LNK_HREG_CTL n])) ∧
    (s.notActiveInPair = true →
      Completes (.hregWrite p n v) s (fun t => t.links = s.links ∧ Keeps s t []) ∧
      Completes (.hregRead p n v) s (fun t => t.links = s.links ∧ Keeps s t []))

/-! ## Clocks and the loop engine (R30, R137 to R139, R152, R158, R163, R164, R175, R181) -/

/-- CLK_LOSS sets the bits of what is lost and FAILSAFE, sends the fatal clock fault (kind 0), and holds every local output safe with
no claim and SHELF_EN low. CLK_FREQ does so (kind 1) for a count more than 0.5 % from 3,125,000 while the RTC is enabled, in paddock
mode too; another count changes nothing. -/
def Obligations.ClockFaults : Prop :=
  ∀ (ref pll : Bool) (count : Word) (s : State),
    (s.runs = true ∨ s.inPaddock = true → (ref || pll) = true → Completes (.clkLoss ref pll) s (fun t =>
      t.bit Reg.TIM_CLKSTAT 6 = true ∧ (ref = true → t.bit Reg.TIM_CLKSTAT 4 = true) ∧
      (pll = true → t.bit Reg.TIM_CLKSTAT 3 = true ∧ t.bit Reg.TIM_CLKSTAT 2 = false) ∧ Reported t 0 0 (b2n ref + 2 * b2n pll) ∧
      t.unit.claimOut = false ∧ t.unit.shelfEn = false ∧ t.loc.toList.all (fun c => c.a == .safe && c.b == .safe) = true)) ∧
    (s.runs = true ∨ s.inPaddock = true → s.bit Reg.TIM_CLKCFG 7 = true → (count.toNat < 3109375 ∨ 3140625 < count.toNat) → Completes (.clkFreq count) s (fun t =>
      t.bit Reg.TIM_CLKSTAT 5 = true ∧ t.bit Reg.TIM_CLKSTAT 6 = true ∧ Reported t 1 0 count.toNat ∧
      t.unit.claimOut = false ∧ t.unit.shelfEn = false ∧ t.loc.toList.all (fun c => c.a == .safe && c.b == .safe) = true)) ∧
    (3109375 ≤ count.toNat → count.toNat ≤ 3140625 → exec (.clkFreq count) s = .next s)

/-- LOOP_RUN of a valid entry that is due, for a context that is not DISABLED, with no armed lane injection and no uncorrectable word:
the run count grows by one, RUNGFC is the GFC, and no other context's RAM changes. A TETHERED context that holds its value outputs it;
the entry run of a RUNNING one outputs its y0. Where the lanes differ, nothing of the run is released: the mismatch is recorded and
reported, and the engine halts. -/
def Obligations.LoopRun : Prop :=
  ∀ (e : Fin 256) (s : State), s.live = true → s.bit (Reg.LE_SENT0 e) 31 = true →
    s.gfcN % 2 ^ s.fld (Reg.LE_SENT0 e) 19 16 = s.fld (Reg.LE_SENT1 e) 27 16 → s.bit Reg.LE_STAT 31 = false →
    let c := s.fld (Reg.LE_SENT0 e) 7 0
    s.cState c ≠ 0 → s.bit Reg.INJ_STAT 28 = false → s.eccBad 0 (512 * c) (512 * c + 512) = false →
    Completes (.loopRun e false) s (fun t =>
      t.cw c 0x2C = s.time.gfc ∧ (t.cw c 0x11C).toNat = min ((s.cw c 0x11C).toNat + 1) 0xFFFFFFFF ∧
      (s.cState c = 1 → bitOf (s.cw c 8) 9 = false → fieldOf (t.cw c 0x24) 15 0 = code 16 (s.cx c).hold) ∧
      (s.cState c = 3 → ∀ y, (s.cx c).y0 = some y → fieldOf (t.cw c 0x24) 15 0 = code 16 y ∧ (t.cx c).y0 = none) ∧
      ∀ a, a / 512 ≠ c → t.mem8 a = s.mem8 a) ∧
    Completes (.loopRun e true) s (fun t =>
      t.bit Reg.LE_STAT 31 = true ∧ t.rdN Reg.LE_MISMATCH = 0x80000000 + 256 * s.fld (Reg.LE_SENT0 e) 23 20 + c ∧
      t.rd Reg.LE_MMGFC = s.time.gfc ∧ Reported t 4 (s.fld (Reg.LE_SENT0 e) 23 20) c ∧ (∀ a, t.mem8 a = s.mem8 a) ∧ t.phs = s.phs)

/-- The lane tests. A background test adds its failing pairs to LE_BGFAIL, reports each (kind 5) with its vector and halts the engine; one
with no failure halts nothing. A commanded test starts unless one runs, or is refused without the token; its end shows the failing pairs
in LE_LSTEST and LE_BGFAIL, reports each with its vector, halts the engine where there are any and raises LSTEST_DONE. -/
def Obligations.LaneTests : Prop :=
  ∀ (p : Port) (v : Word) (failing : BitVec 16) (pairs : List (Fin 16 × Fin 768)) (s : State), s.runs = true →
    (s.halted = false → s.bit Reg.LE_STAT 31 = false → Completes (.backgroundLaneTest failing) s (fun t =>
      t.rd Reg.LE_BGFAIL = s.rd Reg.LE_BGFAIL ||| failing.setWidth 32 ∧
      (∀ l < 16, failing.getLsbD l = true → Reported t 5 l s.bgVector) ∧
      t.bit Reg.LE_STAT 31 = decide (failing ≠ 0) ∧ Keeps s t [Reg.LE_BGFAIL, Reg.LE_STAT])) ∧
    (s.bit Reg.LE_LSTEST 30 = false → s.tokOk [4, 5] = true → Completes (.laneTestStart p v) s (fun t =>
      t.bit Reg.LE_LSTEST 30 = true ∧ t.bit Reg.LE_STAT 16 = true ∧ Keeps s t [Reg.LE_LSTEST, Reg.LE_STAT])) ∧
    (s.bit Reg.LE_LSTEST 30 = false → s.tokOk [4, 5] = false → Completes (.laneTestStart p v) s (fun t =>
      t.bit Reg.LE_LSTEST 30 = false ∧ t.bit Reg.LE_LSTEST 28 = true ∧ Raised s t (E.MAINT_BUSY 0) ∧ Keeps s t [Reg.LE_LSTEST])) ∧
    (s.bit Reg.LE_LSTEST 30 = true → Completes (.lstestDone pairs) s (fun t =>
      t.bit Reg.LE_LSTEST 30 = false ∧ t.bit Reg.LE_LSTEST 29 = true ∧
      (∀ l < 16, t.bit Reg.LE_LSTEST l = pairs.any (fun x => x.1.val == l)) ∧
      t.bit Reg.LE_STAT 16 = false ∧ Raised s t (E.LSTEST_DONE 0) ∧
      (∀ x ∈ pairs, Reported t 5 x.1 x.2 ∧ t.bit Reg.LE_BGFAIL x.1 = true ∧ t.bit Reg.LE_STAT 31 = true)))

/-- LE_CHECK checks the shadow schedule as it stands and becomes busy; its completion shows the outcome of that moment: the code, the
load, and LE_SCHERR, which a pass leaves with VALID clear. A check in progress is not disturbed by another write. SCHED_ENTRY_ACCESS:
an access of LE_SENT1 reaches the entry that the requester's LE_SIDX names, and then steps that LE_SIDX by one, from 255 to 0. A read
returns the shadow or the value in effect as LE_SVIEW says; a write goes to the shadow. -/
def Obligations.ScheduleCheckAndEntries : Prop :=
  (∀ (p : Port) (v : Word) (s : State), s.runs = true →
    (s.bit Reg.LE_STAT 17 = false → Completes (.leCheck p v) s (fun t =>
      t.bit Reg.LE_STAT 17 = true ∧ t.bit Reg.LE_CHECKSTAT 31 = false ∧ t.bit Reg.LE_CHECKSTAT 30 = false ∧
      (∃ c, t.check = some c ∧ c.load = loadWord (s.entries true) ∧
        c.err = ((s.schedFail (gaitCycles (s.sfldN Reg.TIM_GAIT 1 0))).map (·.err)).getD 0) ∧
      Keeps s t [Reg.LE_STAT, Reg.LE_CHECKSTAT])) ∧
    (s.bit Reg.LE_STAT 17 = true → Completes (.leCheck p v) s (fun t => t.check = s.check ∧ Keeps s t [])) ∧
    (∀ c, s.check = some c → Completes .leCheckDone s (fun t =>
      t.check = none ∧ t.bit Reg.LE_STAT 17 = false ∧ t.bit Reg.LE_CHECKSTAT 31 = true ∧ t.fld Reg.LE_CHECKSTAT 23 16 = c.err % 256 ∧
      t.rd Reg.LE_CHECKLOAD = c.load ∧ (c.err = 0 → t.bit Reg.LE_SCHERR 31 = false) ∧ (c.err ≠ 0 → t.rd Reg.LE_SCHERR = c.scherr) ∧
      Keeps s t [Reg.LE_STAT, Reg.LE_CHECKSTAT, Reg.LE_CHECKLOAD, Reg.LE_SCHERR]))) ∧
  (∀ (p : Port) (w : Word) (e : Fin 256) (s : State), s.runs = true → s.bankN p Reg.LE_SIDX = e →
    Completes (.schedEntryAccess p none) s (fun t =>
      vget t.readData (portIdx p) 0 = (if s.bankN p Reg.LE_SVIEW = 0 then s.srd (Reg.LE_SENT1 e) else s.rd (Reg.LE_SENT1 e)) &&& 0x0FFF0FFF ∧
      t.bankN p Reg.LE_SIDX = (e + 1) % 256) ∧
    (s.groupLocked 1 = false → Completes (.schedEntryAccess p (some w)) s (fun t =>
      t.srd (Reg.LE_SENT1 e) = (s.srd (Reg.LE_SENT1 e) &&& 0xF000F000) ||| (w &&& 0x0FFF0FFF) ∧ t.bankN p Reg.LE_SIDX = (e + 1) % 256 ∧
      (∀ a, a ≠ Reg.LE_SENT1 e → t.srd a = s.srd a) ∧ t.rd (Reg.LE_SENT1 e) = s.rd (Reg.LE_SENT1 e))))

/-! ## The context window and the trace units (R171 to R174, R176, R189, R191 to R196) -/

/-- CONTEXT_WINDOW_WRITE, SETSTATE and HANDOVER on a unit that takes window items, with fewer than 256 waiting: the item joins the
write buffer behind the others and no context changes before the boundary. With 256 waiting it is refused with code 6, and on the
standby with code 7: REF is set with the code and the context, the refusal is counted and CTX_REFUSED is raised. -/
def Obligations.ContextWindow : Prop :=
  ∀ (p : Port) (a : Addr) (v w : Word) (c : Fin 256) (s : State), s.runs = true → s.bankN p Reg.CW_CTX % 256 = c →
    let o := 0x100 * (s.bankN p Reg.CW_CTX / 256 % 2) + a.toNat % 256
    let refused (code : Nat) (t : State) : Prop :=
      t.cwq = s.cwq ∧ t.bit Reg.CW_STAT 30 = true ∧ t.fld Reg.CW_STAT 27 24 = code ∧ t.fld Reg.CW_STAT 23 16 = c ∧
      t.fld Reg.CW_REFCNT 15 0 = min (s.fld Reg.CW_REFCNT 15 0 + 1) 0xFFFF ∧ Keeps s t [Reg.CW_REFCNT]
    a.toNat % 4 = 0 →
    (s.actsNow = true → s.cwWaiting < 256 →
      Completes (.contextWindowWrite p a v) s (fun t => t.cwq = s.cwq ++ [.data c o (v &&& cwKnown o)] ∧ Keeps s t []) ∧
      Completes (.setstate p w) s (fun t => t.cwq = s.cwq ++ [.setState c (fieldOf w 1 0)] ∧ Keeps s t []) ∧
      Completes (.handover p w) s (fun t => t.cwq = s.cwq ++ [.handOver c] ∧ Keeps s t [])) ∧
    (s.notActiveInPair = false → 256 ≤ s.cwWaiting →
      Completes (.contextWindowWrite p a v) s (refused 6) ∧ Completes (.setstate p w) s (refused 6) ∧
      Completes (.handover p w) s (refused 6)) ∧
    (s.notActiveInPair = true →
      Completes (.contextWindowWrite p a v) s (refused 7) ∧ Completes (.setstate p w) s (refused 7) ∧
      Completes (.handover p w) s (refused 7))

/-- The trace units. ARM waits for the next boundary; STOP and FORCE wait for the unit's next tick; the oldest tick of the unit's source
records its sample of the four channels at the next index, or ends a unit told to stop; with no tick waiting nothing is recorded. A unit
with its samples after the trigger is DONE; a read returns two samples and steps TRC_RADDR by two. -/
def Obligations.TraceUnits : Prop :=
  ∀ (p : Port) (u : Fin 8) (v : Word) (s : State), s.runs = true →
    Completes (.traceArm p u v) s (fun t => t.trcState u = 1 ∧ t.trc = s.trc ∧ Keeps s t [Reg.TRC_CTL u, Reg.TRC_STAT u]) ∧
    (bitOf v 31 = false → 2 ≤ s.trcState u → s.trcState u ≤ 4 → Completes (.traceStop p u v) s (fun t =>
      (t.tr u).stopReq = true ∧ t.trcState u = s.trcState u ∧ Keeps s t [Reg.TRC_CTL u])) ∧
    (bitOf v 31 = false → s.trcState u = 3 → Completes (.traceForce p u v) s (fun t =>
      (t.tr u).force = true ∧ t.trcState u = 3 ∧ Keeps s t [Reg.TRC_CTL u])) ∧
    ((s.tr u).ticks = [] → exec (.traceTick u) s = .next s) ∧
    (∀ k rest, (s.tr u).ticks = k :: rest → 2 ≤ s.trcState u → s.trcState u ≤ 4 → (s.tr u).stopReq = true →
      Completes (.traceTick u) s (fun t =>
        t.trcState u = 7 ∧ (t.tr u).stopReq = false ∧ (t.tr u).buf = (s.tr u).buf ∧ Keeps s t [Reg.TRC_STAT u])) ∧
    (∀ k rest, (s.tr u).ticks = k :: rest → (s.tr u).stopReq = false →
      (s.trcState u = 2 ∨ s.trcState u = 3 ∨ (s.trcState u = 4 ∧ (s.tr u).post < s.trcP u)) →
      Completes (.traceTick u) s (fun t => (t.tr u).ticks = rest ∧
        (t.tr u).next = ((s.tr u).next + 1) % 16384 ∧ (t.tr u).count = min ((s.tr u).count + 1) 16384 ∧
        t.rdN (Reg.TRC_LAST u) = (s.tr u).next % 2 ^ 32 ∧
        (∀ i, i ≠ (s.tr u).next → cellsGet (fun _ => 0) (t.tr u).buf i = cellsGet (fun _ => 0) (s.tr u).buf i) ∧
        ∀ c < 4, (cellsGet (fun _ => 0) (t.tr u).buf (s.tr u).next).toNat / 65536 ^ c % 65536 = code 16 (k.vals.getD c 0))) ∧
    (s.trcState u = 4 → s.trcP u ≤ (s.tr u).post → Completes (.traceDone u) s (fun t =>
      t.trcState u = 5 ∧ Raised s t (E.TRACE_DONE u) ∧ t.trc = s.trc ∧ Keeps s t [Reg.TRC_STAT u])) ∧
    Completes (.traceDataRead p u) s (fun t =>
      (vget t.readData (portIdx p) 0).toNat % 65536 =
        s.traceWord u (fieldOf (s.rd (bankKey p (Reg.TRC_RADDR u))) 15 14) (fieldOf (s.rd (bankKey p (Reg.TRC_RADDR u))) 13 0) ∧
      t.fld (bankKey p (Reg.TRC_RADDR u)) 13 0 = (s.fld (bankKey p (Reg.TRC_RADDR u)) 13 0 + 2) % 16384 ∧
      t.fld (bankKey p (Reg.TRC_RADDR u)) 15 14 = s.fld (bankKey p (Reg.TRC_RADDR u)) 15 14 ∧ t.trc = s.trc)

/-! ## Phases, stages and local PWM (R97, R199 to R223) -/

/-- LOCAL_EDGE takes the earliest edge of a local channel. On a channel that is assigned, not latched and not killed, a turn-on of a
low channel takes both outputs off with output A due on after the dead time, and counts the pulse; a turn-off of a high channel takes
both off with output B due after the dead time. A latched or killed channel drives nothing. STAGE_PERIOD_START of a stage in START or
RUN whose next period is near: the period is added to those formed, with its dithered length, and the next one starts where it ends.
Only that stage's periods change. -/
def Obligations.LocalPulses : Prop :=
  (∀ (n : Fin 16) (s : State) (e : Edge) (rest : List Edge), s.live = true → (s.lc n).edges = e :: rest →
    (s.localLive n = true → e.ev = 1 → (s.lc n).on = false → Completes (.localEdge n) s (fun t =>
      (t.lc n).edges = rest ∧ (t.lc n).a = .off ∧ (t.lc n).b = .off ∧ (t.lc n).on = true ∧
      (t.lc n).due = some (true, e.at_ + s.localDt n e.at_) ∧
      t.fld (Reg.EDG_PULSES n) 31 0 = min (s.fld (Reg.EDG_PULSES n) 31 0 + 1) (2 ^ 32 - 1) ∧
      (∀ m, m ≠ n.val → t.lc m = s.lc m) ∧ Keeps s t [Reg.EDG_PULSES n])) ∧
    (s.localLive n = true → e.ev = 2 → (s.lc n).on = true → Completes (.localEdge n) s (fun t =>
      (t.lc n).edges = rest ∧ (t.lc n).a = .off ∧ (t.lc n).b = .off ∧ (t.lc n).on = false ∧
      (t.lc n).due = some (false, e.at_ + s.localDt n e.at_) ∧ (∀ m, m ≠ n.val → t.lc m = s.lc m) ∧
      Keeps s t [Reg.PT_TON (s.fld (Reg.EDG_STAT n) 14 8)])) ∧
    (s.localLive n = false → Completes (.localEdge n) s (fun t => t.lc n = { s.lc n with edges := rest } ∧ Keeps s t []))) ∧
  (∀ (k : Fin 32) (s : State), s.live = true → (s.stState k = 1 ∨ s.stState k = 2) → (s.sg k).next ≤ s.now + s.formLead k →
    s.ecc.flips = [] → Completes (.stagePeriodStart k) s (fun t =>
      (t.sg k).next = (s.sg k).next + (s.periodLen k).1 ∧ (t.sg k).r = (s.periodLen k).2 ∧
      (t.sg k).formed.map (fun p => (p.start, p.len)) =
        (((s.sg k).next, (s.periodLen k).1) :: (s.sg k).formed.map (fun p => (p.start, p.len))).take 8 ∧ t.stState k = s.stState k ∧
      (∀ j, j ≠ k.val → t.sg j = s.sg j) ∧ t.loc.size = s.loc.size ∧ ∀ a, t.mem8 a = s.mem8 a))

/-- STAGE_START_COMMAND, STAGE_STOP_COMMAND, STAGE_CLEAR_COMMAND and PHASE_REVIVE, for the stage or phase that the requester's index
names: the command waits in its order for the turnover, and nothing else changes. The standby of a pair ignores each. -/
def Obligations.StageAndPhaseCommands : Prop :=
  ∀ (p : Port) (v : Word) (k : Fin 32) (i : Fin 128) (s : State), s.runs = true → s.bankN p Reg.SW_IDX = k → s.bankN p Reg.PW_IDX = i →
    let queued (op : Nat) (t : State) : Prop :=
      (t.sg k).cmd = (s.sg k).cmd ++ [op] ∧ (∀ j, j ≠ k.val → t.sg j = s.sg j) ∧ t.phs = s.phs ∧ Keeps s t []
    (s.actsNow = true →
      Completes (.stageStartCommand p v) s (queued 1) ∧ Completes (.stageStopCommand p v) s (queued 2) ∧
      Completes (.stageClearCommand p v) s (queued 3) ∧
      Completes (.phaseRevive p v) s (fun t => (t.ph i).revive = true ∧ (t.ph i).pulses = (s.ph i).pulses ∧
        (∀ j, j ≠ i.val → t.ph j = s.ph j) ∧ t.stg = s.stg ∧ Keeps s t [])) ∧
    (s.notActiveInPair = true →
      Completes (.stageStartCommand p v) s (fun t => t.stg = s.stg ∧ Keeps s t []) ∧
      Completes (.stageStopCommand p v) s (fun t => t.stg = s.stg ∧ Keeps s t []) ∧
      Completes (.stageClearCommand p v) s (fun t => t.stg = s.stg ∧ Keeps s t []) ∧
      Completes (.phaseRevive p v) s (fun t => t.phs = s.phs ∧ Keeps s t []))

/-- PWM_KILL, from any state of a running unit: the pin and its latch show, the kill is counted, every local output is in its safe
state, and every stage with a local phase is in SAFE. Deassertion clears the pin's bit alone; KILLREL then clears the latch and every
channel's kill bit, and while the pin is asserted it does nothing. -/
def Obligations.KillAndRelease : Prop :=
  ∀ (p : Port) (v : Word) (s : State),
    (s.runs = true → Completes .pwmKill s (fun t =>
      t.bit Reg.PHS_STAT 31 = true ∧ t.bit Reg.PHS_STAT 30 = true ∧ Raised s t (E.PWM_KILL 0) ∧
      t.fld Reg.PHS_KILLCNT 15 0 = min (s.fld Reg.PHS_KILLCNT 15 0 + 1) 0xFFFF ∧
      t.loc.toList.all (fun c => c.a == .safe && c.b == .safe) = true ∧ (∀ k < 32, s.hasLocal k = true → t.stState k = 3))) ∧
    Completes .pwmKillDeassert s (fun t => t.bit Reg.PHS_STAT 31 = false ∧ t.bit Reg.PHS_STAT 30 = s.bit Reg.PHS_STAT 30 ∧
      Keeps s t [Reg.PHS_STAT]) ∧
    (s.runs = true → s.actsNow = true → s.bit Reg.PHS_STAT 31 = false → Completes (.killRelease p v) s (fun t =>
      t.bit Reg.PHS_STAT 30 = false ∧ (∀ n < 16, t.bit (Reg.EDG_STAT n) 3 = false) ∧
      Keeps s t (Reg.PHS_STAT :: (List.range 16).map Reg.EDG_STAT))) ∧
    (s.runs = true → s.bit Reg.PHS_STAT 31 = true → s.forwards = false → Completes (.killRelease p v) s (fun t => Keeps s t []))

/-- A spur ends at T_e: its stage shows the lockout and SPUR_END is raised; the lockout ends when its frames have passed. PHASE_FAILED
with a failure counter at N takes the phase to FAILED with the lowest such cause, counts it, sends PHASE_FAILED (kind 8) and raises
the event. -/
def Obligations.SpurAndPhaseFailure : Prop :=
  ∀ (k : Fin 32) (i : Fin 128) (s : State), s.live = true →
    (∀ x, s.fld (Reg.ST_STAT k) 29 28 = 1 → (s.sg k).te = some x → x ≤ s.now → Completes (.spurEnd k) s (fun t =>
      t.fld (Reg.ST_STAT k) 29 28 = 2 ∧ (t.sg k).ended = true ∧ Raised s t (E.SPUR_END k) ∧ Keeps s t [Reg.ST_STAT k])) ∧
    (s.fld (Reg.ST_STAT k) 29 28 = 2 → (s.sg k).ended = false → (s.sg k).lock = 0 → Completes (.spurLockoutEnd k) s (fun t =>
      t.fld (Reg.ST_STAT k) 29 28 = 0 ∧ (t.sg k).te = none ∧ t.stState k = s.stState k ∧ Keeps s t [Reg.ST_STAT k])) ∧
    (∀ c, s.phValid i = true → s.phState i = 1 → s.stState (s.phStage i) = 2 → s.pfCause i = some c →
      Completes (.phaseFailed i) s (fun t =>
        t.phState i = 2 ∧ t.fld (Reg.PT_STAT i) 29 26 = c ∧ Reported t 8 i c ∧ Raised s t (E.PHASE_FAILED i) ∧
        t.fld (Reg.ST_PFCNT (s.phStage i)) 15 0 = min (s.fld (Reg.ST_PFCNT (s.phStage i)) 15 0 + 1) 0xFFFF ∧ ∀ a, t.mem8 a = s.mem8 a))

/-! ## Shelf functions (R234 to R243, R249 to R256) -/

/-- Module inputs and shedding. An input with HU_CFG.INP bad frames is failed and with as many good ones restored, and the sharing is
redone; a bus droop of as many frames is noted. A module to be shed gets a STOP for each of its stages, its bit is set, MODULE_SHED is
raised, and the module targets are computed anew at once. Hold-up, with HU_CFG.HUEN set. With the trigger gone for its recovery time the
state is RECOVER, every discharging or floating string charges, unless it reaches EOD at once, and the demand is capped at its last
value; with the cap at zero the state is NORMAL and HOLDUP_END is raised. CHARGE_RESUME without a peak shave gives each string its
charge current. -/
def Obligations.ModulesAndHoldup : Prop :=
  (∀ (m : Fin 16) (s : State), s.live = true →
    (s.inFailed m = false → s.huInp ≤ vget s.shf.inBad m 0 → Completes (.moduleInputFailed m) s (fun t =>
      t.inFailed m = true ∧ t.shf.redo = true ∧ (∀ j, j ≠ m.val → j < 32 → t.inFailed j = s.inFailed j) ∧ Keeps s t [Reg.SH_INFAIL])) ∧
    (s.inFailed m = true → s.huInp ≤ vget s.shf.inGood m 0 → Completes (.moduleInputRestored m) s (fun t =>
      t.inFailed m = false ∧ t.shf.redo = true ∧ (∀ j, j ≠ m.val → j < 32 → t.inFailed j = s.inFailed j) ∧ Keeps s t [Reg.SH_INFAIL])) ∧
    (s.bit Reg.HU_CFG 30 = true → s.huInp ≤ s.shf.droopN → Completes .busDroop s (fun t => t.shf.droop = true ∧ Keeps s t [])) ∧
    (∀ x, s.shedOff = false → s.decision 0 = none → max 1 (s.fld Reg.SH_PAR 7 0) ≤ s.shf.shedN → s.shedTarget = some x →
      Completes .moduleShed s (fun t =>
        t.modShed x = true ∧ (∀ k ∈ s.modStages x, (t.sg k).cmd = (s.sg k).cmd ++ [2]) ∧ t.shf.shedN = 0 ∧ t.shf.redo = false ∧
        (∀ m < 16, t.shOut m = vget t.shf.hw m 0) ∧ t.shOut x = 0 ∧ Raised s t (E.MODULE_SHED x) ∧ Keeps s t [Reg.SH_ONLINE]))) ∧
  (∀ s : State, s.live = true →
    (s.bit Reg.HU_CFG 31 = true → s.huState = 1 → s.huTrigger = false → max 1 (1024 * s.fld Reg.HU_REC 15 0) ≤ s.shf.goodN →
      Completes .holdupRecover s (fun t => t.huState = 2 ∧ t.shf.qcap = s.shf.qPrev ∧
        (∀ b < 8, t.strMode b = 5 ∨ t.strMode b = if s.strMode b = 3 ∨ s.strMode b = 4 then 1 else s.strMode b) ∧
        Keeps s t (Reg.SHF_STAT :: Reg.MB_DSTAT 1 :: (List.range 8).map Reg.BS_STAT))) ∧
    (s.bit Reg.HU_CFG 31 = true → s.huState = 2 → s.shf.qcap ≤ 0 → Completes .holdupEnd s (fun t =>
      t.huState = 0 ∧ t.shf.normN = 0 ∧ t.shf.qcap = 0 ∧ Raised s t (E.HOLDUP_END 0) ∧ Keeps s t [Reg.SHF_STAT])) ∧
    (s.chargeOk = true → s.shaving = false → Completes .chargeResume s (fun t =>
      (∀ b < 8, t.shOut (16 + b) = (if s.strEn b = true then s.chargeI b else 0) ∧
        t.fld (Reg.BS_STAT b) 31 16 = code 16 (t.shOut (16 + b)) % 65536 ∧ t.strMode b = s.strMode b) ∧
      Keeps s t ((List.range 8).map Reg.BS_STAT))))

/-- Battery strings. CV goes to FLOAT at the end of its time; a string in EOD is disconnected a frame later and BATT_EOD raised; a
reconnect closes the precharge contactor of each string whose bit is set and that is off or disconnected, and no other string changes;
after the precharge the string charges. -/
def Obligations.BatteryStrings : Prop :=
  ∀ (p : Port) (v : Word) (b : Fin 8) (s : State), s.live = true →
    (s.strMode b = 2 → 1 ≤ (s.str b).term → 1024 * s.fld Reg.BT_TERM 15 0 ≤ (s.str b).term → Completes (.cvToFloat b) s (fun t =>
      t.strMode b = 3 ∧ (t.str b).term = 0 ∧ Keeps s t [Reg.BS_STAT b])) ∧
    (∀ n, s.strMode b = 5 → (s.str b).eodAt = some n → 1 ≤ n → Completes (.battEod b) s (fun t =>
      (t.str b).disc = true ∧ (t.str b).eodAt = none ∧ Raised s t (E.BATT_EOD b) ∧
      (s.linkUp (s.fld (Reg.BS_LOC b) 3 0) = false → (t.str b).want = (s.str b).want ++ [(s.fld (Reg.BS_LOC b) 4 4, 2)]) ∧
      (s.linkUp (s.fld (Reg.BS_LOC b) 3 0) = true →
        ∃ e ∈ (t.link (s.fld (Reg.BS_LOC b) 3 0)).edges, e.ch = s.fld (Reg.BS_LOC b) 4 4 ∧ e.ev = 2) ∧ Keeps s t [])) ∧
    (s.actsNow = true → Completes (.stringReconnect p v) s (fun t =>
      (bitOf v (8 + b) = true → s.strEn b = true → ((s.str b).disc = true ∨ s.strMode b = 0) →
        t.strMode b = 6 ∧ (t.str b).disc = true ∧ (t.str b).preAt = some (1024 * s.fld Reg.BT_TERM 31 16)) ∧
      (bitOf v (8 + b) = false → t.str b = s.str b ∧ t.strMode b = s.strMode b) ∧ Keeps s t ((List.range 8).map Reg.BS_STAT))) ∧
    (s.strMode b = 6 → (s.str b).preAt = some 0 → Completes (.stringPrechargeDone b) s (fun t =>
      t.strMode b = 1 ∧ (t.str b).disc = false ∧ (t.str b).preAt = none ∧ Keeps s t [Reg.BS_STAT b]))

/-- Phase management and power-good. A held low load lowers the phases that hardware requests of its stage by one, down to the smallest,
and that request is in effect unless a decision names a count; an expired fault timer takes its stage to SAFE and sends PG_FAULT (kind
11); a qualified output asserts with its polarity. DECISION_SUBMIT to the mailbox that the requester's MB_SEL names: with the right
sequence number in its window the buffer's words are captured; late, or in a window that a live restart has cut, it is noted with
outcome 2, and with a wrong number, or where nothing was published, with outcome 4. The standby ignores it. -/
def Obligations.PowerGoodAndDecisions : Prop :=
  (∀ (k : Fin 32) (g : Fin 4) (s : State), s.live = true →
    (s.stState k = 2 → s.bit Reg.PM_EN k = true → max 1 (s.fld Reg.PM_PAR 7 0) ≤ (s.sg k).pmt →
      let count := fieldOf (((s.decision 3).map (fun d => decWord d k)).getD 0) 7 0
      Completes (.phaseDrop k) s (fun t =>
        (t.sg k).pmt = 0 ∧
        (max 1 (s.fld Reg.PM_PAR 11 8) < s.nAct k → (t.sg k).nreq = max (s.nAct k - 1) (max 1 (s.fld Reg.PM_PAR 11 8))) ∧
        (s.nAct k ≤ max 1 (s.fld Reg.PM_PAR 11 8) → (t.sg k).nreq = (s.sg k).nreq) ∧
        t.fld (Reg.ST_NREQ k) 7 0 = (if count = 0 then (t.sg k).nreq % 256 else count) ∧ ∀ a, t.mem8 a = s.mem8 a)) ∧
    (s.bit Reg.SHF_FTRUN k = true → max 1 (s.fld Reg.PG_FTIME 15 0) ≤ (s.sg k).ft → Completes (.pgTimeout k) s (fun t =>
      t.stState k = 3 ∧ (∃ o < 4, Reported t 11 k o) ∧ ∀ a, t.mem8 a = s.mem8 a)) ∧
    (s.unit.booted = true → 16 * max 1 (s.fld (Reg.PG_CFG g) 15 0) ≤ vget s.shf.qual g 0 → Completes (.pgAssert g) s (fun t =>
      t.bit Reg.PG_STAT g = true ∧ t.bit Reg.PG_STAT (4 + g) = !s.bit (Reg.PG_CFG g) 30 ∧
      (s.bit Reg.PG_STAT g = false → Raised s t (E.PG_ASSERT g)) ∧ Keeps s t [Reg.PG_STAT]))) ∧
  (∀ (p : Port) (v : Word) (f : Fin 7) (s : State), s.runs = true → s.bankN p Reg.MB_SEL = f →
    (s.actsNow = true → (s.mbx f).active = true → fieldOf v 15 0 = s.fld (Reg.MB_PSEQ f) 15 0 →
      ((s.mbx f).open_ = true → (s.mbx f).lost = false → Completes (.decisionSubmit p v) s (fun t =>
        (t.mbx f).sub = some ((List.range 32).map (fun i => s.rd (Reg.MB_DEC f i))) ∧ (∀ g, g ≠ f.val → t.mbx g = s.mbx g) ∧ Keeps s t [])) ∧
      ((s.mbx f).open_ = false ∨ (s.mbx f).lost = true → Completes (.decisionSubmit p v) s (fun t =>
        t.mb = s.mb ∧ t.fld (Reg.MB_DSTAT f) 19 16 = 2 ∧ Keeps s t [Reg.MB_DSTAT f]))) ∧
    (s.actsNow = true → ((s.mbx f).active = false ∨ fieldOf v 15 0 ≠ s.fld (Reg.MB_PSEQ f) 15 0) →
      Completes (.decisionSubmit p v) s (fun t =>
        (t.mbx f).bad = true ∧ (t.mbx f).sub = (s.mbx f).sub ∧ t.fld (Reg.MB_DSTAT f) 19 16 = 4 ∧ Keeps s t [Reg.MB_DSTAT f])) ∧
    (s.notActiveInPair = true → Completes (.decisionSubmit p v) s (fun t => t.mb = s.mb ∧ Keeps s t [])))

/-! ## Feeders (R264, R265, R267, R274 to R278) -/

/-- Feeders. A fast trip (cause 2 in INRUSH, 1 in ON) and an inrush timeout (cause 6) take the feeder to TRIPPED, send FEEDER_TRIP
(kind 12) with the cause, raise the event and discard the edges that wait for its channel; the timeout also queues a force-safe edge.
A tripped feeder goes to OFF once 10 µs have passed from the turnover at which its enable went off or its follow-up began to the last
turnover, and not before. FEEDER_SNAP waits for the turnover; the standby of a pair ignores it. -/
def Obligations.Feeders : Prop :=
  ∀ (p : Port) (v : Word) (f : Fin 64) (s : State), s.live = true →
    (max 1 (s.fld (Reg.FDR_CFG f) 19 16) ≤ (s.fd f).pers → (s.fdrState f = 1 ∨ s.fdrState f = 2) →
      Completes (.feederFastTrip f) s (fun t =>
        t.fdrState f = 3 ∧ t.fld (Reg.FDR_CTL f) 23 20 = (if s.fdrState f = 1 then 2 else 1) ∧
        Reported t 12 f (if s.fdrState f = 1 then 2 else 1) ∧ Raised s t (E.FEEDER_TRIP f) ∧ (t.fd f).offAt = none ∧
        (s.linkTx (s.fdrLink f) = true → ∀ e ∈ (t.link (s.fdrLink f)).edges, e.ch ≠ s.fdrPh f) ∧
        Keeps s t [Reg.FDR_CTL f, Reg.LNK_REFLEX (s.fdrLink f)])) ∧
    (1024 * max 1 (s.fld (Reg.FDR_CFG f) 7 0) ≤ (s.fd f).frames → s.fdrState f = 1 →
      Completes (.feederInrushTimeout f) s (fun t =>
        t.fdrState f = 3 ∧ t.fld (Reg.FDR_CTL f) 23 20 = 6 ∧ Reported t 12 f 6 ∧ Raised s t (E.FEEDER_TRIP f) ∧
        (∃ e ∈ (t.link (s.fdrLink f)).edges, e.ch = s.fdrPh f ∧ e.ev = 3) ∧ Keeps s t [Reg.FDR_CTL f])) ∧
    (∀ x, s.fdrState f = 3 → (s.fd f).offAt = some x → s.gaitStart < x + 8000 * 64 → exec (.feederToggleDone f) s = .next s) ∧
    (∀ x, s.fdrState f = 3 → (s.fd f).offAt = some x → x + 8000 * 64 ≤ s.gaitStart → Completes (.feederToggleDone f) s (fun t =>
      t.fdrState f = 0 ∧ (t.fd f).offAt = none ∧ (t.fd f).follow = 0 ∧ t.bit (Reg.FDR_CTL f) 26 = decide ((s.fd f).follow = 2) ∧
      Keeps s t [Reg.FDR_CTL f])) ∧
    (s.actsNow = true → Completes (.feederSnap p f v) s (fun t =>
      t.bit (Reg.FDR_CTL f) 30 = true ∧ t.bit (Reg.FDR_CTL f) 0 = bitOf v 0 ∧ t.fdrState f = s.fdrState f ∧ t.fdr = s.fdr ∧
      Keeps s t [Reg.FDR_CTL f])) ∧
    (s.notActiveInPair = true → Completes (.feederSnap p f v) s (fun t => t.fdr = s.fdr ∧ Keeps s t []))

/-! ## Converters, rotation, path tests and calibration (R284 to R297) -/

/-- PRECISION_RESULT of an enabled channel that the spare does not stand for, and SAR_RESULT of a running sequence: the newest sample
of the entry is the calibrated value at its nominal instant, not stale. A result at an end of its range sets the overrange bit; the
last result of a sequence ends it, or starts the latched one. A sequence trigger, by its source (TRIG 1 to 5) or by SEQGO (TRIG 1 to
6; that SEQGO triggers a core whose TRIG names another source is read from the worked example of R289, log 133): an idle sequence
starts at its first channel; a running one latches it once; a further one is dropped, counted in OVR, and raises ADC_OVERRUN the first
time. SEQGO leaves a core with TRIG 0, or a reserved value, alone. -/
def Obligations.ConversionSequences : Prop :=
  (∀ (k : Fin 16) (raw : BitVec 24) (core : Fin 2) (code : BitVec 16) (s : State), s.runs = true →
    (s.precOn k = true → s.spareFor ≠ some k.val → vget s.meas.pstale k 0 = 0 → s.underTest k = false →
      Completes (.precisionResult (k.castLE (by decide)) raw) s (fun t =>
        (t.chan k).head? = some { v := toY16 (s.calibrate k raw.toInt).1, stale := false, at_ := s.now - 96 * s.outPeriod, gap := 0 } ∧
        (raw.toInt = 8388607 ∨ raw.toInt = -8388608 → t.bit Reg.ADC_PSTAT k = true))) ∧
    (s.bit (Reg.ADC_SEQ_STAT core) 31 = true →
      let i := vget s.meas.seqIdx core 0
      let ch := 8 * core + s.seqChan core i
      s.underTest (16 + ch) = false → Completes (.sarResult core code) s (fun t =>
        (t.chan (16 + ch)).head? =
          some { v := toY16 (s.calibrate (16 + ch) (code.toInt * 256)).1, stale := false, at_ := s.now - 14 * 64, gap := 0 } ∧
        (i < s.fld (Reg.ADC_SEQ_CFG core) 7 4 → vget t.meas.seqIdx core 0 = i + 1 ∧ t.bit (Reg.ADC_SEQ_STAT core) 31 = true) ∧
        (s.fld (Reg.ADC_SEQ_CFG core) 7 4 ≤ i → vget t.meas.seqIdx core 0 = 0 ∧ t.bit (Reg.ADC_SEQ_STAT core) 30 = false ∧
          t.bit (Reg.ADC_SEQ_STAT core) 31 = s.bit (Reg.ADC_SEQ_STAT core) 30)))) ∧
  (∀ (p : Port) (c : Fin 2) (s : State), s.runs = true →
    let q := Reg.ADC_SEQ_STAT c
    let started (t : State) : Prop := t.bit q 31 = true ∧ vget t.meas.seqIdx c 0 = 0 ∧ Keeps s t [q]
    let latched (t : State) : Prop := t.bit q 31 = true ∧ t.bit q 30 = true ∧ t.meas.seqIdx = s.meas.seqIdx ∧ Keeps s t [q]
    let dropped (t : State) : Prop := t.fld q 15 0 = min (s.fld q 15 0 + 1) 0xFFFF ∧ t.meas.seqIdx = s.meas.seqIdx ∧
      (vget s.meas.seqSeen c false = false → Raised s t (E.ADC_OVERRUN c)) ∧ Keeps s t [q]
    let trig := s.fld (Reg.ADC_SEQ_CFG c) 3 0
    (1 ≤ trig → trig ≤ 5 →
      (s.bit q 31 = false → Completes (.sequenceTrigger c) s started) ∧
      (s.bit q 31 = true → s.bit q 30 = false → Completes (.sequenceTrigger c) s latched) ∧
      (s.bit q 31 = true → s.bit q 30 = true → Completes (.sequenceTrigger c) s dropped)) ∧
    (1 ≤ trig → trig ≤ 6 →
      (s.bit q 31 = false → Completes (.seqgo p (word (2 ^ c.val))) s started) ∧
      (s.bit q 31 = true → s.bit q 30 = false → Completes (.seqgo p (word (2 ^ c.val))) s latched) ∧
      (s.bit q 31 = true → s.bit q 30 = true → Completes (.seqgo p (word (2 ^ c.val))) s dropped)) ∧
    (trig = 0 ∨ 6 < trig → Completes (.seqgo p (word (2 ^ c.val))) s (fun t => t.meas = s.meas ∧ Keeps s t [])))

/-- Rotation. A due step starts on the next enabled channel in phase 1. A result of the channel in work joins the average of its own
path after 4 discarded ones, up to 2^SPAVG. ROTATION_CHECK_DONE does nothing for another channel, and until the averages are complete. Then a passed phase 1
goes to phase 2; a failed one tests the spare, and a spare that fails too is marked, reported (kind 14) and ends the step; a check that
fails in phase 2 parks the channel on the spare and reports it (kind 13); three passed ones go to phase 3; phase 3 ends the step and
counts it, with CAL_MISMATCH where an overlap disagreed. Pass is rotPass: the means of both paths within SPTOL, or the mean at a level
within TTOL, compared without rounding (the model's reading, log 133). The path tests. TEST_DAC_WRITE to a channel that nothing
guards, no loop uses, no procedure calibrates and no rotation holds is stored and switches at the next boundary; to a guarded one it is
refused: TREF is set, TEST_REFUSED is raised with the entry as its instance and the DAC stays. HEAD_TEST_WRITE likewise, with HREF,
and it is refused, whatever its LEVEL, where the link is not UP and at the standby. -/
def Obligations.RotationAndPathTests : Prop :=
  (∀ (s : State), s.runs = true →
    (∀ k, s.meas.rot.due = true → s.rotMayStart = true → s.nextPrec s.meas.rot.last = some k →
      Completes .rotationStepStart s (fun t => t.rotPhase = 1 ∧ t.fld Reg.ADC_ROTSTAT 3 0 = k ∧ t.meas.rot.due = false ∧
        t.meas.rot.last = k ∧ t.meas.rot.own = RotAvg.fresh ∧ t.meas.rot.spare = RotAvg.fresh ∧ Keeps s t [Reg.ADC_ROTSTAT])) ∧
    (∀ (k : Fin 16) (raw : BitVec 24), s.precOn k = true → s.rotPhase ≠ 0 → s.fld Reg.ADC_ROTSTAT 3 0 = k.val →
      Completes (.precisionResult (k.castLE (by decide)) raw) s (fun t => t.meas.rot.spare = s.meas.rot.spare ∧
        t.meas.rot.own.skip = s.meas.rot.own.skip - 1 ∧
        t.meas.rot.own.n = (if 0 < s.meas.rot.own.skip ∨ s.rotFull ≤ s.meas.rot.own.n then s.meas.rot.own.n else s.meas.rot.own.n + 1))) ∧
    (∀ (k : Fin 16), s.rotComplete = false ∨ s.fld Reg.ADC_ROTSTAT 3 0 ≠ k.val → exec (.rotationCheckDone k) s = .next s) ∧
    (∀ (k : Fin 16), s.rotComplete = true → s.fld Reg.ADC_ROTSTAT 3 0 = k.val →
      let again (t : State) : Prop := t.meas.rot.own = RotAvg.fresh ∧ t.meas.rot.spare = RotAvg.fresh
      (s.rotPhase = 1 → s.meas.rot.spareTest = false → Completes (.rotationCheckDone k) s (fun t => again t ∧
        (s.rotPass = true → t.rotPhase = 2 ∧ Keeps s t [Reg.ADC_ROTSTAT]) ∧
        (s.rotPass = false → t.rotPhase = 1 ∧ t.meas.rot.spareTest = true ∧ t.meas.rot.overlapBad = true ∧ Keeps s t []))) ∧
      (s.rotPhase = 1 → s.meas.rot.spareTest = true → s.rotPass = false → Completes (.rotationCheckDone k) s (fun t =>
        t.rotPhase = 0 ∧ t.bit Reg.ADC_ROTSTAT 12 = true ∧ (s.flt.inq.length < 256 → Reported t 14 k 0) ∧
        Raised s t (E.SPARE_FAIL k) ∧ Keeps s t [Reg.ADC_ROTSTAT])) ∧
      (s.rotPhase = 1 → s.meas.rot.spareTest = true → s.rotPass = true → Completes (.rotationCheckDone k) s (fun t => again t ∧
        (s.meas.rot.check < 2 → t.rotPhase = 1 ∧ t.meas.rot.check = s.meas.rot.check + 1 ∧ Keeps s t []) ∧
        (2 ≤ s.meas.rot.check → t.rotPhase = 2 ∧ t.meas.rot.check = 0 ∧ Keeps s t [Reg.ADC_ROTSTAT]))) ∧
      (s.rotPhase = 2 → s.rotPass = false → Completes (.rotationCheckDone k) s (fun t =>
        t.rotPhase = 0 ∧ t.bit Reg.ADC_ROTSTAT 7 = true ∧ t.fld Reg.ADC_ROTSTAT 11 8 = k ∧
        (s.flt.inq.length < 256 → Reported t 13 k s.meas.rot.check) ∧
        Raised s t (E.PATH_PARKED k) ∧ Keeps s t [Reg.ADC_ROTSTAT])) ∧
      (s.rotPhase = 2 → s.rotPass = true → Completes (.rotationCheckDone k) s (fun t => again t ∧
        (s.meas.rot.check < 2 → t.rotPhase = 2 ∧ t.meas.rot.check = s.meas.rot.check + 1 ∧ Keeps s t []) ∧
        (2 ≤ s.meas.rot.check → t.rotPhase = 3 ∧ t.meas.rot.check = 0 ∧ Keeps s t [Reg.ADC_ROTSTAT]))) ∧
      (s.rotPhase = 3 → Completes (.rotationCheckDone k) s (fun t =>
        t.rotPhase = 0 ∧ t.fld Reg.ADC_ROTSTAT 31 16 = min (s.fld Reg.ADC_ROTSTAT 31 16 + 1) 0xFFFF ∧
        (s.rotPass = false ∨ s.meas.rot.overlapBad = true → Raised s t (E.CAL_MISMATCH k)) ∧ Keeps s t [Reg.ADC_ROTSTAT])))) ∧
  (∀ (p : Port) (v : Word) (s : State), s.runs = true →
    let ch := fieldOf v 20 16
    let e := if fieldOf v 13 12 = 1 then ch else 16 + ch
    let n := fieldOf v 3 0
    let k := fieldOf v 9 4
    let h := s.linkEntry n k
    (s.guarded e = false → s.inLoop e = false → s.underCal e = false → s.rotPhase = 0 → s.bit Reg.ADC_ROTSTAT 7 = false →
      Completes (.testDacWrite p v) s (fun t => t.rd Reg.ADC_TDAC = v &&& 0x401F3FFF ∧ t.meas.tst.tdacReq = some (v &&& 0x401F3FFF) ∧
        t.meas.tst.tdac = s.meas.tst.tdac ∧ Keeps s t [Reg.ADC_TDAC])) ∧
    ((fieldOf v 13 12 = 1 ∨ fieldOf v 13 12 = 2) → ch < 16 → s.guarded e = true → Completes (.testDacWrite p v) s (fun t =>
      t.meas = s.meas ∧ t.bit Reg.ADC_TSTAT 31 = true ∧ Raised s t (E.TEST_REFUSED e) ∧ Keeps s t [Reg.ADC_TSTAT])) ∧
    (s.actsNow = true → s.linkUp n = true → k < s.fld (Reg.LNK_HID n) 31 24 →
      (s.linkFeeders n).all (fun f => s.fdrState f == 0 || s.fdrState f == 3) = true → s.guarded h = false → s.inLoop h = false →
      s.underCal h = false → Completes (.headTestWrite p v) s (fun t =>
        t.rd Reg.ADC_HTEST = v &&& 0xFFF ∧ t.meas.tst.htReq = s.meas.tst.htReq ++ [v &&& 0xFFF] ∧ Keeps s t [Reg.ADC_HTEST])) ∧
    ((s.linkUp n = false ∨ s.notActiveInPair = true) → s.forwards = false → Completes (.headTestWrite p v) s (fun t =>
      t.meas = s.meas ∧ t.bit Reg.ADC_TSTAT 30 = true ∧ Raised s t (E.TEST_REFUSED (h % 256)) ∧ Keeps s t [Reg.ADC_TSTAT])))

/-- CAL_ZERO, CAL_FS and CAL_ABORT. On a unit that may calibrate, ZERO of an idle procedure starts averaging the zero of its channel,
FS after that channel's ZERO_DONE the full scale with the reference of CAL_REF, and each discards the first four deliveries; ABORT
returns to IDLE and writes nothing. FS out of turn ends in ERROR with code 1; without the token ZERO is answered with code 5. The ends
of a calibration. A full zero average gives ZERO_DONE and the mean; a full full-scale average gives, by the law of R295, the GAIN and
OFS of the entry in the shadow with READY and CAL_DONE, or ERROR with the law's code; a channel without deliveries ends with code 4. A
record written to the store leaves the waiting list, and one that does not verify is counted and reported (kind 15). -/
def Obligations.Calibration : Prop :=
  (∀ (p : Port) (v : Word) (s : State), s.runs = true → (p = .fw ∨ s.fwOk = true) →
    let e := fieldOf v 8 0
    (s.calRefusal e = none → (s.calRuns = false ∨ s.calCh = e) → Completes (.calZero p v) s (fun t =>
      t.calState = 1 ∧ t.calCh = e ∧ t.meas.cal.n = 0 ∧ t.meas.cal.sum = 0 ∧ t.meas.cal.skip = 4 ∧ Keeps s t [Reg.CAL_STAT])) ∧
    (s.calRefusal e = none → s.calState = 2 → s.calCh = e → Completes (.calFs p v) s (fun t =>
      t.calState = 3 ∧ t.calCh = e ∧ t.meas.cal.n = 0 ∧ t.meas.cal.z = s.meas.cal.z ∧ t.meas.cal.ref = s.sfld Reg.CAL_REF 23 0 ∧
      Keeps s t [Reg.CAL_STAT])) ∧
    (s.calRefusal e = none → (s.calRuns = false ∧ (s.calState ≠ 2 ∨ s.calCh ≠ e)) ∨ (s.calRuns = true ∧ s.calCh = e) → Completes (.calFs p v) s (fun t =>
      t.calState = 5 ∧ t.fld Reg.CAL_STAT 27 24 = 1 ∧ t.meas = s.meas ∧ Keeps s t [Reg.CAL_STAT])) ∧
    (s.notActiveInPair = false → s.tokOk [3, 5] = false → s.calRuns = false → Completes (.calZero p v) s (fun t =>
      t.calState = 5 ∧ t.fld Reg.CAL_STAT 27 24 = 5 ∧ Raised s t (E.MAINT_BUSY 0) ∧ t.meas = s.meas ∧ Keeps s t [Reg.CAL_STAT])) ∧
    Completes (.calAbort p v) s (fun t => t.rd Reg.CAL_STAT = 0 ∧ t.meas = s.meas ∧ Keeps s t [Reg.CAL_STAT])) ∧
  (∀ (s : State), s.runs = true →
    let c := s.meas.cal
    let full := 2 ^ s.calK
    let e := s.calCh
    let m := cdiv c.sum (full : Nat)
    let mS := cdiv c.sumS (full : Nat)
    (full ≤ c.n → (e < 16 → full ≤ c.nS) → s.calState = 1 → Completes .calAverageDone s (fun t =>
      t.calState = 2 ∧ t.meas.cal.z = m ∧ t.meas.cal.zS = mS ∧ t.calCh = e ∧ Keeps s t [Reg.CAL_STAT])) ∧
    (∀ r ∈ (calResult c.z m c.ref).toOption, full ≤ c.n → (e < 16 → full ≤ c.nS) → s.calState = 3 → s.commit = none →
      (16 ≤ e ∨ (calResult c.zS mS c.ref).toOption.isSome = true) → Completes .calAverageDone s (fun t =>
        t.calState = 4 ∧ t.srd (Reg.CAL_GAIN e) = word (code 32 r.1) ∧ t.srd (Reg.CAL_OFS e) = word (code 24 r.2) ∧
        t.rd (Reg.CAL_GAIN e) = s.rd (Reg.CAL_GAIN e) ∧ Raised s t (E.CAL_DONE (e % 256)))) ∧
    (∀ x, calResult c.z m c.ref = .error x → full ≤ c.n → (e < 16 → full ≤ c.nS) → s.calState = 3 → s.commit = none →
      Completes .calAverageDone s (fun t =>
        t.calState = 5 ∧ t.fld Reg.CAL_STAT 27 24 = x % 16 ∧ Raised s t (E.CAL_ERR (e % 256)) ∧ Keeps s t [Reg.CAL_STAT])) ∧
    (s.calRuns = true → Completes .calStaleTimeout s (fun t =>
      t.calState = 5 ∧ t.fld Reg.CAL_STAT 27 24 = 4 ∧ Raised s t (E.CAL_ERR (e % 256)) ∧ Keeps s t [Reg.CAL_STAT])) ∧
    (∀ r ∈ s.meas.calPend.head?,
      Completes (.calRecordWriteDone true) s (fun t => t.meas.calPend = s.meas.calPend.tail ∧ t.meas.store = storeCopy r s.meas.store ∧
        Keeps s t [Reg.CAL_NVSTAT, Reg.CAL_INFO r.entry]) ∧
      Completes (.calRecordWriteDone false) s (fun t => t.meas.calPend = s.meas.calPend.tail ∧ t.meas.store = s.meas.store ∧
        t.fld Reg.CAL_NVSTAT 31 16 = min (s.fld Reg.CAL_NVSTAT 31 16 + 1) 0xFFFF ∧
        (s.flt.inq.length < 256 → Reported t 15 (r.entry % 128) (copyOf s.meas.store r.entry)) ∧
        Keeps s t [Reg.CAL_NVSTAT, Reg.CAL_INFO r.entry])))

/-- METER_SNAP requests a snapshot for the next boundary. WMON_ENTRY of a monitor whose count has reached PERS enters HIGH or LOW by
its side, counts the entry, raises the event where EVT asks for it, and takes its action: none, or the trip of its feeder with cause 3
where no other one has tripped it in this CK_CTL cycle. COMPARATOR_TICK and CMP_FAILED, for comparators that route no action. On an input tick each enabled comparator that has not failed
moves by its thresholds and hysteresis, and the others stay; a tick that is due for a check moves none. Two failed checks take it out
of service in its safe state, with CMP_FAILED and a corrected report (kind 18). -/
def Obligations.MonitorsAndComparators : Prop :=
  (∀ (p : Port) (v : Word) (m : Fin 128) (s : State), s.runs = true →
    (s.actsNow = true → Completes (.meterSnap p v) s (fun t =>
      t.bit Reg.MET_SNAPSTAT 31 = true ∧ t.rd Reg.MET_CTL = v &&& 0x60000000 ∧ t.stat = s.stat ∧
      Keeps s t [Reg.MET_SNAPSTAT, Reg.MET_CTL])) ∧
    (s.notActiveInPair = true → Completes (.meterSnap p v) s (fun t => t.stat = s.stat ∧ Keeps s t [])) ∧
    (s.halted = false → s.bit (Reg.WM_CFG m) 31 = true → 1 ≤ s.wmCount m → s.fld (Reg.WM_CFG m) 23 16 ≤ s.wmCount m →
      let side := s.wmUp m
      let route := s.rd (Reg.WM_ROUTE m)
      (fieldOf route 31 28 = 0 ∨ sideNamed route side = false → Completes (.wmonEntry m) s (fun t =>
        t.wmState m = (if side = true then 1 else 2) ∧ t.wmCount m = 0 ∧
        t.fld (Reg.WM_HITS m) 15 0 = min (s.fld (Reg.WM_HITS m) 15 0 + 1) 0xFFFF ∧
        (bitOf route 25 = true → Raised s t (if side = true then E.WMON_HIGH m else E.WMON_LOW m)) ∧
        Keeps s t [Reg.WM_STAT m, Reg.WM_HITS m])) ∧
      (fieldOf route 31 28 = 3 → sideNamed route side = true → fieldOf route 7 0 < 64 → s.actTaken 3 (fieldOf route 7 0) = false →
        (s.fdrState (fieldOf route 7 0) = 1 ∨ s.fdrState (fieldOf route 7 0) = 2) → Completes (.wmonEntry m) s (fun t =>
          t.wmState m = (if side = true then 1 else 2) ∧ t.fdrState (fieldOf route 7 0) = 3 ∧
          t.fld (Reg.FDR_CTL (fieldOf route 7 0)) 23 20 = 3 ∧ Reported t 12 (fieldOf route 7 0) 3)))) ∧
  (∀ (codes : List Nat) (failing : BitVec 16) (k : Fin 16) (s : State), s.live = true →
    (∀ j < 16, s.fld (Reg.CMP_ROUTE j) 31 28 = 0) →
    let due := decide (2 ^ max 4 (min 15 (s.fld Reg.CMP_TICK 11 8)) ≤ s.meas.cmpTick + 1)
    let lo : Int := s.fld (Reg.CMP_THR k) 9 0
    let hi : Int := s.fld (Reg.CMP_THR k) 25 16
    let hys : Int := s.fld (Reg.CMP_CFG k) 9 0
    let on := s.bit (Reg.CMP_CFG k) 31 && !s.bit Reg.CMP_STAT (16 + k.val)
    (due = false → Completes (.comparatorTick codes failing) s (fun t => t.meas.cmpTick = s.meas.cmpTick + 1 ∧
      (on = false ∨ codes[k.val]? = none → t.cmpState k = s.cmpState k) ∧
      (on = true → s.bit Reg.CMP_STAT k = false → ∀ c ∈ codes[k.val]?, c < 1024 →
        let x : Int := c
        t.cmpState k =
          if s.cmpState k = 1 ∧ hi - hys ≤ x then 1
          else if s.cmpState k = 2 ∧ x ≤ lo + hys then 2
          else if s.cmpState k ≠ 1 ∧ hi < x then 1 else if s.cmpState k ≠ 2 ∧ x < lo then 2 else 0))) ∧
    (due = true → Completes (.comparatorTick codes failing) s (fun t => t.meas.cmpTick = 0 ∧ t.meas.cmpChk = (s.meas.cmpChk + 1) % 4 ∧
      vget t.meas.cmpFail k 0 = (if on = true then (if failing.getLsbD k = true then min (vget s.meas.cmpFail k 0 + 1) 255 else 0)
        else vget s.meas.cmpFail k 0) ∧ Keeps s t [])) ∧
    (on = true → 2 ≤ vget s.meas.cmpFail k 0 → Completes (.cmpFailed k) s (fun t =>
      t.bit Reg.CMP_STAT (16 + k.val) = true ∧ t.cmpState k = s.cmpSafe k ∧ Raised s t (E.CMP_FAILED k) ∧
      (s.flt.inq.length < 256 → Reported t 18 0 (k + 16 * ((s.meas.cmpChk + 3) % 4))) ∧
      Keeps s t [Reg.CMP_STAT, Reg.CMP_OUT, Reg.CMP_CNT k])))

/-! ## Housekeeping and thermal management (R317 to R326) -/

/-- Housekeeping runs from the PLL's start: in a started unit, and in paddock mode where the PLL locked. HK_SLOT_DECISION stores the
slot's value and shows it in HK_VAL, in 0.0625 °C codes for the two diodes and else in mV, where the mV of a converter code of slots 16,
17 and 23 are a free value (log 135); slot 12 decides T from the two diodes, or counts an implausible round and leaves T; a
monitored supply counts its rounds out of the limits; slot 23 ends the round. The findings of four rounds. An implausible diode, a
failed check, the warning and its end, shutdown, a rise and a supply out of limits each set their bit, raise their event or send their
fault; a finding already made is not made again. Shutdown latches until a power-on, takes the thermal record into slot 97, and its
fault is fatal. -/
def Obligations.Housekeeping : Prop :=
  (∀ (i : Fin 24) (v : Int) (s : State), s.hkOn = true →
    Completes (.hkSlotDecision i v) s (fun t =>
      t.hkVal i = v ∧ (∀ j, j ≠ i.val → t.hkVal j = s.hkVal j) ∧
      t.rdN (Reg.HK_VAL i) = (if i.val = 0 ∨ i.val = 12 then code 32 (cdiv v 16)
        else if i.val = 16 ∨ i.val = 17 ∨ i.val = 23 then code 32 (Config.hkMilliVolts i v) else code 32 v) ∧
      (i.val = 23 → t.fld Reg.HK_ROUNDS 31 0 = min (s.fld Reg.HK_ROUNDS 31 0 + 1) (2 ^ 32 - 1)) ∧
      (i.val = 12 → (s.hkVal 0 - v).natAbs ≤ 1024 → -14080 ≤ cdiv (s.hkVal 0 + v) 2 → cdiv (s.hkVal 0 + v) 2 ≤ 44800 →
        t.fld Reg.HK_TEMP 15 0 = code 16 (cdiv (cdiv (s.hkVal 0 + v) 2) 16) ∧ t.hk.badN = 0) ∧
      (i.val = 12 → 1024 < (s.hkVal 0 - v).natAbs → t.rd Reg.HK_TEMP = s.rd Reg.HK_TEMP ∧ t.hk.badN = countRound s.hk.badN true) ∧
      (hkHasMonitor i = true → s.fld (Reg.HK_SUPLIM i) 15 0 < s.fld (Reg.HK_SUPLIM i) 31 16 →
        vget t.hk.outN i 0 = countRound (vget s.hk.outN i 0)
          (decide (v < s.fld (Reg.HK_SUPLIM i) 15 0) || decide ((s.fld (Reg.HK_SUPLIM i) 31 16 : Int) < v))) ∧
      Keeps s t [Reg.HK_VAL i, Reg.HK_TEMP, Reg.HK_TFINE, Reg.HK_RISE, Reg.HK_STAT, Reg.HK_SUPSTAT, Reg.HK_ROUNDS])) ∧
  (∀ (i : Fin 24) (long : Bool) (s : State), s.hkOn = true →
    let rise := if long then 27 else 28
    (4 ≤ s.hk.badN → s.hk.badN ≠ 255 → Completes .hkSensor s (fun t =>
      t.bit Reg.HK_STAT 30 = true ∧ Reported t 19 0 (code 32 s.hkT) ∧ t.hk.badN = 255 ∧ Keeps s t [Reg.HK_STAT])) ∧
    (4 ≤ vget s.hk.chkN i 0 → vget s.hk.chkN i 0 ≠ 255 → Completes (.hkCheck i) s (fun t =>
      (s.flt.inq.length < 256 → Reported t 20 i (code 32 (s.hkVal i))) ∧ vget t.hk.chkN i 0 = 255 ∧ Keeps s t [])) ∧
    (4 ≤ s.hk.warnN → s.bit Reg.HK_STAT 29 = false → Completes .thermWarn s (fun t =>
      t.bit Reg.HK_STAT 29 = true ∧ Raised s t (E.THERM_WARN 0) ∧ Keeps s t [Reg.HK_STAT])) ∧
    (4 ≤ s.hk.coolN → s.bit Reg.HK_STAT 29 = true → Completes .thermWarnClear s (fun t =>
      t.bit Reg.HK_STAT 29 = false ∧ Raised s t (E.THERM_WARN_CLEAR 0) ∧ Keeps s t [Reg.HK_STAT])) ∧
    (4 ≤ s.hk.shutN → s.bit Reg.HK_STAT 31 = false → Completes .thermShut s (fun t =>
      t.bit Reg.HK_STAT 31 = true ∧ t.unit.thermLatch = true ∧ Reported t 22 0 (code 32 s.hkT) ∧
      (t.slotOf 97).count = min ((s.slotOf 97).count + 1) 0xFFFF ∧ Keeps s t [Reg.HK_STAT])) ∧
    (4 ≤ vget s.hk.rateUp (if long then 1 else 0) 0 → s.bit Reg.HK_STAT rise = false → Completes (.thermRate long) s (fun t =>
      t.bit Reg.HK_STAT rise = true ∧ Raised s t (E.THERM_RATE 0) ∧ Keeps s t [Reg.HK_STAT])) ∧
    (4 ≤ vget s.hk.outN i 0 → s.bit Reg.HK_SUPSTAT i = false → Completes (.hkSupply i) s (fun t =>
      t.bit Reg.HK_SUPSTAT i = true ∧ t.bit Reg.HK_SUPSTKY i = true ∧ Raised s t (E.SUPPLY_WARN i) ∧
      (s.bit (Reg.HK_SUPCFG i) 0 = true ∨ s.flt.inq.length < 256 → Reported t 21 i (code 32 (s.hkVal i))) ∧
      Keeps s t [Reg.HK_SUPSTAT, Reg.HK_SUPSTKY])))

/-! ## The redundant pair (R331 to R349, R353) -/

/-- TANDEM_FRAME gives a lane 160 line bits, or none. The lane descrambles them and counts its alignment; a frame is good where the lane
is aligned and SYNC, TYPE, KIND and CRC are right. A good one ends the lane's bad run and shows the claim of its bits 4 to 19; while the
link is UP the lane is UP. With KIND 1 and ACTIVE in the claim a unit that is not active takes the WALL of the PAYLOAD, after an alignment
the timeline too; one that is active moves neither. With KIND 3 the partner's status is held. A PROBE of ALIGN joins the measured ones.
Every other frame adds to the run, and the third in a row loses the lane. Training of the tandem link: LOCK ends once a lane is aligned;
ALIGN, with both spreads within 8 edge steps, ends UP at the unit that does not align, and at the aligning unit once it has shifted its
dividers and what is left is within 8 edge steps. A state without a reply fails with the code of R132, and RETRAIN_WAIT_EXPIRY begins
again from LOCK. With both lanes lost the link is down: its state waits for training, the partner's status is gone and TANDEM_DOWN is
raised. Its wait ended before it is UP, every enabled rein link trains from LOCK. -/
def Obligations.TandemLink : Prop :=
  (∀ (lane : Fin 2) (w : BitVec 160) (arrival : Int) (content : TandemContent) (s : State),
    s.runs = true → s.unit.pairMode = true → s.tdState ≠ 0 →
    let l := vget s.pair.lanes lane TdLane.initial
    let f := (descramble w l.dsc).1
    let aligned := decide ((noteSync l.aln l.lost (ffield f 0 1 == 1)).1 = 64)
    let gfc := BitVec.ofNat 32 (ffield f 32 63)
    let good (t : State) : Prop := vget t.pair.bad lane 0 = 0 ∧ t.fld Reg.PAIR_CLAIM 31 16 = ffield f 4 19 ∧ t.bit Reg.PAIR_STAT 24 = true
    let bad (t : State) : Prop :=
      vget t.pair.bad lane 0 = min (vget s.pair.bad lane 0 + 1) 3 ∧
      (2 ≤ vget s.pair.bad lane 0 → t.bit Reg.PAIR_TDSTAT (3 + lane) = false) ∧
      (vget s.pair.bad lane 0 < 2 → t.rd Reg.PAIR_TDSTAT = s.rd Reg.PAIR_TDSTAT) ∧
      (2 ≤ vget s.pair.bad lane 0 → s.bit Reg.PAIR_TDSTAT (3 + lane) = true → vget s.pair.bad (1 - lane) 0 < 3 →
        Raised s t (E.TANDEM_LANE lane)) ∧ Keeps s t [Reg.PAIR_TDSTAT]
    (aligned = true → tandemGood f = true →
      (ffield f 28 31 = 0 → Completes (.tandemFrame lane (some w) arrival content) s (fun t => good t ∧
        (s.tdmUp = true → t.bit Reg.PAIR_TDSTAT (3 + lane) = true) ∧ Keeps s t [Reg.PAIR_CLAIM, Reg.PAIR_STAT, Reg.PAIR_TDSTAT])) ∧
      (ffield f 28 31 = 1 → s.tdmUp = true → s.halted = false → s.role ≠ 2 → ffield f 4 4 = 1 → ffield f 112 141 < 1000000000 →
        Completes (.tandemFrame lane (some w) arrival content) s (fun t => good t ∧
          t.time.wallSec = ffield f 64 111 ∧ t.time.wallNs = ffield f 112 141 ∧ t.bit Reg.TIM_WALLSTAT 4 = true ∧
          (s.pair.load = true → t.time.gfc = gfc ∧ t.time.fcnt = BitVec.ofNat 8 (ffield f 20 27) ∧ t.pair.load = false))) ∧
      (ffield f 28 31 = 1 → s.tdmUp = true → s.halted = false → s.role = 2 →
        Completes (.tandemFrame lane (some w) arrival content) s (fun t => good t ∧ t.time = s.time)) ∧
      (ffield f 28 31 = 2 → s.tdState = 3 → s.pair.al.n < 256 → Completes (.tandemFrame lane (some w) arrival content) s (fun t =>
        good t ∧ t.pair.al.n = s.pair.al.n + 1 ∧ t.pair.al.sum = s.pair.al.sum + arrival ∧ Keeps s t [Reg.PAIR_CLAIM, Reg.PAIR_STAT])) ∧
      (∀ p, ffield f 28 31 = 3 → s.tdmUp = true → s.halted = false → p.laneTest = false →
        Completes (.tandemFrame lane (some w) arrival (.stat p)) s (fun t =>
          good t ∧ t.pair.partner = some p ∧ (s.role = 2 → t.syncPhase = p.phase % 8)))) ∧
    (aligned = false ∨ tandemGood f = false → Completes (.tandemFrame lane (some w) arrival content) s bad) ∧
    Completes (.tandemFrame lane none arrival content) s bad) ∧
  (∀ (ma : Int) (spread : Nat) (s : State), s.runs = true → s.unit.pairMode = true →
    let al := s.pair.al
    let d := cdiv (ma - cdiv al.sum 256) 2
    let step (r : TrainReply) (P : State → Prop) : Prop := s.unit.txIdle = false → Completes (.linkTrainingStep 16 r) s P
    (s.tdState = 1 → s.lanesAligned ≠ 0 → step .shown (fun t => t.tdState = 3 ∧ t.pair.al = TdAlign.initial ∧ Keeps s t [Reg.PAIR_TDSTAT])) ∧
    (s.tdState = 1 ∨ s.tdState = 3 → step .noReply (fun t => t.tdState = 6 ∧
      t.fld Reg.PAIR_TDSTAT 11 8 = (if s.tdState = 1 then 1 else 4) ∧ Keeps s t [Reg.PAIR_TDSTAT])) ∧
    (s.tdState = 3 → 256 ≤ al.n → spread ≤ 8 → al.mx - al.mn ≤ 8 →
      (s.aligns = false → step (.partner ma spread) (fun t => t.tdState = 5 ∧ t.bit Reg.PAIR_STAT 24 = true ∧
        t.bit Reg.PAIR_STAT 25 = true ∧ vget t.pair.bad 0 0 = 0 ∧ vget t.pair.bad 1 0 = 0)) ∧
      (s.aligns = true → al.again = false → step (.partner ma spread) (fun t => t.tdState = 3 ∧ t.pair.al.again = true ∧
        t.pair.al.shift = al.shift + 16 * cdiv d 16 ∧ t.pair.al.n = 0 ∧ Keeps s t [Reg.PAIR_TDSTAT])) ∧
      (s.aligns = true → al.again = true → d.natAbs ≤ 8 → step (.partner ma spread) (fun t => t.tdState = 5 ∧
        t.fld Reg.PAIR_ALIGN 15 0 = code 16 d ∧ t.pair.load = true ∧ t.syncPhase = 1 ∧
        ∀ n < 16, s.bit (Reg.LNK_CTL n) 0 = true → t.linkState n = 1))) ∧
    (s.tdState = 6 → Completes (.retrainWaitExpiry 16) s (fun t => t.tdState = 1 ∧ t.pair.al = TdAlign.initial ∧
      Keeps s t [Reg.PAIR_TDSTAT, Reg.TIM_CDCFLUSH])) ∧
    (s.tdmUp = true → 3 ≤ vget s.pair.bad 0 0 → 3 ≤ vget s.pair.bad 1 0 → Completes .tandemDown s (fun t =>
      t.tdState = 6 ∧ t.bit Reg.PAIR_TDSTAT 3 = false ∧ t.bit Reg.PAIR_TDSTAT 4 = false ∧ t.pair.partner = none ∧ t.pair.txq = [] ∧
      t.pair.load = false ∧ (2 ≤ s.syncPhase → t.syncPhase = 2) ∧ (s.syncPhase < 2 → t.syncPhase = s.syncPhase) ∧
      Raised s t (E.TANDEM_DOWN 0) ∧ Keeps s t [Reg.PAIR_TDSTAT, Reg.PAIR_STAT, Reg.SYS_TOKSTAT, Reg.PAIR_SYNC])) ∧
    (s.tdmUp = false → s.pair.waitDone = false → Completes .tandemWaitExpiry s (fun t =>
      t.pair.waitDone = true ∧ ∀ n < 16, s.bit (Reg.LNK_CTL n) 0 = true → t.linkState n = 1)))

/-- ACTIVE is taken and left. A standby that a finding of R337 has brought to the boundary takes it: the role, the change code, the count
and the GFC of the change show, and TAKEOVER is raised, or TAKEOVER_UNSYNCED where it was not SYNCED; without a finding TAKEOVER does
nothing. A unit whose heads obey the partner on more than half of its UP links clears it. CLAIM_IN shows its level; unit B notes its wait;
and each of the two notes, where none is held, the finding that then holds, for the boundary. -/
def Obligations.TakeoverAndDualActive : Prop :=
  ∀ (level : Bool) (s : State),
    let changed (role last : Nat) (t : State) : Prop :=
      t.role = role ∧ t.fld Reg.PAIR_LAST 3 0 = last ∧ t.rd Reg.PAIR_LASTGFC = s.time.gfc ∧
      t.fld Reg.PAIR_SWAPCNT 15 0 = min (s.fld Reg.PAIR_SWAPCNT 15 0 + 1) 0xFFFF
    let noted (t : State) : Prop := t.pair.found = (s.pair.found <|> t.takeFinding)
    let up := (List.range 16).filter (fun n => s.linkUp n)
    (∀ f, s.pair.finding = some f → f ≠ 9 → s.runs = true → s.role = 1 → Completes .takeover s (fun t =>
      changed 2 1 t ∧ t.syncPhase = 0 ∧ t.pair.load = false ∧
      (s.syncPhase = 4 → s.bit Reg.PAIR_STAT 26 = false → Raised s t (E.TAKEOVER 0)) ∧
      (s.syncPhase ≠ 4 ∨ s.bit Reg.PAIR_STAT 26 = true → Raised s t (E.TAKEOVER_UNSYNCED 0)) ∧ ∀ a, t.mem8 a = s.mem8 a)) ∧
    (s.pair.finding = none → exec .takeover s = .next s) ∧
    (s.runs = true → s.unit.pairMode = true → s.role = 2 →
      up.length < 2 * (up.filter (fun n => decide (2 ≤ vget s.pair.obeyPart n 0))).length →
      Completes .dualActive s (fun t => changed 1 7 t ∧ t.syncPhase = 1 ∧ t.unit.claimOut = false ∧ Raised s t (E.DUAL_ACTIVE 0) ∧
        ∀ a, t.mem8 a = s.mem8 a)) ∧
    Completes (.claimInChange level) s (fun t => t.claimIn = level ∧ t.bit Reg.PAIR_STAT 24 = (level || s.tdmUp) ∧ noted t ∧
      Keeps s t [Reg.PAIR_STAT]) ∧
    (s.runs = true → s.unit.pairMode = true → s.unit.unitB = true → s.tdmUp = false → s.claimIn = false →
      Completes .claimInWaitExpiry s (fun t => t.pair.claimOk = true ∧ noted t ∧ Keeps s t []))

/-- State sync on the standby. MATCH with the same tack and part goes to CONFIG, and with another raises PAIR_TACK_MISMATCH; CONFIG applies
the image it holds and goes to STATE; STATE with nothing left is SYNCED; a failure starts CONFIG again. A group copy writes its registers
and bytes and nothing else of them, and does nothing while a lane is lost. RESOLUTION_TIMEOUT ends the resolution of a mismatch: on the
standby SUSPECT is set and raised for the link of the mismatch; on the active unit it is not. -/
def Obligations.StateSync : Prop :=
  (∀ (s : State), s.live = true → s.unit.pairMode = true → s.role = 1 →
    (∀ p, s.pair.partner = some p → s.tdmUp = true → s.syncPhase = 1 →
      let same := decide (p.tackId = s.rd Reg.BOOT_TKID) && decide (p.tackVer = s.rd Reg.BOOT_TKVER) &&
        decide (p.stepping = s.fld Reg.SYS_ID 7 0)
      (same = true → Completes .syncPhaseDone s (fun t => t.syncPhase = 2 ∧ t.pair.mism = false ∧
        Keeps s t [Reg.PAIR_SYNC, Reg.PAIR_CLAIM])) ∧
      (same = false → s.pair.mism = false → Completes .syncPhaseDone s (fun t => t.syncPhase = 1 ∧ t.pair.mism = true ∧
        t.fld Reg.PAIR_CLAIM 15 0 = 0 ∧ t.unit.claimOut = false ∧ Raised s t (E.PAIR_TACK_MISMATCH 0) ∧ Keeps s t [Reg.PAIR_CLAIM]))) ∧
    (∀ x, s.pair.image = some x → s.tdmUp = true → s.syncPhase = 2 → Completes .syncPhaseDone s (fun t =>
      t.syncPhase = 3 ∧ t.pair.image = none ∧ t.pair.epoch = x.commits)) ∧
    (s.tdmUp = true → s.syncPhase = 3 → s.fld Reg.PAIR_SYNC 31 16 = 0 → Completes .syncPhaseDone s (fun t =>
      t.syncPhase = 4 ∧ t.rd Reg.PAIR_SYNCGFC = s.time.gfc ∧ Raised s t (E.PAIR_SYNCED 0) ∧
      Keeps s t [Reg.PAIR_SYNC, Reg.PAIR_SYNCGFC])) ∧
    (s.syncPhase = 2 ∨ s.syncPhase = 3 → Completes .syncFail s (fun t =>
      t.syncPhase = 2 ∧ t.fld Reg.PAIR_SYNC 31 16 = 0 ∧ t.pair.image = none ∧ Raised s t (E.SYNC_FAIL 0) ∧ Keeps s t [Reg.PAIR_SYNC])) ∧
    (∀ g : SyncGroup, s.syncPhase = 3 →
      (s.lanesUp = true → (g.regs.map (·.1)).Nodup → (g.mem.map (·.1)).Nodup → Completes (.syncGroupCopy g) s (fun t =>
        (∀ x ∈ g.regs, x.1 ≠ Reg.PAIR_SYNC → t.rd x.1 = x.2) ∧
        (∀ a, a ∉ g.regs.map (·.1) → a ≠ Reg.PAIR_SYNC → t.rd a = s.rd a) ∧
        (∀ x ∈ g.mem, t.mem8 x.1 = x.2) ∧ (∀ a, a ∉ g.mem.map (·.1) → t.mem8 a = s.mem8 a) ∧
        t.fld Reg.PAIR_SYNC 31 16 = g.left % 65536)) ∧
      (s.lanesUp = false → exec (.syncGroupCopy g) s = .next s))) ∧
  (∀ (s : State), s.runs = true → s.bit Reg.PAIR_STAT 26 = true → Completes .resolutionTimeout s (fun t =>
    t.bit Reg.PAIR_STAT 26 = false ∧ t.pair.resEnd = some s.time.mono ∧
    (s.role = 1 → t.bit Reg.PAIR_STAT 27 = true ∧ Raised s t (E.SUSPECT (s.fld Reg.PAIR_MM 19 16)) ∧
      t.evr.offers.length = s.evr.offers.length + 1) ∧
    (s.role ≠ 1 → t.bit Reg.PAIR_STAT 27 = s.bit Reg.PAIR_STAT 27 ∧ t.evr = s.evr) ∧ Keeps s t [Reg.PAIR_STAT]))

/-- A remount is requested by REMOUNT_NOW, by the timer, or again by the retry. On the active unit with a SYNCED standby, outside a
dwell, and with the token free, the token is taken for activity 1 and a swap is proposed for GFC + 4; while the token is held the
request waits, counted and raised as busy; after its hour it is skipped. Swaps. At the turnover before G_h the outgoing unit sends the
order where it has the acknowledgement and cancels otherwise; in G_h the outgoing unit leaves ACTIVE and the incoming one, with the
order, takes it. A take-back, a health remount and the end of a dwell propose a swap of their kind for GFC + 4. -/
def Obligations.RemountsAndSwaps : Prop :=
  (∀ (p : Port) (v : Word) (s : State), s.canSwap = true → s.pair.dwell = false →
    let goes (t : State) : Prop := t.tokHeld = true ∧ t.tokMine = true ∧ t.tokAct = 1 ∧ t.pair.remWait = false ∧
      t.pair.swap = some { out := true, gh := (s.gfcN + 4) % 2 ^ 32, ok := false, kind := 3 }
    let waits (t : State) : Prop := t.pair.remWait = true ∧ t.pair.swap = none ∧ Raised s t (E.MAINT_BUSY 0) ∧
      t.fld Reg.SYS_TOKREF 15 0 = min (s.fld Reg.SYS_TOKREF 15 0 + 1) 0xFFFF
    (s.tokHeld = false → Completes (.remountNow p v) s goes) ∧ (s.tokHeld = true → Completes (.remountNow p v) s waits) ∧
    (s.pair.remAt.isSome = true → s.pair.remWait = false →
      (s.tokHeld = false → Completes .remountTimer s (fun t => goes t ∧ Keeps s t [Reg.SYS_TOKSTAT, Reg.SYS_TOKGFC])) ∧
      (s.tokHeld = true → Completes .remountTimer s (fun t => waits t ∧ Keeps s t [Reg.SYS_TOKREF]))) ∧
    (s.pair.remWait = true →
      (s.tokHeld = false → Completes .remountRetry s (fun t => goes t ∧ Keeps s t [Reg.SYS_TOKSTAT, Reg.SYS_TOKGFC])) ∧
      (∀ x, s.pair.remAt = some x → s.tokHeld = true →
        (s.time.mono < x → Completes .remountRetry s (fun t => waits t ∧ Keeps s t [Reg.SYS_TOKREF])) ∧
        (x ≤ s.time.mono → Completes .remountRetry s (fun t => t.pair.remWait = false ∧ Raised s t (E.REMOUNT_SKIPPED 0) ∧
          t.pair.remAt = some (s.time.mono + s.remountLen) ∧ Keeps s t []))))) ∧
  (∀ (x : SwapSt) (q : PartnerStat) (s : State), s.runs = true →
    let proposed (kind : Nat) (t : State) : Prop := t.pair.swap = some { out := true, gh := (s.gfcN + 4) % 2 ^ 32, ok := false, kind := kind }
    (s.pair.swap = some x → x.out = true → s.role = 2 → (s.gfcN + 1) % 2 ^ 32 = x.gh → s.unit.pairMode = true →
      (x.ok = true → Completes .swapOrder s (fun t => t.pair.txq = s.pair.txq ++ [.order] ∧ t.pair.swap = s.pair.swap ∧ Keeps s t [])) ∧
      (x.ok = false → Completes .swapOrder s (fun t => t.pair.swap = none ∧ t.role = 2 ∧ Raised s t (E.ROLE_SWAP_FAIL 0)))) ∧
    (s.pair.swap = some x → s.gfcN = x.gh → x.ok = true → (x.out = true ∧ s.role = 2 ∨ x.out = false ∧ s.role = 1) →
      Completes .roleSwap s (fun t => t.role = (if x.out = true then 1 else 2) ∧ Raised s t (E.ROLE_SWAP 0) ∧
        t.rd Reg.PAIR_LASTGFC = s.time.gfc ∧ ∀ a, t.mem8 a = s.mem8 a)) ∧
    (s.canSwap = true → s.pair.dwell = true → Completes .remountDwellEnd s (fun t =>
      proposed 4 t ∧ t.pair.back = true ∧ t.bit Reg.PAIR_STAT 27 = (s.bit Reg.PAIR_STAT 27 && s.pair.dwellMm) ∧
      Keeps s t [Reg.PAIR_STAT])) ∧
    (s.canSwap = true → s.pair.partner = some q →
      (s.unit.unitB = true → s.bit Reg.PAIR_CTL 0 = true → s.tokHeld = false → q.health = 7 →
        Completes .revertTakeback s (fun t => proposed 2 t ∧ t.tokHeld = false ∧ Keeps s t [])) ∧
      (s.bit Reg.PAIR_CTL 1 = true → s.fld Reg.PAIR_HEALTH 2 0 < q.health →
        (s.tokHeld = false → Completes .healthRemount s (fun t => proposed 5 t ∧ t.tokMine = true ∧ t.tokAct = 1 ∧
          Keeps s t [Reg.SYS_TOKSTAT, Reg.SYS_TOKGFC])) ∧
        (s.tokHeld = true → Completes .healthRemount s (fun t => t.pair.swap = none ∧ Raised s t (E.MAINT_BUSY 0) ∧
          Keeps s t [Reg.SYS_TOKREF])))))

/-- PAIR_OOS without REMNOW: on a unit that is not active OOS is set and, in a pair, the claim is zero at once; on the active unit OOS
stays as it is. The maintenance token. A valid request on the unit that decides is granted where the token is free, and refused,
counted and raised where it is held; a standby's goes to the active unit and is pending. A release, or the hour's end, frees a token
that this unit holds for a host's activity and locks the injection block. -/
def Obligations.ServiceAndToken : Prop :=
  (∀ (p : Port) (v : Word) (s : State), s.runs = true → bitOf v 31 = false →
    (s.role ≠ 2 → Completes (.pairOos p v) s (fun t => t.bit Reg.PAIR_CTL 30 = true ∧
      (s.unit.pairMode = true → t.fld Reg.PAIR_CLAIM 15 0 = 0 ∧ t.unit.claimOut = false) ∧ Keeps s t [Reg.PAIR_CTL, Reg.PAIR_CLAIM])) ∧
    (s.role = 2 → Completes (.pairOos p v) s (fun t => t.bit Reg.PAIR_CTL 30 = s.bit Reg.PAIR_CTL 30 ∧ t.role = 2 ∧
      Keeps s t [Reg.PAIR_CTL, Reg.PAIR_CLAIM]))) ∧
  (∀ (p : Port) (v : Word) (s : State), s.runs = true →
    let act := fieldOf v 3 0
    let freed (t : State) : Prop := t.tokHeld = false ∧ t.bit Reg.INJ_STAT 31 = false ∧ t.flt.injKey = none ∧
      Keeps s t [Reg.SYS_TOKSTAT, Reg.INJ_STAT]
    (bitOf v 30 = false → 1 ≤ act → act ≤ 5 → (s.unit.pairMode = false ∨ s.role = 2) →
      (s.tokHeld = false → Completes (.tokenRequest p v) s (fun t => t.tokHeld = true ∧ t.tokMine = true ∧ t.tokAct = act ∧
        t.fld Reg.SYS_TOKSTAT 7 0 = 0 ∧ t.rd Reg.SYS_TOKGFC = s.time.gfc ∧ Keeps s t [Reg.SYS_TOKSTAT, Reg.SYS_TOKGFC])) ∧
      (s.tokHeld = true → Completes (.tokenRequest p v) s (fun t => t.tokHeld = true ∧ t.tokMine = s.tokMine ∧ t.tokAct = s.tokAct ∧
        t.fld Reg.SYS_TOKSTAT 7 0 = 1 ∧ t.fld Reg.SYS_TOKREF 15 0 = min (s.fld Reg.SYS_TOKREF 15 0 + 1) 0xFFFF ∧
        Raised s t (E.MAINT_BUSY 0) ∧ Keeps s t [Reg.SYS_TOKSTAT, Reg.SYS_TOKREF]))) ∧
    (bitOf v 30 = false → 1 ≤ act → act ≤ 5 → s.unit.pairMode = true → s.role ≠ 2 → s.tdmUp = true →
      Completes (.tokenRequest p v) s (fun t => t.bit Reg.SYS_TOKSTAT 29 = true ∧ t.tokHeld = s.tokHeld ∧
        t.pair.txq = s.pair.txq ++ [.fwd s.gfcN (.tokenRequest act)] ∧ Keeps s t [Reg.SYS_TOKSTAT])) ∧
    (s.tokHeld = true → s.tokMine = true → 3 ≤ s.tokAct →
      (bitOf v 31 = false → Completes (.tokenRelease p v) s freed) ∧
      Completes .maintExpired s (fun t => freed t ∧ Raised s t (E.MAINT_EXPIRED 0))))

/-! ## Faults, events, memory protection and injection (R355 to R378) -/

/-- FAULT_CLASSIFY takes the message at the head of the queue. Every class shows it as the last message and counts its kind; a
contained or fatal one takes a place of the list, or the overflow is raised, and offers a FAULT record with the staged snapshots that
belong to it; a corrected one is only counted; a fatal one halts the unit with its local outputs safe and no claim, but for a clock
fault, whose reaction was taken at its decision. -/
def Obligations.FaultClassification : Prop :=
  ∀ (s : State), s.awake = true → ∀ (m : FltMsg) (rest : List FltMsg), s.flt.inq = m :: rest → ∀ k, m.kindIdx = some k →
    let x := { m with cls := if m.cls = 3 then 2 else m.cls }
    let shown (t : State) : Prop := t.rdN Reg.FLT_LAST_LO = x.bits % 2 ^ 32 ∧ t.rdN Reg.FLT_LAST_HI = x.bits / 2 ^ 32 ∧
      t.rd Reg.FLT_LASTGFC = s.time.gfc ∧ t.fld (Reg.FLT_KCNT k) 15 0 = min (s.fld (Reg.FLT_KCNT k) 15 0 + 1) 0xFFFF
    let entered (t : State) : Prop :=
      (∀ i, s.fltPlace = some i → (t.fltAt i).map (fun e => (e.msg, e.kidx, e.gfc)) = some (x, k, s.time.gfc)) ∧
      (s.fltPlace = none → t.flt.list = s.flt.list ∧ t.bit Reg.FLT_STAT 30 = true ∧ Raised s t (E.FLT_OVERFLOW 0)) ∧
      (∃ r ∈ t.evr.offers, r.kind = 2 ∧ r.src = k ∧ r.sev = m.sev ∧ r.snaps = s.snapsOf x k)
    (m.cls = 0 → bitOf (s.rxn k) 27 = false → Completes .faultClassify s (fun t => shown t ∧ t.flt.inq = rest ∧
      t.flt.list = s.flt.list ∧ t.fld Reg.FLT_CNTCOR 31 0 = min (s.fld Reg.FLT_CNTCOR 31 0 + 1) 0xFFFFFFFF ∧
      Raised s t (E.FLT_CORRECTED 0) ∧
      Keeps s t [Reg.FLT_LAST_LO, Reg.FLT_LAST_HI, Reg.FLT_LASTGFC, Reg.FLT_KCNT k, Reg.FLT_CNTCOR])) ∧
    (m.cls = 1 → fieldOf (s.rxn k) 25 24 = 0 → (x.scope k).1 ≠ 7 → Completes .faultClassify s (fun t => shown t ∧
      t.flt.inq = rest ∧ entered t ∧ t.fld Reg.FLT_CNTCON 31 0 = min (s.fld Reg.FLT_CNTCON 31 0 + 1) 0xFFFFFFFF ∧
      t.fld Reg.FLT_LIFECON 31 0 = min (s.fld Reg.FLT_LIFECON 31 0 + 1) 0xFFFFFFFF ∧ Raised s t (E.FLT_CONTAINED 0) ∧
      (m.fwd = false → t.flt.minRun = true) ∧ t.unit = s.unit ∧ t.loc = s.loc ∧ ∀ a, t.mem8 a = s.mem8 a)) ∧
    ((m.cls = 2 ∨ m.cls = 3) → k < 2 → m.inj = false → fieldOf (s.rxn k) 25 24 = 0 → Completes .faultClassify s (fun t => shown t ∧
      t.flt.inq = rest ∧ entered t ∧ t.fld Reg.FLT_LIFEFAT 31 0 = min (s.fld Reg.FLT_LIFEFAT 31 0 + 1) 0xFFFFFFFF ∧
      Raised s t (E.FLT_FATAL 0) ∧ t.unit = s.unit ∧ t.loc = s.loc ∧ t.rd Reg.LE_STAT = s.rd Reg.LE_STAT)) ∧
    ((m.cls = 2 ∨ m.cls = 3) → (2 ≤ k ∨ m.inj = true) → fieldOf (s.rxn k) 25 24 = 0 → Completes .faultClassify s (fun t =>
      shown t ∧ entered t ∧ t.flt.fatalAt = some s.time.mono ∧ t.bit Reg.FLT_STAT 31 = true ∧ t.bit Reg.LE_STAT 31 = true ∧ t.unit.claimOut = false ∧
      t.fld Reg.PAIR_CLAIM 15 0 = 0 ∧ t.loc.toList.all (fun c => c.a == .safe && c.b == .safe) = true ∧
      t.fld Reg.FLT_LIFEFAT 31 0 = min (s.fld Reg.FLT_LIFEFAT 31 0 + 1) 0xFFFFFFFF ∧ Raised s t (E.FLT_FATAL 0)))

/-- FAULT_FOLLOW_UP on an item that may have one: clear where an entry asks for clear, else retry, and keep off where the retries
would exceed the smallest limit. Its entries are done, a stage gets its CLEAR (and its START one turnover later), and no other entry
changes. RETRY_COUNT_CLEAR after a quiet second in the working state clears the item's retry count; FAULT_MIN_TIME_END ends the pin's
shortest time. Neither changes an entry. -/
def Obligations.FaultFollowUps : Prop :=
  (∀ (c : Fin 8) (i : Fin 128) (s : State), s.live = true → 2 ≤ c.val → c.val ≤ 4 → s.followReady c i = true →
    let act := (List.range 64).filterMap (fun j => (s.fltAt j).filter (fun e => e.names c i && e.st == 1 && !e.msg.fwd))
    let clears := act.any (fun e => e.follow == 2)
    let n := s.retriesOf c i + 1
    let limit := act.any (fun e => decide (e.rmax < n))
    let done (made retries : Nat) (t : State) : Prop := ∀ j < 64, ∀ e, s.fltAt j = some e → e.names c i = true → e.st = 1 →
      (t.fltAt j).map (fun e => (e.st, e.made, e.retries, e.msg)) = some (2, made, retries, e.msg)
    let rest (t : State) : Prop := ∀ j < 64, (∀ e, s.fltAt j = some e → e.names c i = true → e.st ≠ 1) → t.fltAt j = s.fltAt j
    (clears = true → Completes (.faultFollowUp c i) s (fun t => done 2 (n - 1) t ∧ rest t ∧
      (c.val = 2 → i.val < 32 → (t.sg i).cmd = (s.sg i).cmd ++ [3] ∧ t.flt.startDue = s.flt.startDue))) ∧
    (clears = false → limit = false → Completes (.faultFollowUp c i) s (fun t => done 1 n t ∧ rest t ∧ t.retriesOf c i = n ∧
      Raised s t (E.FLT_RETRY i) ∧
      (c.val = 2 → i.val < 32 → (t.sg i).cmd = (s.sg i).cmd ++ [3] ∧ t.flt.startDue = s.flt.startDue ++ [i.val]))) ∧
    (clears = false → limit = true → Completes (.faultFollowUp c i) s (fun t => done 3 (n - 1) t ∧ rest t ∧
      Raised s t (E.FLT_RETRY_LIMIT i) ∧ t.sg i = s.sg i ∧ t.flt.startDue = s.flt.startDue ∧ Keeps s t []))) ∧
  (∀ (c : Fin 8) (i : Fin 128) (s : State), s.awake = true →
    (((c.val = 2 ∧ i.val < 32 ∧ s.stState i = 2) ∨ (c.val = 3 ∧ i.val < 16 ∧ s.linkUp i = true) ∨
        (c.val = 4 ∧ i.val < 64 ∧ s.fdrState i = 2)) →
      (∀ j < 64, ∀ e, s.fltAt j = some e → e.scope = c.val → e.item = i.val → 800000000 ≤ (s.time.mono - e.mono).toNat) →
      Completes (.retryCountClear c i) s (fun t => t.retriesOf c i = 0 ∧ t.flt.list = s.flt.list ∧ Keeps s t [])) ∧
    Completes .faultMinTimeEnd s (fun t => t.flt.minRun = false ∧ t.flt.list = s.flt.list ∧ Keeps s t []))

/-- FAULT_RELEASE. With ALL set every DONE entry is released, and else the entry that IDX names if it is DONE; an ACTIVE entry stays
as it is and sets RELSKIP. No other entry changes, and no scope's state does. -/
def Obligations.FaultRelease : Prop :=
  ∀ (p : Port) (v : Word) (s : State), s.runs = true → Completes (.faultRelease p v) s (fun t =>
    (∀ j < 64,
      let chosen := bitOf v 31 = true ∨ j = fieldOf v 5 0
      (∀ e, s.fltAt j = some e → chosen → e.st = 2 → t.fltAt j = some { e with st := 3 }) ∧
      (∀ e, s.fltAt j = some e → chosen → e.st = 1 → t.fltAt j = some e ∧ t.bit Reg.FLT_STAT 29 = true) ∧
      (∀ e, s.fltAt j = some e → e.st ≠ 1 → e.st ≠ 2 → t.fltAt j = some e) ∧ (s.fltAt j = none → t.fltAt j = none) ∧
      (¬chosen → t.fltAt j = s.fltAt j)) ∧
    t.stg = s.stg ∧ t.phs = s.phs ∧ t.fdr = s.fdr ∧ t.links = s.links ∧ t.loc = s.loc ∧ t.unit = s.unit ∧ Keeps s t [Reg.FLT_STAT])

/-- SCRUB_READ: a word without an error is left as it is; a single error is corrected, counted and reported as ECC_COR; a double one
stays, is counted as uncorrectable, and in context RAM is reported as CTX_ECC. The read of address 0 counts a pass of its region. -/
def Obligations.ScrubCorrects : Prop :=
  ∀ (r : Fin 16) (addr : Nat) (s : State), s.awake = true →
    let hit := s.ecc.flips.find? (fun x => x.region == r.val && x.addr == addr / 16 * 16)
    (hit = none → Completes (.scrubRead r addr) s (fun t => t.ecc.flips = s.ecc.flips ∧ Keeps s t [Reg.FLT_SCRUB] ∧
      (addr < 16 → r.val = 0 → t.fld Reg.FLT_SCRUB 15 0 = min (s.fld Reg.FLT_SCRUB 15 0 + 1) 0xFFFF) ∧
      (addr < 16 → r.val = 8 → t.fld Reg.FLT_SCRUB 31 16 = min (s.fld Reg.FLT_SCRUB 31 16 + 1) 0xFFFF) ∧
      (16 ≤ addr → t.rd Reg.FLT_SCRUB = s.rd Reg.FLT_SCRUB))) ∧
    ∀ x, hit = some x →
      (x.bits.length < 2 → s.flt.inq.length < 256 → Completes (.scrubRead r addr) s (fun t => x ∉ t.ecc.flips ∧
        (∃ m ∈ t.flt.inq, m.kind = 62 ∧ m.addr = x.addr % 2 ^ 32) ∧
        t.fld Reg.FLT_ECCCNT 15 0 = min (s.fld Reg.FLT_ECCCNT 15 0 + 1) 0xFFFF ∧ t.bit Reg.FLT_ECCINFO 17 = true ∧
        Keeps s t [Reg.FLT_SCRUB, Reg.FLT_ECCCNT, Reg.FLT_ECCINFO, Reg.FLT_ECCADDR])) ∧
      (2 ≤ x.bits.length → Completes (.scrubRead r addr) s (fun t => x ∈ t.ecc.flips ∧
        t.fld Reg.FLT_ECCCNT 31 16 = min (s.fld Reg.FLT_ECCCNT 31 16 + 1) 0xFFFF ∧ t.bit Reg.FLT_ECCINFO 16 = true ∧
        (r.val = 0 → Reported t 7 0 x.addr)))

/-- EVENT_RAISE takes the oldest pulse of its source: the pending bit, the count and the last event show, and a record is offered
where the source asks for one. EVENT_CLEAR clears the bits written 1. -/
def Obligations.EventsPend : Prop :=
  ∀ (n : Fin 256) (p : Port) (i : Fin 8) (v : Word) (s : State),
    (∀ q, s.evq.find? (fun q => q.ev.src == n.val) = some q → s.awake = true → Completes (.eventRaise n) s (fun t =>
      t.evq = s.evq.erase q ∧ t.bit (Reg.EVT_PEND (n / 32)) (n % 32) = true ∧
      t.fld (Reg.EVT_SRCCNT n) 15 0 = min (s.fld (Reg.EVT_SRCCNT n) 15 0 + 1) 0xFFFF ∧
      t.fld (Reg.EVT_SRCLAST n) 15 0 = 256 * n % 65536 + q.ev.k % 256 ∧ t.fld (Reg.EVT_SRCLAST n) 23 16 = q.ev.inst % 256 ∧
      (s.bit (Reg.EVT_SRCCFG n) 26 = true → t.evr.offers.length = s.evr.offers.length + 1 ∧
        ∃ r ∈ t.evr.offers, r.kind = 1 ∧ r.src = n.val ∧ r.stamp = q.stamp ∧ r.sev = s.fld (Reg.EVT_SRCCFG n) 22 20) ∧
      (s.bit (Reg.EVT_SRCCFG n) 26 = false → t.evr = s.evr) ∧
      Keeps s t [Reg.EVT_PEND (n / 32), Reg.EVT_SRCCNT n, Reg.EVT_SRCLAST n, Reg.HST_STAT])) ∧
    (s.runs = true → Completes (.eventClear p i v) s (fun t =>
      (∀ j < 32, t.bit (Reg.EVT_PEND i) j = (s.bit (Reg.EVT_PEND i) j && !v.getLsbD j)) ∧ t.evr = s.evr ∧
      Keeps s t [Reg.EVT_PEND i]))

/-- The injection block of an unsealed part. The two keys within 1 ms unlock it where the unit holds the token for injection or runs
alone, and are refused with code 4 otherwise; INJ_LOCK, and ten idle minutes, lock it and disarm; locked, it ignores every injection
command. The injections of the unlocked block: each is taken, or refused with its code and nothing else of it. -/
def Obligations.InjectionBlock : Prop :=
  (∀ (p : Port) (v : Word) (s : State), s.runs = true → s.unit.sealed = false →
    let locked (t : State) : Prop := t.bit Reg.INJ_STAT 31 = false ∧ t.bit Reg.INJ_STAT 29 = false ∧
      t.bit Reg.INJ_STAT 28 = false ∧ Keeps s t [Reg.INJ_STAT]
    let nothing (t : State) : Prop := t.linj = s.linj ∧ t.flt.inq = s.flt.inq ∧ t.ecc = s.ecc ∧ Keeps s t []
    (fieldOf v 15 0 = 0x494E → Completes (.injUnlock p v) s (fun t => t.flt.injKey = some s.time.mono ∧ Keeps s t [])) ∧
    (fieldOf v 15 0 = 0x4A21 → ∀ x, s.flt.injKey = some x →
      ((s.time.mono - x).toNat ≤ 800000 → s.tokOk [5] = true → Completes (.injUnlock p v) s (fun t =>
        t.bit Reg.INJ_STAT 31 = true ∧ t.fld Reg.INJ_STAT 7 0 = 0 ∧ Raised s t (E.INJ_UNLOCKED 0) ∧ Keeps s t [Reg.INJ_STAT])) ∧
      ((s.time.mono - x).toNat ≤ 800000 → s.tokOk [5] = false → Completes (.injUnlock p v) s (fun t =>
        t.bit Reg.INJ_STAT 31 = s.bit Reg.INJ_STAT 31 ∧ t.fld Reg.INJ_STAT 7 0 = 4 ∧ Keeps s t [Reg.INJ_STAT])) ∧
      (800000 < (s.time.mono - x).toNat → Completes (.injUnlock p v) s (fun t => t.flt.injKey = none ∧ Keeps s t []))) ∧
    (s.bit Reg.INJ_STAT 31 = true → Completes (.injLock p v) s locked ∧ Completes .injIdleLock s locked) ∧
    (s.bit Reg.INJ_STAT 31 = false → Completes (.injLock p v) s nothing ∧ Completes (.linkInjection p v) s nothing ∧
      Completes (.eccInjectionArm p v) s nothing ∧ Completes (.laneInjectionArm p v) s nothing ∧
      Completes (.faultMessageInjection p v) s nothing)) ∧
  (∀ (p : Port) (v : Word) (s : State), s.runs = true → s.unit.sealed = false → s.bit Reg.INJ_STAT 31 = true →
    let refused (c : Nat) (w : List Nat) (t : State) : Prop := t.fld Reg.INJ_STAT 7 0 = c ∧ t.linj = s.linj ∧ t.flt.inq = s.flt.inq ∧
      t.fld Reg.INJ_STAT 31 28 = s.fld Reg.INJ_STAT 31 28 ∧ Keeps s t (Reg.INJ_STAT :: w)
    let n := fieldOf v 3 0
    let op := fieldOf v 7 5
    (5 ≤ op → Completes (.linkInjection p v) s (refused 5 [Reg.INJ_LCTL])) ∧
    (op < 5 → s.linj.isSome = true → Completes (.linkInjection p v) s (refused 3 [Reg.INJ_LCTL])) ∧
    (op < 5 → s.linj = none → s.linkUp n = false → Completes (.linkInjection p v) s (refused 6 [Reg.INJ_LCTL])) ∧
    (op < 5 → s.linj = none → s.linkUp n = true → Completes (.linkInjection p v) s (fun t =>
      t.linj.map (fun x => (x.link, x.up, x.op, x.n, x.start)) = some (n, bitOf v 4, op, max 1 (fieldOf v 15 8), fieldOf v 23 16) ∧
      t.bit Reg.INJ_STAT 30 = true ∧ t.fld Reg.INJ_STAT 7 0 = 0 ∧
      t.fld Reg.INJ_CNT 15 0 = min (s.fld Reg.INJ_CNT 15 0 + 1) 0xFFFF ∧ Raised s t (E.INJ_APPLIED 0) ∧
      Keeps s t [Reg.INJ_LCTL, Reg.INJ_STAT, Reg.INJ_LCNT, Reg.INJ_CNT])) ∧
    (let bad := decide (9 ≤ fieldOf v 27 24) || decide (136 < fieldOf v 7 0) || (bitOf v 23 && decide (136 < fieldOf v 15 8))
     (bad = true → Completes (.eccInjectionArm p v) s (refused 5 [Reg.INJ_ECTL])) ∧
     (bad = false → Completes (.eccInjectionArm p v) s (fun t => t.bit Reg.INJ_STAT 29 = true ∧ t.fld Reg.INJ_STAT 7 0 = 0 ∧
       t.fld Reg.INJ_ECTL 27 24 = fieldOf v 27 24 ∧ t.ecc = s.ecc ∧ Keeps s t [Reg.INJ_ECTL, Reg.INJ_STAT]))) ∧
    Completes (.laneInjectionArm p v) s (fun t => t.bit Reg.INJ_STAT 28 = true ∧ t.fld Reg.INJ_STAT 7 0 = 0 ∧
      t.fld Reg.INJ_LANE 7 0 = fieldOf v 7 0 ∧ Keeps s t [Reg.INJ_LANE, Reg.INJ_STAT]) ∧
    (s.injMessage.kindIdx = none → Completes (.faultMessageInjection p v) s (refused 5 [])) ∧
    ∀ k, s.injMessage.kindIdx = some k →
      (s.injInstOk s.injMessage k = false → Completes (.faultMessageInjection p v) s (refused 5 [])) ∧
      (s.injInstOk s.injMessage k = true → (s.injMessage.cls ≠ 0 ∨ s.flt.inq.length < 256) →
        Completes (.faultMessageInjection p v) s (fun t => s.injMessage ∈ t.flt.inq ∧ t.fld Reg.INJ_STAT 7 0 = 0 ∧
          t.fld Reg.INJ_CNT 15 0 = min (s.fld Reg.INJ_CNT 15 0 + 1) 0xFFFF ∧ Raised s t (E.INJ_APPLIED 0))))

/-! ## Records and the saddlebag (R385 to R403) -/

/-- The recorder. RECORD_OFFER takes the first offer in the order of R388 into the queue; a full queue drops an EVENT record and lets
any other wait. RECORD_STORE gives the oldest queued record the next SEQ, which the staged snapshots that belong to it take, notes the
evicted records that were due for the log, or drops the record where the rule of R390 finds no room. LOG_MIRROR first writes the GAP
record that names the lost records before the next due one; else it copies the next due record to the log, and one whose words do not
read joins the lost ones. -/
def Obligations.RecorderStores : Prop :=
  ∀ (s : State), s.awake = true →
    (∀ r, nextOffer s.evr.offers = some r → r.sev < 8 →
      (s.evr.queue.length < 128 → Completes .recordOffer s (fun t => t.evr.queue = s.evr.queue ++ [s.stampRec r] ∧
        t.evr.offers = s.evr.offers.erase r ∧ t.evr.ring = s.evr.ring ∧ Keeps s t [])) ∧
      (128 ≤ s.evr.queue.length → r.kind = 1 → Completes .recordOffer s (fun t => t.evr.queue = s.evr.queue ∧
        t.evr.offers = s.evr.offers.erase r ∧ t.fld (Reg.EVR_DROP r.sev) 31 0 = min (s.fld (Reg.EVR_DROP r.sev) 31 0 + 1) 0xFFFFFFFF ∧
        t.bit Reg.EVR_STAT 31 = true ∧ Keeps s t [Reg.EVR_DROP r.sev, Reg.EVR_STAT])) ∧
      (128 ≤ s.evr.queue.length → r.kind ≠ 1 → exec .recordOffer s = .next s)) ∧
    (∀ r rest, s.evr.queue = r :: rest → r.sev < 8 →
      (makeRoom 32768 r.sev r.cells s.evr.ring = none → Completes .recordStore s (fun t => t.evr.queue = rest ∧
        t.evr.ring = s.evr.ring ∧ t.fld (Reg.EVR_DROP r.sev) 31 0 = min (s.fld (Reg.EVR_DROP r.sev) 31 0 + 1) 0xFFFFFFFF ∧
        Keeps s t [Reg.EVR_DROP r.sev])) ∧
      (∀ keep gone, makeRoom 32768 r.sev r.cells s.evr.ring = some (keep, gone) → Completes .recordStore s (fun t =>
        t.evr.queue = rest ∧ t.evr.ring = keep ++ [{ r := r, seq := s.rdN Reg.EVR_SEQ, mir := false }] ∧
        t.rdN Reg.EVR_SEQ = seqNext (s.rdN Reg.EVR_SEQ) ∧ t.fld Reg.EVR_RCNT 15 0 = t.evr.ring.length % 65536 ∧
        t.fld Reg.EVR_WRCNT 31 0 = min (s.fld Reg.EVR_WRCNT 31 0 + 1) 0xFFFFFFFF ∧ t.evr.log = s.evr.log ∧
        (∀ q : Nat, q ∈ t.evr.gap ↔ q ∈ s.evr.gap ∨ q ∈ (gone.filter (fun x => s.mirrorDue x)).map (·.seq)) ∧
        (∀ i < 98, ∀ p, (s.slotOf i).staged = some p → p.seq = 0 → r.snaps.contains (p.slot, p.stamp.mono) = true →
          (t.slotOf i).staged = some { p with seq := s.rdN Reg.EVR_SEQ }) ∧
        Keeps s t [Reg.EVR_SEQ, Reg.EVR_WRCNT, Reg.EVR_RCNT, Reg.EVR_OLDEST, Reg.EVR_MIRSEQ, Reg.EVR_STAT, Reg.INJ_STAT,
          Reg.INJ_EADDR, Reg.INJ_CNT]))) ∧
    (s.fwOk = true → s.bit Reg.EVR_CFG 8 = true →
      let noted (l : List StoredRec) := l.map (fun x => (x.r.kind, x.r.sev, x.seq, x.r.payload))
      (∀ first more, s.gapRun = first :: more → Completes .logMirror s (fun t =>
        t.evr.gap = s.evr.gap.drop (more.length + 1) ∧ t.bit Reg.EVR_STAT 29 = true ∧ t.evr.ring = s.evr.ring ∧
        (∀ keep gone, makeRoom 65536 3 3 s.evr.log = some (keep, gone) → noted t.evr.log =
          noted keep ++ [(0xA, 3, first, leBytes 4 s.time.wallNs ++ leBytes 4 first ++ leBytes 4 (more.length + 1))]))) ∧
      (∀ x, s.nextMirror = some x → s.gapRun = [] →
        (s.eccBad 5 (seqAddr x.seq) (seqAddr x.seq + 1024) = false → Completes .logMirror s (fun t =>
          t.evr.ring = (s.markMirrored x).evr.ring ∧ t.evr.gap = s.evr.gap ∧
          ∀ keep gone, makeRoom 65536 x.r.sev x.r.cells s.evr.log = some (keep, gone) → t.evr.log = keep ++ [{ x with mir := true }])) ∧
        (s.eccBad 5 (seqAddr x.seq) (seqAddr x.seq + 1024) = true → Completes .logMirror s (fun t =>
          t.evr.ring = (s.markMirrored x).evr.ring ∧ t.evr.log = s.evr.log ∧ t.evr.gap = insertSeq x.seq s.evr.gap))))

/-- Reading records. A write of EVR_RSEL starts a selection; its end finds the record of R394, with its words and SEQ, or none, and the
words it read on the way count their memory errors; a read
of EVR_RDATA returns the word at the offset while the record is in its cells, zero past its end, and advances the offset; while a
selection runs it returns zero and advances nothing. -/
def Obligations.RecordReads : Prop :=
  ∀ (p : Port) (v : Word) (s : State), s.runs = true →
    let x := s.recSel p
    let o := s.fld (bankKey p Reg.EVR_ROFS) 10 0
    Completes (.recordSelect p v) s (fun t => (t.recSel p).want = some (v.toNat, s.bit (bankKey p Reg.EVR_RCTL) 0) ∧
      (t.recSel p).words = x.words ∧ Keeps s t [bankKey p Reg.EVR_RSEL]) ∧
    (∀ n log, x.want = some (n, log) → (log = true → s.fwOk = true) →
      let found := s.findRec (if log = true then s.evr.log else s.evr.ring) (if log = true then 8 else 5) n
      (∀ y, found = some y → Completes (.recordSelectDone p) s (fun t => t.recSel p = { words := bytesWords y.bytes, seq := y.seq, log := log, want := none } ∧
        t.rd (bankKey p Reg.EVR_ROFS) = 0 ∧ Keeps s t [bankKey p Reg.EVR_ROFS, Reg.FLT_ECCCNT, Reg.FLT_ECCINFO, Reg.FLT_ECCADDR])) ∧
      (found = none → Completes (.recordSelectDone p) s (fun t => (t.recSel p).words = [] ∧ (t.recSel p).want = none ∧
        Keeps s t [bankKey p Reg.EVR_ROFS, Reg.FLT_ECCCNT, Reg.FLT_ECCINFO, Reg.FLT_ECCADDR]))) ∧
    (∀ n, x.want = some (n, true) → s.fwOk = false → exec (.recordSelectDone p) s = .next s) ∧
    (x.want = none → Completes (.recordDataRead p) s (fun t => t.rdN (bankKey p Reg.EVR_ROFS) = (o + 4) % 2048 ∧
      (∀ w, x.words[o / 4]? = some w → s.recAlive x = true → vget t.readData (portIdx p) 0 = w) ∧
      (x.words[o / 4]? = none → vget t.readData (portIdx p) 0 = 0) ∧ t.evr = s.evr ∧ Keeps s t [bankKey p Reg.EVR_ROFS])) ∧
    (x.want ≠ none → Completes (.recordDataRead p) s (fun t => vget t.readData (portIdx p) 0 = 0 ∧ t.evr = s.evr ∧ Keeps s t []))

/-- The saddlebag. A due snapshot replaces the older copy of its slot with the next GEN; a selection clears the offset; a read returns
a word of the newest valid copy and advances the offset; a clear empties FULL and COUNT of the selected slot, a clear of all those of
every slot, and neither the copies. FLT_LIFECON_FLUSH stores the lifetime count at most once in 60 s. -/
def Obligations.SaddlebagAndLifetime : Prop :=
  ∀ (p : Port) (v : Word) (s : State),
    (s.unit.life ≠ .off → ∀ i, ([96, 97] ++ List.range 96).find? (fun i => s.sbgDue i) = some i → ∀ y, (s.slotOf i).staged = some y →
      let x := s.slotOf i
      Completes .saddlebagWrite s (fun t => (t.slotOf i).staged = none ∧ (t.slotOf i).full = true ∧ (t.slotOf i).count = x.count ∧
        (∀ a, x.copyA = some a → ∀ b, x.copyB = some b → genNewer a.gen b.gen = true → (t.slotOf i).copyA = some a) ∧
        (∀ a, x.copyA = some a → ∀ b, x.copyB = some b → genNewer a.gen b.gen = false → (t.slotOf i).copyB = some b) ∧
        (∃ c ∈ (t.slotOf i).copyA.toList ++ (t.slotOf i).copyB.toList, c.bytes = snapBytes y c.gen x.count) ∧
        (∀ j < 98, j ≠ i → t.slotOf j = s.slotOf j) ∧
        t.fld Reg.SBG_WRCNT 31 0 = min (s.fld Reg.SBG_WRCNT 31 0 + 1) 0xFFFFFFFF ∧
        Keeps s t [Reg.SBG_WRCNT, Reg.INJ_STAT, Reg.INJ_EADDR, Reg.INJ_CNT])) ∧
    (s.runs = true →
      let i := s.fld (bankKey p Reg.SBG_SEL) 6 0
      let o := s.fld (bankKey p Reg.SBG_ROFS) 7 0
      let cleared (j : Nat) (t : State) : Prop := t.slotOf j = { s.slotOf j with full := false, count := 0 }
      Completes (.saddlebagSelect p v) s (fun t => t.fld (bankKey p Reg.SBG_SEL) 6 0 = fieldOf v 6 0 ∧ t.rd (bankKey p Reg.SBG_ROFS) = 0 ∧
        t.sbg = s.sbg ∧ Keeps s t [bankKey p Reg.SBG_SEL, bankKey p Reg.SBG_ROFS]) ∧
      (∀ c, s.sbgNewest i = some c → ∀ w, (bytesWords c.bytes)[o / 4]? = some w → Completes (.saddlebagDataRead p) s (fun t =>
        vget t.readData (portIdx p) 0 = w ∧ t.rdN (bankKey p Reg.SBG_ROFS) = (o + 4) % 256 ∧ t.sbg = s.sbg)) ∧
      (bitOf v 30 = false → i < 98 → Completes (.saddlebagClear p v) s (fun t => cleared i t ∧
        (∀ j < 98, j ≠ i → t.slotOf j = s.slotOf j) ∧ Keeps s t [])) ∧
      Completes (.saddlebagClearAll p v) s (fun t => (∀ j < 98, cleared j t) ∧ Keeps s t [])) ∧
    (s.awake = true → s.rdN Reg.FLT_LIFECON ≠ s.flt.lifeNv →
      (∀ x, s.flt.lifeAt = some x → 48000000000 ≤ (s.time.mono - x).toNat) →
      Completes .fltLifeconFlush s (fun t => t.flt.lifeNv = s.rdN Reg.FLT_LIFECON ∧ t.flt.lifeAt = some s.time.mono ∧ Keeps s t []))

/-! ## The host ports (R404 to R424) -/

/-- SMBUS_START opens a transaction with the comparators as they stand; a repeated one keeps the comparator that serves. SMBUS_ADDRESS
acknowledges an address that a comparator matches and whose function is answered, shows and counts it; it answers no other address,
and counts one that only firmware could serve. SMBUS_WRITE_BYTE. The first two bytes are the pointer; the update function takes no
pointer outside its page. Without PEC the fourth byte of a word at the pointer writes its register, as REGISTER_WRITE does, and a word
without its first bytes is discarded and counted; with PEC the bytes wait for STOP, at most 257 of them. SMBUS_READ_BYTE sends the
next byte of the register at the pointer, read when its first byte is due, and advances the pointer; after the counted bytes with PEC
it sends the PEC byte. A byte with a 1 bit that another device overrides loses arbitration; a byte that the host does not acknowledge
is the last. -/
def Obligations.SmbusBytes : Prop :=
  (∀ (b : Byte) (s : State), s.fabricUp = true →
    ((s.smb.active && s.smb.comp.isSome) = false → Completes .smbusStart s (fun t =>
      t.smb.active = true ∧ t.smb.addrDue = true ∧ t.smb.comp = none ∧ (∀ k : Fin 4, t.acmp k = s.rd (Reg.HST_ACMP k)) ∧ Keeps s t [])) ∧
    (s.smb.active = true → s.smb.comp.isSome = true → s.smb.reading = true → Completes .smbusStart s (fun t =>
      t.smb.addrDue = true ∧ t.smb.comp = s.smb.comp ∧ (∀ k : Fin 4, t.acmp k = s.rd (Reg.HST_ACMP k)) ∧ Keeps s t [])) ∧
    (s.smb.active = true → s.smb.addrDue = true → s.smb.nacked = false →
      (s.smbMatch (b.toNat / 2) = none → Completes (.smbusAddress b) s (fun t => t.smb = SmbSt.initial ∧
        t.bit Reg.HST_STAT 28 = false ∧ Keeps s t [Reg.HST_STAT])) ∧
      ∀ k, s.smbMatch (b.toNat / 2) = some k →
        (s.smb.comp = some k ∨ s.smbAnswers k = true → Completes (.smbusAddress b) s (fun t =>
          t.smb.ack = true ∧ t.smb.comp = some k ∧ t.smb.reading = b.getLsbD 0 ∧ t.smb.nptr = 0 ∧ t.smb.addrDue = false ∧
          t.fld Reg.HST_STAT 22 16 = b.toNat / 2 ∧ t.bit Reg.HST_STAT 28 = true ∧
          t.fld (Reg.HST_ACNT k) 31 0 = min (s.fld (Reg.HST_ACNT k) 31 0 + (if s.smb.comp = some k then 0 else 1)) 0xFFFFFFFF ∧
          Keeps s t [Reg.HST_STAT, Reg.HST_ACNT k])) ∧
        (s.smb.comp ≠ some k → s.smbAnswers k = false → fieldOf (s.acmp k) 17 16 = 3 → s.inPaddock = false →
          Completes (.smbusAddress b) s (fun t => t.smb = SmbSt.initial ∧
            t.fld Reg.HST_FWBUSY 15 0 = min (s.fld Reg.HST_FWBUSY 15 0 + 1) 0xFFFF ∧ Raised s t (E.HOST_BUSY 0) ∧
            Keeps s t [Reg.HST_STAT, Reg.HST_FWBUSY])))) ∧
  (∀ (b : Byte) (k : Nat) (s : State), s.fabricUp = true → s.smb.comp = some k → s.smb.addrDue = false → s.smb.reading = false →
    s.smb.nacked = false →
    let p := s.ptr
    (s.smb.nptr = 0 → (fieldOf (s.acmp k) 17 16 ≠ 3 ∨ b = 8) → Completes (.smbusWriteByte b) s (fun t =>
      t.smb.ptrHi = b ∧ t.smb.nptr = 1 ∧ t.smb.ack = true ∧ Keeps s t [])) ∧
    (s.smb.nptr = 0 → fieldOf (s.acmp k) 17 16 = 3 → b ≠ 8 → Completes (.smbusWriteByte b) s (fun t =>
      t.smb.ack = false ∧ t.smb.nacked = true ∧ Keeps s t [])) ∧
    (s.smb.nptr = 1 → Completes (.smbusWriteByte b) s (fun t => t.rdN Reg.HST_PTR = s.smb.ptrHi.toNat * 256 + b.toNat ∧
      t.smb.nptr = 2 ∧ t.smb.ack = true ∧ Keeps s t [Reg.HST_PTR])) ∧
    (2 ≤ s.smb.nptr → s.pecMode = true →
      (s.smb.buf.length < 257 → Completes (.smbusWriteByte b) s (fun t => t.smb.buf = s.smb.buf ++ [b] ∧ t.smb.ack = true ∧ Keeps s t [])) ∧
      (257 ≤ s.smb.buf.length → Completes (.smbusWriteByte b) s (fun t => t.smb.buf = s.smb.buf ∧ t.smb.ack = false ∧
        t.smb.nacked = true ∧ Keeps s t []))) ∧
    (2 ≤ s.smb.nptr → s.pecMode = false →
      (p % 4 ≠ 3 → Completes (.smbusWriteByte b) s (fun t => t.smb.word = s.smb.word ++ [b] ∧ t.rdN Reg.HST_PTR = pageNext p ∧
        Keeps s t [Reg.HST_PTR])) ∧
      (p % 4 = 3 → s.smb.word.length ≠ 3 → Completes (.smbusWriteByte b) s (fun t => t.smb.word = [] ∧ t.rdN Reg.HST_PTR = pageNext p ∧
        t.fld Reg.HST_PARTIAL 15 0 = min (s.fld Reg.HST_PARTIAL 15 0 + 1) 0xFFFF ∧ Raised s t (E.HOST_PARTIAL 0) ∧
        Keeps s t [Reg.HST_PTR, Reg.HST_PARTIAL, Reg.HST_STAT])) ∧
      (p % 4 = 3 → s.smb.word.length = 3 → s.fwBusy .smbus (p / 4 * 4) = true → Completes (.smbusWriteByte b) s (fun t =>
        t.smb.ack = false ∧ t.smb.nacked = true ∧ t.fld Reg.HST_FWBUSY 15 0 = min (s.fld Reg.HST_FWBUSY 15 0 + 1) 0xFFFF ∧
        Keeps s t [Reg.HST_PTR, Reg.HST_FWBUSY])) ∧
      (p % 4 = 3 → s.smb.word.length = 3 → s.fwBusy .smbus (p / 4 * 4) = false →
        let s' := ({ s with smb := { s.smb with pec := crc8Byte s.smb.pec b, ack := true, word := [] } }).wrN Reg.HST_PTR (pageNext p)
        let u := s'.hostWrite .smbus p (wordOfBytes (s.smb.word ++ [b]))
        exec (.registerWrite .smbus (BitVec.ofNat 16 p) (wordOfBytes (s.smb.word ++ [b]))) s' = .next u ∧
        Completes (.smbusWriteByte b) s (fun t => t = { u with smb := { u.smb with words := u.smb.words + 1 } })))) ∧
  (∀ (lost ack : Bool) (s : State), s.fabricUp = true → s.smb.comp.isSome = true → s.smb.reading = true → s.smb.addrDue = false →
    s.smb.nacked = false → s.smb.lost = false →
    let sent (b : Byte) (t : State) : Prop := vget t.readData 0 0 = b.setWidth 32 ∧
      ((lost && b != 0) = true → t.smb.lost = true ∧ t.bit Reg.HST_STAT 3 = true ∧ Raised s t (E.HOST_ARBLOST 0)) ∧
      ((lost && b != 0) = false → t.smb.nacked = !ack ∧ t.smb.lost = false)
    (s.smb.left ≠ some 0 → (s.smb.left = none → s.pecMode = false) →
      (s.smb.out = [] → Completes (.smbusReadByte lost ack) s (fun t =>
        sent (byteOf (s.fabricRead .smbus (s.ptr / 4 * 4)).1 (s.ptr % 4)) t ∧ t.rdN Reg.HST_PTR = (s.ptr + 1) % 65536 ∧
        t.smb.out.length = 3 - s.ptr % 4)) ∧
      (∀ b rest, s.smb.out = b :: rest → Completes (.smbusReadByte lost ack) s (fun t =>
        sent b t ∧ t.rdN Reg.HST_PTR = (s.ptr + 1) % 65536 ∧ t.smb.out = rest ∧ Keeps s t [Reg.HST_PTR, Reg.HST_ARA, Reg.HST_STAT]))) ∧
    (s.smb.left = some 0 → Completes (.smbusReadByte lost ack) s (fun t => sent s.smb.pec t ∧ t.smb.left = none ∧
      Keeps s t [Reg.HST_ARA, Reg.HST_STAT])))

/-- How an SMBus transaction ends. SMBUS_STOP records the outcome of a write phase and the words applied; a PEC that fails discards
the buffer, and one that verifies applies it as one block; SMBUS_TIMEOUT resets the interface. ALERT_RESPONSE is answered with the
comparator's address while ALERT# is asserted, and releases it unless arbitration is lost. -/
def Obligations.SmbusEnds : Prop :=
  ∀ (lost : Bool) (s : State), s.fabricUp = true →
    let idle (t : State) : Prop := t.smb = SmbSt.initial ∧ t.bit Reg.HST_STAT 28 = false
    let writes := s.smb.comp.isSome && !s.smb.reading && !s.smb.addrDue
    let block := splitWords pageNext s.smb.bufPtr s.smb.buf.dropLast
    let told (r n : Nat) (t : State) : Prop := t.fld Reg.HST_WRSTAT 31 30 = r % 4 ∧ t.fld Reg.HST_WRSTAT 29 16 = min n 16383
    (writes = false → Completes .smbusStop s (fun t => idle t ∧ Keeps s t [Reg.HST_STAT])) ∧
    (writes = true → s.pecMode = false → Completes .smbusStop s (fun t => idle t ∧ told s.smb.result s.smb.words t ∧
      (s.smb.word ≠ [] → t.fld Reg.HST_PARTIAL 15 0 = min (s.fld Reg.HST_PARTIAL 15 0 + 1) 0xFFFF ∧ Raised s t (E.HOST_PARTIAL 0)) ∧
      Keeps s t [Reg.HST_STAT, Reg.HST_WRSTAT, Reg.HST_PARTIAL])) ∧
    (writes = true → s.pecMode = true → s.smb.nacked = false →
      (s.smb.buf = [] ∨ s.smb.pec ≠ 0 → Completes .smbusStop s (fun t => idle t ∧ told 1 0 t ∧
        t.fld Reg.HST_PECERR 15 0 = min (s.fld Reg.HST_PECERR 15 0 + 1) 0xFFFF ∧ Raised s t (E.HOST_PEC_ERR 0) ∧
        Keeps s t [Reg.HST_STAT, Reg.HST_WRSTAT, Reg.HST_PARTIAL, Reg.HST_PECERR, Reg.HST_PTR])) ∧
      (s.smb.buf ≠ [] → s.smb.pec = 0 → block.1.any (fun x => s.fwBusy .smbus x.1) = false → block.2 = 0 →
        let s' := s.wrN Reg.HST_PTR ((List.range s.smb.buf.dropLast.length).foldl (fun p _ => pageNext p) s.smb.bufPtr)
        let u := s'.applyBlock .smbus block.1
        Completes .smbusStop s (fun t => idle t ∧ told 0 block.1.length t ∧
          (∀ a, a ≠ Reg.HST_STAT → a ≠ Reg.HST_WRSTAT → t.rd a = u.rd a) ∧ (∀ a, t.srd a = u.srd a) ∧ ∀ a, t.mem8 a = u.mem8 a))) ∧
    Completes .smbusTimeout s (fun t => idle t ∧ t.fld Reg.HST_TIMEOUT 15 0 = min (s.fld Reg.HST_TIMEOUT 15 0 + 1) 0xFFFF ∧
      t.bit Reg.HST_STAT 2 = true ∧ Raised s t (E.HOST_TIMEOUT 0) ∧ Keeps s t [Reg.HST_STAT, Reg.HST_TIMEOUT, Reg.HST_PARTIAL, Reg.TIM_CDCFLUSH]) ∧
    (s.smb.comp = none → s.alertPin = true →
      let a := s.fld (Reg.HST_ACMP (s.fld Reg.HST_CFG 1 0)) 6 0
      (lost = false → Completes (.alertResponse lost) s (fun t => (vget t.readData 0 0).toNat % 256 = 2 * a ∧
        t.alertPin = false ∧ t.fld Reg.HST_ARA 15 0 = min (s.fld Reg.HST_ARA 15 0 + 1) 0xFFFF ∧ Keeps s t [Reg.HST_STAT, Reg.HST_ARA])) ∧
      (lost = true → a ≠ 0 → Completes (.alertResponse lost) s (fun t =>
        t.fld Reg.HST_ARA 31 16 = min (s.fld Reg.HST_ARA 31 16 + 1) 0xFFFF ∧ Raised s t (E.HOST_ARBLOST 0) ∧
        t.bit Reg.HST_STAT 30 = s.bit Reg.HST_STAT 30 ∧ Keeps s t [Reg.HST_STAT, Reg.HST_ARA]))) ∧
    (s.alertPin = false → exec (.alertResponse lost) s = .next s)

/-- An SPI frame opens with the status byte. Without CRC a whole word that is written goes to its register as REGISTER_WRITE does, and
one that is read is sent; a write with CRC waits for the frame's end, and takes effect there if its CRC verifies. A frame that may not
be is refused, and its end leaves the history bits of the next status byte. -/
def Obligations.SpiFrames : Prop :=
  ∀ (mode3 crc : Bool) (a : Addr) (bytes : List Byte) (op : Byte) (n : Nat) (s : State), s.fabricUp = true →
    let told (r w : Nat) (t : State) : Prop := t.fld Reg.HST_WRSTAT 15 14 = r ∧ t.fld Reg.HST_WRSTAT 13 0 = w
    let shows (o : Nat) (c : Bool) (t : State) : Prop := t.fld Reg.HST_SPISTAT 15 8 = o + 128 * b2n c ∧ t.spi.used = true
    let refused (t : State) : Prop := t.spi.nRef = true ∧ t.spi.miso = [0xFF] ∧ Keeps s t [Reg.HST_SPISTAT, Reg.HST_WRSTAT]
    (s.spi.cs = false → Completes (.spiFrameStart mode3) s (fun t => t.spi.cs = true ∧ t.spi.used = false ∧
      t.fld Reg.HST_SPISTAT 7 0 = s.spiStatusByte.toNat ∧ t.bit Reg.HST_SPISTAT 16 = mode3 ∧ t.bit Reg.HST_STAT 27 = true ∧
      Keeps s t [Reg.HST_SPISTAT, Reg.HST_STAT])) ∧
    (s.spi.cs = true → s.spi.used = false →
      let s' := (s.put Reg.HST_SPISTAT 15 8 (2 + 128 * b2n false)).onSpi (fun m => { m with used := true, miso := [] })
      let u := s'.hostWrite .spi a.toNat (wordOfBytes bytes)
      (s.bit Reg.HST_CFG 4 = false → a.toNat % 4 = 0 → bytes.length = 4 → s.fwBusy .spi a.toNat = false →
        exec (.registerWrite .spi a (wordOfBytes bytes)) s' = .next u ∧
        Completes (.spiWrite false a bytes) s (fun t => told 0 1 t ∧ t.spi = { u.spi with early := false } ∧
          (∀ k, k ≠ Reg.HST_WRSTAT → t.rd k = u.rd k) ∧ (∀ k, t.srd k = u.srd k) ∧ ∀ k, t.mem8 k = u.mem8 k)) ∧
      (bytes.length ≤ 257 → Completes (.spiWrite true a bytes) s (fun t => shows 2 true t ∧
        t.spi.buf.map (fun x => (x.addr, x.fixed, x.data)) = some (a.toNat, false, bytes.dropLast) ∧ Keeps s t [Reg.HST_SPISTAT])) ∧
      (a.toNat % 4 = 0 → bytes.length ≤ 257 → Completes (.spiWriteFixed true a bytes) s (fun t => shows 0xA true t ∧
        t.spi.buf.map (fun x => (x.addr, x.fixed, x.data)) = some (a.toNat, true, bytes.dropLast) ∧ Keeps s t [Reg.HST_SPISTAT])) ∧
      (a.toNat % 4 ≠ 0 → Completes (.spiWriteFixed crc a bytes) s (fun t => refused t ∧ told 3 0 t) ∧
        Completes (.spiReadFixed crc a n) s refused) ∧
      (s.bit Reg.HST_CFG 4 = true → Completes (.spiWrite false a bytes) s (fun t => refused t ∧ told 3 0 t)) ∧
      (a.toNat % 4 = 0 →
        let w (o : Nat) := (((s.put Reg.HST_SPISTAT 15 8 o).onSpi (fun m => { m with used := true, miso := [] })).fabricRead .spi a.toNat).1
        let word (w : Word) : List Byte := (List.range 4).map (fun i => byteOf w i)
        Completes (.spiRead false a 4) s (fun t => shows 3 false t ∧ t.spi.miso = word (w 3) ∧ t.spi.early = false) ∧
        Completes (.spiReadFixed false a 4) s (fun t => shows 0xB false t ∧ t.spi.miso = word (w 0xB) ∧ t.spi.early = false)) ∧
      Completes (.spiStatus crc n) s (fun t => shows 5 crc t ∧ t.spi.miso = List.replicate n (BitVec.ofNat 8 (s.fld Reg.HST_SPISTAT 7 0)) ∧
        Keeps s t [Reg.HST_SPISTAT]) ∧
      (spiOpcode (op.toNat % 128) = false → Completes (.spiRefused op) s (fun t => refused t ∧ t.spi.used = true))) ∧
    (s.spi.cs = true → s.spi.used = true →
      let ends (t : State) : Prop := t.spi.cs = false ∧ t.bit Reg.HST_STAT 27 = false ∧ t.spi.buf = none
      (s.spi.buf = none → s.spi.early = false → Completes .spiFrameEnd s (fun t => ends t ∧ t.spi.crcErr = s.spi.nCrc ∧
        t.spi.busy = s.spi.nBusy ∧ t.spi.refused = s.spi.nRef ∧ Keeps s t [Reg.HST_STAT])) ∧
      (s.spi.buf = none → s.spi.early = true → Completes .spiFrameEnd s (fun t => ends t ∧
        t.fld Reg.HST_TIMEOUT 31 16 = min (s.fld Reg.HST_TIMEOUT 31 16 + 1) 0xFFFF ∧ Raised s t (E.HOST_TIMEOUT 0) ∧
        Keeps s t [Reg.HST_STAT, Reg.HST_TIMEOUT, Reg.TIM_CDCFLUSH])) ∧
      (∀ x, s.spi.buf = some x → s.spi.early = false → x.ok = false → Completes .spiFrameEnd s (fun t => ends t ∧ told 1 0 t ∧
        t.spi.crcErr = true ∧ t.fld Reg.HST_PECERR 31 16 = min (s.fld Reg.HST_PECERR 31 16 + 1) 0xFFFF ∧
        Raised s t (E.HOST_PEC_ERR 0) ∧ Keeps s t [Reg.HST_STAT, Reg.HST_WRSTAT, Reg.HST_PECERR, Reg.HST_PARTIAL])))

/-! ## Images and updates (R428 to R445), the window (R460) -/

/-- An update session, while firmware serves. UPD_OPEN opens a pending session, or refuses it for the slot in use or the length;
UPD_DATA carries the header; a header that the checks accept makes the session authenticated, and its data goes by pages; the verified
image fills its slot, and one that fails ends the session with the code of its first failing check. Abort and expiry end it. -/
def Obligations.UpdateSessions : Prop :=
  ∀ (p : Port) (v : Word) (cr : Crypto) (tack : TackImage) (signer : Bool) (s : State), s.runs = true → s.fwOk = true → p ≠ .fw →
    let code (t : State) : Nat := t.fld Reg.UPD_RESULT 7 0
    let regs := [Reg.UPD_STAT, Reg.UPD_OFS, Reg.UPD_RESULT, Reg.UPD_ERRCNT]
    (s.otherOwner p = false →
      let slot := if bitOf v 4 = true then 4 else fieldOf v 1 0
      let len := s.fld Reg.UPD_LEN 23 0
      let inUse := (decide (slot < 2) && slot == s.fld Reg.BOOT_STAT 7 7) || slot == 2 + s.fld Reg.BOOT_STAT 8 8 ||
        (decide (slot < 2) && (s.upd.trialrun || s.trial))
      let badLen := decide (len < 368) || len % 4 != 0 || (decide (slot < 4) && decide (slotSize slot < len))
      (inUse = true → Completes (.updOpen p v) s (fun t => code t = 18 ∧ t.upd = s.upd ∧ Keeps s t regs)) ∧
      (inUse = false → badLen = true → Completes (.updOpen p v) s (fun t => code t = 20 ∧ t.upd = s.upd ∧ Keeps s t regs)) ∧
      (inUse = false → badLen = false → Completes (.updOpen p v) s (fun t =>
        t.pendOf p = some { slot := slot, len := len, hdr := [] } ∧ t.upd.auth = s.upd.auth ∧ Keeps s t regs))) ∧
    (s.otherOwner p = true → (s.pendOf p).isSome = true →
      Completes (.updOpen p v) s (fun t => t.pendOf p = none ∧ code t = 16 ∧ t.upd.auth = s.upd.auth ∧ Keeps s t regs)) ∧
    (∀ x, s.pendOf p = some x → s.otherOwner p = false → x.hdr.length < 256 → Completes (.updData p v) s (fun t =>
      t.pendOf p = some { x with hdr := x.hdr ++ leBytes 4 v.toNat } ∧ t.upd.auth = s.upd.auth ∧ Keeps s t [Reg.UPD_STAT])) ∧
    (∀ x, s.upd.auth = some x → s.pendOf p = none → x.src = p → x.ofs < x.len → s.bit Reg.UPD_STAT 31 = true →
      Completes (.updData p v) s (fun t => t.upd.auth = some { x with ofs := x.ofs + 4, page := x.page + 4 } ∧
        t.bit Reg.UPD_STAT 31 = decide (x.page + 4 < 256 ∧ x.ofs + 4 < x.len) ∧ Keeps s t [Reg.UPD_STAT, Reg.UPD_OFS])) ∧
    (∀ x, s.pendOf p = some x → x.hdr.length = 256 →
      let k := imageKind x.slot
      let c := s.checkContainer x.hdr k (decide (hdrTotal x.hdr = x.len) && !(k == 2 && s.unit.okh))
        { signerOk := signer, sigOk := true, tagOk := true, readErr := false } (2 ^ 32)
      (c ≠ 1 → Completes (.updHeaderCheck p signer) s (fun t => t.pendOf p = none ∧ code t = c % 256 ∧ t.upd.auth = s.upd.auth ∧
        t.flash = s.flash ∧ Keeps s t regs)) ∧
      (c = 1 → s.upd.auth = none → Completes (.updHeaderCheck p signer) s (fun t => t.pendOf p = none ∧
        t.upd.auth = some { src := p, slot := x.slot, len := x.len, hdr := x.hdr, ofs := 256, page := 256 } ∧
        t.bit Reg.UPD_STAT 30 = true ∧ (x.slot < 4 → t.slot x.slot = { Slot.erased with mark := 1 }) ∧ Keeps s t regs))) ∧
    (∀ x, s.upd.auth = some x →
      (x.ofs < x.len → s.bit Reg.UPD_STAT 31 = false → Completes .updPageProgrammed s (fun t =>
        t.bit Reg.UPD_STAT 31 = true ∧ t.upd.auth = some { x with page := 0 } ∧ Keeps s t [Reg.UPD_STAT])) ∧
      (x.ofs = x.len → s.bit Reg.UPD_STAT 29 = false →
        let k := imageKind x.slot
        let c := s.checkContainer x.hdr k (decide (hdrTotal x.hdr = x.len) && !(k == 2 && s.unit.okh)) cr (s.rdN Reg.BOOT_FWVER)
        (c = 1 → x.slot < 4 → Completes (.updVerifyDone cr tack) s (fun t => t.bit Reg.UPD_STAT 29 = true ∧ code t = 0 ∧
          t.slot x.slot = { header := x.hdr, body := x.len - 256, crypto := cr, tack := tack, mark := 2 } ∧
          Raised s t (E.UPD_DONE 0) ∧ Keeps s t regs)) ∧
        (c ≠ 1 → Completes (.updVerifyDone cr tack) s (fun t => t.upd.auth = none ∧ code t = c % 256 ∧ t.flash = s.flash ∧
          Raised s t (E.UPD_ERR 0) ∧ Keeps s t regs))) ∧
      Completes .updExpired s (fun t => t.upd.auth = none ∧ code t = 17 ∧ Raised s t (E.UPD_EXPIRED 0) ∧ Keeps s t regs) ∧
      (x.src = p → s.pendOf p = none → Completes (.updAbort p v) s (fun t => t.upd.auth = none ∧ code t = 21 ∧ Keeps s t regs)))

/-- Activation, confirmation and fallback. UPD_ACTIVATE of a verified slot rewrites the boot descriptor: a tack image is staged for
the next start, and on a unit that runs alone firmware starts a trial by a live restart; without a verified session it is refused with
code 22. A confirmation ends the trial and raises the anti-rollback counter; the end of the window, and UPD_FALLBACK, start the
restart into the previous firmware. -/
def Obligations.ActivationAndTrial : Prop :=
  ∀ (p : Port) (v : Word) (s : State), s.live = true → s.fwOk = true → p ≠ .fw →
    let restarts (t : State) : Prop := t.boot.lrStart = some s.time.mono ∧ t.boot.lrPlanned = true ∧ t.bit Reg.HST_STAT 31 = false
    (s.upd.auth = none → Completes (.updActivate p v) s (fun t => t.fld Reg.UPD_RESULT 7 0 = 22 ∧ t.flash = s.flash ∧ t.boot = s.boot ∧
      Keeps s t [Reg.UPD_RESULT])) ∧
    (∀ x, s.upd.auth = some x → x.src = p → s.bit Reg.UPD_STAT 29 = true →
      (2 ≤ x.slot → Completes (.updActivate p v) s (fun t => t.flash = (s.writeDesc (fun d => { d with tksel := x.slot - 2 })).flash ∧
        t.upd.auth = none ∧ Raised s t (E.TACK_STAGED 0) ∧ t.boot = s.boot ∧
        Keeps s t [Reg.UPD_STAT, Reg.UPD_OFS, Reg.UPD_RESULT])) ∧
      (x.slot < 2 → s.calRuns = false → s.unit.pairMode = false → Completes (.updActivate p v) s (fun t =>
        t.flash = (s.writeDesc (fun d => { d with fwsel := x.slot + 128 })).flash ∧ t.upd.auth = none ∧ restarts t ∧
        Raised s t (E.FW_ACTIVATED 0) ∧
        Keeps s t [Reg.UPD_STAT, Reg.UPD_OFS, Reg.UPD_RESULT, Reg.HST_STAT, Reg.BOOT_LRCNT, Reg.TIM_CDCFLUSH]))) ∧
    (s.upd.auth = none → s.upd.trialrun = true → Completes (.updFallback p v) s (fun t => restarts t ∧ t.upd.reason = 2 ∧ t.flash = s.flash)) ∧
    (s.upd.auth = none → s.upd.trialrun = false → Completes (.updFallback p v) s (fun t => t.boot = s.boot ∧ t.upd = s.upd ∧ Keeps s t [])) ∧
    (s.upd.trialrun = true → s.fld Reg.UPD_OVL 1 0 ≠ 2 → Completes .fwConfirmed s (fun t =>
      t.upd.trialrun = false ∧ t.upd.confirmed = true ∧ t.upd.confEnd = none ∧
      t.flash = (s.writeDesc (fun d => { d with fwsel := d.fwsel % 2 })).flash ∧
      t.arb 0 = max (s.arb 0) (hdrArb (s.slot (s.fld Reg.BOOT_STAT 7 7)).header) ∧ Raised s t (E.FW_CONFIRMED 0))) ∧
    (s.upd.trialrun = true → s.upd.confEnd.isSome = true → Completes .fwConfirmTimeout s (fun t => restarts t ∧ t.upd.reason = 1 ∧
      t.upd.confEnd = none ∧ Raised s t (E.FW_CONFIRM_TIMEOUT 0)))

/-- The settings overlay leaves the copy in use and takes the other with the GEN after the newer one, at most once in 60 s and never in a
trial. WINDOW_SELECT selects a
region and returns to its start; WINDOW_DATA_READ returns its word at the position, zero past its end, and advances by four bytes. -/
def Obligations.OverlayAndWindow : Prop :=
  ∀ (p : Port) (v : Word) (s : State), s.runs = true →
    let a := s.upd.keepsA (s.fld Reg.UPD_OVL 1 0)
    (s.live = true → s.fwOk = true → s.upd.trialrun = false →
      (∀ x, s.upd.ovlAt = some x → 48000000000 ≤ (s.time.mono - x).toNat) → Completes .overlayWrite s (fun t =>
        (t.upd.copy (!a)).map (fun c => (c.gen, c.version)) = some (((s.upd.copy s.upd.newerA).map (·.gen)).getD 0 + 1, s.rd Reg.BOOT_FWVER) ∧
        t.upd.copy a = s.upd.copy a ∧ t.upd.ovlAt = some s.time.mono ∧ t.fld Reg.UPD_OVL 1 0 = (if a = true then 1 else 0) ∧
        Keeps s t [Reg.UPD_OVL])) ∧
    Completes (.windowSelect p v) s (fun t => t.fld (bankKey p Reg.WIN_SEL) 3 0 = fieldOf v 3 0 ∧ t.rd (bankKey p Reg.WIN_BASE) = 0 ∧
      Keeps s t [bankKey p Reg.WIN_SEL, bankKey p Reg.WIN_BASE]) ∧
    Completes (.windowDataRead p) s (fun t =>
      let r := s.bankN p Reg.WIN_SEL % 16
      let b := s.bankN p Reg.WIN_BASE
      vget t.readData (portIdx p) 0 = s.regionWord r b ∧ (regionLen r ≤ b → vget t.readData (portIdx p) 0 = 0) ∧
      t.rdN (bankKey p Reg.WIN_BASE) = (b + 4) % 2 ^ 24 ∧ Keeps s t [bankKey p Reg.WIN_BASE])
end

