-- ==== Sys2Proof/Laws/Bits.lean ====
section
/-!
SUPPORT. The laws of bit fields: a field reads as it was set, and setting a field leaves every other bit alone.
-/

namespace Sys2Proof.Machine

theorem fieldMask_getLsbD (hi lo i : Nat) (hi32 : i < 32) :
    (fieldMask hi lo).getLsbD i = (decide (lo ≤ i) && decide (i < hi + 1)) := by
  simp only [fieldMask, BitVec.getLsbD_ofNat, hi32, decide_true, Bool.true_and, Nat.testBit_shiftLeft, Nat.testBit_two_pow_sub_one]
  by_cases h : lo ≤ i
  · simp [h]
    omega
  · simp [h]

/-- Bit by bit, a field set. -/
theorem setField_getLsbD (w : Word) (hi lo v i : Nat) (hi32 : i < 32) :
    (setField w hi lo v).getLsbD i = if lo ≤ i ∧ i ≤ hi then v.testBit (i - lo) else w.getLsbD i := by
  simp only [setField, BitVec.getLsbD_or, BitVec.getLsbD_and, BitVec.getLsbD_not, hi32, decide_true, Bool.true_and,
    fieldMask_getLsbD _ _ _ hi32, BitVec.getLsbD_ofNat, Nat.testBit_shiftLeft]
  by_cases h1 : lo ≤ i
  · by_cases h2 : i ≤ hi
    · simp [h1, h2, Nat.lt_succ_of_le h2]
    · have : ¬ i < hi + 1 := by omega
      simp [h1, h2, this]
  · simp [h1]

/-- Bit by bit, a field read. -/
theorem fieldOf_testBit (w : Word) (hi lo i : Nat) :
    (fieldOf w hi lo).testBit i = (decide (i < hi + 1 - lo) && w.getLsbD (lo + i)) := by
  rw [fieldOf, BitVec.testBit_toNat, BitVec.getLsbD_extractLsb']

/-- A field reads as it was set, modulo its width. -/
theorem fieldOf_setField (w : Word) (hi lo v : Nat) (h : hi < 32) :
    fieldOf (setField w hi lo v) hi lo = v % 2 ^ (hi + 1 - lo) := by
  apply Nat.eq_of_testBit_eq
  intro i
  rw [fieldOf_testBit, Nat.testBit_mod_two_pow]
  by_cases hi' : i < hi + 1 - lo
  · rw [setField_getLsbD _ _ _ _ _ (by omega), if_pos (by omega)]
    simp [hi']
  · simp [hi']

/-- Another field, with no bit in common, is left alone. -/
theorem fieldOf_setField_ne (w : Word) (hi lo v hi' lo' : Nat) (h : hi' < 32) (hd : hi' < lo ∨ hi < lo') :
    fieldOf (setField w hi lo v) hi' lo' = fieldOf w hi' lo' := by
  apply Nat.eq_of_testBit_eq
  intro i
  rw [fieldOf_testBit, fieldOf_testBit]
  by_cases hi' : i < hi' + 1 - lo'
  · rw [setField_getLsbD _ _ _ _ _ (by omega), if_neg (by omega)]
  · simp [hi']

theorem bitOf_setField (w : Word) (hi lo v i : Nat) (h : i < 32) :
    bitOf (setField w hi lo v) i = if lo ≤ i ∧ i ≤ hi then v.testBit (i - lo) else bitOf w i :=
  setField_getLsbD w hi lo v i h

theorem bitOf_setBit (w : Word) (i : Nat) (b : Bool) (h : i < 32) : bitOf (setField w i i (b2n b)) i = b := by
  rw [bitOf_setField _ _ _ _ _ h, if_pos ⟨Nat.le_refl i, Nat.le_refl i⟩]
  cases b <;> simp [b2n]

theorem fieldOf_lt (w : Word) (hi lo : Nat) : fieldOf w hi lo < 2 ^ (hi + 1 - lo) := by
  unfold fieldOf
  exact BitVec.isLt _

/-- A field of one bit is the bit. -/
theorem fieldOf_bit (w : Word) (i : Nat) : fieldOf w i i = b2n (bitOf w i) := by
  apply Nat.eq_of_testBit_eq
  intro j
  rw [fieldOf_testBit]
  have h1 : i + 1 - i = 1 := by omega
  rw [h1]
  rcases j with _ | j
  · cases h : bitOf w i <;> simp_all [b2n, bitOf]
  · cases h : bitOf w i <;> simp [b2n, Nat.testBit_succ]

/-- The whole word as a field. -/
theorem fieldOf_word (w : Word) : fieldOf w 31 0 = w.toNat := by
  simp [fieldOf]

@[simp] theorem vget_vset_same {α : Type} {n : Nat} (v : Vector α n) (i : Nat) (x d : α) (h : i < n) :
    vget (vset v i x) i d = x := by
  simp [vget, vset, h]

theorem vget_vset_ne {α : Type} {n : Nat} (v : Vector α n) (i j : Nat) (x d : α) (h : i ≠ j) :
    vget (vset v i x) j d = vget v j d := by
  simp [vget, vset, h]

end Sys2Proof.Machine
end

