-- ==== Sys2Proof/Laws/Cells.lean ====
section
/-!
SUPPORT. The laws of the sparse memories: a read after a write, that a write leaves every other address alone, and that every
memory operation keeps the canonical form.
-/

namespace Sys2Proof.Machine

variable {w : Nat} {d : Nat → BitVec w}

@[simp] theorem cellsGet_nil (a : Nat) : cellsGet d [] a = d a := rfl

theorem cellsGet_ins (l : Cells w) (a b : Nat) (v : BitVec w) (h : ∀ e ∈ l, e.1 ≠ a) :
    cellsGet d (cellsIns l a v) b = if a = b then v else cellsGet d l b := by
  induction l with
  | nil => simp [cellsIns, cellsGet]
  | cons e r ih =>
    obtain ⟨k, x⟩ := e
    have hk : k ≠ a := h (k, x) (by simp)
    have hr : ∀ e ∈ r, e.1 ≠ a := fun e he => h e (by simp [he])
    by_cases hlt : a < k
    · simp [cellsIns, hlt, cellsGet]
    · simp only [cellsIns, hlt, if_false, cellsGet, ih hr]
      by_cases hkb : k = b
      · subst hkb
        simp [Ne.symm hk]
      · simp [hkb]

theorem cellsGet_filter_ne (l : Cells w) (a b : Nat) (h : a ≠ b) :
    cellsGet d (l.filter (fun e => e.1 != a)) b = cellsGet d l b := by
  induction l with
  | nil => rfl
  | cons e r ih =>
    obtain ⟨k, x⟩ := e
    by_cases hk : k = a
    · subst hk
      simp [cellsGet, h, ih]
    · simp [hk, cellsGet, ih]

theorem cellsGet_filter_self (l : Cells w) (a : Nat) : cellsGet d (l.filter (fun e => e.1 != a)) a = d a := by
  induction l with
  | nil => rfl
  | cons e r ih =>
    obtain ⟨k, x⟩ := e
    by_cases hk : k = a
    · simp [hk, ih]
    · simp [hk, cellsGet, ih]

/-- A read after a write to the same address gives the value written. -/
@[simp] theorem cellsGet_set_same (l : Cells w) (a : Nat) (v : BitVec w) : cellsGet d (cellsSet d l a v) a = v := by
  unfold cellsSet
  by_cases hv : v = d a
  · simp [hv, cellsGet_filter_self]
  · simp only [hv, if_false]
    rw [cellsGet_ins _ _ _ _ (by simp)]
    simp

/-- A write leaves every other address alone. -/
theorem cellsGet_set_ne (l : Cells w) (a b : Nat) (v : BitVec w) (h : a ≠ b) :
    cellsGet d (cellsSet d l a v) b = cellsGet d l b := by
  unfold cellsSet
  by_cases hv : v = d a
  · simp [hv, cellsGet_filter_ne l a b h]
  · simp only [hv, if_false]
    rw [cellsGet_ins _ _ _ _ (by simp)]
    simp [h, cellsGet_filter_ne l a b h]

/-- The canonical form, said of a whole list. -/
theorem cellsWf_iff (l : Cells w) : cellsWf d l = true ↔ l.Pairwise (fun a b => a.1 < b.1) ∧ ∀ e ∈ l, e.2 ≠ d e.1 := by
  induction l with
  | nil => simp [cellsWf]
  | cons e r ih =>
    obtain ⟨k, v⟩ := e
    cases r with
    | nil => simp [cellsWf]
    | cons e2 r2 =>
      obtain ⟨k2, v2⟩ := e2
      rw [cellsWf, Bool.and_eq_true, Bool.and_eq_true, ih, List.pairwise_cons]
      simp only [decide_eq_true_eq, bne_iff_ne, ne_eq, List.mem_cons, forall_eq_or_imp, List.pairwise_cons]
      constructor
      · rintro ⟨⟨hv, hk⟩, ⟨h1, h2⟩, h3, h4⟩
        exact ⟨⟨⟨hk, fun e he => Nat.lt_trans hk (h1 e he)⟩, h1, h2⟩, hv, h3, h4⟩
      · rintro ⟨⟨⟨hk, _⟩, h1, h2⟩, hv, h3, h4⟩
        exact ⟨⟨hv, hk⟩, ⟨h1, h2⟩, h3, h4⟩

theorem mem_cellsIns (l : Cells w) (a : Nat) (v : BitVec w) (e : Nat × BitVec w) :
    e ∈ cellsIns l a v ↔ e = (a, v) ∨ e ∈ l := by
  induction l with
  | nil => simp [cellsIns]
  | cons x r ih =>
    obtain ⟨k, y⟩ := x
    by_cases h : a < k
    · simp [cellsIns, h]
    · simp [cellsIns, h, ih]
      tauto

theorem cellsIns_pairwise (l : Cells w) (a : Nat) (v : BitVec w) (h : l.Pairwise (fun a b => a.1 < b.1))
    (hn : ∀ e ∈ l, e.1 ≠ a) : (cellsIns l a v).Pairwise (fun a b => a.1 < b.1) := by
  induction l with
  | nil => simp [cellsIns]
  | cons x r ih =>
    obtain ⟨k, y⟩ := x
    rw [List.pairwise_cons] at h
    by_cases hlt : a < k
    · rw [cellsIns, if_pos hlt, List.pairwise_cons, List.pairwise_cons]
      refine ⟨fun e he => ?_, h⟩
      rcases List.mem_cons.mp he with rfl | he
      · exact hlt
      · exact Nat.lt_trans hlt (h.1 e he)
    · simp only [cellsIns, hlt, if_false, List.pairwise_cons]
      refine ⟨fun e he => ?_, ih h.2 (fun e he => hn e (by simp [he]))⟩
      rw [mem_cellsIns] at he
      rcases he with rfl | he
      · have := hn (k, y) (by simp)
        omega
      · exact h.1 e he

/-- A write keeps the canonical form. -/
theorem cellsSet_wf (l : Cells w) (a : Nat) (v : BitVec w) (h : cellsWf d l = true) : cellsWf d (cellsSet d l a v) = true := by
  rw [cellsWf_iff] at h ⊢
  unfold cellsSet
  by_cases hv : v = d a
  · simp only [hv, if_true]
    exact ⟨h.1.filter _, fun e he => h.2 e (List.mem_filter.mp he).1⟩
  · simp only [hv, if_false]
    refine ⟨cellsIns_pairwise _ _ _ (h.1.filter _) (by simp), fun e he => ?_⟩
    rw [mem_cellsIns] at he
    rcases he with rfl | he
    · exact hv
    · exact h.2 e (List.mem_filter.mp he).1

theorem foldl_ins_wf (src dst : Cells w) (hs : ∀ e ∈ src, e.2 ≠ d e.1) (hp : src.Pairwise (fun a b => a.1 < b.1))
    (hd : cellsWf d dst = true) (hne : ∀ e ∈ src, ∀ f ∈ dst, f.1 ≠ e.1) :
    cellsWf d (src.foldl (fun acc e => cellsIns acc e.1 e.2) dst) = true := by
  induction src generalizing dst with
  | nil => simpa using hd
  | cons x r ih =>
    rw [List.pairwise_cons] at hp
    rw [List.foldl_cons]
    refine ih _ (fun e he => hs e (by simp [he])) hp.2 ?_ ?_
    · rw [cellsWf_iff] at hd ⊢
      refine ⟨cellsIns_pairwise _ _ _ hd.1 (hne x (by simp)), fun e he => ?_⟩
      rw [mem_cellsIns] at he
      rcases he with rfl | he
      · exact hs x (by simp)
      · exact hd.2 e he
    · intro e he f hf
      rw [mem_cellsIns] at hf
      rcases hf with rfl | hf
      · exact Nat.ne_of_lt (hp.1 e he)
      · exact hne e (by simp [he]) f hf

/-- Copying the entries that `p` names keeps the canonical form. -/
theorem cellsCopy_wf (p : Nat → Bool) (src dst : Cells w) (hs : cellsWf d src = true) (hd : cellsWf d dst = true) :
    cellsWf d (cellsCopy p src dst) = true := by
  rw [cellsWf_iff] at hs
  have hd' := (cellsWf_iff _).mp hd
  refine foldl_ins_wf _ _ (fun e he => hs.2 e (List.mem_filter.mp he).1) (hs.1.filter _) ?_ ?_
  · rw [cellsWf_iff]
    exact ⟨hd'.1.filter _, fun e he => hd'.2 e (List.mem_filter.mp he).1⟩
  · intro e he f hf hef
    have h1 := (List.mem_filter.mp he).2
    have h2 := (List.mem_filter.mp hf).2
    rw [hef, h1] at h2
    exact absurd h2 (by decide)

theorem cellsGet_not_mem (l : Cells w) (a : Nat) (h : ∀ e ∈ l, e.1 ≠ a) : cellsGet d l a = d a := by
  induction l with
  | nil => rfl
  | cons x r ih =>
    obtain ⟨k, y⟩ := x
    have hk : k ≠ a := h (k, y) (by simp)
    simp [cellsGet, hk, ih (fun e he => h e (by simp [he]))]

theorem cellsGet_foldl_ins (src dst : Cells w) (b : Nat) (hp : src.Pairwise (fun a b => a.1 < b.1))
    (hne : ∀ e ∈ src, ∀ f ∈ dst, f.1 ≠ e.1) :
    cellsGet d (src.foldl (fun acc e => cellsIns acc e.1 e.2) dst) b =
      if ∃ e ∈ src, e.1 = b then cellsGet d src b else cellsGet d dst b := by
  induction src generalizing dst with
  | nil => simp
  | cons x r ih =>
    obtain ⟨k, y⟩ := x
    rw [List.pairwise_cons] at hp
    have hd : ∀ e ∈ dst, e.1 ≠ k := hne (k, y) (by simp)
    have hr : ∀ e ∈ r, ∀ f ∈ cellsIns dst k y, f.1 ≠ e.1 := by
      intro e he f hf
      rw [mem_cellsIns] at hf
      rcases hf with rfl | hf
      · exact Nat.ne_of_lt (hp.1 e he)
      · exact hne e (by simp [he]) f hf
    rw [List.foldl_cons, ih _ hp.2 hr, cellsGet_ins _ _ _ _ hd]
    by_cases hk : k = b
    · subst hk
      have hn : ¬ ∃ e ∈ r, e.1 = k := by
        rintro ⟨e, he, h⟩
        have := hp.1 e he
        simp only at this
        omega
      simp [hn, cellsGet]
    · simp [hk, cellsGet]

/-- After a copy an address that `p` names reads as in the source, and any other as before. -/
theorem cellsGet_copy (p : Nat → Bool) (src dst : Cells w) (b : Nat) (hs : cellsWf d src = true) :
    cellsGet d (cellsCopy p src dst) b = if p b then cellsGet d src b else cellsGet d dst b := by
  have hf : ∀ (q : Nat → Bool) (l : Cells w), q b = true → cellsGet d (l.filter (fun e => q e.1)) b = cellsGet d l b := by
    intro q l hq
    induction l with
    | nil => rfl
    | cons x r ih =>
      obtain ⟨k, y⟩ := x
      by_cases hk : k = b
      · subst hk
        simp [hq, cellsGet]
      · by_cases hqk : q k = true
        · simp [hqk, cellsGet, hk, ih]
        · simp [hqk, cellsGet, hk, ih]
  rw [cellsWf_iff] at hs
  unfold cellsCopy
  rw [cellsGet_foldl_ins _ _ _ (hs.1.filter _)]
  · cases hp : p b with
    | true =>
      by_cases he : ∃ e ∈ src.filter (fun e => p e.1), e.1 = b
      · rw [if_pos he, if_pos rfl, hf p src hp]
      · simp only [he, if_false, if_true]
        have h1 : ∀ e ∈ src, e.1 ≠ b := by
          intro e hm hb
          exact he ⟨e, List.mem_filter.mpr ⟨hm, by simp [hb, hp]⟩, hb⟩
        rw [cellsGet_not_mem src b h1, cellsGet_not_mem]
        intro e hm hb
        have := (List.mem_filter.mp hm).2
        simp [hb, hp] at this
    | false =>
      have he : ¬ ∃ e ∈ src.filter (fun e => p e.1), e.1 = b := by
        rintro ⟨e, hm, hb⟩
        have := (List.mem_filter.mp hm).2
        simp [hb, hp] at this
      simp only [he, if_false, Bool.false_eq_true]
      exact hf (fun k => !p k) dst (by simp [hp])
  · intro e he f hf' hef
    have h1 := (List.mem_filter.mp he).2
    have h2 := (List.mem_filter.mp hf').2
    rw [hef, h1] at h2
    exact absurd h2 (by decide)

/-- Restricting a memory keeps the canonical form. -/
theorem cellsFilter_wf (p : Nat × BitVec w → Bool) (l : Cells w) (h : cellsWf d l = true) : cellsWf d (l.filter p) = true := by
  rw [cellsWf_iff] at h ⊢
  exact ⟨h.1.filter _, fun e he => h.2 e (List.mem_filter.mp he).1⟩

end Sys2Proof.Machine
end

