-- ==== Sys2Proof/Laws/State.lean ====
section
/-!
SUPPORT. What each basic update of the state leaves alone: one lemma for each update and field, so that a proof about a command never
unfolds a record update.
-/

namespace Sys2Proof.Machine

/-! ## `State.wr` -/

@[simp] theorem State.wr_shadow (s : State) (a : Nat) (v : Word) : (s.wr a v).shadow = s.shadow := rfl
@[simp] theorem State.wr_mem (s : State) (a : Nat) (v : Word) : (s.wr a v).mem = s.mem := rfl
@[simp] theorem State.wr_latch (s : State) (a : Nat) (v : Word) : (s.wr a v).latch = s.latch := rfl
@[simp] theorem State.wr_readData (s : State) (a : Nat) (v : Word) : (s.wr a v).readData = s.readData := rfl
@[simp] theorem State.wr_time (s : State) (a : Nat) (v : Word) : (s.wr a v).time = s.time := rfl
@[simp] theorem State.wr_unit (s : State) (a : Nat) (v : Word) : (s.wr a v).unit = s.unit := rfl
@[simp] theorem State.wr_flash (s : State) (a : Nat) (v : Word) : (s.wr a v).flash = s.flash := rfl
@[simp] theorem State.wr_boot (s : State) (a : Nat) (v : Word) : (s.wr a v).boot = s.boot := rfl
@[simp] theorem State.wr_upd (s : State) (a : Nat) (v : Word) : (s.wr a v).upd = s.upd := rfl
@[simp] theorem State.wr_smb (s : State) (a : Nat) (v : Word) : (s.wr a v).smb = s.smb := rfl
@[simp] theorem State.wr_spi (s : State) (a : Nat) (v : Word) : (s.wr a v).spi = s.spi := rfl
@[simp] theorem State.wr_commit (s : State) (a : Nat) (v : Word) : (s.wr a v).commit = s.commit := rfl
@[simp] theorem State.wr_check (s : State) (a : Nat) (v : Word) : (s.wr a v).check = s.check := rfl
@[simp] theorem State.wr_pair (s : State) (a : Nat) (v : Word) : (s.wr a v).pair = s.pair := rfl
@[simp] theorem State.wr_links (s : State) (a : Nat) (v : Word) : (s.wr a v).links = s.links := rfl
@[simp] theorem State.wr_frameNo (s : State) (a : Nat) (v : Word) : (s.wr a v).frameNo = s.frameNo := rfl
@[simp] theorem State.wr_chans (s : State) (a : Nat) (v : Word) : (s.wr a v).chans = s.chans := rfl
@[simp] theorem State.wr_fine (s : State) (a : Nat) (v : Word) : (s.wr a v).fine = s.fine := rfl
@[simp] theorem State.wr_ctx (s : State) (a : Nat) (v : Word) : (s.wr a v).ctx = s.ctx := rfl
@[simp] theorem State.wr_cwq (s : State) (a : Nat) (v : Word) : (s.wr a v).cwq = s.cwq := rfl
@[simp] theorem State.wr_trc (s : State) (a : Nat) (v : Word) : (s.wr a v).trc = s.trc := rfl
@[simp] theorem State.wr_phs (s : State) (a : Nat) (v : Word) : (s.wr a v).phs = s.phs := rfl
@[simp] theorem State.wr_stg (s : State) (a : Nat) (v : Word) : (s.wr a v).stg = s.stg := rfl
@[simp] theorem State.wr_loc (s : State) (a : Nat) (v : Word) : (s.wr a v).loc = s.loc := rfl
@[simp] theorem State.wr_fdr (s : State) (a : Nat) (v : Word) : (s.wr a v).fdr = s.fdr := rfl
@[simp] theorem State.wr_strs (s : State) (a : Nat) (v : Word) : (s.wr a v).strs = s.strs := rfl
@[simp] theorem State.wr_shf (s : State) (a : Nat) (v : Word) : (s.wr a v).shf = s.shf := rfl
@[simp] theorem State.wr_mb (s : State) (a : Nat) (v : Word) : (s.wr a v).mb = s.mb := rfl
@[simp] theorem State.wr_stat (s : State) (a : Nat) (v : Word) : (s.wr a v).stat = s.stat := rfl
@[simp] theorem State.wr_statSnap (s : State) (a : Nat) (v : Word) : (s.wr a v).statSnap = s.statSnap := rfl
@[simp] theorem State.wr_en (s : State) (a : Nat) (v : Word) : (s.wr a v).en = s.en := rfl
@[simp] theorem State.wr_meas (s : State) (a : Nat) (v : Word) : (s.wr a v).meas = s.meas := rfl
@[simp] theorem State.wr_hk (s : State) (a : Nat) (v : Word) : (s.wr a v).hk = s.hk := rfl
@[simp] theorem State.wr_evq (s : State) (a : Nat) (v : Word) : (s.wr a v).evq = s.evq := rfl
@[simp] theorem State.wr_flt (s : State) (a : Nat) (v : Word) : (s.wr a v).flt = s.flt := rfl
@[simp] theorem State.wr_ecc (s : State) (a : Nat) (v : Word) : (s.wr a v).ecc = s.ecc := rfl
@[simp] theorem State.wr_linj (s : State) (a : Nat) (v : Word) : (s.wr a v).linj = s.linj := rfl
@[simp] theorem State.wr_evr (s : State) (a : Nat) (v : Word) : (s.wr a v).evr = s.evr := rfl
@[simp] theorem State.wr_sbg (s : State) (a : Nat) (v : Word) : (s.wr a v).sbg = s.sbg := rfl
@[simp] theorem State.wr_free (s : State) (a : Nat) (v : Word) : (s.wr a v).free = s.free := rfl
@[simp] theorem State.wr_pending (s : State) (a : Nat) (v : Word) : (s.wr a v).pending = s.pending := rfl

/-! ## `State.wrN` -/

@[simp] theorem State.wrN_shadow (s : State) (a v : Nat) : (s.wrN a v).shadow = s.shadow := rfl
@[simp] theorem State.wrN_mem (s : State) (a v : Nat) : (s.wrN a v).mem = s.mem := rfl
@[simp] theorem State.wrN_latch (s : State) (a v : Nat) : (s.wrN a v).latch = s.latch := rfl
@[simp] theorem State.wrN_readData (s : State) (a v : Nat) : (s.wrN a v).readData = s.readData := rfl
@[simp] theorem State.wrN_time (s : State) (a v : Nat) : (s.wrN a v).time = s.time := rfl
@[simp] theorem State.wrN_unit (s : State) (a v : Nat) : (s.wrN a v).unit = s.unit := rfl
@[simp] theorem State.wrN_flash (s : State) (a v : Nat) : (s.wrN a v).flash = s.flash := rfl
@[simp] theorem State.wrN_boot (s : State) (a v : Nat) : (s.wrN a v).boot = s.boot := rfl
@[simp] theorem State.wrN_upd (s : State) (a v : Nat) : (s.wrN a v).upd = s.upd := rfl
@[simp] theorem State.wrN_smb (s : State) (a v : Nat) : (s.wrN a v).smb = s.smb := rfl
@[simp] theorem State.wrN_spi (s : State) (a v : Nat) : (s.wrN a v).spi = s.spi := rfl
@[simp] theorem State.wrN_commit (s : State) (a v : Nat) : (s.wrN a v).commit = s.commit := rfl
@[simp] theorem State.wrN_check (s : State) (a v : Nat) : (s.wrN a v).check = s.check := rfl
@[simp] theorem State.wrN_pair (s : State) (a v : Nat) : (s.wrN a v).pair = s.pair := rfl
@[simp] theorem State.wrN_links (s : State) (a v : Nat) : (s.wrN a v).links = s.links := rfl
@[simp] theorem State.wrN_frameNo (s : State) (a v : Nat) : (s.wrN a v).frameNo = s.frameNo := rfl
@[simp] theorem State.wrN_chans (s : State) (a v : Nat) : (s.wrN a v).chans = s.chans := rfl
@[simp] theorem State.wrN_fine (s : State) (a v : Nat) : (s.wrN a v).fine = s.fine := rfl
@[simp] theorem State.wrN_ctx (s : State) (a v : Nat) : (s.wrN a v).ctx = s.ctx := rfl
@[simp] theorem State.wrN_cwq (s : State) (a v : Nat) : (s.wrN a v).cwq = s.cwq := rfl
@[simp] theorem State.wrN_trc (s : State) (a v : Nat) : (s.wrN a v).trc = s.trc := rfl
@[simp] theorem State.wrN_phs (s : State) (a v : Nat) : (s.wrN a v).phs = s.phs := rfl
@[simp] theorem State.wrN_stg (s : State) (a v : Nat) : (s.wrN a v).stg = s.stg := rfl
@[simp] theorem State.wrN_loc (s : State) (a v : Nat) : (s.wrN a v).loc = s.loc := rfl
@[simp] theorem State.wrN_fdr (s : State) (a v : Nat) : (s.wrN a v).fdr = s.fdr := rfl
@[simp] theorem State.wrN_strs (s : State) (a v : Nat) : (s.wrN a v).strs = s.strs := rfl
@[simp] theorem State.wrN_shf (s : State) (a v : Nat) : (s.wrN a v).shf = s.shf := rfl
@[simp] theorem State.wrN_mb (s : State) (a v : Nat) : (s.wrN a v).mb = s.mb := rfl
@[simp] theorem State.wrN_stat (s : State) (a v : Nat) : (s.wrN a v).stat = s.stat := rfl
@[simp] theorem State.wrN_statSnap (s : State) (a v : Nat) : (s.wrN a v).statSnap = s.statSnap := rfl
@[simp] theorem State.wrN_en (s : State) (a v : Nat) : (s.wrN a v).en = s.en := rfl
@[simp] theorem State.wrN_meas (s : State) (a v : Nat) : (s.wrN a v).meas = s.meas := rfl
@[simp] theorem State.wrN_hk (s : State) (a v : Nat) : (s.wrN a v).hk = s.hk := rfl
@[simp] theorem State.wrN_evq (s : State) (a v : Nat) : (s.wrN a v).evq = s.evq := rfl
@[simp] theorem State.wrN_flt (s : State) (a v : Nat) : (s.wrN a v).flt = s.flt := rfl
@[simp] theorem State.wrN_ecc (s : State) (a v : Nat) : (s.wrN a v).ecc = s.ecc := rfl
@[simp] theorem State.wrN_linj (s : State) (a v : Nat) : (s.wrN a v).linj = s.linj := rfl
@[simp] theorem State.wrN_evr (s : State) (a v : Nat) : (s.wrN a v).evr = s.evr := rfl
@[simp] theorem State.wrN_sbg (s : State) (a v : Nat) : (s.wrN a v).sbg = s.sbg := rfl
@[simp] theorem State.wrN_free (s : State) (a v : Nat) : (s.wrN a v).free = s.free := rfl
@[simp] theorem State.wrN_pending (s : State) (a v : Nat) : (s.wrN a v).pending = s.pending := rfl

/-! ## `State.put` -/

@[simp] theorem State.put_shadow (s : State) (a hi lo v : Nat) : (s.put a hi lo v).shadow = s.shadow := rfl
@[simp] theorem State.put_mem (s : State) (a hi lo v : Nat) : (s.put a hi lo v).mem = s.mem := rfl
@[simp] theorem State.put_latch (s : State) (a hi lo v : Nat) : (s.put a hi lo v).latch = s.latch := rfl
@[simp] theorem State.put_readData (s : State) (a hi lo v : Nat) : (s.put a hi lo v).readData = s.readData := rfl
@[simp] theorem State.put_time (s : State) (a hi lo v : Nat) : (s.put a hi lo v).time = s.time := rfl
@[simp] theorem State.put_unit (s : State) (a hi lo v : Nat) : (s.put a hi lo v).unit = s.unit := rfl
@[simp] theorem State.put_flash (s : State) (a hi lo v : Nat) : (s.put a hi lo v).flash = s.flash := rfl
@[simp] theorem State.put_boot (s : State) (a hi lo v : Nat) : (s.put a hi lo v).boot = s.boot := rfl
@[simp] theorem State.put_upd (s : State) (a hi lo v : Nat) : (s.put a hi lo v).upd = s.upd := rfl
@[simp] theorem State.put_smb (s : State) (a hi lo v : Nat) : (s.put a hi lo v).smb = s.smb := rfl
@[simp] theorem State.put_spi (s : State) (a hi lo v : Nat) : (s.put a hi lo v).spi = s.spi := rfl
@[simp] theorem State.put_commit (s : State) (a hi lo v : Nat) : (s.put a hi lo v).commit = s.commit := rfl
@[simp] theorem State.put_check (s : State) (a hi lo v : Nat) : (s.put a hi lo v).check = s.check := rfl
@[simp] theorem State.put_pair (s : State) (a hi lo v : Nat) : (s.put a hi lo v).pair = s.pair := rfl
@[simp] theorem State.put_links (s : State) (a hi lo v : Nat) : (s.put a hi lo v).links = s.links := rfl
@[simp] theorem State.put_frameNo (s : State) (a hi lo v : Nat) : (s.put a hi lo v).frameNo = s.frameNo := rfl
@[simp] theorem State.put_chans (s : State) (a hi lo v : Nat) : (s.put a hi lo v).chans = s.chans := rfl
@[simp] theorem State.put_fine (s : State) (a hi lo v : Nat) : (s.put a hi lo v).fine = s.fine := rfl
@[simp] theorem State.put_ctx (s : State) (a hi lo v : Nat) : (s.put a hi lo v).ctx = s.ctx := rfl
@[simp] theorem State.put_cwq (s : State) (a hi lo v : Nat) : (s.put a hi lo v).cwq = s.cwq := rfl
@[simp] theorem State.put_trc (s : State) (a hi lo v : Nat) : (s.put a hi lo v).trc = s.trc := rfl
@[simp] theorem State.put_phs (s : State) (a hi lo v : Nat) : (s.put a hi lo v).phs = s.phs := rfl
@[simp] theorem State.put_stg (s : State) (a hi lo v : Nat) : (s.put a hi lo v).stg = s.stg := rfl
@[simp] theorem State.put_loc (s : State) (a hi lo v : Nat) : (s.put a hi lo v).loc = s.loc := rfl
@[simp] theorem State.put_fdr (s : State) (a hi lo v : Nat) : (s.put a hi lo v).fdr = s.fdr := rfl
@[simp] theorem State.put_strs (s : State) (a hi lo v : Nat) : (s.put a hi lo v).strs = s.strs := rfl
@[simp] theorem State.put_shf (s : State) (a hi lo v : Nat) : (s.put a hi lo v).shf = s.shf := rfl
@[simp] theorem State.put_mb (s : State) (a hi lo v : Nat) : (s.put a hi lo v).mb = s.mb := rfl
@[simp] theorem State.put_stat (s : State) (a hi lo v : Nat) : (s.put a hi lo v).stat = s.stat := rfl
@[simp] theorem State.put_statSnap (s : State) (a hi lo v : Nat) : (s.put a hi lo v).statSnap = s.statSnap := rfl
@[simp] theorem State.put_en (s : State) (a hi lo v : Nat) : (s.put a hi lo v).en = s.en := rfl
@[simp] theorem State.put_meas (s : State) (a hi lo v : Nat) : (s.put a hi lo v).meas = s.meas := rfl
@[simp] theorem State.put_hk (s : State) (a hi lo v : Nat) : (s.put a hi lo v).hk = s.hk := rfl
@[simp] theorem State.put_evq (s : State) (a hi lo v : Nat) : (s.put a hi lo v).evq = s.evq := rfl
@[simp] theorem State.put_flt (s : State) (a hi lo v : Nat) : (s.put a hi lo v).flt = s.flt := rfl
@[simp] theorem State.put_ecc (s : State) (a hi lo v : Nat) : (s.put a hi lo v).ecc = s.ecc := rfl
@[simp] theorem State.put_linj (s : State) (a hi lo v : Nat) : (s.put a hi lo v).linj = s.linj := rfl
@[simp] theorem State.put_evr (s : State) (a hi lo v : Nat) : (s.put a hi lo v).evr = s.evr := rfl
@[simp] theorem State.put_sbg (s : State) (a hi lo v : Nat) : (s.put a hi lo v).sbg = s.sbg := rfl
@[simp] theorem State.put_free (s : State) (a hi lo v : Nat) : (s.put a hi lo v).free = s.free := rfl
@[simp] theorem State.put_pending (s : State) (a hi lo v : Nat) : (s.put a hi lo v).pending = s.pending := rfl

/-! ## `State.setBit` -/

@[simp] theorem State.setBit_shadow (s : State) (a i : Nat) (b : Bool) : (s.setBit a i b).shadow = s.shadow := rfl
@[simp] theorem State.setBit_mem (s : State) (a i : Nat) (b : Bool) : (s.setBit a i b).mem = s.mem := rfl
@[simp] theorem State.setBit_latch (s : State) (a i : Nat) (b : Bool) : (s.setBit a i b).latch = s.latch := rfl
@[simp] theorem State.setBit_readData (s : State) (a i : Nat) (b : Bool) : (s.setBit a i b).readData = s.readData := rfl
@[simp] theorem State.setBit_time (s : State) (a i : Nat) (b : Bool) : (s.setBit a i b).time = s.time := rfl
@[simp] theorem State.setBit_unit (s : State) (a i : Nat) (b : Bool) : (s.setBit a i b).unit = s.unit := rfl
@[simp] theorem State.setBit_flash (s : State) (a i : Nat) (b : Bool) : (s.setBit a i b).flash = s.flash := rfl
@[simp] theorem State.setBit_boot (s : State) (a i : Nat) (b : Bool) : (s.setBit a i b).boot = s.boot := rfl
@[simp] theorem State.setBit_upd (s : State) (a i : Nat) (b : Bool) : (s.setBit a i b).upd = s.upd := rfl
@[simp] theorem State.setBit_smb (s : State) (a i : Nat) (b : Bool) : (s.setBit a i b).smb = s.smb := rfl
@[simp] theorem State.setBit_spi (s : State) (a i : Nat) (b : Bool) : (s.setBit a i b).spi = s.spi := rfl
@[simp] theorem State.setBit_commit (s : State) (a i : Nat) (b : Bool) : (s.setBit a i b).commit = s.commit := rfl
@[simp] theorem State.setBit_check (s : State) (a i : Nat) (b : Bool) : (s.setBit a i b).check = s.check := rfl
@[simp] theorem State.setBit_pair (s : State) (a i : Nat) (b : Bool) : (s.setBit a i b).pair = s.pair := rfl
@[simp] theorem State.setBit_links (s : State) (a i : Nat) (b : Bool) : (s.setBit a i b).links = s.links := rfl
@[simp] theorem State.setBit_frameNo (s : State) (a i : Nat) (b : Bool) : (s.setBit a i b).frameNo = s.frameNo := rfl
@[simp] theorem State.setBit_chans (s : State) (a i : Nat) (b : Bool) : (s.setBit a i b).chans = s.chans := rfl
@[simp] theorem State.setBit_fine (s : State) (a i : Nat) (b : Bool) : (s.setBit a i b).fine = s.fine := rfl
@[simp] theorem State.setBit_ctx (s : State) (a i : Nat) (b : Bool) : (s.setBit a i b).ctx = s.ctx := rfl
@[simp] theorem State.setBit_cwq (s : State) (a i : Nat) (b : Bool) : (s.setBit a i b).cwq = s.cwq := rfl
@[simp] theorem State.setBit_trc (s : State) (a i : Nat) (b : Bool) : (s.setBit a i b).trc = s.trc := rfl
@[simp] theorem State.setBit_phs (s : State) (a i : Nat) (b : Bool) : (s.setBit a i b).phs = s.phs := rfl
@[simp] theorem State.setBit_stg (s : State) (a i : Nat) (b : Bool) : (s.setBit a i b).stg = s.stg := rfl
@[simp] theorem State.setBit_loc (s : State) (a i : Nat) (b : Bool) : (s.setBit a i b).loc = s.loc := rfl
@[simp] theorem State.setBit_fdr (s : State) (a i : Nat) (b : Bool) : (s.setBit a i b).fdr = s.fdr := rfl
@[simp] theorem State.setBit_strs (s : State) (a i : Nat) (b : Bool) : (s.setBit a i b).strs = s.strs := rfl
@[simp] theorem State.setBit_shf (s : State) (a i : Nat) (b : Bool) : (s.setBit a i b).shf = s.shf := rfl
@[simp] theorem State.setBit_mb (s : State) (a i : Nat) (b : Bool) : (s.setBit a i b).mb = s.mb := rfl
@[simp] theorem State.setBit_stat (s : State) (a i : Nat) (b : Bool) : (s.setBit a i b).stat = s.stat := rfl
@[simp] theorem State.setBit_statSnap (s : State) (a i : Nat) (b : Bool) : (s.setBit a i b).statSnap = s.statSnap := rfl
@[simp] theorem State.setBit_en (s : State) (a i : Nat) (b : Bool) : (s.setBit a i b).en = s.en := rfl
@[simp] theorem State.setBit_meas (s : State) (a i : Nat) (b : Bool) : (s.setBit a i b).meas = s.meas := rfl
@[simp] theorem State.setBit_hk (s : State) (a i : Nat) (b : Bool) : (s.setBit a i b).hk = s.hk := rfl
@[simp] theorem State.setBit_evq (s : State) (a i : Nat) (b : Bool) : (s.setBit a i b).evq = s.evq := rfl
@[simp] theorem State.setBit_flt (s : State) (a i : Nat) (b : Bool) : (s.setBit a i b).flt = s.flt := rfl
@[simp] theorem State.setBit_ecc (s : State) (a i : Nat) (b : Bool) : (s.setBit a i b).ecc = s.ecc := rfl
@[simp] theorem State.setBit_linj (s : State) (a i : Nat) (b : Bool) : (s.setBit a i b).linj = s.linj := rfl
@[simp] theorem State.setBit_evr (s : State) (a i : Nat) (b : Bool) : (s.setBit a i b).evr = s.evr := rfl
@[simp] theorem State.setBit_sbg (s : State) (a i : Nat) (b : Bool) : (s.setBit a i b).sbg = s.sbg := rfl
@[simp] theorem State.setBit_free (s : State) (a i : Nat) (b : Bool) : (s.setBit a i b).free = s.free := rfl
@[simp] theorem State.setBit_pending (s : State) (a i : Nat) (b : Bool) : (s.setBit a i b).pending = s.pending := rfl

/-! ## `State.bump` -/

@[simp] theorem State.bump_shadow (s : State) (a hi lo n : Nat) : (s.bump a hi lo n).shadow = s.shadow := rfl
@[simp] theorem State.bump_mem (s : State) (a hi lo n : Nat) : (s.bump a hi lo n).mem = s.mem := rfl
@[simp] theorem State.bump_latch (s : State) (a hi lo n : Nat) : (s.bump a hi lo n).latch = s.latch := rfl
@[simp] theorem State.bump_readData (s : State) (a hi lo n : Nat) : (s.bump a hi lo n).readData = s.readData := rfl
@[simp] theorem State.bump_time (s : State) (a hi lo n : Nat) : (s.bump a hi lo n).time = s.time := rfl
@[simp] theorem State.bump_unit (s : State) (a hi lo n : Nat) : (s.bump a hi lo n).unit = s.unit := rfl
@[simp] theorem State.bump_flash (s : State) (a hi lo n : Nat) : (s.bump a hi lo n).flash = s.flash := rfl
@[simp] theorem State.bump_boot (s : State) (a hi lo n : Nat) : (s.bump a hi lo n).boot = s.boot := rfl
@[simp] theorem State.bump_upd (s : State) (a hi lo n : Nat) : (s.bump a hi lo n).upd = s.upd := rfl
@[simp] theorem State.bump_smb (s : State) (a hi lo n : Nat) : (s.bump a hi lo n).smb = s.smb := rfl
@[simp] theorem State.bump_spi (s : State) (a hi lo n : Nat) : (s.bump a hi lo n).spi = s.spi := rfl
@[simp] theorem State.bump_commit (s : State) (a hi lo n : Nat) : (s.bump a hi lo n).commit = s.commit := rfl
@[simp] theorem State.bump_check (s : State) (a hi lo n : Nat) : (s.bump a hi lo n).check = s.check := rfl
@[simp] theorem State.bump_pair (s : State) (a hi lo n : Nat) : (s.bump a hi lo n).pair = s.pair := rfl
@[simp] theorem State.bump_links (s : State) (a hi lo n : Nat) : (s.bump a hi lo n).links = s.links := rfl
@[simp] theorem State.bump_frameNo (s : State) (a hi lo n : Nat) : (s.bump a hi lo n).frameNo = s.frameNo := rfl
@[simp] theorem State.bump_chans (s : State) (a hi lo n : Nat) : (s.bump a hi lo n).chans = s.chans := rfl
@[simp] theorem State.bump_fine (s : State) (a hi lo n : Nat) : (s.bump a hi lo n).fine = s.fine := rfl
@[simp] theorem State.bump_ctx (s : State) (a hi lo n : Nat) : (s.bump a hi lo n).ctx = s.ctx := rfl
@[simp] theorem State.bump_cwq (s : State) (a hi lo n : Nat) : (s.bump a hi lo n).cwq = s.cwq := rfl
@[simp] theorem State.bump_trc (s : State) (a hi lo n : Nat) : (s.bump a hi lo n).trc = s.trc := rfl
@[simp] theorem State.bump_phs (s : State) (a hi lo n : Nat) : (s.bump a hi lo n).phs = s.phs := rfl
@[simp] theorem State.bump_stg (s : State) (a hi lo n : Nat) : (s.bump a hi lo n).stg = s.stg := rfl
@[simp] theorem State.bump_loc (s : State) (a hi lo n : Nat) : (s.bump a hi lo n).loc = s.loc := rfl
@[simp] theorem State.bump_fdr (s : State) (a hi lo n : Nat) : (s.bump a hi lo n).fdr = s.fdr := rfl
@[simp] theorem State.bump_strs (s : State) (a hi lo n : Nat) : (s.bump a hi lo n).strs = s.strs := rfl
@[simp] theorem State.bump_shf (s : State) (a hi lo n : Nat) : (s.bump a hi lo n).shf = s.shf := rfl
@[simp] theorem State.bump_mb (s : State) (a hi lo n : Nat) : (s.bump a hi lo n).mb = s.mb := rfl
@[simp] theorem State.bump_stat (s : State) (a hi lo n : Nat) : (s.bump a hi lo n).stat = s.stat := rfl
@[simp] theorem State.bump_statSnap (s : State) (a hi lo n : Nat) : (s.bump a hi lo n).statSnap = s.statSnap := rfl
@[simp] theorem State.bump_en (s : State) (a hi lo n : Nat) : (s.bump a hi lo n).en = s.en := rfl
@[simp] theorem State.bump_meas (s : State) (a hi lo n : Nat) : (s.bump a hi lo n).meas = s.meas := rfl
@[simp] theorem State.bump_hk (s : State) (a hi lo n : Nat) : (s.bump a hi lo n).hk = s.hk := rfl
@[simp] theorem State.bump_evq (s : State) (a hi lo n : Nat) : (s.bump a hi lo n).evq = s.evq := rfl
@[simp] theorem State.bump_flt (s : State) (a hi lo n : Nat) : (s.bump a hi lo n).flt = s.flt := rfl
@[simp] theorem State.bump_ecc (s : State) (a hi lo n : Nat) : (s.bump a hi lo n).ecc = s.ecc := rfl
@[simp] theorem State.bump_linj (s : State) (a hi lo n : Nat) : (s.bump a hi lo n).linj = s.linj := rfl
@[simp] theorem State.bump_evr (s : State) (a hi lo n : Nat) : (s.bump a hi lo n).evr = s.evr := rfl
@[simp] theorem State.bump_sbg (s : State) (a hi lo n : Nat) : (s.bump a hi lo n).sbg = s.sbg := rfl
@[simp] theorem State.bump_free (s : State) (a hi lo n : Nat) : (s.bump a hi lo n).free = s.free := rfl
@[simp] theorem State.bump_pending (s : State) (a hi lo n : Nat) : (s.bump a hi lo n).pending = s.pending := rfl

/-! ## `State.swr` -/

@[simp] theorem State.swr_reg (s : State) (a : Nat) (v : Word) : (s.swr a v).reg = s.reg := rfl
@[simp] theorem State.swr_mem (s : State) (a : Nat) (v : Word) : (s.swr a v).mem = s.mem := rfl
@[simp] theorem State.swr_latch (s : State) (a : Nat) (v : Word) : (s.swr a v).latch = s.latch := rfl
@[simp] theorem State.swr_readData (s : State) (a : Nat) (v : Word) : (s.swr a v).readData = s.readData := rfl
@[simp] theorem State.swr_time (s : State) (a : Nat) (v : Word) : (s.swr a v).time = s.time := rfl
@[simp] theorem State.swr_unit (s : State) (a : Nat) (v : Word) : (s.swr a v).unit = s.unit := rfl
@[simp] theorem State.swr_flash (s : State) (a : Nat) (v : Word) : (s.swr a v).flash = s.flash := rfl
@[simp] theorem State.swr_boot (s : State) (a : Nat) (v : Word) : (s.swr a v).boot = s.boot := rfl
@[simp] theorem State.swr_upd (s : State) (a : Nat) (v : Word) : (s.swr a v).upd = s.upd := rfl
@[simp] theorem State.swr_smb (s : State) (a : Nat) (v : Word) : (s.swr a v).smb = s.smb := rfl
@[simp] theorem State.swr_spi (s : State) (a : Nat) (v : Word) : (s.swr a v).spi = s.spi := rfl
@[simp] theorem State.swr_commit (s : State) (a : Nat) (v : Word) : (s.swr a v).commit = s.commit := rfl
@[simp] theorem State.swr_check (s : State) (a : Nat) (v : Word) : (s.swr a v).check = s.check := rfl
@[simp] theorem State.swr_pair (s : State) (a : Nat) (v : Word) : (s.swr a v).pair = s.pair := rfl
@[simp] theorem State.swr_links (s : State) (a : Nat) (v : Word) : (s.swr a v).links = s.links := rfl
@[simp] theorem State.swr_frameNo (s : State) (a : Nat) (v : Word) : (s.swr a v).frameNo = s.frameNo := rfl
@[simp] theorem State.swr_chans (s : State) (a : Nat) (v : Word) : (s.swr a v).chans = s.chans := rfl
@[simp] theorem State.swr_fine (s : State) (a : Nat) (v : Word) : (s.swr a v).fine = s.fine := rfl
@[simp] theorem State.swr_ctx (s : State) (a : Nat) (v : Word) : (s.swr a v).ctx = s.ctx := rfl
@[simp] theorem State.swr_cwq (s : State) (a : Nat) (v : Word) : (s.swr a v).cwq = s.cwq := rfl
@[simp] theorem State.swr_trc (s : State) (a : Nat) (v : Word) : (s.swr a v).trc = s.trc := rfl
@[simp] theorem State.swr_phs (s : State) (a : Nat) (v : Word) : (s.swr a v).phs = s.phs := rfl
@[simp] theorem State.swr_stg (s : State) (a : Nat) (v : Word) : (s.swr a v).stg = s.stg := rfl
@[simp] theorem State.swr_loc (s : State) (a : Nat) (v : Word) : (s.swr a v).loc = s.loc := rfl
@[simp] theorem State.swr_fdr (s : State) (a : Nat) (v : Word) : (s.swr a v).fdr = s.fdr := rfl
@[simp] theorem State.swr_strs (s : State) (a : Nat) (v : Word) : (s.swr a v).strs = s.strs := rfl
@[simp] theorem State.swr_shf (s : State) (a : Nat) (v : Word) : (s.swr a v).shf = s.shf := rfl
@[simp] theorem State.swr_mb (s : State) (a : Nat) (v : Word) : (s.swr a v).mb = s.mb := rfl
@[simp] theorem State.swr_stat (s : State) (a : Nat) (v : Word) : (s.swr a v).stat = s.stat := rfl
@[simp] theorem State.swr_statSnap (s : State) (a : Nat) (v : Word) : (s.swr a v).statSnap = s.statSnap := rfl
@[simp] theorem State.swr_en (s : State) (a : Nat) (v : Word) : (s.swr a v).en = s.en := rfl
@[simp] theorem State.swr_meas (s : State) (a : Nat) (v : Word) : (s.swr a v).meas = s.meas := rfl
@[simp] theorem State.swr_hk (s : State) (a : Nat) (v : Word) : (s.swr a v).hk = s.hk := rfl
@[simp] theorem State.swr_evq (s : State) (a : Nat) (v : Word) : (s.swr a v).evq = s.evq := rfl
@[simp] theorem State.swr_flt (s : State) (a : Nat) (v : Word) : (s.swr a v).flt = s.flt := rfl
@[simp] theorem State.swr_ecc (s : State) (a : Nat) (v : Word) : (s.swr a v).ecc = s.ecc := rfl
@[simp] theorem State.swr_linj (s : State) (a : Nat) (v : Word) : (s.swr a v).linj = s.linj := rfl
@[simp] theorem State.swr_evr (s : State) (a : Nat) (v : Word) : (s.swr a v).evr = s.evr := rfl
@[simp] theorem State.swr_sbg (s : State) (a : Nat) (v : Word) : (s.swr a v).sbg = s.sbg := rfl
@[simp] theorem State.swr_free (s : State) (a : Nat) (v : Word) : (s.swr a v).free = s.free := rfl
@[simp] theorem State.swr_pending (s : State) (a : Nat) (v : Word) : (s.swr a v).pending = s.pending := rfl

/-! ## `State.setMem8` -/

@[simp] theorem State.setMem8_reg (s : State) (a : Nat) (v : Byte) : (s.setMem8 a v).reg = s.reg := rfl
@[simp] theorem State.setMem8_shadow (s : State) (a : Nat) (v : Byte) : (s.setMem8 a v).shadow = s.shadow := rfl
@[simp] theorem State.setMem8_latch (s : State) (a : Nat) (v : Byte) : (s.setMem8 a v).latch = s.latch := rfl
@[simp] theorem State.setMem8_readData (s : State) (a : Nat) (v : Byte) : (s.setMem8 a v).readData = s.readData := rfl
@[simp] theorem State.setMem8_time (s : State) (a : Nat) (v : Byte) : (s.setMem8 a v).time = s.time := rfl
@[simp] theorem State.setMem8_unit (s : State) (a : Nat) (v : Byte) : (s.setMem8 a v).unit = s.unit := rfl
@[simp] theorem State.setMem8_flash (s : State) (a : Nat) (v : Byte) : (s.setMem8 a v).flash = s.flash := rfl
@[simp] theorem State.setMem8_boot (s : State) (a : Nat) (v : Byte) : (s.setMem8 a v).boot = s.boot := rfl
@[simp] theorem State.setMem8_upd (s : State) (a : Nat) (v : Byte) : (s.setMem8 a v).upd = s.upd := rfl
@[simp] theorem State.setMem8_smb (s : State) (a : Nat) (v : Byte) : (s.setMem8 a v).smb = s.smb := rfl
@[simp] theorem State.setMem8_spi (s : State) (a : Nat) (v : Byte) : (s.setMem8 a v).spi = s.spi := rfl
@[simp] theorem State.setMem8_commit (s : State) (a : Nat) (v : Byte) : (s.setMem8 a v).commit = s.commit := rfl
@[simp] theorem State.setMem8_check (s : State) (a : Nat) (v : Byte) : (s.setMem8 a v).check = s.check := rfl
@[simp] theorem State.setMem8_pair (s : State) (a : Nat) (v : Byte) : (s.setMem8 a v).pair = s.pair := rfl
@[simp] theorem State.setMem8_links (s : State) (a : Nat) (v : Byte) : (s.setMem8 a v).links = s.links := rfl
@[simp] theorem State.setMem8_frameNo (s : State) (a : Nat) (v : Byte) : (s.setMem8 a v).frameNo = s.frameNo := rfl
@[simp] theorem State.setMem8_chans (s : State) (a : Nat) (v : Byte) : (s.setMem8 a v).chans = s.chans := rfl
@[simp] theorem State.setMem8_fine (s : State) (a : Nat) (v : Byte) : (s.setMem8 a v).fine = s.fine := rfl
@[simp] theorem State.setMem8_ctx (s : State) (a : Nat) (v : Byte) : (s.setMem8 a v).ctx = s.ctx := rfl
@[simp] theorem State.setMem8_cwq (s : State) (a : Nat) (v : Byte) : (s.setMem8 a v).cwq = s.cwq := rfl
@[simp] theorem State.setMem8_trc (s : State) (a : Nat) (v : Byte) : (s.setMem8 a v).trc = s.trc := rfl
@[simp] theorem State.setMem8_phs (s : State) (a : Nat) (v : Byte) : (s.setMem8 a v).phs = s.phs := rfl
@[simp] theorem State.setMem8_stg (s : State) (a : Nat) (v : Byte) : (s.setMem8 a v).stg = s.stg := rfl
@[simp] theorem State.setMem8_loc (s : State) (a : Nat) (v : Byte) : (s.setMem8 a v).loc = s.loc := rfl
@[simp] theorem State.setMem8_fdr (s : State) (a : Nat) (v : Byte) : (s.setMem8 a v).fdr = s.fdr := rfl
@[simp] theorem State.setMem8_strs (s : State) (a : Nat) (v : Byte) : (s.setMem8 a v).strs = s.strs := rfl
@[simp] theorem State.setMem8_shf (s : State) (a : Nat) (v : Byte) : (s.setMem8 a v).shf = s.shf := rfl
@[simp] theorem State.setMem8_mb (s : State) (a : Nat) (v : Byte) : (s.setMem8 a v).mb = s.mb := rfl
@[simp] theorem State.setMem8_stat (s : State) (a : Nat) (v : Byte) : (s.setMem8 a v).stat = s.stat := rfl
@[simp] theorem State.setMem8_statSnap (s : State) (a : Nat) (v : Byte) : (s.setMem8 a v).statSnap = s.statSnap := rfl
@[simp] theorem State.setMem8_en (s : State) (a : Nat) (v : Byte) : (s.setMem8 a v).en = s.en := rfl
@[simp] theorem State.setMem8_meas (s : State) (a : Nat) (v : Byte) : (s.setMem8 a v).meas = s.meas := rfl
@[simp] theorem State.setMem8_hk (s : State) (a : Nat) (v : Byte) : (s.setMem8 a v).hk = s.hk := rfl
@[simp] theorem State.setMem8_evq (s : State) (a : Nat) (v : Byte) : (s.setMem8 a v).evq = s.evq := rfl
@[simp] theorem State.setMem8_flt (s : State) (a : Nat) (v : Byte) : (s.setMem8 a v).flt = s.flt := rfl
@[simp] theorem State.setMem8_ecc (s : State) (a : Nat) (v : Byte) : (s.setMem8 a v).ecc = s.ecc := rfl
@[simp] theorem State.setMem8_linj (s : State) (a : Nat) (v : Byte) : (s.setMem8 a v).linj = s.linj := rfl
@[simp] theorem State.setMem8_evr (s : State) (a : Nat) (v : Byte) : (s.setMem8 a v).evr = s.evr := rfl
@[simp] theorem State.setMem8_sbg (s : State) (a : Nat) (v : Byte) : (s.setMem8 a v).sbg = s.sbg := rfl
@[simp] theorem State.setMem8_free (s : State) (a : Nat) (v : Byte) : (s.setMem8 a v).free = s.free := rfl
@[simp] theorem State.setMem8_pending (s : State) (a : Nat) (v : Byte) : (s.setMem8 a v).pending = s.pending := rfl

/-! ## `State.setMem16` -/

@[simp] theorem State.setMem16_reg (s : State) (a v : Nat) : (s.setMem16 a v).reg = s.reg := rfl
@[simp] theorem State.setMem16_shadow (s : State) (a v : Nat) : (s.setMem16 a v).shadow = s.shadow := rfl
@[simp] theorem State.setMem16_latch (s : State) (a v : Nat) : (s.setMem16 a v).latch = s.latch := rfl
@[simp] theorem State.setMem16_readData (s : State) (a v : Nat) : (s.setMem16 a v).readData = s.readData := rfl
@[simp] theorem State.setMem16_time (s : State) (a v : Nat) : (s.setMem16 a v).time = s.time := rfl
@[simp] theorem State.setMem16_unit (s : State) (a v : Nat) : (s.setMem16 a v).unit = s.unit := rfl
@[simp] theorem State.setMem16_flash (s : State) (a v : Nat) : (s.setMem16 a v).flash = s.flash := rfl
@[simp] theorem State.setMem16_boot (s : State) (a v : Nat) : (s.setMem16 a v).boot = s.boot := rfl
@[simp] theorem State.setMem16_upd (s : State) (a v : Nat) : (s.setMem16 a v).upd = s.upd := rfl
@[simp] theorem State.setMem16_smb (s : State) (a v : Nat) : (s.setMem16 a v).smb = s.smb := rfl
@[simp] theorem State.setMem16_spi (s : State) (a v : Nat) : (s.setMem16 a v).spi = s.spi := rfl
@[simp] theorem State.setMem16_commit (s : State) (a v : Nat) : (s.setMem16 a v).commit = s.commit := rfl
@[simp] theorem State.setMem16_check (s : State) (a v : Nat) : (s.setMem16 a v).check = s.check := rfl
@[simp] theorem State.setMem16_pair (s : State) (a v : Nat) : (s.setMem16 a v).pair = s.pair := rfl
@[simp] theorem State.setMem16_links (s : State) (a v : Nat) : (s.setMem16 a v).links = s.links := rfl
@[simp] theorem State.setMem16_frameNo (s : State) (a v : Nat) : (s.setMem16 a v).frameNo = s.frameNo := rfl
@[simp] theorem State.setMem16_chans (s : State) (a v : Nat) : (s.setMem16 a v).chans = s.chans := rfl
@[simp] theorem State.setMem16_fine (s : State) (a v : Nat) : (s.setMem16 a v).fine = s.fine := rfl
@[simp] theorem State.setMem16_ctx (s : State) (a v : Nat) : (s.setMem16 a v).ctx = s.ctx := rfl
@[simp] theorem State.setMem16_cwq (s : State) (a v : Nat) : (s.setMem16 a v).cwq = s.cwq := rfl
@[simp] theorem State.setMem16_trc (s : State) (a v : Nat) : (s.setMem16 a v).trc = s.trc := rfl
@[simp] theorem State.setMem16_phs (s : State) (a v : Nat) : (s.setMem16 a v).phs = s.phs := rfl
@[simp] theorem State.setMem16_stg (s : State) (a v : Nat) : (s.setMem16 a v).stg = s.stg := rfl
@[simp] theorem State.setMem16_loc (s : State) (a v : Nat) : (s.setMem16 a v).loc = s.loc := rfl
@[simp] theorem State.setMem16_fdr (s : State) (a v : Nat) : (s.setMem16 a v).fdr = s.fdr := rfl
@[simp] theorem State.setMem16_strs (s : State) (a v : Nat) : (s.setMem16 a v).strs = s.strs := rfl
@[simp] theorem State.setMem16_shf (s : State) (a v : Nat) : (s.setMem16 a v).shf = s.shf := rfl
@[simp] theorem State.setMem16_mb (s : State) (a v : Nat) : (s.setMem16 a v).mb = s.mb := rfl
@[simp] theorem State.setMem16_stat (s : State) (a v : Nat) : (s.setMem16 a v).stat = s.stat := rfl
@[simp] theorem State.setMem16_statSnap (s : State) (a v : Nat) : (s.setMem16 a v).statSnap = s.statSnap := rfl
@[simp] theorem State.setMem16_en (s : State) (a v : Nat) : (s.setMem16 a v).en = s.en := rfl
@[simp] theorem State.setMem16_meas (s : State) (a v : Nat) : (s.setMem16 a v).meas = s.meas := rfl
@[simp] theorem State.setMem16_hk (s : State) (a v : Nat) : (s.setMem16 a v).hk = s.hk := rfl
@[simp] theorem State.setMem16_evq (s : State) (a v : Nat) : (s.setMem16 a v).evq = s.evq := rfl
@[simp] theorem State.setMem16_flt (s : State) (a v : Nat) : (s.setMem16 a v).flt = s.flt := rfl
@[simp] theorem State.setMem16_ecc (s : State) (a v : Nat) : (s.setMem16 a v).ecc = s.ecc := rfl
@[simp] theorem State.setMem16_linj (s : State) (a v : Nat) : (s.setMem16 a v).linj = s.linj := rfl
@[simp] theorem State.setMem16_evr (s : State) (a v : Nat) : (s.setMem16 a v).evr = s.evr := rfl
@[simp] theorem State.setMem16_sbg (s : State) (a v : Nat) : (s.setMem16 a v).sbg = s.sbg := rfl
@[simp] theorem State.setMem16_free (s : State) (a v : Nat) : (s.setMem16 a v).free = s.free := rfl
@[simp] theorem State.setMem16_pending (s : State) (a v : Nat) : (s.setMem16 a v).pending = s.pending := rfl

/-! ## `State.setMem32` -/

@[simp] theorem State.setMem32_reg (s : State) (a : Nat) (v : Word) : (s.setMem32 a v).reg = s.reg := rfl
@[simp] theorem State.setMem32_shadow (s : State) (a : Nat) (v : Word) : (s.setMem32 a v).shadow = s.shadow := rfl
@[simp] theorem State.setMem32_latch (s : State) (a : Nat) (v : Word) : (s.setMem32 a v).latch = s.latch := rfl
@[simp] theorem State.setMem32_readData (s : State) (a : Nat) (v : Word) : (s.setMem32 a v).readData = s.readData := rfl
@[simp] theorem State.setMem32_time (s : State) (a : Nat) (v : Word) : (s.setMem32 a v).time = s.time := rfl
@[simp] theorem State.setMem32_unit (s : State) (a : Nat) (v : Word) : (s.setMem32 a v).unit = s.unit := rfl
@[simp] theorem State.setMem32_flash (s : State) (a : Nat) (v : Word) : (s.setMem32 a v).flash = s.flash := rfl
@[simp] theorem State.setMem32_boot (s : State) (a : Nat) (v : Word) : (s.setMem32 a v).boot = s.boot := rfl
@[simp] theorem State.setMem32_upd (s : State) (a : Nat) (v : Word) : (s.setMem32 a v).upd = s.upd := rfl
@[simp] theorem State.setMem32_smb (s : State) (a : Nat) (v : Word) : (s.setMem32 a v).smb = s.smb := rfl
@[simp] theorem State.setMem32_spi (s : State) (a : Nat) (v : Word) : (s.setMem32 a v).spi = s.spi := rfl
@[simp] theorem State.setMem32_commit (s : State) (a : Nat) (v : Word) : (s.setMem32 a v).commit = s.commit := rfl
@[simp] theorem State.setMem32_check (s : State) (a : Nat) (v : Word) : (s.setMem32 a v).check = s.check := rfl
@[simp] theorem State.setMem32_pair (s : State) (a : Nat) (v : Word) : (s.setMem32 a v).pair = s.pair := rfl
@[simp] theorem State.setMem32_links (s : State) (a : Nat) (v : Word) : (s.setMem32 a v).links = s.links := rfl
@[simp] theorem State.setMem32_frameNo (s : State) (a : Nat) (v : Word) : (s.setMem32 a v).frameNo = s.frameNo := rfl
@[simp] theorem State.setMem32_chans (s : State) (a : Nat) (v : Word) : (s.setMem32 a v).chans = s.chans := rfl
@[simp] theorem State.setMem32_fine (s : State) (a : Nat) (v : Word) : (s.setMem32 a v).fine = s.fine := rfl
@[simp] theorem State.setMem32_ctx (s : State) (a : Nat) (v : Word) : (s.setMem32 a v).ctx = s.ctx := rfl
@[simp] theorem State.setMem32_cwq (s : State) (a : Nat) (v : Word) : (s.setMem32 a v).cwq = s.cwq := rfl
@[simp] theorem State.setMem32_trc (s : State) (a : Nat) (v : Word) : (s.setMem32 a v).trc = s.trc := rfl
@[simp] theorem State.setMem32_phs (s : State) (a : Nat) (v : Word) : (s.setMem32 a v).phs = s.phs := rfl
@[simp] theorem State.setMem32_stg (s : State) (a : Nat) (v : Word) : (s.setMem32 a v).stg = s.stg := rfl
@[simp] theorem State.setMem32_loc (s : State) (a : Nat) (v : Word) : (s.setMem32 a v).loc = s.loc := rfl
@[simp] theorem State.setMem32_fdr (s : State) (a : Nat) (v : Word) : (s.setMem32 a v).fdr = s.fdr := rfl
@[simp] theorem State.setMem32_strs (s : State) (a : Nat) (v : Word) : (s.setMem32 a v).strs = s.strs := rfl
@[simp] theorem State.setMem32_shf (s : State) (a : Nat) (v : Word) : (s.setMem32 a v).shf = s.shf := rfl
@[simp] theorem State.setMem32_mb (s : State) (a : Nat) (v : Word) : (s.setMem32 a v).mb = s.mb := rfl
@[simp] theorem State.setMem32_stat (s : State) (a : Nat) (v : Word) : (s.setMem32 a v).stat = s.stat := rfl
@[simp] theorem State.setMem32_statSnap (s : State) (a : Nat) (v : Word) : (s.setMem32 a v).statSnap = s.statSnap := rfl
@[simp] theorem State.setMem32_en (s : State) (a : Nat) (v : Word) : (s.setMem32 a v).en = s.en := rfl
@[simp] theorem State.setMem32_meas (s : State) (a : Nat) (v : Word) : (s.setMem32 a v).meas = s.meas := rfl
@[simp] theorem State.setMem32_hk (s : State) (a : Nat) (v : Word) : (s.setMem32 a v).hk = s.hk := rfl
@[simp] theorem State.setMem32_evq (s : State) (a : Nat) (v : Word) : (s.setMem32 a v).evq = s.evq := rfl
@[simp] theorem State.setMem32_flt (s : State) (a : Nat) (v : Word) : (s.setMem32 a v).flt = s.flt := rfl
@[simp] theorem State.setMem32_ecc (s : State) (a : Nat) (v : Word) : (s.setMem32 a v).ecc = s.ecc := rfl
@[simp] theorem State.setMem32_linj (s : State) (a : Nat) (v : Word) : (s.setMem32 a v).linj = s.linj := rfl
@[simp] theorem State.setMem32_evr (s : State) (a : Nat) (v : Word) : (s.setMem32 a v).evr = s.evr := rfl
@[simp] theorem State.setMem32_sbg (s : State) (a : Nat) (v : Word) : (s.setMem32 a v).sbg = s.sbg := rfl
@[simp] theorem State.setMem32_free (s : State) (a : Nat) (v : Word) : (s.setMem32 a v).free = s.free := rfl
@[simp] theorem State.setMem32_pending (s : State) (a : Nat) (v : Word) : (s.setMem32 a v).pending = s.pending := rfl

/-! ## `State.offer` -/

@[simp] theorem State.offer_reg (s : State) (r : Rec) : (s.offer r).reg = s.reg := rfl
@[simp] theorem State.offer_shadow (s : State) (r : Rec) : (s.offer r).shadow = s.shadow := rfl
@[simp] theorem State.offer_mem (s : State) (r : Rec) : (s.offer r).mem = s.mem := rfl
@[simp] theorem State.offer_latch (s : State) (r : Rec) : (s.offer r).latch = s.latch := rfl
@[simp] theorem State.offer_readData (s : State) (r : Rec) : (s.offer r).readData = s.readData := rfl
@[simp] theorem State.offer_time (s : State) (r : Rec) : (s.offer r).time = s.time := rfl
@[simp] theorem State.offer_unit (s : State) (r : Rec) : (s.offer r).unit = s.unit := rfl
@[simp] theorem State.offer_flash (s : State) (r : Rec) : (s.offer r).flash = s.flash := rfl
@[simp] theorem State.offer_boot (s : State) (r : Rec) : (s.offer r).boot = s.boot := rfl
@[simp] theorem State.offer_upd (s : State) (r : Rec) : (s.offer r).upd = s.upd := rfl
@[simp] theorem State.offer_smb (s : State) (r : Rec) : (s.offer r).smb = s.smb := rfl
@[simp] theorem State.offer_spi (s : State) (r : Rec) : (s.offer r).spi = s.spi := rfl
@[simp] theorem State.offer_commit (s : State) (r : Rec) : (s.offer r).commit = s.commit := rfl
@[simp] theorem State.offer_check (s : State) (r : Rec) : (s.offer r).check = s.check := rfl
@[simp] theorem State.offer_pair (s : State) (r : Rec) : (s.offer r).pair = s.pair := rfl
@[simp] theorem State.offer_links (s : State) (r : Rec) : (s.offer r).links = s.links := rfl
@[simp] theorem State.offer_frameNo (s : State) (r : Rec) : (s.offer r).frameNo = s.frameNo := rfl
@[simp] theorem State.offer_chans (s : State) (r : Rec) : (s.offer r).chans = s.chans := rfl
@[simp] theorem State.offer_fine (s : State) (r : Rec) : (s.offer r).fine = s.fine := rfl
@[simp] theorem State.offer_ctx (s : State) (r : Rec) : (s.offer r).ctx = s.ctx := rfl
@[simp] theorem State.offer_cwq (s : State) (r : Rec) : (s.offer r).cwq = s.cwq := rfl
@[simp] theorem State.offer_trc (s : State) (r : Rec) : (s.offer r).trc = s.trc := rfl
@[simp] theorem State.offer_phs (s : State) (r : Rec) : (s.offer r).phs = s.phs := rfl
@[simp] theorem State.offer_stg (s : State) (r : Rec) : (s.offer r).stg = s.stg := rfl
@[simp] theorem State.offer_loc (s : State) (r : Rec) : (s.offer r).loc = s.loc := rfl
@[simp] theorem State.offer_fdr (s : State) (r : Rec) : (s.offer r).fdr = s.fdr := rfl
@[simp] theorem State.offer_strs (s : State) (r : Rec) : (s.offer r).strs = s.strs := rfl
@[simp] theorem State.offer_shf (s : State) (r : Rec) : (s.offer r).shf = s.shf := rfl
@[simp] theorem State.offer_mb (s : State) (r : Rec) : (s.offer r).mb = s.mb := rfl
@[simp] theorem State.offer_stat (s : State) (r : Rec) : (s.offer r).stat = s.stat := rfl
@[simp] theorem State.offer_statSnap (s : State) (r : Rec) : (s.offer r).statSnap = s.statSnap := rfl
@[simp] theorem State.offer_en (s : State) (r : Rec) : (s.offer r).en = s.en := rfl
@[simp] theorem State.offer_meas (s : State) (r : Rec) : (s.offer r).meas = s.meas := rfl
@[simp] theorem State.offer_hk (s : State) (r : Rec) : (s.offer r).hk = s.hk := rfl
@[simp] theorem State.offer_evq (s : State) (r : Rec) : (s.offer r).evq = s.evq := rfl
@[simp] theorem State.offer_flt (s : State) (r : Rec) : (s.offer r).flt = s.flt := rfl
@[simp] theorem State.offer_ecc (s : State) (r : Rec) : (s.offer r).ecc = s.ecc := rfl
@[simp] theorem State.offer_linj (s : State) (r : Rec) : (s.offer r).linj = s.linj := rfl
@[simp] theorem State.offer_sbg (s : State) (r : Rec) : (s.offer r).sbg = s.sbg := rfl
@[simp] theorem State.offer_free (s : State) (r : Rec) : (s.offer r).free = s.free := rfl
@[simp] theorem State.offer_pending (s : State) (r : Rec) : (s.offer r).pending = s.pending := rfl

/-! ## `State.onLink` -/

@[simp] theorem State.onLink_reg (s : State) (n : Nat) (f : LinkSt → LinkSt) : (s.onLink n f).reg = s.reg := rfl
@[simp] theorem State.onLink_shadow (s : State) (n : Nat) (f : LinkSt → LinkSt) : (s.onLink n f).shadow = s.shadow := rfl
@[simp] theorem State.onLink_mem (s : State) (n : Nat) (f : LinkSt → LinkSt) : (s.onLink n f).mem = s.mem := rfl
@[simp] theorem State.onLink_latch (s : State) (n : Nat) (f : LinkSt → LinkSt) : (s.onLink n f).latch = s.latch := rfl
@[simp] theorem State.onLink_readData (s : State) (n : Nat) (f : LinkSt → LinkSt) : (s.onLink n f).readData = s.readData := rfl
@[simp] theorem State.onLink_time (s : State) (n : Nat) (f : LinkSt → LinkSt) : (s.onLink n f).time = s.time := rfl
@[simp] theorem State.onLink_unit (s : State) (n : Nat) (f : LinkSt → LinkSt) : (s.onLink n f).unit = s.unit := rfl
@[simp] theorem State.onLink_flash (s : State) (n : Nat) (f : LinkSt → LinkSt) : (s.onLink n f).flash = s.flash := rfl
@[simp] theorem State.onLink_boot (s : State) (n : Nat) (f : LinkSt → LinkSt) : (s.onLink n f).boot = s.boot := rfl
@[simp] theorem State.onLink_upd (s : State) (n : Nat) (f : LinkSt → LinkSt) : (s.onLink n f).upd = s.upd := rfl
@[simp] theorem State.onLink_smb (s : State) (n : Nat) (f : LinkSt → LinkSt) : (s.onLink n f).smb = s.smb := rfl
@[simp] theorem State.onLink_spi (s : State) (n : Nat) (f : LinkSt → LinkSt) : (s.onLink n f).spi = s.spi := rfl
@[simp] theorem State.onLink_commit (s : State) (n : Nat) (f : LinkSt → LinkSt) : (s.onLink n f).commit = s.commit := rfl
@[simp] theorem State.onLink_check (s : State) (n : Nat) (f : LinkSt → LinkSt) : (s.onLink n f).check = s.check := rfl
@[simp] theorem State.onLink_pair (s : State) (n : Nat) (f : LinkSt → LinkSt) : (s.onLink n f).pair = s.pair := rfl
@[simp] theorem State.onLink_frameNo (s : State) (n : Nat) (f : LinkSt → LinkSt) : (s.onLink n f).frameNo = s.frameNo := rfl
@[simp] theorem State.onLink_chans (s : State) (n : Nat) (f : LinkSt → LinkSt) : (s.onLink n f).chans = s.chans := rfl
@[simp] theorem State.onLink_fine (s : State) (n : Nat) (f : LinkSt → LinkSt) : (s.onLink n f).fine = s.fine := rfl
@[simp] theorem State.onLink_ctx (s : State) (n : Nat) (f : LinkSt → LinkSt) : (s.onLink n f).ctx = s.ctx := rfl
@[simp] theorem State.onLink_cwq (s : State) (n : Nat) (f : LinkSt → LinkSt) : (s.onLink n f).cwq = s.cwq := rfl
@[simp] theorem State.onLink_trc (s : State) (n : Nat) (f : LinkSt → LinkSt) : (s.onLink n f).trc = s.trc := rfl
@[simp] theorem State.onLink_phs (s : State) (n : Nat) (f : LinkSt → LinkSt) : (s.onLink n f).phs = s.phs := rfl
@[simp] theorem State.onLink_stg (s : State) (n : Nat) (f : LinkSt → LinkSt) : (s.onLink n f).stg = s.stg := rfl
@[simp] theorem State.onLink_loc (s : State) (n : Nat) (f : LinkSt → LinkSt) : (s.onLink n f).loc = s.loc := rfl
@[simp] theorem State.onLink_fdr (s : State) (n : Nat) (f : LinkSt → LinkSt) : (s.onLink n f).fdr = s.fdr := rfl
@[simp] theorem State.onLink_strs (s : State) (n : Nat) (f : LinkSt → LinkSt) : (s.onLink n f).strs = s.strs := rfl
@[simp] theorem State.onLink_shf (s : State) (n : Nat) (f : LinkSt → LinkSt) : (s.onLink n f).shf = s.shf := rfl
@[simp] theorem State.onLink_mb (s : State) (n : Nat) (f : LinkSt → LinkSt) : (s.onLink n f).mb = s.mb := rfl
@[simp] theorem State.onLink_stat (s : State) (n : Nat) (f : LinkSt → LinkSt) : (s.onLink n f).stat = s.stat := rfl
@[simp] theorem State.onLink_statSnap (s : State) (n : Nat) (f : LinkSt → LinkSt) : (s.onLink n f).statSnap = s.statSnap := rfl
@[simp] theorem State.onLink_en (s : State) (n : Nat) (f : LinkSt → LinkSt) : (s.onLink n f).en = s.en := rfl
@[simp] theorem State.onLink_meas (s : State) (n : Nat) (f : LinkSt → LinkSt) : (s.onLink n f).meas = s.meas := rfl
@[simp] theorem State.onLink_hk (s : State) (n : Nat) (f : LinkSt → LinkSt) : (s.onLink n f).hk = s.hk := rfl
@[simp] theorem State.onLink_evq (s : State) (n : Nat) (f : LinkSt → LinkSt) : (s.onLink n f).evq = s.evq := rfl
@[simp] theorem State.onLink_flt (s : State) (n : Nat) (f : LinkSt → LinkSt) : (s.onLink n f).flt = s.flt := rfl
@[simp] theorem State.onLink_ecc (s : State) (n : Nat) (f : LinkSt → LinkSt) : (s.onLink n f).ecc = s.ecc := rfl
@[simp] theorem State.onLink_linj (s : State) (n : Nat) (f : LinkSt → LinkSt) : (s.onLink n f).linj = s.linj := rfl
@[simp] theorem State.onLink_evr (s : State) (n : Nat) (f : LinkSt → LinkSt) : (s.onLink n f).evr = s.evr := rfl
@[simp] theorem State.onLink_sbg (s : State) (n : Nat) (f : LinkSt → LinkSt) : (s.onLink n f).sbg = s.sbg := rfl
@[simp] theorem State.onLink_free (s : State) (n : Nat) (f : LinkSt → LinkSt) : (s.onLink n f).free = s.free := rfl
@[simp] theorem State.onLink_pending (s : State) (n : Nat) (f : LinkSt → LinkSt) : (s.onLink n f).pending = s.pending := rfl

/-! ## `State.onPh` -/

@[simp] theorem State.onPh_reg (s : State) (n : Nat) (f : PhSt → PhSt) : (s.onPh n f).reg = s.reg := rfl
@[simp] theorem State.onPh_shadow (s : State) (n : Nat) (f : PhSt → PhSt) : (s.onPh n f).shadow = s.shadow := rfl
@[simp] theorem State.onPh_mem (s : State) (n : Nat) (f : PhSt → PhSt) : (s.onPh n f).mem = s.mem := rfl
@[simp] theorem State.onPh_latch (s : State) (n : Nat) (f : PhSt → PhSt) : (s.onPh n f).latch = s.latch := rfl
@[simp] theorem State.onPh_readData (s : State) (n : Nat) (f : PhSt → PhSt) : (s.onPh n f).readData = s.readData := rfl
@[simp] theorem State.onPh_time (s : State) (n : Nat) (f : PhSt → PhSt) : (s.onPh n f).time = s.time := rfl
@[simp] theorem State.onPh_unit (s : State) (n : Nat) (f : PhSt → PhSt) : (s.onPh n f).unit = s.unit := rfl
@[simp] theorem State.onPh_flash (s : State) (n : Nat) (f : PhSt → PhSt) : (s.onPh n f).flash = s.flash := rfl
@[simp] theorem State.onPh_boot (s : State) (n : Nat) (f : PhSt → PhSt) : (s.onPh n f).boot = s.boot := rfl
@[simp] theorem State.onPh_upd (s : State) (n : Nat) (f : PhSt → PhSt) : (s.onPh n f).upd = s.upd := rfl
@[simp] theorem State.onPh_smb (s : State) (n : Nat) (f : PhSt → PhSt) : (s.onPh n f).smb = s.smb := rfl
@[simp] theorem State.onPh_spi (s : State) (n : Nat) (f : PhSt → PhSt) : (s.onPh n f).spi = s.spi := rfl
@[simp] theorem State.onPh_commit (s : State) (n : Nat) (f : PhSt → PhSt) : (s.onPh n f).commit = s.commit := rfl
@[simp] theorem State.onPh_check (s : State) (n : Nat) (f : PhSt → PhSt) : (s.onPh n f).check = s.check := rfl
@[simp] theorem State.onPh_pair (s : State) (n : Nat) (f : PhSt → PhSt) : (s.onPh n f).pair = s.pair := rfl
@[simp] theorem State.onPh_links (s : State) (n : Nat) (f : PhSt → PhSt) : (s.onPh n f).links = s.links := rfl
@[simp] theorem State.onPh_frameNo (s : State) (n : Nat) (f : PhSt → PhSt) : (s.onPh n f).frameNo = s.frameNo := rfl
@[simp] theorem State.onPh_chans (s : State) (n : Nat) (f : PhSt → PhSt) : (s.onPh n f).chans = s.chans := rfl
@[simp] theorem State.onPh_fine (s : State) (n : Nat) (f : PhSt → PhSt) : (s.onPh n f).fine = s.fine := rfl
@[simp] theorem State.onPh_ctx (s : State) (n : Nat) (f : PhSt → PhSt) : (s.onPh n f).ctx = s.ctx := rfl
@[simp] theorem State.onPh_cwq (s : State) (n : Nat) (f : PhSt → PhSt) : (s.onPh n f).cwq = s.cwq := rfl
@[simp] theorem State.onPh_trc (s : State) (n : Nat) (f : PhSt → PhSt) : (s.onPh n f).trc = s.trc := rfl
@[simp] theorem State.onPh_stg (s : State) (n : Nat) (f : PhSt → PhSt) : (s.onPh n f).stg = s.stg := rfl
@[simp] theorem State.onPh_loc (s : State) (n : Nat) (f : PhSt → PhSt) : (s.onPh n f).loc = s.loc := rfl
@[simp] theorem State.onPh_fdr (s : State) (n : Nat) (f : PhSt → PhSt) : (s.onPh n f).fdr = s.fdr := rfl
@[simp] theorem State.onPh_strs (s : State) (n : Nat) (f : PhSt → PhSt) : (s.onPh n f).strs = s.strs := rfl
@[simp] theorem State.onPh_shf (s : State) (n : Nat) (f : PhSt → PhSt) : (s.onPh n f).shf = s.shf := rfl
@[simp] theorem State.onPh_mb (s : State) (n : Nat) (f : PhSt → PhSt) : (s.onPh n f).mb = s.mb := rfl
@[simp] theorem State.onPh_stat (s : State) (n : Nat) (f : PhSt → PhSt) : (s.onPh n f).stat = s.stat := rfl
@[simp] theorem State.onPh_statSnap (s : State) (n : Nat) (f : PhSt → PhSt) : (s.onPh n f).statSnap = s.statSnap := rfl
@[simp] theorem State.onPh_en (s : State) (n : Nat) (f : PhSt → PhSt) : (s.onPh n f).en = s.en := rfl
@[simp] theorem State.onPh_meas (s : State) (n : Nat) (f : PhSt → PhSt) : (s.onPh n f).meas = s.meas := rfl
@[simp] theorem State.onPh_hk (s : State) (n : Nat) (f : PhSt → PhSt) : (s.onPh n f).hk = s.hk := rfl
@[simp] theorem State.onPh_evq (s : State) (n : Nat) (f : PhSt → PhSt) : (s.onPh n f).evq = s.evq := rfl
@[simp] theorem State.onPh_flt (s : State) (n : Nat) (f : PhSt → PhSt) : (s.onPh n f).flt = s.flt := rfl
@[simp] theorem State.onPh_ecc (s : State) (n : Nat) (f : PhSt → PhSt) : (s.onPh n f).ecc = s.ecc := rfl
@[simp] theorem State.onPh_linj (s : State) (n : Nat) (f : PhSt → PhSt) : (s.onPh n f).linj = s.linj := rfl
@[simp] theorem State.onPh_evr (s : State) (n : Nat) (f : PhSt → PhSt) : (s.onPh n f).evr = s.evr := rfl
@[simp] theorem State.onPh_sbg (s : State) (n : Nat) (f : PhSt → PhSt) : (s.onPh n f).sbg = s.sbg := rfl
@[simp] theorem State.onPh_free (s : State) (n : Nat) (f : PhSt → PhSt) : (s.onPh n f).free = s.free := rfl
@[simp] theorem State.onPh_pending (s : State) (n : Nat) (f : PhSt → PhSt) : (s.onPh n f).pending = s.pending := rfl

/-! ## `State.onSg` -/

@[simp] theorem State.onSg_reg (s : State) (n : Nat) (f : StgSt → StgSt) : (s.onSg n f).reg = s.reg := rfl
@[simp] theorem State.onSg_shadow (s : State) (n : Nat) (f : StgSt → StgSt) : (s.onSg n f).shadow = s.shadow := rfl
@[simp] theorem State.onSg_mem (s : State) (n : Nat) (f : StgSt → StgSt) : (s.onSg n f).mem = s.mem := rfl
@[simp] theorem State.onSg_latch (s : State) (n : Nat) (f : StgSt → StgSt) : (s.onSg n f).latch = s.latch := rfl
@[simp] theorem State.onSg_readData (s : State) (n : Nat) (f : StgSt → StgSt) : (s.onSg n f).readData = s.readData := rfl
@[simp] theorem State.onSg_time (s : State) (n : Nat) (f : StgSt → StgSt) : (s.onSg n f).time = s.time := rfl
@[simp] theorem State.onSg_unit (s : State) (n : Nat) (f : StgSt → StgSt) : (s.onSg n f).unit = s.unit := rfl
@[simp] theorem State.onSg_flash (s : State) (n : Nat) (f : StgSt → StgSt) : (s.onSg n f).flash = s.flash := rfl
@[simp] theorem State.onSg_boot (s : State) (n : Nat) (f : StgSt → StgSt) : (s.onSg n f).boot = s.boot := rfl
@[simp] theorem State.onSg_upd (s : State) (n : Nat) (f : StgSt → StgSt) : (s.onSg n f).upd = s.upd := rfl
@[simp] theorem State.onSg_smb (s : State) (n : Nat) (f : StgSt → StgSt) : (s.onSg n f).smb = s.smb := rfl
@[simp] theorem State.onSg_spi (s : State) (n : Nat) (f : StgSt → StgSt) : (s.onSg n f).spi = s.spi := rfl
@[simp] theorem State.onSg_commit (s : State) (n : Nat) (f : StgSt → StgSt) : (s.onSg n f).commit = s.commit := rfl
@[simp] theorem State.onSg_check (s : State) (n : Nat) (f : StgSt → StgSt) : (s.onSg n f).check = s.check := rfl
@[simp] theorem State.onSg_pair (s : State) (n : Nat) (f : StgSt → StgSt) : (s.onSg n f).pair = s.pair := rfl
@[simp] theorem State.onSg_links (s : State) (n : Nat) (f : StgSt → StgSt) : (s.onSg n f).links = s.links := rfl
@[simp] theorem State.onSg_frameNo (s : State) (n : Nat) (f : StgSt → StgSt) : (s.onSg n f).frameNo = s.frameNo := rfl
@[simp] theorem State.onSg_chans (s : State) (n : Nat) (f : StgSt → StgSt) : (s.onSg n f).chans = s.chans := rfl
@[simp] theorem State.onSg_fine (s : State) (n : Nat) (f : StgSt → StgSt) : (s.onSg n f).fine = s.fine := rfl
@[simp] theorem State.onSg_ctx (s : State) (n : Nat) (f : StgSt → StgSt) : (s.onSg n f).ctx = s.ctx := rfl
@[simp] theorem State.onSg_cwq (s : State) (n : Nat) (f : StgSt → StgSt) : (s.onSg n f).cwq = s.cwq := rfl
@[simp] theorem State.onSg_trc (s : State) (n : Nat) (f : StgSt → StgSt) : (s.onSg n f).trc = s.trc := rfl
@[simp] theorem State.onSg_phs (s : State) (n : Nat) (f : StgSt → StgSt) : (s.onSg n f).phs = s.phs := rfl
@[simp] theorem State.onSg_loc (s : State) (n : Nat) (f : StgSt → StgSt) : (s.onSg n f).loc = s.loc := rfl
@[simp] theorem State.onSg_fdr (s : State) (n : Nat) (f : StgSt → StgSt) : (s.onSg n f).fdr = s.fdr := rfl
@[simp] theorem State.onSg_strs (s : State) (n : Nat) (f : StgSt → StgSt) : (s.onSg n f).strs = s.strs := rfl
@[simp] theorem State.onSg_shf (s : State) (n : Nat) (f : StgSt → StgSt) : (s.onSg n f).shf = s.shf := rfl
@[simp] theorem State.onSg_mb (s : State) (n : Nat) (f : StgSt → StgSt) : (s.onSg n f).mb = s.mb := rfl
@[simp] theorem State.onSg_stat (s : State) (n : Nat) (f : StgSt → StgSt) : (s.onSg n f).stat = s.stat := rfl
@[simp] theorem State.onSg_statSnap (s : State) (n : Nat) (f : StgSt → StgSt) : (s.onSg n f).statSnap = s.statSnap := rfl
@[simp] theorem State.onSg_en (s : State) (n : Nat) (f : StgSt → StgSt) : (s.onSg n f).en = s.en := rfl
@[simp] theorem State.onSg_meas (s : State) (n : Nat) (f : StgSt → StgSt) : (s.onSg n f).meas = s.meas := rfl
@[simp] theorem State.onSg_hk (s : State) (n : Nat) (f : StgSt → StgSt) : (s.onSg n f).hk = s.hk := rfl
@[simp] theorem State.onSg_evq (s : State) (n : Nat) (f : StgSt → StgSt) : (s.onSg n f).evq = s.evq := rfl
@[simp] theorem State.onSg_flt (s : State) (n : Nat) (f : StgSt → StgSt) : (s.onSg n f).flt = s.flt := rfl
@[simp] theorem State.onSg_ecc (s : State) (n : Nat) (f : StgSt → StgSt) : (s.onSg n f).ecc = s.ecc := rfl
@[simp] theorem State.onSg_linj (s : State) (n : Nat) (f : StgSt → StgSt) : (s.onSg n f).linj = s.linj := rfl
@[simp] theorem State.onSg_evr (s : State) (n : Nat) (f : StgSt → StgSt) : (s.onSg n f).evr = s.evr := rfl
@[simp] theorem State.onSg_sbg (s : State) (n : Nat) (f : StgSt → StgSt) : (s.onSg n f).sbg = s.sbg := rfl
@[simp] theorem State.onSg_free (s : State) (n : Nat) (f : StgSt → StgSt) : (s.onSg n f).free = s.free := rfl
@[simp] theorem State.onSg_pending (s : State) (n : Nat) (f : StgSt → StgSt) : (s.onSg n f).pending = s.pending := rfl

/-! ## `State.onLc` -/

@[simp] theorem State.onLc_reg (s : State) (n : Nat) (f : LocSt → LocSt) : (s.onLc n f).reg = s.reg := rfl
@[simp] theorem State.onLc_shadow (s : State) (n : Nat) (f : LocSt → LocSt) : (s.onLc n f).shadow = s.shadow := rfl
@[simp] theorem State.onLc_mem (s : State) (n : Nat) (f : LocSt → LocSt) : (s.onLc n f).mem = s.mem := rfl
@[simp] theorem State.onLc_latch (s : State) (n : Nat) (f : LocSt → LocSt) : (s.onLc n f).latch = s.latch := rfl
@[simp] theorem State.onLc_readData (s : State) (n : Nat) (f : LocSt → LocSt) : (s.onLc n f).readData = s.readData := rfl
@[simp] theorem State.onLc_time (s : State) (n : Nat) (f : LocSt → LocSt) : (s.onLc n f).time = s.time := rfl
@[simp] theorem State.onLc_unit (s : State) (n : Nat) (f : LocSt → LocSt) : (s.onLc n f).unit = s.unit := rfl
@[simp] theorem State.onLc_flash (s : State) (n : Nat) (f : LocSt → LocSt) : (s.onLc n f).flash = s.flash := rfl
@[simp] theorem State.onLc_boot (s : State) (n : Nat) (f : LocSt → LocSt) : (s.onLc n f).boot = s.boot := rfl
@[simp] theorem State.onLc_upd (s : State) (n : Nat) (f : LocSt → LocSt) : (s.onLc n f).upd = s.upd := rfl
@[simp] theorem State.onLc_smb (s : State) (n : Nat) (f : LocSt → LocSt) : (s.onLc n f).smb = s.smb := rfl
@[simp] theorem State.onLc_spi (s : State) (n : Nat) (f : LocSt → LocSt) : (s.onLc n f).spi = s.spi := rfl
@[simp] theorem State.onLc_commit (s : State) (n : Nat) (f : LocSt → LocSt) : (s.onLc n f).commit = s.commit := rfl
@[simp] theorem State.onLc_check (s : State) (n : Nat) (f : LocSt → LocSt) : (s.onLc n f).check = s.check := rfl
@[simp] theorem State.onLc_pair (s : State) (n : Nat) (f : LocSt → LocSt) : (s.onLc n f).pair = s.pair := rfl
@[simp] theorem State.onLc_links (s : State) (n : Nat) (f : LocSt → LocSt) : (s.onLc n f).links = s.links := rfl
@[simp] theorem State.onLc_frameNo (s : State) (n : Nat) (f : LocSt → LocSt) : (s.onLc n f).frameNo = s.frameNo := rfl
@[simp] theorem State.onLc_chans (s : State) (n : Nat) (f : LocSt → LocSt) : (s.onLc n f).chans = s.chans := rfl
@[simp] theorem State.onLc_fine (s : State) (n : Nat) (f : LocSt → LocSt) : (s.onLc n f).fine = s.fine := rfl
@[simp] theorem State.onLc_ctx (s : State) (n : Nat) (f : LocSt → LocSt) : (s.onLc n f).ctx = s.ctx := rfl
@[simp] theorem State.onLc_cwq (s : State) (n : Nat) (f : LocSt → LocSt) : (s.onLc n f).cwq = s.cwq := rfl
@[simp] theorem State.onLc_trc (s : State) (n : Nat) (f : LocSt → LocSt) : (s.onLc n f).trc = s.trc := rfl
@[simp] theorem State.onLc_phs (s : State) (n : Nat) (f : LocSt → LocSt) : (s.onLc n f).phs = s.phs := rfl
@[simp] theorem State.onLc_stg (s : State) (n : Nat) (f : LocSt → LocSt) : (s.onLc n f).stg = s.stg := rfl
@[simp] theorem State.onLc_fdr (s : State) (n : Nat) (f : LocSt → LocSt) : (s.onLc n f).fdr = s.fdr := rfl
@[simp] theorem State.onLc_strs (s : State) (n : Nat) (f : LocSt → LocSt) : (s.onLc n f).strs = s.strs := rfl
@[simp] theorem State.onLc_shf (s : State) (n : Nat) (f : LocSt → LocSt) : (s.onLc n f).shf = s.shf := rfl
@[simp] theorem State.onLc_mb (s : State) (n : Nat) (f : LocSt → LocSt) : (s.onLc n f).mb = s.mb := rfl
@[simp] theorem State.onLc_stat (s : State) (n : Nat) (f : LocSt → LocSt) : (s.onLc n f).stat = s.stat := rfl
@[simp] theorem State.onLc_statSnap (s : State) (n : Nat) (f : LocSt → LocSt) : (s.onLc n f).statSnap = s.statSnap := rfl
@[simp] theorem State.onLc_en (s : State) (n : Nat) (f : LocSt → LocSt) : (s.onLc n f).en = s.en := rfl
@[simp] theorem State.onLc_meas (s : State) (n : Nat) (f : LocSt → LocSt) : (s.onLc n f).meas = s.meas := rfl
@[simp] theorem State.onLc_hk (s : State) (n : Nat) (f : LocSt → LocSt) : (s.onLc n f).hk = s.hk := rfl
@[simp] theorem State.onLc_evq (s : State) (n : Nat) (f : LocSt → LocSt) : (s.onLc n f).evq = s.evq := rfl
@[simp] theorem State.onLc_flt (s : State) (n : Nat) (f : LocSt → LocSt) : (s.onLc n f).flt = s.flt := rfl
@[simp] theorem State.onLc_ecc (s : State) (n : Nat) (f : LocSt → LocSt) : (s.onLc n f).ecc = s.ecc := rfl
@[simp] theorem State.onLc_linj (s : State) (n : Nat) (f : LocSt → LocSt) : (s.onLc n f).linj = s.linj := rfl
@[simp] theorem State.onLc_evr (s : State) (n : Nat) (f : LocSt → LocSt) : (s.onLc n f).evr = s.evr := rfl
@[simp] theorem State.onLc_sbg (s : State) (n : Nat) (f : LocSt → LocSt) : (s.onLc n f).sbg = s.sbg := rfl
@[simp] theorem State.onLc_free (s : State) (n : Nat) (f : LocSt → LocSt) : (s.onLc n f).free = s.free := rfl
@[simp] theorem State.onLc_pending (s : State) (n : Nat) (f : LocSt → LocSt) : (s.onLc n f).pending = s.pending := rfl

/-! ## `State.onFd` -/

@[simp] theorem State.onFd_reg (s : State) (n : Nat) (f : FdrSt → FdrSt) : (s.onFd n f).reg = s.reg := rfl
@[simp] theorem State.onFd_shadow (s : State) (n : Nat) (f : FdrSt → FdrSt) : (s.onFd n f).shadow = s.shadow := rfl
@[simp] theorem State.onFd_mem (s : State) (n : Nat) (f : FdrSt → FdrSt) : (s.onFd n f).mem = s.mem := rfl
@[simp] theorem State.onFd_latch (s : State) (n : Nat) (f : FdrSt → FdrSt) : (s.onFd n f).latch = s.latch := rfl
@[simp] theorem State.onFd_readData (s : State) (n : Nat) (f : FdrSt → FdrSt) : (s.onFd n f).readData = s.readData := rfl
@[simp] theorem State.onFd_time (s : State) (n : Nat) (f : FdrSt → FdrSt) : (s.onFd n f).time = s.time := rfl
@[simp] theorem State.onFd_unit (s : State) (n : Nat) (f : FdrSt → FdrSt) : (s.onFd n f).unit = s.unit := rfl
@[simp] theorem State.onFd_flash (s : State) (n : Nat) (f : FdrSt → FdrSt) : (s.onFd n f).flash = s.flash := rfl
@[simp] theorem State.onFd_boot (s : State) (n : Nat) (f : FdrSt → FdrSt) : (s.onFd n f).boot = s.boot := rfl
@[simp] theorem State.onFd_upd (s : State) (n : Nat) (f : FdrSt → FdrSt) : (s.onFd n f).upd = s.upd := rfl
@[simp] theorem State.onFd_smb (s : State) (n : Nat) (f : FdrSt → FdrSt) : (s.onFd n f).smb = s.smb := rfl
@[simp] theorem State.onFd_spi (s : State) (n : Nat) (f : FdrSt → FdrSt) : (s.onFd n f).spi = s.spi := rfl
@[simp] theorem State.onFd_commit (s : State) (n : Nat) (f : FdrSt → FdrSt) : (s.onFd n f).commit = s.commit := rfl
@[simp] theorem State.onFd_check (s : State) (n : Nat) (f : FdrSt → FdrSt) : (s.onFd n f).check = s.check := rfl
@[simp] theorem State.onFd_pair (s : State) (n : Nat) (f : FdrSt → FdrSt) : (s.onFd n f).pair = s.pair := rfl
@[simp] theorem State.onFd_links (s : State) (n : Nat) (f : FdrSt → FdrSt) : (s.onFd n f).links = s.links := rfl
@[simp] theorem State.onFd_frameNo (s : State) (n : Nat) (f : FdrSt → FdrSt) : (s.onFd n f).frameNo = s.frameNo := rfl
@[simp] theorem State.onFd_chans (s : State) (n : Nat) (f : FdrSt → FdrSt) : (s.onFd n f).chans = s.chans := rfl
@[simp] theorem State.onFd_fine (s : State) (n : Nat) (f : FdrSt → FdrSt) : (s.onFd n f).fine = s.fine := rfl
@[simp] theorem State.onFd_ctx (s : State) (n : Nat) (f : FdrSt → FdrSt) : (s.onFd n f).ctx = s.ctx := rfl
@[simp] theorem State.onFd_cwq (s : State) (n : Nat) (f : FdrSt → FdrSt) : (s.onFd n f).cwq = s.cwq := rfl
@[simp] theorem State.onFd_trc (s : State) (n : Nat) (f : FdrSt → FdrSt) : (s.onFd n f).trc = s.trc := rfl
@[simp] theorem State.onFd_phs (s : State) (n : Nat) (f : FdrSt → FdrSt) : (s.onFd n f).phs = s.phs := rfl
@[simp] theorem State.onFd_stg (s : State) (n : Nat) (f : FdrSt → FdrSt) : (s.onFd n f).stg = s.stg := rfl
@[simp] theorem State.onFd_loc (s : State) (n : Nat) (f : FdrSt → FdrSt) : (s.onFd n f).loc = s.loc := rfl
@[simp] theorem State.onFd_strs (s : State) (n : Nat) (f : FdrSt → FdrSt) : (s.onFd n f).strs = s.strs := rfl
@[simp] theorem State.onFd_shf (s : State) (n : Nat) (f : FdrSt → FdrSt) : (s.onFd n f).shf = s.shf := rfl
@[simp] theorem State.onFd_mb (s : State) (n : Nat) (f : FdrSt → FdrSt) : (s.onFd n f).mb = s.mb := rfl
@[simp] theorem State.onFd_stat (s : State) (n : Nat) (f : FdrSt → FdrSt) : (s.onFd n f).stat = s.stat := rfl
@[simp] theorem State.onFd_statSnap (s : State) (n : Nat) (f : FdrSt → FdrSt) : (s.onFd n f).statSnap = s.statSnap := rfl
@[simp] theorem State.onFd_en (s : State) (n : Nat) (f : FdrSt → FdrSt) : (s.onFd n f).en = s.en := rfl
@[simp] theorem State.onFd_meas (s : State) (n : Nat) (f : FdrSt → FdrSt) : (s.onFd n f).meas = s.meas := rfl
@[simp] theorem State.onFd_hk (s : State) (n : Nat) (f : FdrSt → FdrSt) : (s.onFd n f).hk = s.hk := rfl
@[simp] theorem State.onFd_evq (s : State) (n : Nat) (f : FdrSt → FdrSt) : (s.onFd n f).evq = s.evq := rfl
@[simp] theorem State.onFd_flt (s : State) (n : Nat) (f : FdrSt → FdrSt) : (s.onFd n f).flt = s.flt := rfl
@[simp] theorem State.onFd_ecc (s : State) (n : Nat) (f : FdrSt → FdrSt) : (s.onFd n f).ecc = s.ecc := rfl
@[simp] theorem State.onFd_linj (s : State) (n : Nat) (f : FdrSt → FdrSt) : (s.onFd n f).linj = s.linj := rfl
@[simp] theorem State.onFd_evr (s : State) (n : Nat) (f : FdrSt → FdrSt) : (s.onFd n f).evr = s.evr := rfl
@[simp] theorem State.onFd_sbg (s : State) (n : Nat) (f : FdrSt → FdrSt) : (s.onFd n f).sbg = s.sbg := rfl
@[simp] theorem State.onFd_free (s : State) (n : Nat) (f : FdrSt → FdrSt) : (s.onFd n f).free = s.free := rfl
@[simp] theorem State.onFd_pending (s : State) (n : Nat) (f : FdrSt → FdrSt) : (s.onFd n f).pending = s.pending := rfl

/-! ## `State.onCx` -/

@[simp] theorem State.onCx_reg (s : State) (n : Nat) (f : CtxSt → CtxSt) : (s.onCx n f).reg = s.reg := rfl
@[simp] theorem State.onCx_shadow (s : State) (n : Nat) (f : CtxSt → CtxSt) : (s.onCx n f).shadow = s.shadow := rfl
@[simp] theorem State.onCx_mem (s : State) (n : Nat) (f : CtxSt → CtxSt) : (s.onCx n f).mem = s.mem := rfl
@[simp] theorem State.onCx_latch (s : State) (n : Nat) (f : CtxSt → CtxSt) : (s.onCx n f).latch = s.latch := rfl
@[simp] theorem State.onCx_readData (s : State) (n : Nat) (f : CtxSt → CtxSt) : (s.onCx n f).readData = s.readData := rfl
@[simp] theorem State.onCx_time (s : State) (n : Nat) (f : CtxSt → CtxSt) : (s.onCx n f).time = s.time := rfl
@[simp] theorem State.onCx_unit (s : State) (n : Nat) (f : CtxSt → CtxSt) : (s.onCx n f).unit = s.unit := rfl
@[simp] theorem State.onCx_flash (s : State) (n : Nat) (f : CtxSt → CtxSt) : (s.onCx n f).flash = s.flash := rfl
@[simp] theorem State.onCx_boot (s : State) (n : Nat) (f : CtxSt → CtxSt) : (s.onCx n f).boot = s.boot := rfl
@[simp] theorem State.onCx_upd (s : State) (n : Nat) (f : CtxSt → CtxSt) : (s.onCx n f).upd = s.upd := rfl
@[simp] theorem State.onCx_smb (s : State) (n : Nat) (f : CtxSt → CtxSt) : (s.onCx n f).smb = s.smb := rfl
@[simp] theorem State.onCx_spi (s : State) (n : Nat) (f : CtxSt → CtxSt) : (s.onCx n f).spi = s.spi := rfl
@[simp] theorem State.onCx_commit (s : State) (n : Nat) (f : CtxSt → CtxSt) : (s.onCx n f).commit = s.commit := rfl
@[simp] theorem State.onCx_check (s : State) (n : Nat) (f : CtxSt → CtxSt) : (s.onCx n f).check = s.check := rfl
@[simp] theorem State.onCx_pair (s : State) (n : Nat) (f : CtxSt → CtxSt) : (s.onCx n f).pair = s.pair := rfl
@[simp] theorem State.onCx_links (s : State) (n : Nat) (f : CtxSt → CtxSt) : (s.onCx n f).links = s.links := rfl
@[simp] theorem State.onCx_frameNo (s : State) (n : Nat) (f : CtxSt → CtxSt) : (s.onCx n f).frameNo = s.frameNo := rfl
@[simp] theorem State.onCx_chans (s : State) (n : Nat) (f : CtxSt → CtxSt) : (s.onCx n f).chans = s.chans := rfl
@[simp] theorem State.onCx_fine (s : State) (n : Nat) (f : CtxSt → CtxSt) : (s.onCx n f).fine = s.fine := rfl
@[simp] theorem State.onCx_cwq (s : State) (n : Nat) (f : CtxSt → CtxSt) : (s.onCx n f).cwq = s.cwq := rfl
@[simp] theorem State.onCx_trc (s : State) (n : Nat) (f : CtxSt → CtxSt) : (s.onCx n f).trc = s.trc := rfl
@[simp] theorem State.onCx_phs (s : State) (n : Nat) (f : CtxSt → CtxSt) : (s.onCx n f).phs = s.phs := rfl
@[simp] theorem State.onCx_stg (s : State) (n : Nat) (f : CtxSt → CtxSt) : (s.onCx n f).stg = s.stg := rfl
@[simp] theorem State.onCx_loc (s : State) (n : Nat) (f : CtxSt → CtxSt) : (s.onCx n f).loc = s.loc := rfl
@[simp] theorem State.onCx_fdr (s : State) (n : Nat) (f : CtxSt → CtxSt) : (s.onCx n f).fdr = s.fdr := rfl
@[simp] theorem State.onCx_strs (s : State) (n : Nat) (f : CtxSt → CtxSt) : (s.onCx n f).strs = s.strs := rfl
@[simp] theorem State.onCx_shf (s : State) (n : Nat) (f : CtxSt → CtxSt) : (s.onCx n f).shf = s.shf := rfl
@[simp] theorem State.onCx_mb (s : State) (n : Nat) (f : CtxSt → CtxSt) : (s.onCx n f).mb = s.mb := rfl
@[simp] theorem State.onCx_stat (s : State) (n : Nat) (f : CtxSt → CtxSt) : (s.onCx n f).stat = s.stat := rfl
@[simp] theorem State.onCx_statSnap (s : State) (n : Nat) (f : CtxSt → CtxSt) : (s.onCx n f).statSnap = s.statSnap := rfl
@[simp] theorem State.onCx_en (s : State) (n : Nat) (f : CtxSt → CtxSt) : (s.onCx n f).en = s.en := rfl
@[simp] theorem State.onCx_meas (s : State) (n : Nat) (f : CtxSt → CtxSt) : (s.onCx n f).meas = s.meas := rfl
@[simp] theorem State.onCx_hk (s : State) (n : Nat) (f : CtxSt → CtxSt) : (s.onCx n f).hk = s.hk := rfl
@[simp] theorem State.onCx_evq (s : State) (n : Nat) (f : CtxSt → CtxSt) : (s.onCx n f).evq = s.evq := rfl
@[simp] theorem State.onCx_flt (s : State) (n : Nat) (f : CtxSt → CtxSt) : (s.onCx n f).flt = s.flt := rfl
@[simp] theorem State.onCx_ecc (s : State) (n : Nat) (f : CtxSt → CtxSt) : (s.onCx n f).ecc = s.ecc := rfl
@[simp] theorem State.onCx_linj (s : State) (n : Nat) (f : CtxSt → CtxSt) : (s.onCx n f).linj = s.linj := rfl
@[simp] theorem State.onCx_evr (s : State) (n : Nat) (f : CtxSt → CtxSt) : (s.onCx n f).evr = s.evr := rfl
@[simp] theorem State.onCx_sbg (s : State) (n : Nat) (f : CtxSt → CtxSt) : (s.onCx n f).sbg = s.sbg := rfl
@[simp] theorem State.onCx_free (s : State) (n : Nat) (f : CtxSt → CtxSt) : (s.onCx n f).free = s.free := rfl
@[simp] theorem State.onCx_pending (s : State) (n : Nat) (f : CtxSt → CtxSt) : (s.onCx n f).pending = s.pending := rfl

/-! ## `State.onTr` -/

@[simp] theorem State.onTr_reg (s : State) (n : Nat) (f : TrcSt → TrcSt) : (s.onTr n f).reg = s.reg := rfl
@[simp] theorem State.onTr_shadow (s : State) (n : Nat) (f : TrcSt → TrcSt) : (s.onTr n f).shadow = s.shadow := rfl
@[simp] theorem State.onTr_mem (s : State) (n : Nat) (f : TrcSt → TrcSt) : (s.onTr n f).mem = s.mem := rfl
@[simp] theorem State.onTr_latch (s : State) (n : Nat) (f : TrcSt → TrcSt) : (s.onTr n f).latch = s.latch := rfl
@[simp] theorem State.onTr_readData (s : State) (n : Nat) (f : TrcSt → TrcSt) : (s.onTr n f).readData = s.readData := rfl
@[simp] theorem State.onTr_time (s : State) (n : Nat) (f : TrcSt → TrcSt) : (s.onTr n f).time = s.time := rfl
@[simp] theorem State.onTr_unit (s : State) (n : Nat) (f : TrcSt → TrcSt) : (s.onTr n f).unit = s.unit := rfl
@[simp] theorem State.onTr_flash (s : State) (n : Nat) (f : TrcSt → TrcSt) : (s.onTr n f).flash = s.flash := rfl
@[simp] theorem State.onTr_boot (s : State) (n : Nat) (f : TrcSt → TrcSt) : (s.onTr n f).boot = s.boot := rfl
@[simp] theorem State.onTr_upd (s : State) (n : Nat) (f : TrcSt → TrcSt) : (s.onTr n f).upd = s.upd := rfl
@[simp] theorem State.onTr_smb (s : State) (n : Nat) (f : TrcSt → TrcSt) : (s.onTr n f).smb = s.smb := rfl
@[simp] theorem State.onTr_spi (s : State) (n : Nat) (f : TrcSt → TrcSt) : (s.onTr n f).spi = s.spi := rfl
@[simp] theorem State.onTr_commit (s : State) (n : Nat) (f : TrcSt → TrcSt) : (s.onTr n f).commit = s.commit := rfl
@[simp] theorem State.onTr_check (s : State) (n : Nat) (f : TrcSt → TrcSt) : (s.onTr n f).check = s.check := rfl
@[simp] theorem State.onTr_pair (s : State) (n : Nat) (f : TrcSt → TrcSt) : (s.onTr n f).pair = s.pair := rfl
@[simp] theorem State.onTr_links (s : State) (n : Nat) (f : TrcSt → TrcSt) : (s.onTr n f).links = s.links := rfl
@[simp] theorem State.onTr_frameNo (s : State) (n : Nat) (f : TrcSt → TrcSt) : (s.onTr n f).frameNo = s.frameNo := rfl
@[simp] theorem State.onTr_chans (s : State) (n : Nat) (f : TrcSt → TrcSt) : (s.onTr n f).chans = s.chans := rfl
@[simp] theorem State.onTr_fine (s : State) (n : Nat) (f : TrcSt → TrcSt) : (s.onTr n f).fine = s.fine := rfl
@[simp] theorem State.onTr_ctx (s : State) (n : Nat) (f : TrcSt → TrcSt) : (s.onTr n f).ctx = s.ctx := rfl
@[simp] theorem State.onTr_cwq (s : State) (n : Nat) (f : TrcSt → TrcSt) : (s.onTr n f).cwq = s.cwq := rfl
@[simp] theorem State.onTr_phs (s : State) (n : Nat) (f : TrcSt → TrcSt) : (s.onTr n f).phs = s.phs := rfl
@[simp] theorem State.onTr_stg (s : State) (n : Nat) (f : TrcSt → TrcSt) : (s.onTr n f).stg = s.stg := rfl
@[simp] theorem State.onTr_loc (s : State) (n : Nat) (f : TrcSt → TrcSt) : (s.onTr n f).loc = s.loc := rfl
@[simp] theorem State.onTr_fdr (s : State) (n : Nat) (f : TrcSt → TrcSt) : (s.onTr n f).fdr = s.fdr := rfl
@[simp] theorem State.onTr_strs (s : State) (n : Nat) (f : TrcSt → TrcSt) : (s.onTr n f).strs = s.strs := rfl
@[simp] theorem State.onTr_shf (s : State) (n : Nat) (f : TrcSt → TrcSt) : (s.onTr n f).shf = s.shf := rfl
@[simp] theorem State.onTr_mb (s : State) (n : Nat) (f : TrcSt → TrcSt) : (s.onTr n f).mb = s.mb := rfl
@[simp] theorem State.onTr_stat (s : State) (n : Nat) (f : TrcSt → TrcSt) : (s.onTr n f).stat = s.stat := rfl
@[simp] theorem State.onTr_statSnap (s : State) (n : Nat) (f : TrcSt → TrcSt) : (s.onTr n f).statSnap = s.statSnap := rfl
@[simp] theorem State.onTr_en (s : State) (n : Nat) (f : TrcSt → TrcSt) : (s.onTr n f).en = s.en := rfl
@[simp] theorem State.onTr_meas (s : State) (n : Nat) (f : TrcSt → TrcSt) : (s.onTr n f).meas = s.meas := rfl
@[simp] theorem State.onTr_hk (s : State) (n : Nat) (f : TrcSt → TrcSt) : (s.onTr n f).hk = s.hk := rfl
@[simp] theorem State.onTr_evq (s : State) (n : Nat) (f : TrcSt → TrcSt) : (s.onTr n f).evq = s.evq := rfl
@[simp] theorem State.onTr_flt (s : State) (n : Nat) (f : TrcSt → TrcSt) : (s.onTr n f).flt = s.flt := rfl
@[simp] theorem State.onTr_ecc (s : State) (n : Nat) (f : TrcSt → TrcSt) : (s.onTr n f).ecc = s.ecc := rfl
@[simp] theorem State.onTr_linj (s : State) (n : Nat) (f : TrcSt → TrcSt) : (s.onTr n f).linj = s.linj := rfl
@[simp] theorem State.onTr_evr (s : State) (n : Nat) (f : TrcSt → TrcSt) : (s.onTr n f).evr = s.evr := rfl
@[simp] theorem State.onTr_sbg (s : State) (n : Nat) (f : TrcSt → TrcSt) : (s.onTr n f).sbg = s.sbg := rfl
@[simp] theorem State.onTr_free (s : State) (n : Nat) (f : TrcSt → TrcSt) : (s.onTr n f).free = s.free := rfl
@[simp] theorem State.onTr_pending (s : State) (n : Nat) (f : TrcSt → TrcSt) : (s.onTr n f).pending = s.pending := rfl

/-! ## `State.onStr` -/

@[simp] theorem State.onStr_reg (s : State) (n : Nat) (f : StrSt → StrSt) : (s.onStr n f).reg = s.reg := rfl
@[simp] theorem State.onStr_shadow (s : State) (n : Nat) (f : StrSt → StrSt) : (s.onStr n f).shadow = s.shadow := rfl
@[simp] theorem State.onStr_mem (s : State) (n : Nat) (f : StrSt → StrSt) : (s.onStr n f).mem = s.mem := rfl
@[simp] theorem State.onStr_latch (s : State) (n : Nat) (f : StrSt → StrSt) : (s.onStr n f).latch = s.latch := rfl
@[simp] theorem State.onStr_readData (s : State) (n : Nat) (f : StrSt → StrSt) : (s.onStr n f).readData = s.readData := rfl
@[simp] theorem State.onStr_time (s : State) (n : Nat) (f : StrSt → StrSt) : (s.onStr n f).time = s.time := rfl
@[simp] theorem State.onStr_unit (s : State) (n : Nat) (f : StrSt → StrSt) : (s.onStr n f).unit = s.unit := rfl
@[simp] theorem State.onStr_flash (s : State) (n : Nat) (f : StrSt → StrSt) : (s.onStr n f).flash = s.flash := rfl
@[simp] theorem State.onStr_boot (s : State) (n : Nat) (f : StrSt → StrSt) : (s.onStr n f).boot = s.boot := rfl
@[simp] theorem State.onStr_upd (s : State) (n : Nat) (f : StrSt → StrSt) : (s.onStr n f).upd = s.upd := rfl
@[simp] theorem State.onStr_smb (s : State) (n : Nat) (f : StrSt → StrSt) : (s.onStr n f).smb = s.smb := rfl
@[simp] theorem State.onStr_spi (s : State) (n : Nat) (f : StrSt → StrSt) : (s.onStr n f).spi = s.spi := rfl
@[simp] theorem State.onStr_commit (s : State) (n : Nat) (f : StrSt → StrSt) : (s.onStr n f).commit = s.commit := rfl
@[simp] theorem State.onStr_check (s : State) (n : Nat) (f : StrSt → StrSt) : (s.onStr n f).check = s.check := rfl
@[simp] theorem State.onStr_pair (s : State) (n : Nat) (f : StrSt → StrSt) : (s.onStr n f).pair = s.pair := rfl
@[simp] theorem State.onStr_links (s : State) (n : Nat) (f : StrSt → StrSt) : (s.onStr n f).links = s.links := rfl
@[simp] theorem State.onStr_frameNo (s : State) (n : Nat) (f : StrSt → StrSt) : (s.onStr n f).frameNo = s.frameNo := rfl
@[simp] theorem State.onStr_chans (s : State) (n : Nat) (f : StrSt → StrSt) : (s.onStr n f).chans = s.chans := rfl
@[simp] theorem State.onStr_fine (s : State) (n : Nat) (f : StrSt → StrSt) : (s.onStr n f).fine = s.fine := rfl
@[simp] theorem State.onStr_ctx (s : State) (n : Nat) (f : StrSt → StrSt) : (s.onStr n f).ctx = s.ctx := rfl
@[simp] theorem State.onStr_cwq (s : State) (n : Nat) (f : StrSt → StrSt) : (s.onStr n f).cwq = s.cwq := rfl
@[simp] theorem State.onStr_trc (s : State) (n : Nat) (f : StrSt → StrSt) : (s.onStr n f).trc = s.trc := rfl
@[simp] theorem State.onStr_phs (s : State) (n : Nat) (f : StrSt → StrSt) : (s.onStr n f).phs = s.phs := rfl
@[simp] theorem State.onStr_stg (s : State) (n : Nat) (f : StrSt → StrSt) : (s.onStr n f).stg = s.stg := rfl
@[simp] theorem State.onStr_loc (s : State) (n : Nat) (f : StrSt → StrSt) : (s.onStr n f).loc = s.loc := rfl
@[simp] theorem State.onStr_fdr (s : State) (n : Nat) (f : StrSt → StrSt) : (s.onStr n f).fdr = s.fdr := rfl
@[simp] theorem State.onStr_shf (s : State) (n : Nat) (f : StrSt → StrSt) : (s.onStr n f).shf = s.shf := rfl
@[simp] theorem State.onStr_mb (s : State) (n : Nat) (f : StrSt → StrSt) : (s.onStr n f).mb = s.mb := rfl
@[simp] theorem State.onStr_stat (s : State) (n : Nat) (f : StrSt → StrSt) : (s.onStr n f).stat = s.stat := rfl
@[simp] theorem State.onStr_statSnap (s : State) (n : Nat) (f : StrSt → StrSt) : (s.onStr n f).statSnap = s.statSnap := rfl
@[simp] theorem State.onStr_en (s : State) (n : Nat) (f : StrSt → StrSt) : (s.onStr n f).en = s.en := rfl
@[simp] theorem State.onStr_meas (s : State) (n : Nat) (f : StrSt → StrSt) : (s.onStr n f).meas = s.meas := rfl
@[simp] theorem State.onStr_hk (s : State) (n : Nat) (f : StrSt → StrSt) : (s.onStr n f).hk = s.hk := rfl
@[simp] theorem State.onStr_evq (s : State) (n : Nat) (f : StrSt → StrSt) : (s.onStr n f).evq = s.evq := rfl
@[simp] theorem State.onStr_flt (s : State) (n : Nat) (f : StrSt → StrSt) : (s.onStr n f).flt = s.flt := rfl
@[simp] theorem State.onStr_ecc (s : State) (n : Nat) (f : StrSt → StrSt) : (s.onStr n f).ecc = s.ecc := rfl
@[simp] theorem State.onStr_linj (s : State) (n : Nat) (f : StrSt → StrSt) : (s.onStr n f).linj = s.linj := rfl
@[simp] theorem State.onStr_evr (s : State) (n : Nat) (f : StrSt → StrSt) : (s.onStr n f).evr = s.evr := rfl
@[simp] theorem State.onStr_sbg (s : State) (n : Nat) (f : StrSt → StrSt) : (s.onStr n f).sbg = s.sbg := rfl
@[simp] theorem State.onStr_free (s : State) (n : Nat) (f : StrSt → StrSt) : (s.onStr n f).free = s.free := rfl
@[simp] theorem State.onStr_pending (s : State) (n : Nat) (f : StrSt → StrSt) : (s.onStr n f).pending = s.pending := rfl

/-! ## `State.onMb` -/

@[simp] theorem State.onMb_reg (s : State) (n : Nat) (f : MbSt → MbSt) : (s.onMb n f).reg = s.reg := rfl
@[simp] theorem State.onMb_shadow (s : State) (n : Nat) (f : MbSt → MbSt) : (s.onMb n f).shadow = s.shadow := rfl
@[simp] theorem State.onMb_mem (s : State) (n : Nat) (f : MbSt → MbSt) : (s.onMb n f).mem = s.mem := rfl
@[simp] theorem State.onMb_latch (s : State) (n : Nat) (f : MbSt → MbSt) : (s.onMb n f).latch = s.latch := rfl
@[simp] theorem State.onMb_readData (s : State) (n : Nat) (f : MbSt → MbSt) : (s.onMb n f).readData = s.readData := rfl
@[simp] theorem State.onMb_time (s : State) (n : Nat) (f : MbSt → MbSt) : (s.onMb n f).time = s.time := rfl
@[simp] theorem State.onMb_unit (s : State) (n : Nat) (f : MbSt → MbSt) : (s.onMb n f).unit = s.unit := rfl
@[simp] theorem State.onMb_flash (s : State) (n : Nat) (f : MbSt → MbSt) : (s.onMb n f).flash = s.flash := rfl
@[simp] theorem State.onMb_boot (s : State) (n : Nat) (f : MbSt → MbSt) : (s.onMb n f).boot = s.boot := rfl
@[simp] theorem State.onMb_upd (s : State) (n : Nat) (f : MbSt → MbSt) : (s.onMb n f).upd = s.upd := rfl
@[simp] theorem State.onMb_smb (s : State) (n : Nat) (f : MbSt → MbSt) : (s.onMb n f).smb = s.smb := rfl
@[simp] theorem State.onMb_spi (s : State) (n : Nat) (f : MbSt → MbSt) : (s.onMb n f).spi = s.spi := rfl
@[simp] theorem State.onMb_commit (s : State) (n : Nat) (f : MbSt → MbSt) : (s.onMb n f).commit = s.commit := rfl
@[simp] theorem State.onMb_check (s : State) (n : Nat) (f : MbSt → MbSt) : (s.onMb n f).check = s.check := rfl
@[simp] theorem State.onMb_pair (s : State) (n : Nat) (f : MbSt → MbSt) : (s.onMb n f).pair = s.pair := rfl
@[simp] theorem State.onMb_links (s : State) (n : Nat) (f : MbSt → MbSt) : (s.onMb n f).links = s.links := rfl
@[simp] theorem State.onMb_frameNo (s : State) (n : Nat) (f : MbSt → MbSt) : (s.onMb n f).frameNo = s.frameNo := rfl
@[simp] theorem State.onMb_chans (s : State) (n : Nat) (f : MbSt → MbSt) : (s.onMb n f).chans = s.chans := rfl
@[simp] theorem State.onMb_fine (s : State) (n : Nat) (f : MbSt → MbSt) : (s.onMb n f).fine = s.fine := rfl
@[simp] theorem State.onMb_ctx (s : State) (n : Nat) (f : MbSt → MbSt) : (s.onMb n f).ctx = s.ctx := rfl
@[simp] theorem State.onMb_cwq (s : State) (n : Nat) (f : MbSt → MbSt) : (s.onMb n f).cwq = s.cwq := rfl
@[simp] theorem State.onMb_trc (s : State) (n : Nat) (f : MbSt → MbSt) : (s.onMb n f).trc = s.trc := rfl
@[simp] theorem State.onMb_phs (s : State) (n : Nat) (f : MbSt → MbSt) : (s.onMb n f).phs = s.phs := rfl
@[simp] theorem State.onMb_stg (s : State) (n : Nat) (f : MbSt → MbSt) : (s.onMb n f).stg = s.stg := rfl
@[simp] theorem State.onMb_loc (s : State) (n : Nat) (f : MbSt → MbSt) : (s.onMb n f).loc = s.loc := rfl
@[simp] theorem State.onMb_fdr (s : State) (n : Nat) (f : MbSt → MbSt) : (s.onMb n f).fdr = s.fdr := rfl
@[simp] theorem State.onMb_strs (s : State) (n : Nat) (f : MbSt → MbSt) : (s.onMb n f).strs = s.strs := rfl
@[simp] theorem State.onMb_shf (s : State) (n : Nat) (f : MbSt → MbSt) : (s.onMb n f).shf = s.shf := rfl
@[simp] theorem State.onMb_stat (s : State) (n : Nat) (f : MbSt → MbSt) : (s.onMb n f).stat = s.stat := rfl
@[simp] theorem State.onMb_statSnap (s : State) (n : Nat) (f : MbSt → MbSt) : (s.onMb n f).statSnap = s.statSnap := rfl
@[simp] theorem State.onMb_en (s : State) (n : Nat) (f : MbSt → MbSt) : (s.onMb n f).en = s.en := rfl
@[simp] theorem State.onMb_meas (s : State) (n : Nat) (f : MbSt → MbSt) : (s.onMb n f).meas = s.meas := rfl
@[simp] theorem State.onMb_hk (s : State) (n : Nat) (f : MbSt → MbSt) : (s.onMb n f).hk = s.hk := rfl
@[simp] theorem State.onMb_evq (s : State) (n : Nat) (f : MbSt → MbSt) : (s.onMb n f).evq = s.evq := rfl
@[simp] theorem State.onMb_flt (s : State) (n : Nat) (f : MbSt → MbSt) : (s.onMb n f).flt = s.flt := rfl
@[simp] theorem State.onMb_ecc (s : State) (n : Nat) (f : MbSt → MbSt) : (s.onMb n f).ecc = s.ecc := rfl
@[simp] theorem State.onMb_linj (s : State) (n : Nat) (f : MbSt → MbSt) : (s.onMb n f).linj = s.linj := rfl
@[simp] theorem State.onMb_evr (s : State) (n : Nat) (f : MbSt → MbSt) : (s.onMb n f).evr = s.evr := rfl
@[simp] theorem State.onMb_sbg (s : State) (n : Nat) (f : MbSt → MbSt) : (s.onMb n f).sbg = s.sbg := rfl
@[simp] theorem State.onMb_free (s : State) (n : Nat) (f : MbSt → MbSt) : (s.onMb n f).free = s.free := rfl
@[simp] theorem State.onMb_pending (s : State) (n : Nat) (f : MbSt → MbSt) : (s.onMb n f).pending = s.pending := rfl

/-! ## `State.onPair` -/

@[simp] theorem State.onPair_reg (s : State) (f : PairSt → PairSt) : (s.onPair f).reg = s.reg := rfl
@[simp] theorem State.onPair_shadow (s : State) (f : PairSt → PairSt) : (s.onPair f).shadow = s.shadow := rfl
@[simp] theorem State.onPair_mem (s : State) (f : PairSt → PairSt) : (s.onPair f).mem = s.mem := rfl
@[simp] theorem State.onPair_latch (s : State) (f : PairSt → PairSt) : (s.onPair f).latch = s.latch := rfl
@[simp] theorem State.onPair_readData (s : State) (f : PairSt → PairSt) : (s.onPair f).readData = s.readData := rfl
@[simp] theorem State.onPair_time (s : State) (f : PairSt → PairSt) : (s.onPair f).time = s.time := rfl
@[simp] theorem State.onPair_unit (s : State) (f : PairSt → PairSt) : (s.onPair f).unit = s.unit := rfl
@[simp] theorem State.onPair_flash (s : State) (f : PairSt → PairSt) : (s.onPair f).flash = s.flash := rfl
@[simp] theorem State.onPair_boot (s : State) (f : PairSt → PairSt) : (s.onPair f).boot = s.boot := rfl
@[simp] theorem State.onPair_upd (s : State) (f : PairSt → PairSt) : (s.onPair f).upd = s.upd := rfl
@[simp] theorem State.onPair_smb (s : State) (f : PairSt → PairSt) : (s.onPair f).smb = s.smb := rfl
@[simp] theorem State.onPair_spi (s : State) (f : PairSt → PairSt) : (s.onPair f).spi = s.spi := rfl
@[simp] theorem State.onPair_commit (s : State) (f : PairSt → PairSt) : (s.onPair f).commit = s.commit := rfl
@[simp] theorem State.onPair_check (s : State) (f : PairSt → PairSt) : (s.onPair f).check = s.check := rfl
@[simp] theorem State.onPair_links (s : State) (f : PairSt → PairSt) : (s.onPair f).links = s.links := rfl
@[simp] theorem State.onPair_frameNo (s : State) (f : PairSt → PairSt) : (s.onPair f).frameNo = s.frameNo := rfl
@[simp] theorem State.onPair_chans (s : State) (f : PairSt → PairSt) : (s.onPair f).chans = s.chans := rfl
@[simp] theorem State.onPair_fine (s : State) (f : PairSt → PairSt) : (s.onPair f).fine = s.fine := rfl
@[simp] theorem State.onPair_ctx (s : State) (f : PairSt → PairSt) : (s.onPair f).ctx = s.ctx := rfl
@[simp] theorem State.onPair_cwq (s : State) (f : PairSt → PairSt) : (s.onPair f).cwq = s.cwq := rfl
@[simp] theorem State.onPair_trc (s : State) (f : PairSt → PairSt) : (s.onPair f).trc = s.trc := rfl
@[simp] theorem State.onPair_phs (s : State) (f : PairSt → PairSt) : (s.onPair f).phs = s.phs := rfl
@[simp] theorem State.onPair_stg (s : State) (f : PairSt → PairSt) : (s.onPair f).stg = s.stg := rfl
@[simp] theorem State.onPair_loc (s : State) (f : PairSt → PairSt) : (s.onPair f).loc = s.loc := rfl
@[simp] theorem State.onPair_fdr (s : State) (f : PairSt → PairSt) : (s.onPair f).fdr = s.fdr := rfl
@[simp] theorem State.onPair_strs (s : State) (f : PairSt → PairSt) : (s.onPair f).strs = s.strs := rfl
@[simp] theorem State.onPair_shf (s : State) (f : PairSt → PairSt) : (s.onPair f).shf = s.shf := rfl
@[simp] theorem State.onPair_mb (s : State) (f : PairSt → PairSt) : (s.onPair f).mb = s.mb := rfl
@[simp] theorem State.onPair_stat (s : State) (f : PairSt → PairSt) : (s.onPair f).stat = s.stat := rfl
@[simp] theorem State.onPair_statSnap (s : State) (f : PairSt → PairSt) : (s.onPair f).statSnap = s.statSnap := rfl
@[simp] theorem State.onPair_en (s : State) (f : PairSt → PairSt) : (s.onPair f).en = s.en := rfl
@[simp] theorem State.onPair_meas (s : State) (f : PairSt → PairSt) : (s.onPair f).meas = s.meas := rfl
@[simp] theorem State.onPair_hk (s : State) (f : PairSt → PairSt) : (s.onPair f).hk = s.hk := rfl
@[simp] theorem State.onPair_evq (s : State) (f : PairSt → PairSt) : (s.onPair f).evq = s.evq := rfl
@[simp] theorem State.onPair_flt (s : State) (f : PairSt → PairSt) : (s.onPair f).flt = s.flt := rfl
@[simp] theorem State.onPair_ecc (s : State) (f : PairSt → PairSt) : (s.onPair f).ecc = s.ecc := rfl
@[simp] theorem State.onPair_linj (s : State) (f : PairSt → PairSt) : (s.onPair f).linj = s.linj := rfl
@[simp] theorem State.onPair_evr (s : State) (f : PairSt → PairSt) : (s.onPair f).evr = s.evr := rfl
@[simp] theorem State.onPair_sbg (s : State) (f : PairSt → PairSt) : (s.onPair f).sbg = s.sbg := rfl
@[simp] theorem State.onPair_free (s : State) (f : PairSt → PairSt) : (s.onPair f).free = s.free := rfl
@[simp] theorem State.onPair_pending (s : State) (f : PairSt → PairSt) : (s.onPair f).pending = s.pending := rfl

/-! ## `State.onSmb` -/

@[simp] theorem State.onSmb_reg (s : State) (f : SmbSt → SmbSt) : (s.onSmb f).reg = s.reg := rfl
@[simp] theorem State.onSmb_shadow (s : State) (f : SmbSt → SmbSt) : (s.onSmb f).shadow = s.shadow := rfl
@[simp] theorem State.onSmb_mem (s : State) (f : SmbSt → SmbSt) : (s.onSmb f).mem = s.mem := rfl
@[simp] theorem State.onSmb_latch (s : State) (f : SmbSt → SmbSt) : (s.onSmb f).latch = s.latch := rfl
@[simp] theorem State.onSmb_readData (s : State) (f : SmbSt → SmbSt) : (s.onSmb f).readData = s.readData := rfl
@[simp] theorem State.onSmb_time (s : State) (f : SmbSt → SmbSt) : (s.onSmb f).time = s.time := rfl
@[simp] theorem State.onSmb_unit (s : State) (f : SmbSt → SmbSt) : (s.onSmb f).unit = s.unit := rfl
@[simp] theorem State.onSmb_flash (s : State) (f : SmbSt → SmbSt) : (s.onSmb f).flash = s.flash := rfl
@[simp] theorem State.onSmb_boot (s : State) (f : SmbSt → SmbSt) : (s.onSmb f).boot = s.boot := rfl
@[simp] theorem State.onSmb_upd (s : State) (f : SmbSt → SmbSt) : (s.onSmb f).upd = s.upd := rfl
@[simp] theorem State.onSmb_spi (s : State) (f : SmbSt → SmbSt) : (s.onSmb f).spi = s.spi := rfl
@[simp] theorem State.onSmb_commit (s : State) (f : SmbSt → SmbSt) : (s.onSmb f).commit = s.commit := rfl
@[simp] theorem State.onSmb_check (s : State) (f : SmbSt → SmbSt) : (s.onSmb f).check = s.check := rfl
@[simp] theorem State.onSmb_pair (s : State) (f : SmbSt → SmbSt) : (s.onSmb f).pair = s.pair := rfl
@[simp] theorem State.onSmb_links (s : State) (f : SmbSt → SmbSt) : (s.onSmb f).links = s.links := rfl
@[simp] theorem State.onSmb_frameNo (s : State) (f : SmbSt → SmbSt) : (s.onSmb f).frameNo = s.frameNo := rfl
@[simp] theorem State.onSmb_chans (s : State) (f : SmbSt → SmbSt) : (s.onSmb f).chans = s.chans := rfl
@[simp] theorem State.onSmb_fine (s : State) (f : SmbSt → SmbSt) : (s.onSmb f).fine = s.fine := rfl
@[simp] theorem State.onSmb_ctx (s : State) (f : SmbSt → SmbSt) : (s.onSmb f).ctx = s.ctx := rfl
@[simp] theorem State.onSmb_cwq (s : State) (f : SmbSt → SmbSt) : (s.onSmb f).cwq = s.cwq := rfl
@[simp] theorem State.onSmb_trc (s : State) (f : SmbSt → SmbSt) : (s.onSmb f).trc = s.trc := rfl
@[simp] theorem State.onSmb_phs (s : State) (f : SmbSt → SmbSt) : (s.onSmb f).phs = s.phs := rfl
@[simp] theorem State.onSmb_stg (s : State) (f : SmbSt → SmbSt) : (s.onSmb f).stg = s.stg := rfl
@[simp] theorem State.onSmb_loc (s : State) (f : SmbSt → SmbSt) : (s.onSmb f).loc = s.loc := rfl
@[simp] theorem State.onSmb_fdr (s : State) (f : SmbSt → SmbSt) : (s.onSmb f).fdr = s.fdr := rfl
@[simp] theorem State.onSmb_strs (s : State) (f : SmbSt → SmbSt) : (s.onSmb f).strs = s.strs := rfl
@[simp] theorem State.onSmb_shf (s : State) (f : SmbSt → SmbSt) : (s.onSmb f).shf = s.shf := rfl
@[simp] theorem State.onSmb_mb (s : State) (f : SmbSt → SmbSt) : (s.onSmb f).mb = s.mb := rfl
@[simp] theorem State.onSmb_stat (s : State) (f : SmbSt → SmbSt) : (s.onSmb f).stat = s.stat := rfl
@[simp] theorem State.onSmb_statSnap (s : State) (f : SmbSt → SmbSt) : (s.onSmb f).statSnap = s.statSnap := rfl
@[simp] theorem State.onSmb_en (s : State) (f : SmbSt → SmbSt) : (s.onSmb f).en = s.en := rfl
@[simp] theorem State.onSmb_meas (s : State) (f : SmbSt → SmbSt) : (s.onSmb f).meas = s.meas := rfl
@[simp] theorem State.onSmb_hk (s : State) (f : SmbSt → SmbSt) : (s.onSmb f).hk = s.hk := rfl
@[simp] theorem State.onSmb_evq (s : State) (f : SmbSt → SmbSt) : (s.onSmb f).evq = s.evq := rfl
@[simp] theorem State.onSmb_flt (s : State) (f : SmbSt → SmbSt) : (s.onSmb f).flt = s.flt := rfl
@[simp] theorem State.onSmb_ecc (s : State) (f : SmbSt → SmbSt) : (s.onSmb f).ecc = s.ecc := rfl
@[simp] theorem State.onSmb_linj (s : State) (f : SmbSt → SmbSt) : (s.onSmb f).linj = s.linj := rfl
@[simp] theorem State.onSmb_evr (s : State) (f : SmbSt → SmbSt) : (s.onSmb f).evr = s.evr := rfl
@[simp] theorem State.onSmb_sbg (s : State) (f : SmbSt → SmbSt) : (s.onSmb f).sbg = s.sbg := rfl
@[simp] theorem State.onSmb_free (s : State) (f : SmbSt → SmbSt) : (s.onSmb f).free = s.free := rfl
@[simp] theorem State.onSmb_pending (s : State) (f : SmbSt → SmbSt) : (s.onSmb f).pending = s.pending := rfl

/-! ## `State.onSpi` -/

@[simp] theorem State.onSpi_reg (s : State) (f : SpiSt → SpiSt) : (s.onSpi f).reg = s.reg := rfl
@[simp] theorem State.onSpi_shadow (s : State) (f : SpiSt → SpiSt) : (s.onSpi f).shadow = s.shadow := rfl
@[simp] theorem State.onSpi_mem (s : State) (f : SpiSt → SpiSt) : (s.onSpi f).mem = s.mem := rfl
@[simp] theorem State.onSpi_latch (s : State) (f : SpiSt → SpiSt) : (s.onSpi f).latch = s.latch := rfl
@[simp] theorem State.onSpi_readData (s : State) (f : SpiSt → SpiSt) : (s.onSpi f).readData = s.readData := rfl
@[simp] theorem State.onSpi_time (s : State) (f : SpiSt → SpiSt) : (s.onSpi f).time = s.time := rfl
@[simp] theorem State.onSpi_unit (s : State) (f : SpiSt → SpiSt) : (s.onSpi f).unit = s.unit := rfl
@[simp] theorem State.onSpi_flash (s : State) (f : SpiSt → SpiSt) : (s.onSpi f).flash = s.flash := rfl
@[simp] theorem State.onSpi_boot (s : State) (f : SpiSt → SpiSt) : (s.onSpi f).boot = s.boot := rfl
@[simp] theorem State.onSpi_upd (s : State) (f : SpiSt → SpiSt) : (s.onSpi f).upd = s.upd := rfl
@[simp] theorem State.onSpi_smb (s : State) (f : SpiSt → SpiSt) : (s.onSpi f).smb = s.smb := rfl
@[simp] theorem State.onSpi_commit (s : State) (f : SpiSt → SpiSt) : (s.onSpi f).commit = s.commit := rfl
@[simp] theorem State.onSpi_check (s : State) (f : SpiSt → SpiSt) : (s.onSpi f).check = s.check := rfl
@[simp] theorem State.onSpi_pair (s : State) (f : SpiSt → SpiSt) : (s.onSpi f).pair = s.pair := rfl
@[simp] theorem State.onSpi_links (s : State) (f : SpiSt → SpiSt) : (s.onSpi f).links = s.links := rfl
@[simp] theorem State.onSpi_frameNo (s : State) (f : SpiSt → SpiSt) : (s.onSpi f).frameNo = s.frameNo := rfl
@[simp] theorem State.onSpi_chans (s : State) (f : SpiSt → SpiSt) : (s.onSpi f).chans = s.chans := rfl
@[simp] theorem State.onSpi_fine (s : State) (f : SpiSt → SpiSt) : (s.onSpi f).fine = s.fine := rfl
@[simp] theorem State.onSpi_ctx (s : State) (f : SpiSt → SpiSt) : (s.onSpi f).ctx = s.ctx := rfl
@[simp] theorem State.onSpi_cwq (s : State) (f : SpiSt → SpiSt) : (s.onSpi f).cwq = s.cwq := rfl
@[simp] theorem State.onSpi_trc (s : State) (f : SpiSt → SpiSt) : (s.onSpi f).trc = s.trc := rfl
@[simp] theorem State.onSpi_phs (s : State) (f : SpiSt → SpiSt) : (s.onSpi f).phs = s.phs := rfl
@[simp] theorem State.onSpi_stg (s : State) (f : SpiSt → SpiSt) : (s.onSpi f).stg = s.stg := rfl
@[simp] theorem State.onSpi_loc (s : State) (f : SpiSt → SpiSt) : (s.onSpi f).loc = s.loc := rfl
@[simp] theorem State.onSpi_fdr (s : State) (f : SpiSt → SpiSt) : (s.onSpi f).fdr = s.fdr := rfl
@[simp] theorem State.onSpi_strs (s : State) (f : SpiSt → SpiSt) : (s.onSpi f).strs = s.strs := rfl
@[simp] theorem State.onSpi_shf (s : State) (f : SpiSt → SpiSt) : (s.onSpi f).shf = s.shf := rfl
@[simp] theorem State.onSpi_mb (s : State) (f : SpiSt → SpiSt) : (s.onSpi f).mb = s.mb := rfl
@[simp] theorem State.onSpi_stat (s : State) (f : SpiSt → SpiSt) : (s.onSpi f).stat = s.stat := rfl
@[simp] theorem State.onSpi_statSnap (s : State) (f : SpiSt → SpiSt) : (s.onSpi f).statSnap = s.statSnap := rfl
@[simp] theorem State.onSpi_en (s : State) (f : SpiSt → SpiSt) : (s.onSpi f).en = s.en := rfl
@[simp] theorem State.onSpi_meas (s : State) (f : SpiSt → SpiSt) : (s.onSpi f).meas = s.meas := rfl
@[simp] theorem State.onSpi_hk (s : State) (f : SpiSt → SpiSt) : (s.onSpi f).hk = s.hk := rfl
@[simp] theorem State.onSpi_evq (s : State) (f : SpiSt → SpiSt) : (s.onSpi f).evq = s.evq := rfl
@[simp] theorem State.onSpi_flt (s : State) (f : SpiSt → SpiSt) : (s.onSpi f).flt = s.flt := rfl
@[simp] theorem State.onSpi_ecc (s : State) (f : SpiSt → SpiSt) : (s.onSpi f).ecc = s.ecc := rfl
@[simp] theorem State.onSpi_linj (s : State) (f : SpiSt → SpiSt) : (s.onSpi f).linj = s.linj := rfl
@[simp] theorem State.onSpi_evr (s : State) (f : SpiSt → SpiSt) : (s.onSpi f).evr = s.evr := rfl
@[simp] theorem State.onSpi_sbg (s : State) (f : SpiSt → SpiSt) : (s.onSpi f).sbg = s.sbg := rfl
@[simp] theorem State.onSpi_free (s : State) (f : SpiSt → SpiSt) : (s.onSpi f).free = s.free := rfl
@[simp] theorem State.onSpi_pending (s : State) (f : SpiSt → SpiSt) : (s.onSpi f).pending = s.pending := rfl

/-! ## `State.onRot` -/

@[simp] theorem State.onRot_reg (s : State) (f : RotSt → RotSt) : (s.onRot f).reg = s.reg := rfl
@[simp] theorem State.onRot_shadow (s : State) (f : RotSt → RotSt) : (s.onRot f).shadow = s.shadow := rfl
@[simp] theorem State.onRot_mem (s : State) (f : RotSt → RotSt) : (s.onRot f).mem = s.mem := rfl
@[simp] theorem State.onRot_latch (s : State) (f : RotSt → RotSt) : (s.onRot f).latch = s.latch := rfl
@[simp] theorem State.onRot_readData (s : State) (f : RotSt → RotSt) : (s.onRot f).readData = s.readData := rfl
@[simp] theorem State.onRot_time (s : State) (f : RotSt → RotSt) : (s.onRot f).time = s.time := rfl
@[simp] theorem State.onRot_unit (s : State) (f : RotSt → RotSt) : (s.onRot f).unit = s.unit := rfl
@[simp] theorem State.onRot_flash (s : State) (f : RotSt → RotSt) : (s.onRot f).flash = s.flash := rfl
@[simp] theorem State.onRot_boot (s : State) (f : RotSt → RotSt) : (s.onRot f).boot = s.boot := rfl
@[simp] theorem State.onRot_upd (s : State) (f : RotSt → RotSt) : (s.onRot f).upd = s.upd := rfl
@[simp] theorem State.onRot_smb (s : State) (f : RotSt → RotSt) : (s.onRot f).smb = s.smb := rfl
@[simp] theorem State.onRot_spi (s : State) (f : RotSt → RotSt) : (s.onRot f).spi = s.spi := rfl
@[simp] theorem State.onRot_commit (s : State) (f : RotSt → RotSt) : (s.onRot f).commit = s.commit := rfl
@[simp] theorem State.onRot_check (s : State) (f : RotSt → RotSt) : (s.onRot f).check = s.check := rfl
@[simp] theorem State.onRot_pair (s : State) (f : RotSt → RotSt) : (s.onRot f).pair = s.pair := rfl
@[simp] theorem State.onRot_links (s : State) (f : RotSt → RotSt) : (s.onRot f).links = s.links := rfl
@[simp] theorem State.onRot_frameNo (s : State) (f : RotSt → RotSt) : (s.onRot f).frameNo = s.frameNo := rfl
@[simp] theorem State.onRot_chans (s : State) (f : RotSt → RotSt) : (s.onRot f).chans = s.chans := rfl
@[simp] theorem State.onRot_fine (s : State) (f : RotSt → RotSt) : (s.onRot f).fine = s.fine := rfl
@[simp] theorem State.onRot_ctx (s : State) (f : RotSt → RotSt) : (s.onRot f).ctx = s.ctx := rfl
@[simp] theorem State.onRot_cwq (s : State) (f : RotSt → RotSt) : (s.onRot f).cwq = s.cwq := rfl
@[simp] theorem State.onRot_trc (s : State) (f : RotSt → RotSt) : (s.onRot f).trc = s.trc := rfl
@[simp] theorem State.onRot_phs (s : State) (f : RotSt → RotSt) : (s.onRot f).phs = s.phs := rfl
@[simp] theorem State.onRot_stg (s : State) (f : RotSt → RotSt) : (s.onRot f).stg = s.stg := rfl
@[simp] theorem State.onRot_loc (s : State) (f : RotSt → RotSt) : (s.onRot f).loc = s.loc := rfl
@[simp] theorem State.onRot_fdr (s : State) (f : RotSt → RotSt) : (s.onRot f).fdr = s.fdr := rfl
@[simp] theorem State.onRot_strs (s : State) (f : RotSt → RotSt) : (s.onRot f).strs = s.strs := rfl
@[simp] theorem State.onRot_shf (s : State) (f : RotSt → RotSt) : (s.onRot f).shf = s.shf := rfl
@[simp] theorem State.onRot_mb (s : State) (f : RotSt → RotSt) : (s.onRot f).mb = s.mb := rfl
@[simp] theorem State.onRot_stat (s : State) (f : RotSt → RotSt) : (s.onRot f).stat = s.stat := rfl
@[simp] theorem State.onRot_statSnap (s : State) (f : RotSt → RotSt) : (s.onRot f).statSnap = s.statSnap := rfl
@[simp] theorem State.onRot_en (s : State) (f : RotSt → RotSt) : (s.onRot f).en = s.en := rfl
@[simp] theorem State.onRot_hk (s : State) (f : RotSt → RotSt) : (s.onRot f).hk = s.hk := rfl
@[simp] theorem State.onRot_evq (s : State) (f : RotSt → RotSt) : (s.onRot f).evq = s.evq := rfl
@[simp] theorem State.onRot_flt (s : State) (f : RotSt → RotSt) : (s.onRot f).flt = s.flt := rfl
@[simp] theorem State.onRot_ecc (s : State) (f : RotSt → RotSt) : (s.onRot f).ecc = s.ecc := rfl
@[simp] theorem State.onRot_linj (s : State) (f : RotSt → RotSt) : (s.onRot f).linj = s.linj := rfl
@[simp] theorem State.onRot_evr (s : State) (f : RotSt → RotSt) : (s.onRot f).evr = s.evr := rfl
@[simp] theorem State.onRot_sbg (s : State) (f : RotSt → RotSt) : (s.onRot f).sbg = s.sbg := rfl
@[simp] theorem State.onRot_free (s : State) (f : RotSt → RotSt) : (s.onRot f).free = s.free := rfl
@[simp] theorem State.onRot_pending (s : State) (f : RotSt → RotSt) : (s.onRot f).pending = s.pending := rfl

/-! ## `State.onEn` -/

@[simp] theorem State.onEn_reg (s : State) (n : Nat) (f : EnSt → EnSt) : (s.onEn n f).reg = s.reg := rfl
@[simp] theorem State.onEn_shadow (s : State) (n : Nat) (f : EnSt → EnSt) : (s.onEn n f).shadow = s.shadow := rfl
@[simp] theorem State.onEn_mem (s : State) (n : Nat) (f : EnSt → EnSt) : (s.onEn n f).mem = s.mem := rfl
@[simp] theorem State.onEn_latch (s : State) (n : Nat) (f : EnSt → EnSt) : (s.onEn n f).latch = s.latch := rfl
@[simp] theorem State.onEn_readData (s : State) (n : Nat) (f : EnSt → EnSt) : (s.onEn n f).readData = s.readData := rfl
@[simp] theorem State.onEn_time (s : State) (n : Nat) (f : EnSt → EnSt) : (s.onEn n f).time = s.time := rfl
@[simp] theorem State.onEn_unit (s : State) (n : Nat) (f : EnSt → EnSt) : (s.onEn n f).unit = s.unit := rfl
@[simp] theorem State.onEn_flash (s : State) (n : Nat) (f : EnSt → EnSt) : (s.onEn n f).flash = s.flash := rfl
@[simp] theorem State.onEn_boot (s : State) (n : Nat) (f : EnSt → EnSt) : (s.onEn n f).boot = s.boot := rfl
@[simp] theorem State.onEn_upd (s : State) (n : Nat) (f : EnSt → EnSt) : (s.onEn n f).upd = s.upd := rfl
@[simp] theorem State.onEn_smb (s : State) (n : Nat) (f : EnSt → EnSt) : (s.onEn n f).smb = s.smb := rfl
@[simp] theorem State.onEn_spi (s : State) (n : Nat) (f : EnSt → EnSt) : (s.onEn n f).spi = s.spi := rfl
@[simp] theorem State.onEn_commit (s : State) (n : Nat) (f : EnSt → EnSt) : (s.onEn n f).commit = s.commit := rfl
@[simp] theorem State.onEn_check (s : State) (n : Nat) (f : EnSt → EnSt) : (s.onEn n f).check = s.check := rfl
@[simp] theorem State.onEn_pair (s : State) (n : Nat) (f : EnSt → EnSt) : (s.onEn n f).pair = s.pair := rfl
@[simp] theorem State.onEn_links (s : State) (n : Nat) (f : EnSt → EnSt) : (s.onEn n f).links = s.links := rfl
@[simp] theorem State.onEn_frameNo (s : State) (n : Nat) (f : EnSt → EnSt) : (s.onEn n f).frameNo = s.frameNo := rfl
@[simp] theorem State.onEn_chans (s : State) (n : Nat) (f : EnSt → EnSt) : (s.onEn n f).chans = s.chans := rfl
@[simp] theorem State.onEn_fine (s : State) (n : Nat) (f : EnSt → EnSt) : (s.onEn n f).fine = s.fine := rfl
@[simp] theorem State.onEn_ctx (s : State) (n : Nat) (f : EnSt → EnSt) : (s.onEn n f).ctx = s.ctx := rfl
@[simp] theorem State.onEn_cwq (s : State) (n : Nat) (f : EnSt → EnSt) : (s.onEn n f).cwq = s.cwq := rfl
@[simp] theorem State.onEn_trc (s : State) (n : Nat) (f : EnSt → EnSt) : (s.onEn n f).trc = s.trc := rfl
@[simp] theorem State.onEn_phs (s : State) (n : Nat) (f : EnSt → EnSt) : (s.onEn n f).phs = s.phs := rfl
@[simp] theorem State.onEn_stg (s : State) (n : Nat) (f : EnSt → EnSt) : (s.onEn n f).stg = s.stg := rfl
@[simp] theorem State.onEn_loc (s : State) (n : Nat) (f : EnSt → EnSt) : (s.onEn n f).loc = s.loc := rfl
@[simp] theorem State.onEn_fdr (s : State) (n : Nat) (f : EnSt → EnSt) : (s.onEn n f).fdr = s.fdr := rfl
@[simp] theorem State.onEn_strs (s : State) (n : Nat) (f : EnSt → EnSt) : (s.onEn n f).strs = s.strs := rfl
@[simp] theorem State.onEn_shf (s : State) (n : Nat) (f : EnSt → EnSt) : (s.onEn n f).shf = s.shf := rfl
@[simp] theorem State.onEn_mb (s : State) (n : Nat) (f : EnSt → EnSt) : (s.onEn n f).mb = s.mb := rfl
@[simp] theorem State.onEn_stat (s : State) (n : Nat) (f : EnSt → EnSt) : (s.onEn n f).stat = s.stat := rfl
@[simp] theorem State.onEn_statSnap (s : State) (n : Nat) (f : EnSt → EnSt) : (s.onEn n f).statSnap = s.statSnap := rfl
@[simp] theorem State.onEn_meas (s : State) (n : Nat) (f : EnSt → EnSt) : (s.onEn n f).meas = s.meas := rfl
@[simp] theorem State.onEn_hk (s : State) (n : Nat) (f : EnSt → EnSt) : (s.onEn n f).hk = s.hk := rfl
@[simp] theorem State.onEn_evq (s : State) (n : Nat) (f : EnSt → EnSt) : (s.onEn n f).evq = s.evq := rfl
@[simp] theorem State.onEn_flt (s : State) (n : Nat) (f : EnSt → EnSt) : (s.onEn n f).flt = s.flt := rfl
@[simp] theorem State.onEn_ecc (s : State) (n : Nat) (f : EnSt → EnSt) : (s.onEn n f).ecc = s.ecc := rfl
@[simp] theorem State.onEn_linj (s : State) (n : Nat) (f : EnSt → EnSt) : (s.onEn n f).linj = s.linj := rfl
@[simp] theorem State.onEn_evr (s : State) (n : Nat) (f : EnSt → EnSt) : (s.onEn n f).evr = s.evr := rfl
@[simp] theorem State.onEn_sbg (s : State) (n : Nat) (f : EnSt → EnSt) : (s.onEn n f).sbg = s.sbg := rfl
@[simp] theorem State.onEn_free (s : State) (n : Nat) (f : EnSt → EnSt) : (s.onEn n f).free = s.free := rfl
@[simp] theorem State.onEn_pending (s : State) (n : Nat) (f : EnSt → EnSt) : (s.onEn n f).pending = s.pending := rfl

/-! ## `State.onLane` -/

@[simp] theorem State.onLane_reg (s : State) (n : Nat) (f : TdLane → TdLane) : (s.onLane n f).reg = s.reg := rfl
@[simp] theorem State.onLane_shadow (s : State) (n : Nat) (f : TdLane → TdLane) : (s.onLane n f).shadow = s.shadow := rfl
@[simp] theorem State.onLane_mem (s : State) (n : Nat) (f : TdLane → TdLane) : (s.onLane n f).mem = s.mem := rfl
@[simp] theorem State.onLane_latch (s : State) (n : Nat) (f : TdLane → TdLane) : (s.onLane n f).latch = s.latch := rfl
@[simp] theorem State.onLane_readData (s : State) (n : Nat) (f : TdLane → TdLane) : (s.onLane n f).readData = s.readData := rfl
@[simp] theorem State.onLane_time (s : State) (n : Nat) (f : TdLane → TdLane) : (s.onLane n f).time = s.time := rfl
@[simp] theorem State.onLane_unit (s : State) (n : Nat) (f : TdLane → TdLane) : (s.onLane n f).unit = s.unit := rfl
@[simp] theorem State.onLane_flash (s : State) (n : Nat) (f : TdLane → TdLane) : (s.onLane n f).flash = s.flash := rfl
@[simp] theorem State.onLane_boot (s : State) (n : Nat) (f : TdLane → TdLane) : (s.onLane n f).boot = s.boot := rfl
@[simp] theorem State.onLane_upd (s : State) (n : Nat) (f : TdLane → TdLane) : (s.onLane n f).upd = s.upd := rfl
@[simp] theorem State.onLane_smb (s : State) (n : Nat) (f : TdLane → TdLane) : (s.onLane n f).smb = s.smb := rfl
@[simp] theorem State.onLane_spi (s : State) (n : Nat) (f : TdLane → TdLane) : (s.onLane n f).spi = s.spi := rfl
@[simp] theorem State.onLane_commit (s : State) (n : Nat) (f : TdLane → TdLane) : (s.onLane n f).commit = s.commit := rfl
@[simp] theorem State.onLane_check (s : State) (n : Nat) (f : TdLane → TdLane) : (s.onLane n f).check = s.check := rfl
@[simp] theorem State.onLane_links (s : State) (n : Nat) (f : TdLane → TdLane) : (s.onLane n f).links = s.links := rfl
@[simp] theorem State.onLane_frameNo (s : State) (n : Nat) (f : TdLane → TdLane) : (s.onLane n f).frameNo = s.frameNo := rfl
@[simp] theorem State.onLane_chans (s : State) (n : Nat) (f : TdLane → TdLane) : (s.onLane n f).chans = s.chans := rfl
@[simp] theorem State.onLane_fine (s : State) (n : Nat) (f : TdLane → TdLane) : (s.onLane n f).fine = s.fine := rfl
@[simp] theorem State.onLane_ctx (s : State) (n : Nat) (f : TdLane → TdLane) : (s.onLane n f).ctx = s.ctx := rfl
@[simp] theorem State.onLane_cwq (s : State) (n : Nat) (f : TdLane → TdLane) : (s.onLane n f).cwq = s.cwq := rfl
@[simp] theorem State.onLane_trc (s : State) (n : Nat) (f : TdLane → TdLane) : (s.onLane n f).trc = s.trc := rfl
@[simp] theorem State.onLane_phs (s : State) (n : Nat) (f : TdLane → TdLane) : (s.onLane n f).phs = s.phs := rfl
@[simp] theorem State.onLane_stg (s : State) (n : Nat) (f : TdLane → TdLane) : (s.onLane n f).stg = s.stg := rfl
@[simp] theorem State.onLane_loc (s : State) (n : Nat) (f : TdLane → TdLane) : (s.onLane n f).loc = s.loc := rfl
@[simp] theorem State.onLane_fdr (s : State) (n : Nat) (f : TdLane → TdLane) : (s.onLane n f).fdr = s.fdr := rfl
@[simp] theorem State.onLane_strs (s : State) (n : Nat) (f : TdLane → TdLane) : (s.onLane n f).strs = s.strs := rfl
@[simp] theorem State.onLane_shf (s : State) (n : Nat) (f : TdLane → TdLane) : (s.onLane n f).shf = s.shf := rfl
@[simp] theorem State.onLane_mb (s : State) (n : Nat) (f : TdLane → TdLane) : (s.onLane n f).mb = s.mb := rfl
@[simp] theorem State.onLane_stat (s : State) (n : Nat) (f : TdLane → TdLane) : (s.onLane n f).stat = s.stat := rfl
@[simp] theorem State.onLane_statSnap (s : State) (n : Nat) (f : TdLane → TdLane) : (s.onLane n f).statSnap = s.statSnap := rfl
@[simp] theorem State.onLane_en (s : State) (n : Nat) (f : TdLane → TdLane) : (s.onLane n f).en = s.en := rfl
@[simp] theorem State.onLane_meas (s : State) (n : Nat) (f : TdLane → TdLane) : (s.onLane n f).meas = s.meas := rfl
@[simp] theorem State.onLane_hk (s : State) (n : Nat) (f : TdLane → TdLane) : (s.onLane n f).hk = s.hk := rfl
@[simp] theorem State.onLane_evq (s : State) (n : Nat) (f : TdLane → TdLane) : (s.onLane n f).evq = s.evq := rfl
@[simp] theorem State.onLane_flt (s : State) (n : Nat) (f : TdLane → TdLane) : (s.onLane n f).flt = s.flt := rfl
@[simp] theorem State.onLane_ecc (s : State) (n : Nat) (f : TdLane → TdLane) : (s.onLane n f).ecc = s.ecc := rfl
@[simp] theorem State.onLane_linj (s : State) (n : Nat) (f : TdLane → TdLane) : (s.onLane n f).linj = s.linj := rfl
@[simp] theorem State.onLane_evr (s : State) (n : Nat) (f : TdLane → TdLane) : (s.onLane n f).evr = s.evr := rfl
@[simp] theorem State.onLane_sbg (s : State) (n : Nat) (f : TdLane → TdLane) : (s.onLane n f).sbg = s.sbg := rfl
@[simp] theorem State.onLane_free (s : State) (n : Nat) (f : TdLane → TdLane) : (s.onLane n f).free = s.free := rfl
@[simp] theorem State.onLane_pending (s : State) (n : Nat) (f : TdLane → TdLane) : (s.onLane n f).pending = s.pending := rfl

end Sys2Proof.Machine
end

