-- ==== Sys2Proof/Laws/Ops.lean ====
section
/-!
SUPPORT. What the shared operations do: registers and their fields after a write, the context RAM, what raising an event and sending a
fault message can change, and that the memories keep their canonical form.
-/

namespace Sys2Proof.Machine

/-! ## Registers -/

@[simp] theorem State.rd_wr_same (s : State) (a : Nat) (v : Word) : (s.wr a v).rd a = v := cellsGet_set_same _ _ _

theorem State.rd_wr_ne (s : State) (a b : Nat) (v : Word) (h : a ≠ b) : (s.wr a v).rd b = s.rd b := cellsGet_set_ne _ _ _ _ h

theorem State.rd_wr (s : State) (a b : Nat) (v : Word) : (s.wr a v).rd b = if a = b then v else s.rd b := by
  by_cases h : a = b
  · subst h
    simp
  · simp [h, State.rd_wr_ne]

@[simp] theorem State.rd_wrN_same (s : State) (a v : Nat) : (s.wrN a v).rd a = word v := State.rd_wr_same _ _ _

theorem State.rd_wrN_ne (s : State) (a b v : Nat) (h : a ≠ b) : (s.wrN a v).rd b = s.rd b := State.rd_wr_ne _ _ _ _ h

@[simp] theorem State.rd_put_same (s : State) (a hi lo v : Nat) : (s.put a hi lo v).rd a = setField (s.rd a) hi lo v :=
  State.rd_wr_same _ _ _

theorem State.rd_put_ne (s : State) (a b hi lo v : Nat) (h : a ≠ b) : (s.put a hi lo v).rd b = s.rd b := State.rd_wr_ne _ _ _ _ h

@[simp] theorem State.rd_setBit_same (s : State) (a i : Nat) (x : Bool) :
    (s.setBit a i x).rd a = setField (s.rd a) i i (b2n x) := State.rd_wr_same _ _ _

theorem State.rd_setBit_ne (s : State) (a b i : Nat) (x : Bool) (h : a ≠ b) : (s.setBit a i x).rd b = s.rd b :=
  State.rd_wr_ne _ _ _ _ h

theorem State.rd_bump_ne (s : State) (a b hi lo n : Nat) (h : a ≠ b) : (s.bump a hi lo n).rd b = s.rd b := State.rd_wr_ne _ _ _ _ h

/-- A field reads as it was set. -/
theorem State.fld_put (s : State) (a hi lo v : Nat) (h : hi < 32) : (s.put a hi lo v).fld a hi lo = v % 2 ^ (hi + 1 - lo) := by
  rw [State.fld, State.rd_put_same, fieldOf_setField _ _ _ _ h]

/-- A field of the same register that shares no bit is left alone. -/
theorem State.fld_put_disj (s : State) (a hi lo v hi' lo' : Nat) (h : hi' < 32) (hd : hi' < lo ∨ hi < lo') :
    (s.put a hi lo v).fld a hi' lo' = s.fld a hi' lo' := by
  rw [State.fld, State.rd_put_same, fieldOf_setField_ne _ _ _ _ _ _ h hd, State.fld]

theorem State.bit_put (s : State) (a hi lo v i : Nat) (h : i < 32) :
    (s.put a hi lo v).bit a i = if lo ≤ i ∧ i ≤ hi then v.testBit (i - lo) else s.bit a i := by
  rw [State.bit, State.rd_put_same, bitOf_setField _ _ _ _ _ h, State.bit]

/-- A bit reads as it was set. -/
theorem State.bit_setBit (s : State) (a i : Nat) (b : Bool) (h : i < 32) : (s.setBit a i b).bit a i = b := by
  rw [State.bit, State.rd_setBit_same, bitOf_setBit _ _ _ h]

/-- Another bit of the register is left alone. -/
theorem State.bit_setBit_ne (s : State) (a i j : Nat) (b : Bool) (h : j < 32) (hd : i ≠ j) :
    (s.setBit a i b).bit a j = s.bit a j := by
  rw [State.bit, State.rd_setBit_same, bitOf_setField _ _ _ _ _ h, if_neg (by omega), State.bit]

/-- A counter counts up, and holds at its largest value (R399). -/
theorem State.fld_bump (s : State) (a hi lo n : Nat) (h : hi < 32) :
    (s.bump a hi lo n).fld a hi lo = min (s.fld a hi lo + n) (2 ^ (hi + 1 - lo) - 1) := by
  rw [State.bump, State.fld_put _ _ _ _ _ h]
  apply Nat.mod_eq_of_lt
  have : 0 < 2 ^ (hi + 1 - lo) := Nat.pow_pos (by decide)
  omega

theorem State.fld_bump_disj (s : State) (a hi lo n hi' lo' : Nat) (h : hi' < 32) (hd : hi' < lo ∨ hi < lo') :
    (s.bump a hi lo n).fld a hi' lo' = s.fld a hi' lo' := State.fld_put_disj _ _ _ _ _ _ _ h hd

@[simp] theorem State.srd_swr_same (s : State) (a : Nat) (v : Word) : (s.swr a v).srd a = v := cellsGet_set_same _ _ _

theorem State.srd_swr_ne (s : State) (a b : Nat) (v : Word) (h : a ≠ b) : (s.swr a v).srd b = s.srd b :=
  cellsGet_set_ne _ _ _ _ h

/-! ## Context RAM -/

@[simp] theorem State.mem8_setMem8_same (s : State) (a : Nat) (v : Byte) : (s.setMem8 a v).mem8 a = v := cellsGet_set_same _ _ _

theorem State.mem8_setMem8_ne (s : State) (a b : Nat) (v : Byte) (h : a ≠ b) : (s.setMem8 a v).mem8 b = s.mem8 b :=
  cellsGet_set_ne _ _ _ _ h

/-- A word written reads back. -/
theorem State.mem32_setMem32 (s : State) (a : Nat) (v : Word) : (s.setMem32 a v).mem32 a = v := by
  have h01 : (a : Nat) ≠ a + 1 := by omega
  simp only [State.setMem32, State.setMem16, State.mem32, State.mem16]
  rw [State.mem8_setMem8_ne _ _ a _ (by omega), State.mem8_setMem8_ne _ _ a _ (by omega), State.mem8_setMem8_ne _ _ a _ (by omega),
    State.mem8_setMem8_same, State.mem8_setMem8_ne _ _ (a + 1) _ (by omega), State.mem8_setMem8_ne _ _ (a + 1) _ (by omega),
    State.mem8_setMem8_same, State.mem8_setMem8_ne _ _ (a + 2) _ (by omega), State.mem8_setMem8_same, State.mem8_setMem8_same]
  apply BitVec.eq_of_toNat_eq
  have := v.isLt
  simp only [word, BitVec.toNat_ofNat]
  omega

/-- A word written leaves every byte outside its four alone. -/
theorem State.mem8_setMem32_ne (s : State) (a b : Nat) (v : Word) (h : b < a ∨ a + 4 ≤ b) :
    (s.setMem32 a v).mem8 b = s.mem8 b := by
  simp only [State.setMem32, State.setMem16]
  rw [State.mem8_setMem8_ne _ _ b _ (by omega), State.mem8_setMem8_ne _ _ b _ (by omega), State.mem8_setMem8_ne _ _ b _ (by omega),
    State.mem8_setMem8_ne _ _ b _ (by omega)]

/-! ## The canonical form of the three memories -/

theorem State.wr_wf (s : State) (a : Nat) (v : Word) (h : Memory.wf s) : Memory.wf (s.wr a v) := ⟨cellsSet_wf _ _ _ h.1, h.2⟩

theorem State.swr_wf (s : State) (a : Nat) (v : Word) (h : Memory.wf s) : Memory.wf (s.swr a v) :=
  ⟨h.1, cellsSet_wf _ _ _ h.2.1, h.2.2⟩

theorem State.setMem8_wf (s : State) (a : Nat) (v : Byte) (h : Memory.wf s) : Memory.wf (s.setMem8 a v) :=
  ⟨h.1, h.2.1, cellsSet_wf _ _ _ h.2.2⟩

theorem State.setMem16_wf (s : State) (a v : Nat) (h : Memory.wf s) : Memory.wf (s.setMem16 a v) :=
  State.setMem8_wf _ _ _ (State.setMem8_wf _ _ _ h)

theorem State.setMem32_wf (s : State) (a : Nat) (v : Word) (h : Memory.wf s) : Memory.wf (s.setMem32 a v) :=
  State.setMem16_wf _ _ _ (State.setMem16_wf _ _ _ h)

theorem State.wrN_wf (s : State) (a v : Nat) (h : Memory.wf s) : Memory.wf (s.wrN a v) := State.wr_wf _ _ _ h
theorem State.put_wf (s : State) (a hi lo v : Nat) (h : Memory.wf s) : Memory.wf (s.put a hi lo v) := State.wr_wf _ _ _ h
theorem State.setBit_wf (s : State) (a i : Nat) (b : Bool) (h : Memory.wf s) : Memory.wf (s.setBit a i b) := State.wr_wf _ _ _ h
theorem State.bump_wf (s : State) (a hi lo n : Nat) (h : Memory.wf s) : Memory.wf (s.bump a hi lo n) := State.wr_wf _ _ _ h

/-- A commit copies between the banks and keeps their form. -/
theorem State.commit_wf (s : State) (p : Nat → Bool) (h : Memory.wf s) :
    Memory.wf { s with reg := cellsCopy p s.shadow s.reg } ∧ Memory.wf { s with shadow := cellsCopy p s.reg s.shadow } :=
  ⟨⟨cellsCopy_wf _ _ _ h.2.1 h.1, h.2⟩, ⟨h.1, cellsCopy_wf _ _ _ h.1 h.2.1, h.2.2⟩⟩

theorem State.reset_wf : Memory.wf State.reset := ⟨rfl, rfl, rfl⟩

/-! ## Events and faults -/

/-- The registers that a full crossing writes (R42): TIM_CDCDROP and EVT_CDCOVFi. -/
def crossReg (a : Nat) : Bool := a == Reg.TIM_CDCDROP || (decide (0x340 ≤ a) && decide (a < 0x360))

/-- The pulse of event `e` with detail `d` at this instant. -/
def State.pulseOf (s : State) (e : Ev) (d : List Byte) (inj fwd : Bool) : EvPulse :=
  { ev := e, detail := d, stamp := s.stamp, inj := inj, fwd := fwd }

theorem State.pulse_rd (s : State) (p : EvPulse) (a : Nat) (hp : p.ev.src < 256) (h : crossReg a = false) :
    (s.pulse p).rd a = s.rd a := by
  simp only [crossReg, Reg.TIM_CDCDROP, Bool.or_eq_false_iff, Bool.and_eq_false_iff, beq_eq_false_iff_ne,
    decide_eq_false_iff_not] at h
  unfold State.pulse
  split
  · rfl
  · rw [State.rd_bump_ne _ _ _ _ _ _ (by show (336 : Nat) ≠ a; omega), State.rd_setBit_ne _ _ _ _ _ (by show 832 + _ ≠ a; omega)]

/-! What an event leaves alone. -/

@[simp] theorem State.pulse_shadow (s : State) (p : EvPulse) : (s.pulse p).shadow = s.shadow := by
  unfold State.pulse
  split <;> rfl

@[simp] theorem State.pulse_mem (s : State) (p : EvPulse) : (s.pulse p).mem = s.mem := by
  unfold State.pulse
  split <;> rfl

@[simp] theorem State.pulse_latch (s : State) (p : EvPulse) : (s.pulse p).latch = s.latch := by
  unfold State.pulse
  split <;> rfl

@[simp] theorem State.pulse_readData (s : State) (p : EvPulse) : (s.pulse p).readData = s.readData := by
  unfold State.pulse
  split <;> rfl

@[simp] theorem State.pulse_time (s : State) (p : EvPulse) : (s.pulse p).time = s.time := by
  unfold State.pulse
  split <;> rfl

@[simp] theorem State.pulse_unit (s : State) (p : EvPulse) : (s.pulse p).unit = s.unit := by
  unfold State.pulse
  split <;> rfl

@[simp] theorem State.pulse_flash (s : State) (p : EvPulse) : (s.pulse p).flash = s.flash := by
  unfold State.pulse
  split <;> rfl

@[simp] theorem State.pulse_boot (s : State) (p : EvPulse) : (s.pulse p).boot = s.boot := by
  unfold State.pulse
  split <;> rfl

@[simp] theorem State.pulse_upd (s : State) (p : EvPulse) : (s.pulse p).upd = s.upd := by
  unfold State.pulse
  split <;> rfl

@[simp] theorem State.pulse_smb (s : State) (p : EvPulse) : (s.pulse p).smb = s.smb := by
  unfold State.pulse
  split <;> rfl

@[simp] theorem State.pulse_spi (s : State) (p : EvPulse) : (s.pulse p).spi = s.spi := by
  unfold State.pulse
  split <;> rfl

@[simp] theorem State.pulse_commit (s : State) (p : EvPulse) : (s.pulse p).commit = s.commit := by
  unfold State.pulse
  split <;> rfl

@[simp] theorem State.pulse_check (s : State) (p : EvPulse) : (s.pulse p).check = s.check := by
  unfold State.pulse
  split <;> rfl

@[simp] theorem State.pulse_pair (s : State) (p : EvPulse) : (s.pulse p).pair = s.pair := by
  unfold State.pulse
  split <;> rfl

@[simp] theorem State.pulse_links (s : State) (p : EvPulse) : (s.pulse p).links = s.links := by
  unfold State.pulse
  split <;> rfl

@[simp] theorem State.pulse_frameNo (s : State) (p : EvPulse) : (s.pulse p).frameNo = s.frameNo := by
  unfold State.pulse
  split <;> rfl

@[simp] theorem State.pulse_chans (s : State) (p : EvPulse) : (s.pulse p).chans = s.chans := by
  unfold State.pulse
  split <;> rfl

@[simp] theorem State.pulse_fine (s : State) (p : EvPulse) : (s.pulse p).fine = s.fine := by
  unfold State.pulse
  split <;> rfl

@[simp] theorem State.pulse_ctx (s : State) (p : EvPulse) : (s.pulse p).ctx = s.ctx := by
  unfold State.pulse
  split <;> rfl

@[simp] theorem State.pulse_cwq (s : State) (p : EvPulse) : (s.pulse p).cwq = s.cwq := by
  unfold State.pulse
  split <;> rfl

@[simp] theorem State.pulse_trc (s : State) (p : EvPulse) : (s.pulse p).trc = s.trc := by
  unfold State.pulse
  split <;> rfl

@[simp] theorem State.pulse_phs (s : State) (p : EvPulse) : (s.pulse p).phs = s.phs := by
  unfold State.pulse
  split <;> rfl

@[simp] theorem State.pulse_stg (s : State) (p : EvPulse) : (s.pulse p).stg = s.stg := by
  unfold State.pulse
  split <;> rfl

@[simp] theorem State.pulse_loc (s : State) (p : EvPulse) : (s.pulse p).loc = s.loc := by
  unfold State.pulse
  split <;> rfl

@[simp] theorem State.pulse_fdr (s : State) (p : EvPulse) : (s.pulse p).fdr = s.fdr := by
  unfold State.pulse
  split <;> rfl

@[simp] theorem State.pulse_strs (s : State) (p : EvPulse) : (s.pulse p).strs = s.strs := by
  unfold State.pulse
  split <;> rfl

@[simp] theorem State.pulse_shf (s : State) (p : EvPulse) : (s.pulse p).shf = s.shf := by
  unfold State.pulse
  split <;> rfl

@[simp] theorem State.pulse_mb (s : State) (p : EvPulse) : (s.pulse p).mb = s.mb := by
  unfold State.pulse
  split <;> rfl

@[simp] theorem State.pulse_stat (s : State) (p : EvPulse) : (s.pulse p).stat = s.stat := by
  unfold State.pulse
  split <;> rfl

@[simp] theorem State.pulse_statSnap (s : State) (p : EvPulse) : (s.pulse p).statSnap = s.statSnap := by
  unfold State.pulse
  split <;> rfl

@[simp] theorem State.pulse_en (s : State) (p : EvPulse) : (s.pulse p).en = s.en := by
  unfold State.pulse
  split <;> rfl

@[simp] theorem State.pulse_meas (s : State) (p : EvPulse) : (s.pulse p).meas = s.meas := by
  unfold State.pulse
  split <;> rfl

@[simp] theorem State.pulse_hk (s : State) (p : EvPulse) : (s.pulse p).hk = s.hk := by
  unfold State.pulse
  split <;> rfl

@[simp] theorem State.pulse_flt (s : State) (p : EvPulse) : (s.pulse p).flt = s.flt := by
  unfold State.pulse
  split <;> rfl

@[simp] theorem State.pulse_ecc (s : State) (p : EvPulse) : (s.pulse p).ecc = s.ecc := by
  unfold State.pulse
  split <;> rfl

@[simp] theorem State.pulse_linj (s : State) (p : EvPulse) : (s.pulse p).linj = s.linj := by
  unfold State.pulse
  split <;> rfl

@[simp] theorem State.pulse_evr (s : State) (p : EvPulse) : (s.pulse p).evr = s.evr := by
  unfold State.pulse
  split <;> rfl

@[simp] theorem State.pulse_sbg (s : State) (p : EvPulse) : (s.pulse p).sbg = s.sbg := by
  unfold State.pulse
  split <;> rfl

@[simp] theorem State.pulse_free (s : State) (p : EvPulse) : (s.pulse p).free = s.free := by
  unfold State.pulse
  split <;> rfl

@[simp] theorem State.pulse_pending (s : State) (p : EvPulse) : (s.pulse p).pending = s.pending := by
  unfold State.pulse
  split <;> rfl

@[simp] theorem State.raiseWith_shadow (s : State) (e : Ev) (d : List Byte) (i w : Bool) : (s.raiseWith e d i w).shadow = s.shadow := by
  unfold State.raiseWith
  split <;> simp only [State.pulse_shadow]

@[simp] theorem State.raiseWith_mem (s : State) (e : Ev) (d : List Byte) (i w : Bool) : (s.raiseWith e d i w).mem = s.mem := by
  unfold State.raiseWith
  split <;> simp only [State.pulse_mem]

@[simp] theorem State.raiseWith_latch (s : State) (e : Ev) (d : List Byte) (i w : Bool) : (s.raiseWith e d i w).latch = s.latch := by
  unfold State.raiseWith
  split <;> simp only [State.pulse_latch]

@[simp] theorem State.raiseWith_readData (s : State) (e : Ev) (d : List Byte) (i w : Bool) : (s.raiseWith e d i w).readData = s.readData := by
  unfold State.raiseWith
  split <;> simp only [State.pulse_readData]

@[simp] theorem State.raiseWith_time (s : State) (e : Ev) (d : List Byte) (i w : Bool) : (s.raiseWith e d i w).time = s.time := by
  unfold State.raiseWith
  split <;> simp only [State.pulse_time]

@[simp] theorem State.raiseWith_unit (s : State) (e : Ev) (d : List Byte) (i w : Bool) : (s.raiseWith e d i w).unit = s.unit := by
  unfold State.raiseWith
  split <;> simp only [State.pulse_unit]

@[simp] theorem State.raiseWith_flash (s : State) (e : Ev) (d : List Byte) (i w : Bool) : (s.raiseWith e d i w).flash = s.flash := by
  unfold State.raiseWith
  split <;> simp only [State.pulse_flash]

@[simp] theorem State.raiseWith_boot (s : State) (e : Ev) (d : List Byte) (i w : Bool) : (s.raiseWith e d i w).boot = s.boot := by
  unfold State.raiseWith
  split <;> simp only [State.pulse_boot]

@[simp] theorem State.raiseWith_upd (s : State) (e : Ev) (d : List Byte) (i w : Bool) : (s.raiseWith e d i w).upd = s.upd := by
  unfold State.raiseWith
  split <;> simp only [State.pulse_upd]

@[simp] theorem State.raiseWith_smb (s : State) (e : Ev) (d : List Byte) (i w : Bool) : (s.raiseWith e d i w).smb = s.smb := by
  unfold State.raiseWith
  split <;> simp only [State.pulse_smb]

@[simp] theorem State.raiseWith_spi (s : State) (e : Ev) (d : List Byte) (i w : Bool) : (s.raiseWith e d i w).spi = s.spi := by
  unfold State.raiseWith
  split <;> simp only [State.pulse_spi]

@[simp] theorem State.raiseWith_commit (s : State) (e : Ev) (d : List Byte) (i w : Bool) : (s.raiseWith e d i w).commit = s.commit := by
  unfold State.raiseWith
  split <;> simp only [State.pulse_commit]

@[simp] theorem State.raiseWith_check (s : State) (e : Ev) (d : List Byte) (i w : Bool) : (s.raiseWith e d i w).check = s.check := by
  unfold State.raiseWith
  split <;> simp only [State.pulse_check]

@[simp] theorem State.raiseWith_pair (s : State) (e : Ev) (d : List Byte) (i w : Bool) : (s.raiseWith e d i w).pair = s.pair := by
  unfold State.raiseWith
  split <;> simp only [State.pulse_pair]

@[simp] theorem State.raiseWith_links (s : State) (e : Ev) (d : List Byte) (i w : Bool) : (s.raiseWith e d i w).links = s.links := by
  unfold State.raiseWith
  split <;> simp only [State.pulse_links]

@[simp] theorem State.raiseWith_frameNo (s : State) (e : Ev) (d : List Byte) (i w : Bool) : (s.raiseWith e d i w).frameNo = s.frameNo := by
  unfold State.raiseWith
  split <;> simp only [State.pulse_frameNo]

@[simp] theorem State.raiseWith_chans (s : State) (e : Ev) (d : List Byte) (i w : Bool) : (s.raiseWith e d i w).chans = s.chans := by
  unfold State.raiseWith
  split <;> simp only [State.pulse_chans]

@[simp] theorem State.raiseWith_fine (s : State) (e : Ev) (d : List Byte) (i w : Bool) : (s.raiseWith e d i w).fine = s.fine := by
  unfold State.raiseWith
  split <;> simp only [State.pulse_fine]

@[simp] theorem State.raiseWith_ctx (s : State) (e : Ev) (d : List Byte) (i w : Bool) : (s.raiseWith e d i w).ctx = s.ctx := by
  unfold State.raiseWith
  split <;> simp only [State.pulse_ctx]

@[simp] theorem State.raiseWith_cwq (s : State) (e : Ev) (d : List Byte) (i w : Bool) : (s.raiseWith e d i w).cwq = s.cwq := by
  unfold State.raiseWith
  split <;> simp only [State.pulse_cwq]

@[simp] theorem State.raiseWith_trc (s : State) (e : Ev) (d : List Byte) (i w : Bool) : (s.raiseWith e d i w).trc = s.trc := by
  unfold State.raiseWith
  split <;> simp only [State.pulse_trc]

@[simp] theorem State.raiseWith_phs (s : State) (e : Ev) (d : List Byte) (i w : Bool) : (s.raiseWith e d i w).phs = s.phs := by
  unfold State.raiseWith
  split <;> simp only [State.pulse_phs]

@[simp] theorem State.raiseWith_stg (s : State) (e : Ev) (d : List Byte) (i w : Bool) : (s.raiseWith e d i w).stg = s.stg := by
  unfold State.raiseWith
  split <;> simp only [State.pulse_stg]

@[simp] theorem State.raiseWith_loc (s : State) (e : Ev) (d : List Byte) (i w : Bool) : (s.raiseWith e d i w).loc = s.loc := by
  unfold State.raiseWith
  split <;> simp only [State.pulse_loc]

@[simp] theorem State.raiseWith_fdr (s : State) (e : Ev) (d : List Byte) (i w : Bool) : (s.raiseWith e d i w).fdr = s.fdr := by
  unfold State.raiseWith
  split <;> simp only [State.pulse_fdr]

@[simp] theorem State.raiseWith_strs (s : State) (e : Ev) (d : List Byte) (i w : Bool) : (s.raiseWith e d i w).strs = s.strs := by
  unfold State.raiseWith
  split <;> simp only [State.pulse_strs]

@[simp] theorem State.raiseWith_shf (s : State) (e : Ev) (d : List Byte) (i w : Bool) : (s.raiseWith e d i w).shf = s.shf := by
  unfold State.raiseWith
  split <;> simp only [State.pulse_shf]

@[simp] theorem State.raiseWith_mb (s : State) (e : Ev) (d : List Byte) (i w : Bool) : (s.raiseWith e d i w).mb = s.mb := by
  unfold State.raiseWith
  split <;> simp only [State.pulse_mb]

@[simp] theorem State.raiseWith_stat (s : State) (e : Ev) (d : List Byte) (i w : Bool) : (s.raiseWith e d i w).stat = s.stat := by
  unfold State.raiseWith
  split <;> simp only [State.pulse_stat]

@[simp] theorem State.raiseWith_statSnap (s : State) (e : Ev) (d : List Byte) (i w : Bool) : (s.raiseWith e d i w).statSnap = s.statSnap := by
  unfold State.raiseWith
  split <;> simp only [State.pulse_statSnap]

@[simp] theorem State.raiseWith_en (s : State) (e : Ev) (d : List Byte) (i w : Bool) : (s.raiseWith e d i w).en = s.en := by
  unfold State.raiseWith
  split <;> simp only [State.pulse_en]

@[simp] theorem State.raiseWith_meas (s : State) (e : Ev) (d : List Byte) (i w : Bool) : (s.raiseWith e d i w).meas = s.meas := by
  unfold State.raiseWith
  split <;> simp only [State.pulse_meas]

@[simp] theorem State.raiseWith_hk (s : State) (e : Ev) (d : List Byte) (i w : Bool) : (s.raiseWith e d i w).hk = s.hk := by
  unfold State.raiseWith
  split <;> simp only [State.pulse_hk]

@[simp] theorem State.raiseWith_flt (s : State) (e : Ev) (d : List Byte) (i w : Bool) : (s.raiseWith e d i w).flt = s.flt := by
  unfold State.raiseWith
  split <;> simp only [State.pulse_flt]

@[simp] theorem State.raiseWith_ecc (s : State) (e : Ev) (d : List Byte) (i w : Bool) : (s.raiseWith e d i w).ecc = s.ecc := by
  unfold State.raiseWith
  split <;> simp only [State.pulse_ecc]

@[simp] theorem State.raiseWith_linj (s : State) (e : Ev) (d : List Byte) (i w : Bool) : (s.raiseWith e d i w).linj = s.linj := by
  unfold State.raiseWith
  split <;> simp only [State.pulse_linj]

@[simp] theorem State.raiseWith_evr (s : State) (e : Ev) (d : List Byte) (i w : Bool) : (s.raiseWith e d i w).evr = s.evr := by
  unfold State.raiseWith
  split <;> simp only [State.pulse_evr]

@[simp] theorem State.raiseWith_sbg (s : State) (e : Ev) (d : List Byte) (i w : Bool) : (s.raiseWith e d i w).sbg = s.sbg := by
  unfold State.raiseWith
  split <;> simp only [State.pulse_sbg]

@[simp] theorem State.raiseWith_free (s : State) (e : Ev) (d : List Byte) (i w : Bool) : (s.raiseWith e d i w).free = s.free := by
  unfold State.raiseWith
  split <;> simp only [State.pulse_free]

@[simp] theorem State.raiseWith_pending (s : State) (e : Ev) (d : List Byte) (i w : Bool) : (s.raiseWith e d i w).pending = s.pending := by
  unfold State.raiseWith
  split <;> simp only [State.pulse_pending]

@[simp] theorem State.raise_shadow (s : State) (e : Ev) : (s.raise e).shadow = s.shadow := State.raiseWith_shadow _ _ _ _ _

@[simp] theorem State.raise_mem (s : State) (e : Ev) : (s.raise e).mem = s.mem := State.raiseWith_mem _ _ _ _ _

@[simp] theorem State.raise_latch (s : State) (e : Ev) : (s.raise e).latch = s.latch := State.raiseWith_latch _ _ _ _ _

@[simp] theorem State.raise_readData (s : State) (e : Ev) : (s.raise e).readData = s.readData := State.raiseWith_readData _ _ _ _ _

@[simp] theorem State.raise_time (s : State) (e : Ev) : (s.raise e).time = s.time := State.raiseWith_time _ _ _ _ _

@[simp] theorem State.raise_unit (s : State) (e : Ev) : (s.raise e).unit = s.unit := State.raiseWith_unit _ _ _ _ _

@[simp] theorem State.raise_flash (s : State) (e : Ev) : (s.raise e).flash = s.flash := State.raiseWith_flash _ _ _ _ _

@[simp] theorem State.raise_boot (s : State) (e : Ev) : (s.raise e).boot = s.boot := State.raiseWith_boot _ _ _ _ _

@[simp] theorem State.raise_upd (s : State) (e : Ev) : (s.raise e).upd = s.upd := State.raiseWith_upd _ _ _ _ _

@[simp] theorem State.raise_smb (s : State) (e : Ev) : (s.raise e).smb = s.smb := State.raiseWith_smb _ _ _ _ _

@[simp] theorem State.raise_spi (s : State) (e : Ev) : (s.raise e).spi = s.spi := State.raiseWith_spi _ _ _ _ _

@[simp] theorem State.raise_commit (s : State) (e : Ev) : (s.raise e).commit = s.commit := State.raiseWith_commit _ _ _ _ _

@[simp] theorem State.raise_check (s : State) (e : Ev) : (s.raise e).check = s.check := State.raiseWith_check _ _ _ _ _

@[simp] theorem State.raise_pair (s : State) (e : Ev) : (s.raise e).pair = s.pair := State.raiseWith_pair _ _ _ _ _

@[simp] theorem State.raise_links (s : State) (e : Ev) : (s.raise e).links = s.links := State.raiseWith_links _ _ _ _ _

@[simp] theorem State.raise_frameNo (s : State) (e : Ev) : (s.raise e).frameNo = s.frameNo := State.raiseWith_frameNo _ _ _ _ _

@[simp] theorem State.raise_chans (s : State) (e : Ev) : (s.raise e).chans = s.chans := State.raiseWith_chans _ _ _ _ _

@[simp] theorem State.raise_fine (s : State) (e : Ev) : (s.raise e).fine = s.fine := State.raiseWith_fine _ _ _ _ _

@[simp] theorem State.raise_ctx (s : State) (e : Ev) : (s.raise e).ctx = s.ctx := State.raiseWith_ctx _ _ _ _ _

@[simp] theorem State.raise_cwq (s : State) (e : Ev) : (s.raise e).cwq = s.cwq := State.raiseWith_cwq _ _ _ _ _

@[simp] theorem State.raise_trc (s : State) (e : Ev) : (s.raise e).trc = s.trc := State.raiseWith_trc _ _ _ _ _

@[simp] theorem State.raise_phs (s : State) (e : Ev) : (s.raise e).phs = s.phs := State.raiseWith_phs _ _ _ _ _

@[simp] theorem State.raise_stg (s : State) (e : Ev) : (s.raise e).stg = s.stg := State.raiseWith_stg _ _ _ _ _

@[simp] theorem State.raise_loc (s : State) (e : Ev) : (s.raise e).loc = s.loc := State.raiseWith_loc _ _ _ _ _

@[simp] theorem State.raise_fdr (s : State) (e : Ev) : (s.raise e).fdr = s.fdr := State.raiseWith_fdr _ _ _ _ _

@[simp] theorem State.raise_strs (s : State) (e : Ev) : (s.raise e).strs = s.strs := State.raiseWith_strs _ _ _ _ _

@[simp] theorem State.raise_shf (s : State) (e : Ev) : (s.raise e).shf = s.shf := State.raiseWith_shf _ _ _ _ _

@[simp] theorem State.raise_mb (s : State) (e : Ev) : (s.raise e).mb = s.mb := State.raiseWith_mb _ _ _ _ _

@[simp] theorem State.raise_stat (s : State) (e : Ev) : (s.raise e).stat = s.stat := State.raiseWith_stat _ _ _ _ _

@[simp] theorem State.raise_statSnap (s : State) (e : Ev) : (s.raise e).statSnap = s.statSnap := State.raiseWith_statSnap _ _ _ _ _

@[simp] theorem State.raise_en (s : State) (e : Ev) : (s.raise e).en = s.en := State.raiseWith_en _ _ _ _ _

@[simp] theorem State.raise_meas (s : State) (e : Ev) : (s.raise e).meas = s.meas := State.raiseWith_meas _ _ _ _ _

@[simp] theorem State.raise_hk (s : State) (e : Ev) : (s.raise e).hk = s.hk := State.raiseWith_hk _ _ _ _ _

@[simp] theorem State.raise_flt (s : State) (e : Ev) : (s.raise e).flt = s.flt := State.raiseWith_flt _ _ _ _ _

@[simp] theorem State.raise_ecc (s : State) (e : Ev) : (s.raise e).ecc = s.ecc := State.raiseWith_ecc _ _ _ _ _

@[simp] theorem State.raise_linj (s : State) (e : Ev) : (s.raise e).linj = s.linj := State.raiseWith_linj _ _ _ _ _

@[simp] theorem State.raise_evr (s : State) (e : Ev) : (s.raise e).evr = s.evr := State.raiseWith_evr _ _ _ _ _

@[simp] theorem State.raise_sbg (s : State) (e : Ev) : (s.raise e).sbg = s.sbg := State.raiseWith_sbg _ _ _ _ _

@[simp] theorem State.raise_free (s : State) (e : Ev) : (s.raise e).free = s.free := State.raiseWith_free _ _ _ _ _

@[simp] theorem State.raise_pending (s : State) (e : Ev) : (s.raise e).pending = s.pending := State.raiseWith_pending _ _ _ _ _

theorem State.raiseWith_rd (s : State) (e : Ev) (d : List Byte) (i w : Bool) (a : Nat) (he : e.src < 256)
    (h : crossReg a = false) : (s.raiseWith e d i w).rd a = s.rd a := by
  unfold State.raiseWith
  split
  · exact State.pulse_rd _ _ _ he h
  · rw [State.pulse_rd _ _ _ (by show 1 < 256; decide) h, State.pulse_rd _ _ _ he h]

/-- An event changes no register but those of a full crossing. -/
theorem State.raise_rd (s : State) (e : Ev) (a : Nat) (he : e.src < 256) (h : crossReg a = false) :
    (s.raise e).rd a = s.rd a := State.raiseWith_rd _ _ _ _ _ _ he h

/-- While its source has room in the crossing, an event changes nothing but the queue of the crossing, which takes its pulse. -/
theorem State.raise_fits (s : State) (e : Ev) (h : s.pulseFits e.src = true) :
    s.raise e = { s with evq := s.evq ++ [s.pulseOf e [] false false] } := by
  have hl : (s.evq.filter (fun q => q.ev.src = e.src)).length < pulseRoom := by simpa [State.pulseFits] using h
  simp only [State.raise, State.raiseWith, h, if_true, State.pulse, hl, State.pulseOf]


/-! What a fault message leaves alone. -/

@[simp] theorem State.sendFault_shadow (s : State) (m : FltMsg) : (s.sendFault m).shadow = s.shadow := by
  unfold State.sendFault
  split
  · simp
  · rfl

@[simp] theorem State.sendFault_mem (s : State) (m : FltMsg) : (s.sendFault m).mem = s.mem := by
  unfold State.sendFault
  split
  · simp
  · rfl

@[simp] theorem State.sendFault_latch (s : State) (m : FltMsg) : (s.sendFault m).latch = s.latch := by
  unfold State.sendFault
  split
  · simp
  · rfl

@[simp] theorem State.sendFault_readData (s : State) (m : FltMsg) : (s.sendFault m).readData = s.readData := by
  unfold State.sendFault
  split
  · simp
  · rfl

@[simp] theorem State.sendFault_time (s : State) (m : FltMsg) : (s.sendFault m).time = s.time := by
  unfold State.sendFault
  split
  · simp
  · rfl

@[simp] theorem State.sendFault_unit (s : State) (m : FltMsg) : (s.sendFault m).unit = s.unit := by
  unfold State.sendFault
  split
  · simp
  · rfl

@[simp] theorem State.sendFault_flash (s : State) (m : FltMsg) : (s.sendFault m).flash = s.flash := by
  unfold State.sendFault
  split
  · simp
  · rfl

@[simp] theorem State.sendFault_boot (s : State) (m : FltMsg) : (s.sendFault m).boot = s.boot := by
  unfold State.sendFault
  split
  · simp
  · rfl

@[simp] theorem State.sendFault_upd (s : State) (m : FltMsg) : (s.sendFault m).upd = s.upd := by
  unfold State.sendFault
  split
  · simp
  · rfl

@[simp] theorem State.sendFault_smb (s : State) (m : FltMsg) : (s.sendFault m).smb = s.smb := by
  unfold State.sendFault
  split
  · simp
  · rfl

@[simp] theorem State.sendFault_spi (s : State) (m : FltMsg) : (s.sendFault m).spi = s.spi := by
  unfold State.sendFault
  split
  · simp
  · rfl

@[simp] theorem State.sendFault_commit (s : State) (m : FltMsg) : (s.sendFault m).commit = s.commit := by
  unfold State.sendFault
  split
  · simp
  · rfl

@[simp] theorem State.sendFault_check (s : State) (m : FltMsg) : (s.sendFault m).check = s.check := by
  unfold State.sendFault
  split
  · simp
  · rfl

@[simp] theorem State.sendFault_pair (s : State) (m : FltMsg) : (s.sendFault m).pair = s.pair := by
  unfold State.sendFault
  split
  · simp
  · rfl

@[simp] theorem State.sendFault_links (s : State) (m : FltMsg) : (s.sendFault m).links = s.links := by
  unfold State.sendFault
  split
  · simp
  · rfl

@[simp] theorem State.sendFault_frameNo (s : State) (m : FltMsg) : (s.sendFault m).frameNo = s.frameNo := by
  unfold State.sendFault
  split
  · simp
  · rfl

@[simp] theorem State.sendFault_chans (s : State) (m : FltMsg) : (s.sendFault m).chans = s.chans := by
  unfold State.sendFault
  split
  · simp
  · rfl

@[simp] theorem State.sendFault_fine (s : State) (m : FltMsg) : (s.sendFault m).fine = s.fine := by
  unfold State.sendFault
  split
  · simp
  · rfl

@[simp] theorem State.sendFault_ctx (s : State) (m : FltMsg) : (s.sendFault m).ctx = s.ctx := by
  unfold State.sendFault
  split
  · simp
  · rfl

@[simp] theorem State.sendFault_cwq (s : State) (m : FltMsg) : (s.sendFault m).cwq = s.cwq := by
  unfold State.sendFault
  split
  · simp
  · rfl

@[simp] theorem State.sendFault_trc (s : State) (m : FltMsg) : (s.sendFault m).trc = s.trc := by
  unfold State.sendFault
  split
  · simp
  · rfl

@[simp] theorem State.sendFault_phs (s : State) (m : FltMsg) : (s.sendFault m).phs = s.phs := by
  unfold State.sendFault
  split
  · simp
  · rfl

@[simp] theorem State.sendFault_stg (s : State) (m : FltMsg) : (s.sendFault m).stg = s.stg := by
  unfold State.sendFault
  split
  · simp
  · rfl

@[simp] theorem State.sendFault_loc (s : State) (m : FltMsg) : (s.sendFault m).loc = s.loc := by
  unfold State.sendFault
  split
  · simp
  · rfl

@[simp] theorem State.sendFault_fdr (s : State) (m : FltMsg) : (s.sendFault m).fdr = s.fdr := by
  unfold State.sendFault
  split
  · simp
  · rfl

@[simp] theorem State.sendFault_strs (s : State) (m : FltMsg) : (s.sendFault m).strs = s.strs := by
  unfold State.sendFault
  split
  · simp
  · rfl

@[simp] theorem State.sendFault_shf (s : State) (m : FltMsg) : (s.sendFault m).shf = s.shf := by
  unfold State.sendFault
  split
  · simp
  · rfl

@[simp] theorem State.sendFault_mb (s : State) (m : FltMsg) : (s.sendFault m).mb = s.mb := by
  unfold State.sendFault
  split
  · simp
  · rfl

@[simp] theorem State.sendFault_stat (s : State) (m : FltMsg) : (s.sendFault m).stat = s.stat := by
  unfold State.sendFault
  split
  · simp
  · rfl

@[simp] theorem State.sendFault_statSnap (s : State) (m : FltMsg) : (s.sendFault m).statSnap = s.statSnap := by
  unfold State.sendFault
  split
  · simp
  · rfl

@[simp] theorem State.sendFault_en (s : State) (m : FltMsg) : (s.sendFault m).en = s.en := by
  unfold State.sendFault
  split
  · simp
  · rfl

@[simp] theorem State.sendFault_meas (s : State) (m : FltMsg) : (s.sendFault m).meas = s.meas := by
  unfold State.sendFault
  split
  · simp
  · rfl

@[simp] theorem State.sendFault_hk (s : State) (m : FltMsg) : (s.sendFault m).hk = s.hk := by
  unfold State.sendFault
  split
  · simp
  · rfl

@[simp] theorem State.sendFault_ecc (s : State) (m : FltMsg) : (s.sendFault m).ecc = s.ecc := by
  unfold State.sendFault
  split
  · simp
  · rfl

@[simp] theorem State.sendFault_linj (s : State) (m : FltMsg) : (s.sendFault m).linj = s.linj := by
  unfold State.sendFault
  split
  · simp
  · rfl

@[simp] theorem State.sendFault_evr (s : State) (m : FltMsg) : (s.sendFault m).evr = s.evr := by
  unfold State.sendFault
  split
  · simp
  · rfl

@[simp] theorem State.sendFault_sbg (s : State) (m : FltMsg) : (s.sendFault m).sbg = s.sbg := by
  unfold State.sendFault
  split
  · simp
  · rfl

@[simp] theorem State.sendFault_free (s : State) (m : FltMsg) : (s.sendFault m).free = s.free := by
  unfold State.sendFault
  split
  · simp
  · rfl

@[simp] theorem State.sendFault_pending (s : State) (m : FltMsg) : (s.sendFault m).pending = s.pending := by
  unfold State.sendFault
  split
  · simp
  · rfl

@[simp] theorem State.fault_shadow (s : State) (k i a : Nat) : (s.fault k i a).shadow = s.shadow := State.sendFault_shadow _ _

@[simp] theorem State.fault_mem (s : State) (k i a : Nat) : (s.fault k i a).mem = s.mem := State.sendFault_mem _ _

@[simp] theorem State.fault_latch (s : State) (k i a : Nat) : (s.fault k i a).latch = s.latch := State.sendFault_latch _ _

@[simp] theorem State.fault_readData (s : State) (k i a : Nat) : (s.fault k i a).readData = s.readData := State.sendFault_readData _ _

@[simp] theorem State.fault_time (s : State) (k i a : Nat) : (s.fault k i a).time = s.time := State.sendFault_time _ _

@[simp] theorem State.fault_unit (s : State) (k i a : Nat) : (s.fault k i a).unit = s.unit := State.sendFault_unit _ _

@[simp] theorem State.fault_flash (s : State) (k i a : Nat) : (s.fault k i a).flash = s.flash := State.sendFault_flash _ _

@[simp] theorem State.fault_boot (s : State) (k i a : Nat) : (s.fault k i a).boot = s.boot := State.sendFault_boot _ _

@[simp] theorem State.fault_upd (s : State) (k i a : Nat) : (s.fault k i a).upd = s.upd := State.sendFault_upd _ _

@[simp] theorem State.fault_smb (s : State) (k i a : Nat) : (s.fault k i a).smb = s.smb := State.sendFault_smb _ _

@[simp] theorem State.fault_spi (s : State) (k i a : Nat) : (s.fault k i a).spi = s.spi := State.sendFault_spi _ _

@[simp] theorem State.fault_commit (s : State) (k i a : Nat) : (s.fault k i a).commit = s.commit := State.sendFault_commit _ _

@[simp] theorem State.fault_check (s : State) (k i a : Nat) : (s.fault k i a).check = s.check := State.sendFault_check _ _

@[simp] theorem State.fault_pair (s : State) (k i a : Nat) : (s.fault k i a).pair = s.pair := State.sendFault_pair _ _

@[simp] theorem State.fault_links (s : State) (k i a : Nat) : (s.fault k i a).links = s.links := State.sendFault_links _ _

@[simp] theorem State.fault_frameNo (s : State) (k i a : Nat) : (s.fault k i a).frameNo = s.frameNo := State.sendFault_frameNo _ _

@[simp] theorem State.fault_chans (s : State) (k i a : Nat) : (s.fault k i a).chans = s.chans := State.sendFault_chans _ _

@[simp] theorem State.fault_fine (s : State) (k i a : Nat) : (s.fault k i a).fine = s.fine := State.sendFault_fine _ _

@[simp] theorem State.fault_ctx (s : State) (k i a : Nat) : (s.fault k i a).ctx = s.ctx := State.sendFault_ctx _ _

@[simp] theorem State.fault_cwq (s : State) (k i a : Nat) : (s.fault k i a).cwq = s.cwq := State.sendFault_cwq _ _

@[simp] theorem State.fault_trc (s : State) (k i a : Nat) : (s.fault k i a).trc = s.trc := State.sendFault_trc _ _

@[simp] theorem State.fault_phs (s : State) (k i a : Nat) : (s.fault k i a).phs = s.phs := State.sendFault_phs _ _

@[simp] theorem State.fault_stg (s : State) (k i a : Nat) : (s.fault k i a).stg = s.stg := State.sendFault_stg _ _

@[simp] theorem State.fault_loc (s : State) (k i a : Nat) : (s.fault k i a).loc = s.loc := State.sendFault_loc _ _

@[simp] theorem State.fault_fdr (s : State) (k i a : Nat) : (s.fault k i a).fdr = s.fdr := State.sendFault_fdr _ _

@[simp] theorem State.fault_strs (s : State) (k i a : Nat) : (s.fault k i a).strs = s.strs := State.sendFault_strs _ _

@[simp] theorem State.fault_shf (s : State) (k i a : Nat) : (s.fault k i a).shf = s.shf := State.sendFault_shf _ _

@[simp] theorem State.fault_mb (s : State) (k i a : Nat) : (s.fault k i a).mb = s.mb := State.sendFault_mb _ _

@[simp] theorem State.fault_stat (s : State) (k i a : Nat) : (s.fault k i a).stat = s.stat := State.sendFault_stat _ _

@[simp] theorem State.fault_statSnap (s : State) (k i a : Nat) : (s.fault k i a).statSnap = s.statSnap := State.sendFault_statSnap _ _

@[simp] theorem State.fault_en (s : State) (k i a : Nat) : (s.fault k i a).en = s.en := State.sendFault_en _ _

@[simp] theorem State.fault_meas (s : State) (k i a : Nat) : (s.fault k i a).meas = s.meas := State.sendFault_meas _ _

@[simp] theorem State.fault_hk (s : State) (k i a : Nat) : (s.fault k i a).hk = s.hk := State.sendFault_hk _ _

@[simp] theorem State.fault_ecc (s : State) (k i a : Nat) : (s.fault k i a).ecc = s.ecc := State.sendFault_ecc _ _

@[simp] theorem State.fault_linj (s : State) (k i a : Nat) : (s.fault k i a).linj = s.linj := State.sendFault_linj _ _

@[simp] theorem State.fault_evr (s : State) (k i a : Nat) : (s.fault k i a).evr = s.evr := State.sendFault_evr _ _

@[simp] theorem State.fault_sbg (s : State) (k i a : Nat) : (s.fault k i a).sbg = s.sbg := State.sendFault_sbg _ _

@[simp] theorem State.fault_free (s : State) (k i a : Nat) : (s.fault k i a).free = s.free := State.sendFault_free _ _

@[simp] theorem State.fault_pending (s : State) (k i a : Nat) : (s.fault k i a).pending = s.pending := State.sendFault_pending _ _

theorem State.sendFault_rd (s : State) (m : FltMsg) (a : Nat) (h : crossReg a = false) (hd : a ≠ Reg.FLT_DROP) :
    (s.sendFault m).rd a = s.rd a := by
  unfold State.sendFault
  split
  · rw [State.raise_rd _ _ _ (by decide) h, State.rd_bump_ne _ _ _ _ _ _ (Ne.symm hd)]
  · rfl

/-- A fault message changes no register but those of a full crossing and FLT_DROP. -/
theorem State.fault_rd (s : State) (k i a b : Nat) (h : crossReg b = false) (hd : b ≠ Reg.FLT_DROP) :
    (s.fault k i a).rd b = s.rd b := State.sendFault_rd _ _ _ h hd

theorem mem_insertFault (m x : FltMsg) (l : List FltMsg) : x ∈ insertFault m l ↔ x = m ∨ x ∈ l := by
  induction l with
  | nil => simp [insertFault]
  | cons y r ih =>
    unfold insertFault
    split
    · simp
    · simp [ih]
      tauto

/-- A contained or fatal message, and a corrected one while the queue has room, enters the collector's input queue. -/
theorem State.sendFault_has (s : State) (m : FltMsg) (h : s.flt.inq.length < 256 ∨ m.cls ≠ 0) :
    m ∈ (s.sendFault m).flt.inq := by
  unfold State.sendFault
  rw [if_neg (by simp only [Bool.and_eq_true, decide_eq_true_eq, not_and]; omega)]
  simp [mem_insertFault]

/-! ## Registers after an update that writes none -/

@[simp] theorem State.swr_rd (s : State) (b : Nat) (v : Word) (k : Nat) : (s.swr b v).rd k = s.rd k := rfl
@[simp] theorem State.setMem8_rd (s : State) (b : Nat) (v : Byte) (k : Nat) : (s.setMem8 b v).rd k = s.rd k := rfl
@[simp] theorem State.setMem16_rd (s : State) (b v : Nat) (k : Nat) : (s.setMem16 b v).rd k = s.rd k := rfl
@[simp] theorem State.setMem32_rd (s : State) (b : Nat) (v : Word) (k : Nat) : (s.setMem32 b v).rd k = s.rd k := rfl
@[simp] theorem State.offer_rd (s : State) (r : Rec) (k : Nat) : (s.offer r).rd k = s.rd k := rfl
@[simp] theorem State.onLink_rd (s : State) (n : Nat) (f : LinkSt → LinkSt) (k : Nat) : (s.onLink n f).rd k = s.rd k := rfl
@[simp] theorem State.onPh_rd (s : State) (n : Nat) (f : PhSt → PhSt) (k : Nat) : (s.onPh n f).rd k = s.rd k := rfl
@[simp] theorem State.onSg_rd (s : State) (n : Nat) (f : StgSt → StgSt) (k : Nat) : (s.onSg n f).rd k = s.rd k := rfl
@[simp] theorem State.onLc_rd (s : State) (n : Nat) (f : LocSt → LocSt) (k : Nat) : (s.onLc n f).rd k = s.rd k := rfl
@[simp] theorem State.onFd_rd (s : State) (n : Nat) (f : FdrSt → FdrSt) (k : Nat) : (s.onFd n f).rd k = s.rd k := rfl
@[simp] theorem State.onCx_rd (s : State) (n : Nat) (f : CtxSt → CtxSt) (k : Nat) : (s.onCx n f).rd k = s.rd k := rfl
@[simp] theorem State.onTr_rd (s : State) (n : Nat) (f : TrcSt → TrcSt) (k : Nat) : (s.onTr n f).rd k = s.rd k := rfl
@[simp] theorem State.onStr_rd (s : State) (n : Nat) (f : StrSt → StrSt) (k : Nat) : (s.onStr n f).rd k = s.rd k := rfl
@[simp] theorem State.onMb_rd (s : State) (n : Nat) (f : MbSt → MbSt) (k : Nat) : (s.onMb n f).rd k = s.rd k := rfl
@[simp] theorem State.onPair_rd (s : State) (f : PairSt → PairSt) (k : Nat) : (s.onPair f).rd k = s.rd k := rfl
@[simp] theorem State.onSmb_rd (s : State) (f : SmbSt → SmbSt) (k : Nat) : (s.onSmb f).rd k = s.rd k := rfl
@[simp] theorem State.onSpi_rd (s : State) (f : SpiSt → SpiSt) (k : Nat) : (s.onSpi f).rd k = s.rd k := rfl
@[simp] theorem State.onRot_rd (s : State) (f : RotSt → RotSt) (k : Nat) : (s.onRot f).rd k = s.rd k := rfl

end Sys2Proof.Machine
end

