-- ==== Sys2Proof/Laws/Access.lean ====
section
/-!
SUPPORT. What a register access of a requester does, said once: a write reaches its register's action, and may besides count a write of
reserved bits and the waiting window items; nothing else of the state is touched.
-/

namespace Sys2Proof.Machine

/-! ## Nearness -/

/-- `t` is `u` but for the side registers and the queue of the event crossing. -/
def State.near (t u : State) : Prop :=
  (∃ r q, t = { u with reg := r, evq := q }) ∧ ∀ a, sideReg a = false → t.rd a = u.rd a

theorem State.near_refl (s : State) : s.near s := ⟨⟨s.reg, s.evq, rfl⟩, fun _ _ => rfl⟩

theorem State.near_trans {s t u : State} (h1 : s.near t) (h2 : t.near u) : s.near u := by
  obtain ⟨⟨r, q, rfl⟩, h1⟩ := h1
  obtain ⟨⟨r', q', rfl⟩, h2⟩ := h2
  exact ⟨⟨r, q, rfl⟩, fun a ha => (h1 a ha).trans (h2 a ha)⟩

theorem sideReg_cross {a : Nat} (h : sideReg a = false) : crossReg a = false := by
  simp only [sideReg, crossReg, Bool.or_eq_false_iff] at h ⊢
  exact h.1.1.1

theorem sideReg_drop {a : Nat} (h : sideReg a = false) : a ≠ Reg.FLT_DROP := by
  simp only [sideReg, Bool.or_eq_false_iff, beq_eq_false_iff_ne] at h
  exact h.1.1.2

theorem sideReg_rsv {a : Nat} (h : sideReg a = false) : a ≠ Reg.HST_RSVWR := by
  simp only [sideReg, Bool.or_eq_false_iff, beq_eq_false_iff_ne] at h
  exact h.1.2

theorem sideReg_cw {a : Nat} (h : sideReg a = false) : a ≠ Reg.CW_STAT := by
  simp only [sideReg, Bool.or_eq_false_iff, beq_eq_false_iff_ne] at h
  exact h.2

/-- An event touches only the side registers and the crossing's queue. -/
theorem State.raise_near (s : State) (e : Ev) (he : e.src < 256) : (s.raise e).near s := by
  refine ⟨?_, fun a ha => State.raise_rd _ _ _ he (sideReg_cross ha)⟩
  unfold State.raise State.raiseWith State.pulse
  simp only []
  split <;> split <;> (try split) <;> exact ⟨_, _, rfl⟩

/-- Counting a write of reserved bits (R5). -/
theorem State.reservedWrite_near (s : State) : s.reservedWrite.near s := by
  unfold State.reservedWrite
  refine State.near_trans (State.raise_near _ _ (by decide)) ?_
  exact ⟨⟨_, s.evq, rfl⟩, fun a ha => State.rd_bump_ne _ _ _ _ _ _ (Ne.symm (sideReg_rsv ha))⟩

/-! ## A write reaches its register -/

/-- A unit that has started answers at every address outside the injection block of a sealed part (R3). -/
theorem State.mapped_runs (s : State) (a : Nat) (h : s.runs = true) (ha : s.unit.sealed = false ∨ within a 0xB00 0xC00 = false) :
    s.mapped a = true := by
  have hl : s.unit.life = .running := by simpa [State.runs] using h
  have hp : s.inPaddock = false := by simp [State.inPaddock, hl]
  rcases ha with h2 | h2 <;> simp [State.mapped, hp, h2]

theorem State.fabricUp_runs (s : State) (h : s.runs = true) : s.fabricUp = true := by simp [State.fabricUp, h]

/-- The bits that a write of a mapped register with a row takes. -/
theorem State.knownBits_row (s : State) (p : Port) (a k : Nat) (r : RegRow) (hm : s.mapped a = true) (ha : a < 0x2500 ∨ 0x2600 ≤ a)
    (hb : a < 0xF080) (hk : s.keyOf p a = some k) (hr : rowOfKey k = some r) : s.knownBits p a = word r.known := by
  have h1 : within a 0xF080 0xF100 = false := by
    simp only [within, Bool.and_eq_false_iff, decide_eq_false_iff_not]
    omega
  have h2 : within a 0x2500 0x2600 = false := by
    simp only [within, Bool.and_eq_false_iff, decide_eq_false_iff_not]
    omega
  have h3 : ¬ (0xFC00 ≤ a) := by omega
  simp [State.knownBits, hm, h1, h2, h3, hk, hr]

/-- A host's write of a mapped register is the register's own action on the bits that exist, with the count of reserved bits. -/
theorem State.hostWrite_near (s : State) (p : Port) (a k : Nat) (v : Word) (hup : s.fabricUp = true) (hm : s.mapped a = true)
    (h4 : a % 4 = 0) (hb : a < 0xFC00) (hs : a ≠ sent1Addr) (hfw : s.fwBusy p a = false) (hk : s.keyOf p a = some k) :
    (s.hostWrite p a v).near (s.writeKey p k (v &&& s.knownBits p a)) := by
  have h5 : a / 4 * 4 = a := by omega
  have h6 : ¬ (0xFC00 ≤ a) := by omega
  have hs' : (a = sent1Addr) = False := by simpa using hs
  simp only [State.hostWrite, h5, hup, hfw, State.fabricWrite, hm, hk, hs', h6, Bool.and_false, Bool.false_eq_true, if_false, Bool.not_true,
    decide_false, Bool.or_false]
  split
  · exact State.near_refl _
  · exact State.reservedWrite_near _

/-- A write whose register has an action of its own, and does not follow R173. -/
theorem State.writeKey_fixed (s : State) (p : Port) (k : Nat) (v : Word) (u : State) (hf : followsPair k = false)
    (hc : k ≠ Reg.CW_CMD) (hn : within k 0x2500 0x2600 = false) (hw : s.writeFixed p k v = some u) : s.writeKey p k v = u := by
  simp [State.writeKey, hf, hw, hc, hn]

/-- A write that follows R173, on a unit that is alone or active with no standby that syncs. -/
theorem State.writeKey_now (s : State) (p : Port) (k : Nat) (v : Word) (hf : followsPair k = true) (h : s.actsNow = true) :
    s.writeKey p k v = s.writePair k v := by
  simp only [State.actsNow, Bool.and_eq_true, Bool.not_eq_true'] at h
  simp [State.writeKey, hf, State.pairWrite, h.1, h.2]

theorem State.hostWrite_plain (s : State) (p : Port) (a k : Nat) (v : Word) (r : RegRow) (hup : s.fabricUp = true)
    (hm : s.mapped a = true) (ha : plainAddr a = true) (hfw : s.fwBusy p a = false) (hk : s.keyOf p a = some k)
    (hr : rowOfKey k = some r) : (s.hostWrite p a v).near (s.writeKey p k (v &&& word r.known)) := by
  simp only [plainAddr, within, Bool.and_eq_true, Bool.not_eq_true', Bool.and_eq_false_iff, decide_eq_true_eq, decide_eq_false_iff_not,
    beq_iff_eq, bne_iff_ne] at ha
  obtain ⟨⟨⟨h4, hb⟩, hc⟩, hs⟩ := ha
  have := State.hostWrite_near s p a k v hup hm h4 (by omega) hs hfw hk
  rwa [State.knownBits_row s p a k r hm (by omega) hb hk hr] at this

/-- A write of a register with an action `u` of its own. -/
theorem State.hostWrite_fixed (s : State) (p : Port) (a k : Nat) (v : Word) (r : RegRow) (u : State) (hup : s.fabricUp = true)
    (hm : s.mapped a = true) (ha : plainAddr a = true) (hfw : s.fwBusy p a = false) (hk : s.keyOf p a = some k)
    (hr : rowOfKey k = some r) (hf : followsPair k = false) (hc : k ≠ Reg.CW_CMD) (hn : within k 0x2500 0x2600 = false)
    (hw : s.writeFixed p k (v &&& word r.known) = some u) : (s.hostWrite p a v).near u := by
  have := State.hostWrite_plain s p a k v r hup hm ha hfw hk hr
  rwa [State.writeKey_fixed s p k _ u hf hc hn hw] at this

/-- A write that follows R173, where it acts at once. -/
theorem State.hostWrite_now (s : State) (p : Port) (a k : Nat) (v : Word) (r : RegRow) (hup : s.fabricUp = true)
    (hm : s.mapped a = true) (ha : plainAddr a = true) (hfw : s.fwBusy p a = false) (hk : s.keyOf p a = some k)
    (hr : rowOfKey k = some r) (hf : followsPair k = true) (hn : s.actsNow = true) :
    (s.hostWrite p a v).near (s.writePair k (v &&& word r.known)) := by
  have := State.hostWrite_plain s p a k v r hup hm ha hfw hk hr
  rwa [State.writeKey_now s p k _ hf hn] at this

/-- A write of a register that has neither an action nor shadow fields stores by access type. -/
theorem State.hostWrite_stored (s : State) (p : Port) (a k : Nat) (v : Word) (r : RegRow) (hup : s.fabricUp = true)
    (hm : s.mapped a = true) (ha : plainAddr a = true) (hfw : s.fwBusy p a = false) (hk : s.keyOf p a = some k)
    (hr : rowOfKey k = some r) (hf : followsPair k = false) (hw : s.writeFixed p k (v &&& word r.known) = none) (hd : r.shd = 0) :
    (s.hostWrite p a v).near (s.storeByType true k (v &&& word r.known)) := by
  have := State.hostWrite_plain s p a k v r hup hm ha hfw hk hr
  simpa [State.writeKey, hf, hw, hr, hd] using this

/-- A field under a mask that covers it. -/
theorem fieldOf_and (v m : Word) (hi lo : Nat) (h : ∀ i < 32, lo ≤ i → i ≤ hi → m.getLsbD i = true) (hh : hi < 32) :
    fieldOf (v &&& m) hi lo = fieldOf v hi lo := by
  apply Nat.eq_of_testBit_eq
  intro i
  rw [fieldOf_testBit, fieldOf_testBit]
  by_cases hi' : i < hi + 1 - lo
  · rw [BitVec.getLsbD_and, h (lo + i) (by omega) (by omega) (by omega), Bool.and_true]
  · simp [hi']

theorem bitOf_and (v m : Word) (i : Nat) (h : m.getLsbD i = true) : bitOf (v &&& m) i = bitOf v i := by
  rw [bitOf, BitVec.getLsbD_and, h, Bool.and_true, bitOf]

end Sys2Proof.Machine
end

