-- ==== Sys2Proof/Laws/Commands.lean ====
section
/-!
SUPPORT. Each command that is a register access of its own reaches its register's action: the next state is what that action gives, but for
the side registers.
-/

namespace Sys2Proof.Machine

set_option maxRecDepth 8000

theorem exec_wallStep_near (p : Port) (v : Word) (s : State) (hr : s.runs = true) :
    ∃ t, exec (.wallStep p v) s = .next t ∧ t.near (s.wallctlWrite (withBit v 31 &&& word 0xC00003FF)) := by
  exact ⟨_, rfl, State.hostWrite_fixed s p _ _ _ _ _ (State.fabricUp_runs s hr) (State.mapped_runs s _ hr (Or.inr (by decide))) (by decide) (by cases p <;> rfl)
      rfl rfl (by decide) (by decide) (by decide) rfl⟩

theorem exec_wallSlew_near (p : Port) (v : Word) (s : State) (hr : s.runs = true) :
    ∃ t, exec (.wallSlew p v) s = .next t ∧ t.near (s.wallctlWrite (withBit v 30 &&& word 0xC00003FF)) := by
  exact ⟨_, rfl, State.hostWrite_fixed s p _ _ _ _ _ (State.fabricUp_runs s hr) (State.mapped_runs s _ hr (Or.inr (by decide))) (by decide) (by cases p <;> rfl)
      rfl rfl (by decide) (by decide) (by decide) rfl⟩

theorem exec_commitRequest_near (p : Port) (v : Word) (s : State) (hr : s.runs = true) :
    ∃ t, exec (.commitRequest p v) s = .next t ∧ t.near (s.commitWrite (setField v 31 31 0 &&& word 0x8001FFFF)) := by
  exact ⟨_, rfl, State.hostWrite_fixed s p _ _ _ _ _ (State.fabricUp_runs s hr) (State.mapped_runs s _ hr (Or.inr (by decide))) (by decide) (by cases p <;> rfl)
      rfl rfl (by decide) (by decide) (by decide) rfl⟩

theorem exec_commitDiscard_near (p : Port) (v : Word) (s : State) (hr : s.runs = true) :
    ∃ t, exec (.commitDiscard p v) s = .next t ∧ t.near (s.commitWrite (withBit v 31 &&& word 0x8001FFFF)) := by
  exact ⟨_, rfl, State.hostWrite_fixed s p _ _ _ _ _ (State.fabricUp_runs s hr) (State.mapped_runs s _ hr (Or.inr (by decide))) (by decide) (by cases p <;> rfl)
      rfl rfl (by decide) (by decide) (by decide) rfl⟩

theorem exec_tokenRequest_near (p : Port) (v : Word) (s : State) (hr : s.runs = true) :
    ∃ t, exec (.tokenRequest p v) s = .next t ∧ t.near (s.tokWrite (withBit v 31 &&& word 0xC000000F)) := by
  exact ⟨_, rfl, State.hostWrite_fixed s p _ _ _ _ _ (State.fabricUp_runs s hr) (State.mapped_runs s _ hr (Or.inr (by decide))) (by decide) (by cases p <;> rfl)
      rfl rfl (by decide) (by decide) (by decide) rfl⟩

theorem exec_tokenRelease_near (p : Port) (v : Word) (s : State) (hr : s.runs = true) :
    ∃ t, exec (.tokenRelease p v) s = .next t ∧ t.near (s.tokWrite (withBit v 30 &&& word 0xC000000F)) := by
  exact ⟨_, rfl, State.hostWrite_fixed s p _ _ _ _ _ (State.fabricUp_runs s hr) (State.mapped_runs s _ hr (Or.inr (by decide))) (by decide) (by cases p <;> rfl)
      rfl rfl (by decide) (by decide) (by decide) rfl⟩

theorem exec_remountNow_near (p : Port) (v : Word) (s : State) (hr : s.runs = true) :
    ∃ t, exec (.remountNow p v) s = .next t ∧ t.near (s.pairCtl (withBit v 31 &&& word 0xC0000003)) := by
  exact ⟨_, rfl, State.hostWrite_fixed s p _ _ _ _ _ (State.fabricUp_runs s hr) (State.mapped_runs s _ hr (Or.inr (by decide))) (by decide) (by cases p <;> rfl)
      rfl rfl (by decide) (by decide) (by decide) rfl⟩

theorem exec_pairOos_near (p : Port) (v : Word) (s : State) (hr : s.runs = true) :
    ∃ t, exec (.pairOos p v) s = .next t ∧ t.near (s.pairCtl (withBit v 30 &&& word 0xC0000003)) := by
  exact ⟨_, rfl, State.hostWrite_fixed s p _ _ _ _ _ (State.fabricUp_runs s hr) (State.mapped_runs s _ hr (Or.inr (by decide))) (by decide) (by cases p <;> rfl)
      rfl rfl (by decide) (by decide) (by decide) rfl⟩

theorem exec_paddockStart_near (p : Port) (v : Word) (s : State) (hr : s.inPaddock = true) :
    ∃ t, exec (.paddockStart p v) s = .next t ∧ t.near (s.pdkCtl p (withBit v 31 &&& word 0x80000007)) := by
  exact ⟨_, rfl, State.hostWrite_fixed s p _ _ _ _ _ (by simp [State.fabricUp, hr]) (by simp [State.mapped, hr]; decide) (by decide) (by cases p <;> rfl)
      rfl rfl (by decide) (by decide) (by decide) rfl⟩

theorem exec_paddockData_near (p : Port) (v : Word) (s : State) (hr : s.inPaddock = true) :
    ∃ t, exec (.paddockData p v) s = .next t ∧ t.near (s.pdkData p (v &&& word 0xFFFFFFFF)) := by
  exact ⟨_, rfl, State.hostWrite_fixed s p _ _ _ _ _ (by simp [State.fabricUp, hr]) (by simp [State.mapped, hr]; decide) (by decide) (by cases p <;> rfl)
      rfl rfl (by decide) (by decide) (by decide) rfl⟩

theorem exec_linkRetrain_near (p : Port) (n : Fin 16) (v : Word) (s : State) (hr : s.runs = true) :
    ∃ t, exec (.linkRetrain p n v) s = .next t ∧ t.near (s.lnkCtl n (withBit v 31 &&& word 0x80000001)) := by
  fin_cases n
  all_goals
    exact ⟨_, rfl, State.hostWrite_fixed s p _ _ _ _ _ (State.fabricUp_runs s hr) (State.mapped_runs s _ hr (Or.inr (by decide))) (by decide) (by cases p <;> rfl)
      rfl rfl (by decide) (by decide) (by decide) rfl⟩

theorem exec_linkEnable_near (p : Port) (n : Fin 16) (v : Word) (s : State) (hr : s.runs = true) :
    ∃ t, exec (.linkEnable p n v) s = .next t ∧ t.near (s.lnkCtl n (setField v 31 31 0 &&& word 0x80000001)) := by
  fin_cases n
  all_goals
    exact ⟨_, rfl, State.hostWrite_fixed s p _ _ _ _ _ (State.fabricUp_runs s hr) (State.mapped_runs s _ hr (Or.inr (by decide))) (by decide) (by cases p <;> rfl)
      rfl rfl (by decide) (by decide) (by decide) rfl⟩

theorem exec_laneTestStart_near (p : Port) (v : Word) (s : State) (hr : s.runs = true) :
    ∃ t, exec (.laneTestStart p v) s = .next t ∧ t.near (s.lstestWrite (withBit v 31 &&& word 0xF000FFFF)) := by
  exact ⟨_, rfl, State.hostWrite_fixed s p _ _ _ _ _ (State.fabricUp_runs s hr) (State.mapped_runs s _ hr (Or.inr (by decide))) (by decide) (by cases p <;> rfl)
      rfl rfl (by decide) (by decide) (by decide) rfl⟩

theorem exec_leCheck_near (p : Port) (v : Word) (s : State) (hr : s.runs = true) :
    ∃ t, exec (.leCheck p v) s = .next t ∧ t.near (s.leCheckWrite (withBit v 31 &&& word 0x80000000)) := by
  exact ⟨_, rfl, State.hostWrite_fixed s p _ _ _ _ _ (State.fabricUp_runs s hr) (State.mapped_runs s _ hr (Or.inr (by decide))) (by decide) (by cases p <;> rfl)
      rfl rfl (by decide) (by decide) (by decide) rfl⟩

theorem exec_traceArm_near (p : Port) (u : Fin 8) (v : Word) (s : State) (hr : s.runs = true) :
    ∃ t, exec (.traceArm p u v) s = .next t ∧ t.near (s.trcCtlWrite u (withBit v 31 &&& word 0xF8FF0F30)) := by
  fin_cases u
  all_goals
    exact ⟨_, rfl, State.hostWrite_fixed s p _ _ _ _ _ (State.fabricUp_runs s hr) (State.mapped_runs s _ hr (Or.inr (by decide))) (by decide) (by cases p <;> rfl)
      rfl rfl (by decide) (by decide) (by decide) rfl⟩

theorem exec_traceStop_near (p : Port) (u : Fin 8) (v : Word) (s : State) (hr : s.runs = true) :
    ∃ t, exec (.traceStop p u v) s = .next t ∧ t.near (s.trcCtlWrite u (withBit v 30 &&& word 0xF8FF0F30)) := by
  fin_cases u
  all_goals
    exact ⟨_, rfl, State.hostWrite_fixed s p _ _ _ _ _ (State.fabricUp_runs s hr) (State.mapped_runs s _ hr (Or.inr (by decide))) (by decide) (by cases p <;> rfl)
      rfl rfl (by decide) (by decide) (by decide) rfl⟩

theorem exec_traceForce_near (p : Port) (u : Fin 8) (v : Word) (s : State) (hr : s.runs = true) :
    ∃ t, exec (.traceForce p u v) s = .next t ∧ t.near (s.trcCtlWrite u (withBit v 29 &&& word 0xF8FF0F30)) := by
  fin_cases u
  all_goals
    exact ⟨_, rfl, State.hostWrite_fixed s p _ _ _ _ _ (State.fabricUp_runs s hr) (State.mapped_runs s _ hr (Or.inr (by decide))) (by decide) (by cases p <;> rfl)
      rfl rfl (by decide) (by decide) (by decide) rfl⟩

theorem exec_seqgo_near (p : Port) (v : Word) (s : State) (hr : s.runs = true) :
    ∃ t, exec (.seqgo p v) s = .next t ∧ t.near (s.seqGo (v &&& word 3)) := by
  exact ⟨_, rfl, State.hostWrite_fixed s p _ _ _ _ _ (State.fabricUp_runs s hr) (State.mapped_runs s _ hr (Or.inr (by decide))) (by decide) (by cases p <;> rfl)
      rfl rfl (by decide) (by decide) (by decide) rfl⟩

theorem exec_testDacWrite_near (p : Port) (v : Word) (s : State) (hr : s.runs = true) :
    ∃ t, exec (.testDacWrite p v) s = .next t ∧ t.near (s.tdacWrite (v &&& word 0x401F3FFF)) := by
  exact ⟨_, rfl, State.hostWrite_fixed s p _ _ _ _ _ (State.fabricUp_runs s hr) (State.mapped_runs s _ hr (Or.inr (by decide))) (by decide) (by cases p <;> rfl)
      rfl rfl (by decide) (by decide) (by decide) rfl⟩

theorem exec_calZero_near (p : Port) (v : Word) (s : State) (hr : s.runs = true) (hf : p = .fw ∨ s.fwOk = true) :
    ∃ t, exec (.calZero p v) s = .next t ∧ t.near (s.calCmd (withOp v 1 &&& word 0xF00001FF)) := by
  exact ⟨_, rfl, State.hostWrite_fixed s p _ _ _ _ _ (State.fabricUp_runs s hr) (State.mapped_runs s _ hr (Or.inr (by decide))) (by decide) (by rcases hf with h | h <;> simp [State.fwBusy, h])
      rfl rfl (by decide) (by decide) (by decide) rfl⟩

theorem exec_calFs_near (p : Port) (v : Word) (s : State) (hr : s.runs = true) (hf : p = .fw ∨ s.fwOk = true) :
    ∃ t, exec (.calFs p v) s = .next t ∧ t.near (s.calCmd (withOp v 2 &&& word 0xF00001FF)) := by
  exact ⟨_, rfl, State.hostWrite_fixed s p _ _ _ _ _ (State.fabricUp_runs s hr) (State.mapped_runs s _ hr (Or.inr (by decide))) (by decide) (by rcases hf with h | h <;> simp [State.fwBusy, h])
      rfl rfl (by decide) (by decide) (by decide) rfl⟩

theorem exec_calAbort_near (p : Port) (v : Word) (s : State) (hr : s.runs = true) (hf : p = .fw ∨ s.fwOk = true) :
    ∃ t, exec (.calAbort p v) s = .next t ∧ t.near (s.calCmd (withOp v 3 &&& word 0xF00001FF)) := by
  exact ⟨_, rfl, State.hostWrite_fixed s p _ _ _ _ _ (State.fabricUp_runs s hr) (State.mapped_runs s _ hr (Or.inr (by decide))) (by decide) (by rcases hf with h | h <;> simp [State.fwBusy, h])
      rfl rfl (by decide) (by decide) (by decide) rfl⟩

theorem exec_faultRelease_near (p : Port) (v : Word) (s : State) (hr : s.runs = true) :
    ∃ t, exec (.faultRelease p v) s = .next t ∧ t.near (s.fltRelease (v &&& word 0x8000003F)) := by
  exact ⟨_, rfl, State.hostWrite_fixed s p _ _ _ _ _ (State.fabricUp_runs s hr) (State.mapped_runs s _ hr (Or.inr (by decide))) (by decide) (by cases p <;> rfl)
      rfl rfl (by decide) (by decide) (by decide) rfl⟩

theorem exec_injUnlock_near (p : Port) (v : Word) (s : State) (hr : s.runs = true) (hs : s.unit.sealed = false) :
    ∃ t, exec (.injUnlock p v) s = .next t ∧ t.near (s.injKeyWrite (v &&& word 0xFFFF)) := by
  exact ⟨_, rfl, State.hostWrite_fixed s p _ _ _ _ _ (State.fabricUp_runs s hr) (State.mapped_runs s _ hr (Or.inl hs)) (by decide) (by cases p <;> rfl)
      rfl rfl (by decide) (by decide) (by decide) rfl⟩

theorem exec_injLock_near (p : Port) (v : Word) (s : State) (hr : s.runs = true) (hs : s.unit.sealed = false) :
    ∃ t, exec (.injLock p v) s = .next t ∧ t.near (s.injWrite Reg.INJ_LOCK (withBit v 31 &&& word 0x80000000)) := by
  exact ⟨_, rfl, State.hostWrite_fixed s p _ _ _ _ _ (State.fabricUp_runs s hr) (State.mapped_runs s _ hr (Or.inl hs)) (by decide) (by cases p <;> rfl)
      rfl rfl (by decide) (by decide) (by decide) rfl⟩

theorem exec_linkInjection_near (p : Port) (v : Word) (s : State) (hr : s.runs = true) (hs : s.unit.sealed = false) :
    ∃ t, exec (.linkInjection p v) s = .next t ∧ t.near (s.injWrite Reg.INJ_LCTL (withBit v 31 &&& word 0x80FFFFFF)) := by
  exact ⟨_, rfl, State.hostWrite_fixed s p _ _ _ _ _ (State.fabricUp_runs s hr) (State.mapped_runs s _ hr (Or.inl hs)) (by decide) (by cases p <;> rfl)
      rfl rfl (by decide) (by decide) (by decide) rfl⟩

theorem exec_eccInjectionArm_near (p : Port) (v : Word) (s : State) (hr : s.runs = true) (hs : s.unit.sealed = false) :
    ∃ t, exec (.eccInjectionArm p v) s = .next t ∧ t.near (s.injWrite Reg.INJ_ECTL (withBit v 31 &&& word 0x8F80FFFF)) := by
  exact ⟨_, rfl, State.hostWrite_fixed s p _ _ _ _ _ (State.fabricUp_runs s hr) (State.mapped_runs s _ hr (Or.inl hs)) (by decide) (by cases p <;> rfl)
      rfl rfl (by decide) (by decide) (by decide) rfl⟩

theorem exec_laneInjectionArm_near (p : Port) (v : Word) (s : State) (hr : s.runs = true) (hs : s.unit.sealed = false) :
    ∃ t, exec (.laneInjectionArm p v) s = .next t ∧ t.near (s.injWrite Reg.INJ_LANE (withBit v 31 &&& word 0x800000FF)) := by
  exact ⟨_, rfl, State.hostWrite_fixed s p _ _ _ _ _ (State.fabricUp_runs s hr) (State.mapped_runs s _ hr (Or.inl hs)) (by decide) (by cases p <;> rfl)
      rfl rfl (by decide) (by decide) (by decide) rfl⟩

theorem exec_faultMessageInjection_near (p : Port) (v : Word) (s : State) (hr : s.runs = true) (hs : s.unit.sealed = false) :
    ∃ t, exec (.faultMessageInjection p v) s = .next t ∧ t.near (s.injWrite Reg.INJ_FMGO (withBit v 31 &&& word 0x80000000)) := by
  exact ⟨_, rfl, State.hostWrite_fixed s p _ _ _ _ _ (State.fabricUp_runs s hr) (State.mapped_runs s _ hr (Or.inl hs)) (by decide) (by cases p <;> rfl)
      rfl rfl (by decide) (by decide) (by decide) rfl⟩

theorem exec_recordSelect_near (p : Port) (v : Word) (s : State) (hr : s.runs = true) :
    ∃ t, exec (.recordSelect p v) s = .next t ∧ t.near (s.recSelect p (v &&& word 0xFFFFFFFF)) := by
  cases p
  all_goals
    exact ⟨_, rfl, State.hostWrite_fixed s _ _ _ _ _ _ (State.fabricUp_runs s hr) (State.mapped_runs s _ hr (Or.inr (by decide))) (by decide) rfl
      rfl rfl (by decide) (by decide) (by decide) rfl⟩

theorem exec_saddlebagClear_near (p : Port) (v : Word) (s : State) (hr : s.runs = true) :
    ∃ t, exec (.saddlebagClear p v) s = .next t ∧ t.near (s.sbgAck p (withBit v 31 &&& word 0xC0000000)) := by
  cases p
  all_goals
    exact ⟨_, rfl, State.hostWrite_fixed s _ _ _ _ _ _ (State.fabricUp_runs s hr) (State.mapped_runs s _ hr (Or.inr (by decide))) (by decide) rfl
      rfl rfl (by decide) (by decide) (by decide) rfl⟩

theorem exec_saddlebagClearAll_near (p : Port) (v : Word) (s : State) (hr : s.runs = true) :
    ∃ t, exec (.saddlebagClearAll p v) s = .next t ∧ t.near (s.sbgAck p (withBit v 30 &&& word 0xC0000000)) := by
  cases p
  all_goals
    exact ⟨_, rfl, State.hostWrite_fixed s _ _ _ _ _ _ (State.fabricUp_runs s hr) (State.mapped_runs s _ hr (Or.inr (by decide))) (by decide) rfl
      rfl rfl (by decide) (by decide) (by decide) rfl⟩

theorem exec_updOpen_near (p : Port) (v : Word) (s : State) (hr : s.runs = true) (hf : p = .fw ∨ s.fwOk = true) :
    ∃ t, exec (.updOpen p v) s = .next t ∧ t.near (s.updCtl p (withOp v 1 &&& word 0xF0000013)) := by
  cases p
  all_goals
    exact ⟨_, rfl, State.hostWrite_fixed s _ _ _ _ _ _ (State.fabricUp_runs s hr) (State.mapped_runs s _ hr (Or.inr (by decide))) (by decide) (by rcases hf with h | h <;> simp [State.fwBusy, h])
      rfl rfl (by decide) (by decide) (by decide) rfl⟩

theorem exec_updActivate_near (p : Port) (v : Word) (s : State) (hr : s.runs = true) (hf : p = .fw ∨ s.fwOk = true) :
    ∃ t, exec (.updActivate p v) s = .next t ∧ t.near (s.updCtl p (withOp v 2 &&& word 0xF0000013)) := by
  cases p
  all_goals
    exact ⟨_, rfl, State.hostWrite_fixed s _ _ _ _ _ _ (State.fabricUp_runs s hr) (State.mapped_runs s _ hr (Or.inr (by decide))) (by decide) (by rcases hf with h | h <;> simp [State.fwBusy, h])
      rfl rfl (by decide) (by decide) (by decide) rfl⟩

theorem exec_updAbort_near (p : Port) (v : Word) (s : State) (hr : s.runs = true) (hf : p = .fw ∨ s.fwOk = true) :
    ∃ t, exec (.updAbort p v) s = .next t ∧ t.near (s.updCtl p (withOp v 3 &&& word 0xF0000013)) := by
  cases p
  all_goals
    exact ⟨_, rfl, State.hostWrite_fixed s _ _ _ _ _ _ (State.fabricUp_runs s hr) (State.mapped_runs s _ hr (Or.inr (by decide))) (by decide) (by rcases hf with h | h <;> simp [State.fwBusy, h])
      rfl rfl (by decide) (by decide) (by decide) rfl⟩

theorem exec_updFallback_near (p : Port) (v : Word) (s : State) (hr : s.runs = true) (hf : p = .fw ∨ s.fwOk = true) :
    ∃ t, exec (.updFallback p v) s = .next t ∧ t.near (s.updCtl p (withOp v 4 &&& word 0xF0000013)) := by
  cases p
  all_goals
    exact ⟨_, rfl, State.hostWrite_fixed s _ _ _ _ _ _ (State.fabricUp_runs s hr) (State.mapped_runs s _ hr (Or.inr (by decide))) (by decide) (by rcases hf with h | h <;> simp [State.fwBusy, h])
      rfl rfl (by decide) (by decide) (by decide) rfl⟩

theorem exec_updData_near (p : Port) (v : Word) (s : State) (hr : s.runs = true) (hf : p = .fw ∨ s.fwOk = true) :
    ∃ t, exec (.updData p v) s = .next t ∧ t.near (s.updData p (v &&& word 0xFFFFFFFF)) := by
  cases p
  all_goals
    exact ⟨_, rfl, State.hostWrite_fixed s _ _ _ _ _ _ (State.fabricUp_runs s hr) (State.mapped_runs s _ hr (Or.inr (by decide))) (by decide) (by rcases hf with h | h <;> simp [State.fwBusy, h])
      rfl rfl (by decide) (by decide) (by decide) rfl⟩

theorem exec_saddlebagSelect_near (p : Port) (v : Word) (s : State) (hr : s.runs = true) :
    ∃ t, exec (.saddlebagSelect p v) s = .next t ∧ t.near ((s.storeByType true (bankKey p Reg.SBG_SEL) (v &&& word 0x7F)).wrN (bankKey p Reg.SBG_ROFS) 0) := by
  cases p
  all_goals
    exact ⟨_, rfl, State.hostWrite_fixed s _ _ _ _ _ _ (State.fabricUp_runs s hr) (State.mapped_runs s _ hr (Or.inr (by decide))) (by decide) rfl
      rfl rfl (by decide) (by decide) (by decide) rfl⟩

theorem exec_windowSelect_near (p : Port) (v : Word) (s : State) (hr : s.runs = true) :
    ∃ t, exec (.windowSelect p v) s = .next t ∧ t.near ((s.storeByType true (bankKey p Reg.WIN_SEL) (v &&& word 0xF)).wrN (bankKey p Reg.WIN_BASE) 0) := by
  cases p
  all_goals
    exact ⟨_, rfl, State.hostWrite_fixed s _ _ _ _ _ _ (State.fabricUp_runs s hr) (State.mapped_runs s _ hr (Or.inr (by decide))) (by decide) rfl
      rfl rfl (by decide) (by decide) (by decide) rfl⟩

theorem row_hregWrite (n : Fin 16) : rowOfKey (Reg.LNK_HREG_CTL n) = some ⟨0x1070, 0x100, 16, 4, 1, 0, 0x40000000, 0, 0, 0x80000000, 0xF0000000, none, []⟩ := by
  revert n; decide

theorem exec_hregWrite_near (p : Port) (n : Fin 16) (v : Word) (s : State) (hr : s.runs = true) (hn : s.actsNow = true) :
    ∃ t, exec (.hregWrite p n v) s = .next t ∧ t.near (s.writePair (Reg.LNK_HREG_CTL n) (setField (withBit v 31) 30 30 0 &&& word 0xF0000000)) := by
  exact ⟨_, rfl, State.hostWrite_now s p _ (Reg.LNK_HREG_CTL n) _ ⟨0x1070, 0x100, 16, 4, 1, 0, 0x40000000, 0, 0, 0x80000000, 0xF0000000, none, []⟩ (State.fabricUp_runs s hr)
      (State.mapped_runs s _ hr (Or.inr (by revert n; decide))) (by revert n; decide) (by fin_cases n <;> cases p <;> rfl)
      (by fin_cases n <;> rfl) (row_hregWrite n) (by revert n; decide) hn⟩

theorem row_hregRead (n : Fin 16) : rowOfKey (Reg.LNK_HREG_CTL n) = some ⟨0x1070, 0x100, 16, 4, 1, 0, 0x40000000, 0, 0, 0x80000000, 0xF0000000, none, []⟩ := by
  revert n; decide

theorem exec_hregRead_near (p : Port) (n : Fin 16) (v : Word) (s : State) (hr : s.runs = true) (hn : s.actsNow = true) :
    ∃ t, exec (.hregRead p n v) s = .next t ∧ t.near (s.writePair (Reg.LNK_HREG_CTL n) (withBit (withBit v 31) 30 &&& word 0xF0000000)) := by
  exact ⟨_, rfl, State.hostWrite_now s p _ (Reg.LNK_HREG_CTL n) _ ⟨0x1070, 0x100, 16, 4, 1, 0, 0x40000000, 0, 0, 0x80000000, 0xF0000000, none, []⟩ (State.fabricUp_runs s hr)
      (State.mapped_runs s _ hr (Or.inr (by revert n; decide))) (by revert n; decide) (by fin_cases n <;> cases p <;> rfl)
      (by fin_cases n <;> rfl) (row_hregRead n) (by revert n; decide) hn⟩

theorem fol_stageStartCommand (k : Fin 32) : followsPair (0x1204C + 0x80 * (k : Nat)) = true := by
  revert k; decide

theorem row_stageStartCommand (k : Fin 32) : rowOfKey (0x1204C + 0x80 * (k : Nat)) = some ⟨0x1204C, 0x80, 32, 4, 1, 0, 0, 0, 0, 3, 3, none, []⟩ := by
  revert k; decide

theorem State.keyOf_stageStartCommand (s : State) (p : Port) (i : Nat) (hi : s.bankN p Reg.SW_IDX = i) (hl : i < 32) :
    s.keyOf p stCtlAddr = some (0x1204C + 0x80 * i) := by
  subst hi
  show some _ = some _; congr 1; simp [stCtlAddr]; omega

theorem exec_stageStartCommand_near (p : Port) (v : Word) (k : Fin 32) (s : State) (hr : s.runs = true) (hn : s.actsNow = true) (hi : s.bankN p Reg.SW_IDX = k) :
    ∃ t, exec (.stageStartCommand p v) s = .next t ∧ t.near (s.writePair (0x1204C + 0x80 * (k : Nat)) (setField v 1 0 1 &&& word 3)) := by
  exact ⟨_, rfl, State.hostWrite_now s p _ (0x1204C + 0x80 * (k : Nat)) _ ⟨0x1204C, 0x80, 32, 4, 1, 0, 0, 0, 0, 3, 3, none, []⟩ (State.fabricUp_runs s hr) (State.mapped_runs s _ hr (Or.inr (by decide)))
      (by decide) (by cases p <;> rfl) (State.keyOf_stageStartCommand s p _ hi k.isLt) (row_stageStartCommand k) (fol_stageStartCommand k) hn⟩

theorem fol_stageStopCommand (k : Fin 32) : followsPair (0x1204C + 0x80 * (k : Nat)) = true := by
  revert k; decide

theorem row_stageStopCommand (k : Fin 32) : rowOfKey (0x1204C + 0x80 * (k : Nat)) = some ⟨0x1204C, 0x80, 32, 4, 1, 0, 0, 0, 0, 3, 3, none, []⟩ := by
  revert k; decide

theorem State.keyOf_stageStopCommand (s : State) (p : Port) (i : Nat) (hi : s.bankN p Reg.SW_IDX = i) (hl : i < 32) :
    s.keyOf p stCtlAddr = some (0x1204C + 0x80 * i) := by
  subst hi
  show some _ = some _; congr 1; simp [stCtlAddr]; omega

theorem exec_stageStopCommand_near (p : Port) (v : Word) (k : Fin 32) (s : State) (hr : s.runs = true) (hn : s.actsNow = true) (hi : s.bankN p Reg.SW_IDX = k) :
    ∃ t, exec (.stageStopCommand p v) s = .next t ∧ t.near (s.writePair (0x1204C + 0x80 * (k : Nat)) (setField v 1 0 2 &&& word 3)) := by
  exact ⟨_, rfl, State.hostWrite_now s p _ (0x1204C + 0x80 * (k : Nat)) _ ⟨0x1204C, 0x80, 32, 4, 1, 0, 0, 0, 0, 3, 3, none, []⟩ (State.fabricUp_runs s hr) (State.mapped_runs s _ hr (Or.inr (by decide)))
      (by decide) (by cases p <;> rfl) (State.keyOf_stageStopCommand s p _ hi k.isLt) (row_stageStopCommand k) (fol_stageStopCommand k) hn⟩

theorem fol_stageClearCommand (k : Fin 32) : followsPair (0x1204C + 0x80 * (k : Nat)) = true := by
  revert k; decide

theorem row_stageClearCommand (k : Fin 32) : rowOfKey (0x1204C + 0x80 * (k : Nat)) = some ⟨0x1204C, 0x80, 32, 4, 1, 0, 0, 0, 0, 3, 3, none, []⟩ := by
  revert k; decide

theorem State.keyOf_stageClearCommand (s : State) (p : Port) (i : Nat) (hi : s.bankN p Reg.SW_IDX = i) (hl : i < 32) :
    s.keyOf p stCtlAddr = some (0x1204C + 0x80 * i) := by
  subst hi
  show some _ = some _; congr 1; simp [stCtlAddr]; omega

theorem exec_stageClearCommand_near (p : Port) (v : Word) (k : Fin 32) (s : State) (hr : s.runs = true) (hn : s.actsNow = true) (hi : s.bankN p Reg.SW_IDX = k) :
    ∃ t, exec (.stageClearCommand p v) s = .next t ∧ t.near (s.writePair (0x1204C + 0x80 * (k : Nat)) (setField v 1 0 3 &&& word 3)) := by
  exact ⟨_, rfl, State.hostWrite_now s p _ (0x1204C + 0x80 * (k : Nat)) _ ⟨0x1204C, 0x80, 32, 4, 1, 0, 0, 0, 0, 3, 3, none, []⟩ (State.fabricUp_runs s hr) (State.mapped_runs s _ hr (Or.inr (by decide)))
      (by decide) (by cases p <;> rfl) (State.keyOf_stageClearCommand s p _ hi k.isLt) (row_stageClearCommand k) (fol_stageClearCommand k) hn⟩

theorem fol_phaseRevive (i : Fin 128) : followsPair (0x1100C + 0x20 * (i : Nat)) = true := by
  revert i; decide

theorem row_phaseRevive (i : Fin 128) : rowOfKey (0x1100C + 0x20 * (i : Nat)) = some ⟨0x1100C, 0x20, 128, 4, 1, 0, 0, 0, 0, 0x80000000, 0x80000000, none, []⟩ := by
  revert i; decide

theorem State.keyOf_phaseRevive (s : State) (p : Port) (i : Nat) (hi : s.bankN p Reg.PW_IDX = i) (hl : i < 128) :
    s.keyOf p ptCmdAddr = some (0x1100C + 0x20 * i) := by
  subst hi
  show some _ = some _; congr 1; simp [ptCmdAddr]; omega

theorem exec_phaseRevive_near (p : Port) (v : Word) (i : Fin 128) (s : State) (hr : s.runs = true) (hn : s.actsNow = true) (hi : s.bankN p Reg.PW_IDX = i) :
    ∃ t, exec (.phaseRevive p v) s = .next t ∧ t.near (s.writePair (0x1100C + 0x20 * (i : Nat)) (withBit v 31 &&& word 0x80000000)) := by
  exact ⟨_, rfl, State.hostWrite_now s p _ (0x1100C + 0x20 * (i : Nat)) _ ⟨0x1100C, 0x20, 128, 4, 1, 0, 0, 0, 0, 0x80000000, 0x80000000, none, []⟩ (State.fabricUp_runs s hr) (State.mapped_runs s _ hr (Or.inr (by decide)))
      (by decide) (by cases p <;> rfl) (State.keyOf_phaseRevive s p _ hi i.isLt) (row_phaseRevive i) (fol_phaseRevive i) hn⟩

theorem fol_decisionSubmit (f : Fin 7) : followsPair (0x20010 + 0x200 * (f : Nat)) = true := by
  revert f; decide

theorem row_decisionSubmit (f : Fin 7) : rowOfKey (0x20010 + 0x200 * (f : Nat)) = some ⟨0x20010, 0x200, 8, 4, 1, 0, 0, 0, 0, 0x8000FFFF, 0x8000FFFF, none, []⟩ := by
  revert f; decide

theorem State.keyOf_decisionSubmit (s : State) (p : Port) (i : Nat) (hi : s.bankN p Reg.MB_SEL = i) (hl : i < 7) :
    s.keyOf p mbDctlAddr = some (0x20010 + 0x200 * i) := by
  subst hi
  show (if s.bankN p Reg.MB_SEL < 7 then some _ else none) = some _; rw [if_pos hl]; congr 1; simp [mbDctlAddr]; omega

theorem exec_decisionSubmit_near (p : Port) (v : Word) (f : Fin 7) (s : State) (hr : s.runs = true) (hn : s.actsNow = true) (hi : s.bankN p Reg.MB_SEL = f) :
    ∃ t, exec (.decisionSubmit p v) s = .next t ∧ t.near (s.writePair (0x20010 + 0x200 * (f : Nat)) (withBit v 31 &&& word 0x8000FFFF)) := by
  exact ⟨_, rfl, State.hostWrite_now s p _ (0x20010 + 0x200 * (f : Nat)) _ ⟨0x20010, 0x200, 8, 4, 1, 0, 0, 0, 0, 0x8000FFFF, 0x8000FFFF, none, []⟩ (State.fabricUp_runs s hr) (State.mapped_runs s _ hr (Or.inr (by decide)))
      (by decide) (by cases p <;> rfl) (State.keyOf_decisionSubmit s p _ hi f.isLt) (row_decisionSubmit f) (fol_decisionSubmit f) hn⟩

theorem exec_killRelease_near (p : Port) (v : Word) (s : State) (hr : s.runs = true) (hn : s.actsNow = true) :
    ∃ t, exec (.killRelease p v) s = .next t ∧ t.near (s.writePair (Reg.PHS_CMD) (withBit v 31 &&& word 0x80000000)) := by
  exact ⟨_, rfl, State.hostWrite_now s p _ (Reg.PHS_CMD) _ ⟨0x2C08, 0x10000000, 1, 4, 1, 0, 0, 0, 0, 0x80000000, 0x80000000, none, []⟩ (State.fabricUp_runs s hr) (State.mapped_runs s _ hr (Or.inr (by decide)))
      (by decide) (by cases p <;> rfl) rfl rfl (by decide) hn⟩

theorem exec_stringReconnect_near (p : Port) (v : Word) (s : State) (hr : s.runs = true) (hn : s.actsNow = true) :
    ∃ t, exec (.stringReconnect p v) s = .next t ∧ t.near (s.writePair (Reg.SHF_CMD) (v &&& word 0xFF00)) := by
  exact ⟨_, rfl, State.hostWrite_now s p _ (Reg.SHF_CMD) _ ⟨0x3018, 0x10000000, 1, 4, 1, 0, 0, 0, 0, 0xFF00, 0xFF00, none, []⟩ (State.fabricUp_runs s hr) (State.mapped_runs s _ hr (Or.inr (by decide)))
      (by decide) (by cases p <;> rfl) rfl rfl (by decide) hn⟩

theorem row_feederSnap (f : Fin 64) : rowOfKey (Reg.FDR_CTL f) = some ⟨0x3418, 0x20, 64, 4, 1, 0, 0x30000001, 0, 0, 0x80000000, 0xFFFF0003, none, []⟩ := by
  revert f; decide

theorem exec_feederSnap_near (p : Port) (f : Fin 64) (v : Word) (s : State) (hr : s.runs = true) (hn : s.actsNow = true) :
    ∃ t, exec (.feederSnap p f v) s = .next t ∧ t.near (s.writePair (Reg.FDR_CTL f) (withBit v 31 &&& word 0xFFFF0003)) := by
  exact ⟨_, rfl, State.hostWrite_now s p _ (Reg.FDR_CTL f) _ ⟨0x3418, 0x20, 64, 4, 1, 0, 0x30000001, 0, 0, 0x80000000, 0xFFFF0003, none, []⟩ (State.fabricUp_runs s hr)
      (State.mapped_runs s _ hr (Or.inr (by revert f; decide))) (by revert f; decide) (by fin_cases f <;> cases p <;> rfl)
      (by fin_cases f <;> rfl) (row_feederSnap f) (by revert f; decide) hn⟩

theorem exec_headTestWrite_near (p : Port) (v : Word) (s : State) (hr : s.runs = true) (hn : s.actsNow = true) :
    ∃ t, exec (.headTestWrite p v) s = .next t ∧ t.near (s.writePair (Reg.ADC_HTEST) (v &&& word 0xFFF)) := by
  exact ⟨_, rfl, State.hostWrite_now s p _ (Reg.ADC_HTEST) _ ⟨0x3C54, 0x10000000, 1, 4, 1, 0, 0xFFF, 0, 0, 0, 0xFFF, none, []⟩ (State.fabricUp_runs s hr) (State.mapped_runs s _ hr (Or.inr (by decide)))
      (by decide) (by cases p <;> rfl) rfl rfl (by decide) hn⟩

theorem exec_meterSnap_near (p : Port) (v : Word) (s : State) (hr : s.runs = true) (hn : s.actsNow = true) :
    ∃ t, exec (.meterSnap p v) s = .next t ∧ t.near (s.writePair (Reg.MET_CTL) (withBit v 31 &&& word 0xE0000000)) := by
  exact ⟨_, rfl, State.hostWrite_now s p _ (Reg.MET_CTL) _ ⟨0x3E04, 0x10000000, 1, 4, 1, 0, 0x60000000, 0, 0, 0x80000000, 0xE0000000, none, []⟩ (State.fabricUp_runs s hr) (State.mapped_runs s _ hr (Or.inr (by decide)))
      (by decide) (by cases p <;> rfl) rfl rfl (by decide) hn⟩

theorem exec_eventClear_near (p : Port) (n : Fin 8) (v : Word) (s : State) (hr : s.runs = true) :
    ∃ t, exec (.eventClear p n v) s = .next t ∧ t.near (s.storeByType true (Reg.EVT_PEND n) (v &&& word 0xFFFFFFFF)) := by
  fin_cases n
  all_goals
    exact ⟨_, rfl, State.hostWrite_stored s p _ _ v ⟨0x320, 0x10000000, 1, 4, 8, 0, 0, 0xFFFFFFFF, 0, 0, 0xFFFFFFFF, none, []⟩ (State.fabricUp_runs s hr)
      (State.mapped_runs s _ hr (Or.inr (by decide))) (by decide) (by cases p <;> rfl) rfl rfl (by decide) (by cases p <;> rfl) rfl⟩

end Sys2Proof.Machine
end

