-- ==== Sys2Proof/Laws/PerInstr.lean ====
section
/-!
SUPPORT. The family of statements about every command as syntax: a well-formed command that carries an address names a whole register, and
the context window's write names a word of the window.
-/

namespace Sys2Proof.Laws.Ports

/-- The address that a command carries. -/
def address : Instr → Option Addr
  | .wideValueRead _ a => some a
  | .registerWrite _ a _ => some a
  | .shdWrite _ a _ => some a
  | .contextWindowWrite _ a _ => some a
  | _ => none

/-- A well-formed command accesses a multiple of 4 below the end of the byte space (R404). -/
def Statement (i : Instr) : Prop :=
  i.wellFormed = true → ∀ a, address i = some a → a.toNat % 4 = 0 ∧ a.toNat < 0x10000

theorem of_none {i : Instr} (h : address i = none) : Statement i := by
  intro _ a ha
  rw [h] at ha
  cases ha

theorem of_aligned {i : Instr} {a : Addr} (h : address i = some a) (hw : i.wellFormed = true → aligned a = true) : Statement i := by
  intro hi b hb
  rw [h] at hb
  cases hb
  exact ⟨by simpa [aligned] using hw hi, a.isLt⟩

theorem powerOn (env : StartEnv) : Statement (.powerOn env) := of_none rfl
theorem powerFail : Statement (.powerFail) := of_none rfl
theorem resetAssert : Statement (.resetAssert) := of_none rfl
theorem resetRelease (env : StartEnv) : Statement (.resetRelease env) := of_none rfl
theorem softwareReset (p : Port) (v : Word) (env : StartEnv) : Statement (.softwareReset p v env) := of_none rfl
theorem wideValueRead (p : Port) (a : Addr) : Statement (.wideValueRead p a) := of_aligned rfl (fun h => h)
theorem registerWrite (p : Port) (a : Addr) (v : Word) : Statement (.registerWrite p a v) := of_aligned rfl (fun h => h)
theorem shdWrite (p : Port) (a : Addr) (v : Word) : Statement (.shdWrite p a v) := of_aligned rfl (fun h => h)
theorem gaitFrameTurnover : Statement (.gaitFrameTurnover) := of_none rfl
theorem clkLoss (ref pll : Bool) : Statement (.clkLoss ref pll) := of_none rfl
theorem clkFreq (count : Word) : Statement (.clkFreq count) := of_none rfl
theorem wallStep (p : Port) (v : Word) : Statement (.wallStep p v) := of_none rfl
theorem wallSlew (p : Port) (v : Word) : Statement (.wallSlew p v) := of_none rfl
theorem captureEdge (src : Fin 64) (rising : Bool) : Statement (.captureEdge src rising) := of_none rfl
theorem captureRead (p : Port) (n : Fin 8) : Statement (.captureRead p n) := of_none rfl
theorem softstartEntry : Statement (.softstartEntry) := of_none rfl
theorem softstartTimeout : Statement (.softstartTimeout) := of_none rfl
theorem commitRequest (p : Port) (v : Word) : Statement (.commitRequest p v) := of_none rfl
theorem commitDiscard (p : Port) (v : Word) : Statement (.commitDiscard p v) := of_none rfl
theorem commitChecksDone : Statement (.commitChecksDone) := of_none rfl
theorem paddockStart (p : Port) (v : Word) : Statement (.paddockStart p v) := of_none rfl
theorem paddockData (p : Port) (v : Word) : Statement (.paddockData p v) := of_none rfl
theorem paddockPageDone : Statement (.paddockPageDone) := of_none rfl
theorem paddockDownloadDone (cr : Crypto) (tack : TackImage) : Statement (.paddockDownloadDone cr tack) := of_none rfl
theorem paddockSessionExpiry : Statement (.paddockSessionExpiry) := of_none rfl
theorem fwWatchdogExpiry : Statement (.fwWatchdogExpiry) := of_none rfl
theorem liveRestartComplete (lr : LiveStart) : Statement (.liveRestartComplete lr) := of_none rfl
theorem liveRestartTimeout : Statement (.liveRestartTimeout) := of_none rfl
theorem downstreamFrame : Statement (.downstreamFrame) := of_none rfl
theorem upstreamFrame (n : Fin 16) (line : BitVec 160) (rtt : Nat) : Statement (.upstreamFrame n line rtt) := of_none rfl
theorem upstreamFrameMissing (n : Fin 16) : Statement (.upstreamFrameMissing n) := of_none rfl
theorem linkDown (n : Fin 16) (cause : DownCause) : Statement (.linkDown n cause) := of_none rfl
theorem linkTrainingStep (n : Fin 17) (r : TrainReply) : Statement (.linkTrainingStep n r) := of_none rfl
theorem controlRequestResend (n : Fin 16) : Statement (.controlRequestResend n) := of_none rfl
theorem retrainWaitExpiry (n : Fin 17) : Statement (.retrainWaitExpiry n) := of_none rfl
theorem linkRetrain (p : Port) (n : Fin 16) (v : Word) : Statement (.linkRetrain p n v) := of_none rfl
theorem linkEnable (p : Port) (n : Fin 16) (v : Word) : Statement (.linkEnable p n v) := of_none rfl
theorem hregWrite (p : Port) (n : Fin 16) (v : Word) : Statement (.hregWrite p n v) := of_none rfl
theorem hregRead (p : Port) (n : Fin 16) (v : Word) : Statement (.hregRead p n v) := of_none rfl
theorem loopRun (e : Fin 256) (checkerDiffers : Bool) : Statement (.loopRun e checkerDiffers) := of_none rfl
theorem backgroundLaneTest (failing : BitVec 16) : Statement (.backgroundLaneTest failing) := of_none rfl
theorem laneTestStart (p : Port) (v : Word) : Statement (.laneTestStart p v) := of_none rfl
theorem lstestDone (failing : List (Fin 16 × Fin 768)) : Statement (.lstestDone failing) := of_none rfl
theorem leCheck (p : Port) (v : Word) : Statement (.leCheck p v) := of_none rfl
theorem leCheckDone : Statement (.leCheckDone) := of_none rfl
theorem schedEntryAccess (p : Port) (v : Option Word) : Statement (.schedEntryAccess p v) := of_none rfl
theorem contextWindowWrite (p : Port) (a : Addr) (v : Word) : Statement (.contextWindowWrite p a v) := of_aligned rfl (fun h => by
    simp only [Instr.wellFormed, Bool.and_eq_true] at h
    exact h.1.1)
theorem setstate (p : Port) (v : Word) : Statement (.setstate p v) := of_none rfl
theorem handover (p : Port) (v : Word) : Statement (.handover p v) := of_none rfl
theorem traceArm (p : Port) (u : Fin 8) (v : Word) : Statement (.traceArm p u v) := of_none rfl
theorem traceStop (p : Port) (u : Fin 8) (v : Word) : Statement (.traceStop p u v) := of_none rfl
theorem traceForce (p : Port) (u : Fin 8) (v : Word) : Statement (.traceForce p u v) := of_none rfl
theorem traceTick (u : Fin 8) : Statement (.traceTick u) := of_none rfl
theorem traceDone (u : Fin 8) : Statement (.traceDone u) := of_none rfl
theorem traceDataRead (p : Port) (u : Fin 8) : Statement (.traceDataRead p u) := of_none rfl
theorem localEdge (ch : Fin 16) : Statement (.localEdge ch) := of_none rfl
theorem stagePeriodStart (k : Fin 32) : Statement (.stagePeriodStart k) := of_none rfl
theorem pwmKill : Statement (.pwmKill) := of_none rfl
theorem killRelease (p : Port) (v : Word) : Statement (.killRelease p v) := of_none rfl
theorem stageStartCommand (p : Port) (v : Word) : Statement (.stageStartCommand p v) := of_none rfl
theorem stageStopCommand (p : Port) (v : Word) : Statement (.stageStopCommand p v) := of_none rfl
theorem stageClearCommand (p : Port) (v : Word) : Statement (.stageClearCommand p v) := of_none rfl
theorem phaseRevive (p : Port) (v : Word) : Statement (.phaseRevive p v) := of_none rfl
theorem spurEnd (k : Fin 32) : Statement (.spurEnd k) := of_none rfl
theorem spurLockoutEnd (k : Fin 32) : Statement (.spurLockoutEnd k) := of_none rfl
theorem phaseFailed (ph : Fin 128) : Statement (.phaseFailed ph) := of_none rfl
theorem moduleInputFailed (m : Fin 16) : Statement (.moduleInputFailed m) := of_none rfl
theorem moduleInputRestored (m : Fin 16) : Statement (.moduleInputRestored m) := of_none rfl
theorem busDroop : Statement (.busDroop) := of_none rfl
theorem moduleShed : Statement (.moduleShed) := of_none rfl
theorem holdupRecover : Statement (.holdupRecover) := of_none rfl
theorem holdupEnd : Statement (.holdupEnd) := of_none rfl
theorem chargeResume : Statement (.chargeResume) := of_none rfl
theorem cvToFloat (b : Fin 8) : Statement (.cvToFloat b) := of_none rfl
theorem battEod (b : Fin 8) : Statement (.battEod b) := of_none rfl
theorem stringReconnect (p : Port) (v : Word) : Statement (.stringReconnect p v) := of_none rfl
theorem stringPrechargeDone (b : Fin 8) : Statement (.stringPrechargeDone b) := of_none rfl
theorem phaseDrop (k : Fin 32) : Statement (.phaseDrop k) := of_none rfl
theorem pgTimeout (k : Fin 32) : Statement (.pgTimeout k) := of_none rfl
theorem pgAssert (g : Fin 4) : Statement (.pgAssert g) := of_none rfl
theorem decisionSubmit (p : Port) (v : Word) : Statement (.decisionSubmit p v) := of_none rfl
theorem feederFastTrip (f : Fin 64) : Statement (.feederFastTrip f) := of_none rfl
theorem feederInrushTimeout (f : Fin 64) : Statement (.feederInrushTimeout f) := of_none rfl
theorem feederToggleDone (f : Fin 64) : Statement (.feederToggleDone f) := of_none rfl
theorem feederSnap (p : Port) (f : Fin 64) (v : Word) : Statement (.feederSnap p f v) := of_none rfl
theorem precisionResult (c : Fin 17) (raw : BitVec 24) : Statement (.precisionResult c raw) := of_none rfl
theorem sarResult (core : Fin 2) (raw : BitVec 16) : Statement (.sarResult core raw) := of_none rfl
theorem sequenceTrigger (core : Fin 2) : Statement (.sequenceTrigger core) := of_none rfl
theorem seqgo (p : Port) (v : Word) : Statement (.seqgo p v) := of_none rfl
theorem rotationStepStart : Statement (.rotationStepStart) := of_none rfl
theorem rotationCheckDone (k : Fin 16) : Statement (.rotationCheckDone k) := of_none rfl
theorem testDacWrite (p : Port) (v : Word) : Statement (.testDacWrite p v) := of_none rfl
theorem headTestWrite (p : Port) (v : Word) : Statement (.headTestWrite p v) := of_none rfl
theorem calZero (p : Port) (v : Word) : Statement (.calZero p v) := of_none rfl
theorem calFs (p : Port) (v : Word) : Statement (.calFs p v) := of_none rfl
theorem calAbort (p : Port) (v : Word) : Statement (.calAbort p v) := of_none rfl
theorem calAverageDone : Statement (.calAverageDone) := of_none rfl
theorem calStaleTimeout : Statement (.calStaleTimeout) := of_none rfl
theorem calRecordWriteDone (ok : Bool) : Statement (.calRecordWriteDone ok) := of_none rfl
theorem meterSnap (p : Port) (v : Word) : Statement (.meterSnap p v) := of_none rfl
theorem wmonEntry (m : Fin 128) : Statement (.wmonEntry m) := of_none rfl
theorem comparatorTick (codes : List Nat) (failing : BitVec 16) : Statement (.comparatorTick codes failing) := of_none rfl
theorem cmpFailed (k : Fin 16) : Statement (.cmpFailed k) := of_none rfl
theorem hkSlotDecision (slot : Fin 24) (value : Int) : Statement (.hkSlotDecision slot value) := of_none rfl
theorem hkSensor : Statement (.hkSensor) := of_none rfl
theorem hkCheck (slot : Fin 24) : Statement (.hkCheck slot) := of_none rfl
theorem thermWarn : Statement (.thermWarn) := of_none rfl
theorem thermWarnClear : Statement (.thermWarnClear) := of_none rfl
theorem thermShut : Statement (.thermShut) := of_none rfl
theorem thermRate (long : Bool) : Statement (.thermRate long) := of_none rfl
theorem hkSupply (slot : Fin 24) : Statement (.hkSupply slot) := of_none rfl
theorem tandemFrame (lane : Fin 2) (line : Option (BitVec 160)) (arrival : Int) (content : TandemContent) :
    Statement (.tandemFrame lane line arrival content) := of_none rfl
theorem tandemDown : Statement (.tandemDown) := of_none rfl
theorem takeover : Statement (.takeover) := of_none rfl
theorem claimInChange (level : Bool) : Statement (.claimInChange level) := of_none rfl
theorem claimInWaitExpiry : Statement (.claimInWaitExpiry) := of_none rfl
theorem dualActive : Statement (.dualActive) := of_none rfl
theorem syncPhaseDone : Statement (.syncPhaseDone) := of_none rfl
theorem syncFail : Statement (.syncFail) := of_none rfl
theorem syncGroupCopy (g : SyncGroup) : Statement (.syncGroupCopy g) := of_none rfl
theorem resolutionTimeout : Statement (.resolutionTimeout) := of_none rfl
theorem remountNow (p : Port) (v : Word) : Statement (.remountNow p v) := of_none rfl
theorem remountTimer : Statement (.remountTimer) := of_none rfl
theorem remountRetry : Statement (.remountRetry) := of_none rfl
theorem swapOrder : Statement (.swapOrder) := of_none rfl
theorem roleSwap : Statement (.roleSwap) := of_none rfl
theorem remountDwellEnd : Statement (.remountDwellEnd) := of_none rfl
theorem revertTakeback : Statement (.revertTakeback) := of_none rfl
theorem healthRemount : Statement (.healthRemount) := of_none rfl
theorem pairOos (p : Port) (v : Word) : Statement (.pairOos p v) := of_none rfl
theorem tokenRequest (p : Port) (v : Word) : Statement (.tokenRequest p v) := of_none rfl
theorem tokenRelease (p : Port) (v : Word) : Statement (.tokenRelease p v) := of_none rfl
theorem maintExpired : Statement (.maintExpired) := of_none rfl
theorem faultClassify : Statement (.faultClassify) := of_none rfl
theorem faultFollowUp (scope : Fin 8) (inst : Fin 128) : Statement (.faultFollowUp scope inst) := of_none rfl
theorem retryCountClear (scope : Fin 8) (inst : Fin 128) : Statement (.retryCountClear scope inst) := of_none rfl
theorem faultRelease (p : Port) (v : Word) : Statement (.faultRelease p v) := of_none rfl
theorem faultMinTimeEnd : Statement (.faultMinTimeEnd) := of_none rfl
theorem scrubRead (region : Fin 16) (addr : Nat) : Statement (.scrubRead region addr) := of_none rfl
theorem eventRaise (src : Fin 256) : Statement (.eventRaise src) := of_none rfl
theorem eventClear (p : Port) (n : Fin 8) (v : Word) : Statement (.eventClear p n v) := of_none rfl
theorem injUnlock (p : Port) (v : Word) : Statement (.injUnlock p v) := of_none rfl
theorem injLock (p : Port) (v : Word) : Statement (.injLock p v) := of_none rfl
theorem injIdleLock : Statement (.injIdleLock) := of_none rfl
theorem linkInjection (p : Port) (v : Word) : Statement (.linkInjection p v) := of_none rfl
theorem eccInjectionArm (p : Port) (v : Word) : Statement (.eccInjectionArm p v) := of_none rfl
theorem laneInjectionArm (p : Port) (v : Word) : Statement (.laneInjectionArm p v) := of_none rfl
theorem faultMessageInjection (p : Port) (v : Word) : Statement (.faultMessageInjection p v) := of_none rfl
theorem recordOffer : Statement (.recordOffer) := of_none rfl
theorem recordStore : Statement (.recordStore) := of_none rfl
theorem logMirror : Statement (.logMirror) := of_none rfl
theorem recordSelect (p : Port) (v : Word) : Statement (.recordSelect p v) := of_none rfl
theorem recordSelectDone (p : Port) : Statement (.recordSelectDone p) := of_none rfl
theorem recordDataRead (p : Port) : Statement (.recordDataRead p) := of_none rfl
theorem saddlebagWrite : Statement (.saddlebagWrite) := of_none rfl
theorem saddlebagSelect (p : Port) (v : Word) : Statement (.saddlebagSelect p v) := of_none rfl
theorem saddlebagDataRead (p : Port) : Statement (.saddlebagDataRead p) := of_none rfl
theorem saddlebagClear (p : Port) (v : Word) : Statement (.saddlebagClear p v) := of_none rfl
theorem saddlebagClearAll (p : Port) (v : Word) : Statement (.saddlebagClearAll p v) := of_none rfl
theorem smbusStart : Statement (.smbusStart) := of_none rfl
theorem smbusAddress (b : Byte) : Statement (.smbusAddress b) := of_none rfl
theorem smbusWriteByte (b : Byte) : Statement (.smbusWriteByte b) := of_none rfl
theorem smbusReadByte (lost ack : Bool) : Statement (.smbusReadByte lost ack) := of_none rfl
theorem smbusStop : Statement (.smbusStop) := of_none rfl
theorem smbusTimeout : Statement (.smbusTimeout) := of_none rfl
theorem alertResponse (lost : Bool) : Statement (.alertResponse lost) := of_none rfl
theorem spiFrameStart (mode3 : Bool) : Statement (.spiFrameStart mode3) := of_none rfl
theorem spiWrite (crc : Bool) (a : Addr) (bytes : List Byte) : Statement (.spiWrite crc a bytes) := of_none rfl
theorem spiRead (crc : Bool) (a : Addr) (n : Nat) : Statement (.spiRead crc a n) := of_none rfl
theorem spiWriteFixed (crc : Bool) (a : Addr) (bytes : List Byte) : Statement (.spiWriteFixed crc a bytes) := of_none rfl
theorem spiReadFixed (crc : Bool) (a : Addr) (n : Nat) : Statement (.spiReadFixed crc a n) := of_none rfl
theorem spiStatus (crc : Bool) (n : Nat) : Statement (.spiStatus crc n) := of_none rfl
theorem spiRefused (op : Byte) : Statement (.spiRefused op) := of_none rfl
theorem spiFrameEnd : Statement (.spiFrameEnd) := of_none rfl
theorem updOpen (p : Port) (v : Word) : Statement (.updOpen p v) := of_none rfl
theorem updData (p : Port) (v : Word) : Statement (.updData p v) := of_none rfl
theorem updHeaderCheck (p : Port) (signerOk : Bool) : Statement (.updHeaderCheck p signerOk) := of_none rfl
theorem updPageProgrammed : Statement (.updPageProgrammed) := of_none rfl
theorem updVerifyDone (cr : Crypto) (tack : TackImage) : Statement (.updVerifyDone cr tack) := of_none rfl
theorem updActivate (p : Port) (v : Word) : Statement (.updActivate p v) := of_none rfl
theorem updAbort (p : Port) (v : Word) : Statement (.updAbort p v) := of_none rfl
theorem updFallback (p : Port) (v : Word) : Statement (.updFallback p v) := of_none rfl
theorem updExpired : Statement (.updExpired) := of_none rfl
theorem fwConfirmed : Statement (.fwConfirmed) := of_none rfl
theorem fwConfirmTimeout : Statement (.fwConfirmTimeout) := of_none rfl
theorem overlayWrite : Statement (.overlayWrite) := of_none rfl
theorem windowSelect (p : Port) (v : Word) : Statement (.windowSelect p v) := of_none rfl
theorem windowDataRead (p : Port) : Statement (.windowDataRead p) := of_none rfl
theorem pwmKillDeassert : Statement (.pwmKillDeassert) := of_none rfl
theorem tandemWaitExpiry : Statement (.tandemWaitExpiry) := of_none rfl
theorem fltLifeconFlush : Statement (.fltLifeconFlush) := of_none rfl

end Sys2Proof.Laws.Ports
end

