-- ==== Sys2Proof/Laws/Rows.lean ====
section
/-!
SUPPORT. What every row of the register tables is like: the bits of its access types lie in its fields and do not meet, and a counter
register has no field of another type.
-/

namespace Sys2Proof.Machine

/-- A row's access types are disjoint parts of its fields, and a counter's row has only its counters. -/
def RegRow.ok (r : RegRow) : Bool :=
  decide (r.known < 2 ^ 32) && r.rw &&& r.known == r.rw && r.w1c &&& r.known == r.w1c && r.shd &&& r.known == r.shd &&
    r.rw &&& r.w1c == 0 && r.rw &&& r.shd == 0 && r.w1c &&& r.shd == 0 &&
    (r.ctr.isEmpty || (r.rw == 0 && r.w1c == 0 && r.shd == 0))

theorem sysRows_ok : sysRows.all RegRow.ok = true := by decide
theorem timRows_ok : timRows.all RegRow.ok = true := by decide
theorem bootRows_ok : bootRows.all RegRow.ok = true := by decide
theorem evtRows_ok : evtRows.all RegRow.ok = true := by decide
theorem fltRows_ok : fltRows.all RegRow.ok = true := by decide
theorem evrRows_ok : evrRows.all RegRow.ok = true := by decide
theorem sbgRows_ok : sbgRows.all RegRow.ok = true := by decide
theorem hstRows_ok : hstRows.all RegRow.ok = true := by decide
theorem updRows_ok : updRows.all RegRow.ok = true := by decide
theorem pairRows_ok : pairRows.all RegRow.ok = true := by decide
theorem hkRows_ok : hkRows.all RegRow.ok = true := by decide
theorem injRows_ok : injRows.all RegRow.ok = true := by decide
theorem lnkRows_ok : lnkRows.all RegRow.ok = true := by decide
theorem leRows_ok : leRows.all RegRow.ok = true := by decide
theorem cwRows_ok : cwRows.all RegRow.ok = true := by decide
theorem trcRows_ok : trcRows.all RegRow.ok = true := by decide
theorem edgRows_ok : edgRows.all RegRow.ok = true := by decide
theorem phsRows_ok : phsRows.all RegRow.ok = true := by decide
theorem shfRows_ok : shfRows.all RegRow.ok = true := by decide
theorem fdrRows_ok : fdrRows.all RegRow.ok = true := by decide
theorem adcRows_ok : adcRows.all RegRow.ok = true := by decide
theorem metRows_ok : metRows.all RegRow.ok = true := by decide
theorem cmpRows_ok : cmpRows.all RegRow.ok = true := by decide
theorem winRows_ok : winRows.all RegRow.ok = true := by decide
theorem winSchedRows_ok : winSchedRows.all RegRow.ok = true := by decide
theorem winPhaseRows_ok : winPhaseRows.all RegRow.ok = true := by decide
theorem winStageRows_ok : winStageRows.all RegRow.ok = true := by decide
theorem winCalRows_ok : winCalRows.all RegRow.ok = true := by decide
theorem winMetRows_ok : winMetRows.all RegRow.ok = true := by decide
theorem winWmRows_ok : winWmRows.all RegRow.ok = true := by decide
theorem winHkRows_ok : winHkRows.all RegRow.ok = true := by decide
theorem winFltRows_ok : winFltRows.all RegRow.ok = true := by decide
theorem winEvtRows_ok : winEvtRows.all RegRow.ok = true := by decide
theorem winMbRows_ok : winMbRows.all RegRow.ok = true := by decide

theorem RegRow.all_ite {c : Prop} [Decidable c] {l m : List RegRow} (hl : l.all RegRow.ok = true) (hm : m.all RegRow.ok = true) :
    (if c then l else m).all RegRow.ok = true := by
  by_cases h : c
  · rw [if_pos h]; exact hl
  · rw [if_neg h]; exact hm

theorem rowsAt_ok (a : Nat) : (rowsAt a).all RegRow.ok = true := by
  unfold rowsAt
  refine RegRow.all_ite (RegRow.all_ite ?_ (RegRow.all_ite lnkRows_ok (RegRow.all_ite leRows_ok (RegRow.all_ite cwRows_ok (RegRow.all_ite trcRows_ok
    (RegRow.all_ite edgRows_ok (RegRow.all_ite phsRows_ok (RegRow.all_ite shfRows_ok (RegRow.all_ite fdrRows_ok (RegRow.all_ite adcRows_ok (RegRow.all_ite metRows_ok
    (RegRow.all_ite cmpRows_ok (RegRow.all_ite rfl (RegRow.all_ite winRows_ok rfl))))))))))))))
    (RegRow.all_ite winSchedRows_ok (RegRow.all_ite winPhaseRows_ok (RegRow.all_ite winStageRows_ok (RegRow.all_ite winCalRows_ok (RegRow.all_ite winMetRows_ok
    (RegRow.all_ite winWmRows_ok (RegRow.all_ite winHkRows_ok (RegRow.all_ite winFltRows_ok (RegRow.all_ite winEvtRows_ok (RegRow.all_ite winMbRows_ok rfl))))))))))
  split
  · exact sysRows_ok
  · exact timRows_ok
  · exact bootRows_ok
  · exact evtRows_ok
  · exact fltRows_ok
  · exact evrRows_ok
  · exact sbgRows_ok
  · exact hstRows_ok
  · exact updRows_ok
  · exact pairRows_ok
  · exact hkRows_ok
  · exact injRows_ok
  · rfl

/-- The row of any register key is well formed. -/
theorem rowOfKey_ok {k : Nat} {r : RegRow} (h : rowOfKey k = some r) : r.ok = true := by
  have key : ∀ a, rowOf a = some r → r.ok = true := fun a ha =>
    List.all_eq_true.1 (rowsAt_ok a) r (List.mem_of_find?_eq_some ha)
  unfold rowOfKey at h
  split at h
  · exact key _ h
  · exact key _ h

end Sys2Proof.Machine
end

