-- ==== Sys2Proof/Tests/Slice0.lean ====
section
/-!
SUPPORT. The model's own tests: ill-formed commands that the checks refuse, the absence of an encoding, a witness of the hypotheses of
each clause of each statement, and a few results that the spec states for concrete values.
-/

namespace Sys2Proof.Tests

open Sys2Proof Sys2Proof.Machine

set_option Elab.async false
set_option maxRecDepth 20000

/-! ## Well-formed commands -/

theorem test_wf_wide_value_read : (Instr.wideValueRead .smbus 0x110).wellFormed = true ∧ (Instr.wideValueRead .smbus 0x112).wellFormed = false := by
  decide

theorem test_wf_register_write : (Instr.registerWrite .spi 0xFFFC 0).wellFormed = true ∧ (Instr.registerWrite .spi 0xFFFD 0).wellFormed = false := by
  decide

theorem test_wf_shd_write : (Instr.shdWrite .fw 0x3000 0).wellFormed = true ∧ (Instr.shdWrite .fw 0x3001 0).wellFormed = false := by
  decide

theorem test_wf_context_window_write :
    (Instr.contextWindowWrite .smbus 0x2500 0).wellFormed = true ∧ (Instr.contextWindowWrite .smbus 0x25FC 0).wellFormed = true ∧
      (Instr.contextWindowWrite .smbus 0x24FC 0).wellFormed = false ∧ (Instr.contextWindowWrite .smbus 0x2600 0).wellFormed = false ∧
      (Instr.contextWindowWrite .smbus 0x2502 0).wellFormed = false := by
  decide

theorem test_wf_comparator_tick :
    (Instr.comparatorTick (List.replicate 16 1023) 0).wellFormed = true ∧
      (Instr.comparatorTick (List.replicate 15 0) 0).wellFormed = false ∧
      (Instr.comparatorTick (1024 :: List.replicate 15 0) 0).wellFormed = false := by
  decide

theorem test_wf_scrub_read : (Instr.scrubRead 0 16).wellFormed = true ∧ (Instr.scrubRead 0 8).wellFormed = false := by
  decide

theorem test_wf_training_step :
    (Instr.linkTrainingStep 3 .shown).wellFormed = true ∧ (Instr.linkTrainingStep 16 (.partner 0 0)).wellFormed = true ∧
      (Instr.linkTrainingStep 3 (.partner 0 0)).wellFormed = false ∧ (Instr.linkTrainingStep 3 (.locked true)).wellFormed = false := by
  decide

theorem test_wf_clk_loss : (Instr.clkLoss true false).wellFormed = true ∧ (Instr.clkLoss false false).wellFormed = false := by
  decide

theorem test_wf_spi_refused :
    (Instr.spiRefused 0x07).wellFormed = true ∧ (Instr.spiRefused 0x02).wellFormed = false ∧ (Instr.spiRefused 0x85).wellFormed = false := by
  decide

/-! ## No encoding: the table gives no row any bits -/

theorem test_no_word_spells_a_command (nbits w : Nat) : decodeTableWord nbits w = none := rfl

theorem test_no_word_is_placed (s : State) (nbits w : Nat) : s.withFetchWord nbits w = s := rfl

/-! ## States for the witnesses -/

/-- The state that a command leaves. -/
def after (c : Instr) (s : State) : State := match exec c s with
  | .next t => t
  | _ => s

def inLife (l : Life) (s : State) : State := { s with unit := { s.unit with life := l } }

/-- A unit that runs alone, with the registers at their reset values and its transmitters sending. -/
def run : State := { State.reset with unit := { State.reset.unit with life := .running, txIdle := false } }

/-- The same with firmware serving. -/
def fw : State := run.setBit Reg.HST_STAT 31 true

def pad : State := inLife .paddock State.reset

/-- A unit of a pair in a role. -/
def inPair (role : Nat) (s : State) : State := { s with unit := { s.unit with pairMode := true } }.put Reg.PAIR_STAT 29 28 role

/-- With both lanes of the tandem link up. -/
def tandem (s : State) : State := s.put Reg.PAIR_TDSTAT 4 0 0x1D

/-- With an enabled rein link in a training state. -/
def link (n st : Nat) (s : State) : State := (s.setBit (Reg.LNK_CTL n) 0 true).put (Reg.LNK_STAT n) 2 0 st

def sync (n : Nat) (s : State) : State := s.put Reg.PAIR_SYNC 2 0 n

/-! ## Witnesses: the queue, power, reset and start -/

theorem witness_IdleStepIsOneCycle :
    (State.reset.pending = [] ∧ State.reset.time.inFrame = true) ∧ ({ State.reset.time with mono := 38 } : TimeSt).inFrame = true ∧
      ({ State.reset.time with mono := 39 } : TimeSt).inFrame = false := by
  decide +kernel

def waiting : State := { State.reset with pending := [.claimInChange true, .pwmKill] }

theorem witness_HeldUnitStaysSafe :
    waiting.heldSafe = true ∧ step waiting = .next (after (.claimInChange true) { waiting with pending := [.pwmKill] }) := by
  constructor
  · decide +kernel
  · rfl

def startEnv (testmode paddockN : Bool) : StartEnv :=
  { unitId := false, pairEn := false, paddockN := paddockN, testmode := testmode, addr0 := ⟨true, false⟩, addr1 := ⟨true, false⟩,
    addr2 := ⟨true, false⟩, overlay := .none, train := [] }

theorem witness_PowerAndStart :
    (run.unit.life ≠ .off ∧ (inLife .off run).unit.life = .off) ∧
    ((startEnv true true).testmode = true ∧ State.reset.unit.sealed = false ∧ (inLife .inReset State.reset).unit.life = .inReset) ∧
    ((startEnv false false).testmode = false ∧ (startEnv false false).paddockN = false) ∧
    ((startEnv false true).testmode = false ∧ (startEnv false true).paddockN = true ∧ State.reset.flash.desc = none) := by
  decide +kernel

theorem witness_SoftwareResetIsAPulse :
    (run.runs = true ∧ run.unit.thermLatch = false) ∧ (((0xD0A1 : Word) &&& 0xFFFF0000 = 0) ∧ fieldOf 0xD0A1 15 0 = 0xD0A1) ∧
      fieldOf 0xD0A0 15 0 ≠ 0xD0A1 := by
  decide +kernel

/-! ## Witnesses: registers, time and captures -/

/-- A unit with every group locked by a commit that waits. -/
def locked : State := ({ run with commit := some ⟨0x1FFFF, false, 1⟩ }).put Reg.SYS_COMMITSTAT 31 30 2

/-- TIM_CAP0_CTL has writable and write-1-to-clear bits, TIM_CDCFLUSH a counter. -/
theorem witness_RegisterWritesByAccessType_plain : ∀ k ∈ [Reg.TIM_CAP_CTL 0, Reg.TIM_CDCFLUSH],
    run.runs = true ∧ run.mapped k = true ∧ plainAddr k = true ∧ run.fwBusy .smbus k = false ∧ run.keyOf .smbus k = some k ∧
      (rowOfKey k).any (fun r => r.shd == 0) = true ∧ followsPair k = false ∧
      (run.writeFixed .smbus k (0x80000003 &&& word (((rowOfKey k).map (·.known)).getD 0))).isNone = true ∧ sideReg k = false := by
  decide +kernel

theorem witness_RegisterWritesByAccessType_counter :
    ((rowOfKey (Reg.TIM_CAP_CTL 0)).map (·.ctr)) = some [] ∧ ((rowOfKey Reg.TIM_CDCFLUSH).map (·.ctr)) = some [(15, 0)] := by
  decide +kernel

theorem witness_RegisterWritesByAccessType_shadow : ∀ s ∈ [run, locked],
    s.runs = true ∧ s.mapped 0x108 = true ∧ plainAddr 0x108 = true ∧ s.fwBusy .spi 0x108 = false ∧ s.keyOf .spi 0x108 = some 0x108 ∧
      (rowOfKey 0x108).any (fun r => r.shd != 0 && r.rw == 0 && r.w1c == 0 && r.ctr == []) = true ∧ followsPair 0x108 = false ∧
      (s.writeFixed .spi 0x108 (2 &&& word (((rowOfKey 0x108).map (·.known)).getD 0))).isNone = true ∧
      s.shdLocked 0x108 = s.commit.isSome := by
  decide +kernel

theorem witness_ReservedBitsAreIgnored :
    run.runs = true ∧ (0x160 : Addr).toNat % 4 = 0 ∧ run.fwBusy .spi 0x160 = false ∧ 0xFFFFFFFF &&& ~~~run.knownBits .spi 0x160 ≠ 0 := by
  decide +kernel

theorem witness_MonoReadIsOneInstant :
    run.runs = true ∧ (after (.wideValueRead .smbus 0x110) run).latch = (after (.wideValueRead .smbus 0x110) run).latch := by
  decide +kernel

theorem witness_WallStepAndSlewCapture :
    (run.runs = true ∧ run.notActiveInPair = false) ∧ ((inPair 2 run).runs = true ∧ (inPair 2 run).notActiveInPair = false) ∧
      ((inPair 1 run).runs = true ∧ (inPair 1 run).notActiveInPair = true) := by
  decide +kernel

def capturing (v : Nat) : State := run.wrN (Reg.TIM_CAP_CTL 7) v

theorem witness_CaptureHoldsItsFirstEdge : ∀ v ∈ [0x79, 0x40000079],
    (capturing v).runs = true ∧ (capturing v).fld (Reg.TIM_CAP_CTL 7) 5 0 = 57 ∧
      edgeTaken ((capturing v).fld (Reg.TIM_CAP_CTL 7) 7 6) true = true ∧
      (capturing v).bit (Reg.TIM_CAP_CTL 7) 30 = decide (v = 0x40000079) ∧
      ((capturing v).evq.filter (fun q => q.ev.src = 2)).length ≤ 8 := by
  decide +kernel

/-! ## Witnesses: the gait frame -/

def gridAt (lf : Nat) : State := { run with time := { run.time with grid := true, lf := lf } }

def halted : State := run.setBit Reg.FLT_STAT 31 true

def stepping (ns : Nat) : State := { halted with time := { halted.time with step := some (ns, 5) } }

theorem witness_TurnoverAndLinkFrame :
    (run.runs = true ∨ run.inPaddock = true) ∧ (pad.runs = true ∨ pad.inPaddock = true) ∧
    (∀ lf ∈ [1, gaitLinkFrames run.gaitLen],
      (gridAt lf).time.grid = true ∧ 1 ≤ (gridAt lf).time.lf ∧ (gridAt lf).time.lf ≤ gaitLinkFrames (gridAt lf).gaitLen) ∧
    State.reset.held = true ∧
    (∀ ns ∈ [0, 999999999, 1000000000], (stepping ns).runs = true ∧ (stepping ns).halted = true ∧ (stepping ns).time.step = some (ns, 5)) ∧
    ((gridAt 0).time.lf = 0 ∧ (gridAt 0).boundaryDue = false ∧ 0 < (gridAt 1).time.lf ∧ (gridAt 1).boundaryDue = false ∧
      (gridAt (gaitLinkFrames run.gaitLen)).boundaryDue = true) ∧
    (State.reset.unit.life = .inReset ∧ State.reset.runs = false ∧ State.reset.inPaddock = false ∧
      (inLife .testHold run).unit.life = .testHold) := by
  decide +kernel

/-! ## Witnesses: soft start, commits, paddock and live restart -/

def softRun (l : List StartEntry) (i frames : Nat) (s : State) : State :=
  { ((s.setBit Reg.SYS_STAT 2 true).put Reg.PAIR_STAT 29 28 2).put Reg.SYS_SSTAT 7 0 i with
    boot := { s.boot with soft := l, softFrames := frames } }

def softList : List StartEntry := [⟨.stage 5, .frames 0, 5⟩, ⟨.feeder 5, .frames 2, 5⟩, ⟨.string 1, .frames 0, 5⟩]

def stringOff : State := (run.setBit (Reg.BS_CH 1) 31 true).onStr 1 (fun x => { x with disc := true })

theorem witness_SoftStartEntryAndTimeout :
    (∀ i ∈ [0, 1, 2], (softRun softList i 2 stringOff).softOn = true ∧ (softRun softList i 2 stringOff).fld Reg.SYS_SSTAT 7 0 = i ∧
      (softRun softList i 2 stringOff).boot.soft[i]?.any (fun e => (softRun softList i 2 stringOff).softMet e) = true) ∧
    ((softRun softList 2 2 stringOff).strEn 1 = true ∧ ((softRun softList 2 2 stringOff).str 1).disc = true ∧ softList.length ≤ 2 + 1) ∧
    ((softRun softList 1 1 run).softOn = true ∧ (softRun softList 1 1 run).softMet ⟨.feeder 5, .frames 2, 5⟩ = false) := by
  decide +kernel


def committing (groups : Nat) (discard : Bool) (s : State) : State :=
  ({ s with commit := some ⟨groups, discard, 0⟩ }).put Reg.SYS_COMMITSTAT 31 30 1

/-- A shadow feeder 0 that is valid on a link 0 whose context does not exist, so that the checks fail. -/
def wrongFeeder : State := run.shdPut (Reg.FDR_CFG 0) 0x83000000 0xFFFFFFFF

theorem witness_CommitRequestsAndChecks_requests :
    (run.runs = true ∧ run.notActiveInPair = false ∧ run.bit Reg.SYS_STAT 1 = false ∧ run.commit.isNone = true ∧ fieldOf 0x10000 16 0 ≠ 0) ∧
    (locked.runs = true ∧ locked.notActiveInPair = false ∧ locked.bit Reg.SYS_STAT 1 = false ∧ locked.commit.isSome = true ∧
      fieldOf 1 16 0 ≠ 0) ∧
    ((inPair 1 run).runs = true ∧ (inPair 1 run).notActiveInPair = true) ∧
    (((pad.setBit Reg.SYS_STAT 1 true).inPaddock = true) ∧ (pad.setBit Reg.SYS_STAT 1 true).bit Reg.SYS_STAT 1 = true) := by
  decide +kernel

theorem witness_CommitRequestsAndChecks_discard :
    (committing 0x1FFFF true run).awake = true ∧ (committing 0x1FFFF true run).commit.any (·.discard) = true ∧
      (committing 0x1FFFF true run).fld Reg.SYS_COMMITSTAT 31 30 = 1 ∧ Memory.wf (committing 0x1FFFF true run) := by
  decide +kernel

theorem witness_CommitRequestsAndChecks_passes :
    (committing 4 false run).awake = true ∧ (committing 4 false run).commit.any (fun c => !c.discard) = true ∧
      (committing 4 false run).fld Reg.SYS_COMMITSTAT 31 30 = 1 ∧ ((committing 4 false run).commitChecks 4).1.isNone = true := by
  decide +kernel

theorem witness_CommitRequestsAndChecks_fails :
    (committing 0x1FFFF false wrongFeeder).awake = true ∧ (committing 0x1FFFF false wrongFeeder).fld Reg.SYS_COMMITSTAT 31 30 = 1 ∧
      ((committing 0x1FFFF false wrongFeeder).commitChecks 0x1FFFF).1.isSome = true := by
  decide +kernel

/-- A header that the checks of an image of a kind accept. -/
def header (kind : Nat) : List Byte :=
  leBytes 4 0x4E424D4C ++ leBytes 2 1 ++ [BitVec.ofNat 8 kind, 0] ++ leBytes 4 0x948000A1 ++ leBytes 4 0x01020304 ++ [3, 0, 0, 0] ++
    leBytes 4 0 ++ leBytes 4 0 ++ leBytes 4 1000 ++ List.replicate 224 0

def goodCrypto : Crypto := ⟨true, true, true, false⟩

def owned (p : Port) (n len : Nat) (h : List Byte) (ctl : Nat) : State :=
  let s : State := (pad.wrN Reg.BOOT_PDK_LEN len).wrN Reg.BOOT_PDK_CTL ctl
  { s with boot := { s.boot with pdkOwner := some p, pdkBytes := n, pdkHdr := h } }

theorem witness_PaddockDownload_session :
    (pad.inPaddock = true ∧ pad.boot.pdkOwner = none ∧ fieldOf 1 1 0 < 2 ∧ 2 ≤ fieldOf 2 1 0) ∧
    ((owned .spi 0 1368 [] 0).inPaddock = true ∧ (owned .spi 0 1368 [] 0).boot.pdkOwner = some .spi ∧ Port.spi ≠ Port.smbus) ∧
    ((owned .spi 1364 1368 [] 0).pdkFull = false ∧ (owned .spi 1364 1368 [] 0).boot.pdkBytes < (owned .spi 1364 1368 [] 0).rdN Reg.BOOT_PDK_LEN) ∧
    ((owned .spi 256 1368 [] 0).boot.pdkOwner.isSome = true ∧ (owned .spi 256 1368 [] 0).pdkFull = true) := by
  decide +kernel

/-- What the download's end finds: accepted for firmware slot 0 and tack slot 1; refused for the wrong kind. -/
theorem witness_PaddockDownload_done : ∀ x ∈ [(0, 0, 1), (5, 1, 1), (0, 1, 2)],
    let s := owned .spi 1368 1368 (header x.2.1) x.1
    let kind := s.fld Reg.BOOT_PDK_CTL 1 0
    s.inPaddock = true ∧ s.boot.pdkOwner.isSome = true ∧ 0 < s.boot.pdkBytes ∧ s.rdN Reg.BOOT_PDK_LEN ≤ s.boot.pdkBytes ∧ kind < 2 ∧
      s.checkContainer s.boot.pdkHdr kind
        (decide (hdrTotal s.boot.pdkHdr = 1368) && decide (1368 ≤ slotSize (2 * kind + s.fld Reg.BOOT_PDK_CTL 2 2))) goodCrypto
        (if s.rdN Reg.BOOT_FWVER = 0 then 2 ^ 32 else s.rdN Reg.BOOT_FWVER) = x.2.2 := by
  decide +kernel

def restarting (s : State) : State := { s with boot := { s.boot with lrStart := some 5 } }

def withFw (desc : Nat) : State :=
  (run.writeDesc (fun d => { d with fwsel := desc })).setSlot 1
    { header := header 0, body := 1368 - 256, crypto := goodCrypto, tack := Slot.erased.tack, mark := 2 }

theorem witness_FirmwareStallAndRestart :
    (run.live = true ∧ run.boot.lrStart = none) ∧
    (∀ x ∈ [(1, true), (129, true), (0, false)],
      let s := restarting (withFw x.1)
      s.live = true ∧ s.boot.lrStart.isSome = true ∧
        decide (s.checkSlot (s.fwChoice ((s.flash.desc).getD (Desc.default, 0)).1) 0 = 1) = x.2) ∧
    ((restarting (withFw 1)).trial = false ∧ (restarting (withFw 129)).trial = true) := by
  decide +kernel

/-! ## Witnesses: rein links -/

def upFrame (status fc : Nat) : BitVec 160 :=
  let f := (BitVec.ofNat 160 1 <<< 158) ||| (BitVec.ofNat 160 status <<< 148) ||| (BitVec.ofNat 160 fc <<< 140) |||
    (BitVec.ofNat 160 0xABCDEF <<< 60)
  f ||| BitVec.setWidth 160 (frameCrc f)

def upLine (status fc : Nat) : BitVec 160 := (scramble (upFrame status fc) (run.link 15).dsc).1

def receiving : State := (link 15 5 run).onLink 15 (fun l => { l with rx := some 7 })

theorem witness_UpstreamFrames :
    (receiving.runs = true ∧ receiving.linkUp 15 = true ∧ receiving.linj.isNone = true ∧ receiving.flt.inq.length < 256) ∧
    (upFrameGood (descramble 5 (receiving.link 15).dsc).1 = false ∧ receiving.upExpect 15 = 0) ∧
    ((((64 : Nat) : Int) - receiving.upExpect 15).natAbs ≤ 64 ∧ 64 < (((65 : Nat) : Int) - receiving.upExpect 15).natAbs) ∧
    (∀ x ∈ [0, 1],
      let f := (descramble (upLine x 7) (receiving.link 15).dsc).1
      upFrameGood f = true ∧ ffield f 2 3 = 0 ∧ upFcnt f = receiving.rxExpected 15 ∧ (upStatus f).testBit 0 = (x == 1)) ∧
    ((link 15 2 run).runs = true ∧ (link 15 2 run).linj.isNone = true ∧ (link 15 2 run).linkUp 15 = false ∧ (link 15 2 run).linkState 15 ≠ 0) := by
  decide +kernel

def counted (bad dn lost : Nat) : State := (link 0 5 run).onLink 0 (fun l => { l with badRun := bad, dnRun := dn, lost := lost })

theorem witness_LinkStates_down :
    (∀ x ∈ [(DownCause.badFrames, counted 3 0 0), (.dnErr, counted 0 3 0), (.alignment, counted 0 0 16)],
      x.2.linkUp 0 = true ∧ (x.2.link 0).downFor x.1 = true ∧ ((counted 2 2 15).link 0).downFor x.1 = false) ∧
    (run.linkUp 0 = false ∧ (link 0 2 run).runs = true ∧ (link 0 2 run).bit (Reg.LNK_CTL 0) 0 = true ∧ bitOf 1 0 = true) := by
  decide +kernel

/-- Link `n` in a training state, its receiver aligned and FCNT adopted. -/
def training (n st tfail : Nat) (req : List CtrlReq) : State :=
  (link n st run).onLink n (fun l => { l with aln := 64, rx := some 3, tfail := tfail, req := req })

theorem witness_LinkStates_training : ∀ n ∈ [0, 15], ∀ st ∈ [1, 2, 3, 4],
    let s := training n st 0 []
    (n < 16 ∧ s.runs = true ∧ s.linkTx n = true ∧ s.linkState n = st ∧ (s.link n).tfail = 0 ∧ (s.link n).req = [] ∧
      (s.link n).aln = 64 ∧ (s.link n).rx.isSome = true) ∧
    (s.fld (Reg.LNK_HID n) 7 0 = s.linkKind n ∧ (s.wrN (Reg.LNK_HID n) 1).fld (Reg.LNK_HID n) 7 0 ≠ s.linkKind n) ∧
    ((training n st 0 [⟨1, 0⟩]).link n).req ≠ [] ∧ ((training n st 5 []).link n).tfail ≠ 0 := by
  decide +kernel

/-- A link whose first request has waited `k` link frames. -/
def asking (st k resends : Nat) : State := (training 15 st 0 [⟨1, 0⟩]).onLink 15 (fun l => { l with wait := some k, resends := resends })

theorem witness_LinkEnableAndWait :
    (∀ st ∈ [2, 4], ∀ k ∈ [31, 32], ∀ r ∈ [2, 3], (asking st k r).runs = true ∧ (asking st k r).linkTx 15 = true ∧
      ((asking st k r).link 15).req ≠ [] ∧ ((asking st k r).link 15).wait = some k ∧ ((asking st k r).link 15).resends = r ∧
      (asking st k r).linkState 15 = st) ∧
    ((link 15 6 run).live = true ∧ (link 15 6 run).linkState 15 = 6 ∧ (link 15 6 run).bit (Reg.LNK_CTL 15) 0 = true) ∧
    (run.runs = true ∧ bitOf 1 0 = true ∧ run.bit (Reg.LNK_CTL 15) 0 = false) ∧ bitOf 0 0 = false ∧
    ((link 15 5 run).runs = true ∧ (link 15 5 run).bit (Reg.LNK_CTL 15) 0 = true) := by
  decide +kernel

theorem witness_HeadRegisterAccess : ∀ up ∈ [true, false],
    let s := if up = true then link 0 5 run else run
    (s.runs = true ∧ s.actsNow = true ∧ s.bit (Reg.LNK_HREG_CTL 0) 29 = false ∧ s.linkUp 0 = up) ∧
      ((inPair 1 s).runs = true ∧ (inPair 1 s).notActiveInPair = true) := by
  decide +kernel

/-! ## Witnesses: clocks, the loop engine, the context window and the trace units -/

theorem witness_ClockFaults :
    (run.runs = true ∧ (true || false) = true) ∧ (pad.inPaddock = true ∧ (false || true) = true) ∧
    ((pad.setBit Reg.TIM_CLKCFG 7 true).inPaddock = true ∧ (pad.setBit Reg.TIM_CLKCFG 7 true).bit Reg.TIM_CLKCFG 7 = true) ∧
    ((run.setBit Reg.TIM_CLKCFG 7 true).runs = true ∧ (run.setBit Reg.TIM_CLKCFG 7 true).bit Reg.TIM_CLKCFG 7 = true) ∧
    ((3109374 : Word).toNat < 3109375 ∧ 3140625 < (3140626 : Word).toNat) ∧
    (3109375 ≤ (3109375 : Word).toNat ∧ (3140625 : Word).toNat ≤ 3140625) := by
  decide +kernel

/-- Entry 255 of a valid schedule runs context 3. -/
def scheduled (state : Nat) (y0 : Option Int) : State :=
  ((run.wrN (Reg.LE_SENT0 255) 0x80000003).setMem32 (512 * 3) (BitVec.ofNat 32 state)).onCx 3 (fun x => { x with hold := -5, y0 := y0 })

theorem witness_LoopRun : ∀ x ∈ [((1, none) : Nat × Option Int), (3, some 77), (2, none)],
    let s := scheduled x.1 x.2
    s.live = true ∧ s.bit (Reg.LE_SENT0 255) 31 = true ∧
      s.gfcN % 2 ^ s.fld (Reg.LE_SENT0 255) 19 16 = s.fld (Reg.LE_SENT1 255) 27 16 ∧ s.bit Reg.LE_STAT 31 = false ∧
      s.fld (Reg.LE_SENT0 255) 7 0 = 3 ∧ s.cState 3 = x.1 ∧ s.bit Reg.INJ_STAT 28 = false ∧ s.eccBad 0 (512 * 3) (512 * 3 + 512) = false ∧
      bitOf (s.cw 3 8) 9 = false ∧ (s.cx 3).y0 = x.2 := by
  decide +kernel

theorem witness_LaneTests :
    (run.runs = true ∧ run.halted = false ∧ run.bit Reg.LE_STAT 31 = false) ∧
    (run.bit Reg.LE_LSTEST 30 = false ∧ run.tokOk [4, 5] = true) ∧
    ((inPair 2 run).runs = true ∧ (inPair 2 run).bit Reg.LE_LSTEST 30 = false ∧ (inPair 2 run).tokOk [4, 5] = false) ∧
    ((run.setBit Reg.LE_LSTEST 30 true).runs = true ∧ (run.setBit Reg.LE_LSTEST 30 true).bit Reg.LE_LSTEST 30 = true) := by
  decide +kernel

def checking : State := (run.setBit Reg.LE_STAT 17 true)

theorem witness_ScheduleCheckAndEntries :
    (run.runs = true ∧ run.bit Reg.LE_STAT 17 = false) ∧ (checking.runs = true ∧ checking.bit Reg.LE_STAT 17 = true) ∧
    (after (.leCheck .spi 0) run).check.any (fun c => c.err == 0) = true ∧
    (after (.leCheck .spi 0) (run.shdPut (Reg.LE_SENT0 0) 0x800F0003 0xFFFFFFFF)).check.any (fun c => c.err != 0) = true ∧
    (∀ e ∈ [0, 255], (run.wrN (bankKey .spi Reg.LE_SIDX) e).bankN .spi Reg.LE_SIDX = e ∧ run.groupLocked 1 = false) := by
  decide +kernel

def windowAt (s : State) : State := s.wrN (bankKey .spi Reg.CW_CTX) 0x1FF

def fullWindow : State := windowAt { run with cwq := List.replicate 256 (.handOver 3) }

theorem witness_ContextWindow :
    (∀ s ∈ [windowAt run, fullWindow, windowAt (inPair 1 run)], s.runs = true ∧ s.bankN .spi Reg.CW_CTX % 256 = 255) ∧
    (0x25FC : Addr).toNat % 4 = 0 ∧ ((windowAt run).actsNow = true ∧ (windowAt run).cwWaiting < 256) ∧
    (fullWindow.notActiveInPair = false ∧ 256 ≤ fullWindow.cwWaiting) ∧ (windowAt (inPair 1 run)).notActiveInPair = true := by
  decide +kernel

def tracing (st : Nat) (stop : Bool) (post : Nat) : State :=
  (run.put (Reg.TRC_STAT 7) 31 29 st).onTr 7 (fun t => { t with ticks := [⟨[1, -1, 5, 0], 7, 0⟩], next := 16383, stopReq := stop, post := post })

theorem witness_TraceUnits :
    (∀ st ∈ [2, 4], ∀ stop ∈ [true, false], (tracing st stop 0).runs = true ∧ 2 ≤ (tracing st stop 0).trcState 7 ∧
      (tracing st stop 0).trcState 7 ≤ 4 ∧ ((tracing st stop 0).tr 7).stopReq = stop ∧
      ((tracing st stop 0).tr 7).ticks = [⟨[1, -1, 5, 0], 7, 0⟩]) ∧ (run.tr 7).ticks = [] ∧
    (bitOf 0x40000000 31 = false ∧ (tracing 3 false 0).trcState 7 = 3) ∧
    (((tracing 4 false 0).wrN (Reg.TRC_POST 7) 1).trcState 7 = 4 ∧
      (((tracing 4 false 0).wrN (Reg.TRC_POST 7) 1).tr 7).post < ((tracing 4 false 0).wrN (Reg.TRC_POST 7) 1).trcP 7) ∧
    (((tracing 4 false 1).wrN (Reg.TRC_POST 7) 1).trcState 7 = 4 ∧
      ((tracing 4 false 1).wrN (Reg.TRC_POST 7) 1).trcP 7 ≤ (((tracing 4 false 1).wrN (Reg.TRC_POST 7) 1).tr 7).post) := by
  decide +kernel

/-! ## Witnesses: phases, stages and local PWM -/

def pulsing (on : Bool) (edges : List Edge) (latched : Bool) : State :=
  ((run.setBit (Reg.EDG_STAT 15) 4 true).setBit (Reg.EDG_STAT 15) 2 latched).onLc 15 (fun l => { l with edges := edges, on := on })

def stageRun (st : Nat) (s : State) : State := (s.put (Reg.ST_STAT 31) 31 30 st).wrN (Reg.ST_PER 31) 64000

theorem witness_LocalPulses :
    ((pulsing false [⟨0, 1, 500⟩] false).live = true ∧ ((pulsing false [⟨0, 1, 500⟩] false).lc 15).edges = [⟨0, 1, 500⟩] ∧
      (pulsing false [⟨0, 1, 500⟩] false).localLive 15 = true ∧ ((pulsing false [⟨0, 1, 500⟩] false).lc 15).on = false) ∧
    (((pulsing true [⟨0, 2, 900⟩] false).lc 15).edges = [⟨0, 2, 900⟩] ∧ (pulsing true [⟨0, 2, 900⟩] false).localLive 15 = true ∧
      ((pulsing true [⟨0, 2, 900⟩] false).lc 15).on = true) ∧
    (((pulsing true [⟨0, 2, 900⟩] true).lc 15).edges = [⟨0, 2, 900⟩] ∧ (pulsing true [⟨0, 2, 900⟩] true).localLive 15 = false) ∧
    (∀ st ∈ [1, 2], (stageRun st run).live = true ∧ (stageRun st run).stState 31 = st ∧
      ((stageRun st run).sg 31).next ≤ (stageRun st run).now + (stageRun st run).formLead 31 ∧ (stageRun st run).ecc.flips = []) := by
  decide +kernel

def indexed (s : State) : State := (s.wrN (bankKey .spi Reg.SW_IDX) 31).wrN (bankKey .spi Reg.PW_IDX) 127

theorem witness_StageAndPhaseCommands :
    (∀ s ∈ [indexed run, indexed (inPair 1 run)], s.runs = true ∧ s.bankN .spi Reg.SW_IDX = 31 ∧ s.bankN .spi Reg.PW_IDX = 127) ∧
    (indexed run).actsNow = true ∧ (indexed (inPair 1 run)).notActiveInPair = true := by
  decide +kernel

def killed : State := (run.setBit Reg.PHS_STAT 31 true).setBit Reg.PHS_STAT 30 true

/-- Phase 0 of stage 31 stands on a local channel. -/
def localStage : State := (run.wrN (Reg.ST_CFG 31) 0x80000000).wrN (Reg.PT_LOC 0) 0xC001F000

theorem witness_KillAndRelease :
    (localStage.runs = true ∧ localStage.hasLocal 31 = true) ∧
    (run.runs = true ∧ run.actsNow = true ∧ run.bit Reg.PHS_STAT 31 = false) ∧
    (killed.runs = true ∧ killed.bit Reg.PHS_STAT 31 = true ∧ killed.forwards = false) := by
  decide +kernel

def spurring (x : Nat) (ended : Bool) : State :=
  (run.put (Reg.ST_STAT 31) 29 28 x).onSg 31 (fun g => { g with te := some 0, ended := ended, lock := 0 })

/-- An active phase 127 of a stage in RUN whose RANGE counter is at the limit of 1. -/
def failing : State :=
  (((run.wrN (Reg.ST_CFG 31) 0x80000000).put (Reg.ST_STAT 31) 31 30 2).wrN (Reg.PT_LOC 127) 0x8001F001).wrN (Reg.PT_PFCNT 127) 1
    |>.put (Reg.PT_STAT 127) 31 30 1

theorem witness_SpurAndPhaseFailure :
    ((spurring 1 false).live = true ∧ (spurring 1 false).fld (Reg.ST_STAT 31) 29 28 = 1 ∧ ((spurring 1 false).sg 31).te = some 0 ∧
      0 ≤ (spurring 1 false).now) ∧
    ((spurring 2 false).fld (Reg.ST_STAT 31) 29 28 = 2 ∧ ((spurring 2 false).sg 31).ended = false ∧ ((spurring 2 false).sg 31).lock = 0) ∧
    (failing.live = true ∧ failing.phValid 127 = true ∧ failing.phState 127 = 1 ∧ failing.stState (failing.phStage 127) = 2 ∧
      failing.pfCause 127 = some 1) := by
  decide +kernel

/-! ## Witnesses: shelf functions -/

def onShelf (f : ShfSt → ShfSt) (s : State) : State := { s with shf := f s.shf }

def inputs (failed : Bool) : State :=
  onShelf (fun x => { x with inBad := Vector.replicate 16 1, inGood := Vector.replicate 16 1, droopN := 1 })
    ((run.setBit Reg.SH_INFAIL 15 failed).wrN Reg.HU_CFG 0x40200000)

def sheddable : State :=
  onShelf (fun x => { x with shedN := 1 })
    (((run.wrN Reg.SH_SHED 0x50004000).wrN (Reg.SHM_CFG 15) 0x30100).wrN (Reg.ST_CFG 0) 0x8F000000 |>.put (Reg.ST_STAT 0) 31 30 2)

def strings (mode : Nat) (s : State) : State := (List.range 8).foldl (fun s b => (s.wrN (Reg.BS_CH b) 0x80000000).setStrMode b mode) s

def holdup (st : Nat) : State :=
  onShelf (fun x => { x with goodN := 1, normN := 0, qcap := 0, droop := false })
    (((strings 4 run).put Reg.SHF_STAT 1 0 st).setBit Reg.HU_CFG 31 true)

theorem witness_ModulesAndHoldup :
    (∀ f ∈ [true, false], (inputs f).live = true ∧ (inputs f).inFailed 15 = f ∧ (inputs f).huInp = 1 ∧
      (inputs f).huInp ≤ vget (inputs f).shf.inBad 15 0 ∧ (inputs f).huInp ≤ vget (inputs f).shf.inGood 15 0 ∧
      (inputs f).bit Reg.HU_CFG 30 = true ∧ (inputs f).huInp ≤ (inputs f).shf.droopN) ∧
    (sheddable.live = true ∧ sheddable.shedOff = false ∧ (sheddable.decision 0).isNone = true ∧
      max 1 (sheddable.fld Reg.SH_PAR 7 0) ≤ sheddable.shf.shedN ∧ sheddable.shedTarget = some 15) ∧
    ((holdup 1).live = true ∧ (holdup 1).bit Reg.HU_CFG 31 = true ∧ (holdup 1).huState = 1 ∧ (holdup 1).huTrigger = false ∧
      max 1 (1024 * (holdup 1).fld Reg.HU_REC 15 0) ≤ (holdup 1).shf.goodN) ∧
    ((holdup 2).live = true ∧ (holdup 2).bit Reg.HU_CFG 31 = true ∧ (holdup 2).huState = 2 ∧ (holdup 2).shf.qcap ≤ 0) ∧
    ((holdup 0).chargeOk = true ∧ (holdup 0).shaving = false) := by
  decide +kernel

def stringIn (mode : Nat) (f : StrSt → StrSt) : State := (strings mode run).onStr 7 f

theorem witness_BatteryStrings :
    ((stringIn 2 (fun x => { x with term := 1 })).live = true ∧ (stringIn 2 (fun x => { x with term := 1 })).strMode 7 = 2 ∧
      1 ≤ ((stringIn 2 (fun x => { x with term := 1 })).str 7).term ∧
      1024 * (stringIn 2 (fun x => { x with term := 1 })).fld Reg.BT_TERM 15 0 ≤ ((stringIn 2 (fun x => { x with term := 1 })).str 7).term) ∧
    ((stringIn 5 (fun x => { x with eodAt := some 1 })).strMode 7 = 5 ∧
      ((stringIn 5 (fun x => { x with eodAt := some 1 })).str 7).eodAt = some 1 ∧
      (stringIn 5 (fun x => { x with eodAt := some 1 })).linkUp ((stringIn 5 (fun x => { x with eodAt := some 1 })).fld (Reg.BS_LOC 7) 3 0) = false) ∧
    (link 0 5 (stringIn 5 (fun x => { x with eodAt := some 1 }))).linkUp 0 = true ∧
    ((stringIn 0 id).actsNow = true ∧ bitOf 0x8000 (8 + 7) = true ∧ (stringIn 0 id).strEn 7 = true ∧ (stringIn 0 id).strMode 7 = 0 ∧
      bitOf 0x4000 (8 + 7) = false) ∧
    ((stringIn 6 (fun x => { x with preAt := some 0 })).strMode 7 = 6 ∧
      ((stringIn 6 (fun x => { x with preAt := some 0 })).str 7).preAt = some 0) := by
  decide +kernel

def dropping (active : Nat) : State :=
  (((run.put (Reg.ST_STAT 31) 31 30 2).put (Reg.ST_STAT 31) 15 8 active).setBit Reg.PM_EN 31 true).onSg 31 (fun g => { g with pmt := 1 })

def timing : State :=
  ((run.put (Reg.ST_STAT 31) 31 30 2).setBit Reg.SHF_FTRUN 31 true).onSg 31 (fun g => { g with ft := 1 })

def qualified : State :=
  onShelf (fun x => { x with qual := Vector.replicate 4 16 }) { run with unit := { run.unit with booted := true } }

def mailbox (f : Nat) (active isOpen : Bool) (s : State) : State :=
  (s.wrN (bankKey .spi Reg.MB_SEL) f).onMb f (fun m => { m with active := active, open_ := isOpen })

theorem witness_PowerGoodAndDecisions :
    (∀ a ∈ [1, 2], (dropping a).live = true ∧ (dropping a).stState 31 = 2 ∧ (dropping a).bit Reg.PM_EN 31 = true ∧
      max 1 ((dropping a).fld Reg.PM_PAR 7 0) ≤ ((dropping a).sg 31).pmt ∧ (dropping a).nAct 31 = a ∧
      max 1 ((dropping a).fld Reg.PM_PAR 11 8) = 1) ∧
    (timing.live = true ∧ timing.bit Reg.SHF_FTRUN 31 = true ∧ max 1 (timing.fld Reg.PG_FTIME 15 0) ≤ (timing.sg 31).ft) ∧
    (qualified.unit.booted = true ∧ 16 * max 1 (qualified.fld (Reg.PG_CFG 3) 15 0) ≤ vget qualified.shf.qual 3 0) ∧
    (∀ f ∈ [0, 6], ∀ o ∈ [true, false], (mailbox f true o run).runs = true ∧ (mailbox f true o run).bankN .spi Reg.MB_SEL = f ∧
      (mailbox f true o run).actsNow = true ∧ ((mailbox f true o run).mbx f).active = true ∧
      fieldOf 0 15 0 = (mailbox f true o run).fld (Reg.MB_PSEQ f) 15 0 ∧ fieldOf 1 15 0 ≠ (mailbox f true o run).fld (Reg.MB_PSEQ f) 15 0 ∧
      ((mailbox f true o run).mbx f).open_ = o ∧ ((mailbox f true o run).mbx f).lost = false) ∧
    ((mailbox 0 false false run).actsNow = true ∧ ((mailbox 0 false false run).mbx 0).active = false) ∧
    ((mailbox 0 true true run).onMb 0 (fun m => { m with lost := true }) |>.mbx 0).lost = true ∧
    (mailbox 0 true true (inPair 1 run)).notActiveInPair = true := by
  decide +kernel

/-! ## Witnesses: feeders -/

def feeder (st : Nat) (s : State) : State :=
  ((s.wrN (Reg.FDR_CFG 63) 0x8F300000).put (Reg.FDR_CTL 63) 25 24 st).onFd 63 (fun d => { d with pers := 1, frames := 1024, offAt := some 0 })

def gridFrom (x : Nat) (s : State) : State := { s with time := { s.time with gaits := [x] } }

theorem witness_Feeders :
    (∀ st ∈ [1, 2], ∀ s ∈ [feeder st run, feeder st (link 15 5 run)],
      s.live = true ∧ max 1 (s.fld (Reg.FDR_CFG 63) 19 16) ≤ (s.fd 63).pers ∧ s.fdrState 63 = st ∧
        1024 * max 1 (s.fld (Reg.FDR_CFG 63) 7 0) ≤ (s.fd 63).frames) ∧
    ((feeder 1 (link 15 5 run)).fdrLink 63 = 15 ∧ (feeder 1 (link 15 5 run)).linkTx 15 = true) ∧
    (∀ x ∈ [511999, 512000], (gridFrom x (feeder 3 run)).live = true ∧ (gridFrom x (feeder 3 run)).fdrState 63 = 3 ∧
      ((gridFrom x (feeder 3 run)).fd 63).offAt = some 0 ∧ (gridFrom x (feeder 3 run)).gaitStart = x) ∧
    (run.live = true ∧ run.actsNow = true) ∧ ((inPair 1 run).live = true ∧ (inPair 1 run).notActiveInPair = true) := by
  decide +kernel

/-! ## Witnesses: converters, rotation, path tests and calibration -/

def onMeas (f : MeasSt → MeasSt) (s : State) : State := { s with meas := f s.meas }

def converting : State := run.wrN Reg.ADC_PCFG 0xFFFF

def sequence (trig stat idx : Nat) : State :=
  onMeas (fun m => { m with seqIdx := Vector.replicate 2 idx })
    ((run.wrN (Reg.ADC_SEQ_STAT 1) stat).wrN (Reg.ADC_SEQ_CFG 1) (trig + 0x20))

theorem witness_ConversionSequences :
    (∀ k ∈ [0, 15], converting.runs = true ∧ converting.precOn k = true ∧ converting.spareFor ≠ some k ∧
      converting.meas.pstale.toList.all (· == 0) = true ∧ converting.underTest k = false) ∧
    (∀ i ∈ [0, 2], (sequence 1 0x80000000 i).bit (Reg.ADC_SEQ_STAT 1) 31 = true ∧ vget (sequence 1 0x80000000 i).meas.seqIdx 1 0 = i ∧
      (sequence 1 0x80000000 i).underTest (16 + (8 * 1 + (sequence 1 0x80000000 i).seqChan 1 i)) = false ∧
      (sequence 1 0x80000000 i).fld (Reg.ADC_SEQ_CFG 1) 7 4 = 2) ∧
    (∀ t ∈ [0, 1, 5, 6, 7], ∀ x ∈ [0, 0x80000000, 0xC0000000], (sequence t x 0).runs = true ∧ (sequence t x 0).fld (Reg.ADC_SEQ_CFG 1) 3 0 = t ∧
      (sequence t x 0).rdN (Reg.ADC_SEQ_STAT 1) = x ∧ vget (sequence t x 0).meas.seqSeen 1 false = false) := by
  decide +kernel

/-- Rotation in a phase with channel 3 in work, and the averages of a check: none yet, or complete. -/
def rotating (phase : Nat) (spareTest : Bool) (check : Nat) (own spare : RotAvg) : State :=
  onMeas (fun m => { m with rot := { m.rot with due := true, spareTest := spareTest, check := check, own := own, spare := spare } })
    ((converting.wrN Reg.ADC_ROT 1).wrN Reg.ADC_ROTSTAT (phase * 16 + 3))

def averaged (sum : Int) : RotAvg := { skip := 0, n := 16, sum := sum }

theorem witness_RotationAndPathTests_rotation :
    (let s := rotating 0 false 0 RotAvg.fresh RotAvg.fresh
     s.runs = true ∧ s.meas.rot.due = true ∧ s.rotMayStart = true ∧ (s.nextPrec s.meas.rot.last).isSome = true) ∧
    (let s := rotating 1 false 0 RotAvg.fresh RotAvg.fresh
     s.precOn 3 = true ∧ s.rotPhase ≠ 0 ∧ s.fld Reg.ADC_ROTSTAT 3 0 = 3 ∧ s.fld Reg.ADC_ROTSTAT 3 0 ≠ 2 ∧ s.rotComplete = false) ∧
    (∀ x ∈ [(0, true), (16 * 200000, false)],
      let s := rotating 1 false 0 (averaged x.1) (averaged 0)
      s.rotComplete = true ∧ s.fld Reg.ADC_ROTSTAT 3 0 = 3 ∧ s.rotPhase = 1 ∧ s.meas.rot.spareTest = false ∧ s.rotPass = x.2) ∧
    (∀ c ∈ [0, 2], ∀ x ∈ [(rotLevel c * 16, true), (rotLevel 1 * 16, false)],
      let s := rotating 1 true c (averaged 0) (averaged x.1)
      let u := rotating 2 false c (averaged x.1) (averaged 0)
      s.rotComplete = true ∧ s.fld Reg.ADC_ROTSTAT 3 0 = 3 ∧ s.rotPhase = 1 ∧ s.meas.rot.spareTest = true ∧ s.meas.rot.check = c ∧ s.rotPass = x.2 ∧
        u.rotComplete = true ∧ u.fld Reg.ADC_ROTSTAT 3 0 = 3 ∧ u.rotPhase = 2 ∧ u.meas.rot.check = c ∧ u.rotPass = x.2) ∧
    (rotating 3 false 0 (averaged 0) (averaged 0)).rotComplete = true ∧ (rotating 3 false 0 (averaged 0) (averaged 0)).fld Reg.ADC_ROTSTAT 3 0 = 3 ∧
    (rotating 3 false 0 (averaged 0) (averaged 0)).rotPhase = 3 := by
  decide +kernel

/-- Monitor 127 watches entry 15, and its route takes an action. -/
def guarding : State := (run.wrN (Reg.WM_CFG 127) 0x8000000F).wrN (Reg.WM_ROUTE 127) 0x10000000

def headed (s : State) : State := s.wrN (Reg.LNK_HID 0) 0x40000000

theorem witness_RotationAndPathTests_tests :
    (∀ e ∈ [0, 15, 16, 31], run.runs = true ∧ run.guarded e = false ∧ run.inLoop e = false ∧ run.underCal e = false ∧ run.rotPhase = 0 ∧
      run.bit Reg.ADC_ROTSTAT 7 = false) ∧
    (guarding.guarded 15 = true ∧ (fieldOf 0xF1000 13 12 = 1 ∧ fieldOf 0xF1000 20 16 = 15)) ∧
    ((headed (link 0 5 run)).actsNow = true ∧ (headed (link 0 5 run)).linkUp 0 = true ∧
      3 < (headed (link 0 5 run)).fld (Reg.LNK_HID 0) 31 24 ∧
      ((headed (link 0 5 run)).linkFeeders 0).all (fun f => (headed (link 0 5 run)).fdrState f == 0 || (headed (link 0 5 run)).fdrState f == 3) = true ∧
      (headed (link 0 5 run)).guarded ((headed (link 0 5 run)).linkEntry 0 3) = false ∧
      (headed (link 0 5 run)).inLoop ((headed (link 0 5 run)).linkEntry 0 3) = false ∧
      (headed (link 0 5 run)).underCal ((headed (link 0 5 run)).linkEntry 0 3) = false) ∧
    (run.linkUp 0 = false ∧ run.forwards = false) ∧ ((inPair 1 (link 0 5 run)).notActiveInPair = true ∧ (inPair 1 (link 0 5 run)).forwards = false) := by
  decide +kernel

def calibrating (st ch n : Nat) (sum : Int) : State :=
  onMeas (fun m => { m with cal := { skip := 0, n := n, sum := sum, z := 10, skipS := 0, nS := n, sumS := sum, zS := 10, ref := 9000 } })
    ((converting.wrN Reg.CAL_AVG 4).wrN Reg.CAL_STAT (st * 2 ^ 28 + ch)) |>.setBit Reg.HST_STAT 31 true

def recordOf (e : Nat) : CalRec := { entry := e, epoch := 1, gain := 1, ofs := 2, tag := [], sec := 0, temp := 0, bytes := [] }

theorem witness_Calibration_commands :
    (fw.runs = true ∧ fw.fwOk = true ∧ fw.calRefusal 31 = none ∧ fw.calRuns = false ∧ fieldOf 0x1F 8 0 = 31) ∧
    ((calibrating 2 0 0 0).calRefusal 0 = none ∧ (calibrating 2 0 0 0).calState = 2 ∧ (calibrating 2 0 0 0).calCh = 0) ∧
    (fw.calState ≠ 2) ∧
    ((calibrating 1 0 0 0).calRefusal 0 = none ∧ (calibrating 1 0 0 0).calRuns = true ∧ (calibrating 1 0 0 0).calCh = 0) ∧
    ((inPair 2 fw).notActiveInPair = false ∧ (inPair 2 fw).tokOk [3, 5] = false ∧ (inPair 2 fw).calRuns = false) := by
  decide +kernel

def isOk (x : Except Nat (Int × Int)) : Bool := match x with
  | .ok _ => true
  | .error _ => false

theorem witness_Calibration_averages :
    (∀ x ∈ [(1, 5), (1, 20), (3, 5), (3, 20)],
      let s := calibrating x.1 x.2 16 (16 * 9010)
      s.runs = true ∧ 2 ^ s.calK ≤ s.meas.cal.n ∧ 2 ^ s.calK ≤ s.meas.cal.nS ∧ s.calState = x.1 ∧ s.calCh = x.2 ∧ s.commit.isNone = true ∧
        s.calRuns = true ∧
        isOk (calResult s.meas.cal.z (cdiv s.meas.cal.sum ((2 ^ s.calK : Nat) : Int)) s.meas.cal.ref) = true ∧
        isOk (calResult s.meas.cal.zS (cdiv s.meas.cal.sumS ((2 ^ s.calK : Nat) : Int)) s.meas.cal.ref) = true) ∧
    isOk (calResult 10 (cdiv 160 16) 9000) = false ∧
    (onMeas (fun m => { m with calPend := [recordOf 511] }) run).meas.calPend.head?.isSome = true := by
  decide +kernel

theorem witness_MonitorsAndComparators_meter :
    (run.runs = true ∧ run.actsNow = true) ∧ ((inPair 1 run).runs = true ∧ (inPair 1 run).notActiveInPair = true) := by
  decide +kernel

/-- Monitor 127 with its count at PERS and a route to feeder 63. -/
def monitored (route : Nat) (up : Bool) : State :=
  onMeas (fun m => { m with wmUp := Vector.replicate 128 up })
    ((((feeder 2 run).wrN (Reg.WM_CFG 127) 0x80020000).wrN (Reg.WM_ROUTE 127) route).wrN (Reg.WM_STAT 127) 0x200)

theorem witness_MonitorsAndComparators_monitor :
    (∀ r ∈ [0, 0x3F00003F],
      (monitored r true).halted = false ∧ (monitored r true).bit (Reg.WM_CFG 127) 31 = true ∧ 1 ≤ (monitored r true).wmCount 127 ∧
        (monitored r true).fld (Reg.WM_CFG 127) 23 16 ≤ (monitored r true).wmCount 127 ∧ fieldOf (monitored r true |>.rd (Reg.WM_ROUTE 127)) 31 28 = r / 2 ^ 28) ∧
    (∀ side ∈ [true, false], (monitored 0x3F00003F side).wmUp 127 = side ∧ sideNamed 0x3F00003F side = true) ∧ fieldOf 0x3F00003F 7 0 < 64 ∧
      (monitored 0x3F00003F true).actTaken 3 63 = false ∧ (monitored 0x3F00003F true).fdrState 63 = 2 := by
  decide +kernel

def comparing (out tick fail : Nat) : State :=
  onMeas (fun m => { m with cmpTick := tick, cmpFail := Vector.replicate 16 fail })
    (((run.wrN (Reg.CMP_CFG 15) 0x90000003).wrN (Reg.CMP_THR 15) 0x000D0005).wrN Reg.CMP_OUT out)

theorem witness_MonitorsAndComparators_comparators :
    (∀ out ∈ [0, 0x40000000, 0x80000000],
      (comparing out 0 0).live = true ∧ (List.range 16).all (fun j => (comparing out 0 0).fld (Reg.CMP_ROUTE j) 31 28 == 0) = true ∧
        decide (2 ^ max 4 (min 15 ((comparing out 0 0).fld Reg.CMP_TICK 11 8)) ≤ (comparing out 0 0).meas.cmpTick + 1) = false ∧
        (comparing out 0 0).bit (Reg.CMP_CFG 15) 31 = true ∧ (comparing out 0 0).bit Reg.CMP_STAT (16 + 15) = false ∧
        (comparing out 0 0).bit Reg.CMP_STAT 15 = false ∧ (comparing out 0 0).cmpState 15 = out / 2 ^ 30) ∧
    (2 ^ max 4 (min 15 ((comparing 0 255 1).fld Reg.CMP_TICK 11 8)) ≤ (comparing 0 255 1).meas.cmpTick + 1) ∧
    (comparing 0 0 0).bit (Reg.CMP_CFG 0) 31 = false ∧ 2 ≤ vget (comparing 0 0 2).meas.cmpFail 15 0 := by
  decide +kernel

/-! ## Witnesses: housekeeping -/

def onHk (f : HkSt → HkSt) (s : State) : State := { s with hk := f s.hk }

theorem witness_Housekeeping_slots :
    (run.hkOn = true ∧ (pad.setBit Reg.TIM_CLKSTAT 2 true).hkOn = true) ∧ ((run.hkVal 0 - 1024).natAbs ≤ 1024 ∧ -14080 ≤ cdiv (run.hkVal 0 + 1024) 2 ∧ cdiv (run.hkVal 0 + 1024) 2 ≤ 44800) ∧
      1024 < (run.hkVal 0 - 1025).natAbs ∧
      (hkHasMonitor 1 = true ∧ (run.wrN (Reg.HK_SUPLIM 1) 0x03000001).fld (Reg.HK_SUPLIM 1) 15 0 < (run.wrN (Reg.HK_SUPLIM 1) 0x03000001).fld (Reg.HK_SUPLIM 1) 31 16) := by
  decide +kernel

def found : State :=
  onHk (fun h => { h with badN := 4, warnN := 4, coolN := 4, shutN := 4, rateUp := Vector.replicate 2 4, chkN := Vector.replicate 24 4,
                          outN := Vector.replicate 24 4 }) run

theorem witness_Housekeeping_findings :
    (found.hkOn = true ∧ 4 ≤ found.hk.badN ∧ found.hk.badN ≠ 255) ∧ (4 ≤ vget found.hk.chkN 23 0 ∧ vget found.hk.chkN 23 0 ≠ 255) ∧
    (4 ≤ found.hk.warnN ∧ found.bit Reg.HK_STAT 29 = false) ∧
    (4 ≤ (found.setBit Reg.HK_STAT 29 true).hk.coolN ∧ (found.setBit Reg.HK_STAT 29 true).bit Reg.HK_STAT 29 = true) ∧
    (4 ≤ found.hk.shutN ∧ found.bit Reg.HK_STAT 31 = false) ∧
    (∀ x ∈ [0, 1], 4 ≤ vget found.hk.rateUp x 0 ∧ found.bit Reg.HK_STAT (28 - x) = false) ∧
    (4 ≤ vget found.hk.outN 1 0 ∧ found.bit Reg.HK_SUPSTAT 1 = false) := by
  decide +kernel

/-! ## Witnesses: the redundant pair -/

def onPair (f : PairSt → PairSt) (s : State) : State := { s with pair := f s.pair }

def lanesBad (n : Nat) (s : State) : State := onPair (fun p => { p with bad := Vector.replicate 2 n }) s

def partner : PartnerStat :=
  { health := 7, epoch := 0, phase := 4, tackId := 0, tackVer := 0, stepping := 0, fwVer := 0, tokenHeld := false, tokenAct := 0,
    laneTest := false, laneFail := false }

/-- A frame of the tandem link as its line bits for a lane that has just started (R331). -/
def tandemLine (claim kind : Nat) (payload : BitVec 112) : BitVec 160 :=
  (scramble (withCrc (tandemFrame (BitVec.ofNat 16 claim) 7 (BitVec.ofNat 4 kind) payload)) TdLane.initial.dsc).1

def laneAt (bad aln : Nat) (s : State) : State :=
  onPair (fun p => { p with bad := Vector.replicate 2 bad, lanes := p.lanes.map (fun l => { l with aln := aln }) }) s

theorem witness_TandemLink_frames :
    (∀ n ∈ [0, 1, 2, 3], ∀ r ∈ [1, 2],
      let s := laneAt n 64 (tandem (inPair r run))
      s.runs = true ∧ s.unit.pairMode = true ∧ s.tdState ≠ 0 ∧ s.tdmUp = true ∧ s.halted = false ∧ s.role = r ∧
        s.bit Reg.PAIR_TDSTAT 3 = true ∧ vget s.pair.bad 1 0 = n) ∧
    (∀ x ∈ [(0, (0 : BitVec 112)), (1, framePayload 77 55 999999999 2), (2, 0), (3, 0)],
      let f := (descramble (tandemLine 0x8001 x.1 x.2) TdLane.initial.dsc).1
      tandemGood f = true ∧ (noteSync 63 0 (ffield f 0 1 == 1)).1 = 64 ∧ (noteSync 62 0 (ffield f 0 1 == 1)).1 ≠ 64 ∧
        ffield f 28 31 = x.1 ∧ ffield f 4 4 = 1 ∧ (x.1 = 1 → ffield f 112 141 = 999999999)) ∧
    tandemGood (descramble 0 TdLane.initial.dsc).1 = false ∧ partner.laneTest = false ∧
    (onPair (fun p => { p with load := true }) run).pair.load = true ∧
    ((inPair 1 (run.put Reg.PAIR_TDSTAT 2 0 3)).tdState = 3 ∧ (inPair 1 run).pair.al.n < 256) := by
  decide +kernel

/-- ALIGN with its 256 PROBE frames measured. -/
def measured (st : Nat) (unitB again : Bool) (s : State) : State :=
  onPair (fun p => { p with al := { p.al with n := 256, sum := 256 * 40, mn := 38, mx := 46, again := again } })
    { (s.put Reg.PAIR_TDSTAT 2 0 st) with unit := { s.unit with unitB := unitB } }

theorem witness_TandemLink_training :
    (let s := laneAt 0 64 (inPair 1 (run.put Reg.PAIR_TDSTAT 2 0 1))
     s.runs = true ∧ s.unit.pairMode = true ∧ s.unit.txIdle = false ∧ s.tdState = 1 ∧ s.lanesAligned ≠ 0) ∧
    (∀ b ∈ [true, false], ∀ g ∈ [true, false],
      let s := measured 3 b g (inPair 1 run)
      s.tdState = 3 ∧ 256 ≤ s.pair.al.n ∧ s.pair.al.mx - s.pair.al.mn ≤ 8 ∧ s.aligns = b ∧ s.pair.al.again = g ∧
        (cdiv (56 - cdiv s.pair.al.sum 256) 2).natAbs ≤ 8) ∧
    (measured 6 true true (inPair 1 run)).tdState = 6 ∧
    (∀ x ∈ [1, 2], (sync x (laneAt 3 64 (tandem (inPair 1 run)))).syncPhase = x ∧ (sync x (laneAt 3 64 (tandem (inPair 1 run)))).tdmUp = true) ∧
    ((inPair 1 (link 0 0 run)).tdmUp = false ∧ (inPair 1 (link 0 0 run)).pair.waitDone = false ∧
      (inPair 1 (link 0 0 run)).bit (Reg.LNK_CTL 0) 0 = true) := by
  decide +kernel

/-- A standby that is READY, has waited, and sees neither its partner nor CLAIM_IN. -/
def left (phase : Nat) : State := onPair (fun p => { p with waited := 2, finding := some 3 }) (sync phase ((inPair 1 run).setBit Reg.SYS_STAT 0 true))

def obeying (n : Nat) : State := onPair (fun p => { p with obeyPart := Vector.replicate 16 n }) (link 0 5 (inPair 2 run))

theorem witness_TakeoverAndDualActive :
    (∀ x ∈ [3, 4], (left x).takeFinding = some 3 ∧ (left x).pair.finding = some 3 ∧ (left x).runs = true ∧ (left x).role = 1 ∧
      (left x).syncPhase = x ∧ (left x).bit Reg.PAIR_STAT 26 = false) ∧
    run.pair.finding = none ∧
    ((obeying 2).runs = true ∧ (obeying 2).unit.pairMode = true ∧ (obeying 2).role = 2 ∧
      ((List.range 16).filter (fun n => (obeying 2).linkUp n)).length <
        2 * (((List.range 16).filter (fun n => (obeying 2).linkUp n)).filter (fun n => decide (2 ≤ vget (obeying 2).pair.obeyPart n 0))).length) ∧
    (let s : State := { inPair 1 run with unit := { (inPair 1 run).unit with unitB := true } }
     s.runs = true ∧ s.unit.pairMode = true ∧ s.unit.unitB = true ∧ s.tdmUp = false ∧ s.claimIn = false) := by
  decide +kernel

def matching (tack : Nat) : State :=
  onPair (fun p => { p with partner := some { partner with tackId := BitVec.ofNat 32 tack, stepping := 0xA1 } }) (sync 1 (tandem (inPair 1 run)))

def oneGroup : SyncGroup :=
  { regs := [(0x2440, 5)], mem := [(5, 7), (600, 0)], monitors := [], feeders := [], stages := [], phases := [], strings := [],
    shelf := none, left := 3 }

theorem witness_StateSync :
    (∀ x ∈ [0, 5], (matching x).live = true ∧ (matching x).unit.pairMode = true ∧ (matching x).role = 1 ∧ (matching x).tdmUp = true ∧
      (matching x).syncPhase = 1 ∧ (matching x).pair.mism = false ∧
      (matching x).pair.partner.any (fun p => decide (p.tackId = (matching x).rd Reg.BOOT_TKID) &&
        decide (p.tackVer = (matching x).rd Reg.BOOT_TKVER) && decide (p.stepping = (matching x).fld Reg.SYS_ID 7 0)) = (x == 0)) ∧
    (∀ x ∈ [2, 3], (sync x (tandem (inPair 1 run))).syncPhase = x ∧ (sync x (tandem (inPair 1 run))).fld Reg.PAIR_SYNC 31 16 = 0) ∧
    (onPair (fun p => { p with image := some { regs := [], mem := [], commits := 8 } }) (sync 2 (tandem (inPair 1 run)))).pair.image.isSome = true ∧
    ((oneGroup.regs.map (·.1)).Nodup ∧ (oneGroup.mem.map (·.1)).Nodup ∧ (sync 3 (tandem (inPair 1 run))).lanesUp = true ∧
      (sync 3 (inPair 1 run)).lanesUp = false) ∧
    (∀ r ∈ [1, 2], ((inPair r run).setBit Reg.PAIR_STAT 26 true).runs = true ∧ ((inPair r run).setBit Reg.PAIR_STAT 26 true).role = r ∧
      ((inPair r run).setBit Reg.PAIR_STAT 26 true).bit Reg.PAIR_STAT 26 = true) := by
  decide +kernel

def leading : State := sync 4 (tandem (inPair 2 run))

def held (s : State) : State := s.tokGrant false 3

def remounting (wait : Bool) (dwell : Bool) (s : State) : State := onPair (fun p => { p with remAt := some 5, remWait := wait, dwell := dwell }) s

theorem witness_RemountsAndSwaps_remount : ∀ w ∈ [true, false],
    ((remounting w false leading).canSwap = true ∧ (remounting w false leading).pair.dwell = false ∧ (remounting w false leading).tokHeld = false ∧
      (remounting w false leading).pair.remAt = some 5 ∧ (remounting w false leading).pair.remWait = w) ∧
    ((remounting w false (held leading)).canSwap = true ∧ (remounting w false (held leading)).tokHeld = true) ∧
    (run.time.mono < 5 ∧ (5 : BitVec 64) ≤ ({ run with time := { run.time with mono := 5 } } : State).time.mono) ∧
    ((remounting w true leading).canSwap = true ∧ (remounting w true leading).pair.dwell = true) := by
  decide +kernel

def swapping (out ok : Bool) (gh : Nat) (s : State) : State :=
  onPair (fun p => { p with swap := some { out := out, gh := gh, ok := ok, kind := 3 } }) s

theorem witness_RemountsAndSwaps_swap :
    (∀ ok ∈ [true, false], (swapping true ok 1 leading).runs = true ∧ (swapping true ok 1 leading).pair.swap.isSome = true ∧
      (swapping true ok 1 leading).role = 2 ∧ ((swapping true ok 1 leading).gfcN + 1) % 2 ^ 32 = 1 ∧
      (swapping true ok 1 leading).unit.pairMode = true) ∧
    ((swapping true true 0 leading).gfcN = 0 ∧ (swapping true true 0 leading).role = 2) ∧
    ((swapping false true 0 (inPair 1 run)).gfcN = 0 ∧ (swapping false true 0 (inPair 1 run)).role = 1) ∧
    (let s : State := onPair (fun p => { p with partner := some partner }) ((leading.setBit Reg.PAIR_CTL 0 true).setBit Reg.PAIR_CTL 1 true)
     s.canSwap = true ∧ s.pair.partner = some partner ∧ ({ s with unit := { s.unit with unitB := true } } : State).canSwap = true ∧
       s.bit Reg.PAIR_CTL 0 = true ∧ s.bit Reg.PAIR_CTL 1 = true ∧ partner.health = 7 ∧ s.fld Reg.PAIR_HEALTH 2 0 < partner.health ∧
       s.tokHeld = false ∧ (held s).tokHeld = true) := by
  decide +kernel

theorem witness_ServiceAndToken :
    ((∀ r ∈ [1, 2], (inPair r run).runs = true ∧ (inPair r run).role = r) ∧ bitOf 0 31 = false) ∧
    (∀ a ∈ [1, 5], bitOf (BitVec.ofNat 32 a) 30 = false ∧ 1 ≤ fieldOf (BitVec.ofNat 32 a) 3 0 ∧ fieldOf (BitVec.ofNat 32 a) 3 0 ≤ 5) ∧
    (run.unit.pairMode = false ∧ run.tokHeld = false ∧ (held run).unit.pairMode = false ∧ (held run).tokHeld = true) ∧
    ((tandem (inPair 1 run)).unit.pairMode = true ∧ (tandem (inPair 1 run)).role ≠ 2 ∧ (tandem (inPair 1 run)).tdmUp = true) ∧
    ((run.tokGrant true 3).tokHeld = true ∧ (run.tokGrant true 3).tokMine = true ∧ 3 ≤ (run.tokGrant true 3).tokAct) := by
  decide +kernel

/-! ## Witnesses: faults, events, memory protection and injection -/

def onFlt (f : FltSt → FltSt) (s : State) : State := { s with flt := f s.flt }

def message (k cls : Nat) : FltMsg :=
  let w := fltKindWord k
  { src := w / 64 % 1024, kind := w % 64, cls := cls, sev := 2, inst := 3, addr := 0, mono := 5, inj := false, fwd := false }

theorem witness_FaultClassification : ∀ x ∈ [(25, 0), (9, 1), (4, 2), (4, 3), (0, 2)],
    let s := onFlt (fun f => { f with inq := [message x.1 x.2] }) run
    s.awake = true ∧ s.flt.inq = [message x.1 x.2] ∧ (message x.1 x.2).kindIdx = some x.1 ∧ (x.2 = 0 → bitOf (s.rxn x.1) 27 = false) ∧
      (x.2 = 1 → fieldOf (s.rxn x.1) 25 24 = 0 ∧ ((message x.1 x.2).scope x.1).1 ≠ 7) ∧
      (2 ≤ x.2 → (2 ≤ x.1 ∨ (message x.1 x.2).inj = false) ∧ fieldOf (s.rxn x.1) 25 24 = 0) := by
  decide +kernel

def entry (st follow rmax : Nat) : FltEntry :=
  { msg := message 9 1, kidx := 9, scope := 2, item := 3, gfc := 0, mono := 7, st := st, made := 0, byHost := false, retries := 0,
    follow := follow, rdly := 0, rmax := rmax }

def listed (l : List FltEntry) (s : State) : State := onFlt (fun f => { f with list := l.map some ++ List.replicate (64 - l.length) none }) s

theorem witness_FaultFollowUps :
    (∀ x ∈ [(2, 1), (1, 1), (1, 0)],
      let s := listed [entry 1 x.1 x.2] run
      let act := (List.range 64).filterMap (fun j => (s.fltAt j).filter (fun e => e.names 2 3 && e.st == 1 && !e.msg.fwd))
      s.live = true ∧ s.followReady 2 3 = true ∧ act.any (fun e => e.follow == 2) = (x.1 == 2) ∧
        act.any (fun e => decide (e.rmax < s.retriesOf 2 3 + 1)) = (x.2 == 0)) ∧
    ((run.put (Reg.ST_STAT 31) 31 30 2).awake = true ∧ (run.put (Reg.ST_STAT 31) 31 30 2).stState 31 = 2 ∧ (link 15 5 run).linkUp 15 = true ∧
      (run.put (Reg.FDR_CTL 63) 25 24 2).fdrState 63 = 2 ∧ (List.range 64).all (fun j => (run.fltAt j).isNone) = true) := by
  decide +kernel

theorem witness_FaultRelease :
    (listed [entry 1 1 1, entry 2 1 1, entry 3 1 1] run).runs = true ∧
      ((List.range 4).map (fun j => ((listed [entry 1 1 1, entry 2 1 1, entry 3 1 1] run).fltAt j).map (·.st))) =
        [some 1, some 2, some 3, none] := by
  decide +kernel

def flipped (l : List EccFlip) : State := { run with ecc := { run.ecc with flips := l } }

theorem witness_ScrubCorrects :
    (run.awake = true ∧ (run.ecc.flips.find? (fun x => x.region == 0 && x.addr == 0 / 16 * 16)).isNone = true ∧ run.flt.inq.length < 256) ∧
    (flipped [⟨0, 0, [3]⟩]).ecc.flips.find? (fun x => x.region == 0 && x.addr == 15 / 16 * 16) = some ⟨0, 0, [3]⟩ ∧
    (flipped [⟨8, 16, [3, 135]⟩]).ecc.flips.find? (fun x => x.region == 8 && x.addr == 16 / 16 * 16) = some ⟨8, 16, [3, 135]⟩ := by
  decide +kernel

def raised (rec : Bool) : State := ((run.raise (E.LE_FLAG 3)).setBit (Reg.EVT_SRCCFG (E.LE_FLAG 3).src) 26 rec)

theorem witness_EventsPend : ∀ r ∈ [true, false],
    ((raised r).evq.find? (fun q => q.ev.src == (E.LE_FLAG 3).src)).isSome = true ∧ (raised r).awake = true ∧ (raised r).runs = true ∧
      (raised r).bit (Reg.EVT_SRCCFG (E.LE_FLAG 3).src) 26 = r := by
  decide +kernel

def keyed (n : Nat) (s : State) : State := onFlt (fun f => { f with injKey := some 0 }) { s with time := { s.time with mono := BitVec.ofNat 64 n } }

def unlocked (s : State) : State := s.setBit Reg.INJ_STAT 31 true

def injecting (k : Nat) (cls : Nat) (s : State) : State :=
  (s.wrN Reg.INJ_FM_LO ((message k cls).bits % 2 ^ 32)).wrN Reg.INJ_FM_HI ((message k cls).bits / 2 ^ 32)

theorem witness_InjectionBlock_keys :
    (run.runs = true ∧ run.unit.sealed = false ∧ fieldOf 0x494E 15 0 = 0x494E ∧ fieldOf 0x4A21 15 0 = 0x4A21) ∧
    (∀ n ∈ [800000, 800001], (keyed n run).flt.injKey = some 0 ∧ ((keyed n run).time.mono - 0).toNat = n ∧ (keyed n run).tokOk [5] = true) ∧
    ((keyed 800000 (inPair 2 run)).tokOk [5] = false) ∧ (unlocked run).bit Reg.INJ_STAT 31 = true ∧ run.bit Reg.INJ_STAT 31 = false := by
  decide +kernel

theorem witness_InjectionBlock_injections :
    ((unlocked run).runs = true ∧ (unlocked run).unit.sealed = false ∧ (unlocked run).bit Reg.INJ_STAT 31 = true) ∧
    (5 ≤ fieldOf 0xA0 7 5 ∧ fieldOf 0x80 7 5 < 5 ∧ ({ run with linj := some ⟨1, false, 1, 1, 1, 0, false, []⟩ } : State).linj.isSome = true ∧
      run.linj.isNone = true ∧ run.linkUp 0 = false ∧ (link 0 5 run).linkUp 0 = true) ∧
    ((decide (9 ≤ fieldOf 0x09000000 27 24) || decide (136 < fieldOf 0 7 0)) = true ∧
      (decide (9 ≤ fieldOf 0x08000088 27 24) || decide (136 < fieldOf 0x08000088 7 0) || (bitOf 0x08000088 23 && decide (136 < fieldOf 0 15 8))) = false) ∧
    run.injMessage.kindIdx = none ∧
    ((injecting 4 2 run).injMessage.kindIdx = some 4 ∧ (injecting 4 2 run).injInstOk (injecting 4 2 run).injMessage 4 = true ∧
      (injecting 4 2 run).injMessage.cls ≠ 0) ∧
    ((injecting 12 1 run).injMessage.kindIdx = some 12 ∧ (injecting 12 1 run).injInstOk (injecting 12 1 run).injMessage 12 = false) := by
  decide +kernel

/-! ## Witnesses: records and the saddlebag -/

def onEvr (f : EvrSt → EvrSt) (s : State) : State := { s with evr := f s.evr }

def record (kind sev src len : Nat) : Rec :=
  { kind := kind, sev := sev, inj := false, fwd := false, src := src, stamp := State.reset.stamp, payload := List.replicate len 7 }

def stored (r : Rec) (seq : Nat) : StoredRec := { r := r, seq := seq, mir := false }

def offering (kind queued : Nat) : State :=
  onEvr (fun e => { e with offers := [record kind 2 5 8], queue := List.replicate queued (record 1 2 5 8) }) run

def storing (ring : List StoredRec) : State := onEvr (fun e => { e with queue := [record 2 4 9 24], ring := ring }) run

/-- A stored record that fills the ring and that a record of a lower severity may not replace. -/
def ringFiller : StoredRec := { r := { record 1 7 5 8 with payload := List.replicate 524260 0 }, seq := 5, mir := false }

theorem witness_RecorderStores_offers :
    (∀ n ∈ [0, 127], (offering 2 n).awake = true ∧ nextOffer (offering 2 n).evr.offers = some (record 2 2 5 8) ∧ (offering 2 n).evr.queue.length < 128) ∧
    (∀ k ∈ [1, 2], nextOffer (offering k 128).evr.offers = some (record k 2 5 8) ∧ 128 ≤ (offering k 128).evr.queue.length) ∧
    ((storing []).evr.queue = [record 2 4 9 24] ∧ (makeRoom 32768 4 (record 2 4 9 24).cells (storing []).evr.ring).isSome = true) := by
  decide +kernel

theorem witness_RecorderStores_mirror :
    let s : State := (fw.setBit Reg.EVR_CFG 8 true)
    let g := onEvr (fun e => { e with gap := [3, 4, 9], ring := [stored (record 2 4 9 24) 5] }) s
    let m (l : List EccFlip) := { onEvr (fun e => { e with ring := [stored (record 2 4 9 24) 4] }) s with ecc := { s.ecc with flips := l } }
    (g.fwOk = true ∧ g.bit Reg.EVR_CFG 8 = true ∧ g.gapRun = [3, 4] ∧ (makeRoom 65536 3 3 g.evr.log).isSome = true) ∧
      ∀ x ∈ [([], false), ([⟨5, seqAddr 4 + 16, [1, 2]⟩], true)],
        ((m x.1).gapRun = [] ∧ (m x.1).nextMirror = some (stored (record 2 4 9 24) 4) ∧
          (m x.1).eccBad 5 (seqAddr 4) (seqAddr 4 + 1024) = x.2) := by
  decide +kernel

def selecting (x : RecSel) (s : State) : State := onEvr (fun e => { e with ring := [stored (record 2 4 9 24) 4], sel := Vector.replicate 3 x }) s

theorem witness_RecordReads :
    (∀ s ∈ [fw, run], (selecting ⟨[], 0, false, some (4, true)⟩ s).runs = true ∧
      ((selecting ⟨[], 0, false, some (4, true)⟩ s).recSel .spi).want = some (4, true) ∧
      ((selecting ⟨[], 0, false, some (4, true)⟩ fw).fwOk = true ∧ (selecting ⟨[], 0, false, some (4, true)⟩ run).fwOk = false)) ∧
    (∀ n ∈ [4, 5], ((selecting ⟨[], 0, false, some (n, false)⟩ run).findRec (selecting ⟨[], 0, false, some (n, false)⟩ run).evr.ring 5 n).isSome =
      (n == 4)) ∧
    (let s := selecting ⟨[1, 2, 3], 4, false, none⟩ run
     (s.recSel .spi).want = none ∧ (s.recSel .spi).words[0]? = some 1 ∧ s.recAlive (s.recSel .spi) = true ∧ (s.recSel .spi).words[3]? = none) := by
  decide +kernel

def snap (i : Nat) : Snap :=
  { slot := i, payload := [1, 2, 3], ponCnt := 5, seq := 0, stamp := State.reset.stamp, inj := false, fwd := false, urgent := false }

def bagCopy (g : Nat) : SbgCopy := { gen := g, bytes := snapBytes (snap 3) g 2 }

def bag (i : Nat) (newerA : Bool) : State :=
  { run with sbg := vset run.sbg i { copyA := some (bagCopy (if newerA = true then 3 else 1)), copyB := some (bagCopy 2), full := true, count := 4,
                                     bad := false, staged := some (snap 3), last := none } }

theorem witness_SaddlebagAndLifetime :
    (∀ i ∈ [0, 95, 96, 97], ∀ a ∈ [true, false],
      (bag i a).unit.life ≠ .off ∧ ([96, 97] ++ List.range 96).find? (fun j => (bag i a).sbgDue j) = some i ∧
        ((bag i a).slotOf i).staged.isSome = true ∧ genNewer (if a = true then 3 else 1) 2 = a) ∧
    ((bag 0 true).runs = true ∧ (bag 0 true).fld (bankKey .spi Reg.SBG_SEL) 6 0 = 0 ∧
      ((bag 0 true).sbgNewest 0).any (fun c => (bytesWords c.bytes)[0]?.isSome) = true ∧ bitOf 0x80000000 30 = false) ∧
    ((run.wrN Reg.FLT_LIFECON 5).awake = true ∧ (run.wrN Reg.FLT_LIFECON 5).rdN Reg.FLT_LIFECON ≠ (run.wrN Reg.FLT_LIFECON 5).flt.lifeNv ∧
      (run.wrN Reg.FLT_LIFECON 5).flt.lifeAt = none ∧ 48000000000 ≤ ((48000000000 : BitVec 64) - 0).toNat) := by
  decide +kernel

/-! ## Witnesses: the host ports -/

/-- A transaction on comparator 1, without PEC or with it. -/
def onBus (pec : Bool) (ptr : Nat) (f : SmbSt → SmbSt) (s : State) : State :=
  { s.wrN Reg.HST_PTR ptr with
    smb := f { SmbSt.initial with active := true, comp := some 1, acmp := Vector.replicate 4 (if pec = true then 0x117F10 else 0x17F10) } }

/-- Address byte 0x20 is for address 0x10, which comparator 0 matches. -/
def addressed (fn : Nat) (comp : Option Nat) (s : State) : State :=
  { s with smb := { SmbSt.initial with active := true, addrDue := true, comp := comp,
                                       acmp := Vector.replicate 4 (BitVec.ofNat 32 (fn * 65536 + 0x7F10)) } }

theorem witness_SmbusBytes_address :
    (run.fabricUp = true ∧ pad.fabricUp = true ∧ (run.smb.active && run.smb.comp.isSome) = false) ∧
    (let s := onBus false 0 (fun m => { m with reading := true }) run
     s.smb.active = true ∧ s.smb.comp.isSome = true ∧ s.smb.reading = true) ∧
    (let s := addressed 1 none run
     s.fabricUp = true ∧ s.smb.active = true ∧ s.smb.addrDue = true ∧ s.smb.nacked = false ∧ s.smbMatch ((0x22 : Byte).toNat / 2) = none ∧
       s.smbMatch ((0x20 : Byte).toNat / 2) = some 0 ∧ s.smbAnswers 0 = true) ∧
    (addressed 1 (some 0) run).smb.comp = some 0 ∧
    (let s := addressed 3 none run
     s.smb.comp ≠ some 0 ∧ s.smbAnswers 0 = false ∧ fieldOf (s.acmp 0) 17 16 = 3 ∧ s.inPaddock = false) := by
  decide +kernel

theorem witness_SmbusBytes_write :
    (∀ n ∈ [0, 1, 2], ∀ pec ∈ [true, false],
      let s := onBus pec 0x340 (fun m => { m with nptr := n }) run
      s.fabricUp = true ∧ s.smb.comp = some 1 ∧ s.smb.addrDue = false ∧ s.smb.reading = false ∧ s.smb.nacked = false ∧ s.smb.nptr = n ∧
        s.pecMode = pec ∧ fieldOf (s.acmp 1) 17 16 ≠ 3 ∧ s.smb.buf.length < 257) ∧
    (let s : State := { (onBus false 0x340 (fun m => { m with acmp := Vector.replicate 4 0x37F10 }) run) with }
     s.smb.nptr = 0 ∧ fieldOf (s.acmp 1) 17 16 = 3 ∧ (9 : Byte) ≠ 8) ∧
    257 ≤ (onBus true 0x340 (fun m => { m with nptr := 2, buf := List.replicate 257 2 }) run).smb.buf.length ∧
    (onBus false 0x342 (fun m => { m with nptr := 2 }) run).ptr % 4 ≠ 3 ∧
    ((onBus false 0x343 (fun m => { m with nptr := 2, word := [3] }) run).ptr % 4 = 3 ∧
      (onBus false 0x343 (fun m => { m with nptr := 2, word := [3] }) run).smb.word.length ≠ 3) ∧
    (∀ p ∈ [0x343, 0x813],
      let s := onBus false p (fun m => { m with nptr := 2, word := [1, 2, 3] }) run
      s.ptr % 4 = 3 ∧ s.smb.word.length = 3 ∧ s.fwBusy .smbus (s.ptr / 4 * 4) = (p == 0x813)) := by
  decide +kernel

theorem witness_SmbusBytes_read :
    (∀ out ∈ [([] : List Byte), [0, 5]],
      let s := onBus false 0x341 (fun m => { m with reading := true, out := out }) run
      s.fabricUp = true ∧ s.smb.comp.isSome = true ∧ s.smb.reading = true ∧ s.smb.addrDue = false ∧ s.smb.nacked = false ∧
        s.smb.lost = false ∧ s.smb.left = none ∧ s.pecMode = false ∧ s.smb.out = out) ∧
    (onBus true 0x341 (fun m => { m with reading := true, left := some 0, pec := 7 }) run).smb.left = some 0 ∧
    (true && (7 : Byte) != 0) = true ∧ (true && (0 : Byte) != 0) = false := by
  decide +kernel

/-- EVENT n of word 1 is pending and routed to ALERT#. -/
def alerting : State := (run.setBit (Reg.EVT_PEND 1) 0 true).wrN (Reg.EVT_SRCCFG 32) 0xA0070000

theorem witness_SmbusEnds :
    (run.fabricUp = true ∧ (run.smb.comp.isSome && !run.smb.reading && !run.smb.addrDue) = false) ∧
    (let s := onBus false 0x341 (fun m => { m with word := [2], words := 3, result := 2 }) run
     (s.smb.comp.isSome && !s.smb.reading && !s.smb.addrDue) = true ∧ s.pecMode = false ∧ s.smb.word ≠ []) ∧
    (∀ x ∈ [(([] : List Byte), (0 : Byte)), ([1, 2, 3, 4, 9], 1), ([1, 2, 3, 4, 9], 0)],
      let s := onBus true 0x3E08 (fun m => { m with nptr := 2, bufPtr := 0x3E08, buf := x.1, pec := x.2 }) run
      (s.smb.comp.isSome && !s.smb.reading && !s.smb.addrDue) = true ∧ s.pecMode = true ∧ s.smb.nacked = false ∧ s.smb.buf = x.1 ∧
        s.smb.pec = x.2) ∧
    ((splitWords pageNext 0x3E08 [1, 2, 3, 4]).1.any (fun x => run.fwBusy .smbus x.1) = false ∧ (splitWords pageNext 0x3E08 [1, 2, 3, 4]).2 = 0) ∧
    (alerting.fabricUp = true ∧ alerting.smb.comp = none ∧ alerting.alertPin = true ∧
      alerting.fld (Reg.HST_ACMP (alerting.fld Reg.HST_CFG 1 0)) 6 0 ≠ 0) ∧ run.alertPin = false := by
  decide +kernel

def onSpiPort (f : SpiSt → SpiSt) (s : State) : State := { s with spi := f { s.spi with cs := true } }

def ended (buf : Option SpiBuf) (early : Bool) : State := onSpiPort (fun m => { m with used := true, buf := buf, early := early }) run

theorem witness_SpiFrames :
    (run.fabricUp = true ∧ run.spi.cs = false) ∧
    (let s := onSpiPort id run
     s.fabricUp = true ∧ s.spi.cs = true ∧ s.spi.used = false ∧ s.bit Reg.HST_CFG 4 = false ∧ (0x340 : Addr).toNat % 4 = 0 ∧
       ([1, 2, 3, 4] : List Byte).length = 4 ∧ s.fwBusy .spi (0x340 : Addr).toNat = false) ∧
    (List.replicate 257 (3 : Byte)).length ≤ 257 ∧ (0x342 : Addr).toNat % 4 ≠ 0 ∧ ((onSpiPort id run).setBit Reg.HST_CFG 4 true).bit Reg.HST_CFG 4 = true ∧
    spiOpcode ((0x82 : Byte).toNat % 128) = true ∧ spiOpcode ((0x07 : Byte).toNat % 128) = false ∧
    (∀ e ∈ [true, false], (ended none e).spi.cs = true ∧ (ended none e).spi.used = true ∧ (ended none e).spi.buf = none ∧ (ended none e).spi.early = e) ∧
    ((ended (some ⟨0x340, false, [1, 2, 3, 4], false⟩) false).spi.buf.any (fun x => !x.ok) = true ∧
      (ended (some ⟨0x340, false, [1, 2, 3, 4], false⟩) false).spi.early = false) := by
  decide +kernel

/-! ## Witnesses: images, updates and the window -/

def onUpd (f : UpdSt → UpdSt) (s : State) : State := { s with upd := f s.upd }

def pendingFor (slot len : Nat) (h : List Byte) (s : State) : State := s.setPend .smbus (some ⟨slot, len, h⟩)

def authFor (p : Port) (slot ofs page : Nat) (s : State) : State :=
  onUpd (fun u => { u with auth := some { src := p, slot := slot, len := 1368, hdr := header (imageKind slot), ofs := ofs, page := page } })
    ((s.setBit Reg.UPD_STAT 30 true).wrN Reg.UPD_OFS ofs)

def opened (len : Nat) : State := fw.wrN Reg.UPD_LEN len

theorem witness_UpdateSessions_open :
    ((opened 1368).runs = true ∧ (opened 1368).fwOk = true ∧ Port.smbus ≠ .fw ∧ (opened 1368).otherOwner .smbus = false) ∧
    (∀ x ∈ [(0, true), (1, false), (2, true), (3, false), (16, false)],
      let slot := if bitOf (BitVec.ofNat 32 x.1) 4 = true then 4 else fieldOf (BitVec.ofNat 32 x.1) 1 0
      ((decide (slot < 2) && slot == (opened 1368).fld Reg.BOOT_STAT 7 7) || slot == 2 + (opened 1368).fld Reg.BOOT_STAT 8 8 ||
        (decide (slot < 2) && ((opened 1368).upd.trialrun || (opened 1368).trial))) = x.2) ∧
    (∀ x ∈ [(364, true), (368, false), (1369, true), (4194304, false), (4194308, true)],
      ((decide ((opened x.1).fld Reg.UPD_LEN 23 0 < 368) || (opened x.1).fld Reg.UPD_LEN 23 0 % 4 != 0 ||
        (decide (1 < 4) && decide (slotSize 1 < (opened x.1).fld Reg.UPD_LEN 23 0)))) = x.2) ∧
    (let s := pendingFor 1 1368 [] (authFor .spi 1 256 256 fw)
     s.runs = true ∧ s.fwOk = true ∧ s.otherOwner .smbus = true ∧ (s.pendOf .smbus).isSome = true) := by
  decide +kernel

theorem witness_UpdateSessions_data :
    (let s := pendingFor 1 1368 ((header 0).take 252) fw
     s.runs = true ∧ s.fwOk = true ∧ s.otherOwner .smbus = false ∧ (s.pendOf .smbus).any (fun x => decide (x.hdr.length < 256)) = true) ∧
    (∀ x ∈ [(256, 0), (508, 252), (1364, 12)],
      let s := (authFor .smbus 1 x.1 x.2 fw).setBit Reg.UPD_STAT 31 true
      s.upd.auth.any (fun a => a.src == .smbus && decide (a.ofs < a.len)) = true ∧ (s.pendOf .smbus).isNone = true ∧
        s.bit Reg.UPD_STAT 31 = true) := by
  decide +kernel

theorem witness_UpdateSessions_header : ∀ x ∈ [(1, 0, 1), (3, 1, 1), (1, 1, 2)],
    let s := pendingFor x.1 1368 (header x.2.1) fw
    (header x.2.1).length = 256 ∧ s.upd.auth.isNone = true ∧
      s.checkContainer (header x.2.1) (imageKind x.1) (decide (hdrTotal (header x.2.1) = 1368) && !(imageKind x.1 == 2 && s.unit.okh))
        { signerOk := true, sigOk := true, tagOk := true, readErr := false } (2 ^ 32) = x.2.2 := by
  decide +kernel

theorem witness_UpdateSessions_verify :
    (let s := authFor .smbus 1 256 256 fw
     s.upd.auth.any (fun a => decide (a.ofs < a.len)) = true ∧ s.bit Reg.UPD_STAT 31 = false ∧ (s.pendOf .smbus).isNone = true) ∧
    (∀ x ∈ [(true, 1), (false, 4)],
      let s := authFor .smbus 1 1368 16 fw
      s.upd.auth.any (fun a => a.ofs == a.len) = true ∧ s.bit Reg.UPD_STAT 29 = false ∧
        s.checkContainer (header 0) (imageKind 1) (decide (hdrTotal (header 0) = 1368) && !(imageKind 1 == 2 && s.unit.okh))
          ⟨true, x.1, true, false⟩ (s.rdN Reg.BOOT_FWVER) = x.2) := by
  decide +kernel

def verified (slot : Nat) : State := (authFor .smbus slot 1368 16 fw).setBit Reg.UPD_STAT 29 true

def trialing (e : Option (BitVec 64)) : State := onUpd (fun u => { u with trialrun := true, confEnd := e }) (fw.wrN Reg.UPD_OVL 0)

theorem witness_ActivationAndTrial :
    (fw.live = true ∧ fw.fwOk = true ∧ Port.smbus ≠ .fw ∧ fw.upd.auth.isNone = true ∧ fw.upd.trialrun = false) ∧
    (∀ n ∈ [1, 2], (verified n).live = true ∧ (verified n).fwOk = true ∧ (verified n).upd.auth.any (fun x => x.src == .smbus && x.slot == n) = true ∧
      (verified n).bit Reg.UPD_STAT 29 = true ∧ (verified n).calRuns = false ∧ (verified n).unit.pairMode = false) ∧
    ((trialing (some 5)).upd.trialrun = true ∧ (trialing (some 5)).upd.auth.isNone = true ∧ (trialing (some 5)).fld Reg.UPD_OVL 1 0 ≠ 2 ∧
      (trialing (some 5)).upd.confEnd.isSome = true) := by
  decide +kernel

theorem witness_OverlayAndWindow :
    (fw.runs = true ∧ fw.live = true ∧ fw.fwOk = true ∧ fw.upd.trialrun = false ∧ fw.upd.ovlAt = none) ∧
    (∀ x ∈ [(0, 0x547C, false), (0, 0x5480, true), (1, 0xFFFC, false), (1, 0x10000, true)],
      let s := (run.wrN (bankKey .spi Reg.WIN_SEL) x.1).wrN (bankKey .spi Reg.WIN_BASE) x.2.1
      s.bankN .spi Reg.WIN_SEL % 16 = x.1 ∧ decide (regionLen (s.bankN .spi Reg.WIN_SEL % 16) ≤ s.bankN .spi Reg.WIN_BASE) = x.2.2) := by
  decide +kernel

/-! ## Results that the spec states for concrete values -/

/-- R91: the check value of the CRC of a frame over the nine digits. -/
theorem test_frame_crc_check_value : crcFrom (0x1021 : BitVec 16) ((0x313233343536373839 : BitVec 160) <<< 86) 72 2 0xFFFF = 0x29B1 := by
  decide +kernel

/-- R109: the reflex word of FORCE for feeders 2 and 5. -/
theorem test_reflex_word : reflexWord 0 0x24 = 0xF3A14242 := by decide +kernel

/-- R116: a round trip of 1,950 steps with H = 410 gives d = 770 and OFS = 2,878. -/
theorem test_link_alignment :
    (((link 5 3 run).put (Reg.LNK_HSER_HI 5) 31 16 410).alignMeasured 5 1950 1950 (256 * 1950)).rdN (Reg.LNK_DLY 5) =
      770 + 65536 * 2878 := by
  decide +kernel

/-- The T0 run of chapter 05: KP 0x2000, KI 0x0100, SH 2, I 0x00402000, REF 0x4000 and FB 0x3A00 give 0x0730 and I 0x004C2000. -/
def loopIn (kp : Int) (ymax : Int) (trk : Option Int) : RunIn :=
  { c := [kp, 0x100, 0, 0, 0], ymin := 0, ymax := ymax, kff := 0, kdr := 0, sh := 2, sh1 := 0, sel := 0, nx := 0, ff := false, droop := false,
    curb := false, curbl := 0, x := [0x4000, 0x3A00, 0, 0], trk := trk }

def loopState (i : Int) : RunSt := { i := i, e1 := 0, e2 := 0, e3 := 0, d := 0, u1 := 0, u2 := 0, u3 := 0, w1 := 0, w2 := 0 }

theorem test_loop_run_t0 :
    let o := runT0 (loopIn 0x2000 0x7000 none) (loopState 0x00402000) 0
    o.y = 0x0730 ∧ o.s.i = 0x004C2000 ∧ o.s.e1 = 0x0600 ∧ o.fl = 0 := by
  decide +kernel

/-- The hand-over of chapter 06: with KP 0x1800 the integrator becomes 0x00AC0000 and the output continues at 0x0730. -/
theorem test_handover_entry_run :
    let o := runT0 (loopIn 0x1800 0x7000 (some 0x0730)) (loopState 0) 0
    o.y = 0x0730 ∧ o.s.i = 0x00AC0000 := by
  decide +kernel

/-- R199: the on-times of the worked examples of chapter 07, the first a tie. -/
theorem test_on_time : ton 9053 81920 = 22632 ∧ ton 0x6000 81920 = 61440 := by decide +kernel

/-- R295: GAIN and OFS of the worked example of chapter 10. -/
theorem test_calibration_law :
    (match calResult 1024 6551424 6553600 with | .ok x => x | .error _ => (0, 0)) = (268566592, -1025) := by
  decide +kernel

/-- R390: a record of 6 cells and severity 2 finds 5 cells among the records of severity 2 or less, and is dropped. -/
theorem test_record_dropped :
    makeRoom 10 2 6 [stored (record 2 6 9 20) 0x14A10, stored (record 1 1 5 8) 0x14A11, stored (record 1 3 5 8) 0x14A12, stored (record 5 2 255 24) 0x14A13] =
      none := by
  decide +kernel

/-- R412: a write wraps within its page of 256 bytes. -/
theorem test_pointer_wraps : pageNext 0x34FF = 0x3400 := by decide +kernel

/-- R407: ADDR0 high, ADDR1 mid and ADDR2 low give the address 0x45. -/
theorem test_strap_address :
    (run.sampleStraps { startEnv false true with addr0 := ⟨true, true⟩, addr1 := ⟨true, false⟩, addr2 := ⟨false, false⟩ }).fld (Reg.HST_ACMP 0) 6 0 = 0x45 := by
  decide +kernel

/-- R279, R283: the address of FDR_CTL of feeder 21 and the source of its events, and the words of the Studbook that chapter 17 states. -/
theorem test_studbook_example :
    run.keyOf .smbus 0x36B8 = some (Reg.FDR_CTL 21) ∧ (E.FEEDER_TRIP 21).src = 149 ∧ (E.FEEDER_TRIP 21).k = 2 ∧
      tableWord 0x4AC = 0x17050131 ∧ tableWord 0x2E60 = 0x02959502 ∧ tableWord 0x2E64 = 0x00000005 := by
  decide +kernel

theorem test_studbook_block :
    (run.fabricRead .smbus 0xFD50).1 = 0x01400017 ∧ (run.fabricRead .smbus 0xFD54).1 = 0x00203400 ∧
      (run.fabricRead .smbus 0xFD58).1 = 0x00000020 ∧ (run.fabricRead .smbus 0xFD5C).1 = 0x00000100 := by
  decide +kernel

/-- R10: a write to MONO is ignored. -/
theorem test_mono_ignores_writes : (after (.registerWrite .smbus 0x110 5) run).time.mono = 0 := by decide +kernel

/-- R58: the key resets, another word counts. -/
theorem test_software_reset_bad_key :
    (after (.softwareReset .smbus 0xD0A0 (startEnv false true)) run).fld Reg.SYS_RSTREQ 23 16 = 1 ∧
      (after (.softwareReset .smbus 0xD0A0 (startEnv false true)) run).unit.life = .running := by
  decide +kernel

/-- R76: a write of a shadow field does not reach the value in effect. -/
theorem test_shadow_write :
    (after (.shdWrite .smbus 0x108 2) run).srd 0x108 = 2 ∧ (after (.shdWrite .smbus 0x108 2) run).rd 0x108 = 1 := by
  decide +kernel

/-- R5: a write of reserved bits is counted. -/
theorem test_reserved_write_counted : (after (.registerWrite .smbus 0x160 0x100) run).fld Reg.HST_RSVWR 15 0 = 1 := by decide +kernel

/-- R205: PWM_KILL# latches. -/
theorem test_kill_latches : (after .pwmKill run).rd Reg.PHS_STAT = 0xC0000000 ∧ (after .pwmKillDeassert (after .pwmKill run)).rd Reg.PHS_STAT = 0x40000000 := by
  decide +kernel

/-- R311: a comparator above its threshold goes to ABOVE and stays there within its hysteresis. -/
theorem test_comparator_hysteresis :
    (after (.comparatorTick (List.replicate 16 14) 0) (comparing 0 0 0)).cmpState 15 = 1 ∧
      (after (.comparatorTick (List.replicate 16 11) 0) (comparing 0x40000000 0 0)).cmpState 15 = 1 ∧
      (after (.comparatorTick (List.replicate 16 9) 0) (comparing 0x40000000 0 0)).cmpState 15 = 0 := by
  decide +kernel

/-- R117: a link that fails LOCK waits, and its wait's end counts a retraining. -/
theorem test_lock_fails :
    (after (.linkTrainingStep 0 .noReply) (link 0 1 run)).rd (Reg.LNK_STAT 0) = 0x106 ∧
      (after (.retrainWaitExpiry 0) (link 0 6 run)).linkState 0 = 1 := by
  decide +kernel

/-- The commands come in their order: the queue's second command is still there after a step. -/
theorem test_step_takes_the_front :
    (match step { run with pending := [.pwmKill, .powerFail] } with | .next t => t.pending | _ => []) = [.powerFail] := by
  decide +kernel

/-- The smallest images: firmware in slot 0 and a tack image in slot 2 with one link, context, stage and phase. -/
def bootImage (kind : Nat) : Slot :=
  { header := header kind, body := 1368 - 256, crypto := goodCrypto,
    tack := { Slot.erased.tack with knownKinds := true, limits := ⟨1, 1, 1, 1, 0, 0, 0⟩ }, mark := 2 }

def bootable : State :=
  { State.reset with flash := { desc0 := Desc.default.bytes, desc1 := [], slots := #v[bootImage 0, Slot.erased, bootImage 1, Slot.erased] } }

set_option maxRecDepth 100000 in
/-- R59: a power-on with both images valid runs the whole start. -/
theorem test_power_on_starts :
    (after (.powerOn { startEnv false true with addr0 := ⟨false, false⟩ }) bootable).unit.life = .running := by
  decide +kernel

set_option maxRecDepth 100000 in
/-- R31: the first boundary makes GFC 1, the second 2. -/
theorem test_turnover_counts :
    (after .gaitFrameTurnover run).time.gfc = 1 ∧ (after .gaitFrameTurnover (after .gaitFrameTurnover run)).time.gfc = 2 := by
  decide +kernel

end Sys2Proof.Tests
end

section
/-!
PROOFS. A write of reserved bits (R5): a register write that sets them leaves the state of the write without them, but for the
count in HST_RSVWR and the event RSV_WRITE.
-/

namespace Sys2Proof.Machine

/-! ## Nearness as a frame -/

/-- Near states agree on every register but the side registers, on the shadow bank and on the context RAM. -/
theorem State.keeps_of_near {t u : State} (w : List Nat) (h : t.near u) : Keeps u t w := by
  obtain ⟨⟨r, q, rfl⟩, hrd⟩ := h
  exact ⟨fun a _ ha => hrd a ha, fun _ => rfl, fun _ => rfl⟩

/-- The same write of a register leaves near states near. -/
theorem State.near_wrN {t u : State} (k x : Nat) (h : t.near u) : (t.wrN k x).near (u.wrN k x) := by
  obtain ⟨⟨r, q, rfl⟩, hrd⟩ := h
  refine ⟨⟨_, q, rfl⟩, fun a ha => ?_⟩
  have ha' := hrd a ha
  simp only [State.wrN, State.rd_wr, ha']

/-! ## The count of a reserved write -/

/-- `t` is `u` but for one more reserved write in HST_RSVWR and its event (R5). -/
structure State.CountsReserved (u t : State) : Prop where
  near : t.near u
  count : t.fld Reg.HST_RSVWR 15 0 = min (u.fld Reg.HST_RSVWR 15 0 + 1) 0xFFFF
  raised : Raised u t (E.RSV_WRITE 0)

/-- The count steps by one and holds at its largest value. -/
theorem State.reservedWrite_fld (s : State) :
    s.reservedWrite.fld Reg.HST_RSVWR 15 0 = min (s.fld Reg.HST_RSVWR 15 0 + 1) 0xFFFF :=
  calc s.reservedWrite.fld Reg.HST_RSVWR 15 0
      = (s.bump Reg.HST_RSVWR 15 0 1).fld Reg.HST_RSVWR 15 0 :=
        congrArg (fieldOf · 15 0) (State.raise_rd _ _ _ (by decide) (by decide))
    _ = min (s.fld Reg.HST_RSVWR 15 0 + 1) 0xFFFF := State.fld_bump _ _ _ _ _ (by decide)

/-- The event's pulse enters the crossing while its source has room there. -/
theorem State.reservedWrite_raised (s : State) : Raised s s.reservedWrite (E.RSV_WRITE 0) := by
  intro hfit
  rw [State.reservedWrite, State.raise_fits (s.bump Reg.HST_RSVWR 15 0 1) _ hfit]
  exact ⟨_, List.mem_append_right _ (List.mem_singleton_self _), rfl⟩

theorem State.reservedWrite_counts (s : State) : s.CountsReserved s.reservedWrite :=
  ⟨s.reservedWrite_near, s.reservedWrite_fld, s.reservedWrite_raised⟩

/-- The same write of another register on both sides leaves the difference as it was. -/
theorem State.CountsReserved.wrN {u t : State} (h : u.CountsReserved t) {k : Nat} (hk : k ≠ Reg.HST_RSVWR) (x : Nat) :
    (u.wrN k x).CountsReserved (t.wrN k x) := by
  refine ⟨State.near_wrN k x h.near, ?_, h.raised⟩
  simp only [State.fld, State.rd_wrN_ne _ _ _ _ hk]
  exact h.count

/-- LE_SENT1 steps LE_SIDX (R163) after the count as it does without it. -/
theorem State.CountsReserved.readEffect_sent1 {u t : State} (h : u.CountsReserved t) (p : Port) :
    (u.readEffect p sent1Addr).CountsReserved (t.readEffect p sent1Addr) := by
  have hside : sideReg (bankKey p Reg.LE_SIDX) = false := by cases p <;> decide
  have hidx : t.bankN p Reg.LE_SIDX = u.bankN p Reg.LE_SIDX := congrArg BitVec.toNat (h.near.2 _ hside)
  simp only [State.readEffect, if_true, hidx]
  exact h.wrN (sideReg_rsv hside) _

/-! ## A write with reserved bits against the write without them -/

/-- At the fabric, a write with reserved bits takes the way of the write without them, and is counted on it. -/
theorem State.fabricWrite_reserved (s : State) (p : Port) (a : Nat) (v : Word) (hup : s.fabricUp = true)
    (hv : v &&& ~~~s.knownBits p a ≠ 0) :
    (s.fabricWrite p a (v &&& s.knownBits p a)).CountsReserved (s.fabricWrite p a v) := by
  have hclean : v &&& s.knownBits p a &&& ~~~s.knownBits p a = 0 := by simp [BitVec.and_assoc]
  have hsame : v &&& s.knownBits p a &&& s.knownBits p a = v &&& s.knownBits p a := by simp [BitVec.and_assoc]
  simp only [State.fabricWrite, hup, Bool.not_true, Bool.false_eq_true, if_false, hclean, hsame, if_true, hv]
  split
  · exact s.reservedWrite_counts
  · cases s.keyOf p a with
    | none => exact s.reservedWrite_counts
    | some k =>
      have hcount := (s.writeKey p k (v &&& s.knownBits p a)).reservedWrite_counts
      by_cases hsent : a = sent1Addr
      · subst hsent
        simpa only [if_true] using hcount.readEffect_sent1 p
      · simpa only [hsent, if_false] using hcount

/-- A requester's write of a whole register that firmware does not have to serve is the fabric's write. -/
theorem State.hostWrite_fabric (s : State) (p : Port) (a : Nat) (v : Word) (h4 : a % 4 = 0) (hfw : s.fwBusy p a = false) :
    s.hostWrite p a v = s.fabricWrite p a v := by
  have ha : a / 4 * 4 = a := by omega
  simp [State.hostWrite, ha, hfw]

theorem exec_registerWrite (p : Port) (a : Addr) (v : Word) (s : State) :
    exec (.registerWrite p a v) s = .next (s.hostWrite p a.toNat v) := rfl

/-- Settles O9: the write without the reserved bits passes the same register action, and the count of the reserved write comes
after it (a write of HST_RSVWR itself included) and touches only HST_RSVWR and the crossing of events. LE_SENT1 steps its index after the
count, by the index that the count leaves alone. -/
theorem reservedBitsAreIgnored : Obligations.ReservedBitsAreIgnored := by
  intro p a v s hr h4 hfw hv
  have h : (s.hostWrite p a.toNat (v &&& s.knownBits p a.toNat)).CountsReserved (s.hostWrite p a.toNat v) := by
    simp only [State.hostWrite_fabric _ _ _ _ h4 hfw]
    exact s.fabricWrite_reserved p a.toNat v (s.fabricUp_runs hr) hv
  refine ⟨_, exec_registerWrite p a _ s, _, exec_registerWrite p a v s, h.count, h.raised, State.keeps_of_near _ h.near, ?_⟩
  obtain ⟨r, q, ht⟩ := h.near.1
  simp [ht]

end Sys2Proof.Machine
end

section
/-!
PROOFS. The capture timers (R46, R47). An edge passes all eight timers, and each touches registers of its own, so that the timer in
question meets the edge with its registers as they stood. A read of TIM_CAPn_LO latches the two words after it and clears VALID.
-/

namespace Sys2Proof.Machine

/-! ## The registers of a capture timer (R48) -/

/-- The three words of the capture that timer `n` holds. -/
def captureWord (n a : Nat) : Prop := a = Reg.TIM_CAP_LO n ∨ a = Reg.TIM_CAP_HI n ∨ a = Reg.TIM_CAP_GFC n

theorem captureCtl_block (n : Nat) : Reg.TIM_CAP_CTL n / 16 = 0x16 + n := by
  simp only [Reg.TIM_CAP_CTL]
  omega

theorem captureWord_block {n a : Nat} (ha : captureWord n a) : a / 16 = 0x16 + n := by
  simp only [captureWord, Reg.TIM_CAP_LO, Reg.TIM_CAP_HI, Reg.TIM_CAP_GFC] at ha
  omega

theorem captureWord_ne_ctl {n a : Nat} (ha : captureWord n a) : Reg.TIM_CAP_CTL n ≠ a := by
  simp only [captureWord, Reg.TIM_CAP_LO, Reg.TIM_CAP_HI, Reg.TIM_CAP_GFC] at ha
  simp only [Reg.TIM_CAP_CTL]
  omega

/-- The registers of the capture timers lie outside those that a full crossing touches. -/
theorem crossReg_capture {a n : Nat} (hn : n < 8) (ha : a / 16 = 0x16 + n) : crossReg a = false := by
  simp only [crossReg, Reg.TIM_CDCDROP, Bool.or_eq_false_iff, beq_eq_false_iff_ne, Bool.and_eq_false_iff, decide_eq_false_iff_not]
  omega

/-! ## The queue of the crossing after an event -/

theorem State.pulse_evq (s : State) (p : EvPulse) : ∃ l, l.length ≤ 1 ∧ (s.pulse p).evq = s.evq ++ l := by
  unfold State.pulse
  split
  · exact ⟨[p], Nat.le_refl 1, rfl⟩
  · exact ⟨[], Nat.zero_le 1, by simp⟩

/-- An event appends at most one pulse to the crossing: its own, or the CDC_OVERFLOW that tells of its loss (R42). -/
theorem State.raise_evq (s : State) (e : Ev) : ∃ l, l.length ≤ 1 ∧ (s.raise e).evq = s.evq ++ l := by
  by_cases hfit : s.pulseFits e.src = true
  · exact ⟨[s.pulseOf e [] false false], Nat.le_refl 1, by rw [State.raise_fits _ _ hfit]⟩
  · have hfull : ¬ (s.evq.filter (fun q => q.ev.src = e.src)).length < pulseRoom := by simpa [State.pulseFits] using hfit
    have hlost : ∀ p : EvPulse, p.ev = e → (s.pulse p).evq = s.evq := fun p hp => by simp [State.pulse, hp, hfull]
    obtain ⟨l, hl, hq⟩ := (s.pulse (s.pulseOf e [] false false)).pulse_evq ⟨⟨1, 0, 0⟩, [], s.stamp, false, false⟩
    refine ⟨l, hl, ?_⟩
    rw [hlost _ rfl] at hq
    simpa only [State.raise, State.raiseWith, hfit, Bool.false_eq_true, if_false, State.pulseOf] using hq

/-! ## What an edge does at one timer -/

/-- `t` has the registers of capture timer `n` and the time of `s`, and at most `k` more pulses in the crossing. -/
structure State.CaptureFrame (n k : Nat) (s t : State) : Prop where
  rd : ∀ a, a / 16 = 0x16 + n → t.rd a = s.rd a
  time : t.time = s.time
  evq : ∃ l, l.length ≤ k ∧ t.evq = s.evq ++ l

theorem State.CaptureFrame.refl (n k : Nat) (s : State) : State.CaptureFrame n k s s :=
  ⟨fun _ _ => rfl, rfl, [], Nat.zero_le k, by simp⟩

theorem State.CaptureFrame.mono {n j k : Nat} {s t : State} (h : State.CaptureFrame n j s t) (hjk : j ≤ k) :
    State.CaptureFrame n k s t := by
  obtain ⟨l, hl, hq⟩ := h.evq
  exact ⟨h.rd, h.time, l, hl.trans hjk, hq⟩

theorem State.CaptureFrame.ctl {n k : Nat} {s t : State} (h : State.CaptureFrame n k s t) (i : Nat) :
    t.bit (Reg.TIM_CAP_CTL n) i = s.bit (Reg.TIM_CAP_CTL n) i := congrArg (bitOf · i) (h.rd _ (captureCtl_block n))

theorem State.CaptureFrame.word {n k : Nat} {s t : State} (h : State.CaptureFrame n k s t) {a : Nat} (ha : captureWord n a) :
    t.rd a = s.rd a := h.rd a (captureWord_block ha)

theorem State.CaptureFrame.trans {n j k : Nat} {s t u : State} (h1 : State.CaptureFrame n j s t) (h2 : State.CaptureFrame n k t u) :
    State.CaptureFrame n (j + k) s u := by
  obtain ⟨l1, hl1, hq1⟩ := h1.evq
  obtain ⟨l2, hl2, hq2⟩ := h2.evq
  refine ⟨fun a ha => (h2.rd a ha).trans (h1.rd a ha), h2.time.trans h1.time, l1 ++ l2, ?_, by simp [hq1, hq2]⟩
  simpa using Nat.add_le_add hl1 hl2

/-- Timer `n` is set to this edge of source `src` (R46); sources 40 to 55 have rising edges alone. -/
structure State.TakesEdge (s : State) (src : Nat) (rising : Bool) (n : Nat) : Prop where
  source : src < 58
  selected : s.fld (Reg.TIM_CAP_CTL n) 5 0 = src
  polarity : edgeTaken (s.fld (Reg.TIM_CAP_CTL n) 7 6) rising = true
  oneSided : 40 ≤ src → src < 56 → rising = true

/-- Timer `n` with the capture of this instant, and VALID set (R47). -/
def State.storeCapture (s : State) (n : Nat) : State :=
  (((s.wrN (Reg.TIM_CAP_LO n) s.time.mono.toNat).wrN (Reg.TIM_CAP_HI n) (s.time.mono.toNat / 2 ^ 32)).wrN
    (Reg.TIM_CAP_GFC n) s.gfcN).setBit (Reg.TIM_CAP_CTL n) 30 true

/-- Timer `n` with OVR set and CAP_OVERRUN raised (R47). -/
def State.overrunCapture (s : State) (n : Nat) : State := (s.setBit (Reg.TIM_CAP_CTL n) 31 true).raise (E.CAP_OVERRUN n)

theorem State.capture1_takes {s : State} {src : Nat} {rising : Bool} {n : Nat} (h : s.TakesEdge src rising n) :
    s.capture1 src rising n = if s.bit (Reg.TIM_CAP_CTL n) 30 then s.overrunCapture n else s.storeCapture n := by
  obtain ⟨hsrc, hsel, hpol, hone⟩ := h
  have hside : (!(decide (40 ≤ src) && decide (src < 56)) || rising) = true := by
    simp only [Bool.or_eq_true, Bool.not_eq_true', Bool.and_eq_false_iff, decide_eq_false_iff_not]
    tauto
  simp only [State.capture1, hsrc, hsel, hpol, hside, decide_true, beq_self_eq_true, Bool.and_self, if_true]
  rfl

theorem State.capture1_cases (s : State) (src : Nat) (rising : Bool) (n : Nat) :
    s.capture1 src rising n = s ∨ s.capture1 src rising n = s.overrunCapture n ∨ s.capture1 src rising n = s.storeCapture n := by
  unfold State.capture1
  split
  · split
    · exact .inr (.inl rfl)
    · exact .inr (.inr rfl)
  · exact .inl rfl

/-- A timer that overruns keeps every register of the timers but its own TIM_CAPn_CTL. -/
theorem State.overrunCapture_rd (s : State) {a i n : Nat} (hn : n < 8) (ha : a / 16 = 0x16 + n) (hne : Reg.TIM_CAP_CTL i ≠ a) :
    (s.overrunCapture i).rd a = s.rd a := by
  rw [State.overrunCapture, State.raise_rd _ _ _ (by show 2 < 256; omega) (crossReg_capture hn ha), State.rd_setBit_ne _ _ _ _ _ hne]

theorem State.overrunCapture_frame (s : State) {i n : Nat} (hn : n < 8) (hi : i ≠ n) :
    State.CaptureFrame n 1 s (s.overrunCapture i) where
  rd a ha := s.overrunCapture_rd hn ha (by simp only [Reg.TIM_CAP_CTL]; omega)
  time := by simp [State.overrunCapture]
  evq := State.raise_evq (s.setBit (Reg.TIM_CAP_CTL i) 31 true) (E.CAP_OVERRUN i)

theorem State.storeCapture_frame (s : State) {i n : Nat} (hi : i ≠ n) : State.CaptureFrame n 1 s (s.storeCapture i) where
  rd a ha := by
    rw [State.storeCapture, State.rd_setBit_ne, State.rd_wrN_ne, State.rd_wrN_ne, State.rd_wrN_ne] <;>
      simp only [Reg.TIM_CAP_CTL, Reg.TIM_CAP_LO, Reg.TIM_CAP_HI, Reg.TIM_CAP_GFC] <;> omega
  time := rfl
  evq := ⟨[], Nat.zero_le 1, by simp [State.storeCapture]⟩

/-- An edge at another timer leaves timer `n` as it is. -/
theorem State.capture1_frame (s : State) (src : Nat) (rising : Bool) {i n : Nat} (hn : n < 8) (hi : i ≠ n) :
    State.CaptureFrame n 1 s (s.capture1 src rising i) := by
  rcases s.capture1_cases src rising i with h | h | h <;> rw [h]
  · exact .refl n 1 s
  · exact s.overrunCapture_frame hn hi
  · exact s.storeCapture_frame hi

/-! ## What an edge does at all timers -/

theorem State.capture_foldl_frame (src : Nat) (rising : Bool) {n : Nat} (hn : n < 8) (l : List Nat) (hl : n ∉ l) (s : State) :
    State.CaptureFrame n l.length s (l.foldl (fun s i => s.capture1 src rising i) s) := by
  induction l generalizing s with
  | nil => exact .refl n 0 s
  | cons i r ih =>
    obtain ⟨hi, hr⟩ := not_or.mp (mt List.mem_cons.mpr hl)
    have h := (s.capture1_frame src rising hn (Ne.symm hi)).trans (ih hr (s.capture1 src rising i))
    rwa [Nat.add_comm] at h

/-- Timer `n` meets the edge in a state `u` that has its registers as before; what it does there, the timers after it leave. -/
theorem State.captureEdge_frame (s : State) (src : Nat) (rising : Bool) {n : Nat} (hn : n < 8) :
    ∃ u, State.CaptureFrame n 7 s u ∧ State.CaptureFrame n 7 (u.capture1 src rising n) (s.captureEdge src rising) := by
  obtain ⟨l, r, hlr⟩ := List.append_of_mem (List.mem_range.mpr hn)
  have hnd : (l ++ n :: r).Nodup := hlr ▸ List.nodup_range
  obtain ⟨-, hr, hdisj⟩ := List.nodup_append'.mp hnd
  have hnl : n ∉ l := fun h => hdisj h List.mem_cons_self
  have hlen : l.length + r.length = 7 := by
    have h := congrArg List.length hlr
    simp only [List.length_range, List.length_append, List.length_cons] at h
    omega
  refine ⟨_, (State.capture_foldl_frame src rising hn l hnl s).mono (by omega), ?_⟩
  rw [State.captureEdge, hlr, List.foldl_append, List.foldl_cons]
  exact (State.capture_foldl_frame src rising hn r (List.nodup_cons.mp hr).1 _).mono (by omega)

/-- CAPTURE_EDGE on a unit that runs; the pin of GPIO8 (R482) is no part of a timer. -/
theorem exec_captureEdge_frame (src : Fin 64) (rising : Bool) (s : State) {n : Nat} (hn : n < 8) (hr : s.runs = true) :
    ∃ u t, exec (.captureEdge src rising) s = .next t ∧ State.CaptureFrame n 7 s u ∧
      State.CaptureFrame n 7 (u.capture1 src.val rising n) t := by
  have hlife : s.unit.life = .running := by simpa [State.runs] using hr
  have hexec : ∃ s0, exec (.captureEdge src rising) s = .next (s0.captureEdge src rising) ∧ State.CaptureFrame n 0 s s0 := by
    show ∃ s0, execCaptureEdge src rising s = _ ∧ _
    unfold execCaptureEdge
    by_cases h8 : src.val = 8
    · refine ⟨{ s with unit := { s.unit with fdrPin := rising } }, ?_, ⟨fun _ _ => rfl, rfl, [], Nat.le_refl 0, by simp⟩⟩
      simp [h8, State.awake, hlife]
    · exact ⟨s, by simp [h8, State.awake, hlife], .refl n 0 s⟩
  obtain ⟨s0, hs0, h0⟩ := hexec
  obtain ⟨u, hu, ht⟩ := s0.captureEdge_frame src rising hn
  exact ⟨u, _, hs0, by simpa using h0.trans hu, ht⟩

/-- A timer takes the same edges where its registers are the same. -/
theorem State.CaptureFrame.takesEdge {n k : Nat} {s u : State} (h : State.CaptureFrame n k s u) {src : Nat} {rising : Bool}
    (ht : s.TakesEdge src rising n) : u.TakesEdge src rising n := by
  have hctl : u.rd (Reg.TIM_CAP_CTL n) = s.rd (Reg.TIM_CAP_CTL n) := h.rd _ (captureCtl_block n)
  obtain ⟨hsrc, hsel, hpol, hone⟩ := ht
  exact ⟨hsrc, by rwa [State.fld, hctl], by rwa [State.fld, hctl], hone⟩

/-! ## What the timer holds after the edge -/

theorem State.storeCapture_valid (s : State) (n : Nat) : (s.storeCapture n).bit (Reg.TIM_CAP_CTL n) 30 = true :=
  State.bit_setBit _ _ _ _ (by decide)

theorem State.storeCapture_lo (s : State) (n : Nat) : (s.storeCapture n).rd (Reg.TIM_CAP_LO n) = BitVec.setWidth 32 s.time.mono := by
  rw [State.storeCapture, State.rd_setBit_ne, State.rd_wrN_ne, State.rd_wrN_ne, State.rd_wrN_same, word, BitVec.ofNat_toNat] <;>
    simp only [Reg.TIM_CAP_CTL, Reg.TIM_CAP_LO, Reg.TIM_CAP_HI, Reg.TIM_CAP_GFC] <;> omega

theorem State.storeCapture_hi (s : State) (n : Nat) :
    (s.storeCapture n).rd (Reg.TIM_CAP_HI n) = BitVec.extractLsb' 32 32 s.time.mono := by
  have hhi : word (s.time.mono.toNat / 2 ^ 32) = BitVec.extractLsb' 32 32 s.time.mono := by
    rw [word, BitVec.extractLsb', Nat.shiftRight_eq_div_pow]
  rw [← hhi, State.storeCapture, State.rd_setBit_ne, State.rd_wrN_ne, State.rd_wrN_same] <;>
    simp only [Reg.TIM_CAP_CTL, Reg.TIM_CAP_HI, Reg.TIM_CAP_GFC] <;> omega

theorem State.storeCapture_gfc (s : State) (n : Nat) : (s.storeCapture n).rd (Reg.TIM_CAP_GFC n) = s.time.gfc := by
  have hgfc : word s.gfcN = s.time.gfc := by rw [word, State.gfcN, BitVec.ofNat_toNat, BitVec.setWidth_eq]
  rw [← hgfc, State.storeCapture, State.rd_setBit_ne, State.rd_wrN_same]
  simp only [Reg.TIM_CAP_CTL, Reg.TIM_CAP_GFC]
  omega

theorem State.overrunCapture_ctl (s : State) {n : Nat} (hn : n < 8) :
    (s.overrunCapture n).rd (Reg.TIM_CAP_CTL n) = (s.setBit (Reg.TIM_CAP_CTL n) 31 true).rd (Reg.TIM_CAP_CTL n) :=
  State.raise_rd _ _ _ (by show 2 < 256; omega) (crossReg_capture hn (captureCtl_block n))

theorem State.overrunCapture_ovr (s : State) {n : Nat} (hn : n < 8) : (s.overrunCapture n).bit (Reg.TIM_CAP_CTL n) 31 = true := by
  rw [State.bit, s.overrunCapture_ctl hn]
  exact State.bit_setBit _ _ _ _ (by decide)

theorem State.overrunCapture_valid (s : State) {n : Nat} (hn : n < 8) :
    (s.overrunCapture n).bit (Reg.TIM_CAP_CTL n) 30 = s.bit (Reg.TIM_CAP_CTL n) 30 := by
  rw [State.bit, s.overrunCapture_ctl hn]
  exact State.bit_setBit_ne _ _ _ _ _ (by decide) (by decide)

theorem State.overrunCapture_raised (s : State) (n : Nat) : Raised s (s.overrunCapture n) (E.CAP_OVERRUN n) := by
  intro hfit
  rw [State.overrunCapture, State.raise_fits (s.setBit _ 31 true) _ hfit]
  exact ⟨_, List.mem_append_right _ (List.mem_singleton_self _), rfl⟩

/-- With 8 pulses of a source in the crossing, 7 more of any kind leave it room. -/
theorem State.CaptureFrame.pulseFits {n : Nat} {s u : State} (h : State.CaptureFrame n 7 s u) {src : Nat}
    (hroom : (s.evq.filter (fun q => q.ev.src = src)).length ≤ 8) : u.pulseFits src = true := by
  obtain ⟨l, hl, hq⟩ := h.evq
  have hnew : (l.filter (fun q => q.ev.src = src)).length ≤ l.length := List.length_filter_le _ _
  simp only [State.pulseFits, hq, List.filter_append, List.length_append, pulseRoom, decide_eq_true_eq]
  omega

/-- An edge that finds VALID clear is captured. -/
theorem exec_captureEdge_stores {src : Fin 64} {rising : Bool} {n : Fin 8} {s : State} (hr : s.runs = true)
    (htakes : s.TakesEdge src.val rising n) (hvalid : s.bit (Reg.TIM_CAP_CTL n) 30 = false) :
    Completes (.captureEdge src rising) s (fun t =>
      t.bit (Reg.TIM_CAP_CTL n) 30 = true ∧ t.rd (Reg.TIM_CAP_LO n) = BitVec.setWidth 32 s.time.mono ∧
      t.rd (Reg.TIM_CAP_HI n) = BitVec.extractLsb' 32 32 s.time.mono ∧ t.rd (Reg.TIM_CAP_GFC n) = s.time.gfc) := by
  obtain ⟨u, t, hexec, hu, ht⟩ := exec_captureEdge_frame src rising s n.isLt hr
  rw [State.capture1_takes (hu.takesEdge htakes), (hu.ctl 30).trans hvalid, if_neg Bool.false_ne_true] at ht
  refine ⟨t, hexec, (ht.ctl 30).trans (u.storeCapture_valid n), ?_, ?_, ?_⟩
  · rw [ht.word (.inl rfl), u.storeCapture_lo, hu.time]
  · rw [ht.word (.inr (.inl rfl)), u.storeCapture_hi, hu.time]
  · rw [ht.word (.inr (.inr rfl)), u.storeCapture_gfc, hu.time]

/-- An edge that finds VALID set overruns, and the capture stays. -/
theorem exec_captureEdge_overruns {src : Fin 64} {rising : Bool} {n : Fin 8} {s : State} (hr : s.runs = true)
    (htakes : s.TakesEdge src.val rising n) (hvalid : s.bit (Reg.TIM_CAP_CTL n) 30 = true) :
    Completes (.captureEdge src rising) s (fun t =>
      t.bit (Reg.TIM_CAP_CTL n) 30 = true ∧ t.bit (Reg.TIM_CAP_CTL n) 31 = true ∧ t.rd (Reg.TIM_CAP_LO n) = s.rd (Reg.TIM_CAP_LO n) ∧
      t.rd (Reg.TIM_CAP_HI n) = s.rd (Reg.TIM_CAP_HI n) ∧ t.rd (Reg.TIM_CAP_GFC n) = s.rd (Reg.TIM_CAP_GFC n) ∧
      ((s.evq.filter (fun q => q.ev.src = 2)).length ≤ 8 → ∃ q ∈ t.evq, q.ev = E.CAP_OVERRUN n)) := by
  obtain ⟨u, t, hexec, hu, ht⟩ := exec_captureEdge_frame src rising s n.isLt hr
  have huv : u.bit (Reg.TIM_CAP_CTL n) 30 = true := (hu.ctl 30).trans hvalid
  rw [State.capture1_takes (hu.takesEdge htakes), if_pos huv] at ht
  have hkeep : ∀ {a}, captureWord n a → t.rd a = s.rd a := fun {a} ha =>
    calc t.rd a = (u.overrunCapture n).rd a := ht.word ha
      _ = u.rd a := u.overrunCapture_rd n.isLt (captureWord_block ha) (captureWord_ne_ctl ha)
      _ = s.rd a := hu.word ha
  refine ⟨t, hexec, (ht.ctl 30).trans ((u.overrunCapture_valid n.isLt).trans huv), (ht.ctl 31).trans (u.overrunCapture_ovr n.isLt),
    hkeep (.inl rfl), hkeep (.inr (.inl rfl)), hkeep (.inr (.inr rfl)), fun hroom => ?_⟩
  obtain ⟨q, hq, hev⟩ := u.overrunCapture_raised n (hu.pulseFits hroom)
  obtain ⟨l, -, hl⟩ := ht.evq
  exact ⟨q, hl ▸ List.mem_append_left l hq, hev⟩

/-! ## What a read of TIM_CAPn_LO does (R7) -/

/-- A register whose row has every bit in a readable field, read in effect and outside the protected tables, reads as it is stored. -/
theorem State.readStored_whole (s : State) (p : Port) {k : Nat} {r : RegRow} (hk : k < 0x10000) (hrow : rowOfKey k = some r)
    (hknown : r.known = 0xFFFFFFFF) (hwo : r.wo = 0) : s.readStored p k = (s.rd k, s) := by
  have hview : s.viewsShadow p k = false := by
    simp only [State.viewsShadow, within, show ¬ 0x10000 ≤ k by omega, show ¬ 0x11000 ≤ k by omega, show ¬ 0x14000 ≤ k by omega,
      show ¬ 0x1D000 ≤ k by omega, decide_false, Bool.false_and, Bool.false_eq_true, if_false]
  have hecc : eccTableRegion k = none := by
    simp only [eccTableRegion, show ¬ 0x10000 ≤ k by omega, show ¬ 0x11000 ≤ k by omega, show ¬ 0x14000 ≤ k by omega, decide_false,
      Bool.false_and, Bool.false_eq_true, if_false]
  have hmask : s.rd k &&& word 0xFFFFFFFF &&& ~~~word 0 = s.rd k := by
    rw [show word 0xFFFFFFFF = BitVec.allOnes 32 from rfl, show ~~~word 0 = BitVec.allOnes 32 from rfl, BitVec.and_allOnes,
      BitVec.and_allOnes]
  simp only [State.readStored, hrow, hview, hecc, hknown, hwo, hmask, Bool.false_eq_true, if_false]

theorem captureWord_row (n : Fin 8) {a : Nat} (ha : captureWord n a) : ∃ r, rowOfKey a = some r ∧ r.known = 0xFFFFFFFF ∧ r.wo = 0 := by
  rcases ha with rfl | rfl | rfl
  · exact ⟨⟨0x164, 0x10000000, 1, 16, 8, 0, 0, 0, 0, 0, 0xFFFFFFFF, none, []⟩, by revert n; decide, rfl, rfl⟩
  · exact ⟨⟨0x168, 0x10000000, 1, 16, 8, 0, 0, 0, 0, 0, 0xFFFFFFFF, none, []⟩, by revert n; decide, rfl, rfl⟩
  · exact ⟨⟨0x16C, 0x10000000, 1, 16, 8, 0, 0, 0, 0, 0, 0xFFFFFFFF, none, []⟩, by revert n; decide, rfl, rfl⟩

/-- No rule gives the words of a capture a value of their own, so that a read takes the stored one. -/
theorem State.readNow_capture_stored (s : State) (p : Port) (n : Fin 8) {a : Nat} (ha : captureWord n a) :
    s.readNow p a = s.readStored p a := by
  have hlow : ¬ 0xFC00 ≤ a := by
    have := captureWord_block ha
    omega
  have hnone : s.readTime a = none ∧ s.readControl p a = none ∧ s.readService p a = none ∧ s.readWindow p a = none ∧
      s.keyOf p a = some a := by
    rcases ha with rfl | rfl | rfl <;> fin_cases n <;> exact ⟨rfl, rfl, rfl, rfl, rfl⟩
  obtain ⟨htime, hcontrol, hservice, hwindow, hkey⟩ := hnone
  simp [State.readNow, hlow, htime, hcontrol, hservice, hwindow, hkey]

theorem State.readNow_capture (s : State) (p : Port) (n : Fin 8) {a : Nat} (ha : captureWord n a) : s.readNow p a = (s.rd a, s) := by
  obtain ⟨r, hrow, hknown, hwo⟩ := captureWord_row n ha
  have hk : a < 0x10000 := by
    have := captureWord_block ha
    omega
  rw [s.readNow_capture_stored p n ha, s.readStored_whole p hk hrow hknown hwo]

/-- No index register selects a capture timer, so that its words are latched under their addresses. -/
theorem State.latchKey_capture (s : State) (p : Port) (n : Fin 8) {a : Nat} (ha : captureWord n a) : s.latchKey p a = a := by
  have hblock := captureWord_block ha
  have hout : ∀ lo hi, 0x1E0 ≤ lo → within a lo hi = false := fun lo hi h => by
    rw [within, decide_eq_false (by omega : ¬ lo ≤ a), Bool.false_and]
  simp (disch := decide) only [State.latchKey, hout, Bool.false_eq_true, if_false]
  omega

/-- Both words latched with a capture are there for the requester. -/
theorem State.latched_latchRest_capture (s : State) (p : Port) (n : Fin 8) (v w : Word) :
    (s.latchRest p [(Reg.TIM_CAP_HI n, v), (Reg.TIM_CAP_GFC n, w)]).latched p (Reg.TIM_CAP_HI n) = some v ∧
      (s.latchRest p [(Reg.TIM_CAP_HI n, v), (Reg.TIM_CAP_GFC n, w)]).latched p (Reg.TIM_CAP_GFC n) = some w := by
  have hkey : ∀ (t : State) {a : Nat}, captureWord n a → t.latchKey p a = a := fun t _ ha => t.latchKey_capture p n ha
  simp [State.latched, hkey _ (.inr (.inl rfl)), hkey _ (.inr (.inr rfl)), State.latchRest]

/-- The read of TIM_CAPn_LO clears VALID (R47). -/
theorem State.readEffect_capture (s : State) (p : Port) (n : Fin 8) :
    s.readEffect p (Reg.TIM_CAP_LO n) = s.setBit (Reg.TIM_CAP_CTL n) 30 false := by
  fin_cases n <;> rfl

/-- A read of the lowest word of a wide value latches the others as they are (R7). -/
theorem State.fabricRead_wide (s : State) (p : Port) {a : Nat} (hup : s.fabricUp = true) (hm : s.mapped a = true)
    (hw : wideWord a = false) (hrest : wideRest a ≠ []) :
    s.fabricRead p a = ((s.readNow p a).1,
      ((s.readNow p a).2.latchRest p ((wideRest a).map (fun b => (b, (s.readNow p b).1)))).readEffect p a) := by
  simp [State.fabricRead, hup, hm, hw, hrest]

theorem wideWord_captureLo : ∀ n : Fin 8, wideWord (Reg.TIM_CAP_LO n) = false := by decide

theorem wideRest_captureLo : ∀ n : Fin 8, wideRest (Reg.TIM_CAP_LO n) = [Reg.TIM_CAP_HI n, Reg.TIM_CAP_GFC n] := by decide

theorem State.hostRead_capture (s : State) (p : Port) (n : Fin 8) (hr : s.runs = true) :
    s.hostRead p (Reg.TIM_CAP_LO n) =
      { (s.latchRest p [(Reg.TIM_CAP_HI n, s.rd (Reg.TIM_CAP_HI n)), (Reg.TIM_CAP_GFC n, s.rd (Reg.TIM_CAP_GFC n))]).setBit
          (Reg.TIM_CAP_CTL n) 30 false with
        readData := vset s.readData (portIdx p) (s.rd (Reg.TIM_CAP_LO n)) } := by
  have haddr : Reg.TIM_CAP_LO n / 4 * 4 = Reg.TIM_CAP_LO n := by simp only [Reg.TIM_CAP_LO]; omega
  have hm : s.mapped (Reg.TIM_CAP_LO n) = true := s.mapped_runs _ hr (.inr (by revert n; decide))
  have hread := s.fabricRead_wide p (s.fabricUp_runs hr) hm (wideWord_captureLo n) (by simp [wideRest_captureLo])
  simp only [wideRest_captureLo, List.map_cons, List.map_nil, s.readNow_capture p n (.inl rfl), s.readNow_capture p n (.inr (.inl rfl)),
    s.readNow_capture p n (.inr (.inr rfl)), State.readEffect_capture] at hread
  rw [State.hostRead, haddr, hread]
  rfl

theorem exec_captureRead_returns (p : Port) (n : Fin 8) {s : State} (hr : s.runs = true) :
    Completes (.captureRead p n) s (fun t =>
      vget t.readData (portIdx p) 0 = s.rd (Reg.TIM_CAP_LO n) ∧ t.bit (Reg.TIM_CAP_CTL n) 30 = false ∧
      t.latched p (Reg.TIM_CAP_HI n) = some (s.rd (Reg.TIM_CAP_HI n)) ∧ t.latched p (Reg.TIM_CAP_GFC n) = some (s.rd (Reg.TIM_CAP_GFC n)) ∧
      Keeps s t [Reg.TIM_CAP_CTL n]) := by
  have hexec : exec (.captureRead p n) s = .next (s.hostRead p (Reg.TIM_CAP_LO n)) := rfl
  rw [s.hostRead_capture p n hr] at hexec
  have hport : portIdx p < 3 := by cases p <;> decide
  obtain ⟨hhi, hgfc⟩ := s.latched_latchRest_capture p n (s.rd (Reg.TIM_CAP_HI n)) (s.rd (Reg.TIM_CAP_GFC n))
  refine ⟨_, hexec, vget_vset_same _ _ _ _ hport, State.bit_setBit _ _ _ _ (by decide), ?_, ?_, fun a ha _ => ?_, fun _ => rfl, fun _ => rfl⟩
  · simpa [State.latched, State.latchKey_capture _ p n (.inr (.inl rfl))] using hhi
  · simpa [State.latched, State.latchKey_capture _ p n (.inr (.inr rfl))] using hgfc
  · exact State.rd_setBit_ne _ _ _ _ _ (Ne.symm (List.ne_of_not_mem_cons ha))

/-- Settles O12: the other seven timers leave the registers of timer `n` alone and queue at most one pulse each, so that the edge is
captured or overruns there as if it were the only timer; the read is that of the lowest word of a wide value. -/
theorem captureHoldsItsFirstEdge : Obligations.CaptureHoldsItsFirstEdge := by
  intro p src rising n s hr
  refine ⟨fun hsrc hsel hpol hone => ?_, exec_captureRead_returns p n hr⟩
  have htakes : s.TakesEdge src.val rising n := ⟨hsrc, hsel, hpol, hone⟩
  exact ⟨exec_captureEdge_stores hr htakes, exec_captureEdge_overruns hr htakes⟩

end Sys2Proof.Machine
end

section
/-!
PROOFS. The release of fault entries (R367). A release goes through the entries that FLT_RELEASE chooses one after the other. What it does
to a list of them is stated as one relation, which holds of one entry and composes along the list.
-/

namespace Sys2Proof.Machine

/-! ## The fault list -/

theorem State.fltAt_fltPut_same (s : State) {i : Nat} (e : Option FltEntry) (hi : i < 64) : (s.fltPut i e).fltAt i = e := by
  simp [State.fltAt, State.fltPut, hi]

theorem State.fltAt_fltPut_ne (s : State) {i j : Nat} (e : Option FltEntry) (hj : j < 64) (hji : j ≠ i) :
    (s.fltPut i e).fltAt j = s.fltAt j := by
  simp [State.fltAt, State.fltPut, hj, hji]

/-! ## One entry -/

/-- The entry after a release that chooses it. -/
def FltEntry.released (e : FltEntry) : FltEntry := if e.st = 2 then { e with st := 3 } else e

theorem FltEntry.released_done {e : FltEntry} (h : e.st = 2) : e.released = { e with st := 3 } := if_pos h

theorem FltEntry.released_of_ne {e : FltEntry} (h : e.st ≠ 2) : e.released = e := if_neg h

theorem FltEntry.released_released (e : FltEntry) : e.released.released = e.released := by
  by_cases h : e.st = 2
  · simp [FltEntry.released, h]
  · simp only [FltEntry.released_of_ne h]

/-! ## What a release does to the entries it chooses -/

/-- `t` is `s` after a release that chooses the entries of `l`. -/
structure State.Releases (l : List Nat) (s t : State) : Prop where
  chosen : ∀ j < 64, j ∈ l → t.fltAt j = (s.fltAt j).map FltEntry.released
  others : ∀ j < 64, j ∉ l → t.fltAt j = s.fltAt j
  skips : ∀ j < 64, j ∈ l → ∀ e, s.fltAt j = some e → e.st = 1 → t.bit Reg.FLT_STAT 29 = true
  skipStays : s.bit Reg.FLT_STAT 29 = true → t.bit Reg.FLT_STAT 29 = true
  frame : ∃ r q f, t = { s with reg := r, evq := q, flt := { s.flt with list := f } }
  regs : ∀ a, a ≠ Reg.FLT_STAT → sideReg a = false → t.rd a = s.rd a

theorem State.Releases.refl (s : State) : State.Releases [] s s where
  chosen _ _ hj := absurd hj List.not_mem_nil
  others _ _ _ := rfl
  skips _ _ hj := absurd hj List.not_mem_nil
  skipStays h := h
  frame := ⟨s.reg, s.evq, s.flt.list, rfl⟩
  regs _ _ _ := rfl

/-- Choosing an entry twice does no more than choosing it once: a released entry is not DONE, and an ACTIVE one is still ACTIVE. -/
theorem State.Releases.trans {l m : List Nat} {s t u : State} (h1 : State.Releases l s t) (h2 : State.Releases m t u) :
    State.Releases (l ++ m) s u where
  chosen j hj hmem := by
    by_cases hl : j ∈ l <;> by_cases hm : j ∈ m
    · rw [h2.chosen j hj hm, h1.chosen j hj hl, Option.map_map]
      exact congrArg (Option.map · _) (funext FltEntry.released_released)
    · rw [h2.others j hj hm, h1.chosen j hj hl]
    · rw [h2.chosen j hj hm, h1.others j hj hl]
    · exact absurd hmem (by simp [hl, hm])
  others j hj hmem := by
    rw [List.mem_append, not_or] at hmem
    rw [h2.others j hj hmem.2, h1.others j hj hmem.1]
  skips j hj hmem e he hst := by
    by_cases hl : j ∈ l
    · exact h2.skipStays (h1.skips j hj hl e he hst)
    · have hm : j ∈ m := (List.mem_append.mp hmem).resolve_left hl
      exact h2.skips j hj hm e ((h1.others j hj hl).trans he) hst
  skipStays h := h2.skipStays (h1.skipStays h)
  frame := by
    obtain ⟨_, _, _, rfl⟩ := h1.frame
    obtain ⟨r, q, f, rfl⟩ := h2.frame
    exact ⟨r, q, f, rfl⟩
  regs a ha hside := (h2.regs a ha hside).trans (h1.regs a ha hside)

/-- The side registers take no part in a release. -/
theorem State.Releases.of_near {l : List Nat} {s t u : State} (h : State.Releases l s u) (hn : t.near u) : State.Releases l s t := by
  obtain ⟨⟨r, q, rfl⟩, hrd⟩ := hn
  have hbit : State.bit { u with reg := r, evq := q } Reg.FLT_STAT 29 = u.bit Reg.FLT_STAT 29 :=
    congrArg (bitOf · 29) (hrd _ (by decide))
  refine ⟨h.chosen, h.others, fun j hj hl e he hst => hbit.trans (h.skips j hj hl e he hst), fun hs => hbit.trans (h.skipStays hs), ?_,
    fun a ha hside => (hrd a hside).trans (h.regs a ha hside)⟩
  obtain ⟨_, _, f, rfl⟩ := h.frame
  exact ⟨r, q, f, rfl⟩

theorem State.Releases.keeps {l : List Nat} {s t : State} (h : State.Releases l s t) : Keeps s t [Reg.FLT_STAT] := by
  refine ⟨fun a ha hside => h.regs a (List.ne_of_not_mem_cons ha) hside, ?_⟩
  obtain ⟨r, q, f, rfl⟩ := h.frame
  exact ⟨fun _ => rfl, fun _ => rfl⟩

theorem State.Releases.chosen_some {l : List Nat} {s t : State} (h : State.Releases l s t) {j : Nat} (hj : j < 64) (hl : j ∈ l)
    {e : FltEntry} (he : s.fltAt j = some e) : t.fltAt j = some e.released := by
  rw [h.chosen j hj hl, he, Option.map_some]

/-- Chosen or not, a place without a DONE entry stays as it is. -/
theorem State.Releases.unchanged {l : List Nat} {s t : State} (h : State.Releases l s t) {j : Nat} (hj : j < 64)
    (hne : ∀ e, s.fltAt j = some e → e.st ≠ 2) : t.fltAt j = s.fltAt j := by
  by_cases hl : j ∈ l
  · cases he : s.fltAt j with
    | none => rw [h.chosen j hj hl, he, Option.map_none]
    | some e => rw [h.chosen_some hj hl he, FltEntry.released_of_ne (hne e he)]
  · exact h.others j hj hl

/-! ## The release of one entry, by its state -/

/-- An entry that is neither DONE nor ACTIVE, and an empty place, leave the unit as it is. -/
theorem State.Releases.of_idle {s : State} {i : Nat} (h : ∀ e, s.fltAt i = some e → e.st ≠ 1 ∧ e.st ≠ 2) : State.Releases [i] s s := by
  refine ⟨fun j _ hmem => ?_, fun _ _ _ => rfl, fun j _ hmem e he hst => ?_, id, (State.Releases.refl s).frame, fun _ _ _ => rfl⟩
  all_goals obtain rfl := List.mem_singleton.mp hmem
  · cases he : s.fltAt j with
    | none => rfl
    | some e => exact congrArg some (FltEntry.released_of_ne (h e he).2).symm
  · exact absurd hst (h e he).1

theorem State.Releases.of_active {s : State} {i : Nat} {e : FltEntry} (he : s.fltAt i = some e) (hst : e.st = 1) :
    State.Releases [i] s (s.setBit Reg.FLT_STAT 29 true) := by
  have hskip : (s.setBit Reg.FLT_STAT 29 true).bit Reg.FLT_STAT 29 = true := State.bit_setBit _ _ _ _ (by decide)
  refine ⟨fun j _ hmem => ?_, fun _ _ _ => rfl, fun _ _ _ _ _ _ => hskip, fun _ => hskip, ⟨_, s.evq, s.flt.list, rfl⟩,
    fun a ha _ => State.rd_setBit_ne _ _ _ _ _ (Ne.symm ha)⟩
  obtain rfl := List.mem_singleton.mp hmem
  have hsame : e.released = e := FltEntry.released_of_ne (by omega)
  calc (s.setBit Reg.FLT_STAT 29 true).fltAt j = some e := he
    _ = (s.fltAt j).map FltEntry.released := by rw [he, Option.map_some, hsame]

theorem State.Releases.of_done {s : State} {i : Nat} {e : FltEntry} (he : s.fltAt i = some e) (hst : e.st = 2) :
    State.Releases [i] s (s.fltPut i (some { e with st := 3 })) := by
  refine ⟨fun j hj hmem => ?_, fun j hj hmem => s.fltAt_fltPut_ne _ hj (List.ne_of_not_mem_cons hmem), fun j _ hmem e' he' hst' => ?_, id,
    ⟨s.reg, s.evq, _, rfl⟩, fun _ _ _ => rfl⟩
  all_goals obtain rfl := List.mem_singleton.mp hmem
  · rw [s.fltAt_fltPut_same _ hj, he, Option.map_some, FltEntry.released_done hst]
  · obtain rfl : e = e' := Option.some.inj (he.symm.trans he')
    omega

theorem State.fltReleaseOne_releases (s : State) (i : Nat) : State.Releases [i] s (s.fltReleaseOne i) := by
  unfold State.fltReleaseOne
  cases he : s.fltAt i with
  | none => exact .of_idle (by simp [he])
  | some e =>
    dsimp only
    split
    next hdone => exact .of_done he hdone
    next hdone =>
      split
      next hactive => exact .of_active he hactive
      next hactive => exact .of_idle (by simp [he, hdone, hactive])

/-! ## A write of FLT_RELEASE -/

/-- The entries that a write of FLT_RELEASE chooses, by ALL[31] and IDX[5:0]. -/
def releaseChoice (v : Word) : List Nat := if bitOf v 31 then List.range 64 else [fieldOf v 5 0]

theorem mem_releaseChoice (v : Word) {j : Nat} (hj : j < 64) : j ∈ releaseChoice v ↔ bitOf v 31 = true ∨ j = fieldOf v 5 0 := by
  by_cases h : bitOf v 31 = true <;> simp [releaseChoice, h, hj]

theorem releaseChoice_known (v : Word) : releaseChoice (v &&& word 0x8000003F) = releaseChoice v := by
  rw [releaseChoice, bitOf_and _ _ _ (by decide), fieldOf_and _ _ _ _ (by decide) (by decide), releaseChoice]

theorem State.foldl_fltReleaseOne_releases (l : List Nat) (s : State) :
    State.Releases l s (l.foldl (fun s i => s.fltReleaseOne i) s) := by
  induction l generalizing s with
  | nil => exact .refl s
  | cons i l ih => exact (s.fltReleaseOne_releases i).trans (ih _)

theorem State.fltRelease_releases (s : State) (v : Word) : State.Releases (releaseChoice v) s (s.fltRelease v) := by
  unfold State.fltRelease releaseChoice
  split
  · exact s.foldl_fltReleaseOne_releases _
  · exact s.fltReleaseOne_releases _

theorem exec_faultRelease_releases (p : Port) (v : Word) (s : State) (hr : s.runs = true) :
    Completes (.faultRelease p v) s (State.Releases (releaseChoice v) s) := by
  obtain ⟨t, ht, hn⟩ := exec_faultRelease_near p v s hr
  have h := s.fltRelease_releases (v &&& word 0x8000003F)
  rw [releaseChoice_known] at h
  exact ⟨t, ht, h.of_near hn⟩

/-- Settles O48: the register takes ALL and IDX as they are written, and the entries they choose are released one after the other;
each is DONE, ACTIVE or neither, and none bears on another. -/
theorem faultRelease : Obligations.FaultRelease := by
  intro p v s hr
  obtain ⟨t, ht, h⟩ := exec_faultRelease_releases p v s hr
  refine ⟨t, ht, fun j hj => ?_, ?_⟩
  · rw [← mem_releaseChoice v hj]
    refine ⟨fun e he hl hdone => ?_, fun e he hl hactive => ⟨?_, h.skips j hj hl e he hactive⟩, fun e he _ hdone => ?_, fun he => ?_,
      h.others j hj⟩
    · rw [h.chosen_some hj hl he, FltEntry.released_done hdone]
    · exact (h.unchanged hj (by simp [he, hactive])).trans he
    · exact (h.unchanged hj (by simp [he, hdone])).trans he
    · exact (h.unchanged hj (by simp [he])).trans he
  · have hkeeps := h.keeps
    obtain ⟨r, q, f, rfl⟩ := h.frame
    exact ⟨rfl, rfl, rfl, rfl, rfl, rfl, hkeeps⟩

end Sys2Proof.Machine
end

section
/-!
PROOFS. The layer that the proofs about commands share: registers read through a chain of updates, the frame `Keeps` of such a chain,
and the events and fault messages that it leaves.
-/

namespace Sys2Proof.Machine

/-! ## Registers through updates -/

/-- Fields and bits are read off the register: the one spelling in which simp compares them. -/
@[simp] theorem State.fld_eq (s : State) (a hi lo : Nat) : s.fld a hi lo = fieldOf (s.rd a) hi lo := rfl
@[simp] theorem State.bit_eq (s : State) (a i : Nat) : s.bit a i = bitOf (s.rd a) i := rfl
@[simp] theorem State.rdN_eq (s : State) (a : Nat) : s.rdN a = (s.rd a).toNat := rfl

@[simp] theorem State.rd_bump_same (s : State) (a hi lo n : Nat) :
    (s.bump a hi lo n).rd a = setField (s.rd a) hi lo (min (fieldOf (s.rd a) hi lo + n) (2 ^ (hi + 1 - lo) - 1)) :=
  State.rd_wr_same _ _ _

/-- A counter's field after it counted. -/
theorem fieldOf_setField_min (w : Word) (hi lo n : Nat) (h : hi < 32) :
    fieldOf (setField w hi lo (min n (2 ^ (hi + 1 - lo) - 1))) hi lo = min n (2 ^ (hi + 1 - lo) - 1) := by
  rw [fieldOf_setField _ _ _ _ h]
  have : 0 < 2 ^ (hi + 1 - lo) := Nat.pow_pos (by decide)
  exact Nat.mod_eq_of_lt (by omega)

theorem fieldOf_setField_lt (w : Word) (hi lo n : Nat) (h : hi < 32) (hn : n < 2 ^ (hi + 1 - lo)) :
    fieldOf (setField w hi lo n) hi lo = n := by
  rw [fieldOf_setField _ _ _ _ h, Nat.mod_eq_of_lt hn]

theorem fieldOf_setField_fieldOf (w v : Word) (hi lo : Nat) (h : hi < 32) :
    fieldOf (setField w hi lo (fieldOf v hi lo)) hi lo = fieldOf v hi lo := fieldOf_setField_lt _ _ _ _ h (fieldOf_lt ..)

/-- A bit set in a word, and the others. -/
theorem bitOf_setField_bit (w : Word) (i j : Nat) (b : Bool) (h : j < 32) :
    bitOf (setField w i i (b2n b)) j = if i = j then b else bitOf w j := by
  by_cases hij : i = j
  · rw [if_pos hij, hij, bitOf_setBit _ _ _ h]
  · rw [if_neg hij, bitOf_setField _ _ _ _ _ h, if_neg (by omega)]

/-- The registers of a state that is built part by part, as simp leaves an update of one part; the other parts have no say in them. -/
@[simp] theorem State.rd_mk (r : Cells 32) (a : Nat)
    {shadow mem latch readData time unit flash boot upd smb spi commit check pair links frameNo chans fine ctx cwq trc phs stg loc
    fdr strs shf mb stat statSnap en meas hk evq flt ecc linj evr sbg free pending} :
    (State.mk r shadow mem latch readData time unit flash boot upd smb spi commit check pair links frameNo chans fine ctx cwq trc
      phs stg loc fdr strs shf mb stat statSnap en meas hk evq flt ecc linj evr sbg free pending).rd a = cellsGet regReset r a :=
      rfl

@[simp] theorem State.cellsGet_reg (s : State) (a : Nat) : cellsGet regReset s.reg a = s.rd a := rfl

/-! ## Words with a trigger bit or an operation set -/

theorem bitOf_withBit (v : Word) (i j : Nat) (h : j < 32) : bitOf (withBit v i) j = if i = j then true else bitOf v j :=
  bitOf_setField_bit v i j true h

theorem fieldOf_withBit (v : Word) (i hi lo : Nat) (h : hi < 32) (hd : hi < i ∨ i < lo) :
    fieldOf (withBit v i) hi lo = fieldOf v hi lo := fieldOf_setField_ne _ _ _ _ _ _ h hd

theorem fieldOf_withOp (v : Word) (n : Nat) (h : n < 16) : fieldOf (withOp v n) 31 28 = n := by
  rw [withOp, fieldOf_setField _ _ _ _ (by decide)]
  omega

theorem fieldOf_withOp_ne (v : Word) (n hi lo : Nat) (h : hi < 28) : fieldOf (withOp v n) hi lo = fieldOf v hi lo :=
  fieldOf_setField_ne _ _ _ _ _ _ (by omega) (.inl h)

theorem bitOf_withOp_ne (v : Word) (n i : Nat) (h : i < 28) : bitOf (withOp v n) i = bitOf v i := by
  rw [withOp, bitOf_setField _ _ _ _ _ (by omega), if_neg (by omega)]

/-! ## Registers outside the crossing -/

theorem crossReg_eq_false {a : Nat} : crossReg a = false ↔ a ≠ 0x150 ∧ (a < 0x340 ∨ 0x360 ≤ a) := by
  simp only [crossReg, Reg.TIM_CDCDROP, Bool.or_eq_false_iff, beq_eq_false_iff_ne, Bool.and_eq_false_iff, decide_eq_false_iff_not]
  omega

theorem sideReg_eq_false {a : Nat} :
    sideReg a = false ↔ a ≠ 0x150 ∧ (a < 0x340 ∨ 0x360 ≤ a) ∧ a ≠ 0x42C ∧ a ≠ Reg.HST_RSVWR ∧ a ≠ Reg.CW_STAT := by
  simp only [sideReg, Reg.TIM_CDCDROP, Reg.FLT_DROP, Bool.or_eq_false_iff, beq_eq_false_iff_ne, Bool.and_eq_false_iff,
    decide_eq_false_iff_not]
  omega

/-- An event leaves every register outside the crossing. -/
theorem State.rd_raise (s : State) (src k i a : Nat) (he : src < 256) (h : a ≠ 0x150) (h' : a < 0x340 ∨ 0x360 ≤ a) :
    (s.raise ⟨src, k, i⟩).rd a = s.rd a := State.raise_rd _ _ _ he (crossReg_eq_false.mpr ⟨h, h'⟩)

theorem State.rd_raiseWith (s : State) (src k i a : Nat) (d : List Byte) (x w : Bool) (he : src < 256) (h : a ≠ 0x150)
    (h' : a < 0x340 ∨ 0x360 ≤ a) : (s.raiseWith ⟨src, k, i⟩ d x w).rd a = s.rd a :=
  State.raiseWith_rd _ _ _ _ _ _ he (crossReg_eq_false.mpr ⟨h, h'⟩)

/-- A fault message leaves every register outside the crossing and FLT_DROP. -/
theorem State.rd_sendFault (s : State) (m : FltMsg) (a : Nat) (h : a ≠ 0x150) (h' : a < 0x340 ∨ 0x360 ≤ a) (hd : a ≠ 0x42C) :
    (s.sendFault m).rd a = s.rd a := State.sendFault_rd _ _ _ (crossReg_eq_false.mpr ⟨h, h'⟩) hd

theorem State.rd_fault (s : State) (k i b a : Nat) (h : a ≠ 0x150) (h' : a < 0x340 ∨ 0x360 ≤ a) (hd : a ≠ 0x42C) :
    (s.fault k i b).rd a = s.rd a := State.rd_sendFault _ _ _ h h' hd

/-! ## Elements of the banks after a change of one -/

section
variable (s : State) {i j : Nat}

@[simp] theorem State.onPh_ph_same (f : PhSt → PhSt) (h : i < 128) : (s.onPh i f).ph i = f (s.ph i) := vget_vset_same _ _ _ _ h
@[simp] theorem State.onSg_sg_same (f : StgSt → StgSt) (h : i < 32) : (s.onSg i f).sg i = f (s.sg i) := vget_vset_same _ _ _ _ h
@[simp] theorem State.onLc_lc_same (f : LocSt → LocSt) (h : i < 16) : (s.onLc i f).lc i = f (s.lc i) := vget_vset_same _ _ _ _ h
@[simp] theorem State.onFd_fd_same (f : FdrSt → FdrSt) (h : i < 64) : (s.onFd i f).fd i = f (s.fd i) := vget_vset_same _ _ _ _ h
@[simp] theorem State.onCx_cx_same (f : CtxSt → CtxSt) (h : i < 256) : (s.onCx i f).cx i = f (s.cx i) := vget_vset_same _ _ _ _ h
@[simp] theorem State.onTr_tr_same (f : TrcSt → TrcSt) (h : i < 8) : (s.onTr i f).tr i = f (s.tr i) := vget_vset_same _ _ _ _ h
@[simp] theorem State.onStr_str_same (f : StrSt → StrSt) (h : i < 8) : (s.onStr i f).str i = f (s.str i) := vget_vset_same _ _ _ _ h
@[simp] theorem State.onMb_mbx_same (f : MbSt → MbSt) (h : i < 7) : (s.onMb i f).mbx i = f (s.mbx i) := vget_vset_same _ _ _ _ h
@[simp] theorem State.onEn_enAt_same (f : EnSt → EnSt) (h : i < 32) : (s.onEn i f).enAt i = f (s.enAt i) := vget_vset_same _ _ _ _ h

theorem State.onPh_ph_ne (f : PhSt → PhSt) (h : i ≠ j) : (s.onPh i f).ph j = s.ph j := vget_vset_ne _ _ _ _ _ h
theorem State.onSg_sg_ne (f : StgSt → StgSt) (h : i ≠ j) : (s.onSg i f).sg j = s.sg j := vget_vset_ne _ _ _ _ _ h
theorem State.onLc_lc_ne (f : LocSt → LocSt) (h : i ≠ j) : (s.onLc i f).lc j = s.lc j := vget_vset_ne _ _ _ _ _ h
theorem State.onFd_fd_ne (f : FdrSt → FdrSt) (h : i ≠ j) : (s.onFd i f).fd j = s.fd j := vget_vset_ne _ _ _ _ _ h
theorem State.onCx_cx_ne (f : CtxSt → CtxSt) (h : i ≠ j) : (s.onCx i f).cx j = s.cx j := vget_vset_ne _ _ _ _ _ h
theorem State.onTr_tr_ne (f : TrcSt → TrcSt) (h : i ≠ j) : (s.onTr i f).tr j = s.tr j := vget_vset_ne _ _ _ _ _ h
theorem State.onStr_str_ne (f : StrSt → StrSt) (h : i ≠ j) : (s.onStr i f).str j = s.str j := vget_vset_ne _ _ _ _ _ h
theorem State.onMb_mbx_ne (f : MbSt → MbSt) (h : i ≠ j) : (s.onMb i f).mbx j = s.mbx j := vget_vset_ne _ _ _ _ _ h
theorem State.onEn_enAt_ne (f : EnSt → EnSt) (h : i ≠ j) : (s.onEn i f).enAt j = s.enAt j := vget_vset_ne _ _ _ _ _ h

@[simp] theorem State.setLink_link_same (l : LinkSt) (h : i < 16) : (s.setLink i l).link i = l := by
  simp [State.link, State.setLink, h]

theorem State.setLink_link_ne (l : LinkSt) (h : i ≠ j) : (s.setLink i l).link j = s.link j := by
  by_cases hj : j < 16
  · simp [State.link, State.setLink, hj, Vector.getElem_setIfInBounds_ne, h]
  · simp [State.link, hj]

@[simp] theorem State.onLink_link_same (f : LinkSt → LinkSt) (h : i < 16) : (s.onLink i f).link i = f (s.link i) :=
  s.setLink_link_same _ h

theorem State.onLink_link_ne (f : LinkSt → LinkSt) (h : i ≠ j) : (s.onLink i f).link j = s.link j := s.setLink_link_ne _ h

end

/-! ## The frame of a chain of updates -/

/-- Every register outside `w` and the side registers holds in `r` what it holds in `s`. -/
def RegsKept (s : State) (w : List Nat) (r : Cells 32) : Prop := ∀ a, a ∉ w → sideReg a = false → cellsGet regReset r a = s.rd a

theorem Keeps.of {s t : State} {w : List Nat} (hr : RegsKept s w t.reg) (hs : t.shadow = s.shadow) (hm : t.mem = s.mem) : Keeps s t w :=
  ⟨hr, fun a => by rw [State.srd, hs, State.srd], fun a => by rw [State.mem8, hm, State.mem8]⟩

theorem Keeps.regs {s t : State} {w : List Nat} (h : Keeps s t w) : RegsKept s w t.reg := h.1

@[simp] theorem regsKept_refl (s : State) (w : List Nat) : RegsKept s w s.reg := fun _ _ _ => rfl

theorem Keeps.refl (s : State) (w : List Nat) : Keeps s s w := ⟨fun _ _ _ => rfl, fun _ => rfl, fun _ => rfl⟩

theorem Keeps.trans {s t u : State} {w : List Nat} (h1 : Keeps s t w) (h2 : Keeps t u w) : Keeps s u w :=
  ⟨fun a ha hs => (h2.1 a ha hs).trans (h1.1 a ha hs), fun a => (h2.2.1 a).trans (h1.2.1 a), fun a => (h2.2.2 a).trans (h1.2.2 a)⟩

theorem Keeps.mono {s t : State} {v w : List Nat} (h : Keeps s t v) (hvw : v ⊆ w) : Keeps s t w :=
  ⟨fun a ha => h.1 a (fun hv => ha (hvw hv)), h.2⟩

/-- Two banks that agree outside `w` and the side registers are kept alike. -/
theorem regsKept_congr {s x y : State} {w : List Nat} (h : ∀ a, a ∉ w → sideReg a = false → y.rd a = x.rd a) :
    RegsKept s w y.reg ↔ RegsKept s w x.reg :=
  ⟨fun hy a ha hs => (h a ha hs).symm.trans (hy a ha hs), fun hx a ha hs => (h a ha hs).trans (hx a ha hs)⟩

section
variable {s x : State} {w : List Nat}

@[simp] theorem regsKept_wr {k : Nat} {v : Word} (hk : k ∈ w) : RegsKept s w (x.wr k v).reg ↔ RegsKept s w x.reg :=
  regsKept_congr fun _ ha _ => State.rd_wr_ne _ _ _ _ (fun h => ha (h ▸ hk))

@[simp] theorem regsKept_wrN {k v : Nat} (hk : k ∈ w) : RegsKept s w (x.wrN k v).reg ↔ RegsKept s w x.reg := regsKept_wr hk

@[simp] theorem regsKept_put {k hi lo v : Nat} (hk : k ∈ w) : RegsKept s w (x.put k hi lo v).reg ↔ RegsKept s w x.reg := regsKept_wr hk

@[simp] theorem regsKept_setBit {k i : Nat} {b : Bool} (hk : k ∈ w) : RegsKept s w (x.setBit k i b).reg ↔ RegsKept s w x.reg :=
  regsKept_wr hk

@[simp] theorem regsKept_bump {k hi lo n : Nat} (hk : k ∈ w) : RegsKept s w (x.bump k hi lo n).reg ↔ RegsKept s w x.reg :=
  regsKept_wr hk

@[simp] theorem regsKept_raiseWith {src k i : Nat} {d : List Byte} {a b : Bool} (he : src < 256) :
    RegsKept s w (x.raiseWith ⟨src, k, i⟩ d a b).reg ↔ RegsKept s w x.reg :=
  regsKept_congr fun _ _ hs => State.raiseWith_rd _ _ _ _ _ _ he (sideReg_cross hs)

@[simp] theorem regsKept_raise {src k i : Nat} (he : src < 256) : RegsKept s w (x.raise ⟨src, k, i⟩).reg ↔ RegsKept s w x.reg :=
  regsKept_raiseWith he

@[simp] theorem regsKept_sendFault {m : FltMsg} : RegsKept s w (x.sendFault m).reg ↔ RegsKept s w x.reg :=
  regsKept_congr fun _ _ hs => State.sendFault_rd _ _ _ (sideReg_cross hs) (sideReg_drop hs)

@[simp] theorem regsKept_fault {k i a : Nat} : RegsKept s w (x.fault k i a).reg ↔ RegsKept s w x.reg := regsKept_sendFault

@[simp] theorem regsKept_reservedWrite : RegsKept s w x.reservedWrite.reg ↔ RegsKept s w x.reg :=
  regsKept_congr fun a _ hs => x.reservedWrite_near.2 a hs

end

section
variable {s x : State} {w : List Nat} (h : Keeps s x w)
include h

theorem Keeps.put {k : Nat} (hi lo v : Nat) (hk : k ∈ w) : Keeps s (x.put k hi lo v) w := h.trans (.of (by simp [hk]) rfl rfl)

theorem Keeps.wr {k : Nat} (v : Word) (hk : k ∈ w) : Keeps s (x.wr k v) w := h.trans (.of (by simp [hk]) rfl rfl)

theorem Keeps.setBit {k : Nat} (i : Nat) (b : Bool) (hk : k ∈ w) : Keeps s (x.setBit k i b) w := h.trans (.of (by simp [hk]) rfl rfl)

theorem Keeps.bump {k : Nat} (hi lo n : Nat) (hk : k ∈ w) : Keeps s (x.bump k hi lo n) w := h.trans (.of (by simp [hk]) rfl rfl)

theorem Keeps.raiseWith {src k i : Nat} (d : List Byte) (a b : Bool) (he : src < 256) : Keeps s (x.raiseWith ⟨src, k, i⟩ d a b) w :=
  h.trans (.of (by simp [he]) (by simp) (by simp))

theorem Keeps.raise {src k i : Nat} (he : src < 256) : Keeps s (x.raise ⟨src, k, i⟩) w := h.raiseWith _ _ _ he

theorem Keeps.sendFault (m : FltMsg) : Keeps s (x.sendFault m) w := h.trans (.of (by simp) (by simp) (by simp))

theorem Keeps.fault (k i a : Nat) : Keeps s (x.fault k i a) w := h.sendFault _

end

/-! ## Events raised -/

theorem State.evq_subset_raise (s : State) (e : Ev) : s.evq ⊆ (s.raise e).evq := by
  obtain ⟨l, _, h⟩ := s.raise_evq e
  rw [h]
  exact List.subset_append_left _ _

theorem State.evq_subset_raiseWith (s : State) (e : Ev) (d : List Byte) (i w : Bool) : s.evq ⊆ (s.raiseWith e d i w).evq := by
  have hp : ∀ (x : State) (p : EvPulse), x.evq ⊆ (x.pulse p).evq := fun x p => by
    obtain ⟨l, _, h⟩ := x.pulse_evq p
    rw [h]
    exact List.subset_append_left _ _
  simp only [State.raiseWith]
  split
  · exact hp _ _
  · exact List.Subset.trans (hp _ _) (hp _ _)

theorem Raised.mono {s t u : State} {e : Ev} (h : Raised s t e) (hq : t.evq ⊆ u.evq) : Raised s u e := fun hf =>
  let ⟨p, hp, he⟩ := h hf
  ⟨p, hq hp, he⟩

theorem State.raiseWith_raised (s : State) (e : Ev) (d : List Byte) (i w : Bool) : Raised s (s.raiseWith e d i w) e := by
  intro hf
  have hl : (s.evq.filter (fun q => q.ev.src = e.src)).length < pulseRoom := by simpa [State.pulseFits] using hf
  simp only [State.raiseWith, hf, if_true, State.pulse, hl]
  exact ⟨_, List.mem_append_right _ (List.mem_singleton_self _), rfl⟩

theorem State.raise_raised (s : State) (e : Ev) : Raised s (s.raise e) e := s.raiseWith_raised e _ _ _

/-- An event raised on a state `x` with the crossing of `s`. -/
theorem Raised.of {s x t : State} {e : Ev} (ht : (x.raise e).evq ⊆ t.evq) (hx : x.evq = s.evq) : Raised s t e := by
  have h : Raised s (x.raise e) e := by
    have := x.raise_raised e
    simpa only [Raised, State.pulseFits, hx] using this
  exact h.mono ht

/-! ## Fault messages sent -/

theorem insertFault_subset (m : FltMsg) (l : List FltMsg) : l ⊆ insertFault m l := fun _ hx => (mem_insertFault _ _ _).mpr (.inr hx)

@[simp] theorem State.raise_flt_inq (s : State) (e : Ev) : (s.raise e).flt.inq = s.flt.inq := congrArg FltSt.inq (s.raise_flt e)

theorem State.inq_subset_sendFault (s : State) (m : FltMsg) : s.flt.inq ⊆ (s.sendFault m).flt.inq := by
  unfold State.sendFault
  split
  · rw [State.raise_flt, State.bump_flt]
    exact List.Subset.refl _
  · exact insertFault_subset _ _

theorem Reported.mono {t u : State} {k i a : Nat} (h : Reported t k i a) (hq : t.flt.inq ⊆ u.flt.inq) : Reported u k i a :=
  let ⟨m, hm, hk⟩ := h
  ⟨m, hq hm, hk⟩

/-- CLASSUP raises a class and never lowers one (R358). -/
theorem classUp_ne_zero {rxn : Word} {c : Nat} (hc : c ≠ 0) : classUp rxn c ≠ 0 := by
  unfold classUp
  split <;> omega

/-- A message that names kind `k` and enters the collector's queue reports it. -/
theorem State.sendFault_reported (s : State) (k cls sev i a : Nat) (h : s.flt.inq.length < 256 ∨ cls ≠ 0) :
    Reported (s.sendFault (s.faultMsg k cls sev i a)) k i a := by
  refine ⟨_, State.sendFault_has s _ (h.imp_right classUp_ne_zero), ?_, rfl, rfl⟩
  simp only [State.faultMsg]
  omega

theorem State.fault_reported (s : State) (k i a : Nat) (h : s.flt.inq.length < 256 ∨ fltKindWord k / 65536 % 4 ≠ 0) :
    Reported (s.fault k i a) k i a := s.sendFault_reported k _ _ i a h

theorem State.inq_subset_fault (s : State) (k i a : Nat) : s.flt.inq ⊆ (s.fault k i a).flt.inq := s.inq_subset_sendFault _

/-! ## Writes of a requester -/

/-- `t` is `u` but for the side registers, and the crossing of events has lost nothing of `u`. -/
structure State.Counted (t u : State) : Prop where
  near : t.near u
  evq : u.evq ⊆ t.evq

theorem State.Counted.refl (s : State) : s.Counted s := ⟨s.near_refl, List.Subset.refl _⟩

theorem State.reservedWrite_counted (s : State) : s.reservedWrite.Counted s := ⟨s.reservedWrite_near,
  (s.bump Reg.HST_RSVWR 15 0 1).evq_subset_raise _⟩

section
variable {t u s : State} (h : t.Counted u)
include h

theorem State.Counted.rd {a : Nat} (ha : sideReg a = false) : t.rd a = u.rd a := h.near.2 a ha

theorem State.Counted.keeps {w : List Nat} (hk : Keeps s u w) : Keeps s t w := hk.trans (State.keeps_of_near w h.near)

theorem State.Counted.raised {e : Ev} (hr : Raised s u e) : Raised s t e := hr.mono h.evq

theorem State.Counted.fields : ∃ r q, t = { u with reg := r, evq := q } := h.near.1

end

/-- A host's write of a mapped register is the register's own action on the bits that exist, with the count of reserved bits. -/
theorem State.hostWrite_counted (s : State) (p : Port) (a k : Nat) (v : Word) (r : RegRow) (hup : s.fabricUp = true)
    (hm : s.mapped a = true) (ha : plainAddr a = true) (hfw : s.fwBusy p a = false) (hk : s.keyOf p a = some k)
    (hr : rowOfKey k = some r) : (s.hostWrite p a v).Counted (s.writeKey p k (v &&& word r.known)) := by
  simp only [plainAddr, within, Bool.and_eq_true, Bool.not_eq_true', Bool.and_eq_false_iff, decide_eq_true_eq, decide_eq_false_iff_not,
    beq_iff_eq, bne_iff_ne] at ha
  obtain ⟨⟨⟨h4, hb⟩, hc⟩, hs⟩ := ha
  have h6 : ¬ (0xFC00 ≤ a) := by omega
  rw [State.hostWrite_fabric s p a v h4 hfw]
  simp only [State.fabricWrite, hup, hm, hk, hs, h6, Bool.false_eq_true, if_false, Bool.not_true, decide_false, Bool.or_false,
    State.knownBits_row s p a k r hm (by omega) hb hk hr]
  split
  · exact State.Counted.refl _
  · exact State.reservedWrite_counted _

/-- A write that sets no reserved bit is the register's own action. -/
theorem State.hostWrite_whole (s : State) (p : Port) (a k : Nat) (v : Word) (r : RegRow) (hup : s.fabricUp = true)
    (hm : s.mapped a = true) (ha : plainAddr a = true) (hfw : s.fwBusy p a = false) (hk : s.keyOf p a = some k)
    (hr : rowOfKey k = some r) (hv : v &&& ~~~word r.known = 0) : s.hostWrite p a v = s.writeKey p k (v &&& word r.known) := by
  simp only [plainAddr, within, Bool.and_eq_true, Bool.not_eq_true', Bool.and_eq_false_iff, decide_eq_true_eq, decide_eq_false_iff_not,
    beq_iff_eq, bne_iff_ne] at ha
  obtain ⟨⟨⟨h4, hb⟩, hc⟩, hs⟩ := ha
  have h6 : ¬ (0xFC00 ≤ a) := by omega
  rw [State.hostWrite_fabric s p a v h4 hfw]
  simp [State.fabricWrite, hup, hm, hk, hs, h6, State.knownBits_row s p a k r hm (by omega) hb hk hr, hv]

/-- A write of a register with an action `u` of its own. -/
theorem State.hostWrite_fixed_counted (s : State) (p : Port) (a k : Nat) (v : Word) (r : RegRow) (u : State) (hup : s.fabricUp = true)
    (hm : s.mapped a = true) (ha : plainAddr a = true) (hfw : s.fwBusy p a = false) (hk : s.keyOf p a = some k)
    (hr : rowOfKey k = some r) (hf : followsPair k = false) (hc : k ≠ Reg.CW_CMD) (hn : within k 0x2500 0x2600 = false)
    (hw : s.writeFixed p k (v &&& word r.known) = some u) : (s.hostWrite p a v).Counted u := by
  have := s.hostWrite_counted p a k v r hup hm ha hfw hk hr
  rwa [State.writeKey_fixed s p k _ u hf hc hn hw] at this

/-- A write that follows R173, where it acts at once. -/
theorem State.hostWrite_now_counted (s : State) (p : Port) (a k : Nat) (v : Word) (r : RegRow) (hup : s.fabricUp = true)
    (hm : s.mapped a = true) (ha : plainAddr a = true) (hfw : s.fwBusy p a = false) (hk : s.keyOf p a = some k)
    (hr : rowOfKey k = some r) (hf : followsPair k = true) (hn : s.actsNow = true) :
    (s.hostWrite p a v).Counted (s.writePair k (v &&& word r.known)) := by
  have := s.hostWrite_counted p a k v r hup hm ha hfw hk hr
  rwa [State.writeKey_now s p k _ hf hn] at this

end Sys2Proof.Machine
end

section
/-!
PROOFS. The queue and the whole machine: the step (O1, O2), the answer of every command (O3), and what a reset leaves (O4).
-/

namespace Sys2Proof.Machine

/-! ## The step -/

/-- Settles O1: `step` is defined by the front of the queue. -/
theorem stepRunsFront : Obligations.StepRunsFront := fun _ _ _ => rfl

/-- What CK_CTL cycles change of the time: MONO, the RTC and WALL. -/
theorem State.ticks_time (s : State) (n : Nat) :
    (s.ticks n).time.mono = s.time.mono + BitVec.ofNat 64 n ∧ (s.ticks n).time.fmono = s.time.fmono ∧
      (s.ticks n).time.gfc = s.time.gfc ∧ (s.ticks n).time.fcnt = s.time.fcnt ∧ (s.ticks n).time.lf = s.time.lf ∧
      (s.ticks n).time.grid = s.time.grid ∧ (s.ticks n).time.gaits = s.time.gaits ∧ (s.ticks n).time.step = s.time.step ∧
      (s.ticks n).time.slew = s.time.slew := by
  simp [State.ticks, TimeSt.wallTicks]

theorem step_nil {s : State} (h : s.pending = []) : step s = .next s.tick := by simp only [step, h]

/-- Settles O2: a tick moves MONO, the RTC and WALL, and the frame's end stops it. -/
theorem idleStepIsOneCycle : Obligations.IdleStepIsOneCycle := by
  intro s hq
  rw [step_nil hq, State.tick]
  refine ⟨fun hin => ?_, fun hout => ?_⟩
  · rw [if_pos hin]
    exact ⟨(s.ticks 1).time, rfl, s.ticks_time 1⟩
  · rw [if_neg (by simp [hout])]

/-! ## Every command answers a next state -/

/-- The outcome is a next state. -/
def Answers (o : Host.Outcome State Fault Refusal) : Prop := ∃ t, o = .next t

theorem answers_next (t : State) : Answers (.next t) := ⟨t, rfl⟩

theorem answers_ite {p : Prop} [Decidable p] {t : State} {o : Host.Outcome State Fault Refusal} (ho : Answers o) :
    Answers (if p then .next t else o) := by
  split
  · exact answers_next _
  · exact ho

/-- The classification splits on the head of the queue, its kind and its class. -/
theorem execFaultClassify_answers (s : State) : Answers (execFaultClassify s) := by
  unfold execFaultClassify
  split
  · exact answers_next _
  refine answers_ite ?_
  extract_lets t m
  split
  · exact answers_next _
  extract_lets
  refine answers_ite ?_
  extract_lets
  exact answers_ite (answers_next _)

/-- By the form of each command's meaning: a next state at once, behind one guard, or behind a match. -/
theorem exec_answers (c : Instr) (s : State) : Answers (exec c s) := by
  cases c
  case powerOn | powerFail | wideValueRead | registerWrite | shdWrite | wallStep | wallSlew | captureEdge | captureRead |
    commitRequest | commitDiscard | paddockStart | paddockData | paddockPageDone | paddockSessionExpiry | linkRetrain |
    linkEnable | hregWrite | hregRead | laneTestStart | leCheck | contextWindowWrite | setstate | handover | traceArm |
    traceStop | traceForce | traceDataRead | killRelease | stageStartCommand | stageStopCommand | stageClearCommand |
    phaseRevive | stringReconnect | decisionSubmit | feederSnap | seqgo | testDacWrite | headTestWrite | calZero | calFs |
    calAbort | meterSnap | claimInChange | remountNow | pairOos | tokenRequest | tokenRelease | faultRelease | eventClear |
    injUnlock | injLock | linkInjection | eccInjectionArm | laneInjectionArm | faultMessageInjection | recordSelect |
    recordDataRead | saddlebagSelect | saddlebagDataRead | saddlebagClear | saddlebagClearAll | updOpen | updData |
    updActivate | updAbort | updFallback | windowSelect | windowDataRead | pwmKillDeassert =>
    exact answers_next _
  case resetAssert | resetRelease | softwareReset | clkLoss | clkFreq | fwWatchdogExpiry | liveRestartTimeout | upstreamFrame |
    upstreamFrameMissing | linkDown | linkTrainingStep | loopRun | backgroundLaneTest | lstestDone | traceDone |
    stagePeriodStart | pwmKill | spurEnd | spurLockoutEnd | moduleInputFailed | moduleInputRestored | busDroop |
    holdupRecover | holdupEnd | chargeResume | cvToFloat | stringPrechargeDone | phaseDrop | pgTimeout | pgAssert |
    feederFastTrip | feederInrushTimeout | feederToggleDone | sarResult | sequenceTrigger | rotationCheckDone |
    calStaleTimeout | wmonEntry | hkSlotDecision | hkSensor | hkCheck | thermWarn | thermWarnClear | thermShut | thermRate |
    hkSupply | tandemDown | claimInWaitExpiry | dualActive | syncFail | syncGroupCopy | remountTimer | maintExpired |
    retryCountClear | faultMinTimeEnd | injIdleLock | smbusStart | smbusTimeout | alertResponse | spiFrameStart | spiFrameEnd |
    fwConfirmed | fwConfirmTimeout | overlayWrite | tandemWaitExpiry | fltLifeconFlush =>
    exact answers_ite (answers_next _)
  case faultClassify => exact execFaultClassify_answers s
  case gaitFrameTurnover | softstartEntry | softstartTimeout | commitChecksDone | paddockDownloadDone | liveRestartComplete |
    downstreamFrame | controlRequestResend | retrainWaitExpiry | leCheckDone | schedEntryAccess | traceTick | localEdge |
    phaseFailed | moduleShed | battEod | precisionResult | rotationStepStart | calAverageDone | calRecordWriteDone |
    comparatorTick | cmpFailed | tandemFrame | takeover | syncPhaseDone | resolutionTimeout | remountRetry =>
    simp -zeta only [exec, execGaitFrameTurnover, execSoftstartEntry, execSoftstartTimeout, execCommitChecksDone,
      execPaddockDownloadDone, execLiveRestartComplete, execDownstreamFrame, execControlRequestResend, execRetrainWaitExpiry,
      execLeCheckDone, execSchedEntryAccess, execTraceTick, execLocalEdge, execPhaseFailed, execModuleShed, execBattEod,
      execPrecisionResult, execRotationStepStart, execCalAverageDone, execCalRecordWriteDone, execComparatorTick,
      execCmpFailed, execTandemFrame, execTakeover, execSyncPhaseDone, execResolutionTimeout, execRemountRetry]
    repeat' first | exact answers_next _ | split | extract_lets
  case swapOrder | roleSwap | remountDwellEnd | revertTakeback | healthRemount | faultFollowUp | scrubRead | eventRaise |
    recordOffer | recordStore | logMirror | recordSelectDone | saddlebagWrite | smbusAddress | smbusWriteByte | smbusReadByte |
    smbusStop | spiWrite | spiRead | spiWriteFixed | spiReadFixed | spiStatus | spiRefused | updHeaderCheck |
    updPageProgrammed | updVerifyDone | updExpired =>
    simp -zeta only [exec, execSwapOrder, execRoleSwap, execRemountDwellEnd, execRevertTakeback, execHealthRemount,
      execFaultFollowUp, execScrubRead, execEventRaise, execRecordOffer, execRecordStore, execLogMirror, execRecordSelectDone,
      execSaddlebagWrite, execSmbusAddress, execSmbusWriteByte, execSmbusReadByte, execSmbusStop, execSpiWrite, execSpiRead,
      execSpiWriteFixed, execSpiReadFixed, execSpiStatus, execSpiRefused, execUpdHeaderCheck, execUpdPageProgrammed,
      execUpdVerifyDone, execUpdExpired]
    repeat' first | exact answers_next _ | split | extract_lets

/-- Settles O3: `exec_answers`. -/
theorem everyCommandAnswersNext : Obligations.EveryCommandAnswersNext := exec_answers

/-! ## What a reset leaves -/

/-- Settles O4: each value is read off the reset state. -/
theorem resetLeaves : Obligations.ResetLeaves := by
  refine ⟨rfl, rfl, rfl, rfl, rfl, rfl, rfl, by decide, by decide, by decide, by decide, fun _ => rfl, ?_⟩
  decide

end Sys2Proof.Machine
end

section
/-!
PROOFS. The invariant of a unit that is held (O5): what a command may do to one (`State.Inert`), and the reset's outputs.
-/

namespace Sys2Proof.Machine

/-- A local output in its safe state. -/
def LocSt.safe (c : LocSt) : Bool := c.a == .safe && c.b == .safe

/-- What a command may do to a held unit: the unit and the queue stay, and local outputs that are safe stay safe. -/
structure State.Inert (s t : State) : Prop where
  unit : t.unit = s.unit
  pending : t.pending = s.pending
  locals : s.loc.toList.all LocSt.safe = true → t.loc.toList.all LocSt.safe = true

theorem State.Inert.refl (s : State) : s.Inert s := ⟨rfl, rfl, id⟩

theorem State.Inert.trans {s t u : State} (h : s.Inert t) (g : t.Inert u) : s.Inert u :=
  ⟨g.unit.trans h.unit, g.pending.trans h.pending, g.locals ∘ h.locals⟩

/-- An update that leaves the unit, the queue and the local channels. -/
theorem State.Inert.of {s t : State} (hu : t.unit = s.unit) (hp : t.pending = s.pending) (hl : t.loc = s.loc) : s.Inert t :=
  ⟨hu, hp, by rw [hl]; exact id⟩

theorem State.Inert.ite {s t u : State} {p : Prop} [Decidable p] (ht : s.Inert t) (hu : s.Inert u) : s.Inert (if p then t else u) := by
  split
  · exact ht
  · exact hu

theorem State.Inert.foldl {α : Type} (f : State → α → State) (hf : ∀ (s : State) x, s.Inert (f s x)) (l : List α) (s : State) :
    s.Inert (l.foldl f s) := by
  induction l generalizing s with
  | nil => exact .refl s
  | cons x l ih => exact (hf s x).trans (ih _)

theorem State.Inert.heldSafe {s t : State} (h : s.Inert t) (hs : s.heldSafe = true) : t.heldSafe = true := by
  obtain ⟨hu, hp, hl⟩ := h
  simp only [State.heldSafe, State.held, State.outputsAreSafe, Bool.and_eq_true, hu, hp] at hs ⊢
  obtain ⟨⟨hheld, ho, hloc⟩, hq⟩ := hs
  exact ⟨⟨hheld, ho, hl hloc⟩, hq⟩

section
variable {s x : State}

theorem State.Inert.put (h : s.Inert x) (a hi lo v : Nat) : s.Inert (x.put a hi lo v) := h.trans (.of rfl rfl rfl)
theorem State.Inert.wr (h : s.Inert x) (a : Nat) (v : Word) : s.Inert (x.wr a v) := h.trans (.of rfl rfl rfl)
theorem State.Inert.setBit (h : s.Inert x) (a i : Nat) (b : Bool) : s.Inert (x.setBit a i b) := h.trans (.of rfl rfl rfl)
theorem State.Inert.bump (h : s.Inert x) (a hi lo n : Nat) : s.Inert (x.bump a hi lo n) := h.trans (.of rfl rfl rfl)
theorem State.Inert.onLink (h : s.Inert x) (n : Nat) (f : LinkSt → LinkSt) : s.Inert (x.onLink n f) := h.trans (.of rfl rfl rfl)
theorem State.Inert.onPh (h : s.Inert x) (n : Nat) (f : PhSt → PhSt) : s.Inert (x.onPh n f) := h.trans (.of rfl rfl rfl)
theorem State.Inert.onFd (h : s.Inert x) (n : Nat) (f : FdrSt → FdrSt) : s.Inert (x.onFd n f) := h.trans (.of rfl rfl rfl)
theorem State.Inert.onSg (h : s.Inert x) (n : Nat) (f : StgSt → StgSt) : s.Inert (x.onSg n f) := h.trans (.of rfl rfl rfl)
theorem State.Inert.raiseWith (h : s.Inert x) (e : Ev) (d : List Byte) (i w : Bool) : s.Inert (x.raiseWith e d i w) :=
  h.trans (.of (by simp) (by simp) (by simp))
theorem State.Inert.raise (h : s.Inert x) (e : Ev) : s.Inert (x.raise e) := h.raiseWith e _ _ _
theorem State.Inert.fault (h : s.Inert x) (k i a : Nat) : s.Inert (x.fault k i a) := h.trans (.of (by simp) (by simp) (by simp))

/-- A change of a local channel that leaves a safe output safe. -/
theorem State.Inert.onLc (h : s.Inert x) (n : Nat) (f : LocSt → LocSt) (hf : ∀ c, c.safe = true → (f c).safe = true) :
    s.Inert (x.onLc n f) := by
  refine h.trans ⟨rfl, rfl, fun hs => ?_⟩
  simp only [State.onLc, vset, List.all_eq_true] at hs ⊢
  intro c hc
  by_cases hn : n < 16
  · rw [Vector.toList_setIfInBounds] at hc
    rcases List.mem_or_eq_of_mem_set hc with hc | rfl
    · exact hs c hc
    · refine hf _ (hs _ ?_)
      simp [State.lc, vget, hn]
  · rw [Vector.setIfInBounds_eq_of_size_le (by omega)] at hc
    exact hs c hc

end

section
variable (s : State)

theorem State.inert_sendReflex (n act mask : Nat) : s.Inert (s.sendReflex n act mask) := by
  unfold State.sendReflex
  refine .ite ?_ (.refl s)
  extract_lets l m l'
  split
  · exact .of rfl rfl rfl
  · exact .of rfl rfl rfl

theorem State.inert_noteEdge (i ev t : Nat) : s.Inert (s.noteEdge i ev t) := by
  unfold State.noteEdge
  split
  · exact .ite (.of rfl rfl rfl) (.refl s)
  · exact .ite (.refl s) (.of rfl rfl rfl)

theorem State.inert_noteLocal (n ev t : Nat) : s.Inert (s.noteLocal n ev t) := .ite (s.inert_noteEdge ..) (.refl s)

theorem State.inert_forceLocal (n : Nat) : s.Inert (s.forceLocal n) :=
  .setBit (.onLc (s.inert_noteLocal ..) _ _ (fun _ _ => rfl)) ..

theorem State.inert_discardEdges (i : Nat) : s.Inert (s.discardEdges i) := by
  have h := (State.Inert.refl s).onPh i (fun p => { p with pulses := [] })
  exact .ite (h.onLc _ _ (fun _ => id)) (h.onLink ..)

theorem State.inert_reflexPhases (act : Nat) (is : List Nat) : s.Inert (s.reflexPhases act is) :=
  .foldl _ (fun s _ => .ite (.refl s) (s.inert_sendReflex ..)) _ s

theorem State.inert_forcePhases (is : List Nat) (cause : Nat) : s.Inert (s.forcePhases is cause) := by
  refine .trans (.foldl _ (fun s i => ?_) is s) (State.inert_reflexPhases ..)
  extract_lets s1 s2 s3
  have h : s.Inert s2 := (s.inert_discardEdges i).trans (.ite (State.inert_forceLocal ..) (State.inert_noteEdge ..))
  exact .ite (h.setBit ..) (((h.setBit ..).put ..).put ..)

theorem State.inert_stageSafe (k cause : Nat) (fwd : Bool) : s.Inert (s.stageSafe k cause fwd) := by
  unfold State.stageSafe
  extract_lets st s1 s2 s3 s4
  have h1 : s.Inert s1 := .of rfl rfl rfl
  have h2 : s1.Inert s2 := s1.inert_forcePhases ..
  have h4 : s2.Inert s4 := .of rfl rfl rfl
  have h5 : s4.Inert (s4.countPhases k) := .of rfl rfl rfl
  exact .ite (.refl s) ((((h1.trans h2).trans h4).trans h5).raise _)

theorem State.inert_stageFaultSafe (k cause : Nat) (fwd : Bool) : s.Inert (s.stageFaultSafe k cause fwd) :=
  .ite (s.inert_stageSafe ..) (.refl s)

theorem State.inert_forward (x : FwdItem) : s.Inert (s.forward x) :=
  .ite (.ite (.of rfl rfl rfl) (.refl s)) (.refl s)

theorem State.Inert.addAccess {s x : State} (h : s.Inert x) (n : Nat) (a : HeadAccess) : s.Inert (x.addAccess n a) := h.onLink ..

theorem State.inert_fdrSendHead (f : Nat) : s.Inert (s.fdrSendHead f) := by
  unfold State.fdrSendHead
  extract_lets d n
  refine .ite ?_ (.refl s)
  exact ((((State.Inert.refl s).addAccess ..).addAccess ..).addAccess ..).onFd ..

theorem State.inert_tripAgain (f cause : Nat) : s.Inert (s.tripAgain f cause) := .ite (.of rfl rfl rfl) (.refl s)

theorem State.inert_tripState (f cause : Nat) (fwd : Bool) : s.Inert (s.tripState f cause fwd) := by
  unfold State.tripState
  refine .ite ?_ (s.inert_tripAgain ..)
  extract_lets st s1 s2 s3 s4
  have h : s.Inert s3 := .of rfl rfl rfl
  exact ((h.raiseWith ..).fault ..).trans (State.inert_fdrSendHead ..)

theorem State.inert_fdrHeadDone (f : Nat) (ok : Bool) : s.Inert (s.fdrHeadDone f ok) := .ite (.of rfl rfl rfl) (.of rfl rfl rfl)

theorem State.inert_accessDone (n : Nat) (ok diff : Bool) (v : Word) : s.Inert (s.accessDone n ok diff v) := by
  unfold State.accessDone
  split
  · exact .refl s
  · extract_lets s1 s2 s3
    have h1 : s.Inert s1 := .of rfl rfl rfl
    have h : s.Inert s3 := by
      simp only [s3]
      split
      · exact .ite (.of rfl rfl rfl) (.of rfl rfl rfl)
      · exact h1.trans (s1.inert_fdrHeadDone ..)
      · exact h1
    exact .ite (h.raise _) h

theorem State.inert_dropAccesses (n : Nat) : s.Inert (s.dropAccesses n) := by
  refine ((s.inert_accessDone n false false 0).onLink n _).trans (.foldl _ (fun s a => ?_) _ _)
  exact ((State.Inert.refl s).onLink n _).trans (State.inert_accessDone ..)

theorem State.inert_linkSafe (n : Nat) : s.Inert (s.linkSafe n) := by
  refine ((s.inert_sendReflex ..).trans (.foldl _ (fun s k => ?_) _ _)).trans (.foldl _ (fun s f => ?_) _ _)
  · exact (s.inert_stageFaultSafe ..).trans (State.inert_forward ..)
  · exact .ite ((s.inert_tripState ..).trans (State.inert_forward ..)) (.refl s)

theorem State.inert_linkLost (n : Nat) : s.Inert (s.linkLost n) := by
  have h := (s.inert_dropAccesses n).onLink n (fun l => { l with
    edges := [], flight := [], cmds := [], cmdPos := 0, cmdFly := false, badRun := 0, dnRun := 0, digestOk := false })
  exact .ite h (h.trans (.foldl _ (fun s f => ((State.Inert.refl s).onFd ..).setBit ..) _ _))

theorem State.inert_trainTo (n st : Nat) : s.Inert (s.trainTo n st) := by
  unfold State.trainTo
  extract_lets s1 rs s2
  have h : s.Inert s2 := .of rfl rfl rfl
  exact .ite (h.trans (.foldl _ (fun s f => (State.Inert.refl s).onFd ..) _ _)) h

/-- A link that goes down touches its stages, feeders and accesses, and no output of the unit but to make it safe (R120). -/
theorem State.inert_linkDown (n reason : Nat) : s.Inert (s.linkDown n reason) := by
  unfold State.linkDown
  refine .raise (.trans (.trans (.ite (.refl s) ?_) (State.inert_linkLost ..)) (State.inert_trainTo ..)) _
  exact (s.inert_linkSafe n).fault ..

theorem State.inert_injected : s.Inert s.injected :=
  .trans (((State.Inert.refl s).bump ..).raiseWith ..) (.of rfl rfl rfl)

theorem State.inert_eccWrite (region addr : Nat) : s.Inert (s.eccWrite region addr) := by
  unfold State.eccWrite
  extract_lets a fs _ s1 _ _ _ s2
  have h2 : s.Inert ((s2.setBit Reg.INJ_STAT 29 false).wrN Reg.INJ_EADDR a) := .of rfl rfl rfl
  exact .ite (h2.trans (State.inert_injected _)) (.of rfl rfl rfl)

theorem State.inert_sbgStore (i : Nat) (p : Snap) : s.Inert (s.sbgStore i p) := by
  unfold State.sbgStore
  extract_lets x top gen toB c y z
  have h1 : s.Inert { s with sbg := vset s.sbg i z } := .of rfl rfl rfl
  exact .bump (h1.trans (State.inert_eccWrite ..)) ..

theorem State.inert_noteFinding : s.Inert s.noteFinding := by
  unfold State.noteFinding
  split
  · exact .of rfl rfl rfl
  · exact .refl s

theorem State.inert_advance (k : Nat) : s.Inert (s.advance k) := .of rfl rfl rfl

end

/-! ## The commands on a held unit -/

section
variable {s : State} (h : s.held = true)
include h

theorem State.held_life : s.unit.life = .off ∨ s.unit.life = .inReset := by simpa [State.held] using h

theorem State.held_runs : s.runs = false := by
  rcases State.held_life h with h | h <;> simp [State.runs, h]

theorem State.held_awake : s.awake = false := by
  rcases State.held_life h with h | h <;> simp [State.awake, h]

theorem State.held_paddock : s.inPaddock = false := by
  rcases State.held_life h with h | h <;> simp [State.inPaddock, h]

theorem State.held_live : s.live = false := by simp [State.live, State.held_runs h]

theorem State.held_fabric : s.fabricUp = false := by simp [State.fabricUp, State.held_runs h, State.held_paddock h]

theorem State.held_hk : s.hkOn = false := by
  rcases State.held_life h with h | h <;> simp [State.hkOn, State.runs, h]

/-- The register fabric of a held unit takes no write. -/
theorem State.held_hostWrite (p : Port) (a : Nat) (v : Word) : s.hostWrite p a v = s := by
  simp [State.hostWrite, State.fabricWrite, State.held_fabric h]

theorem State.held_hostRead (p : Port) (a : Nat) :
    s.hostRead p a = { s with readData := vset s.readData (portIdx p) 0 } := by
  simp [State.hostRead, State.fabricRead, State.held_fabric h]

theorem State.held_spi (op : Nat) (crc : Bool) : s.spiCommand op crc = none := by
  simp [State.spiCommand, State.held_fabric h]

end

theorem held_write {s : State} (h : s.held = true) (p : Port) (a : Nat) (v : Word) :
    ∃ t, Host.Outcome.next (s.hostWrite p a v) = (.next t : Host.Outcome State Fault Refusal) ∧ s.Inert t :=
  ⟨s, by rw [State.held_hostWrite h], .refl s⟩

theorem held_read {s : State} (h : s.held = true) (p : Port) (a : Nat) :
    ∃ t, Host.Outcome.next (s.hostRead p a) = (.next t : Host.Outcome State Fault Refusal) ∧ s.Inert t :=
  ⟨_, rfl, by rw [State.held_hostRead h]; exact .of rfl rfl rfl⟩

/-- A command whose guard fails changes nothing. -/
theorem held_idle {s : State} {o : Host.Outcome State Fault Refusal} (ho : o = .next s) : ∃ t, o = .next t ∧ s.Inert t :=
  ⟨s, ho, .refl s⟩

theorem execSoftwareReset_held {s : State} (h : s.held = true) (p : Port) (v : Word) (env : StartEnv) :
    execSoftwareReset p v env s = .next s := by
  simp only [execSoftwareReset, State.held_hostWrite h]
  exact if_neg (by simp [State.held_fabric h])

theorem inert_claimInChange (level : Bool) (s : State) : ∃ t, execClaimInChange level s = .next t ∧ s.Inert t := by
  refine ⟨_, rfl, ?_⟩
  refine .trans ?_ (State.inert_noteFinding _)
  split <;> refine .ite (.raise ?_ _) ?_ <;> exact .of rfl rfl rfl

/-- No command but a start, the power's failure and a reset moves an output of a held unit out of its safe state. -/
theorem exec_held (c : Instr) (s : State) (h : s.held = true) (hc : starts c = false) (hf : c ≠ .powerFail) (hr : c ≠ .resetAssert)
    (hp : ∀ src r, c ≠ .captureEdge src r) : ∃ t, exec c s = .next t ∧ s.Inert t := by
  have hlive := State.held_live h
  have hruns := State.held_runs h
  have hawake := State.held_awake h
  have hpad := State.held_paddock h
  have hfab := State.held_fabric h
  have hhk := State.held_hk h
  have hpad' : s.unit.life ≠ .paddock := by simpa [State.inPaddock] using hpad
  cases c
  case powerOn | resetRelease => cases hc
  case powerFail => exact absurd rfl hf
  case resetAssert => exact absurd rfl hr
  case captureEdge src r => exact absurd rfl (hp src r)
  case registerWrite | shdWrite | wallStep | wallSlew | commitRequest | commitDiscard | paddockStart | paddockData |
    linkRetrain | linkEnable | hregWrite | hregRead | laneTestStart | leCheck | contextWindowWrite | setstate | handover |
    traceArm | traceStop | traceForce | killRelease | stageStartCommand | stageStopCommand | stageClearCommand | phaseRevive |
    stringReconnect | decisionSubmit | feederSnap | seqgo | testDacWrite | headTestWrite | calZero | calFs | calAbort |
    meterSnap | remountNow | pairOos | tokenRequest | tokenRelease | faultRelease | eventClear | injUnlock | injLock |
    linkInjection | eccInjectionArm | laneInjectionArm | faultMessageInjection | recordSelect | saddlebagSelect |
    saddlebagClear | saddlebagClearAll | updOpen | updData | updActivate | updAbort | updFallback | windowSelect =>
    exact held_write h ..
  case wideValueRead | captureRead | traceDataRead | recordDataRead | saddlebagDataRead | windowDataRead =>
    exact held_read h ..
  case schedEntryAccess v =>
    cases v with
    | none => exact held_read h ..
    | some w => exact held_write h ..
  case softwareReset => exact held_idle (execSoftwareReset_held h ..)
  case paddockPageDone | paddockSessionExpiry => exact held_idle (congrArg _ (if_neg (by simp [hpad])))
  case gaitFrameTurnover => exact held_idle ((if_neg (by simp [hruns])).trans (if_neg (by simp [hpad'])))
  case spiWrite | spiRead | spiWriteFixed | spiReadFixed | spiStatus | spiRefused =>
    exact held_idle (by simp [exec, execSpiWrite, execSpiRead, execSpiWriteFixed, execSpiReadFixed, execSpiStatus, execSpiRefused,
      State.held_spi h])
  case pwmKillDeassert => exact ⟨_, rfl, (State.Inert.refl s).setBit ..⟩
  case claimInChange level => exact inert_claimInChange level s
  case saddlebagWrite =>
    simp only [exec, execSaddlebagWrite]
    split
    · exact held_idle rfl
    · split
      · exact held_idle rfl
      · split
        · exact ⟨_, rfl, s.inert_sbgStore ..⟩
        · exact held_idle rfl
  case downstreamFrame =>
    rcases State.held_life h with hl | hl
    · exact held_idle ((if_neg (by simp [hl])).trans (if_pos (by simp [hl])))
    · exact ⟨_, if_pos (by simp [hl]), s.inert_advance 1⟩
  case smbusAddress => exact ⟨_, if_pos (by simp [hfab]), .of rfl rfl rfl⟩
  case linkDown n cause =>
    simp only [exec, execLinkDown]
    split
    · exact ⟨_, rfl, s.inert_linkDown ..⟩
    · exact held_idle rfl
  case clkLoss | clkFreq | paddockDownloadDone | fwWatchdogExpiry | liveRestartTimeout | linkTrainingStep | loopRun |
    backgroundLaneTest | lstestDone | traceDone | stagePeriodStart | pwmKill | spurEnd | spurLockoutEnd | phaseFailed |
    moduleInputFailed | moduleInputRestored | busDroop | moduleShed | holdupRecover | holdupEnd | chargeResume | cvToFloat |
    stringPrechargeDone | phaseDrop | pgTimeout | pgAssert | feederFastTrip | feederInrushTimeout | feederToggleDone |
    sarResult | sequenceTrigger | rotationStepStart | rotationCheckDone | calAverageDone | calStaleTimeout | wmonEntry |
    cmpFailed | hkSlotDecision | hkSensor | hkCheck | thermWarn | thermWarnClear | thermShut | thermRate | hkSupply |
    tandemDown | claimInWaitExpiry | dualActive | syncFail | syncGroupCopy | resolutionTimeout | remountTimer |
    remountDwellEnd | maintExpired | faultFollowUp | retryCountClear | faultMinTimeEnd | injIdleLock | logMirror |
    alertResponse | spiFrameStart | spiFrameEnd | fwConfirmed | fwConfirmTimeout | overlayWrite | tandemWaitExpiry |
    fltLifeconFlush =>
    exact held_idle (if_neg (by simp [hlive, hruns, hawake, hpad, hpad', hfab, hhk]))
  case liveRestartComplete | upstreamFrame | upstreamFrameMissing | retrainWaitExpiry | precisionResult | comparatorTick |
    tandemFrame | syncPhaseDone | remountRetry | scrubRead | smbusStart | smbusReadByte | smbusStop | smbusTimeout | updExpired =>
    exact held_idle (if_pos (by simp [hlive, hruns, hawake, hfab]))
  case softstartEntry | softstartTimeout | commitChecksDone | controlRequestResend | leCheckDone | traceTick | localEdge |
    battEod | calRecordWriteDone | takeover | swapOrder | roleSwap | revertTakeback | healthRemount | faultClassify |
    eventRaise | recordOffer | recordStore | recordSelectDone | smbusWriteByte | updHeaderCheck | updPageProgrammed |
    updVerifyDone =>
    refine held_idle ?_
    simp [exec, execSoftstartEntry, execSoftstartTimeout, execCommitChecksDone, execControlRequestResend, execLeCheckDone, execTraceTick,
      execLocalEdge, execBattEod, execCalRecordWriteDone, execTakeover, execSwapOrder, execRoleSwap, execRevertTakeback,
      execHealthRemount, execFaultClassify, execEventRaise, execRecordOffer, execRecordStore, execRecordSelectDone, execSmbusWriteByte,
      execUpdHeaderCheck, execUpdPageProgrammed, execUpdVerifyDone, State.softOn, State.canSwap, hlive, hruns, hawake, hfab]
    split <;> simp

/-! ## The outputs of a reset -/

/-- The change of `outputsSafe` to a local channel. -/
def LocSt.toSafe (c : LocSt) : LocSt := { c with edges := [], a := .safe, b := .safe, due := none }

theorem State.all_loc (s : State) (p : LocSt → Bool) : s.loc.toList.all p = true ↔ ∀ n < 16, p (s.lc n) = true := by
  simp only [List.all_eq_true, Vector.mem_toList_iff, Vector.mem_iff_getElem, State.lc, vget]
  constructor
  · intro h n hn
    rw [Vector.getElem?_eq_getElem hn]
    exact h _ ⟨n, hn, rfl⟩
  · rintro h _ ⟨n, hn, rfl⟩
    have := h n hn
    rwa [Vector.getElem?_eq_getElem hn] at this

theorem State.onLc_lc (s : State) (n m : Nat) (f : LocSt → LocSt) :
    (s.onLc n f).lc m = if n = m ∧ m < 16 then f (s.lc m) else s.lc m := by
  by_cases hm : n = m
  · subst hm
    by_cases hn : n < 16
    · simp [State.onLc, State.lc, hn]
    · rw [if_neg (by simp [hn]), State.onLc, vset, Vector.setIfInBounds_eq_of_size_le (by omega)]
  · simp [State.onLc, State.lc, vget_vset_ne, hm]

/-- A function run on every channel of a list has run on each of them. -/
theorem State.foldl_onLc_lc (f : LocSt → LocSt) (l : List Nat) (s : State) (hl : l.Nodup) (m : Nat) :
    (l.foldl (fun s n => s.onLc n f) s).lc m = if m ∈ l ∧ m < 16 then f (s.lc m) else s.lc m := by
  induction l generalizing s with
  | nil => simp
  | cons n l ih =>
    obtain ⟨hn, hl⟩ := List.nodup_cons.mp hl
    rw [List.foldl_cons, ih _ hl, State.onLc_lc]
    by_cases hm : m = n
    · subst hm
      simp [hn]
    · simp [hm, Ne.symm hm]

theorem State.foldl_onLc (f : LocSt → LocSt) (l : List Nat) (s : State) :
    l.foldl (fun s n => s.onLc n f) s = { s with loc := (l.foldl (fun s n => s.onLc n f) s).loc } := by
  induction l generalizing s with
  | nil => rfl
  | cons n l ih => exact ih (s.onLc n f)

def State.localsSafe (s : State) : State := (List.range 16).foldl (fun s n => s.onLc n LocSt.toSafe) s

theorem State.localsSafe_all (s : State) : s.localsSafe.loc.toList.all LocSt.safe = true := by
  rw [State.all_loc]
  intro n hn
  rw [State.localsSafe, State.foldl_onLc_lc _ _ _ List.nodup_range, if_pos ⟨List.mem_range.mpr hn, hn⟩]
  rfl

theorem State.localsSafe_eq (s : State) : s.localsSafe = { s with loc := s.localsSafe.loc } := s.foldl_onLc LocSt.toSafe _

/-- What `outputsSafe` does after the local channels. -/
theorem State.outputsSafe_eq (s : State) : s.outputsSafe = { (s.localsSafe.wrN Reg.PG_STAT 0).put Reg.PAIR_CLAIM 15 0 0 with
    unit := { s.localsSafe.unit with claimOut := false, txIdle := true, shelfEn := false, booted := false } } := rfl

theorem State.outputsSafe_loc (s : State) : s.outputsSafe.loc = s.localsSafe.loc := by
  rw [s.outputsSafe_eq]
  generalize s.localsSafe = x
  rfl

@[simp] theorem State.outputsSafe_pending (s : State) : s.outputsSafe.pending = s.pending := by
  rw [s.outputsSafe_eq, s.localsSafe_eq]
  generalize s.localsSafe = x
  rfl

@[simp] theorem State.outputsSafe_unit (s : State) : s.outputsSafe.unit =
    { s.unit with claimOut := false, txIdle := true, shelfEn := false, booted := false } := by
  rw [s.outputsSafe_eq, s.localsSafe_eq]

theorem State.outputsSafe_locals (s : State) : s.outputsSafe.loc.toList.all LocSt.safe = true := by
  rw [s.outputsSafe_loc]
  exact s.localsSafe_all

theorem State.outputsSafe_areSafe (s : State) : s.outputsSafe.outputsAreSafe = true := by
  have h := s.outputsSafe_locals
  simp only [State.outputsAreSafe, State.outputsSafe_unit, Bool.not_false, Bool.true_and]
  exact h

theorem execPowerFail_safe (s : State) : ∃ t, execPowerFail s = .next t ∧ t.unit.life = .off ∧ t.outputsAreSafe = true ∧
    t.pending = s.pending := by
  have hs := s.outputsSafe_areSafe
  have hp := s.outputsSafe_pending
  unfold execPowerFail
  generalize s.outputsSafe = x at hs hp
  exact ⟨_, rfl, rfl, hs, hp⟩

theorem State.assertReset_safe (s : State) (cause : Nat) : (s.assertReset cause).unit.life = .inReset ∧
    (s.assertReset cause).outputsAreSafe = true ∧ (s.assertReset cause).pending = s.pending := by
  have hs := s.outputsSafe_areSafe
  have hp := s.outputsSafe_pending
  unfold State.assertReset
  generalize s.outputsSafe = x at hs hp
  exact ⟨rfl, hs, hp⟩

/-- A command that is not a start keeps a held unit held with its outputs safe. -/
theorem exec_heldSafe (c : Instr) (s : State) {t : State} (h : s.heldSafe = true) (hc : starts c = false) (he : exec c s = .next t) :
    t.heldSafe = true := by
  have hparts := h
  simp only [State.heldSafe, Bool.and_eq_true] at hparts
  obtain ⟨⟨hheld, hout⟩, hq⟩ := hparts
  by_cases hf : c = .powerFail
  · subst hf
    obtain ⟨t', ht', h1, h2, h3⟩ := execPowerFail_safe s
    obtain rfl : t' = t := by simpa [exec, ht'] using he
    simp [State.heldSafe, State.held, h1, h2, h3, hq]
  by_cases hr : c = .resetAssert
  · subst hr
    simp only [exec, execResetAssert] at he
    split at he <;> obtain rfl := Host.Outcome.next.inj he
    · exact h
    · obtain ⟨h1, h2, h3⟩ := s.assertReset_safe 1
      simp [State.heldSafe, State.held, h1, h2, h3, hq]
  by_cases hp : ∃ src r, c = .captureEdge src r
  · obtain ⟨src, r, rfl⟩ := hp
    have hawake : ({ s with unit := { s.unit with fdrPin := r } } : State).awake = false := State.held_awake hheld
    simp only [exec, execCaptureEdge] at he
    split at he <;> simp only [hawake, State.held_awake hheld] at he <;> obtain rfl := Host.Outcome.next.inj he <;> exact h
  obtain ⟨t', ht', hi⟩ := exec_held c s hheld hc hf hr (fun src r hcap => hp ⟨src, r, hcap⟩)
  obtain rfl : t' = t := by rw [ht'] at he; cases he; rfl
  exact hi.heldSafe h

/-- Settles O5: a command on a held unit is inert (`exec_held`), but for the power's failure and a reset, which make the outputs safe, and
for the feeder's capture pin, which no output follows. -/
theorem heldUnitStaysSafe : Obligations.HeldUnitStaysSafe := by
  intro s t h hstep
  cases hq : s.pending with
  | nil =>
    rw [step_nil hq] at hstep
    cases hstep
    have : s.Inert s.tick := .ite (.of rfl rfl rfl) (.refl s)
    exact this.heldSafe h
  | cons c rest =>
    have hs : ({ s with pending := rest } : State).heldSafe = true ∧ starts c = false := by
      simp only [State.heldSafe, hq, List.all_cons, Bool.and_eq_true, Bool.not_eq_true'] at h ⊢
      exact ⟨⟨h.1, h.2.2⟩, h.2.1⟩
    simp only [step, hq] at hstep
    generalize ({ s with pending := rest } : State) = s at hs hstep
    obtain ⟨hs, hc⟩ := hs
    exact exec_heldSafe c s hs hc hstep

end Sys2Proof.Machine
end

section
/-!
PROOFS. Power, reset and start: the power's failure and a reset, the start sequence to its ends (O6), and the software reset (O7).
-/

namespace Sys2Proof.Machine

/-! ## The software reset -/

theorem hostWrite_rstreq_counted (p : Port) (v : Word) (s : State) (hr : s.runs = true) :
    (s.hostWrite p Reg.SYS_RSTREQ v).Counted (s.rstreqWrite (v &&& word 0xFFFFFF)) :=
  State.hostWrite_fixed_counted s p _ _ _ _ _ (State.fabricUp_runs s hr) (State.mapped_runs s _ hr (Or.inr (by decide))) (by decide)
    (by cases p <;> rfl) rfl rfl (by decide) (by decide) (by decide) rfl

/-- A write that sets no bit beyond the key's field is the key's action and nothing else. -/
theorem hostWrite_rstreq (p : Port) (v : Word) (s : State) (hr : s.runs = true) (hv : v &&& 0xFFFF0000 = 0) :
    s.hostWrite p Reg.SYS_RSTREQ v = s.rstreqWrite (v &&& word 0xFFFFFF) := by
  have hrsv : v &&& ~~~word 0xFFFFFF = 0 := by
    rw [show ~~~word 0xFFFFFF = 0xFFFF0000 &&& 0xFF000000 by decide, ← BitVec.and_assoc, hv]
    decide
  rw [State.hostWrite_whole s p _ Reg.SYS_RSTREQ v _ (State.fabricUp_runs s hr) (State.mapped_runs s _ hr (Or.inr (by decide)))
    (by decide) (by cases p <;> rfl) rfl rfl hrsv]
  exact State.writeKey_fixed s p _ _ _ (by decide) (by decide) (by decide) rfl

theorem fieldOf_key (v : Word) : fieldOf (v &&& word 0xFFFFFF) 15 0 = fieldOf v 15 0 :=
  fieldOf_and _ _ _ _ (by decide) (by decide)

/-- Settles O7: the key's write is `assertReset` by the software's cause, which RESET# asserts with its own; another key counts. -/
theorem softwareResetIsAPulse : Obligations.SoftwareResetIsAPulse := by
  intro p env s hr hth
  have hlife : s.unit.life = .running := by simpa [State.runs] using hr
  refine ⟨fun v hv hkey => ?_, fun v hkey => ?_⟩
  · obtain ⟨hin, hsafe, _⟩ := s.assertReset_safe 2
    have ht : s.hostWrite p Reg.SYS_RSTREQ v = s.assertReset 2 := by
      rw [hostWrite_rstreq p v s hr hv, State.rstreqWrite, fieldOf_key, if_pos hkey, if_neg (by simp [hth])]
    refine ⟨(s.assertReset 2).start env, ?_, (if_pos hin : execResetRelease env _ = _), hsafe, hin, if_neg (by simp [hlife])⟩
    simp only [exec, execSoftwareReset, ht]
    exact if_pos (by simp [State.fabricUp_runs s hr, hin])
  · have hw : s.rstreqWrite (v &&& word 0xFFFFFF) = s.bump Reg.SYS_RSTREQ 23 16 1 := by
      rw [State.rstreqWrite, fieldOf_key, if_neg hkey]
    have hc := hw ▸ hostWrite_rstreq_counted p v s hr
    generalize hx : s.hostWrite p Reg.SYS_RSTREQ v = t at hc
    have hu : t.unit = s.unit := by obtain ⟨r, q, rfl⟩ := hc.fields; rfl
    refine ⟨t, ?_, ?_, hu, hc.keeps (Keeps.of (by simp) rfl rfl)⟩
    · simp only [exec, execSoftwareReset, hx]
      exact if_neg (by simp [hu, hlife])
    · rw [State.fld, hc.rd (by decide), State.rd_bump_same, fieldOf_setField_min _ _ _ _ (by decide)]
      rfl

end Sys2Proof.Machine
end

section
/-!
PROOFS. Time: a read of MONO (O10), WALL steps and slews (O11).
-/

namespace Sys2Proof.Machine

/-! ## A read of MONO -/

theorem State.readNow_mono (s : State) (p : Port) :
    s.readNow p Reg.TIM_MONO_LO = (BitVec.setWidth 32 s.time.mono, s) ∧
      s.readNow p Reg.TIM_MONO_HI = (BitVec.extractLsb' 32 32 s.time.mono, s) := by
  have hlo : word s.time.mono.toNat = BitVec.setWidth 32 s.time.mono := by
    apply BitVec.eq_of_toNat_eq
    simp [word]
  have hhi : word (s.time.mono.toNat / 2 ^ 32) = BitVec.extractLsb' 32 32 s.time.mono := by
    simp [word, BitVec.extractLsb', Nat.shiftRight_eq_div_pow]
  constructor
  · rw [← hlo, State.readNow, if_neg (by decide)]
    rfl
  · rw [← hhi, State.readNow, if_neg (by decide)]
    rfl

/-- The high word of MONO is latched under its address for every requester. -/
theorem State.latchKey_mono (s : State) (p : Port) : s.latchKey p Reg.TIM_MONO_HI = Reg.TIM_MONO_HI := by
  simp [State.latchKey, within, Reg.TIM_MONO_HI, Reg.MET_SCNT_LO, Reg.MET_GPOS_LO]

theorem State.hostRead_monoLo (s : State) (p : Port) (hr : s.runs = true) :
    s.hostRead p Reg.TIM_MONO_LO = { s.latchRest p [(Reg.TIM_MONO_HI, BitVec.extractLsb' 32 32 s.time.mono)] with
      readData := vset s.readData (portIdx p) (BitVec.setWidth 32 s.time.mono) } := by
  have hread := s.fabricRead_wide p (a := Reg.TIM_MONO_LO) (s.fabricUp_runs hr) (s.mapped_runs _ hr (.inr (by decide))) (by decide)
    (by decide)
  simp only [show wideRest Reg.TIM_MONO_LO = [Reg.TIM_MONO_HI] by decide, List.map_cons, List.map_nil, (s.readNow_mono p).1,
    (s.readNow_mono p).2] at hread
  rw [State.hostRead, show Reg.TIM_MONO_LO / 4 * 4 = Reg.TIM_MONO_LO by decide, hread]
  rfl

/-- A latched word is what a read returns. -/
theorem State.hostRead_latched (s : State) (p : Port) (a : Nat) (w : Word) (hr : s.runs = true) (hm : s.mapped a = true)
    (h4 : a % 4 = 0) (hw : wideWord a = true) (hl : s.latched p a = some w) :
    s.hostRead p a = { s with readData := vset s.readData (portIdx p) w } := by
  have ha : a / 4 * 4 = a := by omega
  simp [State.hostRead, ha, State.fabricRead, s.fabricUp_runs hr, hm, hw, hl]

theorem portIdx_lt (p : Port) : portIdx p < 3 := by cases p <;> decide

/-- Settles O10: the low word's read latches the high word of the same instant for every requester. -/
theorem monoReadIsOneInstant : Obligations.MonoReadIsOneInstant := by
  intro p q s hr
  have hlatched : (s.hostRead p Reg.TIM_MONO_LO).latched q Reg.TIM_MONO_HI = some (BitVec.extractLsb' 32 32 s.time.mono) := by
    rw [s.hostRead_monoLo p hr]
    simp [State.latched, State.latchRest, State.latchKey_mono]
  refine ⟨s.hostRead p Reg.TIM_MONO_LO, rfl, ?_, hlatched, fun u hu hul => ?_, ?_⟩
  · rw [s.hostRead_monoLo p hr]
    exact vget_vset_same _ _ _ _ (portIdx_lt p)
  · have hl : u.latched q Reg.TIM_MONO_HI = some (BitVec.extractLsb' 32 32 s.time.mono) := by
      rw [← hlatched, State.latched, State.latched, hul]
      rfl
    refine ⟨u.hostRead q Reg.TIM_MONO_HI, rfl, ?_⟩
    rw [u.hostRead_latched q _ _ hu (u.mapped_runs _ hu (.inr (by decide))) (by decide) (by decide) hl]
    exact ⟨vget_vset_same _ _ _ _ (portIdx_lt q), rfl, fun _ _ _ => rfl, fun _ => rfl, fun _ => rfl⟩
  · rw [s.hostRead_monoLo p hr]
    exact ⟨⟨fun _ _ _ => rfl, fun _ => rfl, fun _ => rfl⟩, rfl, rfl⟩

/-! ## WALL steps and slews -/

/-- A write of TIM_WALLCTL by a requester. -/
theorem hostWrite_wallctl (s : State) (p : Port) (v : Word) (hr : s.runs = true) :
    (s.hostWrite p Reg.TIM_WALLCTL v).Counted (s.wallctlWrite (v &&& word 0xC00003FF)) :=
  State.hostWrite_fixed_counted s p _ _ _ _ _ (State.fabricUp_runs s hr) (State.mapped_runs s _ hr (Or.inr (by decide))) (by decide)
    (by cases p <;> rfl) rfl rfl (by decide) (by decide) (by decide) rfl

theorem State.notActiveInPair_congr {s t : State} (hu : t.unit = s.unit) (hr : t.rd Reg.PAIR_STAT = s.rd Reg.PAIR_STAT) :
    t.notActiveInPair = s.notActiveInPair := by
  simp [State.notActiveInPair, State.role, hu, hr]

/-- What a write of TIM_WALLCTL does on a unit that is alone or active. -/
theorem State.wallctlWrite_active (s : State) (v : Word) (hn : s.notActiveInPair = false) :
    s.wallctlWrite v = { s.put Reg.TIM_WALLCTL 9 0 (fieldOf v 9 0) with time := { s.time with
      step := if bitOf v 31 then some (s.fld Reg.TIM_WSET_NS 29 0, s.rdN Reg.TIM_WSET_SLO + 2 ^ 32 * s.fld Reg.TIM_WSET_SHI 15 0)
        else s.time.step
      slew := if bitOf v 30 then some (signed 32 (s.rdN Reg.TIM_WSLEW)) else s.time.slew } } := by
  have hput : ∀ a, Reg.TIM_WALLCTL ≠ a → (s.put Reg.TIM_WALLCTL 9 0 (fieldOf v 9 0)).rd a = s.rd a :=
    fun a ha => State.rd_put_ne _ _ _ _ _ _ ha
  have hn' := (State.notActiveInPair_congr (State.put_unit s _ 9 0 (fieldOf v 9 0)) (hput _ (by decide))).trans hn
  cases h31 : bitOf v 31 <;> cases h30 : bitOf v 30 <;>
    simp (disch := decide) [State.wallctlWrite, h31, h30, hn', State.rd_put_ne]
  rfl

/-- What a write of TIM_WALLCTL does on a unit of a pair that is not active, with STEP or SLEW. -/
theorem State.wallctlWrite_standby (s : State) (v : Word) (hn : s.notActiveInPair = true) (hv : bitOf v 31 = true ∨ bitOf v 30 = true) :
    s.wallctlWrite v = (s.put Reg.TIM_WALLCTL 9 0 (fieldOf v 9 0)).raise (E.WALL_REFUSED 0) := by
  have hn' := (State.notActiveInPair_congr (State.put_unit s Reg.TIM_WALLCTL 9 0 (fieldOf v 9 0))
    (State.rd_put_ne s _ _ 9 0 (fieldOf v 9 0) (by decide))).trans hn
  rcases hv with h | h <;> simp [State.wallctlWrite, h, hn']

/-- The bits of a write of TIM_WALLCTL, as a step or a slew sets them. -/
theorem wallctl_known (v : Word) : bitOf (v &&& word 0xC00003FF) 31 = bitOf v 31 ∧ bitOf (v &&& word 0xC00003FF) 30 = bitOf v 30 ∧
    fieldOf (v &&& word 0xC00003FF) 9 0 = fieldOf v 9 0 :=
  ⟨bitOf_and _ _ _ (by decide), bitOf_and _ _ _ (by decide), fieldOf_and _ _ _ _ (by decide) (by decide)⟩

/-- Settles O11: STEP and SLEW of the write each capture their words, or raise WALL_REFUSED on a standby. -/
theorem wallStepAndSlewCapture : Obligations.WallStepAndSlewCapture := by
  intro p v s hr words ns
  have hw : ∀ w, Keeps s ((s.put Reg.TIM_WALLCTL 9 0 w)) [Reg.TIM_WALLCTL] := fun w => Keeps.of (by simp) rfl rfl
  have hact (w : Word) (hn : s.notActiveInPair = false) : ∃ t, (.next (s.hostWrite p Reg.TIM_WALLCTL w) : Host.Outcome State Fault Refusal) = .next t ∧
      t.time = { s.time with step := if bitOf w 31 then words else s.time.step, slew := if bitOf w 30 then ns else s.time.slew } ∧
      t.fld Reg.TIM_WALLCTL 9 0 = fieldOf w 9 0 ∧ Keeps s t [Reg.TIM_WALLCTL] := by
    have hc := hostWrite_wallctl s p w hr
    obtain ⟨h31, h30, h9⟩ := wallctl_known w
    rw [State.wallctlWrite_active _ _ hn, h31, h30, h9] at hc
    refine ⟨_, rfl, ?_, ?_, hc.keeps (Keeps.of (by simp) rfl rfl)⟩
    · obtain ⟨r, q, ht⟩ := hc.fields
      rw [ht]
    · rw [State.fld, hc.rd (by decide)]
      simp [fieldOf_setField_fieldOf]
  have hstd (w : Word) (hn : s.notActiveInPair = true) (hb : bitOf w 31 = true ∨ bitOf w 30 = true) :
      ∃ t, (.next (s.hostWrite p Reg.TIM_WALLCTL w) : Host.Outcome State Fault Refusal) = .next t ∧
      t.time = s.time ∧ Raised s t (E.WALL_REFUSED 0) ∧ Keeps s t [Reg.TIM_WALLCTL] := by
    have hc := hostWrite_wallctl s p w hr
    obtain ⟨h31, h30, h9⟩ := wallctl_known w
    rw [State.wallctlWrite_standby _ _ hn (by rwa [h31, h30])] at hc
    refine ⟨_, rfl, ?_, hc.raised (.of (List.Subset.refl _) rfl), hc.keeps (Keeps.of (by simp) (by simp) (by simp))⟩
    obtain ⟨r, q, ht⟩ := hc.fields
    rw [ht]
    simp
  have h31 := fun i => bitOf_withBit v i 31 (by decide)
  have h30 := fun i => bitOf_withBit v i 30 (by decide)
  have h9 : ∀ i, 9 < i → fieldOf (withBit v i) 9 0 = fieldOf v 9 0 := fun i hi => fieldOf_withBit v i 9 0 (by decide) (.inl hi)
  refine ⟨fun hn => ⟨?_, ?_⟩, fun hn => ⟨hstd _ hn (.inl (by simp [h31])), hstd _ hn (.inr (by simp [h30]))⟩⟩
  · have h := hact (withBit v 31) hn
    rwa [h31, h30, h9 _ (by decide), if_pos rfl] at h
  · have h := hact (withBit v 30) hn
    rwa [h31, h30, h9 _ (by decide), if_pos rfl] at h

end Sys2Proof.Machine
end

section
/-!
PROOFS. The gait-frame boundary and the link frame (O13): the time line of a boundary, the WALL step at the boundary of a halted unit,
and the frames sent.
-/

namespace Sys2Proof.Machine

/-! ## The time line -/

/-- MONO has reached the start of the link frame to which the time line advances. -/
theorem State.advance_mono (s : State) (k : Nat) : (s.advance k).time.fmono ≤ (s.advance k).time.mono := by
  simp only [State.advance, State.ticks, TimeSt.wallTicks]
  generalize s.time.fmono + BitVec.ofNat 64 (40 * k) = b
  by_cases h : s.time.mono < b
  · rw [if_pos h]
    have hb := b.isLt
    simp only [BitVec.lt_def] at h
    simp only [BitVec.le_def, BitVec.toNat_add, BitVec.toNat_sub, BitVec.toNat_ofNat]
    omega
  · simp only [if_neg h, BitVec.add_zero]
    exact BitVec.not_lt.mp h

theorem State.advance_time (s : State) (k : Nat) : (s.advance k).time.fmono = s.time.fmono + BitVec.ofNat 64 (40 * k) ∧
    (s.advance k).time.fcnt = s.time.fcnt + BitVec.ofNat 8 k ∧ (s.advance k).time.gfc = s.time.gfc ∧
    (s.advance k).time.lf = s.time.lf := by
  simp [State.advance, State.ticks, TimeSt.wallTicks]

theorem State.advance_frame (s : State) (k : Nat) : (s.advance k).reg = s.reg ∧ (s.advance k).shadow = s.shadow ∧
    (s.advance k).mem = s.mem ∧ (s.advance k).links = s.links ∧ (s.advance k).pair = s.pair ∧ (s.advance k).unit = s.unit :=
  ⟨rfl, rfl, rfl, rfl, rfl, rfl⟩

/-- The time line of the next boundary. -/
theorem State.nextGait_time (s : State) : s.nextGait.time.gfc = s.time.gfc + 1 ∧ s.nextGait.time.lf = 0 ∧
    s.nextGait.time.grid = true ∧ s.nextGait.time.fmono = s.time.fmono + BitVec.ofNat 64 (40 * s.framesToBoundary) ∧
    s.nextGait.time.fcnt = s.time.fcnt + BitVec.ofNat 8 s.framesToBoundary ∧ s.nextGait.time.fmono ≤ s.nextGait.time.mono := by
  obtain ⟨h1, h2, h3, -⟩ := s.advance_time s.framesToBoundary
  exact ⟨congrArg (· + 1) h3, rfl, rfl, h1, h2, s.advance_mono _⟩

/-- The rest of a gait frame that runs. -/
theorem State.framesToBoundary_rest (s : State) (hg : s.time.grid = true) (h1 : 1 ≤ s.time.lf)
    (h2 : s.time.lf ≤ gaitLinkFrames s.gaitLen) : s.framesToBoundary + (s.time.lf - 1) = gaitLinkFrames s.gaitLen := by
  simp only [State.framesToBoundary, hg, if_true, h2]
  omega

theorem execGaitFrameTurnover_time (s : State) (h : s.runs = true ∨ s.inPaddock = true) :
    ∃ t, execGaitFrameTurnover s = .next t ∧ t.time.gfc = s.nextGait.time.gfc ∧ t.time.lf = s.nextGait.time.lf ∧
      t.time.grid = s.nextGait.time.grid ∧ t.time.fmono = s.nextGait.time.fmono ∧ t.time.fcnt = s.nextGait.time.fcnt ∧
      t.time.mono = s.nextGait.time.mono := by
  unfold execGaitFrameTurnover
  by_cases hr : s.runs = true
  · exact ⟨_, if_pos hr, rfl, rfl, rfl, rfl, rfl, rfl⟩
  · have hp : s.unit.life = .paddock := by simpa [State.inPaddock] using h.resolve_left hr
    exact ⟨_, (if_neg hr).trans (if_pos hp), rfl, rfl, rfl, rfl, rfl, rfl⟩

/-! ## The boundary of a halted unit -/

/-- WALL and what TIM_WALLSTAT says of steps stay. -/
structure State.WallKept (s t : State) : Prop where
  time : t.time = s.time
  stat : ∀ i < 4, t.bit Reg.TIM_WALLSTAT i = s.bit Reg.TIM_WALLSTAT i

namespace State.WallKept
variable {s t u : State}

theorem of (ht : t.time = s.time) (hr : t.rd Reg.TIM_WALLSTAT = s.rd Reg.TIM_WALLSTAT) : s.WallKept t :=
  ⟨ht, fun i _ => by simp [hr]⟩

theorem refl (s : State) : s.WallKept s := .of rfl rfl

theorem trans (h : s.WallKept t) (g : t.WallKept u) : s.WallKept u :=
  ⟨g.time.trans h.time, fun i hi => (g.stat i hi).trans (h.stat i hi)⟩

theorem ite {p : Prop} [Decidable p] (ht : s.WallKept t) (hu : s.WallKept u) : s.WallKept (if p then t else u) := by
  split
  · exact ht
  · exact hu

end State.WallKept

section
variable (s : State)

theorem State.wallKept_wr (a : Nat) (v : Word) (ha : a ≠ Reg.TIM_WALLSTAT) : s.WallKept (s.wr a v) := .of rfl (State.rd_wr_ne _ _ _ _ ha)

theorem State.wallKept_tdmSend (x : TandemContent) : s.WallKept (s.tdmSend x) := .ite (.of rfl rfl) (.refl s)

theorem State.wallKept_tokFree : s.WallKept s.tokFree := by
  unfold State.tokFree
  refine .trans (t := if s.tokMine then s.injLock else s) (.ite ?_ (.refl s)) ?_
  · exact .of rfl (by simp (disch := decide) [State.injLock, State.rd_setBit_ne])
  · exact .of rfl (by simp (disch := decide) [State.rd_setBit_ne, State.rd_put_ne])

theorem State.wallKept_tokGive : s.WallKept s.tokGive :=
  .trans s.wallKept_tokFree (.ite (State.wallKept_tdmSend ..) (.refl _))

theorem State.wallKept_remountStart : s.WallKept s.remountStart := .of rfl rfl

theorem State.wallKept_swapFail : s.WallKept s.swapFail := by
  unfold State.swapFail
  extract_lets kind s1 s2
  have h1 : s.WallKept s1 := .of rfl rfl
  have h2 : s1.WallKept s2 := .ite (State.wallKept_tokGive _) (.refl _)
  exact ((h1.trans h2).trans (State.wallKept_remountStart _)).trans
    (.of (by simp) (State.rd_raise _ _ _ _ _ (by decide) (by decide) (by decide)))

theorem State.wallKept_becomeActive (last : Nat) : s.WallKept (s.becomeActive last) := by
  unfold State.becomeActive
  refine .trans ?_ (State.wallKept_remountStart _)
  refine ⟨rfl, fun i hi => ?_⟩
  simp (disch := decide) [State.roleChange, State.rd_setBit_ne, State.rd_wr_ne, State.rd_put_ne, State.rd_bump_ne]
  rw [bitOf_setField _ _ _ _ _ (by omega), if_neg (by omega)]

theorem State.wallKept_findingTurnover : s.WallKept s.findingTurnover := by
  have h : s.WallKept s.noteFinding := by
    unfold State.noteFinding
    split
    · exact .of rfl rfl
    · exact .refl s
  exact h.trans (.of rfl rfl)

theorem State.wallKept_claimUpdate : s.WallKept s.claimUpdate := .of rfl (State.rd_put_ne _ _ _ _ _ _ (by decide))

theorem State.wallKept_tdmTurnover : s.WallKept s.tdmTurnover := by
  have h : s.WallKept s.imageTurnover := .of rfl rfl
  exact h.trans (.ite (.of rfl rfl) (.of rfl rfl))

/-- The pair logic of a boundary reports the turn of WALL's owner in TIM_WALLSTAT and nothing of its steps. -/
theorem State.wallKept_pairTurnover : s.WallKept s.pairTurnover := by
  unfold State.pairTurnover
  extract_lets s1 s2 kind s3 s4 s5
  have h1 : s.WallKept s1 := .ite (.of rfl rfl) (.refl s)
  have h2 : s1.WallKept s2 := s1.wallKept_findingTurnover
  have h3 : s2.WallKept s3 := .ite ((s2.wallKept_becomeActive _).trans (State.wallKept_swapFail _)) (.refl _)
  have h4 : s3.WallKept s4 := .ite (.of rfl (by simp (disch := decide) [State.laneTestStart, State.rd_setBit_ne])) (.refl _)
  have h5 : s4.WallKept s5 := s4.wallKept_claimUpdate.trans (State.wallKept_tdmTurnover _)
  exact ((((h1.trans h2).trans h3).trans h4).trans h5).trans (.of rfl rfl)

theorem State.wallKept_healthTurnover : s.WallKept s.healthTurnover := .of rfl (State.rd_wrN_ne _ _ _ _ (by decide))

/-- After the WALL step and slew, the turnover of a halted unit leaves WALL to its ticks. -/
theorem State.haltedTurnover_wall : s.applyStep.applySlew.WallKept s.haltedTurnover :=
  (State.wallKept_healthTurnover _).trans (State.wallKept_pairTurnover _)

end

/-- A slew replaces the remainder at a boundary and leaves WALL. -/
theorem State.applySlew_wall (s : State) : s.applySlew.time.wall = s.time.wall ∧ s.applySlew.time.step = s.time.step ∧
    ∀ i, s.applySlew.bit Reg.TIM_WALLSTAT i = s.bit Reg.TIM_WALLSTAT i := by
  unfold State.applySlew
  split <;> exact ⟨rfl, rfl, fun _ => rfl⟩

theorem State.applySlew_none (s : State) (h : s.time.slew = none) : s.applySlew = s := by
  simp [State.applySlew, h]

/-- A captured step of too many nanoseconds. -/
theorem State.applyStep_bad (s : State) {ns sec : Nat} (h : s.time.step = some (ns, sec)) (hn : 1000000000 ≤ ns) :
    s.applyStep.time.step = none ∧ s.applyStep.time.wall = s.time.wall ∧ s.applyStep.bit Reg.TIM_WALLSTAT 2 = true := by
  simp only [State.applyStep, h, hn, if_true]
  exact ⟨rfl, rfl, State.bit_setBit _ _ _ _ (by decide)⟩

/-- A captured step that WALL takes. -/
theorem State.applyStep_good (s : State) {ns sec : Nat} (h : s.time.step = some (ns, sec)) (hn : ns < 1000000000) :
    s.applyStep.time.step = none ∧ s.applyStep.time.slew = none ∧ s.applyStep.time.rem = 0 ∧
      s.applyStep.time.wall = (sec % 2 ^ 48 * 1000000000 + ns) * wallUnit ∧ s.applyStep.bit Reg.TIM_WALLSTAT 0 = true := by
  simp only [State.applyStep, h, if_neg (by omega : ¬ 1000000000 ≤ ns)]
  split
  · refine ⟨rfl, rfl, rfl, rfl, ?_⟩
    exact (State.bit_setBit_ne _ _ _ _ _ (by decide) (by decide)).trans (State.bit_setBit _ _ _ _ (by decide))
  · exact ⟨rfl, rfl, rfl, rfl, State.bit_setBit _ _ _ _ (by decide)⟩

theorem execGaitFrameTurnover_halted (s : State) (hr : s.runs = true) (hh : s.halted = true) :
    execGaitFrameTurnover s = .next (s.nextGait.haltedTurnover.onTimeLine s.nextGait) := by
  simp only [execGaitFrameTurnover, hr, hh, if_true]

/-- WALL at the boundary of a halted unit, once its steps and slews are applied. -/
theorem State.haltedTurnover_onTimeLine (s b : State) :
    (s.haltedTurnover.onTimeLine b).time.wall = s.applyStep.applySlew.time.wall ∧
      (s.haltedTurnover.onTimeLine b).time.step = s.applyStep.applySlew.time.step ∧
      (s.haltedTurnover.onTimeLine b).time.slew = s.applyStep.applySlew.time.slew ∧
      (s.haltedTurnover.onTimeLine b).time.rem = s.applyStep.applySlew.time.rem ∧
      ∀ i < 4, (s.haltedTurnover.onTimeLine b).bit Reg.TIM_WALLSTAT i = s.applyStep.applySlew.bit Reg.TIM_WALLSTAT i := by
  obtain ⟨ht, hb⟩ := s.haltedTurnover_wall
  simp only [State.onTimeLine, ht]
  exact ⟨trivial, trivial, trivial, trivial, hb⟩

theorem TimeSt.wall_parts (t : TimeSt) {ns sec : Nat} (hn : ns < 1000000000) (h : t.wall = (sec % 2 ^ 48 * 1000000000 + ns) * wallUnit) :
    t.wallNs = ns ∧ t.wallSec = sec % 2 ^ 48 := by
  have hdiv : t.wall / 4000000 = sec % 2 ^ 48 * 1000000000 + ns := by
    rw [h]
    exact Nat.mul_div_cancel _ (by decide)
  simp only [TimeSt.wallNs, TimeSt.wallSec, hdiv]
  omega

/-! ## The frames sent -/

theorem execDownstreamFrame_idle (s : State) (h : s.unit.life = .inReset ∨ s.unit.life = .testHold) :
    execDownstreamFrame s = .next (s.advance 1) := if_pos (by simpa using h)

/-- A frame of a unit that has started, inside a gait frame: sending moves no time line. -/
theorem execDownstreamFrame_sends (s : State) (h : s.runs = true ∨ s.inPaddock = true) (hb : s.boundaryDue = false) :
    ∃ t, execDownstreamFrame s = .next t ∧
      t.time = { (if s.time.lf = 0 then s else s.advance 1).time with lf := (if s.time.lf = 0 then s else s.advance 1).time.lf + 1 } := by
  have hl : s.unit.life = .running ∨ s.unit.life = .paddock := by simpa [State.runs, State.inPaddock] using h
  unfold execDownstreamFrame
  rw [if_neg (by rcases hl with hl | hl <;> simp [hl]), if_neg (by rcases hl with hl | hl <;> simp [hl, hb])]
  exact ⟨_, rfl, rfl⟩

theorem execDownstreamFrame_due (s : State) (h : s.runs = true ∨ s.inPaddock = true) (hb : s.boundaryDue = true) :
    execDownstreamFrame s = .next s := by
  have hl : s.unit.life = .running ∨ s.unit.life = .paddock := by simpa [State.runs, State.inPaddock] using h
  unfold execDownstreamFrame
  rw [if_neg (by rcases hl with hl | hl <;> simp [hl]), if_pos (by rcases hl with hl | hl <;> simp [hl, hb])]

/-- Settles O13: the boundary and each frame take their time line from `State.advance`, and what the blocks do at a boundary sets WALL alone. -/
theorem turnoverAndLinkFrame : Obligations.TurnoverAndLinkFrame := by
  refine ⟨fun s => ⟨fun h => ?_, s.framesToBoundary_rest, fun hr hp => ?_⟩, fun s hr hh ns sec hstep => ?_,
    fun s => ⟨fun h => ⟨fun hb => ?_, execDownstreamFrame_due s h⟩, fun h => ?_⟩⟩
  · obtain ⟨t, ht, h1, h2, h3, h4, h5, h6⟩ := execGaitFrameTurnover_time s h
    obtain ⟨g1, g2, g3, g4, g5, g6⟩ := s.nextGait_time
    exact ⟨t, ht, h1.trans g1, h2.trans g2, h3.trans g3, h4.trans g4, h5.trans g5, by rw [h4, h6]; exact g6⟩
  · have hp' : s.unit.life ≠ .paddock := by simpa [State.inPaddock] using hp
    exact (if_neg (by simp [hr])).trans (if_neg hp')
  · obtain ⟨h1, h2, h3, h4, h5⟩ := State.haltedTurnover_onTimeLine s.nextGait s.nextGait
    have hstep' : s.nextGait.time.step = some (ns, sec) := hstep
    refine ⟨_, execGaitFrameTurnover_halted s hr hh, ?_, fun hn => ?_, fun hn => ?_⟩
    · rw [h2, (State.applySlew_wall _).2.1]
      rcases Nat.lt_or_ge ns 1000000000 with hn | hn
      · exact (State.applyStep_good _ hstep' hn).1
      · exact (State.applyStep_bad _ hstep' hn).1
    · obtain ⟨_, g2, g3, g4, g5⟩ := State.applyStep_good _ hstep' hn
      rw [State.applySlew_none _ g2] at h1 h3 h4 h5
      obtain ⟨hns, hsec⟩ := TimeSt.wall_parts _ hn (h1.trans g4)
      exact ⟨hns, hsec, h3.trans g2, h4.trans g3, (h5 0 (by decide)).trans g5⟩
    · obtain ⟨_, g2, g3⟩ := State.applyStep_bad _ hstep' hn
      obtain ⟨k1, _, k3⟩ := State.applySlew_wall s.nextGait.applyStep
      exact ⟨(h1.trans k1).trans g2, (h5 2 (by decide)).trans ((k3 2).trans g3)⟩
  · obtain ⟨t, ht, htime⟩ := execDownstreamFrame_sends s h hb
    obtain ⟨h1, h2, h3, h4⟩ := s.advance_time 1
    refine ⟨t, ht, ?_, ?_, fun h0 => ?_, fun h0 => ?_⟩ <;> rw [htime]
    · split
      · rfl
      · exact congrArg (· + 1) h4
    · split
      · rfl
      · exact h3
    · simp [h0]
    · rw [if_neg (by omega)]
      exact ⟨h1, h2⟩
  · obtain ⟨h1, h2, -⟩ := s.advance_time 1
    exact ⟨_, execDownstreamFrame_idle s h, h1, h2, rfl, rfl, Keeps.of (fun _ _ _ => rfl) rfl rfl⟩

end Sys2Proof.Machine
end

section
/-!
PROOFS. Battery strings (O33): what a contactor command and a reconnection leave, string by string.
-/

namespace Sys2Proof.Machine

/-! ## Contactor commands -/

theorem State.onLink_onLink (s : State) (n : Nat) (f g : LinkSt → LinkSt) (hn : n < 16) :
    (s.onLink n f).onLink n g = s.onLink n (fun l => g (f l)) := by
  simp [State.onLink, State.setLink, State.link, hn]

theorem State.onStr_onStr (s : State) (b : Nat) (f g : StrSt → StrSt) (hb : b < 8) :
    (s.onStr b f).onStr b g = s.onStr b (fun x => g (f x)) := by
  simp [State.onStr, State.str, vset, vget, hb]

/-- The edge of a contactor command `x` on link `n`. -/
def State.contactorEdge (s : State) (n : Nat) (x : Nat × Nat) : Edge :=
  { ch := x.1, ev := x.2, at_ := s.frameWindow n (s.frameNo + 1) }

/-- A link with more edges queued. -/
def LinkSt.withEdges (l : LinkSt) (es : List Edge) : LinkSt := { l with edges := l.edges ++ es }

@[simp] theorem LinkSt.withEdges_edges (l : LinkSt) (es : List Edge) : (l.withEdges es).edges = l.edges ++ es := rfl

theorem LinkSt.withEdges_nil (l : LinkSt) : l.withEdges [] = l := by simp [LinkSt.withEdges]

theorem LinkSt.withEdges_withEdges (l : LinkSt) (es fs : List Edge) : (l.withEdges es).withEdges fs = l.withEdges (es ++ fs) := by
  simp [LinkSt.withEdges]

theorem State.addEdge_eq (s : State) (n : Nat) (e : Edge) : s.addEdge n e = s.onLink n (·.withEdges [e]) := rfl

theorem State.contactorEdge_withEdges (s : State) {n : Nat} (hn : n < 16) (es : List Edge) :
    (s.onLink n (·.withEdges es)).contactorEdge n = s.contactorEdge n := by
  funext x
  simp only [State.contactorEdge, State.frameWindow, State.onLink_link_same s _ hn]
  rfl

theorem State.onLink_id (s : State) (n : Nat) (hn : n < 16) : s.onLink n (fun l => l) = s := by
  have : s.links.setIfInBounds n s.links[n] = s.links := by
    ext i hi
    by_cases h : n = i <;> simp [h]
  simp [State.onLink, State.setLink, State.link, hn, this]

/-- Commands sent one after the other are edges of the link in their order. -/
theorem State.foldl_contactorEdge (n : Nat) (hn : n < 16) (l : List (Nat × Nat)) (s : State) :
    l.foldl (fun s x => s.addEdge n (s.contactorEdge n x)) s = s.onLink n (·.withEdges (l.map (s.contactorEdge n))) := by
  induction l generalizing s with
  | nil => simp [LinkSt.withEdges_nil, State.onLink_id _ _ hn]
  | cons x l ih =>
    rw [List.foldl_cons, ih, State.addEdge_eq, State.contactorEdge_withEdges _ hn, State.onLink_onLink _ _ _ _ hn]
    simp [LinkSt.withEdges_withEdges]

/-- The contactor commands of string `b` once `x` has joined them. -/
def State.wants (s : State) (b : Nat) (x : Nat × Nat) : List (Nat × Nat) := (s.str b).want ++ [x]

theorem State.onStr_onLink (s : State) (b n : Nat) (f : StrSt → StrSt) (g : LinkSt → LinkSt) :
    (s.onStr b f).onLink n g = (s.onLink n g).onStr b f := rfl

/-- A contactor command waits with the string while its link is not UP, and goes out with those that wait otherwise (R238). -/
theorem State.contactor_eq (s : State) {b : Nat} (hb : b < 8) (pre : Bool) (ev : Nat) :
    s.contactor b pre ev =
      let l := s.wants b (s.fld (Reg.BS_LOC b) 4 4 + (if pre then 2 else 0), ev)
      let n := s.fld (Reg.BS_LOC b) 3 0
      if s.linkUp n then (s.onLink n (·.withEdges (l.map (s.contactorEdge n)))).onStr b (fun t => { t with want := [] })
      else s.onStr b (fun t => { t with want := l }) := by
  have hn : s.fld (Reg.BS_LOC b) 3 0 < 16 := fieldOf_lt ..
  extract_lets l n
  have hwant : ((s.onStr b (fun t => { t with want := l })).str b).want = l := by rw [State.onStr_str_same s _ hb]
  have hfold := State.foldl_contactorEdge n hn l (s.onStr b (fun t => { t with want := l }))
  have hflush : (s.onStr b (fun t => { t with want := l })).strFlush b =
      if s.linkUp n then ((s.onStr b (fun t => { t with want := l })).onLink n (·.withEdges (l.map (s.contactorEdge n)))).onStr b
        (fun t => { t with want := [] })
      else s.onStr b (fun t => { t with want := l }) := by
    unfold State.strFlush
    rw [hwant]
    exact congrArg (fun x : State => if s.linkUp n then x.onStr b (fun t => { t with want := [] })
      else s.onStr b (fun t => { t with want := l })) hfold
  refine Eq.trans hflush ?_
  split
  · rw [State.onStr_onLink, State.onStr_onStr _ _ _ _ hb]
  · rfl

/-- What a contactor command leaves: the registers, every string but for its waiting commands. -/
theorem State.contactor_frame (s : State) {b : Nat} (hb : b < 8) (pre : Bool) (ev : Nat) :
    (s.contactor b pre ev).reg = s.reg ∧ (s.contactor b pre ev).shadow = s.shadow ∧ (s.contactor b pre ev).mem = s.mem ∧
      (s.contactor b pre ev).evq = s.evq ∧ (∀ c, b ≠ c → (s.contactor b pre ev).str c = s.str c) ∧
      ∃ l, (s.contactor b pre ev).str b = { s.str b with want := l } := by
  rw [State.contactor_eq s hb]
  extract_lets l n
  split
  · exact ⟨rfl, rfl, rfl, rfl, fun c hc => State.onStr_str_ne _ _ hc, _, State.onStr_str_same _ _ hb⟩
  · exact ⟨rfl, rfl, rfl, rfl, fun c hc => State.onStr_str_ne _ _ hc, _, State.onStr_str_same _ _ hb⟩

/-! ## A reconnection -/

/-- The step of a reconnection at string `b`. -/
def State.reconnectOne (v : Word) (s : State) (b : Nat) : State :=
  if bitOf v (8 + b) && s.strEn b && ((s.str b).disc || s.strMode b == 0) then
    ((s.setStrMode b 6).onStr b (fun t => { t with disc := true, preAt := some (1024 * s.fld Reg.BT_TERM 31 16) })).contactor b true 1
  else s

theorem State.reconnect_eq (s : State) (v : Word) : s.reconnect v = (List.range 8).foldl (State.reconnectOne v) s := rfl

/-- String `c` takes part in the reconnection. -/
def State.reconnects (s : State) (v : Word) (c : Nat) : Bool :=
  bitOf v (8 + c) && s.strEn c && ((s.str c).disc || s.strMode c == 0)

/-- String `c`, its registers and those that no string shows its state in are as before. -/
structure State.StringKept (c : Nat) (s t : State) : Prop where
  str : t.str c = s.str c
  regs : ∀ a, (∀ b < 8, b ≠ c → a ≠ Reg.BS_STAT b) → t.rd a = s.rd a

theorem State.StringKept.trans {c : Nat} {s t u : State} (h : State.StringKept c s t) (g : State.StringKept c t u) :
    State.StringKept c s u :=
  ⟨g.str.trans h.str, fun a ha => (g.regs a ha).trans (h.regs a ha)⟩

theorem State.reconnectOne_skips (s : State) {v : Word} {b : Nat} (h : s.reconnects v b = false) : s.reconnectOne v b = s :=
  if_neg (by simpa [State.reconnects] using h)

theorem State.reconnectOne_takes (s : State) {v : Word} {b : Nat} (h : s.reconnects v b = true) : s.reconnectOne v b =
    ((s.setStrMode b 6).onStr b (fun t => { t with disc := true, preAt := some (1024 * s.fld Reg.BT_TERM 31 16) })).contactor b true 1 := by
  rw [State.reconnectOne, if_pos (by simpa [State.reconnects] using h)]

/-- The string that reconnects closes its precharge contactor (R243). -/
theorem State.reconnectOne_string (s : State) {v : Word} {b : Nat} (hb : b < 8) (h : s.reconnects v b = true) :
    (s.reconnectOne v b).strMode b = 6 ∧ ((s.reconnectOne v b).str b).disc = true ∧
      ((s.reconnectOne v b).str b).preAt = some (1024 * s.fld Reg.BT_TERM 31 16) := by
  rw [s.reconnectOne_takes h]
  generalize hx : (s.setStrMode b 6).onStr b (fun t => { t with disc := true, preAt := some (1024 * s.fld Reg.BT_TERM 31 16) }) = x
  have hstr : (x.str b).disc = true ∧ (x.str b).preAt = some (1024 * s.fld Reg.BT_TERM 31 16) := by
    rw [← hx, State.onStr_str_same _ _ hb]
    exact ⟨rfl, rfl⟩
  have hmode : fieldOf (x.rd (Reg.BS_STAT b)) 2 0 = 6 := by
    rw [← hx]
    exact (congrArg (fieldOf · 2 0) (State.rd_put_same s (Reg.BS_STAT b) 2 0 6)).trans (fieldOf_setField _ _ _ _ (by decide))
  obtain ⟨hreg, -, -, -, -, l, hl⟩ := x.contactor_frame hb true 1
  have hrd : (x.contactor b true 1).rd (Reg.BS_STAT b) = x.rd (Reg.BS_STAT b) := by simp only [State.rd, hreg]
  rw [hl, State.strMode, State.fld, hrd]
  exact ⟨hmode, hstr⟩

theorem State.reconnectOne_frame (s : State) (v : Word) {b : Nat} (hb : b < 8) :
    (∀ a, a ≠ Reg.BS_STAT b → (s.reconnectOne v b).rd a = s.rd a) ∧ (s.reconnectOne v b).shadow = s.shadow ∧
      (s.reconnectOne v b).mem = s.mem ∧ (s.reconnectOne v b).evq = s.evq ∧ (∀ c, b ≠ c → (s.reconnectOne v b).str c = s.str c) := by
  cases h : s.reconnects v b with
  | false =>
    rw [s.reconnectOne_skips h]
    exact ⟨fun _ _ => rfl, rfl, rfl, rfl, fun _ _ => rfl⟩
  | true =>
    rw [s.reconnectOne_takes h]
    obtain ⟨h1, h2, h3, h4, h5, -⟩ := State.contactor_frame
      ((s.setStrMode b 6).onStr b (fun t => { t with disc := true, preAt := some (1024 * s.fld Reg.BT_TERM 31 16) })) hb true 1
    refine ⟨fun a ha => ?_, h2, h3, h4, fun c hc => (h5 c hc).trans (State.onStr_str_ne _ _ hc)⟩
    simp only [State.rd, h1]
    exact State.rd_put_ne s _ _ 2 0 6 (Ne.symm ha)

theorem State.reconnect_foldl_kept (v : Word) {c : Nat} (l : List Nat) (hl : ∀ b ∈ l, b < 8 ∧ b ≠ c) (s : State) :
    State.StringKept c s (l.foldl (State.reconnectOne v) s) := by
  induction l generalizing s with
  | nil => exact ⟨rfl, fun _ _ => rfl⟩
  | cons b l ih =>
    obtain ⟨hb, hbc⟩ := hl b List.mem_cons_self
    obtain ⟨hregs, -, -, -, hstr⟩ := s.reconnectOne_frame v hb
    exact .trans ⟨hstr c hbc, fun a ha => hregs a (ha b hb hbc)⟩ (ih (fun b hb => hl b (List.mem_cons_of_mem _ hb)) _)

theorem bsStat_ne {b c : Nat} (h : b ≠ c) : Reg.BS_STAT c ≠ Reg.BS_STAT b := by
  simp only [Reg.BS_STAT]
  omega

/-- A string meets its step of the reconnection as it stood, and the steps after it leave it. -/
theorem State.reconnect_split (s : State) (v : Word) {c : Nat} (hc : c < 8) :
    ∃ u, State.StringKept c s u ∧ State.StringKept c (u.reconnectOne v c) (s.reconnect v) := by
  obtain ⟨l, m, h⟩ := List.append_of_mem (List.mem_range.mpr hc)
  have hnd : (l ++ c :: m).Nodup := h ▸ List.nodup_range
  have hlt : ∀ b ∈ l ++ c :: m, b < 8 := fun b hb => List.mem_range.mp (h ▸ hb)
  obtain ⟨-, hm, hd⟩ := List.nodup_append.mp hnd
  refine ⟨l.foldl (State.reconnectOne v) s, s.reconnect_foldl_kept v l (fun b hb => ⟨hlt b (by simp [hb]), ?_⟩) , ?_⟩
  · exact hd b hb c List.mem_cons_self
  · rw [State.reconnect_eq, h, List.foldl_append, List.foldl_cons]
    refine State.reconnect_foldl_kept v m (fun b hb => ⟨hlt b (by simp [hb]), ?_⟩) _
    rintro rfl
    exact (List.nodup_cons.mp hm).1 hb

theorem State.StringKept.strMode {c : Nat} {s t : State} (h : State.StringKept c s t) : t.strMode c = s.strMode c := by
  simp only [State.strMode, State.fld, h.regs _ (fun _ _ hb => bsStat_ne hb)]

theorem State.StringKept.reconnects {c : Nat} {s t : State} (h : State.StringKept c s t) (v : Word) :
    t.reconnects v c = s.reconnects v c := by
  have hch : t.rd (Reg.BS_CH c) = s.rd (Reg.BS_CH c) := h.regs _ (fun b _ _ => by simp only [Reg.BS_CH, Reg.BS_STAT]; omega)
  simp only [State.reconnects, h.str, h.strMode, State.strEn, State.bit, hch]

/-- A string that takes part in a reconnection. -/
theorem State.reconnect_string (s : State) {v : Word} {c : Nat} (hc : c < 8) (h : s.reconnects v c = true) :
    (s.reconnect v).strMode c = 6 ∧ ((s.reconnect v).str c).disc = true ∧
      ((s.reconnect v).str c).preAt = some (1024 * s.fld Reg.BT_TERM 31 16) := by
  obtain ⟨u, hu, ht⟩ := s.reconnect_split v hc
  obtain ⟨h1, h2, h3⟩ := u.reconnectOne_string hc ((hu.reconnects v).trans h)
  have hterm : u.rd Reg.BT_TERM = s.rd Reg.BT_TERM := hu.regs _ (fun b hb _ => by simp only [Reg.BT_TERM, Reg.BS_STAT]; omega)
  rw [ht.strMode, ht.str, h1, h2, h3, State.fld, hterm]
  exact ⟨rfl, rfl, rfl⟩

theorem State.reconnect_others (s : State) {v : Word} {c : Nat} (hc : c < 8) (h : s.reconnects v c = false) :
    (s.reconnect v).str c = s.str c ∧ (s.reconnect v).strMode c = s.strMode c := by
  obtain ⟨u, hu, ht⟩ := s.reconnect_split v hc
  rw [u.reconnectOne_skips ((hu.reconnects v).trans h)] at ht
  exact ⟨(hu.trans ht).str, (hu.trans ht).strMode⟩

theorem State.reconnect_keeps (s : State) (v : Word) : Keeps s (s.reconnect v) ((List.range 8).map Reg.BS_STAT) := by
  rw [State.reconnect_eq]
  have h : ∀ (l : List Nat) (x : State), (∀ b ∈ l, b < 8) → Keeps x (l.foldl (State.reconnectOne v) x) ((List.range 8).map Reg.BS_STAT) := by
    intro l
    induction l with
    | nil => exact fun x _ => .refl _ _
    | cons b l ih =>
      intro x hl
      obtain ⟨hr, hs, hm, -⟩ := x.reconnectOne_frame v (hl b List.mem_cons_self)
      refine .trans (.of (fun a ha _ => hr a ?_) hs hm) (ih _ (fun b hb => hl b (List.mem_cons_of_mem _ hb)))
      rintro rfl
      exact ha (List.mem_map_of_mem (List.mem_range.mpr (hl b List.mem_cons_self)))
  exact h _ _ (fun b hb => List.mem_range.mp hb)

theorem State.reconnect_boot (s : State) (v : Word) : (s.reconnect v).boot = s.boot := by
  rw [State.reconnect_eq]
  have hone : ∀ (x : State), ∀ b < 8, (x.reconnectOne v b).boot = x.boot := by
    intro x b hb
    unfold State.reconnectOne
    split
    · rw [State.contactor_eq _ hb]
      extract_lets l n
      split <;> rfl
    · rfl
  have h : ∀ (l : List Nat) (x : State), (∀ b ∈ l, b < 8) → (l.foldl (State.reconnectOne v) x).boot = x.boot := by
    intro l
    induction l with
    | nil => exact fun _ _ => rfl
    | cons b l ih =>
      intro x hl
      exact (ih _ (fun b hb => hl b (List.mem_cons_of_mem _ hb))).trans (hone x b (hl b List.mem_cons_self))
  exact h _ _ (fun b hb => List.mem_range.mp hb)

/-! ## The commands -/

theorem exec_cvToFloat (s : State) (b : Fin 8) (hl : s.live = true) (hm : s.strMode b = 2) (h1 : 1 ≤ (s.str b).term)
    (hterm : 1024 * s.fld Reg.BT_TERM 15 0 ≤ (s.str b).term) :
    exec (.cvToFloat b) s = .next ((s.setStrMode b 3).onStr b (fun t => { t with term := 0 })) :=
  if_pos (by simp only [hl, hm, h1, hterm, decide_true]; rfl)

theorem exec_battEod (s : State) (b : Fin 8) {n : Nat} (hl : s.live = true) (hm : s.strMode b = 5) (he : (s.str b).eodAt = some n)
    (hn : 1 ≤ n) : exec (.battEod b) s =
      .next (((s.onStr b (fun t => { t with eodAt := none, disc := true })).contactor b false 2).raise (E.BATT_EOD b)) := by
  simp [exec, execBattEod, he, hl, hm, hn]

/-- The end of discharge disconnects the string (R243): its main contactor opens, now or once its link is UP. -/
theorem State.battEod_contactor (s : State) {b : Nat} (hb : b < 8) :
    let x := s.onStr b (fun t => { t with eodAt := none, disc := true })
    let t := x.contactor b false 2
    (t.str b).disc = true ∧ (t.str b).eodAt = none ∧
      (s.linkUp (s.fld (Reg.BS_LOC b) 3 0) = false → (t.str b).want = (s.str b).want ++ [(s.fld (Reg.BS_LOC b) 4 4, 2)]) ∧
      (s.linkUp (s.fld (Reg.BS_LOC b) 3 0) = true →
        ∃ e ∈ (t.link (s.fld (Reg.BS_LOC b) 3 0)).edges, e.ch = s.fld (Reg.BS_LOC b) 4 4 ∧ e.ev = 2) := by
  intro x t
  have hx : x.str b = { s.str b with eodAt := none, disc := true } := State.onStr_str_same _ _ hb
  have hn : s.fld (Reg.BS_LOC b) 3 0 < 16 := fieldOf_lt ..
  have ht : t = _ := x.contactor_eq hb false 2
  have hup : x.linkUp = s.linkUp := rfl
  have hfld : ∀ i j, x.fld (Reg.BS_LOC b) i j = s.fld (Reg.BS_LOC b) i j := fun _ _ => rfl
  simp only [hup, hfld, State.wants, hx, Bool.false_eq_true, if_false, Nat.add_zero] at ht
  generalize s.fld (Reg.BS_LOC b) 4 4 = hs at *
  generalize s.fld (Reg.BS_LOC b) 3 0 = n at *
  cases h : s.linkUp n with
  | false =>
    rw [ht, h, if_neg (by decide), State.onStr_str_same _ _ hb, hx]
    exact ⟨rfl, rfl, fun _ => rfl, fun h => Bool.noConfusion h⟩
  | true =>
    rw [ht, h, if_pos rfl]
    refine ⟨?_, ?_, fun h => Bool.noConfusion h, fun _ => ⟨x.contactorEdge n (hs, 2), ?_, rfl, rfl⟩⟩
    · rw [State.onStr_str_same _ _ hb]
      exact congrArg StrSt.disc hx
    · rw [State.onStr_str_same _ _ hb]
      exact congrArg StrSt.eodAt hx
    · refine Eq.mpr (congrArg (fun l : LinkSt => _ ∈ l.edges) (State.onLink_link_same x (·.withEdges _) hn)) ?_
      simp

theorem exec_stringPrechargeDone (s : State) (b : Fin 8) (hl : s.live = true) (hm : s.strMode b = 6)
    (hp : (s.str b).preAt = some 0) : exec (.stringPrechargeDone b) s =
      .next ((((s.setStrMode b 1).onStr b (fun t => { t with disc := false, preAt := none, term := 0 })).contactor b false 1).contactor b
        true 2) := if_pos (by simp [hl, hm, hp])

/-- A change of mode shows in its register alone. -/
theorem State.setStrMode_mode (s : State) (b m : Nat) (hm : m < 8) : (s.setStrMode b m).strMode b = m := by
  simp only [State.strMode, State.setStrMode, State.fld, State.rd_put_same]
  exact fieldOf_setField_lt _ _ _ _ (by decide) hm

theorem State.setStrMode_keeps (s : State) (b m : Nat) : Keeps s (s.setStrMode b m) [Reg.BS_STAT b] :=
  .of (by simp [State.setStrMode]) rfl rfl

theorem sideReg_bsStat : ∀ b : Fin 8, sideReg (Reg.BS_STAT b) = false := by decide

theorem bitOf_shfCmd (v : Word) (b : Fin 8) : bitOf (v &&& word 0xFF00) (8 + b) = bitOf v (8 + b) :=
  bitOf_and _ _ _ (by revert b; decide)

/-- Settles O33: each string meets its own command with the others out of its way. -/
theorem batteryStrings : Obligations.BatteryStrings := by
  intro p v b s hl
  have hb := b.isLt
  refine ⟨fun hm h1 ht => ?_, fun n hm he hn => ?_, fun hnow => ?_, fun hm hp => ?_⟩
  · refine ⟨_, exec_cvToFloat s b hl hm h1 ht, ?_, ?_, (s.setStrMode_keeps b 3).trans (.of (by simp) rfl rfl)⟩
    · exact s.setStrMode_mode b 3 (by decide)
    · rw [State.onStr_str_same _ _ hb]
  · obtain ⟨h1, h2, h3, h4⟩ := s.battEod_contactor hb
    obtain ⟨hreg, hsh, hmem, hq, -, -⟩ :=
      State.contactor_frame (s.onStr b (fun t => { t with eodAt := none, disc := true })) hb false 2
    have hexec := exec_battEod s b hl hm he hn
    generalize (s.onStr b (fun t => { t with eodAt := none, disc := true })).contactor b false 2 = t at *
    have hstr : (t.raise (E.BATT_EOD b)).str b = t.str b := by simp [State.str]
    have hlink : ∀ n, (t.raise (E.BATT_EOD b)).link n = t.link n := by simp [State.link]
    refine ⟨_, hexec, by rw [hstr, h1], by rw [hstr, h2], .of (List.Subset.refl _) hq, fun h => by rw [hstr, h3 h],
      fun h => by rw [hlink]; exact h4 h, ?_⟩
    exact .of (by simp [hreg]) (by simp [hsh]) (by simp [hmem])
  · have hr : s.runs = true := by simp only [State.live, Bool.and_eq_true] at hl; exact hl.1
    obtain ⟨t, ht, hn⟩ := exec_stringReconnect_near p v s hr hnow
    have hw : s.writePair Reg.SHF_CMD (v &&& word 0xFF00) = s.reconnect (v &&& word 0xFF00) := rfl
    rw [hw] at hn
    have hstr : t.str b = (s.reconnect (v &&& word 0xFF00)).str b := by
      obtain ⟨r, q, rfl⟩ := hn.1
      rfl
    have hmode : t.strMode b = (s.reconnect (v &&& word 0xFF00)).strMode b := by
      simp only [State.strMode, State.fld]
      rw [hn.2 _ (sideReg_bsStat b)]
    refine ⟨t, ht, fun hv hen hd => ?_, fun hv => ?_, (s.reconnect_keeps _).trans (State.keeps_of_near _ hn)⟩
    · rw [hstr, hmode]
      exact s.reconnect_string hb (by simpa [State.reconnects, bitOf_shfCmd, hv, hen] using hd)
    · rw [hstr, hmode]
      exact s.reconnect_others hb (by simp [State.reconnects, bitOf_shfCmd, hv])
  · have hx := s.setStrMode_mode b 1 (by decide)
    have hxk := s.setStrMode_keeps b 1
    refine ⟨_, exec_stringPrechargeDone s b hl hm hp, ?_⟩
    generalize hy : (s.setStrMode b 1).onStr b (fun t => { t with disc := false, preAt := none, term := 0 }) = x
    have hstr : x.str b = { s.str b with disc := false, preAt := none, term := 0 } := by
      rw [← hy]
      exact State.onStr_str_same _ _ hb
    have hk : Keeps s x [Reg.BS_STAT b] := hy ▸ hxk.trans (.of (by simp) rfl rfl)
    have hmode : x.strMode b = 1 := hy ▸ hx
    obtain ⟨hr1, hs1, hm1, -, -, l1, hl1⟩ := x.contactor_frame hb false 1
    obtain ⟨hr2, hs2, hm2, -, -, l2, hl2⟩ := (x.contactor b false 1).contactor_frame hb true 2
    rw [hl2, hl1, hstr]
    refine ⟨?_, rfl, rfl, hk.trans (.of (by simp [hr1, hr2]) (hs2.trans hs1) (hm2.trans hm1))⟩
    simp only [State.strMode, State.fld, State.rd, hr2, hr1]
    exact hmode

end Sys2Proof.Machine
end

section
/-!
PROOFS. Soft start (O14).
-/

namespace Sys2Proof.Machine

/-! ## The entries after the current one -/

/-- What going on with soft start leaves, and what it counts. -/
structure State.SoftWent (s t : State) : Prop where
  keeps : Keeps s t [Reg.SYS_SSTAT, Reg.SYS_STAT, Reg.BOOT_STAT]
  count : s.fld Reg.SYS_SSTAT 23 16 ≤ t.fld Reg.SYS_SSTAT 23 16
  fails : ∃ l, t.boot.softFail = s.boot.softFail ++ l
  queue : t.cwq = s.cwq ∧ t.stg = s.stg ∧ t.fdr = s.fdr ∧ t.strs = s.strs ∧ t.evq = s.evq

theorem State.SoftWent.trans {s t u : State} (h : s.SoftWent t) (g : t.SoftWent u) : s.SoftWent u := by
  obtain ⟨hk, hc, ⟨l, hl⟩, h1, h2, h3, h4, h5⟩ := h
  obtain ⟨gk, gc, ⟨m, gm⟩, g1, g2, g3, g4, g5⟩ := g
  exact ⟨hk.trans gk, hc.trans gc, ⟨l ++ m, by rw [gm, hl, List.append_assoc]⟩, g1.trans h1, g2.trans h2, g3.trans h3, g4.trans h4,
    g5.trans h5⟩

theorem State.softFailed_count (s : State) (i : Nat) :
    (s.softFailed i).fld Reg.SYS_SSTAT 23 16 = min (s.fld Reg.SYS_SSTAT 23 16 + 1) 255 :=
  State.fld_bump _ _ _ _ _ (by decide)

theorem State.softFailed_went (s : State) (i : Nat) : s.SoftWent (s.softFailed i) where
  keeps := Keeps.of (by simp [State.softFailed]) rfl rfl
  count := by
    have := fieldOf_lt (s.rd Reg.SYS_SSTAT) 23 16
    rw [State.softFailed_count]
    simp only [State.fld]
    omega
  fails := ⟨[i], rfl⟩
  queue := ⟨rfl, rfl, rfl, rfl, rfl⟩

theorem State.softGo_went (l : List StartEntry) (s : State) (i : Nat) : s.SoftWent (s.softGo i l) := by
  induction l generalizing s i with
  | nil =>
    refine ⟨Keeps.of (by simp [State.softGo, State.bootPhase]) rfl rfl, ?_, ⟨[], (List.append_nil _).symm⟩, rfl, rfl, rfl, rfl, rfl⟩
    simp (disch := decide) [State.softGo, State.bootPhase, State.rd_put_ne, State.rd_setBit_ne, fieldOf_setField_ne]
  | cons e rest ih =>
    simp only [State.softGo]
    split
    · exact (s.softFailed_went i).trans (ih _ _)
    · refine ⟨Keeps.of (by simp) rfl rfl, ?_, ⟨[], (List.append_nil _).symm⟩, rfl, rfl, rfl, rfl, rfl⟩
      simp (disch := decide) [fieldOf_setField_ne]

theorem State.softNext_went (s : State) : s.SoftWent s.softNext := s.softGo_went _ _

/-- After the last entry soft start is done. -/
theorem State.softNext_done (s : State) (h : s.boot.soft.length ≤ s.softIdx + 1) :
    s.softNext.bit Reg.SYS_SSTAT 31 = true ∧ s.softNext.bit Reg.SYS_STAT 2 = false ∧ s.softNext.fld Reg.BOOT_STAT 3 0 = 8 := by
  rw [State.softNext, List.drop_eq_nil_of_le h, State.softGo]
  simp (disch := decide) [State.bootPhase, State.rd_put_ne, State.rd_setBit_ne, bitOf_setField_bit, fieldOf_setField]

/-! ## The items -/

theorem State.startItem_stage (s : State) (k : Fin 32) :
    ((s.startItem (.stage k)).sg k).cmd = (s.sg k).cmd ++ [1] ∧
      (s.startItem (.stage k)).cwq = s.cwq ++ (s.armedWith k).map (fun c => CwItem.setState c 2) ∧
      Keeps s (s.startItem (.stage k)) [Reg.SYS_SSTAT, Reg.SYS_STAT, Reg.BOOT_STAT] := by
  refine ⟨?_, rfl, Keeps.of ?_ rfl rfl⟩
  · exact congrArg StgSt.cmd (State.onSg_sg_same _ _ k.isLt)
  · exact fun a _ ha => State.rd_put_ne _ _ _ _ _ _ (Ne.symm (sideReg_cw ha))

theorem State.startItem_feeder (s : State) (f : Fin 64) :
    (s.startItem (.feeder f)).bit (Reg.FDR_CTL f) 0 = true ∧
      Keeps s (s.startItem (.feeder f)) [Reg.FDR_CTL f, Reg.SYS_SSTAT, Reg.SYS_STAT, Reg.BOOT_STAT] :=
  ⟨State.bit_setBit _ _ _ _ (by decide), Keeps.of (by simp [State.startItem]) rfl rfl⟩

theorem State.startItem_string (s : State) (b : Fin 8) (he : s.strEn b = true) (hd : (s.str b).disc = true) :
    (s.startItem (.string b)).strMode b = 6 := by
  have hbit : bitOf (word (2 ^ (8 + b.val))) (8 + b) = true := by
    clear he hd
    revert b
    decide
  exact (s.reconnect_string b.isLt (by simp [State.reconnects, hbit, he, hd])).1

/-- The item that starts has no part in the soft-start entries and their count. -/
theorem State.startItem_soft (s : State) (x : StartItem) :
    (s.startItem x).boot = s.boot ∧ (s.startItem x).softIdx = s.softIdx := by
  cases x with
  | stage k => exact ⟨rfl, congrArg (fieldOf · 7 0) (State.rd_put_ne _ _ _ _ _ _ (by decide))⟩
  | feeder f =>
    refine ⟨rfl, congrArg (fieldOf · 7 0) (State.rd_setBit_ne _ _ _ _ _ ?_)⟩
    simp only [Reg.FDR_CTL, Reg.SYS_SSTAT]
    omega
  | string b =>
    exact ⟨s.reconnect_boot _, congrArg (fieldOf · 7 0) ((s.reconnect_keeps _).1 _ (by decide) (by decide))⟩

theorem fdrCtl_apart : ∀ f : Fin 64, Reg.FDR_CTL f ∉ [Reg.SYS_SSTAT, Reg.SYS_STAT, Reg.BOOT_STAT] ∧ sideReg (Reg.FDR_CTL f) = false := by
  decide

theorem bsStat_apart : ∀ b : Fin 8, Reg.BS_STAT b ∉ [Reg.SYS_SSTAT, Reg.SYS_STAT, Reg.BOOT_STAT] ∧ sideReg (Reg.BS_STAT b) = false := by
  decide

/-! ## The commands -/

theorem exec_softstartEntry (s : State) {e : StartEntry} (hon : s.softOn = true) (he : s.boot.soft[s.softIdx]? = some e)
    (hm : s.softMet e = true) : exec .softstartEntry s = .next (s.startItem e.item).softNext := by
  simp [exec, execSoftstartEntry, he, hon, hm]

theorem exec_softstartTimeout (s : State) {e : StartEntry} (hon : s.softOn = true) (he : s.boot.soft[s.softIdx]? = some e)
    (hm : s.softMet e = false) :
    exec .softstartTimeout s = .next ((s.softFailed s.softIdx).raise (E.SOFTSTART_TIMEOUT 0)).softNext := by
  simp [exec, execSoftstartTimeout, he, hon, hm]

/-- Settles O14: the item starts and soft start goes on, or the entry is counted as failed; going on touches neither items nor queues. -/
theorem softStartEntryAndTimeout : Obligations.SoftStartEntryAndTimeout := by
  intro s hon i e he
  refine ⟨fun hm => ?_, fun hm => ?_⟩
  · refine ⟨_, exec_softstartEntry s hon he hm, fun k hk => ?_, fun f hf => ?_, fun b hb hen hd => ?_, fun hlast => ?_⟩
    · obtain ⟨hkeeps, -, -, hq, hstg, -⟩ := (s.startItem e.item).softNext_went
      rw [hk] at hkeeps hq hstg ⊢
      obtain ⟨h1, h2, h3⟩ := s.startItem_stage k
      exact ⟨by simpa only [State.sg, hstg] using h1, hq.trans h2, h3.trans hkeeps⟩
    · obtain ⟨hkeeps, -⟩ := (s.startItem e.item).softNext_went
      rw [hf] at hkeeps ⊢
      obtain ⟨h1, h2⟩ := s.startItem_feeder f
      refine ⟨?_, h2.trans (hkeeps.mono (by simp))⟩
      obtain ⟨hf', hside⟩ := fdrCtl_apart f
      simpa only [State.bit, hkeeps.1 _ hf' hside] using h1
    · obtain ⟨hkeeps, -⟩ := (s.startItem e.item).softNext_went
      rw [hb] at hkeeps ⊢
      obtain ⟨hb', hside⟩ := bsStat_apart b
      simpa only [State.strMode, State.fld, hkeeps.1 _ hb' hside] using s.startItem_string b hen hd
    · obtain ⟨hboot, hidx⟩ := s.startItem_soft e.item
      exact State.softNext_done _ (by rw [hboot, hidx]; exact hlast)
  · have hwent := State.softNext_went ((s.softFailed s.softIdx).raise (E.SOFTSTART_TIMEOUT 0))
    obtain ⟨hkeeps, hcount, ⟨l, hl⟩, hq, hstg, hfdr, hstrs, hevq⟩ := hwent
    have hc : ((s.softFailed s.softIdx).raise (E.SOFTSTART_TIMEOUT 0)).fld Reg.SYS_SSTAT 23 16 =
        min (s.fld Reg.SYS_SSTAT 23 16 + 1) 255 := by
      rw [State.fld, State.rd_raise _ _ _ _ _ (by decide) (by decide) (by decide)]
      exact s.softFailed_count _
    refine ⟨_, exec_softstartTimeout s hon he hm, ?_, hc ▸ hcount, ?_, ?_, ?_, ?_, ?_, ?_⟩
    · rw [hl]
      simp [State.softFailed, i, State.softIdx]
    · simpa [State.softFailed] using hq
    · simpa [State.softFailed] using hstg
    · simpa [State.softFailed] using hfdr
    · simpa [State.softFailed] using hstrs
    · exact .of (x := s.softFailed s.softIdx) (by rw [hevq]; exact List.Subset.refl _) rfl
    · exact ((s.softFailed_went _).keeps.raise (by decide)).trans hkeeps

end Sys2Proof.Machine
end

section
/-!
PROOFS. Commit requests, their answers and their checks (O15).
-/

namespace Sys2Proof.Machine

/-! ## Requests -/

/-- An outcome in SYS_COMMITSTAT. -/
theorem State.commitResult_shows (s : State) (result err : Nat) (f : Option (CommitFail × Nat)) (hr : result < 8) :
    (s.commitResult result err f).fld Reg.SYS_COMMITSTAT 26 24 = result ∧
      (s.commitResult result err f).fld Reg.SYS_COMMITSTAT 23 16 = err % 256 ∧
      (s.commitResult result err f).fld Reg.SYS_COMMITSTAT 31 30 = s.fld Reg.SYS_COMMITSTAT 31 30 ∧
      (s.commitResult result err f).commit = s.commit ∧
      Keeps s (s.commitResult result err f) [Reg.SYS_COMMITSTAT, Reg.SYS_COMMITERR] := by
  have hx : ∀ v, Keeps s (((s.put Reg.SYS_COMMITSTAT 26 24 result).put Reg.SYS_COMMITSTAT 23 16 err).wrN Reg.SYS_COMMITERR v)
      [Reg.SYS_COMMITSTAT, Reg.SYS_COMMITERR] := fun v => .of (by simp) rfl rfl
  obtain ⟨v, hv⟩ : ∃ v, s.commitResult result err f =
      ((s.put Reg.SYS_COMMITSTAT 26 24 result).put Reg.SYS_COMMITSTAT 23 16 err).wrN Reg.SYS_COMMITERR v := by
    cases f with
    | none => exact ⟨_, rfl⟩
    | some x => exact ⟨_, rfl⟩
  have hrd : (s.commitResult result err f).rd Reg.SYS_COMMITSTAT =
      setField (setField (s.rd Reg.SYS_COMMITSTAT) 26 24 result) 23 16 err := by
    rw [hv, State.rd_wrN_ne _ _ _ _ (by decide), State.rd_put_same, State.rd_put_same]
  refine ⟨?_, ?_, ?_, by rw [hv]; rfl, by rw [hv]; exact hx v⟩ <;> rw [State.fld, hrd]
  · rw [fieldOf_setField_ne _ _ _ _ _ _ (by decide) (by decide), fieldOf_setField _ _ _ _ (by decide)]
    exact Nat.mod_eq_of_lt hr
  · exact fieldOf_setField _ _ _ _ (by decide)
  · rw [fieldOf_setField_ne _ _ _ _ _ _ (by decide) (by decide), fieldOf_setField_ne _ _ _ _ _ _ (by decide) (by decide)]
    rfl

theorem State.commitWrite_standby (s : State) (v : Word) (h : s.notActiveInPair = true ∨ s.bit Reg.SYS_STAT 1 = true) :
    s.commitWrite v = s.commitResult 3 0 none := if_pos (by simpa using h)

theorem State.commitWrite_busy (s : State) (v : Word) (hn : s.notActiveInPair = false) (hp : s.bit Reg.SYS_STAT 1 = false)
    (hc : s.commit.isSome = true) (hm : fieldOf v 16 0 ≠ 0 ∨ bitOf v 31 = true) : s.commitWrite v = s.commitResult 2 0 none := by
  rw [State.commitWrite, if_neg (by rw [hn, hp]; decide), if_neg (by rcases hm with h | h <;> simp [h]), if_pos hc]

theorem State.commitWrite_accepted (s : State) (v : Word) (hn : s.notActiveInPair = false) (hp : s.bit Reg.SYS_STAT 1 = false)
    (hc : s.commit = none) (hm : fieldOf v 16 0 ≠ 0 ∨ bitOf v 31 = true) :
    s.commitWrite v = ({ s with commit := some { groups := fieldOf v 16 0, discard := bitOf v 31, wait := 0 } }.commitState 1).put
      Reg.SYS_COMMITSTAT 15 0 (s.fld Reg.SYS_COMMITSTAT 15 0 + 1) := by
  rw [State.commitWrite, if_neg (by rw [hn, hp]; decide), if_neg (by rcases hm with h | h <;> simp [h]), if_neg (by simp [hc])]
  rfl

/-- The bits of a write of SYS_COMMIT. -/
theorem commit_known (v : Word) : fieldOf (v &&& word 0x8001FFFF) 16 0 = fieldOf v 16 0 ∧
    bitOf (v &&& word 0x8001FFFF) 31 = bitOf v 31 :=
  ⟨fieldOf_and _ _ _ _ (by decide) (by decide), bitOf_and _ _ _ (by decide)⟩

theorem hostWrite_commit (s : State) (p : Port) (v : Word) (hup : s.fabricUp = true) (hm : s.mapped Reg.SYS_COMMIT = true) :
    (s.hostWrite p Reg.SYS_COMMIT v).Counted (s.commitWrite (v &&& word 0x8001FFFF)) :=
  State.hostWrite_fixed_counted s p _ _ _ _ _ hup hm (by decide) (by cases p <;> rfl) rfl rfl (by decide) (by decide) (by decide) rfl

/-- The answer to a request that is not accepted. -/
theorem hostWrite_commit_refused (s : State) (p : Port) (v : Word) (hup : s.fabricUp = true) (hm : s.mapped Reg.SYS_COMMIT = true)
    {r : Nat} (hr : r < 8) (hw : s.commitWrite (v &&& word 0x8001FFFF) = s.commitResult r 0 none) :
    (s.hostWrite p Reg.SYS_COMMIT v).commit = s.commit ∧ (s.hostWrite p Reg.SYS_COMMIT v).fld Reg.SYS_COMMITSTAT 26 24 = r ∧
      Keeps s (s.hostWrite p Reg.SYS_COMMIT v) [Reg.SYS_COMMITSTAT, Reg.SYS_COMMITERR] := by
  have hc := hw ▸ hostWrite_commit s p v hup hm
  obtain ⟨h1, -, -, h2, h3⟩ := s.commitResult_shows r 0 none hr
  obtain ⟨rg, q, ht⟩ := hc.fields
  exact ⟨by rw [ht]; exact h2, by rw [State.fld, hc.rd (by decide)]; exact h1, hc.keeps h3⟩

/-- A request that is accepted. -/
theorem hostWrite_commit_accepted (s : State) (p : Port) (v : Word) (hr : s.runs = true) (hn : s.notActiveInPair = false)
    (hp : s.bit Reg.SYS_STAT 1 = false) (hc : s.commit = none) (hm : fieldOf v 16 0 ≠ 0 ∨ bitOf v 31 = true) :
    (s.hostWrite p Reg.SYS_COMMIT v).commit = some { groups := fieldOf v 16 0, discard := bitOf v 31, wait := 0 } ∧
      (s.hostWrite p Reg.SYS_COMMIT v).fld Reg.SYS_COMMITSTAT 31 30 = 1 ∧
      (s.hostWrite p Reg.SYS_COMMIT v).fld Reg.SYS_COMMITSTAT 15 0 = (s.fld Reg.SYS_COMMITSTAT 15 0 + 1) % 65536 ∧
      Keeps s (s.hostWrite p Reg.SYS_COMMIT v) [Reg.SYS_COMMITSTAT] := by
  have hw := hostWrite_commit s p v (s.fabricUp_runs hr) (s.mapped_runs _ hr (.inr (by decide)))
  obtain ⟨h16, h31⟩ := commit_known v
  rw [State.commitWrite_accepted s _ hn hp hc (by rwa [h16, h31]), h16, h31] at hw
  obtain ⟨rg, q, ht⟩ := hw.fields
  refine ⟨by rw [ht]; rfl, ?_, ?_, hw.keeps (.of (by simp [State.commitState]) rfl rfl)⟩
  all_goals
    rw [State.fld, hw.rd (by decide)]
    simp (disch := decide) [State.commitState, fieldOf_setField_ne, fieldOf_setField]

/-! ## Checks -/

/-- The METHOD bytes of the calibration entries are in no group of the shadow bank. -/
theorem groupOf_calMethod : ∀ e : Fin 512, groupOf (0x14000 + 0x40 * e) = none := by decide +kernel

theorem State.calMethodClear_srd (s : State) (a : Nat) (h : ∀ e < 512, a ≠ 0x14000 + 0x40 * e) : s.calMethodClear.srd a = s.srd a := by
  have hf : ∀ (l : List Nat) (x : State), (∀ e ∈ l, a ≠ 0x14000 + 0x40 * e) →
      (l.foldl (fun s e => s.swr (0x14000 + 0x40 * e) 0) x).srd a = x.srd a := by
    intro l
    induction l with
    | nil => exact fun _ _ => rfl
    | cons e l ih =>
      intro x hl
      refine (ih _ (fun e he => hl e (List.mem_cons_of_mem _ he))).trans ?_
      exact State.srd_swr_ne _ _ _ _ (Ne.symm (hl e List.mem_cons_self))
  exact hf _ _ (fun e he => h e (List.mem_range.mp he))

/-- A DISCARD puts the values in effect into the shadow registers of its groups. -/
theorem State.discardApply_srd (s : State) (m a : Nat) (hwf : Memory.wf s) (ha : inGroups m a = true) :
    (s.discardApply m).srd a = s.rd a := by
  have hmeth : ∀ e < 512, a ≠ 0x14000 + 0x40 * e := by
    rintro e he rfl
    simp [inGroups, groupOf_calMethod ⟨e, he⟩] at ha
  have hcopy : ({ s with shadow := cellsCopy (inGroups m) s.reg s.shadow } : State).srd a = s.rd a := by
    rw [State.srd, cellsGet_copy _ _ _ _ hwf.1, if_pos ha]
    rfl
  have hstale : ∀ x : State, x.schedStale.srd a = x.srd a := by
    intro x
    unfold State.schedStale
    split <;> rfl
  unfold State.discardApply
  extract_lets x y z
  have hy : y.srd a = s.rd a := by
    simp only [y]
    split
    · rw [State.calMethodClear_srd _ _ hmeth, hcopy]
    · exact hcopy
  have hz : z.srd a = s.rd a := by
    simp only [z]
    split
    · rw [hstale, hy]
    · exact hy
  exact hz

/-- The end of a request (R74, R75). -/
theorem State.commitEnd_shows (s : State) (result err : Nat) (f : Option (CommitFail × Nat)) (hr : result < 8) :
    (s.commitEnd result err f).commit = none ∧ (s.commitEnd result err f).fld Reg.SYS_COMMITSTAT 26 24 = result ∧
      (s.commitEnd result err f).fld Reg.SYS_COMMITSTAT 23 16 = err % 256 ∧
      (s.commitEnd result err f).fld Reg.SYS_COMMITSTAT 31 30 = 0 ∧ ∀ a, (s.commitEnd result err f).srd a = s.srd a := by
  have hx : (({ s with commit := none } : State).commitState 0).fld Reg.SYS_COMMITSTAT 31 30 = 0 := by
    simp [State.commitState, fieldOf_setField]
  obtain ⟨h1, h2, h3, h4, h5⟩ := (({ s with commit := none } : State).commitState 0).commitResult_shows result err f hr
  have hrd : ∀ x : State, ∀ v, (x.wr Reg.SYS_COMMITGFC v).rd Reg.SYS_COMMITSTAT = x.rd Reg.SYS_COMMITSTAT :=
    fun x v => State.rd_wr_ne _ _ _ _ (by decide)
  refine ⟨h4, ?_, ?_, ?_, h5.2.1⟩ <;> simp only [State.commitEnd, State.fld, hrd]
  · exact h1
  · exact h2
  · exact h3.trans hx

theorem State.forward_reg (s : State) (x : FwdItem) : (s.forward x).reg = s.reg ∧ (s.forward x).commit = s.commit := by
  unfold State.forward State.tdmSend
  split
  · split <;> exact ⟨rfl, rfl⟩
  · exact ⟨rfl, rfl⟩

section
variable (s : State) {c : CommitSt} (ha : s.awake = true) (hc : s.commit = some c) (hst : s.fld Reg.SYS_COMMITSTAT 31 30 = 1)
include ha hc hst

theorem execCommitChecksDone_discard (hd : c.discard = true) :
    execCommitChecksDone s = .next ((s.discardApply c.groups).commitEnd 4 0 none) := by
  simp only [execCommitChecksDone, hc]
  rw [if_neg (by rw [ha, hst]; decide), if_pos hd]

theorem execCommitChecksDone_fail (hd : c.discard = false) {f : CommitFail} {g : Nat}
    (hk : (s.commitChecks c.groups).1 = some (f, g)) :
    execCommitChecksDone s = .next ((s.commitChecks c.groups).2.commitEnd 1 f.err (some (f, g))) := by
  simp only [execCommitChecksDone, hc]
  rw [if_neg (by rw [ha, hst]; decide), if_neg (by simp [hd])]
  rcases h : s.commitChecks c.groups with ⟨r, t⟩
  obtain rfl : r = some (f, g) := by rw [← hk, h]
  rfl

/-- The commit after its checks passed, waiting for its boundary; the other unit is told last. -/
theorem execCommitChecksDone_pass (hd : c.discard = false) (hk : (s.commitChecks c.groups).1 = none) :
    ∃ t x, execCommitChecksDone s = .next (t.forward x) ∧
      t = ({ (s.commitChecks c.groups).2 with
        commit := some { c with wait := if (s.commitChecks c.groups).2.unit.pairMode then 2 else 1 } } : State).commitState 2 := by
  simp only [execCommitChecksDone, hc]
  rw [if_neg (by rw [ha, hst]; decide), if_neg (by simp [hd])]
  rcases h : s.commitChecks c.groups with ⟨r, t⟩
  obtain rfl : r = none := by rw [← hk, h]
  exact ⟨_, _, rfl, rfl⟩

end

/-! ## The obligation -/

theorem fabricUp_paddock (s : State) (h : s.inPaddock = true) : s.fabricUp = true := by simp [State.fabricUp, h]

theorem mapped_paddock (s : State) (a : Nat) (h : s.inPaddock = true) (ha : a < 0x100 ∨ within a 0x200 0x300 = true) :
    s.mapped a = true := by
  rw [State.mapped, if_pos h]
  rcases ha with ha | ha <;> simp [ha]

/-- The words that the two commands write: the groups, with the DISCARD bit clear or set. -/
theorem commitRequest_word (v : Word) : fieldOf (setField v 31 31 0) 16 0 = fieldOf v 16 0 ∧ bitOf (setField v 31 31 0) 31 = false :=
  ⟨fieldOf_setField_ne _ _ _ _ _ _ (by decide) (by decide), (bitOf_setField_bit v 31 31 false (by decide)).trans (if_pos rfl)⟩

theorem commitDiscard_word (v : Word) : fieldOf (withBit v 31) 16 0 = fieldOf v 16 0 ∧ bitOf (withBit v 31) 31 = true :=
  ⟨fieldOf_withBit _ _ _ _ (by decide) (by decide), (bitOf_withBit v 31 31 (by decide)).trans (if_pos rfl)⟩

/-- Settles O15: an accepted request is pending with its groups, every other answer leaves the pending one, and the checks end it. -/
theorem commitRequestsAndChecks : Obligations.CommitRequestsAndChecks := by
  unfold Obligations.CommitRequestsAndChecks
  refine ⟨fun p v s hr => ⟨fun hn hp hc => ⟨fun hg => ?_, ?_⟩, fun hn hp hc hg => ?_, fun hn => ?_⟩,
    fun p v s hpd hst => ?_, fun s ha c hc hst hwf => ⟨fun hd => ?_, fun hd hk => ?_, fun hd f g hk => ?_⟩⟩
  · obtain ⟨hf, hb⟩ := commitRequest_word v
    have h := hostWrite_commit_accepted s p _ hr hn hp hc (.inl (hf.symm ▸ hg))
    rw [hf, hb] at h
    exact ⟨_, rfl, h⟩
  · obtain ⟨hf, hb⟩ := commitDiscard_word v
    have h := hostWrite_commit_accepted s p _ hr hn hp hc (.inr hb)
    rw [hf, hb] at h
    exact ⟨_, rfl, h⟩
  · have h : ∀ w, fieldOf w 16 0 = fieldOf v 16 0 → _ := fun w hw =>
      hostWrite_commit_refused s p w (s.fabricUp_runs hr) (s.mapped_runs _ hr (.inr (by decide))) (r := 2) (by decide)
        (s.commitWrite_busy _ hn hp hc (.inl (by rw [(commit_known w).1, hw]; exact hg)))
    exact ⟨⟨_, rfl, h _ (commitRequest_word v).1⟩, ⟨_, rfl, h _ (commitDiscard_word v).1⟩⟩
  · have h := fun w => hostWrite_commit_refused s p w (s.fabricUp_runs hr) (s.mapped_runs _ hr (.inr (by decide))) (r := 3)
      (by decide) (s.commitWrite_standby _ (.inl hn))
    exact ⟨⟨_, rfl, h _⟩, ⟨_, rfl, h _⟩⟩
  · have h := fun w => hostWrite_commit_refused s p w (fabricUp_paddock s hpd) (mapped_paddock s _ hpd (.inl (by decide))) (r := 3)
      (by decide) (s.commitWrite_standby _ (.inr hst))
    exact ⟨⟨_, rfl, h _⟩, ⟨_, rfl, h _⟩⟩
  · obtain ⟨h1, h2, -, h4, h5⟩ := (s.discardApply c.groups).commitEnd_shows 4 0 none (by decide)
    exact ⟨_, execCommitChecksDone_discard s ha hc hst hd,
      h1, h2, h4, fun a hg => (h5 a).trans (s.discardApply_srd _ _ hwf hg)⟩
  · obtain ⟨t, x, ht, hx⟩ := execCommitChecksDone_pass s ha hc hst hd hk
    obtain ⟨h1, h2⟩ := t.forward_reg x
    refine ⟨_, ht, by rw [h2, hx]; rfl, ?_⟩
    rw [State.fld, State.rd, h1, hx, State.cellsGet_reg, State.commitState, State.rd_put_same, fieldOf_setField _ _ _ _ (by decide)]
    rfl
  · obtain ⟨h1, h2, h3, h4, -⟩ := (s.commitChecks c.groups).2.commitEnd_shows 1 f.err (some (f, g)) (by decide)
    exact ⟨_, execCommitChecksDone_fail s ha hc hst hd hk, h1, h2, h3, h4⟩

end Sys2Proof.Machine
end

section
/-!
PROOFS. The frame of the shared operations: which bits of which registers each may change, and which sources' events it may raise.
-/

namespace Sys2Proof.Machine

/-- From `s` to `t` no bit of a register changed but those that `R` names and the side registers,
  no event was raised but of the sources that
`E` names and those that tell of a loss (R42, R356), nothing left the crossing of events or the collector's queue, and the
shadow, context RAM, the timeline and what the start left are as before. -/
structure State.Frame (R : Nat → Nat → Prop) (E : Nat → Prop) (s t : State) : Prop where
  bits : ∀ a i, i < 32 → ¬ R a i → sideReg a = false → bitOf (t.rd a) i = bitOf (s.rd a) i
  shadow : t.shadow = s.shadow
  mem : t.mem = s.mem
  evq : s.evq ⊆ t.evq
  fits : ∀ k, ¬ E k → k ≠ 1 → k ≠ 35 → s.pulseFits k = true → t.pulseFits k = true
  inq : s.flt.inq ⊆ t.flt.inq
  time : t.time = s.time
  boot : t.boot = s.boot

/-- The parts of a state that a frame speaks of. -/
def State.frameParts (s : State) := (s.reg, s.shadow, s.mem, s.evq, s.flt.inq, s.time, s.boot)

/-- Two words with the same bits are one. -/
theorem word_eq_of_bits {v w : Word} (h : ∀ i < 32, bitOf v i = bitOf w i) : v = w := BitVec.eq_of_getLsbD_eq h

/-- A field is its bits. -/
theorem fieldOf_eq_of_bits {v w : Word} {hi lo : Nat} (h : ∀ i < 32, lo ≤ i → i ≤ hi → bitOf v i = bitOf w i) :
    fieldOf v hi lo = fieldOf w hi lo := by
  apply Nat.eq_of_testBit_eq
  intro i
  rw [fieldOf_testBit, fieldOf_testBit]
  by_cases hi' : i < hi + 1 - lo
  · by_cases h32 : lo + i < 32
    · have := h (lo + i) h32 (by omega) (by omega)
      rw [bitOf, bitOf] at this
      rw [this]
    · rw [BitVec.getLsbD_of_ge v _ (by omega), BitVec.getLsbD_of_ge w _ (by omega)]
  · simp [hi']

namespace State.Frame

section
variable {R R' : Nat → Nat → Prop} {E E' : Nat → Prop} {s x t u : State}

/-- An update of parts that no frame speaks of. -/
theorem of (h : t.frameParts = s.frameParts) : State.Frame R E s t := by
  simp only [State.frameParts, Prod.mk.injEq] at h
  obtain ⟨hr, hs, hm, he, hf, ht, hb⟩ := h
  exact {
    bits := fun _ _ _ _ _ => by rw [State.rd, hr, State.cellsGet_reg]
    shadow := hs
    mem := hm
    evq := by rw [he]; exact List.Subset.refl _
    fits := fun _ _ _ _ => by simp [State.pulseFits, he]
    inq := by rw [hf]; exact List.Subset.refl _
    time := ht
    boot := hb }

theorem refl (s : State) : State.Frame R E s s := .of rfl

theorem trans (h : State.Frame R E s t) (g : State.Frame R E t u) : State.Frame R E s u where
  bits a i hi hR hs := (g.bits a i hi hR hs).trans (h.bits a i hi hR hs)
  shadow := g.shadow.trans h.shadow
  mem := g.mem.trans h.mem
  evq := List.Subset.trans h.evq g.evq
  fits k hE h1 h35 hf := g.fits k hE h1 h35 (h.fits k hE h1 h35 hf)
  inq := List.Subset.trans h.inq g.inq
  time := g.time.trans h.time
  boot := g.boot.trans h.boot

theorem mono (h : State.Frame R E s t) (hR : ∀ a i, R a i → R' a i) (hE : ∀ k, E k → E' k) : State.Frame R' E' s t :=
  { h with bits := fun a i hi hn => h.bits a i hi (fun hr => hn (hR a i hr)), fits := fun k hn => h.fits k (fun he => hn (hE k he)) }

theorem ite {p : Prop} [Decidable p] (ht : State.Frame R E s t) (hu : State.Frame R E s u) : State.Frame R E s (if p then t else u) := by
  split
  · exact ht
  · exact hu

theorem foldl {α : Type} (f : State → α → State) (l : List α) (hf : ∀ (s : State), ∀ x ∈ l, State.Frame R E s (f s x)) (s : State) :
    State.Frame R E s (l.foldl f s) := by
  induction l generalizing s with
  | nil => exact .refl s
  | cons a l ih => exact (hf s a List.mem_cons_self).trans (ih (fun s x hx => hf s x (List.mem_cons_of_mem _ hx)) _)

end

section
variable {R : Nat → Nat → Prop} {E : Nat → Prop} {s x : State} (h : State.Frame R E s x)
include h

/-- One register changes, within the bits named. -/
theorem reg1 {t : State} {a : Nat} (hr : ∀ b, b ≠ a → t.rd b = x.rd b) (hb : ∀ i < 32, ¬ R a i → bitOf (t.rd a) i = bitOf (x.rd a) i)
    (ht : t = { x with reg := t.reg } := by rfl) : State.Frame R E s t := by
  refine h.trans ?_
  rw [ht] at hr hb ⊢
  exact { bits := fun b i hi hn _ => by
            by_cases hba : b = a
            · subst hba
              exact hb i hi hn
            · rw [hr b hba]
          shadow := rfl, mem := rfl, evq := List.Subset.refl _, fits := fun _ _ _ _ hf => hf, inq := List.Subset.refl _,
          time := rfl, boot := rfl }

theorem put (a hi lo v : Nat) (hR : ∀ i < 32, lo ≤ i → i ≤ hi → R a i) : State.Frame R E s (x.put a hi lo v) := by
  refine h.reg1 (a := a) (fun b hb => State.rd_put_ne _ _ _ _ _ _ hb.symm) (fun i hi' hn => ?_)
  rw [State.rd_put_same, bitOf_setField _ _ _ _ _ hi', if_neg (fun hc => hn (hR i hi' hc.1 hc.2))]

theorem wr (a : Nat) (v : Word) (hR : ∀ i < 32, R a i) : State.Frame R E s (x.wr a v) :=
  h.reg1 (a := a) (fun b hb => State.rd_wr_ne _ _ _ _ hb.symm) (fun i hi hn => absurd (hR i hi) hn)

theorem wrN (a v : Nat) (hR : ∀ i < 32, R a i) : State.Frame R E s (x.wrN a v) := h.wr a _ hR

theorem setBit (a i : Nat) (b : Bool) (hR : R a i) : State.Frame R E s (x.setBit a i b) :=
  h.put a i i _ (fun _ _ h1 h2 => le_antisymm h2 h1 ▸ hR)

theorem bump (a hi lo n : Nat) (hR : ∀ i < 32, lo ≤ i → i ≤ hi → R a i) : State.Frame R E s (x.bump a hi lo n) := h.put a hi lo _ hR

theorem onLink (n : Nat) (f : LinkSt → LinkSt) : State.Frame R E s (x.onLink n f) := h.trans (.of rfl)
theorem onPh (n : Nat) (f : PhSt → PhSt) : State.Frame R E s (x.onPh n f) := h.trans (.of rfl)
theorem onSg (n : Nat) (f : StgSt → StgSt) : State.Frame R E s (x.onSg n f) := h.trans (.of rfl)
theorem onFd (n : Nat) (f : FdrSt → FdrSt) : State.Frame R E s (x.onFd n f) := h.trans (.of rfl)
theorem onLc (n : Nat) (f : LocSt → LocSt) : State.Frame R E s (x.onLc n f) := h.trans (.of rfl)
theorem onCx (n : Nat) (f : CtxSt → CtxSt) : State.Frame R E s (x.onCx n f) := h.trans (.of rfl)
theorem onStr (n : Nat) (f : StrSt → StrSt) : State.Frame R E s (x.onStr n f) := h.trans (.of rfl)
theorem onPair (f : PairSt → PairSt) : State.Frame R E s (x.onPair f) := h.trans (.of rfl)

end

/-! ### Events and fault messages -/

section
variable {R : Nat → Nat → Prop} {E : Nat → Prop} {s x t : State}

/-- A pulse takes a place of its own source alone. -/
theorem pulse_fits (s : State) (p : EvPulse) {k : Nat} (hk : p.ev.src ≠ k) : (s.pulse p).pulseFits k = s.pulseFits k := by
  unfold State.pulse
  split
  · simp [State.pulseFits, List.filter_append, hk]
  · rfl

theorem raiseWith_fits (s : State) (e : Ev) (d : List Byte) (i w : Bool) {k : Nat} (hk : e.src ≠ k) (h1 : k ≠ 1) :
    (s.raiseWith e d i w).pulseFits k = s.pulseFits k := by
  simp only [State.raiseWith]
  split
  · exact pulse_fits s _ hk
  · rw [pulse_fits _ _ (Ne.symm h1), pulse_fits _ _ hk]

theorem raise_fits (s : State) (e : Ev) {k : Nat} (hk : e.src ≠ k) (h1 : k ≠ 1) : (s.raise e).pulseFits k = s.pulseFits k :=
  raiseWith_fits s e _ _ _ hk h1

theorem ofRaiseWith (s : State) (e : Ev) (d : List Byte) (i w : Bool) (he : e.src < 256) (hE : E e.src ∨ e.src = 1 ∨ e.src = 35) :
    State.Frame R E s (s.raiseWith e d i w) where
  bits a j _ _ hs := by rw [State.raiseWith_rd _ _ _ _ _ _ he (sideReg_cross hs)]
  shadow := by simp
  mem := by simp
  evq := s.evq_subset_raiseWith _ _ _ _
  fits k hk h1 h35 hf := by
    rw [raiseWith_fits s e d i w (by rintro rfl; rcases hE with hE | hE | hE <;> contradiction) h1]
    exact hf
  inq := by simp
  time := by simp
  boot := by simp

theorem ofSendFault (s : State) (m : FltMsg) : State.Frame R E s (s.sendFault m) where
  bits a j _ _ hs := by rw [State.sendFault_rd _ _ _ (sideReg_cross hs) (sideReg_drop hs)]
  shadow := by simp
  mem := by simp
  evq := by
    unfold State.sendFault
    split
    · exact (s.bump Reg.FLT_DROP 15 0 1).evq_subset_raise _
    · exact List.Subset.refl _
  fits k hk h1 h35 hf := by
    unfold State.sendFault
    split
    · rw [raise_fits _ _ (Ne.symm h35) h1]
      exact hf
    · exact hf
  inq := s.inq_subset_sendFault m
  time := by simp
  boot := by simp

theorem raiseWith (h : State.Frame R E s x) (e : Ev) (d : List Byte) (i w : Bool) (he : e.src < 256)
    (hE : E e.src ∨ e.src = 1 ∨ e.src = 35) : State.Frame R E s (x.raiseWith e d i w) := h.trans (ofRaiseWith x e d i w he hE)

theorem raise (h : State.Frame R E s x) (e : Ev) (he : e.src < 256) (hE : E e.src ∨ e.src = 1 ∨ e.src = 35) :
    State.Frame R E s (x.raise e) := h.raiseWith e _ _ _ he hE

theorem sendFault (h : State.Frame R E s x) (m : FltMsg) : State.Frame R E s (x.sendFault m) := h.trans (ofSendFault x m)

theorem fault (h : State.Frame R E s x) (k i a : Nat) : State.Frame R E s (x.fault k i a) := h.sendFault _

/-! ### What follows from a frame -/

section
variable (h : State.Frame R E s t)
include h

theorem rd {a : Nat} (hR : ∀ i < 32, ¬ R a i) (hs : sideReg a = false) : t.rd a = s.rd a :=
  word_eq_of_bits fun i hi => h.bits a i hi (hR i hi) hs

theorem field {a hi lo : Nat} (hR : ∀ i < 32, lo ≤ i → i ≤ hi → ¬ R a i) (hs : sideReg a = false) :
    fieldOf (t.rd a) hi lo = fieldOf (s.rd a) hi lo :=
  fieldOf_eq_of_bits fun i hi' h1 h2 => h.bits a i hi' (hR i hi' h1 h2) hs

theorem keeps {w : List Nat} (hw : ∀ a i, R a i → a ∈ w) : Keeps s t w :=
  .of (fun a ha hs => h.rd (fun i _ hr => ha (hw a i hr)) hs) h.shadow h.mem

/-- An event raised after the frame, of a source that it leaves alone. -/
theorem raisedAfter {v : State} (e : Ev) (hv : t.evq = v.evq := by rfl) (hE : ¬ E e.src) (h1 : e.src ≠ 1) (h35 : e.src ≠ 35) :
    Raised s (v.raise e) e := by
  intro hf
  have ht : v.pulseFits e.src = true := by
    have := h.fits _ hE h1 h35 hf
    simpa [State.pulseFits, hv] using this
  exact v.raise_raised e ht

theorem raised {e : Ev} {v : State} (hr : Raised v s e) : Raised v t e := hr.mono h.evq

theorem reported {k i a : Nat} (hr : Reported s k i a) : Reported t k i a := hr.mono h.inq

end
end

end State.Frame

/-! ## The operations that make channels, phases and stages safe -/

/-- PT_STAT, PT_TON, EDG_STAT and LNK_REFLEX. -/
def phaseReg (a : Nat) : Prop :=
  (0x11000 ≤ a ∧ a < 0x12000 ∧ (a % 0x20 = 0x10 ∨ a % 0x20 = 0x14)) ∨ (0x2800 ≤ a ∧ a < 0x2C00 ∧ a % 0x40 = 4) ∨
    (0x1000 ≤ a ∧ a < 0x2000 ∧ a % 0x100 = 0x50)

/-- What a stage that goes to SAFE may change: its own register, those of its phases, and the sums over stages. -/
def stageReg (k a i : Nat) : Prop :=
  phaseReg a ∨ a = Reg.ST_STAT k ∨ (a = Reg.PHS_STAT ∧ i < 8) ∨ a = Reg.PHS_CAPREQ ∨ a = Reg.SHF_FTRUN

theorem State.phWhere_lt (s : State) (i : Nat) : s.phWhere i < 16 := fieldOf_lt ..

theorem State.mem_phases {s : State} {k i : Nat} (h : i ∈ s.phases k) : i < 128 := by
  simp only [State.phases, List.mem_filter, List.mem_range] at h
  exact h.1

section
variable {R : Nat → Nat → Prop} {E : Nat → Prop} (s : State)

theorem State.frame_sendReflex (hR : ∀ a i, phaseReg a → R a i) {n : Nat} (hn : n < 16) (act mask : Nat) :
    State.Frame R E s (s.sendReflex n act mask) := by
  unfold State.sendReflex
  refine .ite ?_ (.refl s)
  extract_lets l m l'
  split
  · exact .of rfl
  · exact .bump (.of (by rfl)) _ _ _ _ (fun i _ _ _ => hR _ _ (by simp only [phaseReg, Reg.LNK_REFLEX]; omega))

theorem State.frame_noteEdge (hR : ∀ a i, phaseReg a → R a i) {i : Nat} (hi : i < 128) (ev t : Nat) :
    State.Frame R E s (s.noteEdge i ev t) := by
  unfold State.noteEdge
  split
  · exact .ite (.of rfl) (.refl s)
  · exact .ite (.refl s) (.onPh (.put (.refl s) _ _ _ _ (fun j _ _ _ => hR _ _ (by simp only [phaseReg, Reg.PT_TON]; omega))) _ _)

theorem State.frame_noteLocal (hR : ∀ a i, phaseReg a → R a i) (n ev t : Nat) : State.Frame R E s (s.noteLocal n ev t) :=
  .ite (s.frame_noteEdge hR (fieldOf_lt ..) ..) (.refl s)

theorem State.frame_forceLocal (hR : ∀ a i, phaseReg a → R a i) {n : Nat} (hn : n < 16) : State.Frame R E s (s.forceLocal n) :=
  .setBit (.onLc (s.frame_noteLocal hR ..) _ _) _ _ _ (hR _ _ (by simp only [phaseReg, Reg.EDG_STAT]; omega))

theorem State.frame_discardEdges (i : Nat) : State.Frame R E s (s.discardEdges i) := by
  have h : State.Frame R E s (s.onPh i (fun p => { p with pulses := [] })) := .of rfl
  exact .ite (h.onLc ..) (h.onLink ..)

theorem State.frame_reflexPhases (hR : ∀ a i, phaseReg a → R a i) (act : Nat) (is : List Nat) :
    State.Frame R E s (s.reflexPhases act is) :=
  .foldl _ _ (fun s _ hn => .ite (.refl s) (s.frame_sendReflex hR (List.mem_range.mp hn) ..)) s

theorem State.frame_forcePhases (hR : ∀ a i, phaseReg a → R a i) (is : List Nat) (hi : ∀ i ∈ is, i < 128) (cause : Nat) :
    State.Frame R E s (s.forcePhases is cause) := by
  refine .trans (.foldl _ is (fun s i hm => ?_) s) (State.frame_reflexPhases _ hR _ _)
  have hi' := hi i hm
  have hr : ∀ j, R (Reg.PT_STAT i) j := fun j => hR _ _ (by simp only [phaseReg, Reg.PT_STAT]; omega)
  extract_lets s1 s2 s3
  have h : State.Frame R E s s2 :=
    (s.frame_discardEdges i).trans (.ite (State.frame_forceLocal _ hR (State.phWhere_lt ..)) (State.frame_noteEdge _ hR hi' ..))
  have h3 : State.Frame R E s s3 := h.setBit _ _ _ (hr _)
  exact .ite h3 ((h3.put _ _ _ _ (fun j _ _ _ => hr j)).put _ _ _ _ (fun j _ _ _ => hr j))

theorem State.frame_stageSafe {k : Nat} (hR : ∀ a i, stageReg k a i → R a i) (hE : E 101) (cause : Nat) (fwd : Bool) :
    State.Frame R E s (s.stageSafe k cause fwd) := by
  have hst : ∀ i, R (Reg.ST_STAT k) i := fun i => hR _ _ (.inr (.inl rfl))
  have hcap : ∀ i, R Reg.PHS_CAPREQ i := fun i => hR _ _ (.inr (.inr (.inr (.inl rfl))))
  have hrun : ∀ i, R Reg.SHF_FTRUN i := fun i => hR _ _ (.inr (.inr (.inr (.inr rfl))))
  unfold State.stageSafe
  extract_lets st s1 s2 s3 s4
  have h1 : State.Frame R E s s1 := .of rfl
  have h2 : State.Frame R E s s2 := h1.trans (s1.frame_forcePhases (fun a i h => hR a i (.inl h)) _ (fun _ => State.mem_phases) _)
  have h3 : State.Frame R E s s3 :=
    ((h2.put _ _ _ _ (fun _ _ _ _ => hst _)).put _ _ _ _ (fun _ _ _ _ => hst _)).setBit _ _ _ (hst _)
  have h4 : State.Frame R E s s4 :=
    ((((h3.onSg ..).setBit _ _ _ (hst _)).setBit _ _ _ (hcap _)).setBit _ _ _ (hrun _)).onSg ..
  have h5 : State.Frame R E s (s4.countPhases k) :=
    (((h4.put _ _ _ _ (fun _ _ _ _ => hst _)).put _ _ _ _ (fun _ _ _ _ => hst _)).put _ _ _ _ (fun _ _ _ _ => hst _)).put _ _ _ _
      (fun i _ _ hi => hR _ _ (.inr (.inr (.inl ⟨rfl, by omega⟩))))
  exact .ite (.refl s) (h5.raise _ (by decide : 101 < 256) (.inl hE))

theorem State.frame_stageFaultSafe {k : Nat} (hR : ∀ a i, stageReg k a i → R a i) (hE : E 101) (cause : Nat) (fwd : Bool) :
    State.Frame R E s (s.stageFaultSafe k cause fwd) := .ite (s.frame_stageSafe hR hE ..) (.refl s)

theorem State.frame_forward (x : FwdItem) : State.Frame R E s (s.forward x) := .ite (.ite (.of rfl) (.refl s)) (.refl s)

theorem State.frame_fdrSendHead (f : Nat) : State.Frame R E s (s.fdrSendHead f) := by
  unfold State.fdrSendHead
  extract_lets d n
  exact .ite (.onFd (.onLink (.onLink (.onLink (.refl s) _ _) _ _) _ _) _ _) (.refl s)

theorem State.frame_tripAgain {f : Nat} (hR : ∀ i < 32, R (Reg.FDR_CTL f) i) (cause : Nat) : State.Frame R E s (s.tripAgain f cause) := by
  unfold State.tripAgain
  refine .ite ?_ (.refl s)
  extract_lets x y
  exact (State.Frame.put (.refl s) (Reg.FDR_CTL f) 23 20 cause (fun i hi _ _ => hR i hi)).trans (.of rfl)

theorem State.frame_tripState {f : Nat} (hf : f < 64) (hR : ∀ i < 32, R (Reg.FDR_CTL f) i) (hE : E (128 + f)) (cause : Nat) (fwd : Bool) :
    State.Frame R E s (s.tripState f cause fwd) := by
  unfold State.tripState
  refine .ite ?_ (s.frame_tripAgain hR _)
  extract_lets st s1 s2 s3 s4
  have h1 : State.Frame R E s s1 := .of rfl
  have h2 : State.Frame R E s s2 := (h1.put _ _ _ _ (fun i hi _ _ => hR i hi)).put _ _ _ _ (fun i hi _ _ => hR i hi)
  have h3 : State.Frame R E s s3 := h2.trans (.of rfl)
  exact ((h3.raiseWith _ _ _ _ (by simp only; omega) (.inl hE)).fault ..).trans (State.frame_fdrSendHead ..)

end

end Sys2Proof.Machine
end

section
/-!
PROOFS. Writes that follow the pair (R173): head register accesses (O21), stage and phase commands (O29), the kill and its release (O30).
-/

namespace Sys2Proof.Machine

/-! ## Where such a write acts -/

section
variable (s : State) (p : Port) (a k : Nat) (v : Word) (r : RegRow)

/-- A write that follows R173, of a register that a standby ignores. -/
theorem State.hostWrite_standby_counted (hup : s.fabricUp = true) (hm : s.mapped a = true) (ha : plainAddr a = true)
    (hfw : s.fwBusy p a = false) (hk : s.keyOf p a = some k) (hr : rowOfKey k = some r) (hf : followsPair k = true)
    (hn : s.notActiveInPair = true) (ht : k ≠ Reg.ADC_HTEST) : (s.hostWrite p a v).Counted s := by
  have := s.hostWrite_counted p a k v r hup hm ha hfw hk hr
  rwa [show s.writeKey p k (v &&& word r.known) = s by simp [State.writeKey, hf, State.pairWrite, hn, ht]] at this

end

/-- What is not a register and not in the crossing is as the counted state has it. -/
theorem State.Counted.same {α : Type} {t u : State} (h : t.Counted u) (f : State → α)
    (hf : ∀ r q, f { u with reg := r, evq := q } = f u) : f t = f u := by
  obtain ⟨r, q, rfl⟩ := h.fields
  exact hf r q

theorem State.Counted.links {t u : State} (h : t.Counted u) : t.links = u.links := by
  obtain ⟨r, q, rfl⟩ := h.fields
  rfl

/-! ## Head registers (O21) -/

theorem State.writePair_hreg (s : State) (n : Fin 16) (v : Word) : s.writePair (Reg.LNK_HREG_CTL n) v = s.hregCtl n v := by
  fin_cases n <;> rfl

/-- The row of LNK_HREG_CTL. -/
def hregRow : RegRow := ⟨0x1070, 0x100, 16, 4, 1, 0, 0x40000000, 0, 0, 0x80000000, 0xF0000000, none, []⟩

theorem mapped_hreg (s : State) (n : Fin 16) (hr : s.runs = true) : s.mapped (Reg.LNK_HREG_CTL n) = true :=
  State.mapped_runs s _ hr (Or.inr (by clear hr; revert n; decide))

theorem plainAddr_hreg (n : Fin 16) : plainAddr (Reg.LNK_HREG_CTL n) = true := by revert n; decide

theorem followsPair_hreg (n : Fin 16) : followsPair (Reg.LNK_HREG_CTL n) = true := by revert n; decide

section
variable (s : State) (p : Port) (n : Fin 16) (v : Word) (hr : s.runs = true)
include hr

theorem hostWrite_hreg_now (hn : s.actsNow = true) :
    (s.hostWrite p (Reg.LNK_HREG_CTL n) v).Counted (s.hregCtl n (v &&& word 0xF0000000)) :=
  s.writePair_hreg n _ ▸ State.hostWrite_now_counted s p _ (Reg.LNK_HREG_CTL n) v hregRow (State.fabricUp_runs s hr)
    (mapped_hreg s n hr) (plainAddr_hreg n) (by fin_cases n <;> cases p <;> rfl) (by fin_cases n <;> rfl) (row_hregWrite n)
    (followsPair_hreg n) hn

theorem hostWrite_hreg_standby (hn : s.notActiveInPair = true) : (s.hostWrite p (Reg.LNK_HREG_CTL n) v).Counted s :=
  State.hostWrite_standby_counted s p _ (Reg.LNK_HREG_CTL n) v hregRow (State.fabricUp_runs s hr)
    (mapped_hreg s n hr) (plainAddr_hreg n) (by fin_cases n <;> cases p <;> rfl) (by fin_cases n <;> rfl) (row_hregWrite n)
    (followsPair_hreg n) hn (by simp only [Reg.LNK_HREG_CTL, Reg.ADC_HTEST]; omega)

end

/-- The words that the two commands write: START with the direction. -/
theorem hreg_words (v : Word) : (bitOf (setField (withBit v 31) 30 30 0 &&& word 0xF0000000) 31 = true ∧
      bitOf (setField (withBit v 31) 30 30 0 &&& word 0xF0000000) 30 = false) ∧
    bitOf (withBit (withBit v 31) 30 &&& word 0xF0000000) 31 = true ∧ bitOf (withBit (withBit v 31) 30 &&& word 0xF0000000) 30 = true := by
  simp only [bitOf_and _ (word 0xF0000000) 31 (by decide), bitOf_and _ (word 0xF0000000) 30 (by decide)]
  refine ⟨⟨?_, ?_⟩, ?_, ?_⟩
  · rw [bitOf_setField _ _ _ _ _ (by decide), if_neg (by decide), bitOf_withBit _ _ _ (by decide), if_pos rfl]
  · exact (bitOf_setField_bit _ 30 30 false (by decide)).trans (if_pos rfl)
  · rw [bitOf_withBit _ _ _ (by decide), if_neg (by decide), bitOf_withBit _ _ _ (by decide), if_pos rfl]
  · rw [bitOf_withBit _ _ _ (by decide), if_pos rfl]

/-- The access that LNK_HREG_ADDR and LNK_HREG_DATA name. -/
def State.hregAccess (s : State) (n : Nat) (write : Bool) : HeadAccess :=
  { owner := .user, write := write, addr := s.fld (Reg.LNK_HREG_ADDR n) 15 2 * 4, data := s.rd (Reg.LNK_HREG_DATA n) }

section
variable (s : State) (n : Fin 16) (v : Word) (h31 : bitOf v 31 = true) (hb : s.bit (Reg.LNK_HREG_CTL n) 29 = false)
include h31 hb

theorem State.hregCtl_up (hl : s.linkUp n = true) :
    ((s.hregCtl n v).link n).accq = (s.link n).accq ++ [s.hregAccess n (!bitOf v 30)] ∧
      (s.hregCtl n v).bit (Reg.LNK_HREG_CTL n) 29 = true ∧ (s.hregCtl n v).bit (Reg.LNK_HREG_CTL n) 28 = false ∧
      Keeps s (s.hregCtl n v) [Reg.LNK_HREG_CTL n] := by
  have hup : (s.setBit (Reg.LNK_HREG_CTL n) 30 (bitOf v 30)).linkUp n = true := by
    rw [← hl, State.linkUp, State.linkState, State.fld, State.rd_setBit_ne _ _ _ _ _ (by simp only [Reg.LNK_HREG_CTL, Reg.LNK_STAT]; omega)]
    rfl
  have haddr : (s.setBit (Reg.LNK_HREG_CTL n) 30 (bitOf v 30)).hregAccess n (!bitOf v 30) = s.hregAccess n (!bitOf v 30) := by
    unfold State.hregAccess State.fld
    rw [State.rd_setBit_ne _ _ _ _ _ (by simp only [Reg.LNK_HREG_CTL, Reg.LNK_HREG_ADDR]; omega),
      State.rd_setBit_ne _ _ _ _ _ (by simp only [Reg.LNK_HREG_CTL, Reg.LNK_HREG_DATA]; omega)]
  have hq : s.hregCtl n v = (((s.setBit (Reg.LNK_HREG_CTL n) 30 (bitOf v 30)).setBit (Reg.LNK_HREG_CTL n) 29 true).setBit
      (Reg.LNK_HREG_CTL n) 28 false).addAccess n (s.hregAccess n (!bitOf v 30)) := by
    rw [State.hregCtl, if_neg (by rw [hb]; decide), if_pos h31, if_pos hup, ← haddr]
    rfl
  rw [hq]
  refine ⟨?_, ?_, ?_, .of (by simp [State.addAccess]) rfl rfl⟩
  · rw [State.addAccess, State.onLink_link_same _ _ n.isLt]
    rfl
  · simp [State.addAccess, bitOf_setField_bit]
  · simp [State.addAccess, bitOf_setField_bit]

theorem State.hregCtl_down (hl : s.linkUp n = false) :
    (s.hregCtl n v).links = s.links ∧ (s.hregCtl n v).bit (Reg.LNK_HREG_CTL n) 28 = true ∧
      Keeps s (s.hregCtl n v) [Reg.LNK_HREG_CTL n] := by
  have hup : (s.setBit (Reg.LNK_HREG_CTL n) 30 (bitOf v 30)).linkUp n = false := by
    rw [← hl, State.linkUp, State.linkState, State.fld, State.rd_setBit_ne _ _ _ _ _ (by simp only [Reg.LNK_HREG_CTL, Reg.LNK_STAT]; omega)]
    rfl
  have hq : s.hregCtl n v = (s.setBit (Reg.LNK_HREG_CTL n) 30 (bitOf v 30)).setBit (Reg.LNK_HREG_CTL n) 28 true := by
    rw [State.hregCtl, if_neg (by rw [hb]; decide), if_pos h31, if_neg (by simp [hup])]
  rw [hq]
  exact ⟨rfl, by simp [bitOf_setField_bit], .of (by simp) rfl rfl⟩

end

theorem sideReg_hreg (n : Fin 16) : sideReg (Reg.LNK_HREG_CTL n) = false := by revert n; decide

/-- A property of the access, through the count of reserved bits. -/
theorem State.Counted.link {t u : State} (h : t.Counted u) (n : Nat) : t.link n = u.link n := by rw [State.link, h.links]; rfl

/-- Settles O21: on an UP link the access joins the queue; elsewhere it ends in ERR; a standby ignores it. -/
theorem headRegisterAccess : Obligations.HeadRegisterAccess := by
  unfold Obligations.HeadRegisterAccess
  intro p n v s hr a
  obtain ⟨⟨hw31, hw30⟩, hr31, hr30⟩ := hreg_words v
  have hs := sideReg_hreg n
  refine ⟨fun hn hb hl => ?_, fun hn hb hl => ?_, fun hn => ?_⟩
  · have key : ∀ w x, bitOf (w &&& word 0xF0000000) 31 = true → (!bitOf (w &&& word 0xF0000000) 30) = x →
        ((s.hostWrite p (Reg.LNK_HREG_CTL n) w).link n).accq = (s.link n).accq ++ [a x] ∧
          (s.hostWrite p (Reg.LNK_HREG_CTL n) w).bit (Reg.LNK_HREG_CTL n) 29 = true ∧
          (s.hostWrite p (Reg.LNK_HREG_CTL n) w).bit (Reg.LNK_HREG_CTL n) 28 = false ∧
          Keeps s (s.hostWrite p (Reg.LNK_HREG_CTL n) w) [Reg.LNK_HREG_CTL n] := by
      rintro w x h31 rfl
      have hc := hostWrite_hreg_now s p n w hr hn
      obtain ⟨h1, h2, h3, h4⟩ := s.hregCtl_up n _ h31 hb hl
      refine ⟨by rw [hc.link, h1]; rfl, ?_, ?_, hc.keeps h4⟩
      · rw [State.bit, hc.rd hs]; exact h2
      · rw [State.bit, hc.rd hs]; exact h3
    exact ⟨⟨_, rfl, key _ true hw31 (by rw [hw30]; rfl)⟩, ⟨_, rfl, key _ false hr31 (by rw [hr30]; rfl)⟩⟩
  · have key : ∀ w, bitOf (w &&& word 0xF0000000) 31 = true → (s.hostWrite p (Reg.LNK_HREG_CTL n) w).links = s.links ∧
          (s.hostWrite p (Reg.LNK_HREG_CTL n) w).bit (Reg.LNK_HREG_CTL n) 28 = true ∧
          Keeps s (s.hostWrite p (Reg.LNK_HREG_CTL n) w) [Reg.LNK_HREG_CTL n] := by
      intro w h31
      have hc := hostWrite_hreg_now s p n w hr hn
      obtain ⟨h1, h2, h3⟩ := s.hregCtl_down n _ h31 hb hl
      exact ⟨hc.links.trans h1, by rw [State.bit, hc.rd hs]; exact h2, hc.keeps h3⟩
    exact ⟨⟨_, rfl, key _ hw31⟩, ⟨_, rfl, key _ hr31⟩⟩
  · have hc := fun w => hostWrite_hreg_standby s p n w hr hn
    exact ⟨⟨_, rfl, (hc _).links, (hc _).keeps (.refl _ _)⟩, ⟨_, rfl, (hc _).links, (hc _).keeps (.refl _ _)⟩⟩

end Sys2Proof.Machine
end

section
/-!
PROOFS. Stage and phase commands (O29), the kill and its release (O30).
-/

namespace Sys2Proof.Machine

/-! ## Stage and phase commands (O29) -/

theorem State.writePair_stage (s : State) (k : Fin 32) (v : Word) (h : fieldOf v 1 0 ≠ 0) :
    s.writePair (0x1204C + 0x80 * (k : Nat)) v = s.onSg k (fun g => { g with cmd := g.cmd ++ [fieldOf v 1 0] }) := by
  have hw : within (0x1204C + 0x80 * (k : Nat)) 0x12000 0x13000 = true := by revert k; decide
  rw [State.writePair, if_pos hw, if_neg h, show (0x1204C + 0x80 * (k : Nat) - 0x12000) / 0x80 = k by omega]

theorem State.writePair_phase (s : State) (i : Fin 128) (v : Word) (h : bitOf v 31 = true) :
    s.writePair (0x1100C + 0x20 * (i : Nat)) v = s.onPh i (fun x => { x with revive := true }) := by
  have h1 : within (0x1100C + 0x20 * (i : Nat)) 0x12000 0x13000 = false := by revert i; decide
  have h2 : within (0x1100C + 0x20 * (i : Nat)) 0x11000 0x12000 = true := by revert i; decide
  rw [State.writePair, if_neg (by simp [h1]), if_pos h2, if_pos h, show (0x1100C + 0x20 * (i : Nat) - 0x11000) / 0x20 = i by omega]

section
variable (s : State) (p : Port) (v : Word) (hr : s.runs = true)
include hr

/-- A stage command joins the commands of its stage, and nothing else changes. -/
theorem hostWrite_stage_queued (k : Fin 32) (hi : s.bankN p Reg.SW_IDX = k) (hn : s.actsNow = true) {op : Nat} (ho : op < 4) (h0 : op ≠ 0) :
    ((s.hostWrite p stCtlAddr (setField v 1 0 op)).sg k).cmd = (s.sg k).cmd ++ [op] ∧
      (∀ j, j ≠ k.val → (s.hostWrite p stCtlAddr (setField v 1 0 op)).sg j = s.sg j) ∧
      (s.hostWrite p stCtlAddr (setField v 1 0 op)).phs = s.phs ∧ Keeps s (s.hostWrite p stCtlAddr (setField v 1 0 op)) [] := by
  have hop : fieldOf (setField v 1 0 op &&& word 3) 1 0 = op := by
    rw [fieldOf_and _ _ _ _ (by decide) (by decide)]
    exact fieldOf_setField_lt _ _ _ _ (by decide) ho
  have hc := State.hostWrite_now_counted s p _ (0x1204C + 0x80 * (k : Nat)) (setField v 1 0 op)
    ⟨0x1204C, 0x80, 32, 4, 1, 0, 0, 0, 0, 3, 3, none, []⟩ (State.fabricUp_runs s hr) (State.mapped_runs s stCtlAddr hr (Or.inr (by decide)))
    (by decide) (by cases p <;> rfl) (State.keyOf_stageStartCommand s p _ hi k.isLt) (row_stageStartCommand k) (fol_stageStartCommand k) hn
  rw [State.writePair_stage s k (setField v 1 0 op &&& word 3) (by rw [hop]; exact h0), hop] at hc
  refine ⟨?_, fun j hj => (hc.same (·.sg j) (fun _ _ => rfl)).trans (s.onSg_sg_ne _ (Ne.symm hj)), hc.same (·.phs) (fun _ _ => rfl),
    hc.keeps (.of (by simp [State.onSg]) rfl rfl)⟩
  rw [hc.same (·.sg k) (fun _ _ => rfl), s.onSg_sg_same _ k.isLt]

/-- A revival waits at its phase, and nothing else changes. -/
theorem hostWrite_phaseRevive (i : Fin 128) (hi : s.bankN p Reg.PW_IDX = i) (hn : s.actsNow = true) :
    ((s.hostWrite p ptCmdAddr (withBit v 31)).ph i).revive = true ∧
      ((s.hostWrite p ptCmdAddr (withBit v 31)).ph i).pulses = (s.ph i).pulses ∧
      (∀ j, j ≠ i.val → (s.hostWrite p ptCmdAddr (withBit v 31)).ph j = s.ph j) ∧
      (s.hostWrite p ptCmdAddr (withBit v 31)).stg = s.stg ∧ Keeps s (s.hostWrite p ptCmdAddr (withBit v 31)) [] := by
  have hb : bitOf (withBit v 31 &&& word 0x80000000) 31 = true := by
    rw [bitOf_and _ _ _ (by decide), bitOf_withBit _ _ _ (by decide), if_pos rfl]
  have hc := State.hostWrite_now_counted s p _ (0x1100C + 0x20 * (i : Nat)) (withBit v 31)
    ⟨0x1100C, 0x20, 128, 4, 1, 0, 0, 0, 0, 0x80000000, 0x80000000, none, []⟩ (State.fabricUp_runs s hr)
    (State.mapped_runs s ptCmdAddr hr (Or.inr (by decide))) (by decide) (by cases p <;> rfl) (State.keyOf_phaseRevive s p _ hi i.isLt)
    (row_phaseRevive i) (fol_phaseRevive i) hn
  rw [State.writePair_phase s i _ hb] at hc
  refine ⟨?_, ?_, fun j hj => (hc.same (·.ph j) (fun _ _ => rfl)).trans (s.onPh_ph_ne _ (Ne.symm hj)), hc.same (·.stg) (fun _ _ => rfl),
    hc.keeps (.of (by simp [State.onPh]) rfl rfl)⟩ <;> rw [hc.same (·.ph i) (fun _ _ => rfl), s.onPh_ph_same _ i.isLt]

theorem hostWrite_stage_standby (k : Fin 32) (hi : s.bankN p Reg.SW_IDX = k) (hn : s.notActiveInPair = true) :
    (s.hostWrite p stCtlAddr v).stg = s.stg ∧ Keeps s (s.hostWrite p stCtlAddr v) [] := by
  have hc := State.hostWrite_standby_counted s p stCtlAddr (0x1204C + 0x80 * (k : Nat)) v
    ⟨0x1204C, 0x80, 32, 4, 1, 0, 0, 0, 0, 3, 3, none, []⟩ (State.fabricUp_runs s hr) (State.mapped_runs s stCtlAddr hr (Or.inr (by decide)))
    (by decide) (by cases p <;> rfl) (State.keyOf_stageStartCommand s p _ hi k.isLt) (row_stageStartCommand k) (fol_stageStartCommand k) hn
    (by simp only [Reg.ADC_HTEST]; omega)
  exact ⟨hc.same (·.stg) (fun _ _ => rfl), hc.keeps (.refl _ _)⟩

theorem hostWrite_phase_standby (i : Fin 128) (hi : s.bankN p Reg.PW_IDX = i) (hn : s.notActiveInPair = true) :
    (s.hostWrite p ptCmdAddr v).phs = s.phs ∧ Keeps s (s.hostWrite p ptCmdAddr v) [] := by
  have hc := State.hostWrite_standby_counted s p ptCmdAddr (0x1100C + 0x20 * (i : Nat)) v
    ⟨0x1100C, 0x20, 128, 4, 1, 0, 0, 0, 0, 0x80000000, 0x80000000, none, []⟩ (State.fabricUp_runs s hr)
    (State.mapped_runs s ptCmdAddr hr (Or.inr (by decide))) (by decide) (by cases p <;> rfl) (State.keyOf_phaseRevive s p _ hi i.isLt)
    (row_phaseRevive i) (fol_phaseRevive i) hn (by simp only [Reg.ADC_HTEST]; omega)
  exact ⟨hc.same (·.phs) (fun _ _ => rfl), hc.keeps (.refl _ _)⟩

end

/-- Settles O29: each command waits in its order, and the standby ignores it. -/
theorem stageAndPhaseCommands : Obligations.StageAndPhaseCommands := by
  unfold Obligations.StageAndPhaseCommands
  intro p v k i s hr hk hi queued
  refine ⟨fun hn => ⟨⟨_, rfl, ?_⟩, ⟨_, rfl, ?_⟩, ⟨_, rfl, ?_⟩, ⟨_, rfl, ?_⟩⟩, fun hn => ⟨⟨_, rfl, ?_⟩, ⟨_, rfl, ?_⟩, ⟨_, rfl, ?_⟩, ⟨_,
    rfl, ?_⟩⟩⟩
  · exact hostWrite_stage_queued s p v hr k hk hn (by decide) (by decide)
  · exact hostWrite_stage_queued s p v hr k hk hn (by decide) (by decide)
  · exact hostWrite_stage_queued s p v hr k hk hn (by decide) (by decide)
  · exact hostWrite_phaseRevive s p v hr i hi hn
  · exact hostWrite_stage_standby s p _ hr k hk hn
  · exact hostWrite_stage_standby s p _ hr k hk hn
  · exact hostWrite_stage_standby s p _ hr k hk hn
  · exact hostWrite_phase_standby s p _ hr i hi hn

/-! ## The kill and its release (O30) -/

/-- What a kill does to a local channel. -/
def State.killChannel (s : State) (n : Nat) : State := (s.forceLocal n).setBit (Reg.EDG_STAT n) 3 true

/-- What a kill does to a stage. -/
def State.killStage (s : State) (k : Nat) : State :=
  if s.hasLocal k && s.stState k != 3 then
    let s := s.stageSafe k 10 false
    if (s.phases k).any (fun i => !s.phLocal i) then s.forward (.decision (.stage k 10)) else s
  else s

/-- The pin shows; then the channels and the stages are made safe. -/
def State.afterKill (s : State) : State :=
  (List.range 32).foldl State.killStage
    ((List.range 16).foldl State.killChannel ((s.setBit Reg.PHS_STAT 31 true).setBit Reg.PHS_STAT 30 true))

theorem execPwmKill_eq (s : State) (hr : s.runs = true) :
    execPwmKill s = .next ((s.afterKill.bump Reg.PHS_KILLCNT 15 0 1).raise (E.PWM_KILL 0)) := if_pos hr

/-- What a kill may change. -/
def killReg (a i : Nat) : Prop := ∃ k < 32, stageReg k a i

theorem State.frame_killChannel (s : State) {n : Nat} (hn : n < 16) : State.Frame killReg (· = 101) s (s.killChannel n) :=
  .setBit (s.frame_forceLocal (fun _ _ h => ⟨0, by decide, .inl h⟩) hn) _ _ _
    ⟨0, by decide, .inl (by simp only [phaseReg, Reg.EDG_STAT]; omega)⟩

theorem State.frame_killStage (s : State) (k : Nat) : State.Frame (stageReg k) (· = 101) s (s.killStage k) := by
  unfold State.killStage
  refine .ite ?_ (.refl s)
  have h := s.frame_stageSafe (k := k) (E := (· = 101)) (fun _ _ h => h) rfl 10 false
  exact .ite (h.trans (State.frame_forward ..)) h

/-- A local channel forced to its safe state. -/
def LocSt.forced (c : LocSt) : LocSt := { c with edges := [], a := .safe, b := .safe, on := false, due := none }

theorem State.killChannel_eq (s : State) (n : Nat) : s.killChannel n =
    (((s.noteLocal n 3 s.now).onLc n LocSt.forced).setBit (Reg.EDG_STAT n) 2 true).setBit (Reg.EDG_STAT n) 3 true := rfl

theorem State.setBit_lc (s : State) (a i n : Nat) (b : Bool) : (s.setBit a i b).lc n = s.lc n := rfl

theorem State.noteLocal_lc (s : State) (n ev t m : Nat) : (s.noteLocal n ev t).lc m = s.lc m := by
  unfold State.noteLocal State.noteEdge
  split
  · split
    · split <;> rfl
    · split <;> rfl
  · rfl

theorem State.killChannel_safe (s : State) (n m : Nat) (hn : n < 16) (h : (s.lc m).safe = true ∨ m = n) :
    ((s.killChannel n).lc m).safe = true := by
  rw [State.killChannel_eq, State.setBit_lc, State.setBit_lc]
  by_cases hm : n = m
  · rw [← hm, State.onLc_lc_same _ _ hn]
    rfl
  · rw [State.onLc_lc_ne _ _ hm, State.noteLocal_lc]
    exact h.resolve_right (Ne.symm hm)

theorem State.foldl_killChannel_safe (l : List Nat) (hl : ∀ n ∈ l, n < 16) (s : State) (m : Nat) (h : (s.lc m).safe = true ∨ m ∈ l) :
    ((l.foldl State.killChannel s).lc m).safe = true := by
  induction l generalizing s with
  | nil => exact h.resolve_right List.not_mem_nil
  | cons n l ih =>
    refine ih (fun n hn => hl n (List.mem_cons_of_mem _ hn)) _ ?_
    by_cases hm : m ∈ l
    · exact .inr hm
    · exact .inl (s.killChannel_safe n m (hl n List.mem_cons_self) (h.imp_right (fun h => (List.mem_cons.mp h).resolve_right hm)))

theorem State.inert_killStage (s : State) (k : Nat) : s.Inert (s.killStage k) := by
  unfold State.killStage
  exact .ite (.ite ((s.inert_stageSafe ..).trans (State.inert_forward ..)) (s.inert_stageSafe ..)) (.refl s)

/-- Every local output is safe after a kill. -/
theorem State.afterKill_safe (s : State) : s.afterKill.loc.toList.all LocSt.safe = true := by
  refine (State.Inert.foldl _ State.inert_killStage _ _).locals ((State.all_loc _ _).mpr fun n hn => ?_)
  exact State.foldl_killChannel_safe _ (fun n hn => List.mem_range.mp hn) _ _ (.inr (List.mem_range.mpr hn))

/-- Which phases a stage has, and where they are, reads PT_LOC alone. -/
theorem State.hasLocal_congr {s t : State} (h : ∀ j < 128, t.rd (Reg.PT_LOC j) = s.rd (Reg.PT_LOC j)) (k : Nat) :
    t.hasLocal k = s.hasLocal k := by
  have hp : t.phases k = s.phases k := by
    refine List.filter_congr fun j hj => ?_
    simp [State.phValid, State.phStage, h j (List.mem_range.mp hj)]
  unfold State.hasLocal
  rw [hp]
  rw [Bool.eq_iff_iff, List.any_eq_true, List.any_eq_true]
  refine exists_congr fun j => and_congr_right fun hj => ?_
  rw [State.phLocal, State.bit, h j (State.mem_phases hj)]
  rfl

theorem sideReg_ptLoc {j : Nat} : sideReg (Reg.PT_LOC j) = false :=
  sideReg_eq_false.mpr (by simp only [Reg.PT_LOC, Reg.HST_RSVWR, Reg.CW_STAT]; omega)

theorem killReg_ptLoc {j i : Nat} : ¬ killReg (Reg.PT_LOC j) i := by
  simp only [killReg, stageReg, phaseReg, Reg.PT_LOC, Reg.ST_STAT, Reg.PHS_STAT, Reg.PHS_CAPREQ, Reg.SHF_FTRUN]
  omega

theorem State.hasLocal_frame {s t : State} (h : State.Frame killReg (· = 101) s t) (k : Nat) : t.hasLocal k = s.hasLocal k :=
  State.hasLocal_congr (fun _ _ => h.rd (fun _ _ => killReg_ptLoc) sideReg_ptLoc) k

theorem sideReg_stStat {k : Nat} : sideReg (Reg.ST_STAT k) = false :=
  sideReg_eq_false.mpr (by simp only [Reg.ST_STAT, Reg.HST_RSVWR, Reg.CW_STAT]; omega)

theorem State.countPhases_stState (s : State) (k : Nat) : (s.countPhases k).stState k = s.stState k := by
  rw [State.countPhases, State.stState, State.fld,
    State.rd_put_ne _ _ _ _ _ _ (by simp only [Reg.ST_STAT, Reg.PHS_STAT]; omega), State.rd_put_same, State.rd_put_same, State.rd_put_same]
  simp (disch := decide) only [fieldOf_setField_ne]
  rfl

theorem State.leaveRun_stState (s : State) (k : Nat) : (s.leaveRun k).stState k = s.stState k := by
  have h2 : Reg.PHS_CAPREQ ≠ Reg.ST_STAT k := by simp only [Reg.ST_STAT, Reg.PHS_CAPREQ]; omega
  have h3 : Reg.SHF_FTRUN ≠ Reg.ST_STAT k := by simp only [Reg.ST_STAT, Reg.SHF_FTRUN]; omega
  rw [State.leaveRun, State.stState, State.fld, State.onSg_rd, State.rd_setBit_ne _ _ _ _ _ h3, State.rd_setBit_ne _ _ _ _ _ h2,
    State.rd_setBit_same]
  simp (disch := decide) only [fieldOf_setField_ne]
  rfl

theorem State.raiseSafe_stState (s : State) (k : Nat) : (s.raise (E.STAGE_SAFE k)).stState k = s.stState k := by
  rw [State.stState, State.fld, State.raise_rd _ _ _ (by decide : 101 < 256) (sideReg_cross sideReg_stStat)]
  rfl

/-- A stage made safe is in SAFE, and stays so while the kill goes on. -/
theorem State.stageSafe_stState (s : State) (k cause : Nat) (fwd : Bool) : (s.stageSafe k cause fwd).stState k = 3 := by
  unfold State.stageSafe
  extract_lets st s1 s2 s3 s4
  have h3 : s3.stState k = 3 := by
    simp only [s3]
    generalize s2 = x
    rw [State.stState, State.fld, State.rd_setBit_same, State.rd_put_same, State.rd_put_same]
    simp (disch := decide) only [b2n, fieldOf_setField_ne, fieldOf_setField]
    rfl
  have h4 : s4.stState k = 3 := (State.leaveRun_stState _ k).trans h3
  split
  · next h => exact eq_of_beq h
  · exact ((s4.countPhases k).raiseSafe_stState k).trans ((s4.countPhases_stState k).trans h4)

theorem State.killStage_stState (s : State) (k j : Nat) (hj : s.stState k = 3 ∨ (j = k ∧ s.hasLocal k = true)) :
    (s.killStage j).stState k = 3 := by
  by_cases hk : j = k
  · subst hk
    unfold State.killStage
    split
    · have hf : ∀ (x : State) d, (x.forward d).stState j = x.stState j := fun x d => by
        rw [State.stState, State.stState, State.fld, State.rd, (x.forward_reg d).1]
        rfl
      simp only
      split
      · rw [hf, State.stageSafe_stState]
      · exact State.stageSafe_stState ..
    · next h =>
      rcases hj with hj | ⟨-, hl⟩
      · exact hj
      · simpa [hl] using h
  · rw [← hj.resolve_right (fun h => hk h.1)]
    refine (s.frame_killStage j).field (fun i _ _ _ => ?_) sideReg_stStat
    simp only [stageReg, phaseReg, Reg.ST_STAT, Reg.PHS_STAT, Reg.PHS_CAPREQ, Reg.SHF_FTRUN]
    omega

theorem State.foldl_killStage_stState (l : List Nat) (hl : ∀ j ∈ l, j < 32) (s : State) (k : Nat)
    (h : s.stState k = 3 ∨ (k ∈ l ∧ s.hasLocal k = true)) : (l.foldl State.killStage s).stState k = 3 := by
  induction l generalizing s with
  | nil => exact h.resolve_right (fun h => List.not_mem_nil h.1)
  | cons j l ih =>
    refine ih (fun j hj => hl j (List.mem_cons_of_mem _ hj)) _ ?_
    rcases h with h | ⟨hm, hl'⟩
    · exact .inl (s.killStage_stState k j (.inl h))
    · by_cases hj : j = k
      · exact .inl (s.killStage_stState k j (.inr ⟨hj, hl'⟩))
      · refine .inr ⟨(List.mem_cons.mp hm).resolve_left (Ne.symm hj), ?_⟩
        rw [← hl']
        exact State.hasLocal_frame ((s.frame_killStage j).mono (fun a i h => ⟨j, hl j List.mem_cons_self, h⟩) (fun _ h => h)) k

theorem State.frame_afterKill (s : State) :
    State.Frame killReg (· = 101) ((s.setBit Reg.PHS_STAT 31 true).setBit Reg.PHS_STAT 30 true) s.afterKill := by
  refine .trans (.foldl _ _ (fun s n hn => s.frame_killChannel (List.mem_range.mp hn)) _) (.foldl _ _ (fun s k hk => ?_) _)
  exact (s.frame_killStage k).mono (fun a i h => ⟨k, List.mem_range.mp hk, h⟩) (fun _ h => h)

theorem killReg_phsStat {i : Nat} (hi : 8 ≤ i) : ¬ killReg Reg.PHS_STAT i := by
  simp only [killReg, stageReg, phaseReg, Reg.ST_STAT, Reg.PHS_STAT, Reg.PHS_CAPREQ, Reg.SHF_FTRUN]
  omega

theorem State.afterKill_stState (s : State) {k : Nat} (hk : k < 32) (hl : s.hasLocal k = true) : s.afterKill.stState k = 3 := by
  refine State.foldl_killStage_stState _ (fun j hj => List.mem_range.mp hj) _ k (.inr ⟨List.mem_range.mpr hk, ?_⟩)
  rw [State.hasLocal_frame (.foldl _ _ (fun s n hn => s.frame_killChannel (List.mem_range.mp hn)) _), ← hl]
  exact State.hasLocal_congr (fun j _ => by
    rw [State.rd_setBit_ne _ _ _ _ _ (by simp only [Reg.PT_LOC, Reg.PHS_STAT]; omega),
      State.rd_setBit_ne _ _ _ _ _ (by simp only [Reg.PT_LOC, Reg.PHS_STAT]; omega)]) k

/-- The release: the latch and every channel's kill bit. -/
theorem State.killRelease_shows (s : State) (v : Word) (hv : bitOf v 31 = true) (hp : s.bit Reg.PHS_STAT 31 = false) :
    (s.killRelease v).bit Reg.PHS_STAT 30 = false ∧ (∀ n < 16, (s.killRelease v).bit (Reg.EDG_STAT n) 3 = false) ∧
      Keeps s (s.killRelease v) (Reg.PHS_STAT :: (List.range 16).map Reg.EDG_STAT) := by
  have hq : s.killRelease v = (List.range 16).foldl (fun s n => s.setBit (Reg.EDG_STAT n) 3 false) (s.setBit Reg.PHS_STAT 30 false) :=
    if_pos (by rw [hv, hp]; rfl)
  have hkeep : ∀ (l : List Nat) (x : State), (∀ n ∈ l, n < 16) → State.Frame (fun a i => i = 3 ∧ ∃ n < 16,
    a = Reg.EDG_STAT n) (fun _ => False)
      x (l.foldl (fun s n => s.setBit (Reg.EDG_STAT n) 3 false) x) := fun l x hl =>
    .foldl _ _ (fun s n hn => .setBit (.refl s) _ _ _ ⟨rfl, n, hl n hn, rfl⟩) x
  have hbit : ∀ (l : List Nat) (x : State) (m : Nat), m < 16 → m ∈ l ∨ x.bit (Reg.EDG_STAT m) 3 = false →
      (l.foldl (fun s n => s.setBit (Reg.EDG_STAT n) 3 false) x).bit (Reg.EDG_STAT m) 3 = false := by
    intro l
    induction l with
    | nil => exact fun x m _ h => h.resolve_left List.not_mem_nil
    | cons n l ih =>
      intro x m hm h
      refine ih _ m hm ?_
      by_cases hn : n = m
      · right
        rw [hn, State.bit_setBit _ _ _ _ (by decide)]
      · refine h.imp (fun h => (List.mem_cons.mp h).resolve_left (Ne.symm hn)) (fun h => ?_)
        rw [State.bit, State.rd_setBit_ne _ _ _ _ _ (by simp only [Reg.EDG_STAT]; omega)]
        exact h
  have hf := hkeep (List.range 16) (s.setBit Reg.PHS_STAT 30 false) (fun n hn => List.mem_range.mp hn)
  rw [hq]
  refine ⟨?_, fun n hn => hbit _ _ n hn (.inl (List.mem_range.mpr hn)), ?_⟩
  · rw [State.bit, hf.bits _ _ (by decide) (by simp only [Reg.PHS_STAT, Reg.EDG_STAT]; omega) (by decide)]
    exact State.bit_setBit _ _ _ _ (by decide)
  · refine ((Keeps.refl s _).setBit _ _ List.mem_cons_self).trans (hf.keeps ?_)
    rintro a i ⟨-, n, hn, rfl⟩
    exact List.mem_cons_of_mem _ (List.mem_map.mpr ⟨n, List.mem_range.mpr hn, rfl⟩)

/-- The row of PHS_CMD. -/
def killRow : RegRow := ⟨0x2C08, 0x10000000, 1, 4, 1, 0, 0, 0, 0, 0x80000000, 0x80000000, none, []⟩

theorem hostWrite_kill_now (s : State) (p : Port) (v : Word) (hr : s.runs = true) (hn : s.actsNow = true) :
    (s.hostWrite p Reg.PHS_CMD v).Counted (s.killRelease (v &&& word 0x80000000)) :=
  State.hostWrite_now_counted s p _ Reg.PHS_CMD v killRow (State.fabricUp_runs s hr) (State.mapped_runs s _ hr (Or.inr (by decide)))
    (by decide) (by cases p <;> rfl) rfl rfl (by decide) hn

theorem hostWrite_kill_standby (s : State) (p : Port) (v : Word) (hr : s.runs = true) (hn : s.notActiveInPair = true) :
    (s.hostWrite p Reg.PHS_CMD v).Counted s :=
  State.hostWrite_standby_counted s p _ Reg.PHS_CMD v killRow (State.fabricUp_runs s hr) (State.mapped_runs s _ hr (Or.inr (by decide)))
    (by decide) (by cases p <;> rfl) rfl rfl (by decide) hn (by decide)

theorem kill_word (v : Word) : bitOf (withBit v 31 &&& word 0x80000000) 31 = true := by
  rw [bitOf_and _ _ _ (by decide), bitOf_withBit _ _ _ (by decide), if_pos rfl]

/-- The kill counted and told, after channels and stages were made safe. -/
theorem State.killShows {s t : State} (hf : State.Frame killReg (· = 101) ((s.setBit Reg.PHS_STAT 31 true).setBit Reg.PHS_STAT 30 true) t) :
    (∀ i, 8 ≤ i → i < 32 → ((t.bump Reg.PHS_KILLCNT 15 0 1).raise (E.PWM_KILL 0)).bit Reg.PHS_STAT i =
        ((s.setBit Reg.PHS_STAT 31 true).setBit Reg.PHS_STAT 30 true).bit Reg.PHS_STAT i) ∧
      Raised s ((t.bump Reg.PHS_KILLCNT 15 0 1).raise (E.PWM_KILL 0)) (E.PWM_KILL 0) ∧
      ((t.bump Reg.PHS_KILLCNT 15 0 1).raise (E.PWM_KILL 0)).fld Reg.PHS_KILLCNT 15 0 = min (s.fld Reg.PHS_KILLCNT 15 0 + 1) 0xFFFF ∧
      (∀ k, ((t.bump Reg.PHS_KILLCNT 15 0 1).raise (E.PWM_KILL 0)).stState k = t.stState k) := by
  have hcnt : ∀ i < 32, ¬ killReg Reg.PHS_KILLCNT i := fun i _ => by
    simp only [killReg, stageReg, phaseReg, Reg.ST_STAT, Reg.PHS_STAT, Reg.PHS_CAPREQ, Reg.SHF_FTRUN, Reg.PHS_KILLCNT]
    omega
  refine ⟨fun i h8 hi => ?_, hf.raisedAfter (v := t.bump Reg.PHS_KILLCNT 15 0 1) (E.PWM_KILL 0) rfl (by decide) (by decide) (by decide), ?_,
    fun k => ?_⟩
  · rw [State.bit, State.rd_raise _ _ _ _ _ (by decide) (by decide) (by decide), State.rd_bump_ne _ _ _ _ _ _ (by decide),
      hf.bits _ _ hi (killReg_phsStat h8) (by decide), State.bit]
  · rw [State.fld, State.rd_raise _ _ _ _ _ (by decide) (by decide) (by decide), State.rd_bump_same,
      fieldOf_setField_min _ _ _ _ (by decide), hf.rd hcnt (by decide), State.rd_setBit_ne _ _ _ _ _ (by decide),
      State.rd_setBit_ne _ _ _ _ _ (by decide), State.fld]
    rfl
  · rw [State.stState, State.stState, State.fld,
      State.raise_rd _ _ _ (by decide : 100 < 256) (crossReg_eq_false.mpr (by simp only [Reg.ST_STAT]; omega)),
      State.rd_bump_ne _ _ _ _ _ _ (by simp only [Reg.ST_STAT, Reg.PHS_KILLCNT]; omega), State.fld]

/-- Settles O30: the channels go safe first, then the stages, and neither touches the pin, its latch or the count. -/
theorem killAndRelease : Obligations.KillAndRelease := by
  unfold Obligations.KillAndRelease
  intro p v s
  refine ⟨fun hr => ⟨_, execPwmKill_eq s hr, ?_⟩, ⟨_, rfl, ?_⟩, fun hr hn hp => ⟨_, rfl, ?_⟩, fun hr hp hf => ⟨_, rfl, ?_⟩⟩
  · obtain ⟨h1, h2, h3, h4⟩ := State.killShows s.frame_afterKill
    refine ⟨?_, ?_, h2, h3, ?_, fun k hk hl => (h4 k).trans (s.afterKill_stState hk hl)⟩
    · rw [h1 31 (by decide) (by decide), State.bit_setBit_ne _ _ _ _ _ (by decide) (by decide), State.bit_setBit _ _ _ _ (by decide)]
    · rw [h1 30 (by decide) (by decide), State.bit_setBit _ _ _ _ (by decide)]
    · rw [State.raise_loc, State.bump_loc]
      exact s.afterKill_safe
  · exact ⟨State.bit_setBit _ _ _ _ (by decide), State.bit_setBit_ne _ _ _ _ _ (by decide) (by decide),
      (Keeps.refl s _).setBit _ _ List.mem_cons_self⟩
  · have hc := hostWrite_kill_now s p (withBit v 31) hr hn
    obtain ⟨h1, h2, h3⟩ := s.killRelease_shows _ (kill_word v) hp
    refine ⟨?_, fun n hn => ?_, hc.keeps h3⟩
    · rw [State.bit, hc.rd (by decide)]
      exact h1
    · rw [State.bit, hc.rd (sideReg_eq_false.mpr (by simp only [Reg.EDG_STAT, Reg.HST_RSVWR, Reg.CW_STAT]; omega))]
      exact h2 n hn
  · by_cases hn : s.notActiveInPair = true
    · exact (hostWrite_kill_standby s p _ hr hn).keeps (.refl _ _)
    · have hk : s.killRelease (withBit v 31 &&& word 0x80000000) = s := if_neg (by rw [hp]; simp)
      have hc := hostWrite_kill_now s p (withBit v 31) hr (by simp [State.actsNow, hn, hf])
      rw [hk] at hc
      exact hc.keeps (.refl _ _)

end Sys2Proof.Machine
end

section
/-!
PROOFS. The fatal reaction (R360), and the clock faults that take it at their decision (O22).
-/

namespace Sys2Proof.Machine

/-- What the fatal reaction may change: the phases and channels, the pair's registers, the token,
  the injection lock and the two HALTED bits. -/
def fatalReg (a i : Nat) : Prop :=
  phaseReg a ∨ (0x900 ≤ a ∧ a < 0x940) ∨ a = Reg.SYS_TOKSTAT ∨ a = Reg.INJ_STAT ∨ a = Reg.LE_STAT ∨ (a = Reg.FLT_STAT ∧ i = 31)

section
variable {E : Nat → Prop} (s : State)

theorem State.frame_roleChange (role last : Nat) : State.Frame fatalReg E s (s.roleChange role last) := by
  have hp : ∀ a, 0x900 ≤ a → a < 0x940 → ∀ i, fatalReg a i := fun a h1 h2 _ => .inr (.inl ⟨h1, h2⟩)
  exact ((((State.Frame.refl s).put _ _ _ _ (fun i _ _ _ => hp _ (by decide) (by decide) i)).bump _ _ _ _
    (fun i _ _ _ => hp _ (by decide) (by decide) i)).put _ _ _ _ (fun i _ _ _ => hp _ (by decide) (by decide) i)).wr _ _
    (fun i _ => hp _ (by decide) (by decide) i)

theorem State.frame_injLock {R : Nat → Nat → Prop} (hi : ∀ i, R Reg.INJ_STAT i) : State.Frame R E s s.injLock := by
  have h : State.Frame R E s { s with flt := { s.flt with injKey := none } } := .of rfl
  exact ((h.setBit _ _ _ (hi _)).setBit _ _ _ (hi _)).setBit _ _ _ (hi _)

theorem State.frame_tokFree {R : Nat → Nat → Prop} (hi : ∀ i, R Reg.INJ_STAT i) (ht : ∀ i, R Reg.SYS_TOKSTAT i) :
    State.Frame R E s s.tokFree := by
  unfold State.tokFree
  extract_lets s'
  have h : State.Frame R E s s' := .ite (s.frame_injLock hi) (.refl s)
  exact (((h.setBit _ _ _ (ht _)).setBit _ _ _ (ht _)).setBit _ _ _ (ht _)).put _ _ _ _ (fun _ _ _ _ => ht _)

theorem State.frame_claimUpdate : State.Frame fatalReg E s s.claimUpdate :=
  ((State.Frame.refl s).put Reg.PAIR_CLAIM 15 0 s.claimNow (fun _ _ _ _ => .inr (.inl ⟨by decide, by decide⟩))).trans (.of rfl)

theorem State.frame_giveUp : State.Frame fatalReg E s s.giveUp := by
  unfold State.giveUp
  extract_lets s1 pr s2 s3
  have h1 : State.Frame fatalReg E s s1 := .ite (.refl s) (s.frame_roleChange ..)
  have h2 : State.Frame fatalReg E s s2 := h1.trans (.of rfl)
  have h3 : State.Frame fatalReg E s s3 := .ite (h2.trans (State.frame_tokFree _ (fun _ => .inr (.inr (.inr (.inl rfl)))) (fun _ => .inr (.inr (.inl rfl))))) h2
  exact h3.trans (State.frame_claimUpdate _)

theorem State.frame_fatalSnaps (thermal : Bool) : State.Frame fatalReg E s (s.fatalSnaps thermal) := by
  refine .ite (.ite (.refl s) (.foldl _ _ (fun s k _ => ?_) s)) (.trans (.foldl _ _ (fun s k _ => .ite (.of (by rfl)) (.refl s)) s)
    (.foldl _ _ (fun s f _ => .ite (.of (by rfl)) (.refl s)) _))
  split
  · exact .ite (.of (by rfl)) (.refl s)
  · exact .refl s

theorem State.frame_fatalReaction (msg : Nat) (thermal inj : Bool) : State.Frame fatalReg E s (s.fatalReaction msg thermal inj) := by
  have hph : ∀ a i, phaseReg a → fatalReg a i := fun _ _ h => .inl h
  unfold State.fatalReaction
  extract_lets bytes force s1 s2 s3 s4 fl s5 s6
  have h1 : State.Frame fatalReg E s s1 := .foldl _ _ (fun s n hn => s.frame_forceLocal hph (List.mem_range.mp hn)) s
  have h2 : State.Frame fatalReg E s s2 := h1.trans s1.frame_giveUp
  have h3 : State.Frame fatalReg E s s3 := .ite
    (h2.trans (.foldl _ _ (fun s n hn => .ite (s.frame_sendReflex hph (List.mem_range.mp hn) ..) (.refl s)) _)) h2
  have h4 : State.Frame fatalReg E s s4 := (h3.trans (s3.frame_fatalSnaps thermal)).trans (.of rfl)
  have h5 : State.Frame fatalReg E s s5 := h4.trans (.of rfl)
  have h6 : State.Frame fatalReg E s s6 := (h5.setBit _ _ _ (.inr (.inr (.inr (.inr (.inl rfl)))))).setBit _ _ _
    (.inr (.inr (.inr (.inr (.inr ⟨rfl, rfl⟩)))))
  exact h6.trans (State.frame_claimUpdate _)

end

/-! ## The clock faults -/

/-- The state in which the fatal reaction to a clock fault of kind `k` is taken. -/
def State.clockReact (s : State) (k addr : Nat) : State :=
  let m := s.faultMsg k (fltKindWord k / 65536 % 4) (fltKindWord k / 1048576 % 8) 0 addr
  let s := (s.sendFault m).setBit Reg.TIM_CLKSTAT 6 true
  if s.runs then s.fatalReaction m.bits false false else s

theorem State.clockReact_frame (s : State) (k addr : Nat) :
    State.Frame fatalReg (fun _ => False) ((s.fault k 0 addr).setBit Reg.TIM_CLKSTAT 6 true) (s.clockReact k addr) :=
  .ite (State.frame_fatalReaction ..) (.refl _)

theorem fatalReg_clkStat {i : Nat} : ¬ fatalReg Reg.TIM_CLKSTAT i := by
  simp only [fatalReg, phaseReg, Reg.TIM_CLKSTAT, Reg.SYS_TOKSTAT, Reg.INJ_STAT, Reg.LE_STAT, Reg.FLT_STAT]
  omega

/-- BKOSC holds every output safe. -/
def State.bkoscHold (x : State) : State :=
  { x.localsSafe.wrN Reg.PG_STAT 0 with unit := { x.localsSafe.unit with claimOut := false, shelfEn := false } }

theorem State.bkoscHold_shows (x : State) : (∀ i, x.bkoscHold.bit Reg.TIM_CLKSTAT i = x.bit Reg.TIM_CLKSTAT i) ∧
    x.bkoscHold.flt = x.flt ∧ x.bkoscHold.unit.claimOut = false ∧ x.bkoscHold.unit.shelfEn = false ∧
    x.bkoscHold.loc.toList.all LocSt.safe = true := by
  have hreg : x.localsSafe.reg = x.reg := by rw [x.localsSafe_eq]
  have hflt : x.localsSafe.flt = x.flt := by rw [x.localsSafe_eq]
  have hloc := x.localsSafe_all
  unfold State.bkoscHold
  generalize x.localsSafe = y at hreg hflt hloc ⊢
  refine ⟨fun i => ?_, hflt, rfl, rfl, hloc⟩
  rw [State.bit, State.rd_mk, State.cellsGet_reg, State.rd_wrN_ne _ _ _ _ (by decide), State.rd, hreg, State.cellsGet_reg, State.bit]

/-- A clock fault of kind 0 or 1 is fatal: its message is not lost. -/
theorem State.clockFault_shows (s : State) (k addr : Nat) (hk : k < 2) :
    (∀ i < 32, i ≠ 6 → (s.clockFault k addr).bit Reg.TIM_CLKSTAT i = s.bit Reg.TIM_CLKSTAT i) ∧
      (s.clockFault k addr).bit Reg.TIM_CLKSTAT 6 = true ∧ Reported (s.clockFault k addr) k 0 addr ∧
      (s.clockFault k addr).unit.claimOut = false ∧ (s.clockFault k addr).unit.shelfEn = false ∧
      (s.clockFault k addr).loc.toList.all LocSt.safe = true := by
  have hcls : fltKindWord k / 65536 % 4 ≠ 0 := by
    obtain rfl | rfl : k = 0 ∨ k = 1 := by omega
    all_goals decide
  have hf := s.clockReact_frame k addr
  have hrep : Reported (s.clockReact k addr) k 0 addr :=
    hf.reported ((s.fault_reported k 0 addr (.inr hcls)).mono (List.Subset.refl _))
  have hbit : ∀ i < 32, (s.clockReact k addr).bit Reg.TIM_CLKSTAT i =
      ((s.fault k 0 addr).setBit Reg.TIM_CLKSTAT 6 true).bit Reg.TIM_CLKSTAT i := fun i hi =>
    hf.bits _ i hi fatalReg_clkStat (by decide)
  rw [show s.clockFault k addr = (s.clockReact k addr).bkoscHold from rfl]
  obtain ⟨h1, h2, h3⟩ := (s.clockReact k addr).bkoscHold_shows
  refine ⟨fun i hi h6 => ?_, ?_, hrep.mono (by rw [h2]; exact List.Subset.refl _), h3⟩
  · rw [h1, hbit i hi, State.bit_setBit_ne _ _ _ _ _ hi (Ne.symm h6), State.bit,
      State.rd_fault _ _ _ _ _ (by decide) (by decide) (by decide), State.bit]
  · rw [h1, hbit 6 (by decide), State.bit_setBit _ _ _ _ (by decide)]

theorem clkOn (s : State) (h : s.runs = true ∨ s.inPaddock = true) : (s.runs || decide (s.unit.life = .paddock)) = true := by
  rcases h with h | h
  · rw [h]; rfl
  · rw [show decide (s.unit.life = .paddock) = true from h, Bool.or_true]

/-- The bits of what is lost, before the fault is declared. -/
def State.clkLost (s : State) (ref pll : Bool) : State :=
  let s := if ref then s.setBit Reg.TIM_CLKSTAT 4 true else s
  if pll then (s.setBit Reg.TIM_CLKSTAT 3 true).setBit Reg.TIM_CLKSTAT 2 false else s

theorem State.clkLost_bits (s : State) (ref pll : Bool) : (ref = true → (s.clkLost ref pll).bit Reg.TIM_CLKSTAT 4 = true) ∧
    (pll = true → (s.clkLost ref pll).bit Reg.TIM_CLKSTAT 3 = true ∧ (s.clkLost ref pll).bit Reg.TIM_CLKSTAT 2 = false) := by
  refine ⟨?_, ?_⟩
  · rintro rfl
    cases pll
    · exact State.bit_setBit _ _ _ _ (by decide)
    · refine (State.bit_setBit_ne _ _ _ _ _ (by decide) (by decide)).trans ?_
      refine (State.bit_setBit_ne _ _ _ _ _ (by decide) (by decide)).trans ?_
      exact State.bit_setBit _ _ _ _ (by decide)
  · rintro rfl
    exact ⟨(State.bit_setBit_ne _ _ _ _ _ (by decide) (by decide)).trans (State.bit_setBit _ _ _ _ (by decide)),
      State.bit_setBit _ _ _ _ (by decide)⟩

/-- Settles O22: a clock fault takes the fatal reaction, which leaves TIM_CLKSTAT and the collector's queue,
  and then makes the outputs safe. -/
theorem clockFaults : Obligations.ClockFaults := by
  unfold Obligations.ClockFaults
  intro ref pll count s
  refine ⟨fun hon hl => ?_, fun hon hen hc => ?_, fun h1 h2 => ?_⟩
  · obtain ⟨h1, h2, h3, h4⟩ := (s.clkLost ref pll).clockFault_shows 0 (b2n ref + 2 * b2n pll) (by decide)
    obtain ⟨hr, hp⟩ := s.clkLost_bits ref pll
    refine ⟨_, if_pos (by rw [clkOn s hon, hl]; rfl), h2, fun h => ?_, fun h => ⟨?_, ?_⟩, h3, h4⟩
    · exact (h1 4 (by decide) (by decide)).trans (hr h)
    · exact (h1 3 (by decide) (by decide)).trans (hp h).1
    · exact (h1 2 (by decide) (by decide)).trans (hp h).2
  · obtain ⟨h1, h2, h3, h4⟩ := (s.setBit Reg.TIM_CLKSTAT 5 true).clockFault_shows 1 count.toNat (by decide)
    refine ⟨_, if_pos ?_, ?_, h2, h3, h4⟩
    · rw [clkOn s hon, hen, Bool.true_and, Bool.true_and]
      exact decide_eq_true (by omega)
    · exact (h1 5 (by decide) (by decide)).trans (State.bit_setBit _ _ _ _ (by decide))
  · refine if_neg ?_
    rw [Bool.and_eq_true, decide_eq_true_eq]
    omega

end Sys2Proof.Machine
end

section
/-!
PROOFS. A link that fails its training with code 3 (O19).
-/

namespace Sys2Proof.Machine

/-! ## The counterexample to O19

Link 0 fails its training with code 3, and crossing 3 of R44 holds 15 pulses of the link's source: one place is left (R42). HEAD_MISMATCH,
which the failure raises first (R117), takes it, and LINK_TRAIN_FAIL of the same source is dropped. -/

/-- A pulse of link 0's source that waits in the crossing. -/
def linkUpPulse : EvPulse := { ev := E.LINK_UP 0, detail := [], stamp := State.reset.stamp, inj := false, fwd := false }

/-- A running unit whose link 0 trains and has failed with code 3, with room for one pulse of the link's source. -/
def mismatchCrowded : State :=
  let s : State := {
    State.reset with
    unit := { State.reset.unit with life := .running, txIdle := false }
    evq := List.replicate 15 linkUpPulse }
  (s.setBit (Reg.LNK_CTL 0) 0 true).onLink 0 (fun l => { l with tfail := 3 })

/-- The failure leaves no pulse of LINK_TRAIN_FAIL in the crossing. -/
theorem mismatchCrowded_lost : (mismatchCrowded.trainFail 0 3).evq.any (fun p => p.ev == E.LINK_TRAIN_FAIL 0) = false := by
  decide +kernel

/-- A failure that a reply has brought ends the training. -/
theorem exec_linkTrainingStep_failed (n : Fin 17) (s : State) (hn : n.val < 16) (hr : s.runs = true) (ht : s.linkTx n = true) {c : Nat}
    (hc : (s.link n).tfail = c) (h0 : c ≠ 0) : exec (.linkTrainingStep n .shown) s = .next (s.trainFail n c) := by
  show execLinkTrainingStep n .shown s = _
  rw [execLinkTrainingStep, if_pos hr, if_pos hn, State.trainStep, if_neg (by rw [ht]; decide)]
  simp only [State.trainDone]
  rw [if_pos (by rw [hc]; exact h0), hc]

/-- Refutes O19: a failure with code 3 raises HEAD_MISMATCH first, which may take the last place of the link's source in the crossing. -/
theorem not_linkStates : ¬ Obligations.LinkStates := by
  unfold Obligations.LinkStates
  intro h
  obtain ⟨-, -, -, hfail⟩ := h.2 0 mismatchCrowded (by decide) (by decide +kernel) (by decide +kernel)
  obtain ⟨t, ht, -, -, hr, -⟩ := hfail (by decide +kernel)
  have hx := exec_linkTrainingStep_failed 0 mismatchCrowded (by decide) (by decide +kernel) (by decide +kernel) (c := 3)
    (by decide +kernel) (by decide)
  obtain rfl : mismatchCrowded.trainFail 0 3 = t := by injection hx.symm.trans ht
  obtain ⟨p, hp, he⟩ := hr (by decide +kernel)
  exact List.any_eq_false.mp mismatchCrowded_lost p hp (beq_iff_eq.mpr he)

end Sys2Proof.Machine
end

section
/-!
PROOFS. The lane tests (O24).
-/

namespace Sys2Proof.Machine

/-! ## Failing pairs -/

/-- What a report of failing pairs changes. -/
def laneReg (a i : Nat) : Prop := a = Reg.LE_BGFAIL ∨ (a = Reg.LE_STAT ∧ i = 31)

/-- A failing pair: its bit, its report, the halt. -/
def State.laneFail1 (s : State) (x : Fin 16 × Nat) : State :=
  ((s.setBit Reg.LE_BGFAIL x.1 true).fault 5 x.1 x.2).setBit Reg.LE_STAT 31 true

theorem State.laneTestFail_eq (s : State) (l : List (Fin 16 × Nat)) : s.laneTestFail l = l.foldl State.laneFail1 s := rfl

theorem State.frame_laneFail1 (s : State) (x : Fin 16 × Nat) : State.Frame laneReg (fun _ => False) s (s.laneFail1 x) :=
  (((State.Frame.refl s).setBit _ _ _ (.inl rfl)).fault ..).setBit _ _ _ (.inr ⟨rfl, rfl⟩)

theorem State.frame_laneTestFail (s : State) (l : List (Fin 16 × Nat)) : State.Frame laneReg (fun _ => False) s (s.laneTestFail l) :=
  .foldl _ _ (fun s x _ => s.frame_laneFail1 x) s

theorem State.laneFail1_bits (s : State) (x : Fin 16 × Nat) : (s.laneFail1 x).bit Reg.LE_STAT 31 = true ∧
    ∀ i < 32, (s.laneFail1 x).bit Reg.LE_BGFAIL i = (s.bit Reg.LE_BGFAIL i || x.1.val == i) := by
  refine ⟨State.bit_setBit _ _ _ _ (by decide), fun i hi => ?_⟩
  rw [State.laneFail1, State.bit, State.rd_setBit_ne _ _ _ _ _ (by decide), State.rd_fault _ _ _ _ _ (by decide) (by decide) (by decide),
    State.rd_setBit_same, bitOf_setField_bit _ _ _ _ hi]
  split
  · next h => simp [h]
  · next h => simp [h]

theorem State.laneFail1_reported (s : State) (x : Fin 16 × Nat) : Reported (s.laneFail1 x) 5 x.1 x.2 :=
  ((s.setBit Reg.LE_BGFAIL x.1 true).fault_reported 5 x.1 x.2 (.inr (by decide))).mono (List.Subset.refl _)

theorem State.laneTestFail_shows (l : List (Fin 16 × Nat)) (s : State) :
    (s.laneTestFail l).bit Reg.LE_STAT 31 = (s.bit Reg.LE_STAT 31 || !l.isEmpty) ∧
      (∀ i < 32, (s.laneTestFail l).bit Reg.LE_BGFAIL i = (s.bit Reg.LE_BGFAIL i || l.any (fun x => x.1.val == i))) ∧
      ∀ x ∈ l, Reported (s.laneTestFail l) 5 x.1 x.2 := by
  induction l generalizing s with
  | nil => exact ⟨by simp [State.laneTestFail], fun _ _ => by simp [State.laneTestFail], fun _ h => absurd h List.not_mem_nil⟩
  | cons x l ih =>
    obtain ⟨h1, h2, h3⟩ := ih (s.laneFail1 x)
    obtain ⟨b1, b2⟩ := s.laneFail1_bits x
    rw [State.laneTestFail_eq, List.foldl_cons, ← State.laneTestFail_eq]
    refine ⟨by rw [h1, b1]; simp, fun i hi => by rw [h2 i hi, b2 i hi, List.any_cons, Bool.or_assoc], fun y hy => ?_⟩
    rcases List.mem_cons.mp hy with rfl | hy
    · exact (State.frame_laneTestFail _ l).reported (s.laneFail1_reported y)
    · exact h3 y hy

/-! ## The commands -/

/-- The mask of LE_LSTEST names the lanes of the failing pairs. -/
theorem laneMask_testBit (l : List (Fin 16 × Fin 768)) (m i : Nat) :
    (l.foldl (fun m x => m ||| (1 <<< x.1.val)) m).testBit i = (m.testBit i || l.any (fun x => x.1.val == i)) := by
  induction l generalizing m with
  | nil => simp
  | cons x l ih =>
    rw [List.foldl_cons, ih, Nat.testBit_or, Nat.one_shiftLeft, Nat.testBit_two_pow, List.any_cons, Bool.or_assoc]
    rfl

theorem bitOf_setField_testBit (w : Word) (v i : Nat) (hi : i < 16) : bitOf (setField w 15 0 v) i = v.testBit i := by
  rw [bitOf_setField _ _ _ _ _ (by omega), if_pos (by omega)]
  rfl

theorem State.bgFailing_any (failing : BitVec 16) (n i : Nat) :
    (((List.finRange 16).filter (fun (l : Fin 16) => failing.getLsbD l.val)).map (fun l => (l, n))).any (fun x => x.1.val == i) =
      failing.getLsbD i := by
  rw [Bool.eq_iff_iff, List.any_eq_true]
  constructor
  · rintro ⟨x, hx, he⟩
    obtain ⟨l, hl, rfl⟩ := List.mem_map.mp hx
    rw [← eq_of_beq he]
    exact (List.mem_filter.mp hl).2
  · intro h
    have hi : i < 16 := BitVec.lt_of_getLsbD h
    exact ⟨(⟨i, hi⟩, n), List.mem_map.mpr ⟨⟨i, hi⟩, List.mem_filter.mpr ⟨List.mem_finRange _, h⟩, rfl⟩, beq_self_eq_true i⟩

theorem exec_backgroundLaneTest (failing : BitVec 16) (s : State) (hl : s.live = true) (hh : s.bit Reg.LE_STAT 31 = false) :
    exec (.backgroundLaneTest failing) s =
      .next (s.laneTestFail (((List.finRange 16).filter (fun (l : Fin 16) => failing.getLsbD l.val)).map (fun l => (l, s.bgVector)))) :=
  if_pos (by rw [hl, hh]; rfl)

/-- The failing pairs of a background test. -/
def State.bgFailing (s : State) (failing : BitVec 16) : List (Fin 16 × Nat) :=
  ((List.finRange 16).filter (fun (l : Fin 16) => failing.getLsbD l.val)).map (fun l => (l, s.bgVector))

theorem State.bgFailing_isEmpty (s : State) (failing : BitVec 16) : (!(s.bgFailing failing).isEmpty) = decide (failing ≠ 0) := by
  rw [Bool.eq_iff_iff, decide_eq_true_eq, Bool.not_eq_true', List.isEmpty_eq_false_iff_exists_mem]
  constructor
  · rintro ⟨x, hx⟩ rfl
    obtain ⟨l, hl, rfl⟩ := List.mem_map.mp hx
    simpa using (List.mem_filter.mp hl).2
  · intro h
    obtain ⟨i, hi⟩ : ∃ i, failing.getLsbD i = true := by
      by_contra hn
      exact h (BitVec.eq_of_getLsbD_eq fun i _ => by simpa using fun hc => hn ⟨i, hc⟩)
    obtain ⟨x, hx, -⟩ := List.any_eq_true.mp ((State.bgFailing_any failing s.bgVector i).trans hi)
    exact ⟨x, hx⟩

theorem hostWrite_lstest (p : Port) (v : Word) (s : State) (hr : s.runs = true) :
    (s.hostWrite p Reg.LE_LSTEST v).Counted (s.lstestWrite (v &&& word 0xF000FFFF)) :=
  State.hostWrite_fixed_counted s p _ _ _ _ _ (State.fabricUp_runs s hr) (State.mapped_runs s _ hr (Or.inr (by decide))) (by decide)
    (by cases p <;> rfl) rfl rfl (by decide) (by decide) (by decide) rfl

/-- LE_LSTEST with the status bits that are written 1 cleared. -/
def State.lstestCleared (s : State) (v : Word) : State := s.wr Reg.LE_LSTEST (s.rd Reg.LE_LSTEST &&& ~~~(v &&& 0x30000000))

theorem State.lstestCleared_busy (s : State) (v : Word) : (s.lstestCleared v).bit Reg.LE_LSTEST 30 = s.bit Reg.LE_LSTEST 30 := by
  rw [State.lstestCleared, State.bit, State.rd_wr_same, bitOf, BitVec.getLsbD_and, BitVec.getLsbD_not, BitVec.getLsbD_and,
    show (0x30000000 : Word).getLsbD 30 = false from by decide]
  simp [bitOf]

theorem State.lstestCleared_tokOk (s : State) (v : Word) (l : List Nat) : (s.lstestCleared v).tokOk l = s.tokOk l := by
  have h : (s.lstestCleared v).rd Reg.SYS_TOKSTAT = s.rd Reg.SYS_TOKSTAT := State.rd_wr_ne _ _ _ _ (by decide)
  rw [State.tokOk, State.tokHeld, State.tokMine, State.tokAct, State.bit, State.bit, State.fld, h]
  rfl

theorem State.lstestWrite_go (s : State) (v : Word) (hv : bitOf v 31 = true) (hb : s.bit Reg.LE_LSTEST 30 = false) :
    s.lstestWrite v = if s.tokOk [4, 5] then (s.lstestCleared v).laneTestStart
      else ((s.lstestCleared v).setBit Reg.LE_LSTEST 28 true).raise (E.MAINT_BUSY 0) := by
  rw [State.lstestWrite, ← State.lstestCleared, if_pos (by rw [hv, State.lstestCleared_busy, hb]; rfl), State.lstestCleared_tokOk]

theorem lstest_word (v : Word) : bitOf (withBit v 31 &&& word 0xF000FFFF) 31 = true := by
  rw [bitOf_and _ _ _ (by decide), bitOf_withBit _ _ _ (by decide), if_pos rfl]

/-- The test's end before the pairs are reported. -/
def State.lstestEnd (s : State) (failing : List (Fin 16 × Fin 768)) : State :=
  ((((s.setBit Reg.LE_LSTEST 30 false).setBit Reg.LE_LSTEST 29 true).setBit Reg.LE_STAT 16 false).put Reg.LE_LSTEST 15 0
    (failing.foldl (fun m x => m ||| (1 <<< x.1.val)) 0)).raise (E.LSTEST_DONE 0)

/-- The pairs reported, with the vectors as numbers. -/
def lanePairs (failing : List (Fin 16 × Fin 768)) : List (Fin 16 × Nat) := failing.map (fun x => (x.1, x.2.val))

theorem execLstestDone_eq (failing : List (Fin 16 × Fin 768)) (s : State) (hr : s.runs = true) (hb : s.bit Reg.LE_LSTEST 30 = true) :
    ∃ t, execLstestDone failing s = .next t ∧ State.Frame (fun a _ => a = Reg.INJ_STAT ∨ a = Reg.SYS_TOKSTAT) (fun _ => False)
      ((s.lstestEnd failing).laneTestFail (lanePairs failing)) t := by
  refine ⟨_, if_pos (by rw [hr, hb]; rfl), .ite (State.frame_tokFree _ (fun _ => .inl rfl) (fun _ => .inr rfl)) (.refl _)⟩

theorem State.lstestEnd_shows (s : State) (failing : List (Fin 16 × Fin 768)) :
    (s.lstestEnd failing).bit Reg.LE_LSTEST 30 = false ∧ (s.lstestEnd failing).bit Reg.LE_LSTEST 29 = true ∧
      (∀ l < 16, (s.lstestEnd failing).bit Reg.LE_LSTEST l = failing.any (fun x => x.1.val == l)) ∧
      (s.lstestEnd failing).bit Reg.LE_STAT 16 = false := by
  have hrd : ∀ x : State, ∀ i, (x.raise (E.LSTEST_DONE 0)).bit Reg.LE_LSTEST i = x.bit Reg.LE_LSTEST i := fun x i => by
    rw [State.bit, State.rd_raise _ _ _ _ _ (by decide) (by decide) (by decide), State.bit]
  have hst : ∀ x : State, ∀ i, (x.raise (E.LSTEST_DONE 0)).bit Reg.LE_STAT i = x.bit Reg.LE_STAT i := fun x i => by
    rw [State.bit, State.rd_raise _ _ _ _ _ (by decide) (by decide) (by decide), State.bit]
  refine ⟨?_, ?_, fun l hl => ?_, ?_⟩
  · rw [State.lstestEnd, hrd, State.bit_put _ _ _ _ _ _ (by decide), if_neg (by decide), State.bit,
      State.rd_setBit_ne _ _ _ _ _ (by decide), ← State.bit, State.bit_setBit_ne _ _ _ _ _ (by decide) (by decide),
      State.bit_setBit _ _ _ _ (by decide)]
  · rw [State.lstestEnd, hrd, State.bit_put _ _ _ _ _ _ (by decide), if_neg (by decide), State.bit,
      State.rd_setBit_ne _ _ _ _ _ (by decide), ← State.bit, State.bit_setBit _ _ _ _ (by decide)]
  · rw [State.lstestEnd, hrd, State.bit, State.rd_put_same, bitOf_setField_testBit _ _ _ hl, laneMask_testBit, Nat.zero_testBit,
      Bool.false_or]
  · rw [State.lstestEnd, hst, State.bit, State.rd_put_ne _ _ _ _ _ _ (by decide), ← State.bit, State.bit_setBit _ _ _ _ (by decide)]

/-- Settles O24: failing pairs are reported one by one and halt the engine; a test starts, or is refused for the token. -/
theorem laneTests : Obligations.LaneTests := by
  unfold Obligations.LaneTests
  intro p v failing pairs s hr
  refine ⟨fun hh he => ?_, fun hb ht => ?_, fun hb ht => ?_, fun hb => ?_⟩
  · obtain ⟨h1, h2, h3⟩ := s.laneTestFail_shows (s.bgFailing failing)
    refine ⟨_, exec_backgroundLaneTest failing s (by rw [State.live, hr, hh]; rfl) he, ?_, fun l hl hf => ?_, ?_, ?_⟩
    · refine word_eq_of_bits fun i hi => (h2 i hi).trans ?_
      rw [State.bgFailing, State.bgFailing_any, State.bit, bitOf, bitOf, BitVec.getLsbD_or, BitVec.getLsbD_setWidth, decide_eq_true hi,
        Bool.true_and]
    · exact h3 (⟨l, hl⟩, s.bgVector) (List.mem_map.mpr ⟨⟨l, hl⟩, List.mem_filter.mpr ⟨List.mem_finRange _, hf⟩, rfl⟩)
    · exact h1.trans (by rw [he, Bool.false_or, State.bgFailing_isEmpty])
    · refine (s.frame_laneTestFail _).keeps ?_
      rintro a i (rfl | ⟨rfl, -⟩)
      · exact List.mem_cons_self
      · exact List.mem_cons_of_mem _ List.mem_cons_self
  · have hc := hostWrite_lstest p (withBit v 31) s hr
    rw [s.lstestWrite_go _ (lstest_word v) hb, if_pos ht] at hc
    refine ⟨_, rfl, ?_, ?_, hc.keeps (.of (by simp [State.laneTestStart, State.lstestCleared]) rfl rfl)⟩
    · rw [State.bit, hc.rd (by decide), State.laneTestStart, State.rd_setBit_ne _ _ _ _ _ (by decide)]
      exact State.bit_setBit _ _ _ _ (by decide)
    · rw [State.bit, hc.rd (by decide)]
      exact State.bit_setBit _ _ _ _ (by decide)
  · have hc := hostWrite_lstest p (withBit v 31) s hr
    rw [s.lstestWrite_go _ (lstest_word v) hb, if_neg (by rw [ht]; decide)] at hc
    have hx : ∀ i, ((s.hostWrite p Reg.LE_LSTEST (withBit v 31))).bit Reg.LE_LSTEST i =
        ((s.lstestCleared (withBit v 31 &&& word 0xF000FFFF)).setBit Reg.LE_LSTEST 28 true).bit Reg.LE_LSTEST i := fun i => by
      rw [State.bit, hc.rd (by decide), State.rd_raise _ _ _ _ _ (by decide) (by decide) (by decide), State.bit]
    refine ⟨_, rfl, ?_, ?_, hc.raised (.of (List.Subset.refl _) rfl), hc.keeps (.of (by simp [State.lstestCleared]) (by simp; rfl) (by simp; rfl))⟩
    · rw [hx, State.bit_setBit_ne _ _ _ _ _ (by decide) (by decide), State.lstestCleared_busy, hb]
    · rw [hx, State.bit_setBit _ _ _ _ (by decide)]
  · obtain ⟨t, ht, hf⟩ := execLstestDone_eq pairs s hr hb
    obtain ⟨e1, e2, e3, e4⟩ := s.lstestEnd_shows pairs
    have hl := (s.lstestEnd pairs).frame_laneTestFail (lanePairs pairs)
    obtain ⟨h1, h2, h3⟩ := (s.lstestEnd pairs).laneTestFail_shows (lanePairs pairs)
    have hls : ∀ i < 32, t.bit Reg.LE_LSTEST i = (s.lstestEnd pairs).bit Reg.LE_LSTEST i := fun i hi =>
      (hf.bits _ i hi (by decide) (by decide)).trans (hl.bits _ i hi (by simp [laneReg]) (by decide))
    refine ⟨t, ht, (hls 30 (by decide)).trans e1, (hls 29 (by decide)).trans e2, fun l hi => (hls l (by omega)).trans (e3 l hi), ?_, ?_, ?_⟩
    · exact ((hf.bits _ 16 (by decide) (by decide) (by decide)).trans (hl.bits _ 16 (by decide) (by simp [laneReg]) (by decide))).trans e4
    · exact hf.raised (hl.raised (.of (List.Subset.refl _) rfl))
    · intro x hx
      have hm : (x.1, x.2.val) ∈ lanePairs pairs := List.mem_map.mpr ⟨x, hx, rfl⟩
      refine ⟨hf.reported (h3 _ hm), ?_, ?_⟩
      · refine (hf.bits _ _ (by omega) (by decide) (by decide)).trans ((h2 _ (by omega)).trans ?_)
        rw [show (lanePairs pairs).any (fun y => y.1.val == x.1.val) = true from List.any_eq_true.mpr ⟨_, hm, beq_self_eq_true _⟩, Bool.or_true]
      · refine (hf.bits _ 31 (by decide) (by decide) (by decide)).trans (h1.trans ?_)
        rw [List.isEmpty_eq_false_iff_exists_mem.mpr ⟨_, hm⟩, Bool.not_false, Bool.or_true]

end Sys2Proof.Machine
end

section
/-!
PROOFS. Memory protection: what a read finds and leaves, and the scrub (O49).
-/

namespace Sys2Proof.Machine

/-! ## The parts that a stage made safe touches -/

/-- `t` differs from `s` in its registers, crossing, fault collector, links, phases, stages, local channels and snapshots alone. -/
def State.StageParts (s t : State) : Prop :=
  t = { s with reg := t.reg, evq := t.evq, flt := t.flt, links := t.links, phs := t.phs, stg := t.stg, loc := t.loc, sbg := t.sbg }

namespace State.StageParts

variable {s t u : State}

theorem refl (s : State) : s.StageParts s := rfl

theorem trans (h : s.StageParts t) (g : t.StageParts u) : s.StageParts u := by
  unfold State.StageParts at h g ⊢
  rw [h] at g
  exact g

theorem ite {p : Prop} [Decidable p] (ht : s.StageParts t) (hu : s.StageParts u) : s.StageParts (if p then t else u) := by
  split
  · exact ht
  · exact hu

theorem foldl {α : Type} (f : State → α → State) (hf : ∀ (s : State) x, s.StageParts (f s x)) (l : List α) (s : State) :
    s.StageParts (l.foldl f s) := by
  induction l generalizing s with
  | nil => exact .refl s
  | cons a l ih => exact (hf s a).trans (ih _)

/-- Every other part is as before. -/
theorem same {α : Type} (h : s.StageParts t) (f : State → α)
    (hf : ∀ r q fl li ph st lo sb, f { s with reg := r, evq := q, flt := fl, links := li, phs := ph, stg := st, loc := lo, sbg := sb } =
      f s) : f t = f s := by
  rw [h]
  exact hf ..

theorem ofPulse (s : State) (p : EvPulse) : s.StageParts (s.pulse p) := by
  unfold State.pulse
  split
  · rfl
  · rfl

theorem ofRaiseWith (s : State) (e : Ev) (d : List Byte) (i w : Bool) : s.StageParts (s.raiseWith e d i w) := by
  unfold State.raiseWith
  split
  · exact ofPulse ..
  · exact (ofPulse ..).trans (ofPulse ..)

theorem raise (h : s.StageParts t) (e : Ev) : s.StageParts (t.raise e) := h.trans (ofRaiseWith ..)

theorem sendFault (h : s.StageParts t) (m : FltMsg) : s.StageParts (t.sendFault m) := by
  refine h.trans ?_
  unfold State.sendFault
  split
  · exact State.StageParts.raise (t := t.bump Reg.FLT_DROP 15 0 1) rfl _
  · rfl

end State.StageParts

section
variable (s : State)

theorem State.parts_sendReflex (n act mask : Nat) : s.StageParts (s.sendReflex n act mask) := by
  unfold State.sendReflex
  refine .ite ?_ (.refl s)
  extract_lets l m l'
  split
  · rfl
  · rfl

theorem State.parts_noteEdge (i ev t : Nat) : s.StageParts (s.noteEdge i ev t) := by
  unfold State.noteEdge
  split
  · exact .ite rfl (.refl s)
  · exact .ite (.refl s) rfl

theorem State.parts_forceLocal (n : Nat) : s.StageParts (s.forceLocal n) :=
  .trans (.ite (s.parts_noteEdge ..) (.refl s)) rfl

theorem State.parts_discardEdges (i : Nat) : s.StageParts (s.discardEdges i) := .ite rfl rfl

theorem State.parts_forcePhases (is : List Nat) (cause : Nat) : s.StageParts (s.forcePhases is cause) := by
  refine .trans (.foldl _ (fun s i => ?_) is s) (.foldl _ (fun s n => .ite (.refl s) (s.parts_sendReflex ..)) _ _)
  extract_lets s1 s2 s3
  have h2 : s.StageParts s2 := (s.parts_discardEdges i).trans (.ite (State.parts_forceLocal ..) (State.parts_noteEdge ..))
  exact .ite (h2.trans rfl) (h2.trans rfl)

theorem State.parts_leaveRun (k : Nat) : s.StageParts (s.leaveRun k) := rfl

theorem State.parts_countPhases (k : Nat) : s.StageParts (s.countPhases k) := rfl

theorem State.parts_stageSafe (k cause : Nat) (fwd : Bool) : s.StageParts (s.stageSafe k cause fwd) := by
  unfold State.stageSafe
  extract_lets st s1 s2 s3 s4
  have h1 : s.StageParts s1 := rfl
  have h2 : s.StageParts s2 := h1.trans (s1.parts_forcePhases ..)
  have h3 : s.StageParts s3 := by
    simp only [s3]
    generalize s2 = x at h2 ⊢
    exact h2.trans rfl
  have h4 : s.StageParts s4 := by
    simp only [s4]
    generalize s3 = x at h3 ⊢
    exact h3.trans (.trans (t := x.onSg k _) rfl (State.parts_leaveRun _ k))
  exact .ite (.refl s) ((h4.trans (s4.parts_countPhases k)).raise _)

theorem State.parts_stageFaultSafe (k cause : Nat) (fwd : Bool) : s.StageParts (s.stageFaultSafe k cause fwd) :=
  .ite (s.parts_stageSafe ..) (.refl s)

end

/-! ## An error found -/

/-- What an error that is found changes besides the registers of its note: what a stage made safe changes. -/
def eccReg (a i : Nat) : Prop := ∃ k, stageReg k a i

/-- The place of an error, its info and its count. -/
def State.eccNoted (s : State) (region addr : Nat) (bits : List Nat) (scrub : Bool) : State :=
  (s.wrN Reg.FLT_ECCADDR addr).wrN Reg.FLT_ECCINFO
    (region % 16 + Config.syndrome bits % 256 * 256 + b2n (decide (2 ≤ bits.length)) * 65536 + b2n scrub * 131072)

theorem State.eccNote_unc (s : State) (region addr : Nat) (bits : List Nat) (scrub : Bool) (h : 2 ≤ bits.length) :
    s.eccNote region addr bits scrub = (s.eccNoted region addr bits scrub).bump Reg.FLT_ECCCNT 31 16 1 := if_pos (decide_eq_true h)

theorem State.eccNote_cor (s : State) (region addr : Nat) (bits : List Nat) (scrub : Bool) (h : ¬ 2 ≤ bits.length) :
    s.eccNote region addr bits scrub = (s.eccNoted region addr bits scrub).bump Reg.FLT_ECCCNT 15 0 1 := if_neg (by simpa using h)

theorem State.eccNoted_info (s : State) (region addr : Nat) (bits : List Nat) (scrub : Bool) :
    (s.eccNoted region addr bits scrub).bit Reg.FLT_ECCINFO 16 = decide (2 ≤ bits.length) ∧
      (s.eccNoted region addr bits scrub).bit Reg.FLT_ECCINFO 17 = scrub := by
  have hbit : ∀ n i, i < 32 → bitOf (word n) i = decide (n / 2 ^ i % 2 = 1) := fun n i hi => by
    rw [bitOf, word, BitVec.getLsbD_ofNat, decide_eq_true hi, Bool.true_and, Nat.testBit_eq_decide_div_mod_eq]
  have hy : Config.syndrome bits % 256 < 256 := Nat.mod_lt _ (by decide)
  have hr : region % 16 < 16 := Nat.mod_lt _ (by decide)
  rw [State.bit, State.bit, State.eccNoted, State.rd_wrN_same, hbit _ _ (by decide), hbit _ _ (by decide)]
  generalize Config.syndrome bits % 256 = y at hy ⊢
  generalize region % 16 = r at hr ⊢
  refine ⟨?_, ?_⟩
  · rw [decide_eq_decide]
    by_cases h : 2 ≤ bits.length <;> cases scrub <;> simp [b2n, h] <;> omega
  · cases scrub <;> simp [b2n] <;> split <;> omega

section
variable (s : State)

theorem State.frame_eccStage (k cause : Nat) (fwd : Bool) : State.Frame eccReg (· = 101) s (s.stageFaultSafe k cause fwd) :=
  s.frame_stageFaultSafe (k := k) (E := (· = 101)) (fun _ _ h => ⟨k, h⟩) rfl cause fwd

/-- What follows an uncorrectable error makes stages safe, and reports it. -/
theorem State.frame_eccUnc (region addr : Nat) : State.Frame eccReg (· = 101) s (s.eccUnc region addr) := by
  have hs : ∀ (x : State) k, State.Frame eccReg (· = 101) x (x.stageFaultSafe k 7 false) := fun x k => x.frame_eccStage k 7 false
  have hf : ∀ k i, State.Frame eccReg (· = 101) s (s.fault k i addr) := fun k i => .fault (.refl s) ..
  unfold State.eccUnc
  split
  · exact .trans (.onCx (hf 7 0) _ _) (.foldl _ _ (fun x k _ => .ite (hs x k) (.refl x)) _)
  · exact (hf ..).trans (hs ..)
  · exact .ite (.refl s) (hf ..)
  · exact hf ..
  · exact hf ..
  · exact .sendFault (.refl s) _

theorem State.parts_fault (k i a : Nat) : s.StageParts (s.fault k i a) := .sendFault (.refl s) _

theorem State.eccUnc_ecc (region addr : Nat) : (s.eccUnc region addr).ecc = s.ecc := by
  have hs : ∀ (x : State) k, x.StageParts (x.stageFaultSafe k 7 false) := fun x k => x.parts_stageFaultSafe ..
  unfold State.eccUnc
  split
  · refine (State.StageParts.foldl _ (fun x k => .ite (hs x k) (.refl x)) _ _).same (·.ecc) (fun _ _ _ _ _ _ _ _ => rfl) |>.trans ?_
    exact (s.parts_fault 7 0 addr).same (·.ecc) (fun _ _ _ _ _ _ _ _ => rfl)
  · exact ((s.parts_fault ..).trans (hs ..)).same (·.ecc) (fun _ _ _ _ _ _ _ _ => rfl)
  · split
    · rfl
    · exact s.fault_ecc ..
  · exact s.fault_ecc ..
  · exact s.fault_ecc ..
  · exact s.sendFault_ecc _

end

theorem State.eccUnc_ctx_reported (s : State) (addr : Nat) : Reported (s.eccUnc 0 addr) 7 0 addr := by
  have hs : ∀ (x : State) k, State.Frame eccReg (· = 101) x (x.stageFaultSafe k 7 false) := fun x k => x.frame_eccStage k 7 false
  have hr : Reported ((s.fault 7 0 addr).onCx (addr / 512) (fun x => { x with ecc := true })) 7 0 addr :=
    (s.fault_reported 7 0 addr (.inr (by decide))).mono (List.Subset.refl _)
  exact (State.Frame.foldl _ _ (fun x k _ => .ite (hs x k) (.refl x)) _).reported hr

/-! ## The scrub (O49) -/

/-- The word of address 0 begins a pass of its region. -/
def State.scrubPass (s : State) (r a : Nat) : State :=
  if a = 0 then
    let s := if r = 0 then s.bump Reg.FLT_SCRUB 15 0 1 else if r = 8 then s.bump Reg.FLT_SCRUB 31 16 1 else s
    let own (l : List (Nat × Nat)) := l.filter (fun x => x.1 == r)
    let oth (l : List (Nat × Nat)) := l.filter (fun x => x.1 != r)
    { s with ecc := { s.ecc with lastPass := oth s.ecc.lastPass ++ own s.ecc.thisPass, thisPass := oth s.ecc.thisPass } }
  else s

theorem State.scrubPass_frame (s : State) (r a : Nat) :
    State.Frame (fun b _ => b = Reg.FLT_SCRUB) (fun _ => False) s (s.scrubPass r a) := by
  have hb : ∀ hi lo, State.Frame (fun b _ => b = Reg.FLT_SCRUB) (fun _ => False) s (s.bump Reg.FLT_SCRUB hi lo 1) := fun hi lo =>
    .bump (.refl s) _ _ _ _ (fun _ _ _ _ => rfl)
  refine .ite (.trans (.ite (hb 15 0) (.ite (hb 31 16) (.refl s))) (.of (by rfl))) (.refl s)

theorem State.scrubPass_kept (s : State) (r a : Nat) : (s.scrubPass r a).ecc.flips = s.ecc.flips ∧ (s.scrubPass r a).flt = s.flt := by
  unfold State.scrubPass
  split
  · extract_lets x
    have hx : x.ecc.flips = s.ecc.flips ∧ x.flt = s.flt := by
      simp only [x]
      split
      · exact ⟨rfl, rfl⟩
      · split <;> exact ⟨rfl, rfl⟩
    exact hx
  · exact ⟨rfl, rfl⟩

theorem State.scrubPass_count (s : State) (r a : Nat) :
    (a = 0 → r = 0 → (s.scrubPass r a).fld Reg.FLT_SCRUB 15 0 = min (s.fld Reg.FLT_SCRUB 15 0 + 1) 0xFFFF) ∧
      (a = 0 → r = 8 → (s.scrubPass r a).fld Reg.FLT_SCRUB 31 16 = min (s.fld Reg.FLT_SCRUB 31 16 + 1) 0xFFFF) ∧
      (a ≠ 0 → s.scrubPass r a = s) := by
  refine ⟨?_, ?_, fun h => if_neg h⟩
  · rintro rfl rfl
    exact State.fld_bump _ _ _ _ _ (by decide)
  · rintro rfl rfl
    exact State.fld_bump _ _ _ _ _ (by decide)

theorem execScrubRead_clean (r : Fin 16) (addr : Nat) (s : State) (ha : s.awake = true)
    (hn : s.ecc.flips.find? (fun x => x.region == r.val && x.addr == addr / 16 * 16) = none) :
    execScrubRead r addr s = .next (s.scrubPass r (addr / 16 * 16)) := by
  simp only [execScrubRead, ha, Bool.not_true, Bool.false_eq_true, if_false]
  rw [← State.scrubPass, (s.scrubPass_kept r (addr / 16 * 16)).1, hn]

theorem execScrubRead_hit (r : Fin 16) (addr : Nat) (s : State) (ha : s.awake = true) {x : EccFlip}
    (hx : s.ecc.flips.find? (fun x => x.region == r.val && x.addr == addr / 16 * 16) = some x) :
    ∃ (hard : Bool) (passed : List (Nat × Nat)), execScrubRead r addr s =
      let t := (s.scrubPass r (addr / 16 * 16)).eccTake x true
      if x.bits.length < 2 then
        let t := { t with ecc := { t.ecc with thisPass := passed } }
        .next (if hard then t.raise (E.ECC_HARD 0) else t)
      else .next t := by
  simp only [execScrubRead, ha, Bool.not_true, Bool.false_eq_true, if_false]
  rw [← State.scrubPass, (s.scrubPass_kept r (addr / 16 * 16)).1, hx]
  exact ⟨_, _, rfl⟩

/-- The data of a word is right again. -/
def State.dropFlip (s : State) (x : EccFlip) : State := { s with ecc := { s.ecc with flips := s.ecc.flips.filter (fun y => y != x) } }

theorem State.eccTake_cor (s : State) (x : EccFlip) (scrub : Bool) (h : x.bits.length < 2) :
    s.eccTake x scrub = ((s.eccNote x.region x.addr x.bits scrub).dropFlip x).faultFrom 25 (eccOwner x.region x.addr) x.region x.addr
      false := by
  simp only [State.eccTake, if_neg (Nat.not_le.mpr h)]
  rfl

theorem State.eccTake_unc (s : State) (x : EccFlip) (scrub : Bool) (h : 2 ≤ x.bits.length) :
    s.eccTake x scrub = (s.eccNote x.region x.addr x.bits scrub).eccUnc x.region x.addr := if_pos h

/-- The registers of an error's note. -/
def eccNoteReg (a : Nat) : Prop := a = Reg.FLT_ECCCNT ∨ a = Reg.FLT_ECCINFO ∨ a = Reg.FLT_ECCADDR

theorem State.frame_eccNote (s : State) (region addr : Nat) (bits : List Nat) (scrub : Bool) :
    State.Frame (fun a _ => eccNoteReg a) (fun _ => False) s (s.eccNote region addr bits scrub) := by
  have h : State.Frame (fun a _ => eccNoteReg a) (fun _ => False) s (s.eccNoted region addr bits scrub) :=
    ((State.Frame.refl s).wrN _ _ (fun _ _ => .inr (.inr rfl))).wrN _ _ (fun _ _ => .inr (.inl rfl))
  exact .ite (h.bump _ _ _ _ (fun _ _ _ _ => .inl rfl)) (h.bump _ _ _ _ (fun _ _ _ _ => .inl rfl))

theorem State.eccNote_ecc (s : State) (region addr : Nat) (bits : List Nat) (scrub : Bool) :
    (s.eccNote region addr bits scrub).ecc = s.ecc ∧ (s.eccNote region addr bits scrub).flt = s.flt := by
  unfold State.eccNote
  extract_lets unc s1 s2
  split <;> exact ⟨rfl, rfl⟩

/-- The count and the info of an error that was corrected, or not. -/
theorem State.eccNote_shows (s : State) (region addr : Nat) (bits : List Nat) (scrub : Bool) :
    (bits.length < 2 → (s.eccNote region addr bits scrub).fld Reg.FLT_ECCCNT 15 0 = min (s.fld Reg.FLT_ECCCNT 15 0 + 1) 0xFFFF) ∧
      (2 ≤ bits.length → (s.eccNote region addr bits scrub).fld Reg.FLT_ECCCNT 31 16 = min (s.fld Reg.FLT_ECCCNT 31 16 + 1) 0xFFFF) ∧
      (s.eccNote region addr bits scrub).bit Reg.FLT_ECCINFO 16 = decide (2 ≤ bits.length) ∧
      (s.eccNote region addr bits scrub).bit Reg.FLT_ECCINFO 17 = scrub := by
  obtain ⟨h16, h17⟩ := s.eccNoted_info region addr bits scrub
  have hcnt : (s.eccNoted region addr bits scrub).rd Reg.FLT_ECCCNT = s.rd Reg.FLT_ECCCNT := by
    rw [State.eccNoted, State.rd_wrN_ne _ _ _ _ (by decide), State.rd_wrN_ne _ _ _ _ (by decide)]
  have hinfo : (s.eccNote region addr bits scrub).rd Reg.FLT_ECCINFO = (s.eccNoted region addr bits scrub).rd Reg.FLT_ECCINFO := by
    by_cases h : 2 ≤ bits.length
    · rw [State.eccNote_unc _ _ _ _ _ h, State.rd_bump_ne _ _ _ _ _ _ (by decide)]
    · rw [State.eccNote_cor _ _ _ _ _ h, State.rd_bump_ne _ _ _ _ _ _ (by decide)]
  refine ⟨fun h => ?_, fun h => ?_, ?_, ?_⟩
  · rw [State.eccNote_cor _ _ _ _ _ (by omega), State.fld_bump _ _ _ _ _ (by decide), State.fld, hcnt]
    rfl
  · rw [State.eccNote_unc _ _ _ _ _ h, State.fld_bump _ _ _ _ _ (by decide), State.fld, hcnt]
    rfl
  · rw [State.bit, hinfo]
    exact h16
  · rw [State.bit, hinfo]
    exact h17

/-- A corrected error is reported as ECC_COR while the collector has room. -/
theorem State.faultFrom_cor (s : State) (src inst addr : Nat) (h : s.flt.inq.length < 256) :
    ∃ m ∈ (s.faultFrom 25 src inst addr false).flt.inq, m.kind = 62 ∧ m.addr = addr % 2 ^ 32 :=
  ⟨_, State.sendFault_has s _ (.inl h), rfl, rfl⟩

theorem State.frame_faultFrom {R : Nat → Nat → Prop} {E : Nat → Prop} (s : State) (k src inst addr : Nat) (inj : Bool) :
    State.Frame R E s (s.faultFrom k src inst addr inj) := .sendFault (.refl s) _

theorem eccReg_note {a i : Nat} (h : eccNoteReg a) : ¬ eccReg a i := by
  rcases h with rfl | rfl | rfl <;>
    simp only [eccReg, stageReg, phaseReg, Reg.ST_STAT, Reg.PHS_STAT, Reg.PHS_CAPREQ, Reg.SHF_FTRUN, Reg.FLT_ECCCNT, Reg.FLT_ECCINFO,
      Reg.FLT_ECCADDR] <;> omega

/-- A corrected error leaves the store; its report changes no register of its own. -/
theorem State.eccTake_cor_shows (s : State) (x : EccFlip) (scrub : Bool) (h : x.bits.length < 2) :
    (s.eccTake x scrub).ecc.flips = s.ecc.flips.filter (fun y => y != x) ∧
      State.Frame (fun _ _ => False) (fun _ => False) (s.eccNote x.region x.addr x.bits scrub) (s.eccTake x scrub) ∧
      (s.flt.inq.length < 256 → ∃ m ∈ (s.eccTake x scrub).flt.inq, m.kind = 62 ∧ m.addr = x.addr % 2 ^ 32) := by
  obtain ⟨necc, nflt⟩ := s.eccNote_ecc x.region x.addr x.bits scrub
  rw [State.eccTake_cor _ _ _ h]
  have hd : State.Frame (fun _ _ => False) (fun _ => False) (s.eccNote x.region x.addr x.bits scrub)
      ((s.eccNote x.region x.addr x.bits scrub).dropFlip x) := .of rfl
  refine ⟨?_, hd.trans (State.frame_faultFrom ..), fun hq => State.faultFrom_cor _ _ _ _ ?_⟩
  · rw [State.faultFrom, State.sendFault_ecc, State.dropFlip, necc]
  · rw [State.dropFlip, nflt]
    exact hq

/-- Settles O49: a single error leaves the store as it is counted and reported; a double one stays there. -/
theorem scrubCorrects : Obligations.ScrubCorrects := by
  unfold Obligations.ScrubCorrects
  intro r addr s ha hit
  have hp := s.scrubPass_frame r (addr / 16 * 16)
  obtain ⟨hflips, hflt⟩ := s.scrubPass_kept r (addr / 16 * 16)
  refine ⟨fun hn => ?_, fun x hx => ?_⟩
  · obtain ⟨h1, h2, h3⟩ := s.scrubPass_count r (addr / 16 * 16)
    refine ⟨_, execScrubRead_clean r addr s ha hn, hflips, hp.keeps (fun a _ h => List.mem_singleton.mpr h),
      fun h hr => h1 (by omega) hr, fun h hr => h2 (by omega) hr, fun h => ?_⟩
    rw [h3 (by omega)]
  · obtain ⟨hard, passed, he⟩ := execScrubRead_hit r addr s ha hx
    obtain ⟨hreg, -⟩ : x.region = r.val ∧ x.addr = addr / 16 * 16 := by simpa using List.find?_some hx
    have hmem : x ∈ s.ecc.flips := List.mem_of_find?_eq_some hx
    generalize s.scrubPass r (addr / 16 * 16) = y at hp hflips hflt he
    have hcnt : y.rd Reg.FLT_ECCCNT = s.rd Reg.FLT_ECCCNT := hp.rd (fun _ _ => by decide) (by decide)
    have hn := y.frame_eccNote x.region x.addr x.bits true
    obtain ⟨n1, n2, n3, n4⟩ := y.eccNote_shows x.region x.addr x.bits true
    obtain ⟨necc, nflt⟩ := y.eccNote_ecc x.region x.addr x.bits true
    refine ⟨fun hb hq => ?_, fun hb => ?_⟩
    · rw [if_pos hb] at he
      obtain ⟨f1, f2, f3⟩ := y.eccTake_cor_shows x true hb
      generalize y.eccTake x true = z at he f1 f2 f3
      have hz : ∃ t, exec (.scrubRead r addr) s = .next t ∧ t.ecc.flips = z.ecc.flips ∧ t.flt.inq = z.flt.inq ∧
          State.Frame (fun _ _ => False) (· = 36) z t := by
        have hr : State.Frame (fun _ _ => False) (· = 36) z { z with ecc := { z.ecc with thisPass := passed } } := .of rfl
        refine ⟨_, he, ?_, ?_, .ite (hr.raise _ (by decide) (.inl rfl)) hr⟩
        · split <;> simp
        · split <;> simp
      obtain ⟨t, ht, t1, t2, t3⟩ := hz
      have hall := (f2.mono (fun _ _ h => h) (fun _ h => h.elim)).trans t3
      refine ⟨t, ht, ?_, ?_, ?_, ?_, ?_⟩
      · rw [t1, f1]
        simp
      · rw [t2]
        exact f3 (by rw [hflt]; exact hq)
      · refine (hall.field (fun _ _ _ _ => id) (by decide)).trans ((n1 hb).trans ?_)
        rw [State.fld, hcnt, State.fld]
      · exact (hall.bits _ 17 (by decide) id (by decide)).trans n4
      · refine ((hp.keeps (w := [Reg.FLT_SCRUB]) (fun a _ h => List.mem_singleton.mpr h)).mono (by simp)).trans
          ((hn.keeps (w := [Reg.FLT_ECCCNT, Reg.FLT_ECCINFO, Reg.FLT_ECCADDR]) ?_).mono (by simp) |>.trans
            (hall.keeps (fun _ _ h => h.elim)))
        rintro a - (rfl | rfl | rfl) <;> simp
    · rw [if_neg (by omega), State.eccTake_unc _ _ _ hb] at he
      have hu := (y.eccNote x.region x.addr x.bits true).frame_eccUnc x.region x.addr
      refine ⟨_, he, ?_, ?_, ?_, fun hr => ?_⟩
      · rw [State.eccUnc_ecc, necc, hflips]
        exact hmem
      · refine (hu.field (fun i _ _ _ => eccReg_note (.inl rfl)) (by decide)).trans ((n2 hb).trans ?_)
        rw [State.fld, hcnt, State.fld]
      · exact (hu.bits _ 16 (by decide) (eccReg_note (.inr (.inl rfl))) (by decide)).trans (n3.trans (decide_eq_true hb))
      · rw [hreg.trans hr]
        exact State.eccUnc_ctx_reported _ _

end Sys2Proof.Machine
end

section
/-!
PROOFS. Reads and writes of protected words, and reads of a single word.
-/

namespace Sys2Proof.Machine

theorem State.awake_of_runs {s : State} (h : s.runs = true) : s.awake = true := by
  rw [State.runs, decide_eq_true_eq] at h
  rw [State.awake, h]
  rfl

/-! ## Reads of protected words -/

/-- What a read may change that finds errors. -/
def eccReadReg (a i : Nat) : Prop := eccNoteReg a ∨ eccReg a i

theorem State.frame_eccTake (s : State) (x : EccFlip) (scrub : Bool) :
    State.Frame eccReadReg (· = 101) s (s.eccTake x scrub) := by
  have hn : State.Frame eccReadReg (· = 101) s (s.eccNote x.region x.addr x.bits scrub) :=
    (s.frame_eccNote ..).mono (fun _ _ h => .inl h) (fun _ h => h.elim)
  by_cases h : x.bits.length < 2
  · rw [State.eccTake_cor _ _ _ h]
    have hd : State.Frame eccReadReg (· = 101) (s.eccNote x.region x.addr x.bits scrub)
      ((s.eccNote x.region x.addr x.bits scrub).dropFlip x) := .of rfl
    exact (hn.trans hd).trans (State.frame_faultFrom ..)
  · rw [State.eccTake_unc _ _ _ (by omega)]
    exact hn.trans ((State.frame_eccUnc _ _ _).mono (fun _ _ h => .inr h) (fun _ h => h))

theorem State.frame_eccRead (s : State) (region lo hi : Nat) : State.Frame eccReadReg (· = 101) s (s.eccRead region lo hi) :=
  .foldl _ _ (fun s x _ => s.frame_eccTake x false) s

theorem State.frame_eccTouch (s : State) (region addr : Nat) : State.Frame eccReadReg (· = 101) s (s.eccTouch region addr) :=
  s.frame_eccRead ..

/-! ## Writes of protected words -/

/-- What a write may change that meets an armed injection. -/
def injReg (a : Nat) : Prop := a = Reg.INJ_STAT ∨ a = Reg.INJ_EADDR ∨ a = Reg.INJ_CNT

theorem State.frame_injected (s : State) : State.Frame (fun a _ => injReg a) (· = 38) s s.injected := by
  have h : State.Frame (fun a _ => injReg a) (· = 38) s ((s.bump Reg.INJ_CNT 15 0 1).raiseWith (E.INJ_APPLIED 0) [] true false) :=
    .raiseWith (.bump (.refl s) _ _ _ _ (fun _ _ _ _ => .inr (.inr rfl))) _ _ _ _ (by decide) (.inl rfl)
  exact h.trans (.of rfl)

theorem State.frame_eccWrite (s : State) (region addr : Nat) : State.Frame (fun a _ => injReg a) (· = 38) s (s.eccWrite region addr) := by
  unfold State.eccWrite
  extract_lets a fs ec s1 b x ec2 s2
  have h1 : State.Frame (fun a _ => injReg a) (· = 38) s s1 := .of rfl
  have h2 : State.Frame (fun a _ => injReg a) (· = 38) s s2 := h1.trans (.of rfl)
  refine .ite ?_ h1
  exact ((h2.setBit _ _ _ (.inl rfl)).wrN _ _ (fun _ _ => .inr (.inl rfl))).trans (State.frame_injected _)

/-! ## Reads that are no part of a wide value -/

theorem State.fabricRead_plain (s : State) (p : Port) (a : Nat) (hup : s.fabricUp = true) (hm : s.mapped a = true)
    (hw : wideWord a = false) (hr : wideRest a = []) :
    s.fabricRead p a = ((s.readNow p a).1, (s.readNow p a).2.readEffect p a) := by
  simp [State.fabricRead, hup, hm, hw, hr]

theorem State.hostRead_plain (s : State) (p : Port) (a : Nat) (hup : s.fabricUp = true) (hm : s.mapped a = true) (h4 : a % 4 = 0)
    (hw : wideWord a = false) (hr : wideRest a = []) :
    s.hostRead p a = { (s.readNow p a).2.readEffect p a with
      readData := vset ((s.readNow p a).2.readEffect p a).readData (portIdx p) (s.readNow p a).1 } := by
  rw [State.hostRead, show a / 4 * 4 = a by omega, State.fabricRead_plain s p a hup hm hw hr]

/-! ## Registers that a requester reaches at their own address -/

/-- No index, bank or firmware stands between the address and the register. -/
def directReg (k : Nat) : Bool :=
  !(within k 0x2024 0x202C || within k 0x2D00 0x2D20 || within k 0x2E00 0x2E80 || within k 0x3200 0x3380 || within k 0x3C94 0x3CBC ||
    within k 0x3E44 0x3E6C || within k 0x4184 0x419C || within k 0xA28 0xA34 || within k 0x464 0x470 || within k 0x310 0x31C ||
    bankedReg k) && plainAddr k && !fwServed k && !within k 0xB00 0xC00

section
variable {k : Nat} (h : directReg k = true)
include h

theorem keyOf_direct (s : State) (p : Port) : s.keyOf p k = some k := by
  simp only [directReg, Bool.not_or, Bool.and_eq_true, Bool.not_eq_true'] at h
  simp only [State.keyOf, h, Bool.false_eq_true, if_false]

theorem plainAddr_direct : plainAddr k = true := by
  simp only [directReg, Bool.and_eq_true] at h
  exact h.1.1.2

theorem fwBusy_direct (s : State) (p : Port) : s.fwBusy p k = false := by
  simp only [directReg, Bool.and_eq_true, Bool.not_eq_true'] at h
  rw [State.fwBusy, h.1.2, Bool.and_false, Bool.false_and]

theorem mapped_direct (s : State) (hr : s.runs = true) : s.mapped k = true := by
  simp only [directReg, Bool.and_eq_true, Bool.not_eq_true'] at h
  exact State.mapped_runs s _ hr (.inr h.2)

/-- A write of such a register with an action of its own. -/
theorem State.hostWrite_direct (s : State) (p : Port) (v : Word) {r : RegRow} {u : State} (hr : s.runs = true)
    (hrow : rowOfKey k = some r) (hf : followsPair k = false) (hc : k ≠ Reg.CW_CMD) (hn : within k 0x2500 0x2600 = false)
    (hw : s.writeFixed p k (v &&& word r.known) = some u) : (s.hostWrite p k v).Counted u :=
  s.hostWrite_fixed_counted p k k v r u (State.fabricUp_runs s hr) (mapped_direct h s hr) (plainAddr_direct h) (fwBusy_direct h s p)
    (keyOf_direct h s p) hrow hf hc hn hw

end

end Sys2Proof.Machine
end

section
/-!
PROOFS. Writes by access type (O8).
-/

namespace Sys2Proof.Machine

/-! ## SHD fields go to the shadow -/

/-- The registers beside its own that an SHD write may change. -/
def shdSide (a : Nat) : Prop := injReg a ∨ a = Reg.SYS_SHDDIRTY ∨ a = Reg.LE_CHECKSTAT

/-- `t` is `s` with the shadow of register `a` at `v`. -/
structure State.ShadowSet (a : Nat) (v : Word) (s t : State) : Prop where
  same : t.srd a = v
  other : ∀ b, b ≠ a → t.srd b = s.srd b
  regs : ∀ b, ¬ shdSide b → sideReg b = false → t.rd b = s.rd b
  mem : t.mem = s.mem

theorem State.ShadowSet.then {a : Nat} {v : Word} {s t u : State} (h : State.ShadowSet a v s t) (hs : u.shadow = t.shadow)
    (hm : u.mem = t.mem) (hr : ∀ b, ¬ shdSide b → sideReg b = false → u.rd b = t.rd b) : State.ShadowSet a v s u where
  same := by rw [State.srd, hs]; exact h.same
  other b hb := by rw [State.srd, hs]; exact h.other b hb
  regs b h1 h2 := (hr b h1 h2).trans (h.regs b h1 h2)
  mem := hm.trans h.mem

theorem State.shdStore_set (s : State) (a : Nat) (v : Word) : State.ShadowSet a v s (s.shdStore a v) := by
  have hset : ∀ x : State, State.Frame (fun a _ => injReg a) (· = 38) s x → State.ShadowSet a v s (x.swr a v) := fun x hx => {
    same := State.srd_swr_same _ _ _
    other := fun b hb => by rw [State.srd_swr_ne _ _ _ _ (Ne.symm hb), State.srd, hx.shadow, State.srd]
    regs := fun b h1 h2 => hx.rd (fun _ _ h => h1 (.inl h)) h2
    mem := hx.mem }
  unfold State.shdStore
  extract_lets x
  have hx : State.Frame (fun a _ => injReg a) (· = 38) s x := .ite (s.frame_eccWrite ..) (s.frame_eccWrite ..)
  split
  · refine (hset x hx).then rfl rfl fun b h1 _ => State.rd_setBit_ne _ _ _ _ _ ?_
    rintro rfl
    exact h1 (.inr (.inl rfl))
  · exact hset x hx

theorem State.shdPut_set (s : State) (a : Nat) (v mask : Word) (ha : a < 0x14000 ∨ 0x1C000 ≤ a) :
    State.ShadowSet a ((s.srd a &&& ~~~mask) ||| (v &&& mask)) s (s.shdPut a v mask) := by
  have h := s.shdStore_set a ((s.srd a &&& ~~~mask) ||| (v &&& mask))
  have hstale : ∀ x : State, State.ShadowSet a ((s.srd a &&& ~~~mask) ||| (v &&& mask)) s x →
      State.ShadowSet a ((s.srd a &&& ~~~mask) ||| (v &&& mask)) s x.schedStale := fun x hx => by
    unfold State.schedStale
    split
    · refine hx.then rfl rfl fun b h1 _ => State.rd_setBit_ne _ _ _ _ _ ?_
      rintro rfl
      exact h1 (.inr (.inr rfl))
    · exact hx
  unfold State.shdPut
  extract_lets x y
  have hy : State.ShadowSet a ((s.srd a &&& ~~~mask) ||| (v &&& mask)) s y := by
    simp only [y]
    split
    · exact hstale _ h
    · exact h
  rw [if_neg]
  · exact hy
  · rw [Bool.and_eq_true, Bool.and_eq_true, decide_eq_true_eq, decide_eq_true_eq]
    omega

/-! ## The register tables -/

/-- The tables that hold the row of some key. -/
def rowTables : List (List RegRow) :=
  [[], sysRows, timRows, bootRows, evtRows, fltRows, evrRows, sbgRows, hstRows, updRows, pairRows, hkRows, injRows, lnkRows, leRows, cwRows,
    trcRows, edgRows, phsRows, shfRows, fdrRows, adcRows, metRows, cmpRows, winRows, winSchedRows, winPhaseRows, winStageRows, winCalRows,
    winMetRows, winWmRows, winHkRows, winFltRows, winEvtRows, winMbRows]

/-- One of the tables. -/
def IsTable (l : List RegRow) : Prop := l ∈ rowTables

theorem IsTable.ite {c : Prop} [Decidable c] {x y : List RegRow} (hx : IsTable x) (hy : IsTable y) : IsTable (if c then x else y) := by
  by_cases h : c
  · rw [if_pos h]
    exact hx
  · rw [if_neg h]
    exact hy

theorem isTable_get (i : Nat) (hi : i < rowTables.length) : IsTable rowTables[i] := List.getElem_mem hi

theorem isTable_below (n : Nat) : IsTable (match n with
    | 0 => sysRows | 1 => timRows | 2 => bootRows | 3 => evtRows | 4 => fltRows | 5 => evrRows | 6 => sbgRows
    | 7 => hstRows | 8 => updRows | 9 => pairRows | 0xA => hkRows | 0xB => injRows | _ => []) :=
  match n with
  | 0 => isTable_get 1 (by decide)
  | 1 => isTable_get 2 (by decide)
  | 2 => isTable_get 3 (by decide)
  | 3 => isTable_get 4 (by decide)
  | 4 => isTable_get 5 (by decide)
  | 5 => isTable_get 6 (by decide)
  | 6 => isTable_get 7 (by decide)
  | 7 => isTable_get 8 (by decide)
  | 8 => isTable_get 9 (by decide)
  | 9 => isTable_get 10 (by decide)
  | 10 => isTable_get 11 (by decide)
  | 11 => isTable_get 12 (by decide)
  | _ + 12 => isTable_get 0 (by decide)

/-- The rows that can hold a key are one of the tables. -/
theorem isTable_rowsAt (a : Nat) : IsTable (rowsAt a) := by
  have m : ∀ i (hi : i < rowTables.length), IsTable rowTables[i] := isTable_get
  have low : ∀ a : Nat, IsTable (if a < 0x2000 then lnkRows else if a < 0x2400 then leRows else if a < 0x2600 then cwRows
      else if a < 0x2800 then trcRows else if a < 0x2C00 then edgRows else if a < 0x3000 then phsRows else if a < 0x3400 then shfRows
      else if a < 0x3C00 then fdrRows else if a < 0x3E00 then adcRows else if a < 0x4000 then metRows else if a < 0x4200 then cmpRows
      else if a < 0xF000 then [] else if a < 0xF100 then winRows else []) := fun a =>
    .ite (m 13 (by decide)) (.ite (m 14 (by decide)) (.ite (m 15 (by decide)) (.ite (m 16 (by decide)) (.ite (m 17 (by decide))
      (.ite (m 18 (by decide)) (.ite (m 19 (by decide)) (.ite (m 20 (by decide)) (.ite (m 21 (by decide)) (.ite (m 22 (by decide))
        (.ite (m 23 (by decide)) (.ite (m 0 (by decide)) (.ite (m 24 (by decide)) (m 0 (by decide))))))))))))))
  exact .ite (.ite (isTable_below _) (low a)) (.ite (m 25 (by decide)) (.ite (m 26 (by decide)) (.ite (m 27 (by decide))
    (.ite (m 28 (by decide)) (.ite (m 29 (by decide)) (.ite (m 30 (by decide)) (.ite (m 31 (by decide)) (.ite (m 32 (by decide))
      (.ite (m 33 (by decide)) (.ite (m 34 (by decide)) (m 0 (by decide))))))))))))


/-- A fact about every row of the tables holds of the row of every key. -/
theorem row_fact {P : RegRow → Bool} (hP : ∀ l ∈ rowTables, l.all P = true) {k : Nat} {r : RegRow} (hr : rowOfKey k = some r) :
    P r = true := by
  have hof : ∀ a, rowOf a = some r → P r = true := fun a h => by
    have hm := List.mem_of_find?_eq_some h
    exact List.all_eq_true.mp (hP _ (isTable_rowsAt a)) r hm
  unfold rowOfKey at hr
  split at hr
  · exact hof _ hr
  · exact hof _ hr

/-- What the tables say of a row: the bits that a write takes are known, and a counter is known and apart from the others. -/
def RegRow.sound (r : RegRow) : Bool :=
  (word r.rw &&& ~~~word r.known == 0) && (word r.w1c &&& ~~~word r.known == 0) &&
    r.ctr.all (fun f => decide (f.1 < 32) && decide (f.2 ≤ f.1) && (fieldMask f.1 f.2 &&& ~~~word r.known == 0) &&
      (fieldMask f.1 f.2 &&& (word r.rw ||| word r.w1c) == 0)) &&
    r.ctr.Pairwise (fun f g => f.1 < g.2 ∨ g.1 < f.2)

theorem rows_sound : ∀ l ∈ rowTables, l.all RegRow.sound = true := by decide +kernel


theorem RegRow.sound_of_key {k : Nat} {r : RegRow} (hr : rowOfKey k = some r) :
    (word r.rw &&& ~~~word r.known = 0 ∧ word r.w1c &&& ~~~word r.known = 0) ∧
      (∀ f ∈ r.ctr, f.1 < 32 ∧ f.2 ≤ f.1 ∧ fieldMask f.1 f.2 &&& ~~~word r.known = 0 ∧
        fieldMask f.1 f.2 &&& (word r.rw ||| word r.w1c) = 0) ∧
      r.ctr.Pairwise (fun f g => f.1 < g.2 ∨ g.1 < f.2) := by
  have h := row_fact rows_sound hr
  simp only [RegRow.sound, Bool.and_eq_true, beq_iff_eq, List.all_eq_true, decide_eq_true_eq] at h
  obtain ⟨⟨⟨h1, h2⟩, h3⟩, h4⟩ := h
  exact ⟨⟨h1, h2⟩, fun f hf => ⟨(h3 f hf).1.1.1, (h3 f hf).1.1.2, (h3 f hf).1.2, (h3 f hf).2⟩, h4⟩

/-! ## A write by access type, bit by bit and counter by counter -/

/-- Bits of a mask that lies inside another one. -/
theorem getLsbD_of_and_not {m n : Word} (h : m &&& ~~~n = 0) {i : Nat} (hi : i < 32) (hm : m.getLsbD i = true) : n.getLsbD i = true := by
  have := congrArg (·.getLsbD i) h
  simpa [hm, hi] using this

/-- A field that a mask holds whole reads the same under it. -/
theorem fieldOf_and_mask {v n : Word} {hi lo : Nat} (hh : hi < 32) (h : fieldMask hi lo &&& ~~~n = 0) :
    fieldOf (v &&& n) hi lo = fieldOf v hi lo :=
  fieldOf_and _ _ _ _ (fun i h32 h1 h2 => getLsbD_of_and_not h h32 (by
    rw [fieldMask_getLsbD _ _ _ h32]
    simp only [Bool.and_eq_true, decide_eq_true_eq]
    omega)) hh

/-- The part of a write that RW and W1C bits take. -/
theorem writtenBits (r : RegRow) (w v : Word) {i : Nat} (hi : i < 32) :
    bitOf (((w &&& ~~~word r.rw) ||| (v &&& word r.rw)) &&& ~~~(v &&& word r.w1c)) i =
      if (word r.w1c).getLsbD i && v.getLsbD i then false else if (word r.rw).getLsbD i then v.getLsbD i else bitOf w i := by
  simp only [bitOf, BitVec.getLsbD_and, BitVec.getLsbD_or, BitVec.getLsbD_not, hi, decide_true, Bool.true_and]
  cases (word r.rw).getLsbD i <;> cases (word r.w1c).getLsbD i <;> cases v.getLsbD i <;> simp

/-- A counter field of a word, after a write of it (R399). -/
def clearCounter (v w : Word) (f : Nat × Nat) : Word := if fieldOf v f.1 f.2 = 0 then setField w f.1 f.2 0 else w

theorem fieldOf_clearCounter_same (v w : Word) {f : Nat × Nat} (hf : f.1 < 32) :
    fieldOf (clearCounter v w f) f.1 f.2 = if fieldOf v f.1 f.2 = 0 then 0 else fieldOf w f.1 f.2 := by
  unfold clearCounter
  split
  · rw [fieldOf_setField _ _ _ _ hf, Nat.zero_mod]
  · rfl

theorem fieldOf_clearCounter_apart (v w : Word) {f g : Nat × Nat} (hf : f.1 < 32) (h : f.1 < g.2 ∨ g.1 < f.2) :
    fieldOf (clearCounter v w g) f.1 f.2 = fieldOf w f.1 f.2 := by
  unfold clearCounter
  split
  · exact fieldOf_setField_ne _ _ _ _ _ _ hf h
  · rfl

theorem fieldOf_clearCounters_apart (v : Word) (l : List (Nat × Nat)) (w : Word) {f : Nat × Nat} (hf : f.1 < 32)
    (h : ∀ g ∈ l, f.1 < g.2 ∨ g.1 < f.2) : fieldOf (l.foldl (clearCounter v) w) f.1 f.2 = fieldOf w f.1 f.2 := by
  induction l generalizing w with
  | nil => rfl
  | cons g l ih =>
    exact (ih _ fun g' hg' => h g' (List.mem_cons_of_mem _ hg')).trans (fieldOf_clearCounter_apart v w hf (h g List.mem_cons_self))

theorem fieldOf_clearCounters (v : Word) (l : List (Nat × Nat)) (w : Word) (hp : l.Pairwise (fun f g => f.1 < g.2 ∨ g.1 < f.2))
    {f : Nat × Nat} (hf : f.1 < 32) (hm : f ∈ l) :
    fieldOf (l.foldl (clearCounter v) w) f.1 f.2 = if fieldOf v f.1 f.2 = 0 then 0 else fieldOf w f.1 f.2 := by
  induction l generalizing w with
  | nil => exact absurd hm List.not_mem_nil
  | cons g l ih =>
    obtain ⟨hg, hl⟩ := List.pairwise_cons.mp hp
    obtain rfl | hm := List.mem_cons.mp hm
    · exact (fieldOf_clearCounters_apart v l _ hf hg).trans (fieldOf_clearCounter_same v w hf)
    · exact (ih _ hl hm).trans (by rw [fieldOf_clearCounter_apart v w hf (hg f hm).symm])

theorem RegRow.written_eq (r : RegRow) (w v : Word) :
    r.written w v = r.ctr.foldl (clearCounter v) (((w &&& ~~~word r.rw) ||| (v &&& word r.rw)) &&& ~~~(v &&& word r.w1c)) := rfl

theorem RegRow.written_bit {k : Nat} {r : RegRow} (hr : rowOfKey k = some r) (hc : r.ctr = []) (w v : Word) {i : Nat} (hi : i < 32) :
    bitOf (r.written w (v &&& word r.known)) i =
      if (word r.w1c).getLsbD i && v.getLsbD i then false else if (word r.rw).getLsbD i then v.getLsbD i else bitOf w i := by
  obtain ⟨⟨h1, h2⟩, -⟩ := RegRow.sound_of_key hr
  rw [RegRow.written_eq, hc]
  refine (writtenBits r w _ hi).trans ?_
  rw [BitVec.getLsbD_and]
  have e1 := getLsbD_of_and_not h1 hi
  have e2 := getLsbD_of_and_not h2 hi
  cases hk : (word r.known).getLsbD i
  · rw [hk] at e1 e2
    simp [Bool.eq_false_iff.mpr (fun h => Bool.false_ne_true (e1 h)), Bool.eq_false_iff.mpr (fun h => Bool.false_ne_true (e2 h))]
  · simp

theorem RegRow.written_counter {k : Nat} {r : RegRow} (hr : rowOfKey k = some r) (w v : Word) {f : Nat × Nat} (hf : f ∈ r.ctr) :
    fieldOf (r.written w (v &&& word r.known)) f.1 f.2 = if fieldOf v f.1 f.2 = 0 then 0 else fieldOf w f.1 f.2 := by
  obtain ⟨-, h3, hp⟩ := RegRow.sound_of_key hr
  obtain ⟨h32, hle, hk, hd⟩ := h3 f hf
  rw [RegRow.written_eq, fieldOf_clearCounters _ _ _ hp h32 hf, fieldOf_and_mask h32 hk]
  have hw : ∀ i < 32, f.2 ≤ i → i ≤ f.1 → bitOf (((w &&& ~~~word r.rw) ||| (v &&& word r.known &&& word r.rw)) &&&
      ~~~(v &&& word r.known &&& word r.w1c)) i = bitOf w i := fun i hi hlo hhi => by
    have := congrArg (·.getLsbD i) hd
    simp only [BitVec.getLsbD_and, fieldMask_getLsbD _ _ _ hi, BitVec.getLsbD_or, hlo, Nat.lt_succ_of_le hhi, decide_true, Bool.and_self,
      Bool.true_and] at this
    obtain ⟨hrw, hw1c⟩ := Bool.or_eq_false_iff.mp (this.trans BitVec.getLsbD_zero)
    rw [writtenBits r w _ hi, hrw, hw1c]
    simp
  rw [fieldOf_eq_of_bits hw]

theorem State.rd_storeByType (s : State) {k : Nat} {r : RegRow} (v : Word) (hr : rowOfKey k = some r) (hd : r.shd = 0) :
    s.storeByType true k v = (if r.written (s.rd k) v = s.rd k then s else s.wr k (r.written (s.rd k) v)) := by
  simp only [State.storeByType, hr, hd, if_true]

/-- A write of a register with no shadow field, as the register takes it. -/
theorem State.hostWrite_byType (s : State) (p : Port) (a k : Nat) (v : Word) (r : RegRow) (hup : s.fabricUp = true)
    (hm : s.mapped a = true) (ha : plainAddr a = true) (hfw : s.fwBusy p a = false) (hk : s.keyOf p a = some k)
    (hr : rowOfKey k = some r) (hf : followsPair k = false) (hw : s.writeFixed p k (v &&& word r.known) = none) (hd : r.shd = 0)
    (hs : sideReg k = false ∨ v &&& ~~~word r.known = 0) :
    (s.hostWrite p a v).rd k = r.written (s.rd k) (v &&& word r.known) ∧ Keeps s (s.hostWrite p a v) [k] ∧
      (s.hostWrite p a v).time = s.time ∧ (s.hostWrite p a v).unit = s.unit ∧ (s.hostWrite p a v).pending = s.pending := by
  have hwk : s.writeKey p k (v &&& word r.known) = s.storeByType true k (v &&& word r.known) := by
    simp [State.writeKey, hf, hw, hr, hd]
  have hc := s.hostWrite_counted p a k v r hup hm ha hfw hk hr
  rw [hwk, s.rd_storeByType _ hr hd] at hc
  set u : State := if r.written (s.rd k) (v &&& word r.known) = s.rd k then s else s.wr k (r.written (s.rd k) (v &&& word r.known)) with hu
  have hrd : u.rd k = r.written (s.rd k) (v &&& word r.known) := by
    rw [hu]
    split
    · next h => exact h.symm
    · exact State.rd_wr_same ..
  have hkeep : Keeps s u [k] ∧ u.time = s.time ∧ u.unit = s.unit ∧ u.pending = s.pending := by
    rw [hu]
    split
    · exact ⟨.refl _ _, rfl, rfl, rfl⟩
    · exact ⟨(Keeps.refl s _).wr _ List.mem_cons_self, rfl, rfl, rfl⟩
  refine ⟨?_, hc.keeps hkeep.1, ?_⟩
  · obtain hs | hs := hs
    · rw [hc.rd hs, hrd]
    · rw [s.hostWrite_whole p a k v r hup hm ha hfw hk hr hs, hwk, s.rd_storeByType _ hr hd]
      exact hrd
  · obtain ⟨_, _, he⟩ := hc.fields
    rw [he]
    exact hkeep.2


/-! ## Registers with a shadow -/

/-- The registers that a write of shadow fields may touch beside its own have no shadow fields. -/
def ShdApart (a : Nat) : Bool := (rowOfKey a).all (fun r => r.shd == 0)

theorem shdApart_side : ∀ a ∈ [Reg.INJ_STAT, Reg.INJ_EADDR, Reg.INJ_CNT, Reg.SYS_SHDDIRTY, Reg.LE_CHECKSTAT, Reg.SYS_SHDLOCKWR,
    Reg.TIM_CDCDROP, Reg.FLT_DROP, Reg.HST_RSVWR, Reg.CW_STAT], ShdApart a = true := by decide +kernel

theorem shdApart_covf : ∀ i : Fin 32, ShdApart (0x340 + i) = true := by decide +kernel

section
variable {k : Nat} {r : RegRow} (hr : rowOfKey k = some r) (hd : r.shd ≠ 0)
include hr hd

theorem ne_of_shdApart {a : Nat} (h : ShdApart a = true) : k ≠ a := by
  rintro rfl
  rw [ShdApart, hr] at h
  exact hd (of_decide_eq_true h)

theorem sideReg_of_shd : sideReg k = false := by
  have h : ∀ a, a ∈ [Reg.INJ_STAT, Reg.INJ_EADDR, Reg.INJ_CNT, Reg.SYS_SHDDIRTY, Reg.LE_CHECKSTAT, Reg.SYS_SHDLOCKWR,
    Reg.TIM_CDCDROP, Reg.FLT_DROP, Reg.HST_RSVWR, Reg.CW_STAT] → k ≠ a := fun a ha => ne_of_shdApart hr hd (shdApart_side a ha)
  refine sideReg_eq_false.mpr ⟨h _ (by simp [Reg.TIM_CDCDROP]), ?_, h _ (by simp [Reg.FLT_DROP]),
    h _ (by simp [Reg.HST_RSVWR]), h _ (by simp [Reg.CW_STAT])⟩
  by_contra hc
  obtain ⟨h1, h2⟩ := not_or.mp hc
  exact ne_of_shdApart hr hd (shdApart_covf ⟨k - 0x340, by omega⟩) (by simp only; omega)

theorem not_shdSide_of_shd : ¬ shdSide k := by
  have h : ∀ a, a ∈ [Reg.INJ_STAT, Reg.INJ_EADDR, Reg.INJ_CNT, Reg.SYS_SHDDIRTY, Reg.LE_CHECKSTAT, Reg.SYS_SHDLOCKWR,
    Reg.TIM_CDCDROP, Reg.FLT_DROP, Reg.HST_RSVWR, Reg.CW_STAT] → k ≠ a := fun a ha => ne_of_shdApart hr hd (shdApart_side a ha)
  rintro ((h1 | h1 | h1) | h1 | h1)
  · exact h _ (by simp) h1
  · exact h _ (by simp) h1
  · exact h _ (by simp) h1
  · exact h _ (by simp) h1
  · exact h _ (by simp) h1

/-- A write of a register with shadow fields alone stores into the shadow, where no lock refuses it. -/
theorem State.storeByType_shd (s : State) (v : Word) (hrw : r.rw = 0) (hw1 : r.w1c = 0) (hctr : r.ctr = []) :
    s.storeByType true k v = s.shdWrite k v (word r.shd) := by
  have hw : r.written (s.rd k) v = s.rd k := by
    rw [RegRow.written, hctr, hrw, hw1]
    have hv : v &&& word 0 = 0 := BitVec.and_zero
    have hm (w : Word) : w &&& BitVec.allOnes 32 = w := BitVec.and_allOnes
    rw [hv, show ~~~word 0 = BitVec.allOnes 32 from rfl, show ~~~(0 : Word) = BitVec.allOnes 32 from rfl]
    exact (hm _).trans (BitVec.or_zero.trans (hm _))
  simp only [State.storeByType, hr, hw, if_true, if_neg hd]

theorem State.writeKey_shd (s : State) (p : Port) (v : Word) (hrw : r.rw = 0) (hw1 : r.w1c = 0) (hctr : r.ctr = [])
    (hf : followsPair k = false) (hw : s.writeFixed p k v = none) :
    s.writeKey p k v = (if !s.shdLocked k && !ownCal k then (s.shdWrite k v (word r.shd)).forward (.write k v)
      else s.shdWrite k v (word r.shd)) := by
  have hd' : (r.shd != 0) = true := bne_iff_ne.mpr hd
  simp [State.writeKey, hf, hw, hr, hd', State.storeByType_shd hr hd s v hrw hw1 hctr]

end

theorem State.ShadowSet.forward {a : Nat} {v : Word} {s t : State} (h : State.ShadowSet a v s t) (x : FwdItem) :
    State.ShadowSet a v s (t.forward x) := by
  have hf : State.Frame (fun _ _ => False) (fun _ => False) t (t.forward x) := t.frame_forward x
  exact h.then hf.shadow hf.mem fun b _ hs => hf.rd (fun _ _ h => h) hs

theorem State.ShadowSet.counted {a : Nat} {v : Word} {s t u : State} (h : State.ShadowSet a v s t) (hc : u.Counted t) :
    State.ShadowSet a v s u := by
  obtain ⟨_, _, he⟩ := hc.fields
  exact h.then (by rw [he]) (by rw [he]) fun b _ hs => hc.rd hs

/-- Settles O8: each bit by its access type from the tables, each shadow field into the shadow. -/
theorem registerWritesByAccessType : Obligations.RegisterWritesByAccessType := by
  refine ⟨fun p a v s hrun hm ha hfw k hk r hr hd hf hw hs => ?_,
    fun p a v s hrun hm ha hfw k hk r hr hd hrw hw1 hctr hf hw => ⟨fun hl hcal => ?_, fun hl => ?_⟩⟩
  · obtain ⟨hrd, hkeep, htime, hunit, hpend⟩ :=
      s.hostWrite_byType p a.toNat k v r (State.fabricUp_runs s hrun) hm ha hfw hk hr hf hw hd hs
    refine ⟨_, rfl, fun hc i hi => ?_, fun f hfm => ?_, hkeep, htime, hunit, hpend⟩
    · rw [State.bit, State.bit, hrd]
      exact RegRow.written_bit hr hc _ _ hi
    · rw [State.fld, State.fld, hrd]
      exact RegRow.written_counter hr _ _ hfm
  · have hc := s.hostWrite_counted p a.toNat k v r (State.fabricUp_runs s hrun) hm ha hfw hk hr
    rw [State.writeKey_shd hr hd s p _ hrw hw1 hctr hf hw, State.shdWrite, if_neg (ne_true_of_eq_false hl)] at hc
    have hput := s.shdPut_set k (v &&& word r.known) (word r.shd) hcal
    have hset : State.ShadowSet k ((s.srd k &&& ~~~word r.shd) ||| (v &&& word r.known &&& word r.shd)) s (s.hostWrite p a.toNat v) := by
      split at hc
      · exact (hput.forward _).counted hc
      · exact hput.counted hc
    exact ⟨_, rfl, hset.same, hset.regs k (not_shdSide_of_shd hr hd) (sideReg_of_shd hr hd), hset.other,
      fun b => by rw [State.mem8, hset.mem]; rfl⟩
  · have hc := s.hostWrite_counted p a.toNat k v r (State.fabricUp_runs s hrun) hm ha hfw hk hr
    rw [State.writeKey_shd hr hd s p _ hrw hw1 hctr hf hw, State.shdWrite, if_pos hl, hl,
      Bool.not_true, Bool.false_and, if_neg Bool.false_ne_true] at hc
    refine ⟨_, rfl, ?_, hc.raised (.of (List.Subset.refl _) rfl),
      hc.keeps (((Keeps.refl s _).bump _ _ _ List.mem_cons_self).raise (by decide))⟩
    rw [State.fld_eq, hc.rd (by decide), State.rd_raise _ _ _ _ _ (by decide) (by decide) (by decide), State.rd_bump_same]
    exact fieldOf_setField_min _ _ _ _ (by decide)

end Sys2Proof.Machine
end

section
/-!
PROOFS. The schedule check and the entries of the schedule (O25).
-/

namespace Sys2Proof.Machine

/-! ## LE_CHECK -/

/-- What LE_CHECK does while no check runs. -/
theorem State.leCheckWrite_idle (s : State) (v : Word) (hv : bitOf v 31 = true) (hb : s.bit Reg.LE_STAT 17 = false) :
    (s.leCheckWrite v).bit Reg.LE_STAT 17 = true ∧ (s.leCheckWrite v).bit Reg.LE_CHECKSTAT 31 = false ∧
      (s.leCheckWrite v).bit Reg.LE_CHECKSTAT 30 = false ∧
      (∃ c, (s.leCheckWrite v).check = some c ∧ c.load = loadWord (s.entries true) ∧
        c.err = ((s.schedFail (gaitCycles (s.sfldN Reg.TIM_GAIT 1 0))).map (·.err)).getD 0) ∧
      Keeps s (s.leCheckWrite v) [Reg.LE_STAT, Reg.LE_CHECKSTAT] := by
  unfold State.leCheckWrite
  rw [if_pos (by rw [hv, hb]; decide)]
  extract_lets len f c u
  have hu : Keeps s u [Reg.LE_STAT, Reg.LE_CHECKSTAT] := Keeps.of (regsKept_refl _ _) rfl rfl
  refine ⟨?_, ?_, State.bit_setBit _ _ _ _ (by decide), ⟨c, rfl, rfl, rfl⟩,
    ((hu.setBit _ _ (by decide)).setBit _ _ (by decide)).setBit _ _ (by decide)⟩
  · rw [State.bit, State.rd_setBit_ne _ _ _ _ _ (by decide), State.rd_setBit_ne _ _ _ _ _ (by decide)]
    exact State.bit_setBit _ _ _ _ (by decide)
  · rw [State.bit, State.rd_setBit_same, bitOf_setField_bit _ _ _ _ (by decide), if_neg (by decide)]
    exact State.bit_setBit _ _ _ _ (by decide)

theorem State.leCheckWrite_busy (s : State) (v : Word) (hb : s.bit Reg.LE_STAT 17 = true) : s.leCheckWrite v = s :=
  if_neg (by rw [hb]; simp)

theorem exec_leCheck_counted (p : Port) (v : Word) (s : State) (hr : s.runs = true) :
    ∃ t, exec (.leCheck p v) s = .next t ∧ t.Counted (s.leCheckWrite (withBit v 31 &&& word 0x80000000)) :=
  ⟨_, rfl, State.hostWrite_fixed_counted s p _ _ _ _ _ (State.fabricUp_runs s hr) (State.mapped_runs s _ hr (Or.inr (by decide)))
    (by decide) (by cases p <;> rfl) rfl rfl (by decide) (by decide) (by decide) rfl⟩

/-- The completion of a check. -/
theorem execLeCheckDone_shows (s : State) (c : SchedCheck) (hc : s.check = some c) (ha : s.awake = true) :
    Completes .leCheckDone s (fun t =>
      t.check = none ∧ t.bit Reg.LE_STAT 17 = false ∧ t.bit Reg.LE_CHECKSTAT 31 = true ∧ t.fld Reg.LE_CHECKSTAT 23 16 = c.err % 256 ∧
      t.rd Reg.LE_CHECKLOAD = c.load ∧ (c.err = 0 → t.bit Reg.LE_SCHERR 31 = false) ∧ (c.err ≠ 0 → t.rd Reg.LE_SCHERR = c.scherr) ∧
      Keeps s t [Reg.LE_STAT, Reg.LE_CHECKSTAT, Reg.LE_CHECKLOAD, Reg.LE_SCHERR]) := by
  have he : exec .leCheckDone s = execLeCheckDone s := rfl
  rw [Completes, he, execLeCheckDone, hc]
  simp only [ha, Bool.not_true, Bool.false_eq_true, if_false]
  refine ⟨_, rfl, ?_⟩
  generalize hw : ({ s with check := none } : State) = w
  have hk : Keeps s w [Reg.LE_STAT, Reg.LE_CHECKSTAT, Reg.LE_CHECKLOAD, Reg.LE_SCHERR] := by
    rw [← hw]
    exact Keeps.of (regsKept_refl _ _) rfl rfl
  have hn : w.check = none := by rw [← hw]
  clear hw
  have hd : Keeps s ((((w.setBit Reg.LE_STAT 17 false).put Reg.LE_CHECKSTAT 23 16 c.err).setBit Reg.LE_CHECKSTAT 31 true).wr
      Reg.LE_CHECKLOAD c.load) [Reg.LE_STAT, Reg.LE_CHECKSTAT, Reg.LE_CHECKLOAD, Reg.LE_SCHERR] :=
    (((hk.setBit _ _ (by decide)).put _ _ _ (by decide)).setBit _ _ (by decide)).wr _ (by decide)
  have hstat : bitOf (setField (w.rd Reg.LE_STAT) 17 17 (b2n false)) 17 = false := bitOf_setBit _ _ _ (by decide)
  have hdone (x : Word) : bitOf (setField (setField x 23 16 c.err) 31 31 (b2n true)) 31 = true := bitOf_setBit _ _ _ (by decide)
  have herr (x : Word) : fieldOf (setField (setField x 23 16 c.err) 31 31 (b2n true)) 23 16 = c.err % 256 := by
    rw [fieldOf_setField_ne _ _ _ _ _ _ (by decide) (by decide), fieldOf_setField _ _ _ _ (by decide)]
    rfl
  generalize hx : (((w.setBit Reg.LE_STAT 17 false).put Reg.LE_CHECKSTAT 23 16 c.err).setBit Reg.LE_CHECKSTAT 31 true).wr
      Reg.LE_CHECKLOAD c.load = x at hd ⊢
  have h1 : x.rd Reg.LE_STAT = setField (w.rd Reg.LE_STAT) 17 17 (b2n false) := by
    rw [← hx, State.rd_wr_ne _ _ _ _ (by decide), State.rd_setBit_ne _ _ _ _ _ (by decide), State.rd_put_ne _ _ _ _ _ _ (by decide),
      State.rd_setBit_same]
  have h2 : x.rd Reg.LE_CHECKSTAT = setField (setField (w.rd Reg.LE_CHECKSTAT) 23 16 c.err) 31 31 (b2n true) := by
    rw [← hx, State.rd_wr_ne _ _ _ _ (by decide), State.rd_setBit_same, State.rd_put_same, State.rd_setBit_ne _ _ _ _ _ (by decide)]
  have h3 : x.rd Reg.LE_CHECKLOAD = c.load := by rw [← hx, State.rd_wr_same]
  have h4 : x.check = none := by
    rw [← hx]
    exact hn
  clear hx
  by_cases h0 : c.err = 0
  · rw [if_pos h0]
    have hr {a : Nat} (h : Reg.LE_SCHERR ≠ a) : (x.setBit Reg.LE_SCHERR 31 false).rd a = x.rd a := State.rd_setBit_ne _ _ _ _ _ h
    refine ⟨h4, ?_, ?_, ?_, ?_, fun _ => State.bit_setBit _ _ _ _ (by decide), fun h => absurd h0 h, hd.setBit _ _ (by decide)⟩
    · rw [State.bit, hr (by decide), h1, hstat]
    · rw [State.bit, hr (by decide), h2, hdone]
    · rw [State.fld, hr (by decide), h2, herr]
    · rw [hr (by decide), h3]
  · rw [if_neg h0]
    have hr {a : Nat} (h : Reg.LE_SCHERR ≠ a) : (x.wr Reg.LE_SCHERR c.scherr).rd a = x.rd a := State.rd_wr_ne _ _ _ _ h
    refine ⟨h4, ?_, ?_, ?_, ?_, fun h => absurd h h0, fun _ => State.rd_wr_same _ _ _, hd.wr _ (by decide)⟩
    · rw [State.bit, hr (by decide), h1, hstat]
    · rw [State.bit, hr (by decide), h2, hdone]
    · rw [State.fld, hr (by decide), h2, herr]
    · rw [hr (by decide), h3]

/-! ## LE_SENT1 -/

/-- The row of word 1 of the schedule's entries. -/
def sent1Row : RegRow := ⟨0x10004, 8, 256, 4, 1, 0, 0, 0, 0xFFF0FFF, 0, 0xFFF0FFF, some 1, []⟩

theorem sent1_facts : ∀ e : Fin 256, rowOfKey (Reg.LE_SENT1 e) = some sent1Row ∧ groupOf (Reg.LE_SENT1 e) = some 1 ∧
    sideReg (Reg.LE_SENT1 e) = false := by decide +kernel

theorem writeFixed_sent1 (s : State) (p : Port) (e : Fin 256) (v : Word) : s.writeFixed p (Reg.LE_SENT1 e) v = none := by
  have he := e.isLt
  have hb (a : Nat) : Reg.LE_SENT1 e ≠ bankKey p a := by
    unfold bankKey
    simp only [Reg.LE_SENT1]
    omega
  have hk : 0x10004 ≤ Reg.LE_SENT1 e ∧ Reg.LE_SENT1 e < 0x10804 := by
    simp only [Reg.LE_SENT1]
    omega
  generalize Reg.LE_SENT1 e = k at hb hk
  obtain ⟨h1, h2⟩ := hk
  have hw (lo hi : Nat) (h : hi ≤ 0x10004) : within k lo hi = false := by
    simp only [within, Bool.and_eq_false_iff, decide_eq_false_iff_not]
    omega
  have hn (a : Nat) (h : a < 0x10004) : k ≠ a := by omega
  simp (disch := decide) [State.writeFixed, hw, hb, hn]


/-- The bank of each requester for LE_SIDX is a register of its own. -/
theorem sidx_bank (p : Port) : sideReg (bankKey p Reg.LE_SIDX) = false ∧ ¬ shdSide (bankKey p Reg.LE_SIDX) ∧
    (∀ i, ¬ eccReadReg (bankKey p Reg.LE_SIDX) i) ∧ ∀ e : Fin 256, Reg.LE_SENT1 e ≠ bankKey p Reg.LE_SIDX := by
  have hb : bankKey p Reg.LE_SIDX % 0x10000 = 0x2020 ∧ 0x30000 ≤ bankKey p Reg.LE_SIDX := by cases p <;> decide
  have hs : sideReg (bankKey p Reg.LE_SIDX) = false := by cases p <;> rfl
  generalize bankKey p Reg.LE_SIDX = a at hb hs ⊢
  refine ⟨hs, ?_, fun i => ?_, fun e => ?_⟩
  · simp only [shdSide, injReg, Reg.INJ_STAT, Reg.INJ_EADDR, Reg.INJ_CNT, Reg.SYS_SHDDIRTY, Reg.LE_CHECKSTAT]
    omega
  · simp only [eccReadReg, eccNoteReg, eccReg, stageReg, phaseReg, Reg.FLT_ECCCNT, Reg.FLT_ECCINFO, Reg.FLT_ECCADDR, Reg.ST_STAT,
      Reg.PHS_STAT, Reg.PHS_CAPREQ, Reg.SHF_FTRUN]
    rintro (h | ⟨k, h⟩)
    · omega
    · omega
  · have := e.isLt
    simp only [Reg.LE_SENT1]
    omega

theorem State.keyOf_sent1 (s : State) (p : Port) {e : Fin 256} (he : s.bankN p Reg.LE_SIDX = e) :
    s.keyOf p sent1Addr = some (Reg.LE_SENT1 e) := by
  rw [show s.keyOf p sent1Addr = some (0x10000 + 8 * s.bankN p Reg.LE_SIDX + 4) from rfl, he, Reg.LE_SENT1]
  congr 1
  omega

theorem State.readNow_sent1 (s : State) (p : Port) {e : Fin 256} (he : s.bankN p Reg.LE_SIDX = e) :
    s.readNow p sent1Addr = s.readStored p (Reg.LE_SENT1 e) := by
  have h : s.readNow p sent1Addr = (match s.keyOf p sent1Addr with | some k => s.readStored p k | none => (0, s)) := rfl
  rw [h, s.keyOf_sent1 p he]

theorem sent1_view (w v : Word) : ((w &&& ~~~word sent1Row.shd) ||| (v &&& word sent1Row.shd)) &&& word sent1Row.known = v &&& 0x0FFF0FFF := by
  refine BitVec.eq_of_getLsbD_eq fun i hi => ?_
  simp only [show word sent1Row.shd = 0x0FFF0FFF from rfl, show word sent1Row.known = 0x0FFF0FFF from rfl, BitVec.getLsbD_and,
    BitVec.getLsbD_or, BitVec.getLsbD_not, hi, decide_true, Bool.true_and]
  cases w.getLsbD i <;> cases v.getLsbD i <;> cases BitVec.getLsbD (0x0FFF0FFF : Word) i <;> rfl

/-- A read of an entry's word 1 as the view selects it, with the errors it meets. -/
theorem State.readStored_sent1 (s : State) (p : Port) (e : Fin 256) :
    (s.readStored p (Reg.LE_SENT1 e)).1 =
      (if s.bankN p Reg.LE_SVIEW = 0 then s.srd (Reg.LE_SENT1 e) else s.rd (Reg.LE_SENT1 e)) &&& 0x0FFF0FFF ∧
    State.Frame eccReadReg (· = 101) s (s.readStored p (Reg.LE_SENT1 e)).2 := by
  have hv : s.viewsShadow p (Reg.LE_SENT1 e) = (s.bankN p Reg.LE_SVIEW == 0) := by
    have he := e.isLt
    refine if_pos ?_
    simp only [within, Reg.LE_SENT1, Bool.and_eq_true, decide_eq_true_eq]
    omega
  rw [State.readStored, (sent1_facts e).1]
  simp only [hv]
  refine ⟨?_, ?_⟩
  · have hm (w : Word) : w &&& ~~~word sent1Row.wo = w := (congrArg (w &&& ·) (show ~~~word sent1Row.wo = BitVec.allOnes 32 from rfl)).trans
      BitVec.and_allOnes
    by_cases h : s.bankN p Reg.LE_SVIEW = 0
    · rw [if_pos (beq_iff_eq.mpr h), if_pos h, hm]
      exact sent1_view _ _
    · rw [if_neg (mt beq_iff_eq.mp h), if_neg h, hm]
      rfl
  · split
    · exact .ite (.refl s) (State.frame_eccTouch ..)
    · exact .refl s

/-- A step of LE_SIDX after an access. -/
theorem State.readEffect_sent1 (s : State) (p : Port) :
    s.readEffect p sent1Addr = s.wrN (bankKey p Reg.LE_SIDX) ((s.bankN p Reg.LE_SIDX + 1) % 256) := if_pos rfl

/-! ## The obligation -/

theorem sidx_step (s : State) (p : Port) (e : Fin 256) :
    (s.wrN (bankKey p Reg.LE_SIDX) ((e + 1) % 256)).bankN p Reg.LE_SIDX = (e + 1) % 256 := by
  rw [State.bankN, State.rdN, State.rd_wrN_same, word, BitVec.toNat_ofNat]
  omega

theorem sent1_stored (w v : Word) : (w &&& ~~~word sent1Row.shd) ||| (v &&& word sent1Row.known &&& word sent1Row.shd) =
    (w &&& 0xF000F000) ||| (v &&& 0x0FFF0FFF) := by
  rw [BitVec.and_assoc]
  rfl

theorem followsPair_sent1 : ∀ e : Fin 256, followsPair (Reg.LE_SENT1 e) = false := by decide +kernel

/-- A write of an entry's word 1 is the register's own action on the bits that exist, and steps LE_SIDX. -/
theorem State.hostWrite_sent1 (s : State) (p : Port) (w : Word) {e : Fin 256} (he : s.bankN p Reg.LE_SIDX = e) (hr : s.runs = true) :
    ∃ u : State, s.hostWrite p sent1Addr w = u.wrN (bankKey p Reg.LE_SIDX) ((u.bankN p Reg.LE_SIDX + 1) % 256) ∧
      u.Counted (s.writeKey p (Reg.LE_SENT1 e) (w &&& word sent1Row.known)) := by
  have hk : s.keyOf p sent1Addr = some (Reg.LE_SENT1 e) := s.keyOf_sent1 p he
  have hm : s.mapped sent1Addr = true := State.mapped_runs s _ hr (Or.inr (by decide))
  have hkn : s.knownBits p sent1Addr = word sent1Row.known := by
    rw [State.knownBits, if_neg (by rw [hm]; decide), if_neg (by decide), if_neg (by decide), hk]
    simp only [(sent1_facts e).1]
  rw [State.hostWrite_fabric s p sent1Addr w (by decide) (by cases p <;> rfl), State.fabricWrite,
    if_neg (by rw [State.fabricUp_runs s hr]; decide)]
  simp only [hm, hk, hkn, show ¬ 0xFC00 ≤ sent1Addr by decide, Bool.not_true, decide_false, Bool.or_false, Bool.false_eq_true, if_false, if_true]
  refine ⟨_, State.readEffect_sent1 _ _, ?_⟩
  split
  · exact State.Counted.refl _
  · exact State.reservedWrite_counted _

theorem schedEntryAccess_read (s : State) (p : Port) {e : Fin 256} (hr : s.runs = true) (he : s.bankN p Reg.LE_SIDX = e) :
    Completes (.schedEntryAccess p none) s (fun t =>
      vget t.readData (portIdx p) 0 = (if s.bankN p Reg.LE_SVIEW = 0 then s.srd (Reg.LE_SENT1 e) else s.rd (Reg.LE_SENT1 e)) &&& 0x0FFF0FFF ∧
      t.bankN p Reg.LE_SIDX = (e + 1) % 256) := by
  obtain ⟨hval, hframe⟩ := s.readStored_sent1 p e
  obtain ⟨hs, -, hecc, -⟩ := sidx_bank p
  have hx : exec (.schedEntryAccess p none) s = .next (s.hostRead p sent1Addr) := rfl
  refine ⟨_, hx, ?_⟩
  rw [s.hostRead_plain p _ (State.fabricUp_runs s hr) (State.mapped_runs s _ hr (Or.inr (by decide))) (by decide) (by decide) (by decide),
    s.readNow_sent1 p he, State.readEffect_sent1]
  generalize s.readStored p (Reg.LE_SENT1 e) = x at hval hframe
  refine ⟨(vget_vset_same _ _ _ _ (by cases p <;> decide)).trans hval, ?_⟩
  have hidx : x.2.bankN p Reg.LE_SIDX = e := (congrArg BitVec.toNat (hframe.rd (fun i _ => hecc i) hs)).trans he
  rw [hidx]
  exact sidx_step _ _ _

theorem schedEntryAccess_write (s : State) (p : Port) (w : Word) {e : Fin 256} (hr : s.runs = true) (he : s.bankN p Reg.LE_SIDX = e)
    (hl : s.groupLocked 1 = false) : Completes (.schedEntryAccess p (some w)) s (fun t =>
      t.srd (Reg.LE_SENT1 e) = (s.srd (Reg.LE_SENT1 e) &&& 0xF000F000) ||| (w &&& 0x0FFF0FFF) ∧ t.bankN p Reg.LE_SIDX = (e + 1) % 256 ∧
      (∀ a, a ≠ Reg.LE_SENT1 e → t.srd a = s.srd a) ∧ t.rd (Reg.LE_SENT1 e) = s.rd (Reg.LE_SENT1 e)) := by
  obtain ⟨hs, hside, -, hne⟩ := sidx_bank p
  obtain ⟨hrow, hgrp, hsent⟩ := sent1_facts e
  obtain ⟨u, hu, hc⟩ := s.hostWrite_sent1 p w he hr
  have hlock : s.shdLocked (Reg.LE_SENT1 e) = false := by
    rw [State.shdLocked, hgrp]
    exact hl
  have hlt : Reg.LE_SENT1 e < 0x14000 := by
    have := e.isLt
    simp only [Reg.LE_SENT1]
    omega
  rw [State.writeKey_shd hrow (by decide) s p _ rfl rfl rfl (followsPair_sent1 e) (writeFixed_sent1 s p e _), State.shdWrite,
    if_neg (ne_true_of_eq_false hlock)] at hc
  have hput := s.shdPut_set (Reg.LE_SENT1 e) (w &&& word sent1Row.known) (word sent1Row.shd) (.inl hlt)
  have hset : State.ShadowSet (Reg.LE_SENT1 e) ((s.srd (Reg.LE_SENT1 e) &&& ~~~word sent1Row.shd) |||
      (w &&& word sent1Row.known &&& word sent1Row.shd)) s u := by
    split at hc
    · exact (hput.forward _).counted hc
    · exact hput.counted hc
  have hidx : u.bankN p Reg.LE_SIDX = e := (congrArg BitVec.toNat (hset.regs _ hside hs)).trans he
  refine ⟨_, congrArg Host.Outcome.next hu, ?_⟩
  rw [hidx]
  refine ⟨hset.same.trans (sent1_stored _ _), sidx_step _ _ _, hset.other, ?_⟩
  exact (State.rd_wrN_ne _ _ _ _ (hne e).symm).trans (hset.regs _ (not_shdSide_of_shd hrow (by decide)) hsent)

/-- Settles O25. -/
theorem scheduleCheckAndEntries : Obligations.ScheduleCheckAndEntries := by
  refine ⟨fun p v s hr => ⟨fun hb => ?_, fun hb => ?_, fun c hc => ?_⟩, fun p w e s hr he => ⟨?_, ?_⟩⟩
  · obtain ⟨t, ht, hc⟩ := exec_leCheck_counted p v s hr
    obtain ⟨h17, h31, h30, hx, hk⟩ := s.leCheckWrite_idle (withBit v 31 &&& word 0x80000000) (by
      rw [bitOf_and _ _ _ (by decide), bitOf_withBit _ _ _ (by decide), if_pos rfl]) hb
    obtain ⟨_, _, he⟩ := hc.fields
    refine ⟨t, ht, ?_, ?_, ?_, ?_, hc.keeps hk⟩
    · rw [State.bit, hc.rd (by decide)]
      exact h17
    · rw [State.bit, hc.rd (by decide)]
      exact h31
    · rw [State.bit, hc.rd (by decide)]
      exact h30
    · rw [he]
      exact hx
  · obtain ⟨t, ht, hc⟩ := exec_leCheck_counted p v s hr
    rw [State.leCheckWrite_busy _ _ hb] at hc
    obtain ⟨_, _, he⟩ := hc.fields
    exact ⟨t, ht, by rw [he], hc.keeps (.refl _ _)⟩
  · exact execLeCheckDone_shows s c hc (State.awake_of_runs hr)
  · exact schedEntryAccess_read s p hr he
  · exact schedEntryAccess_write s p w hr he

end Sys2Proof.Machine
end

section
/-!
PROOFS. The context window (O26).
-/

namespace Sys2Proof.Machine

/-! ## Items that arrive -/

/-- The item joins the write buffer, and nothing else changes. -/
structure State.CwTaken (s : State) (x : CwItem) (t : State) : Prop where
  queue : t.cwq = s.cwq ++ [x]
  keeps : Keeps s t []

/-- The item is refused with this code for context `c`. -/
structure State.CwRefused (s : State) (c code : Nat) (t : State) : Prop where
  queue : t.cwq = s.cwq
  ref : t.bit Reg.CW_STAT 30 = true
  code : t.fld Reg.CW_STAT 27 24 = code
  ctx : t.fld Reg.CW_STAT 23 16 = c
  count : t.fld Reg.CW_REFCNT 15 0 = min (s.fld Reg.CW_REFCNT 15 0 + 1) 0xFFFF
  keeps : Keeps s t [Reg.CW_REFCNT]

/-- What a count of reserved bits leaves as it is. -/
theorem State.rd_reservedWrite (s : State) {a : Nat} (h : a ≠ Reg.HST_RSVWR) (h1 : a ≠ 0x150) (h2 : a < 0x340 ∨ 0x360 ≤ a) :
    s.reservedWrite.rd a = s.rd a := by
  rw [State.reservedWrite, State.rd_raise _ _ _ _ _ (by decide) h1 h2, State.rd_bump_ne _ _ _ _ _ _ h.symm]

theorem State.reservedWrite_cwq (s : State) : s.reservedWrite.cwq = s.cwq := State.raise_cwq _ _

section
variable {s t : State} {x : CwItem} {c code : Nat}

theorem State.CwTaken.reserved (h : s.CwTaken x t) : s.CwTaken x t.reservedWrite :=
  ⟨t.reservedWrite_cwq.trans h.queue, t.reservedWrite_counted.keeps h.keeps⟩

theorem State.CwRefused.reserved (h : s.CwRefused c code t) : s.CwRefused c code t.reservedWrite := by
  have hs : t.reservedWrite.rd Reg.CW_STAT = t.rd Reg.CW_STAT := t.rd_reservedWrite (by decide) (by decide) (by decide)
  have hc : t.reservedWrite.rd Reg.CW_REFCNT = t.rd Reg.CW_REFCNT := t.rd_reservedWrite (by decide) (by decide) (by decide)
  refine ⟨t.reservedWrite_cwq.trans h.queue, ?_, ?_, ?_, ?_, t.reservedWrite_counted.keeps h.keeps⟩
  · exact (congrArg (bitOf · 30) hs).trans h.ref
  · exact (congrArg (fieldOf · 27 24) hs).trans h.code
  · exact (congrArg (fieldOf · 23 16) hs).trans h.ctx
  · exact (congrArg (fieldOf · 15 0) hc).trans h.count

theorem State.cwRefuse_refused (s : State) {c code : Nat} (hc : c < 256) (hd : code < 16) : s.CwRefused c code (s.cwRefuse c code) := by
  have hs : (s.cwRefuse c code).rd Reg.CW_STAT =
      setField (setField (setField (s.rd Reg.CW_STAT) 30 30 (b2n true)) 27 24 code) 23 16 c := by
    rw [State.cwRefuse, State.rd_raise _ _ _ _ _ (by decide) (by decide) (by decide), State.rd_bump_ne _ _ _ _ _ _ (by decide),
      State.rd_put_same, State.rd_put_same, State.rd_setBit_same]
  have hr : (s.cwRefuse c code).rd Reg.CW_REFCNT = setField (s.rd Reg.CW_REFCNT) 15 0 (min (s.fld Reg.CW_REFCNT 15 0 + 1) 0xFFFF) := by
    rw [State.cwRefuse, State.rd_raise _ _ _ _ _ (by decide) (by decide) (by decide), State.rd_bump_same, State.fld,
      State.rd_put_ne _ _ _ _ _ _ (by decide), State.rd_put_ne _ _ _ _ _ _ (by decide), State.rd_setBit_ne _ _ _ _ _ (by decide)]
    rfl
  have hk : Keeps s (((s.setBit Reg.CW_STAT 30 true).put Reg.CW_STAT 27 24 code).put Reg.CW_STAT 23 16 c) [Reg.CW_REFCNT] := by
    have h : Keeps s (((s.setBit Reg.CW_STAT 30 true).put Reg.CW_STAT 27 24 code).put Reg.CW_STAT 23 16 c) [Reg.CW_STAT] :=
      (((Keeps.refl s _).setBit _ _ List.mem_cons_self).put _ _ _ List.mem_cons_self).put _ _ _ List.mem_cons_self
    exact ⟨fun a _ hb => h.1 a (by simpa using sideReg_cw hb) hb, h.2⟩
  refine ⟨State.raise_cwq _ _, ?_, ?_, ?_, ?_, (hk.bump _ _ _ List.mem_cons_self).raise (by decide)⟩
  · rw [State.bit, hs, bitOf_setField _ _ _ _ _ (by decide), if_neg (by decide), bitOf_setField _ _ _ _ _ (by decide), if_neg (by decide)]
    exact bitOf_setBit _ _ _ (by decide)
  · rw [State.fld, hs, fieldOf_setField_ne _ _ _ _ _ _ (by decide) (by decide)]
    exact fieldOf_setField_lt _ _ _ _ (by decide) hd
  · rw [State.fld, hs]
    exact fieldOf_setField_lt _ _ _ _ (by decide) hc
  · rw [State.fld, hr]
    exact fieldOf_setField_min _ _ _ _ (by decide)

theorem State.cwCount_keeps (s : State) (w : List Nat) : Keeps s s.cwCount w := by
  have h : Keeps s s.cwCount [Reg.CW_STAT] := (Keeps.refl s _).put _ _ _ List.mem_cons_self
  exact ⟨fun a _ hb => h.1 a (by simpa using sideReg_cw hb) hb, h.2⟩

/-- The refused item waits for no GFC. -/
theorem State.CwRefused.held (h : s.CwRefused c code t) : s.CwRefused c code (t.holdItems s) := by
  unfold State.holdItems
  split
  · have hd : t.cwq.drop s.cwq.length = [] := by rw [h.queue, List.drop_length]
    rw [hd, List.foldl_nil]
    have hs : (State.cwCount { t with cwq := s.cwq }).rd Reg.CW_STAT = setField (t.rd Reg.CW_STAT) 8 0 (State.cwWaiting { t with cwq := s.cwq }) :=
      State.rd_put_same ..
    have hc : (State.cwCount { t with cwq := s.cwq }).rd Reg.CW_REFCNT = t.rd Reg.CW_REFCNT := State.rd_put_ne _ _ _ _ _ _ (by decide)
    have hk : Keeps t ({ t with cwq := s.cwq } : State) [Reg.CW_REFCNT] := .of (regsKept_refl _ _) rfl rfl
    refine ⟨rfl, ?_, ?_, ?_, ?_, (h.keeps.trans hk).trans (State.cwCount_keeps _ _)⟩
    · rw [State.bit, hs, bitOf_setField _ _ _ _ _ (by decide), if_neg (by decide)]
      exact h.ref
    · rw [State.fld, hs, fieldOf_setField_ne _ _ _ _ _ _ (by decide) (by decide)]
      exact h.code
    · rw [State.fld, hs, fieldOf_setField_ne _ _ _ _ _ _ (by decide) (by decide)]
      exact h.ctx
    · exact (congrArg (fieldOf · 15 0) hc).trans h.count
  · exact h

end

/-- An item that arrives: it waits where the unit acts at once and there is room, and is refused otherwise. -/
theorem State.cwArrive_outcome (s : State) {c : Nat} (hc : c < 256) (x : CwItem) :
    (s.actsNow = true → s.cwWaiting < 256 → s.CwTaken x ((s.cwArrive c x).holdItems s)) ∧
      (s.notActiveInPair = false → 256 ≤ s.cwWaiting → s.CwRefused c 6 ((s.cwArrive c x).holdItems s)) ∧
      (s.notActiveInPair = true → s.CwRefused c 7 ((s.cwArrive c x).holdItems s)) := by
  refine ⟨fun ha hw => ?_, fun hn hw => ?_, fun hn => ?_⟩
  · obtain ⟨hn, hf⟩ := Bool.and_eq_true_iff.mp ha
    rw [State.cwArrive, if_neg (by rw [Bool.not_eq_true'] at hn; rw [hn]; decide), if_neg (by omega)]
    have hk : Keeps s ({ s with cwq := s.cwq ++ [x] } : State) [] := .of (regsKept_refl _ _) rfl rfl
    have hfw : (State.cwCount { s with cwq := s.cwq ++ [x] }).forwards = s.forwards := by
      have hr {a : Nat} (h : Reg.CW_STAT ≠ a) : (State.cwCount { s with cwq := s.cwq ++ [x] }).rd a = s.rd a := State.rd_put_ne _ _ _ _ _ _ h
      simp only [State.forwards, State.role, State.tdmUp, State.fld, hr (show Reg.CW_STAT ≠ Reg.PAIR_STAT by decide),
        hr (show Reg.CW_STAT ≠ Reg.PAIR_TDSTAT by decide), hr (show Reg.CW_STAT ≠ Reg.PAIR_SYNC by decide)]
      rfl
    rw [State.holdItems, if_neg (by rw [hfw]; simpa using hf)]
    exact ⟨rfl, hk.trans (State.cwCount_keeps _ _)⟩
  · rw [State.cwArrive, if_neg (by rw [hn]; decide), if_pos hw]
    exact (s.cwRefuse_refused hc (by decide)).held
  · rw [State.cwArrive, if_pos hn]
    exact (s.cwRefuse_refused hc (by decide)).held

/-! ## Writes of the window -/

/-- The registers of the window's commands and data. -/
def cwWindow (k : Nat) : Prop := k = Reg.CW_CMD ∨ ∃ j : Fin 64, k = 0x2500 + 4 * j

theorem cwWindow_data {a : Nat} (ha : a % 4 = 0) : cwWindow (0x2500 + a % 256) := by
  refine .inr ⟨⟨a % 256 / 4, by omega⟩, ?_⟩
  change 0x2500 + a % 256 = 0x2500 + 4 * (a % 256 / 4)
  omega

theorem cwWindow_facts {k : Nat} (h : cwWindow k) : k % 4 = 0 ∧ followsPair k = false ∧ bankedReg k = false ∧ fwServed k = false ∧
    (k == Reg.CW_CMD || within k 0x2500 0x2600) = true ∧ 0x2400 ≤ k ∧ k < 0x2600 := by
  have hj : ∀ j : Fin 64, (0x2500 + 4 * j.val) % 4 = 0 ∧ followsPair (0x2500 + 4 * j) = false ∧ bankedReg (0x2500 + 4 * j) = false ∧
      fwServed (0x2500 + 4 * j) = false ∧ ((0x2500 + 4 * j.val) == Reg.CW_CMD || within (0x2500 + 4 * j) 0x2500 0x2600) = true ∧
      0x2400 ≤ 0x2500 + 4 * j.val ∧ 0x2500 + 4 * j.val < 0x2600 := by decide +kernel
  obtain rfl | ⟨j, rfl⟩ := h
  · decide
  · exact hj j

theorem State.keyOf_cw (s : State) (p : Port) {k : Nat} (h : cwWindow k) : s.keyOf p k = some k := by
  obtain ⟨-, -, hb, -, -, hlo, hhi⟩ := cwWindow_facts h
  have hw (lo hi : Nat) (h : hi ≤ 0x2400 ∨ 0x2600 ≤ lo) : within k lo hi = false := by
    simp only [within, Bool.and_eq_false_iff, decide_eq_false_iff_not]
    omega
  simp (disch := decide) [State.keyOf, hw, hb]

/-- A write of the window is its item's arrival, with the hold of R173 and the count of reserved bits. -/
theorem State.hostWrite_cw (s : State) (p : Port) {k : Nat} (v : Word) (h : cwWindow k) (hr : s.runs = true) {c : Nat} {x : CwItem}
    (hw : s.writeFixed p k (v &&& s.knownBits p k) = some (s.cwArrive c x)) :
    s.hostWrite p k v = (s.cwArrive c x).holdItems s ∨ s.hostWrite p k v = ((s.cwArrive c x).holdItems s).reservedWrite := by
  obtain ⟨h4, hf, -, hsv, hcw, hlo, hhi⟩ := cwWindow_facts h
  have hm : s.mapped k = true := State.mapped_runs s _ hr (Or.inr (by
    simp only [within, Bool.and_eq_false_iff, decide_eq_false_iff_not]
    omega))
  have hkey : s.writeKey p k (v &&& s.knownBits p k) = (s.cwArrive c x).holdItems s := by
    rw [State.writeKey, if_neg (ne_true_of_eq_false hf), hw]
    exact if_pos (by simpa using hcw)
  have hsent : k ≠ sent1Addr := by
    simp only [sent1Addr]
    omega
  rw [State.hostWrite_fabric s p k v h4 (by rw [State.fwBusy, hsv, Bool.and_false, Bool.false_and]), State.fabricWrite,
    if_neg (by rw [State.fabricUp_runs s hr]; decide)]
  simp only [hm, s.keyOf_cw p h, hkey, show ¬ 0xFC00 ≤ k by omega, hsent, Bool.not_true, decide_false, Bool.or_false, Bool.false_eq_true, if_false]
  split
  · exact .inl rfl
  · exact .inr rfl

/-- A command that writes the window ends as its item's arrival does. -/
theorem State.cw_completes (s : State) (p : Port) {k : Nat} (v : Word) (h : cwWindow k) (hr : s.runs = true) {c : Nat} (hc : c < 256) {x : CwItem}
    (hw : s.writeFixed p k (v &&& s.knownBits p k) = some (s.cwArrive c x)) :
    (s.actsNow = true → s.cwWaiting < 256 → s.CwTaken x (s.hostWrite p k v)) ∧
      (s.notActiveInPair = false → 256 ≤ s.cwWaiting → s.CwRefused c 6 (s.hostWrite p k v)) ∧
      (s.notActiveInPair = true → s.CwRefused c 7 (s.hostWrite p k v)) := by
  obtain ⟨h1, h2, h3⟩ := s.cwArrive_outcome hc x
  obtain he | he := s.hostWrite_cw p v h hr hw
  · rw [he]
    exact ⟨h1, h2, h3⟩
  · rw [he]
    exact ⟨fun ha hw => (h1 ha hw).reserved, fun hn hw => (h2 hn hw).reserved, fun hn => (h3 hn).reserved⟩

theorem State.knownBits_cwCmd (s : State) (p : Port) (hr : s.runs = true) : s.knownBits p Reg.CW_CMD = word 0xF0000003 := by
  have hm : s.mapped Reg.CW_CMD = true := State.mapped_runs s _ hr (Or.inr (by decide))
  rw [State.knownBits, if_neg (by rw [hm]; decide), if_neg (by decide), if_neg (by decide), s.keyOf_cw p (.inl rfl)]
  rfl

theorem State.knownBits_cwData (s : State) (p : Port) (hr : s.runs = true) {k : Nat} (hk : within k 0x2500 0x2600 = true) :
    s.knownBits p k = cwKnown (s.cwOffset p k) := by
  have hb : 0x2500 ≤ k ∧ k < 0x2600 := by simpa [within] using hk
  have hm : s.mapped k = true := State.mapped_runs s _ hr (Or.inr (by
    simp only [within, Bool.and_eq_false_iff, decide_eq_false_iff_not]
    omega))
  have hn : (decide (0xFC00 ≤ k) || within k 0xF080 0xF100) = false := by
    simp only [within, Bool.or_eq_false_iff, Bool.and_eq_false_iff, decide_eq_false_iff_not]
    omega
  rw [State.knownBits, if_neg (by rw [hm]; decide), if_neg (ne_true_of_eq_false hn), if_pos hk]

theorem State.writeFixed_cwData (s : State) (p : Port) (v : Word) {k : Nat} (hk : within k 0x2500 0x2600 = true) :
    s.writeFixed p k v = some (s.cwArrive (s.cwSel p) (.data (s.cwSel p) (s.cwOffset p k) v)) := by
  have hb : 0x2500 ≤ k ∧ k < 0x2600 := by simpa [within] using hk
  have hn (a : Nat) (h : a < 0x2500) : k ≠ a := by omega
  have hw : within k 0x1000 0x2000 = false := by
    simp only [within, Bool.and_eq_false_iff, decide_eq_false_iff_not]
    omega
  simp (disch := decide) [State.writeFixed, hw, hn, hk]

theorem State.writeFixed_setstate (s : State) (p : Port) (w : Word) :
    s.writeFixed p Reg.CW_CMD (withOp w 1 &&& word 0xF0000003) = some (s.cwArrive (s.cwSel p) (.setState (s.cwSel p) (fieldOf w 1 0))) := by
  have hop : fieldOf (withOp w 1 &&& word 0xF0000003) 31 28 = 1 :=
    (fieldOf_and _ _ _ _ (by decide) (by decide)).trans (fieldOf_withOp _ _ (by decide))
  have hv : fieldOf (withOp w 1 &&& word 0xF0000003) 1 0 = fieldOf w 1 0 :=
    (fieldOf_and _ _ _ _ (by decide) (by decide)).trans (fieldOf_withOp_ne _ _ _ _ (by decide))
  have h : s.writeFixed p Reg.CW_CMD (withOp w 1 &&& word 0xF0000003) = some (s.cwCommand (s.cwSel p) (withOp w 1 &&& word 0xF0000003)) := rfl
  rw [h, State.cwCommand, hop, hv]
  rfl

theorem State.writeFixed_handover (s : State) (p : Port) (w : Word) :
    s.writeFixed p Reg.CW_CMD (withOp w 2 &&& word 0xF0000003) = some (s.cwArrive (s.cwSel p) (.handOver (s.cwSel p))) := by
  have hop : fieldOf (withOp w 2 &&& word 0xF0000003) 31 28 = 2 :=
    (fieldOf_and _ _ _ _ (by decide) (by decide)).trans (fieldOf_withOp _ _ (by decide))
  have h : s.writeFixed p Reg.CW_CMD (withOp w 2 &&& word 0xF0000003) = some (s.cwCommand (s.cwSel p) (withOp w 2 &&& word 0xF0000003)) := rfl
  rw [h, State.cwCommand, hop]
  rfl

/-- Settles O26. -/
theorem contextWindow : Obligations.ContextWindow := by
  intro p a v w c s hr hc o refused ha
  have hsel : s.cwSel p = c := hc
  have hj : cwWindow (0x2500 + a.toNat % 256) := cwWindow_data ha
  have hin : within (0x2500 + a.toNat % 256) 0x2500 0x2600 = true := by
    simp only [within, Bool.and_eq_true, decide_eq_true_eq]
    omega
  have hofs : s.cwOffset p (0x2500 + a.toNat % 256) = o := congrArg (0x100 * (s.bankN p Reg.CW_CTX / 256 % 2) + ·) (Nat.add_sub_cancel_left ..)
  have hdata : s.writeFixed p (0x2500 + a.toNat % 256) (v &&& s.knownBits p (0x2500 + a.toNat % 256)) =
      some (s.cwArrive c (.data c o (v &&& cwKnown o))) := by
    rw [s.knownBits_cwData p hr hin, s.writeFixed_cwData p _ hin, hsel, hofs]
  have hset : s.writeFixed p Reg.CW_CMD (withOp w 1 &&& s.knownBits p Reg.CW_CMD) = some (s.cwArrive c (.setState c (fieldOf w 1 0))) := by
    rw [s.knownBits_cwCmd p hr, s.writeFixed_setstate, hsel]
  have hhand : s.writeFixed p Reg.CW_CMD (withOp w 2 &&& s.knownBits p Reg.CW_CMD) = some (s.cwArrive c (.handOver c)) := by
    rw [s.knownBits_cwCmd p hr, s.writeFixed_handover, hsel]
  obtain ⟨d1, d2, d3⟩ := s.cw_completes p v hj hr c.isLt hdata
  obtain ⟨s1, s2, s3⟩ := s.cw_completes p (withOp w 1) (.inl rfl) hr c.isLt hset
  obtain ⟨h1, h2, h3⟩ := s.cw_completes p (withOp w 2) (.inl rfl) hr c.isLt hhand
  have taken {t : State} {x : CwItem} (h : s.CwTaken x t) : t.cwq = s.cwq ++ [x] ∧ Keeps s t [] := ⟨h.queue, h.keeps⟩
  have ref {t : State} {code : Nat} (h : s.CwRefused c code t) : refused code t := ⟨h.queue, h.ref, h.code, h.ctx, h.count, h.keeps⟩
  refine ⟨fun hn hq => ⟨⟨_, rfl, taken (d1 hn hq)⟩, ⟨_, rfl, taken (s1 hn hq)⟩, ⟨_, rfl, taken (h1 hn hq)⟩⟩,
    fun hn hq => ⟨⟨_, rfl, ref (d2 hn hq)⟩, ⟨_, rfl, ref (s2 hn hq)⟩, ⟨_, rfl, ref (h2 hn hq)⟩⟩,
    fun hn => ⟨⟨_, rfl, ref (d3 hn)⟩, ⟨_, rfl, ref (s3 hn)⟩, ⟨_, rfl, ref (h3 hn)⟩⟩⟩

end Sys2Proof.Machine
end

section
/-!
PROOFS. The trace units (O27).
-/

namespace Sys2Proof.Machine

/-! ## TRCu_CTL -/

/-- The row of the control registers of the trace units. -/
def trcCtlRow : RegRow := ⟨0x2600, 0x40, 8, 4, 1, 0, 0x18FF0F30, 0, 0, 0xE0000000, 0xF8FF0F30, none, []⟩

theorem trcCtl_facts : ∀ u : Fin 8, directReg (Reg.TRC_CTL u) = true ∧ rowOfKey (Reg.TRC_CTL u) = some trcCtlRow ∧
    followsPair (Reg.TRC_CTL u) = false ∧ Reg.TRC_CTL u ≠ Reg.CW_CMD ∧ within (Reg.TRC_CTL u) 0x2500 0x2600 = false := by
  decide +kernel

theorem writeFixed_trcCtl (s : State) (p : Port) (u : Fin 8) (v : Word) :
    s.writeFixed p (Reg.TRC_CTL u) v = some (s.trcCtlWrite u v) := by
  have hu := u.isLt
  have hk : Reg.TRC_CTL u = 0x2600 + 0x40 * u := rfl
  have hn (a : Nat) (h : a < 0x2600) : Reg.TRC_CTL u ≠ a := by omega
  have hi : (Reg.TRC_CTL u - 0x2600) / 0x40 = u := by omega
  have hm : Reg.TRC_CTL u % 0x40 = 0 := by omega
  have hw : within (Reg.TRC_CTL u) 0x1000 0x2000 = false ∧ within (Reg.TRC_CTL u) 0x2500 0x2600 = false ∧
      within (Reg.TRC_CTL u) 0x2600 0x2800 = true := by
    simp only [within, Bool.and_eq_false_iff, Bool.and_eq_true, decide_eq_false_iff_not, decide_eq_true_eq]
    omega
  generalize Reg.TRC_CTL u = k at hn hi hm hw
  simp (disch := decide) [State.writeFixed, hw, hn, hi, hm]

theorem State.trcCtl_counted (s : State) (p : Port) (u : Fin 8) (v : Word) (hr : s.runs = true) :
    (s.hostWrite p (Reg.TRC_CTL u) v).Counted (s.trcCtlWrite u (v &&& word 0xF8FF0F30)) := by
  obtain ⟨hd, hrow, hf, hc, hn⟩ := trcCtl_facts u
  exact State.hostWrite_direct hd s p v hr hrow hf hc hn (writeFixed_trcCtl s p u _)

/-- The unit's registers lie apart. -/
theorem trcRegs_apart : ∀ u : Fin 8, sideReg (Reg.TRC_STAT u) = false ∧ Reg.TRC_CTL u ≠ Reg.TRC_STAT u ∧
    Reg.TRC_STAT u ≠ Reg.TRC_LAST u ∧ sideReg (Reg.TRC_LAST u) = false := by decide +kernel

theorem trcStat_bounds : ∀ u : Fin 8, 0x360 ≤ Reg.TRC_STAT u ∧ Reg.TRC_STAT u ≠ 0x150 := by decide +kernel

theorem trcTrig_apart : ∀ u : Fin 8, Reg.TRC_TMONO_HI u ≠ Reg.TRC_LAST u ∧ Reg.TRC_TMONO_LO u ≠ Reg.TRC_LAST u ∧
    Reg.TRC_TGFC u ≠ Reg.TRC_LAST u ∧ Reg.TRC_TRIGPOS u ≠ Reg.TRC_LAST u ∧ 0x360 ≤ Reg.TRC_LAST u ∧ Reg.TRC_LAST u ≠ 0x150 := by decide +kernel

section
variable (s : State) (u : Fin 8)

theorem State.trcState_wrCtl (v : Word) : (s.wr (Reg.TRC_CTL u) v).trcState u = s.trcState u := by
  rw [State.trcState, State.fld, State.rd_wr_ne _ _ _ _ (trcRegs_apart u).2.1]
  rfl

theorem State.trcCtlWrite_arm (v : Word) (h : bitOf v 31 = true) : s.trcCtlWrite u v = (s.wr (Reg.TRC_CTL u) (v &&& 0x18FF0F30)).trcGoto u 1 :=
  if_pos h

/-- What STOP and FORCE leave to the unit's next tick. -/
def State.trcAsk (s : State) (u : Nat) (stop force : Bool) : State :=
  let s := if stop then s.onTr u (fun t => { t with stopReq := true }) else s
  if force then s.onTr u (fun t => { t with force := true }) else s

theorem State.trcAsk_frame (i : Nat) (stop force : Bool) : State.Frame (fun _ _ => False) (fun _ => False) s (s.trcAsk i stop force) := by
  unfold State.trcAsk
  extract_lets x
  have hx : State.Frame (fun _ _ => False) (fun _ => False) s x := .ite (.of rfl) (.refl s)
  exact .ite (hx.trans (.of rfl)) hx

theorem State.trcAsk_tr (stop force : Bool) : ((s.trcAsk u stop force).tr u).stopReq = (stop || (s.tr u).stopReq) ∧
    ((s.trcAsk u stop force).tr u).force = (force || (s.tr u).force) := by
  cases stop <;> cases force <;> simp [State.trcAsk, u.isLt]

theorem State.trcCtlWrite_ask (v : Word) (h : bitOf v 31 = false) : s.trcCtlWrite u v =
    (s.wr (Reg.TRC_CTL u) (v &&& 0x18FF0F30)).trcAsk u (bitOf v 30 && 2 ≤ s.trcState u && s.trcState u ≤ 4)
      (bitOf v 29 && s.trcState u = 3) := by
  rw [State.trcCtlWrite, if_neg (by rw [h]; decide), State.trcState_wrCtl]
  rfl

end

/-! ## A sample -/

/-- Four channels in one word, channel 0 in the low halfword. -/
def packHalves : List Int → Nat
  | [] => 0
  | x :: xs => code 16 x + 65536 * packHalves xs

theorem code_lt (x : Int) : code 16 x < 65536 := by
  have := Int.emod_lt_of_pos x (show (0 : Int) < 65536 by decide)
  unfold code
  omega

theorem foldl_zipIdx_packHalves (xs : List Int) (n a : Nat) :
    (xs.zipIdx n).foldl (fun a x => a + code 16 x.1 * 65536 ^ x.2) a = a + 65536 ^ n * packHalves xs := by
  induction xs generalizing n a with
  | nil => simp [packHalves]
  | cons x xs ih =>
    rw [List.zipIdx_cons, List.foldl_cons, ih, packHalves, Nat.pow_succ]
    ring

theorem packHalves_digit (xs : List Int) (c : Nat) : packHalves xs / 65536 ^ c % 65536 = code 16 (xs.getD c 0) := by
  induction xs generalizing c with
  | nil => simp [packHalves, code]
  | cons x xs ih =>
    have hx := code_lt x
    cases c with
    | zero =>
      simp only [packHalves, pow_zero, Nat.div_one, List.getD_cons_zero]
      omega
    | succ c =>
      rw [List.getD_cons_succ, ← ih c, pow_succ', ← Nat.div_div_eq_div_mul, packHalves]
      congr 2
      omega

theorem packHalves_word (xs : List Int) {c : Nat} (hc : c < 4) :
    (BitVec.ofNat 64 (packHalves xs)).toNat / 65536 ^ c % 65536 = code 16 (xs.getD c 0) := by
  rw [← packHalves_digit, BitVec.toNat_ofNat]
  generalize packHalves xs = m
  interval_cases c <;> omega

theorem State.traceSee_tr (s : State) (kind src : Nat) {v : Nat} (hv : v < 8) : ∃ b, (s.traceSee kind src).tr v = { s.tr v with seen := b } := by
  unfold State.traceSee
  generalize List.range 8 = l
  induction l generalizing s with
  | nil => exact ⟨_, rfl⟩
  | cons w l ih =>
    rw [List.foldl_cons]
    obtain ⟨b, hb⟩ := ih (if s.fld (Reg.TRC_TRIG w) 31 28 == kind && s.fld (Reg.TRC_TRIG w) 7 0 == src then
      s.onTr w (fun t => { t with seen := true }) else s)
    refine ⟨b, hb.trans ?_⟩
    split
    · by_cases h : w = v
      · rw [h, State.onTr_tr_same _ _ hv]
      · rw [State.onTr_tr_ne _ _ h]
    · rfl

theorem State.traceSee_frame (s : State) (kind src : Nat) : State.Frame (fun _ _ => False) (fun _ => False) s (s.traceSee kind src) :=
  .foldl _ _ (fun s w _ => .ite (.of (t := s.onTr w _) rfl) (.refl s)) s

theorem State.eccWrite_trc (s : State) (region addr : Nat) : (s.eccWrite region addr).trc = s.trc := by
  unfold State.eccWrite
  extract_lets a fs ec s1 b x ec2 s2
  split
  · simp [State.injected, s2, s1]
  · rfl

/-- The unit after the sample of tick `k`. -/
def TrcSt.sampled (t : TrcSt) (k : TraceTick) (post : Nat) (prim : Bool) : TrcSt :=
  { t with buf := cellsSet (fun _ => 0) t.buf t.next (BitVec.ofNat 64 (packHalves k.vals)), next := (t.next + 1) % 16384,
           count := min (t.count + 1) 16384, post := post, prim := prim, seen := false, force := false }

theorem State.traceSample_shows (s : State) (u : Fin 8) (k : TraceTick) : ∃ post prim seen,
    (s.traceSample u k).tr u = { (s.tr u).sampled k post prim with seen := seen } ∧
      (s.traceSample u k).rd (Reg.TRC_LAST u) = word (s.tr u).next := by
  unfold State.traceSample
  extract_lets st xs t i v r hit x y z w1 w2
  have hv : v = BitVec.ofNat 64 (packHalves k.vals) := by
    simp only [v, xs]
    rw [foldl_zipIdx_packHalves]
    simp
  set post := if hit then 0 else if st = 4 then t.post + 1 else t.post with hpost
  have hx : x.tr u = (s.tr u).sampled k post r.2 := by
    rw [State.onTr_tr_same _ _ u.isLt, TrcSt.sampled, ← hv]
  have hz : z.tr u = x.tr u := congrArg (vget · u TrcSt.initial) (x.eccWrite_trc ..)
  have hlast : z.rd (Reg.TRC_LAST u) = word (s.tr u).next := by
    rw [State.rd_setBit_ne _ _ _ _ _ (trcRegs_apart u).2.2.1, State.rd_wrN_same]
  have hgoto (n : Nat) : (z.trcGoto u n).rd (Reg.TRC_LAST u) = z.rd (Reg.TRC_LAST u) := State.rd_put_ne _ _ _ _ _ _ (trcRegs_apart u).2.2.1
  split
  · have hw : w2.tr u = z.tr u := rfl
    obtain ⟨h1, h2, h3, h4, h5, h6⟩ := trcTrig_apart u
    have hwl : w2.rd (Reg.TRC_LAST u) = z.rd (Reg.TRC_LAST u) := by
      rw [State.rd_wrN_ne _ _ _ _ h1, State.rd_wrN_ne _ _ _ _ h2, State.rd_wr_ne _ _ _ _ h3, State.rd_wrN_ne _ _ _ _ h4, hgoto]
    obtain ⟨b, hb⟩ := (w2.raise (E.TRACE_TRIG u)).traceSee_tr 7 u u.isLt
    have hr : (w2.raise (E.TRACE_TRIG u)).tr u = (s.tr u).sampled k post r.2 :=
      (congrArg (vget · u TrcSt.initial) (w2.raise_trc _)).trans (hw.trans (hz.trans hx))
    refine ⟨post, r.2, b, hb.trans (congrArg (fun t : TrcSt => { t with seen := b }) hr), ?_⟩
    refine ((State.traceSee_frame ..).rd (fun _ _ h => h) (trcRegs_apart u).2.2.2).trans ?_
    rw [State.rd_raise _ _ _ _ _ (by decide) h6 (.inr h5), hwl, hlast]
  · split
    · exact ⟨post, r.2, false, hz.trans hx, (hgoto 3).trans hlast⟩
    · exact ⟨post, r.2, false, hz.trans hx, hlast⟩

/-! ## TRCu_RDATA -/

theorem trcRdata_facts : ∀ u : Fin 8, directReg (Reg.TRC_RDATA u) = true ∧ wideWord (Reg.TRC_RDATA u) = false ∧
    wideRest (Reg.TRC_RDATA u) = [] ∧ Reg.TRC_RDATA u % 4 = 0 := by decide +kernel

/-- A read of the sample memory leaves the units as they are. -/
theorem State.eccRead_trc (s : State) (lo hi : Nat) : (s.eccRead 4 lo hi).trc = s.trc := by
  have htake : ∀ (t : State) (x : EccFlip), x.region = 4 → (t.eccTake x false).trc = t.trc := fun t x hx => by
    have hf : ∀ (y : State) k src a, (y.faultFrom k src 4 a false).trc = y.trc := fun y k src a =>
      (State.StageParts.sendFault (.refl y) _).same (·.trc) (fun _ _ _ _ _ _ _ _ => rfl)
    have hn : (t.eccNote x.region x.addr x.bits false).trc = t.trc := by
      unfold State.eccNote
      extract_lets a b c
      split <;> rfl
    by_cases h : x.bits.length < 2
    · rw [State.eccTake_cor _ _ _ h, hx, hf]
      rw [hx] at hn
      exact hn
    · rw [State.eccTake_unc _ _ _ (by omega), hx]
      rw [hx] at hn
      exact (hf ..).trans hn
  unfold State.eccRead
  have hl : ∀ x ∈ s.ecc.flips.filter (fun x => x.region == 4 && decide (lo ≤ x.addr) && decide (x.addr < hi)), x.region = 4 := fun x hx => by
    have := (List.mem_filter.mp hx).2
    simp only [Bool.and_eq_true, beq_iff_eq] at this
    exact this.1.1
  generalize s.ecc.flips.filter (fun x => x.region == 4 && decide (lo ≤ x.addr) && decide (x.addr < hi)) = l at hl
  induction l generalizing s with
  | nil => rfl
  | cons x l ih =>
    rw [List.foldl_cons, ih _ fun y hy => hl y (List.mem_cons_of_mem _ hy)]
    exact htake s x (hl x List.mem_cons_self)

theorem State.readNow_trcRdata (s : State) (p : Port) (u : Fin 8) : s.readNow p (Reg.TRC_RDATA u) =
    ((s.trcRead u (s.rd (bankKey p (Reg.TRC_RADDR u)))).1,
      (s.trcRead u (s.rd (bankKey p (Reg.TRC_RADDR u)))).2.wr (bankKey p (Reg.TRC_RADDR u)) (trcNext (s.rd (bankKey p (Reg.TRC_RADDR u))))) := by
  have hu := u.isLt
  have hk : Reg.TRC_RDATA u = 0x263C + 0x40 * u := rfl
  have hlo (a : Nat) (h : a < 0x263C) : Reg.TRC_RDATA u ≠ a := by omega
  have hhi (a : Nat) (h : 0x2800 ≤ a) : Reg.TRC_RDATA u ≠ a := by omega
  have hb : ¬ 0xFC00 ≤ Reg.TRC_RDATA u := by omega
  have hi : (Reg.TRC_RDATA u - 0x2600) / 0x40 = u := by omega
  have hm : Reg.TRC_RDATA u % 0x40 = 0x3C := by omega
  have hw : within (Reg.TRC_RDATA u) 0x20A0 0x20C0 = false ∧ within (Reg.TRC_RDATA u) 0x2440 0x2480 = false ∧
      within (Reg.TRC_RDATA u) 0x2500 0x2600 = false ∧ within (Reg.TRC_RDATA u) 0x2600 0x2800 = true := by
    simp only [within, Bool.and_eq_false_iff, Bool.and_eq_true, decide_eq_false_iff_not, decide_eq_true_eq]
    omega
  generalize Reg.TRC_RDATA u = k at hlo hhi hb hi hm hw
  have ht : s.readTime k = none := by simp (disch := decide) [State.readTime, hlo]
  have hc : s.readControl p k = some ((s.trcRead u (s.rd (bankKey p (Reg.TRC_RADDR u)))).1,
      (s.trcRead u (s.rd (bankKey p (Reg.TRC_RADDR u)))).2.wr (bankKey p (Reg.TRC_RADDR u)) (trcNext (s.rd (bankKey p (Reg.TRC_RADDR u))))) := by
    simp (disch := decide) [State.readControl, hw, hm, hi]
  rw [State.readNow, if_neg hb, ht, hc]
  rfl

theorem State.traceWord_lt (s : State) (u c i : Nat) : s.traceWord u c i < 65536 := by
  unfold State.traceWord
  extract_lets a
  split
  · decide
  · exact Nat.mod_lt _ (by decide)

theorem traceDataRead_shows (s : State) (p : Port) (u : Fin 8) (hr : s.runs = true) :
    Completes (.traceDataRead p u) s (fun t =>
      (vget t.readData (portIdx p) 0).toNat % 65536 =
        s.traceWord u (fieldOf (s.rd (bankKey p (Reg.TRC_RADDR u))) 15 14) (fieldOf (s.rd (bankKey p (Reg.TRC_RADDR u))) 13 0) ∧
      t.fld (bankKey p (Reg.TRC_RADDR u)) 13 0 = (s.fld (bankKey p (Reg.TRC_RADDR u)) 13 0 + 2) % 16384 ∧
      t.fld (bankKey p (Reg.TRC_RADDR u)) 15 14 = s.fld (bankKey p (Reg.TRC_RADDR u)) 15 14 ∧ t.trc = s.trc) := by
  obtain ⟨hd, hw, hrest, h4⟩ := trcRdata_facts u
  have hx : exec (.traceDataRead p u) s = .next (s.hostRead p (Reg.TRC_RDATA u)) := rfl
  have he (t : State) : t.readEffect p (Reg.TRC_RDATA u) = t := by
    have hu := u.isLt
    have h1 : Reg.TRC_RDATA u ≠ sent1Addr := by
      simp only [Reg.TRC_RDATA, sent1Addr]
      omega
    have h2 : within (Reg.TRC_RDATA u) 0x164 0x1E0 = false := by
      simp only [within, Reg.TRC_RDATA, Bool.and_eq_false_iff, decide_eq_false_iff_not]
      omega
    rw [State.readEffect, if_neg h1, h2, Bool.false_and, if_neg Bool.false_ne_true]
  refine ⟨_, hx, ?_⟩
  rw [s.hostRead_plain p _ (State.fabricUp_runs s hr) (mapped_direct hd s hr) h4 hw hrest, he, s.readNow_trcRdata]
  simp only [State.fld]
  generalize hk : bankKey p (Reg.TRC_RADDR u) = k
  generalize s.rd k = w
  have hrd (v : Vector Word 3) : ({ (s.trcRead u w).2.wr k (trcNext w) with readData := v } : State).rd k = trcNext w := State.rd_wr_same ..
  rw [hrd]
  refine ⟨?_, ?_, ?_, ?_⟩
  · rw [vget_vset_same _ _ _ _ (by cases p <;> decide)]
    have h1 := s.traceWord_lt u (fieldOf w 15 14) (fieldOf w 13 0)
    simp only [State.trcRead, word, BitVec.toNat_ofNat]
    omega
  · exact fieldOf_setField_lt _ _ _ _ (by decide) (Nat.mod_lt _ (by decide))
  · exact fieldOf_setField_ne _ _ _ _ _ _ (by decide) (by decide)
  · exact (State.eccRead_trc _ _ _).trans (State.eccRead_trc _ _ _)

/-! ## Ticks -/

section
variable (s : State) (u : Fin 8)

theorem execTraceTick_none (h : (s.tr u).ticks = []) : exec (.traceTick u) s = .next s := by
  have he : exec (.traceTick u) s = execTraceTick u s := rfl
  rw [he, execTraceTick, h]

/-- The unit has taken its oldest tick. -/
def State.tickTaken (s : State) (u : Nat) (rest : List TraceTick) : State := s.onTr u (fun t => { t with ticks := rest })

theorem execTraceTick_due {k : TraceTick} {rest : List TraceTick} (hr : s.runs = true) (h : (s.tr u).ticks = k :: rest)
    (h2 : 2 ≤ s.trcState u) (h4 : s.trcState u ≤ 4) : exec (.traceTick u) s = .next (
      if (s.tr u).stopReq then ((s.tickTaken u rest).trcGoto u 7).onTr u (fun t => { t with stopReq := false })
      else if s.trcState u = 4 && s.trcP u ≤ (s.tr u).post then s.tickTaken u rest
      else (s.tickTaken u rest).traceSample u k) := by
  have he : exec (.traceTick u) s = execTraceTick u s := rfl
  have ht : ((s.tickTaken u rest).tr u).stopReq = (s.tr u).stopReq ∧ ((s.tickTaken u rest).tr u).post = (s.tr u).post := by
    rw [State.tickTaken, State.onTr_tr_same _ _ u.isLt]
    exact ⟨rfl, rfl⟩
  rw [he, execTraceTick, h]
  simp only [hr, h2, h4, decide_true, Bool.and_self, if_true]
  have hp : (s.tickTaken u rest).trcP u = s.trcP u := rfl
  rw [← State.tickTaken, ht.1, ht.2, hp]
  split
  · rfl
  · split <;> rfl

theorem execTraceTick_stop {k : TraceTick} {rest : List TraceTick} (hr : s.runs = true) (h : (s.tr u).ticks = k :: rest)
    (h2 : 2 ≤ s.trcState u) (h4 : s.trcState u ≤ 4) (hs : (s.tr u).stopReq = true) : Completes (.traceTick u) s (fun t =>
      t.trcState u = 7 ∧ (t.tr u).stopReq = false ∧ (t.tr u).buf = (s.tr u).buf ∧ Keeps s t [Reg.TRC_STAT u]) := by
  rw [Completes, execTraceTick_due s u hr h h2 h4, if_pos hs]
  refine ⟨_, rfl, State.fld_put _ _ _ _ _ (by decide), ?_, ?_, ?_⟩
  · rw [State.onTr_tr_same _ _ u.isLt]
  · have htaken : (s.tickTaken u rest).tr u = { s.tr u with ticks := rest } := State.onTr_tr_same _ _ u.isLt
    rw [State.onTr_tr_same _ _ u.isLt]
    exact (congrArg TrcSt.buf htaken :)
  · have h1 : Keeps s (s.tickTaken u rest) [Reg.TRC_STAT u] := .of (regsKept_refl _ _) rfl rfl
    have h2 : Keeps s ((s.tickTaken u rest).trcGoto u 7) [Reg.TRC_STAT u] := h1.put _ _ _ List.mem_cons_self
    exact h2.trans (.of (regsKept_refl _ _) rfl rfl)

theorem execTraceTick_sample {k : TraceTick} {rest : List TraceTick} (hr : s.runs = true) (h : (s.tr u).ticks = k :: rest)
    (hs : (s.tr u).stopReq = false) (hst : s.trcState u = 2 ∨ s.trcState u = 3 ∨ (s.trcState u = 4 ∧ (s.tr u).post < s.trcP u)) :
    Completes (.traceTick u) s (fun t => (t.tr u).ticks = rest ∧
        (t.tr u).next = ((s.tr u).next + 1) % 16384 ∧ (t.tr u).count = min ((s.tr u).count + 1) 16384 ∧
        t.rdN (Reg.TRC_LAST u) = (s.tr u).next % 2 ^ 32 ∧
        (∀ i, i ≠ (s.tr u).next → cellsGet (fun _ => 0) (t.tr u).buf i = cellsGet (fun _ => 0) (s.tr u).buf i) ∧
        ∀ c < 4, (cellsGet (fun _ => 0) (t.tr u).buf (s.tr u).next).toNat / 65536 ^ c % 65536 = code 16 (k.vals.getD c 0)) := by
  have hn : (decide (s.trcState u = 4) && decide (s.trcP u ≤ (s.tr u).post)) = false := by
    simp only [Bool.and_eq_false_iff, decide_eq_false_iff_not]
    omega
  rw [Completes, execTraceTick_due s u hr h (by omega) (by omega), if_neg (ne_true_of_eq_false hs), if_neg (ne_true_of_eq_false hn)]
  obtain ⟨post, prim, seen, htr, hlast⟩ := (s.tickTaken u rest).traceSample_shows u k
  have htaken : (s.tickTaken u rest).tr u = { s.tr u with ticks := rest } := State.onTr_tr_same _ _ u.isLt
  rw [htaken] at htr hlast
  refine ⟨_, rfl, ?_⟩
  rw [htr]
  refine ⟨rfl, rfl, rfl, (congrArg BitVec.toNat hlast).trans (BitVec.toNat_ofNat _ _), fun i hi => cellsGet_set_ne _ _ _ _ hi.symm,
    fun c hc => ?_⟩
  have hget : cellsGet (fun _ => (0 : BitVec 64)) (cellsSet (fun _ => 0) (s.tr u).buf (s.tr u).next (BitVec.ofNat 64 (packHalves k.vals)))
      (s.tr u).next = BitVec.ofNat 64 (packHalves k.vals) := cellsGet_set_same _ _ _
  exact (congrArg (fun w => BitVec.toNat w / 65536 ^ c % 65536) hget).trans (packHalves_word _ hc)

theorem execTraceDone_shows (hr : s.runs = true) (h4 : s.trcState u = 4) (hp : s.trcP u ≤ (s.tr u).post) :
    Completes (.traceDone u) s (fun t => t.trcState u = 5 ∧ Raised s t (E.TRACE_DONE u) ∧ t.trc = s.trc ∧ Keeps s t [Reg.TRC_STAT u]) := by
  have he : exec (.traceDone u) s = execTraceDone u s := rfl
  rw [Completes, he, execTraceDone, if_pos (by simp [hr, h4, hp])]
  have h1 : Keeps s (s.trcGoto u 5) [Reg.TRC_STAT u] := (Keeps.refl s _).put _ _ _ List.mem_cons_self
  refine ⟨_, rfl, ?_, .of (List.Subset.refl _) rfl, State.raise_trc _ _, h1.raise (by decide)⟩
  obtain ⟨hlo, hne⟩ := trcStat_bounds u
  rw [State.trcState, State.fld, State.rd_raise _ _ _ _ _ (by decide) hne (.inr hlo)]
  exact State.fld_put _ _ _ _ _ (by decide)

end

/-! ## The obligation -/

theorem traceArm_shows (s : State) (p : Port) (u : Fin 8) (v : Word) (hr : s.runs = true) :
    Completes (.traceArm p u v) s (fun t => t.trcState u = 1 ∧ t.trc = s.trc ∧ Keeps s t [Reg.TRC_CTL u, Reg.TRC_STAT u]) := by
  have hc := s.trcCtl_counted p u (withBit v 31) hr
  rw [State.trcCtlWrite_arm _ _ _ (by rw [bitOf_and _ _ _ (by decide), bitOf_withBit _ _ _ (by decide), if_pos rfl])] at hc
  obtain ⟨_, _, he⟩ := hc.fields
  refine ⟨_, rfl, ?_, by rw [he]; rfl,
    hc.keeps (((Keeps.refl s _).wr _ List.mem_cons_self).put _ _ _ (List.mem_cons_of_mem _ List.mem_cons_self))⟩
  rw [State.trcState, State.fld, hc.rd (trcRegs_apart u).1]
  exact State.fld_put _ _ _ _ _ (by decide)

/-- What STOP and FORCE do to a unit that ARM does not start. -/
theorem traceAsk_shows (s : State) (p : Port) (u : Fin 8) (v : Word) (hr : s.runs = true) (hv : bitOf v 31 = false) :
    let t := s.hostWrite p (Reg.TRC_CTL u) v
    (t.tr u).stopReq = ((bitOf v 30 && 2 ≤ s.trcState u && s.trcState u ≤ 4) || (s.tr u).stopReq) ∧
      (t.tr u).force = ((bitOf v 29 && s.trcState u = 3) || (s.tr u).force) ∧ t.trcState u = s.trcState u ∧ Keeps s t [Reg.TRC_CTL u] := by
  intro t
  have hb (i : Nat) (h : (word 0xF8FF0F30).getLsbD i = true) : bitOf (v &&& word 0xF8FF0F30) i = bitOf v i := bitOf_and _ _ _ h
  have hc : t.Counted _ := s.trcCtl_counted p u v hr
  rw [State.trcCtlWrite_ask _ _ _ ((hb 31 (by decide)).trans hv), hb 30 (by decide), hb 29 (by decide)] at hc
  generalize hst : (bitOf v 30 && 2 ≤ s.trcState u && s.trcState u ≤ 4) = stop at hc ⊢
  generalize hfo : (bitOf v 29 && decide (s.trcState u = 3)) = force at hc ⊢
  generalize hx : s.wr (Reg.TRC_CTL u) (v &&& word 0xF8FF0F30 &&& 0x18FF0F30) = x at hc
  have hk : Keeps s x [Reg.TRC_CTL u] := by
    rw [← hx]
    exact (Keeps.refl s _).wr _ List.mem_cons_self
  have htr : x.tr u = s.tr u := by rw [← hx]; rfl
  have hs : x.trcState u = s.trcState u := by rw [← hx]; exact s.trcState_wrCtl u _
  have hf := x.trcAsk_frame u stop force
  obtain ⟨_, _, he⟩ := hc.fields
  obtain ⟨h1, h2⟩ := x.trcAsk_tr u stop force
  have ht : t.tr u = (x.trcAsk u stop force).tr u := by rw [he]; rfl
  refine ⟨by rw [ht, h1, htr], by rw [ht, h2, htr], ?_, hc.keeps (hk.trans (hf.keeps fun _ _ h => h.elim))⟩
  rw [State.trcState, State.fld, hc.rd (trcRegs_apart u).1, hf.rd (fun _ _ h => h) (trcRegs_apart u).1]
  exact hs

/-- Settles O27. -/
theorem traceUnits : Obligations.TraceUnits := by
  intro p u v s hr
  refine ⟨traceArm_shows s p u v hr, fun hv h2 h4 => ?_, fun hv h3 => ?_, fun ht => ?_, fun k rest ht h2 h4 hs => ?_,
    fun k rest ht hs hst => ?_, fun h4 hp => ?_, traceDataRead_shows s p u hr⟩
  · obtain ⟨a1, -, a3, a4⟩ := traceAsk_shows s p u (withBit v 30) hr (by rw [bitOf_withBit _ _ _ (by decide)]; exact hv)
    refine ⟨_, rfl, ?_, a3, a4⟩
    rw [a1, bitOf_withBit _ _ _ (by decide), if_pos rfl]
    simp [h2, h4]
  · obtain ⟨-, a2, a3, a4⟩ := traceAsk_shows s p u (withBit v 29) hr (by rw [bitOf_withBit _ _ _ (by decide)]; exact hv)
    refine ⟨_, rfl, ?_, a3.trans h3, a4⟩
    rw [a2, bitOf_withBit _ _ _ (by decide), if_pos rfl]
    simp [h3]
  · exact execTraceTick_none s u ht
  · exact execTraceTick_stop s u hr ht h2 h4 hs
  · exact execTraceTick_sample s u hr ht hs hst
  · exact execTraceDone_shows s u hr h4 hp

end Sys2Proof.Machine
end

section
/-!
PROOFS. The failure of a phase (O31).
-/

namespace Sys2Proof.Machine

/-! ## The counterexample to O31

Phase 0 of stage 0 fails while the stage's load lies above its derated limit, and crossing 3 of R44 holds 15 pulses of the source of phase
failures: one place is left (R42). STAGE_CAPREQ, which the failure raises first (R222), takes it, and PHASE_FAILED of the same source is
dropped. -/

/-- A pulse of the phase failures' source that waits in the crossing. -/
def respacePulse : EvPulse := { ev := E.RESPACE_DONE 1, detail := [], stamp := State.reset.stamp, inj := false, fwd := false }

/-- A running unit with an ACTIVE phase whose counter of cause 1 has reached N, and room for one pulse of the source. -/
def phaseCrowded : State :=
  let s : State := {
    State.reset with
    unit := { State.reset.unit with life := .running, txIdle := false }
    evq := List.replicate 15 respacePulse }
  let s := (s.setBit (Reg.PT_LOC 0) 31 true).setBit (Reg.PT_LOC 0) 30 true
  let s := (s.put (Reg.PT_STAT 0) 31 30 1).put (Reg.PT_PFCNT 0) 7 0 1
  ((s.put (Reg.ST_STAT 0) 31 30 2).put (Reg.ST_STAT 0) 23 16 1).put (Reg.ST_ILIM 0) 19 0 1

/-- The failure leaves no pulse of PHASE_FAILED in the crossing. -/
theorem phaseCrowded_lost : (phaseCrowded.failPhase 0 1).evq.any (fun p => p.ev == E.PHASE_FAILED 0) = false := by
  decide +kernel

/-- Refutes O31: a failure with the stage above its derated limit raises STAGE_CAPREQ first, which may take the last place of the source in
the crossing. -/
theorem not_spurAndPhaseFailure : ¬ Obligations.SpurAndPhaseFailure := by
  unfold Obligations.SpurAndPhaseFailure
  intro h
  obtain ⟨-, -, hfail⟩ := h 0 0 phaseCrowded (by decide +kernel)
  have hv : phaseCrowded.phValid 0 = true := by decide +kernel
  have hp : phaseCrowded.phState 0 = 1 := by decide +kernel
  have hs : phaseCrowded.stState (phaseCrowded.phStage 0) = 2 := by decide +kernel
  have hc : phaseCrowded.pfCause 0 = some 1 := by decide +kernel
  obtain ⟨t, ht, -, -, -, hr, -⟩ := hfail 1 hv hp hs hc
  have hx : exec (.phaseFailed 0) phaseCrowded = .next (phaseCrowded.failPhase 0 1) := by
    have he : exec (.phaseFailed 0) phaseCrowded = execPhaseFailed 0 phaseCrowded := rfl
    have hl : phaseCrowded.live = true := by decide +kernel
    have hif : (phaseCrowded.live && phaseCrowded.phValid 0 && phaseCrowded.phState 0 == 1 &&
        phaseCrowded.stState (phaseCrowded.phStage 0) == 2) = true := by rw [hl, hv, hp, hs]; rfl
    rw [he, execPhaseFailed]
    exact (if_pos hif).trans (by simp only [Fin.val_zero, hc])
  obtain rfl : phaseCrowded.failPhase 0 1 = t := by injection hx.symm.trans ht
  obtain ⟨p, hp, he⟩ := hr (by decide +kernel)
  exact List.any_eq_false.mp phaseCrowded_lost p hp (beq_iff_eq.mpr he)

end Sys2Proof.Machine
end

section
/-!
PROOFS. The paddock port (O16).
-/

namespace Sys2Proof.Machine

section
variable (s : State) (p : Port) (hp : s.inPaddock = true)

/-! ## BOOT_PDK_CTL and BOOT_PDK_DATA -/

include hp

theorem exec_paddockStart_counted (v : Word) :
    ∃ t, exec (.paddockStart p v) s = .next t ∧ t.Counted (s.pdkCtl p (withBit v 31 &&& word 0x80000007)) :=
  ⟨_, rfl, s.hostWrite_fixed_counted p _ _ _ _ _ (fabricUp_paddock s hp) (mapped_paddock s _ hp (.inr (by decide))) (by decide)
    (by cases p <;> rfl) rfl rfl (by decide) (by decide) (by decide) rfl⟩

theorem exec_paddockData_counted (v : Word) :
    ∃ t, exec (.paddockData p v) s = .next t ∧ t.Counted (s.pdkData p (v &&& word 0xFFFFFFFF)) :=
  ⟨_, rfl, s.hostWrite_fixed_counted p _ _ _ _ _ (fabricUp_paddock s hp) (mapped_paddock s _ hp (.inr (by decide))) (by decide)
    (by cases p <;> rfl) rfl rfl (by decide) (by decide) (by decide) rfl⟩

/-- A START of the port that holds the session, or of any port while none is open, opens a session. -/
theorem State.pdkCtl_open {v : Word} (hv : bitOf v 31 = true) (ho : s.boot.pdkOwner = none ∨ s.boot.pdkOwner = some p) :
    s.pdkCtl p v = s.pdkOpen p v := by
  rw [State.pdkCtl, hp, hv, if_pos (show (true && true) = true from rfl)]
  rcases ho with h | h
  · rw [h]
  · rw [h]
    exact if_pos rfl

theorem State.pdkCtl_busy {v : Word} (hv : bitOf v 31 = true) {q : Port} (ho : s.boot.pdkOwner = some q) (hq : q ≠ p) :
    s.pdkCtl p v = s.pdkErr 16 := by
  rw [State.pdkCtl, hp, hv, if_pos (show (true && true) = true from rfl), ho]
  exact if_neg hq

omit hp

theorem pdkStart_bits (v : Word) : bitOf (withBit v 31 &&& word 0x80000007) 31 = true ∧
    fieldOf (withBit v 31 &&& word 0x80000007) 1 0 = fieldOf v 1 0 :=
  ⟨(bitOf_and _ _ _ (by decide)).trans ((bitOf_withBit _ _ _ (by decide)).trans (if_pos rfl)),
    (fieldOf_and _ _ _ _ (by decide) (by decide)).trans (fieldOf_withBit _ _ _ _ (by decide) (by decide))⟩

/-- A session that opens. -/
theorem State.pdkOpen_shows (v : Word) : Keeps s (s.pdkOpen p v) [Reg.BOOT_PDK_CTL, Reg.BOOT_PDK_STAT] ∧
    (fieldOf v 1 0 < 2 → (s.pdkOpen p v).boot.pdkOwner = some p ∧ (s.pdkOpen p v).boot.pdkBytes = 0 ∧
      (s.pdkOpen p v).boot.pdkHdr = [] ∧ (s.pdkOpen p v).rd Reg.BOOT_PDK_STAT = 0) ∧
    (2 ≤ fieldOf v 1 0 → (s.pdkOpen p v).boot.pdkOwner = none ∧ (s.pdkOpen p v).fld Reg.BOOT_PDK_STAT 7 0 = 2) := by
  have h0 : Keeps s s.pdkEnd [Reg.BOOT_PDK_CTL, Reg.BOOT_PDK_STAT] := .of (regsKept_refl _ _) rfl rfl
  have h1 : Keeps s ((s.pdkEnd.wr Reg.BOOT_PDK_CTL (v &&& 0x80000007)).wrN Reg.BOOT_PDK_STAT 0) [Reg.BOOT_PDK_CTL, Reg.BOOT_PDK_STAT] :=
    (h0.wr _ (by decide)).wr _ (by decide)
  by_cases h : 2 ≤ fieldOf v 1 0
  · rw [State.pdkOpen, if_pos h]
    exact ⟨h1.put _ _ _ (by decide), fun hn => absurd hn (by omega), fun _ => ⟨rfl, State.fld_put _ _ _ _ _ (by decide)⟩⟩
  · rw [State.pdkOpen, if_neg h]
    have hstat : ((s.pdkEnd.wr Reg.BOOT_PDK_CTL (v &&& 0x80000007)).wrN Reg.BOOT_PDK_STAT 0).rd Reg.BOOT_PDK_STAT = 0 := State.rd_wrN_same _ _ _
    exact ⟨h1.trans (.of (regsKept_refl _ _) rfl rfl), fun _ => ⟨rfl, rfl, rfl, hstat⟩, fun hn => absurd hn h⟩

/-- A word of the container from the session's owner. -/
theorem State.pdkData_taken (v : Word) (hp : s.inPaddock = true) (ho : s.boot.pdkOwner = some p) (hf : s.pdkFull = false)
    (hb : s.boot.pdkBytes < s.rdN Reg.BOOT_PDK_LEN) : (s.pdkData p v).boot.pdkBytes = s.boot.pdkBytes + 4 ∧
      (s.pdkData p v).boot.pdkHdr = (s.boot.pdkHdr ++ leBytes 4 v.toNat).take 256 ∧ (s.pdkData p v).boot.pdkOwner = some p ∧
      Keeps s (s.pdkData p v) [Reg.BOOT_PDK_STAT] := by
  rw [State.pdkData, if_pos (by rw [hp, ho, hf, decide_eq_true hb]; simp)]
  extract_lets n b x
  have hx : Keeps s x [Reg.BOOT_PDK_STAT] := .of (regsKept_refl _ _) rfl rfl
  split
  · exact ⟨rfl, rfl, ho, hx.setBit _ _ List.mem_cons_self⟩
  · exact ⟨rfl, rfl, ho, hx⟩

/-! ## The end of a download -/

theorem State.writeDesc_shows (f : Desc → Desc) : (s.writeDesc f).flash.slots = s.flash.slots ∧ (s.writeDesc f).reg = s.reg ∧
    (s.writeDesc f).shadow = s.shadow ∧ (s.writeDesc f).mem = s.mem ∧ (s.writeDesc f).boot = s.boot := by
  have h (p : Prop) [Decidable p] (b : List Byte) (x : State) (hx : x = if p then { s with flash := { s.flash with desc1 := b } }
      else { s with flash := { s.flash with desc0 := b } }) : x.flash.slots = s.flash.slots ∧ x.reg = s.reg ∧ x.shadow = s.shadow ∧
      x.mem = s.mem ∧ x.boot = s.boot := by
    rw [hx]
    split <;> exact ⟨rfl, rfl, rfl, rfl, rfl⟩
  exact h _ _ _ rfl

end

/-- No trial goes on. -/
def State.trialOver (s : State) : State := { s with upd := { s.upd with trialrun := false } }

/-- The container is accepted: it fills the slot, and the descriptor changed by `f` names it. -/
def State.pdkAccept (s : State) (slot : Nat) (x : Slot) (f : Desc → Desc) : State :=
  (((s.setSlot slot x).writeDesc f).trialOver).pdkErr 0

theorem State.pdkErr_done (s : State) (c : Nat) : (s.pdkErr c).bit Reg.BOOT_PDK_STAT 30 = s.bit Reg.BOOT_PDK_STAT 30 := by
  rw [State.pdkErr, State.bit, State.rd_put_same, bitOf_setField _ _ _ _ _ (by decide), if_neg (by decide)]
  rfl

theorem State.pdkAccept_shows (s : State) {slot : Nat} (hslot : slot < 4) (x : Slot) (f : Desc → Desc) :
    (s.pdkAccept slot x f).boot.pdkOwner = s.boot.pdkOwner ∧ (s.pdkAccept slot x f).bit Reg.BOOT_PDK_STAT 30 = s.bit Reg.BOOT_PDK_STAT 30 ∧
      Keeps s (s.pdkAccept slot x f) [Reg.BOOT_PDK_STAT] ∧ (s.pdkAccept slot x f).fld Reg.BOOT_PDK_STAT 7 0 = 0 ∧
      ((s.pdkAccept slot x f).slot slot).header = x.header ∧ ((s.pdkAccept slot x f).slot slot).tack = x.tack ∧
      (s.pdkAccept slot x f).upd.trialrun = false := by
  have hx : Keeps s (s.setSlot slot x) [Reg.BOOT_PDK_STAT] := .of (regsKept_refl _ _) rfl rfl
  have hs : (s.setSlot slot x).slot slot = x := vget_vset_same _ _ _ _ hslot
  have hb : (s.setSlot slot x).boot = s.boot := rfl
  have hr : (s.setSlot slot x).reg = s.reg := rfl
  obtain ⟨h1, h2, h3, h4, h5⟩ := (s.setSlot slot x).writeDesc_shows f
  unfold State.pdkAccept
  generalize (s.setSlot slot x).writeDesc f = y at h1 h2 h3 h4 h5
  generalize hz : y.trialOver = z
  have hz1 : z.reg = y.reg ∧ z.shadow = y.shadow ∧ z.mem = y.mem ∧ z.boot = y.boot ∧ z.flash = y.flash ∧ z.upd.trialrun = false := by
    rw [← hz]
    exact ⟨rfl, rfl, rfl, rfl, rfl, rfl⟩
  obtain ⟨z1, z2, z3, z4, z5, z6⟩ := hz1
  have hzx : Keeps s z [Reg.BOOT_PDK_STAT] := .of (by rw [z1, h2, hr]; exact regsKept_refl _ _) (by rw [z2, h3]; rfl) (by rw [z3, h4]; rfl)
  have hslots : z.slot slot = x := by rw [State.slot, z5, h1]; exact hs
  refine ⟨?_, (z.pdkErr_done 0).trans ?_, hzx.put _ _ _ List.mem_cons_self, State.fld_put _ _ _ _ _ (by decide), ?_, ?_, z6⟩
  · exact congrArg BootSt.pdkOwner (z4.trans (h5.trans hb))
  · rw [State.bit, State.rd, z1, h2, hr]
    rfl
  · exact congrArg Slot.header hslots
  · exact congrArg Slot.tack hslots

/-- Settles O16. -/
theorem paddockDownload : Obligations.PaddockDownload := by
  refine ⟨fun p v s hp => ?_, fun cr tack s hp ho hb hl hk => ?_⟩
  · obtain ⟨hb31, hkind⟩ := pdkStart_bits v
    obtain ⟨hkeep, hok, hbad⟩ := s.pdkOpen_shows p (withBit v 31 &&& word 0x80000007)
    rw [hkind] at hok hbad
    refine ⟨fun ho hv => ?_, fun ho hv => ?_, fun q ho hq => ?_, fun ho hf hb => ?_, fun ho hf => ?_, fun ho => ?_⟩
    · obtain ⟨t, ht, hc⟩ := exec_paddockStart_counted s p hp v
      rw [s.pdkCtl_open p hp hb31 ho] at hc
      obtain ⟨_, _, he⟩ := hc.fields
      obtain ⟨h1, h2, h3, h4⟩ := hok hv
      exact ⟨t, ht, by rw [he]; exact h1, by rw [he]; exact h2, by rw [he]; exact h3, (hc.rd (by decide)).trans h4, hc.keeps hkeep⟩
    · obtain ⟨t, ht, hc⟩ := exec_paddockStart_counted s p hp v
      rw [s.pdkCtl_open p hp hb31 ho] at hc
      obtain ⟨_, _, he⟩ := hc.fields
      obtain ⟨h1, h2⟩ := hbad hv
      exact ⟨t, ht, by rw [he]; exact h1, (congrArg (fieldOf · 7 0) (hc.rd (by decide))).trans h2, hc.keeps hkeep⟩
    · obtain ⟨t, ht, hc⟩ := exec_paddockStart_counted s p hp v
      rw [s.pdkCtl_busy p hp hb31 ho hq] at hc
      obtain ⟨_, _, he⟩ := hc.fields
      exact ⟨t, ht, by rw [he]; rfl, (congrArg (fieldOf · 7 0) (hc.rd (by decide))).trans (State.fld_put _ _ _ _ _ (by decide)),
        hc.keeps ((Keeps.refl s _).put _ _ _ List.mem_cons_self)⟩
    · obtain ⟨t, ht, hc⟩ := exec_paddockData_counted s p hp v
      obtain ⟨_, _, he⟩ := hc.fields
      have hv : v &&& word 0xFFFFFFFF = v := BitVec.and_allOnes
      rw [hv] at hc he
      obtain ⟨h1, h2, h3, h4⟩ := s.pdkData_taken p v hp ho hf hb
      exact ⟨t, ht, by rw [he]; exact h1, by rw [he]; exact h2, by rw [he]; exact h3, hc.keeps h4⟩
    · have he : exec .paddockPageDone s = execPaddockPageDone s := rfl
      rw [Completes, he, execPaddockPageDone, if_pos (by rw [hp, ho, hf]; rfl)]
      exact ⟨_, rfl, State.bit_setBit _ _ _ _ (by decide), rfl, (Keeps.refl s _).setBit _ _ List.mem_cons_self⟩
    · have he : exec .paddockSessionExpiry s = execPaddockSessionExpiry s := rfl
      have h0 : Keeps s s.pdkEnd [Reg.BOOT_PDK_STAT] := .of (regsKept_refl _ _) rfl rfl
      rw [Completes, he, execPaddockSessionExpiry, if_pos (by rw [hp, ho]; rfl)]
      exact ⟨_, rfl, rfl, State.fld_put _ _ _ _ _ (by decide), rfl, h0.put _ _ _ List.mem_cons_self⟩
  · intro kind slot code
    have he : exec (.paddockDownloadDone cr tack) s = execPaddockDownloadDone cr tack s := rfl
    have h0 : Keeps s (s.pdkEnd.setBit Reg.BOOT_PDK_STAT 30 true) [Reg.BOOT_PDK_STAT] :=
      (Keeps.of (w := [Reg.BOOT_PDK_STAT]) (regsKept_refl s _) rfl rfl : Keeps s s.pdkEnd _).setBit _ _ List.mem_cons_self
    have hslot : slot < 4 := by
      have := fieldOf_lt (s.rd Reg.BOOT_PDK_CTL) 2 2
      simp only [slot, kind, State.fld] at hk ⊢
      omega
    rw [Completes, he, execPaddockDownloadDone, if_pos (by rw [hp, ho, decide_eq_true hb, decide_eq_true hl]; rfl)]
    generalize hw : s.pdkEnd.setBit Reg.BOOT_PDK_STAT 30 true = w at h0
    have hdone : w.bit Reg.BOOT_PDK_STAT 30 = true := by rw [← hw]; exact State.bit_setBit _ _ _ _ (by decide)
    have hown : w.boot.pdkOwner = none := by rw [← hw]; rfl
    have hdesc : w.flash.desc0 = s.flash.desc0 ∧ w.flash.desc1 = s.flash.desc1 := by rw [← hw]; exact ⟨rfl, rfl⟩
    by_cases hc : code = 1
    · have hcb : (code != 1) = false := by rw [hc]; rfl
      let filled : Slot := { header := s.boot.pdkHdr, body := s.rdN Reg.BOOT_PDK_LEN - 256, crypto := cr, tack := tack, mark := 2 }
      obtain ⟨h1, h2, h3, h4, h5, h6, h7⟩ := w.pdkAccept_shows hslot filled (fun d =>
        if kind = 0 then { d with fwsel := slot } else { d with fwsel := d.fwsel % 128, tksel := slot - 2 })
      exact ⟨_, if_neg (ne_true_of_eq_false hcb), h1.trans hown, h2.trans hdone, h0.trans h3, fun _ => ⟨h4, h5, h6, h7⟩, fun h => absurd hc h⟩
    · have hcb : (code != 1) = true := bne_iff_ne.mpr hc
      refine ⟨_, if_pos hcb, hown, (State.pdkErr_done _ _).trans hdone, (h0.trans (.of (regsKept_refl _ _) rfl rfl)).put _ _ _ List.mem_cons_self,
        fun h => absurd h hc, fun _ => ⟨State.fld_put _ _ _ _ _ (by decide), vget_vset_same _ _ _ _ hslot, hdesc⟩⟩

end Sys2Proof.Machine
end

section
/-!
PROOFS. A firmware stall and the live restart (O17).
-/

namespace Sys2Proof.Machine

/-! ## What a restart leaves as it is -/

/-- Every register but the version of the firmware that runs. -/
def notFwVer (a _i : Nat) : Prop := a ≠ Reg.BOOT_FWVER

section
variable {E : Nat → Prop} (s : State)

theorem State.frame_sessEnded {R : Nat → Nat → Prop} (hr : ∀ i, R Reg.UPD_RESULT i) (he : ∀ i, R Reg.UPD_ERRCNT i)
    (p : Port) (slot code : Nat) : State.Frame R (fun _ => True) s (s.sessEnded p slot code) := by
  unfold State.sessEnded
  extract_lets x y z
  have hx : State.Frame R (fun _ => True) s x := (State.Frame.refl s).put _ _ _ _ (fun i _ _ _ => hr i)
  have hy : State.Frame R (fun _ => True) s y := .ite ((hx.put _ _ _ _ (fun i _ _ _ => hr i)).raise _ (by decide) (.inl trivial)) hx
  have hz : State.Frame R (fun _ => True) s z := .ite hy (hy.bump _ _ _ _ (fun i _ _ _ => he i))
  exact hz.trans (.of rfl)

theorem State.sessEnded_flash (p : Port) (slot code : Nat) : (s.sessEnded p slot code).flash = s.flash := by
  unfold State.sessEnded
  extract_lets x y z
  have hy : y.flash = s.flash := by
    simp only [y]
    split
    · simp [x]
    · rfl
  have hz : z.flash = s.flash := by
    simp only [z]
    split
    · exact hy
    · exact hy
  exact hz

theorem State.endPend_flash (p : Port) (code : Nat) : (s.endPend p code).flash = s.flash := by
  unfold State.endPend
  split
  · rw [State.sessEnded_flash]
    cases p <;> rfl
  · rfl

theorem State.endAuth_flash (code : Nat) : (s.endAuth code).flash = s.flash := by
  unfold State.endAuth
  split
  · rw [State.sessEnded_flash]
    rfl
  · rfl

theorem State.sessionsLost_flash : s.sessionsLost.flash = s.flash := by
  rw [State.sessionsLost, State.endAuth_flash, State.endPend_flash, State.endPend_flash]

theorem State.frame_endPend (p : Port) (code : Nat) : State.Frame (fun _ _ => True) (fun _ => True) s (s.endPend p code) := by
  unfold State.endPend
  split
  · refine .trans ?_ (State.frame_sessEnded _ (fun _ => trivial) (fun _ => trivial) _ _ _)
    cases p
    · exact .trans (t := { s with upd := { s.upd with pendS := none } }) (.of rfl) ((State.Frame.refl _).setBit _ _ _ trivial)
    · exact .trans (t := { s with upd := { s.upd with pendP := none } }) (.of rfl) ((State.Frame.refl _).setBit _ _ _ trivial)
    · exact .refl s
  · exact .refl s

theorem State.frame_endAuth (code : Nat) : State.Frame (fun _ _ => True) (fun _ => True) s (s.endAuth code) := by
  unfold State.endAuth
  split
  · refine .trans (.trans (t := { s with upd := { s.upd with auth := none, actWait := false } }) (.of rfl) ?_)
      (State.frame_sessEnded _ (fun _ => trivial) (fun _ => trivial) _ _ _)
    exact ((State.Frame.refl _).wr _ _ (fun _ _ => trivial)).wrN _ _ (fun _ _ => trivial)
  · exact .refl s

theorem State.frame_sessionsLost : State.Frame (fun _ _ => True) (fun _ => True) s s.sessionsLost :=
  ((s.frame_endPend ..).trans (State.frame_endPend ..)).trans (State.frame_endAuth ..)

theorem State.frame_tokGive {R : Nat → Nat → Prop} (hi : ∀ i, R Reg.INJ_STAT i) (ht : ∀ i, R Reg.SYS_TOKSTAT i) :
    State.Frame R E s s.tokGive :=
  .ite ((State.frame_tokFree s hi ht).trans (.ite (.of rfl) (.refl _))) (State.frame_tokFree s hi ht)

theorem State.frame_raiseArb (kind v : Nat) : State.Frame notFwVer (fun _ => True) s (s.raiseArb kind v) := by
  have h (a : Nat) (ha : a ≠ Reg.BOOT_FWVER) (hi lo x : Nat) : State.Frame notFwVer (fun _ => True) s (s.put a hi lo x) :=
    (State.Frame.refl s).put _ _ _ _ (fun _ _ _ _ => ha)
  have hput : State.Frame notFwVer (fun _ => True) s (if kind = 1 then s.put Reg.UPD_ARB 15 8 v else s.put Reg.UPD_ARB 7 0 v) :=
    .ite (h _ (by decide) _ _ _) (h _ (by decide) _ _ _)
  exact .ite (hput.raise _ (by decide) (.inl trivial)) (.refl s)

theorem State.frame_writeDesc {R : Nat → Nat → Prop} (f : Desc → Desc) : State.Frame R E s (s.writeDesc f) :=
  .ite (.of rfl) (.of rfl)

theorem State.frame_pairRestarted : State.Frame notFwVer E s s.pairRestarted := by
  have hc : ∀ t : State, State.Frame notFwVer E t t.claimUpdate := fun t => t.frame_claimUpdate.mono (fun a i h => by
    rintro rfl
    simp only [fatalReg, phaseReg, Reg.BOOT_FWVER, Reg.SYS_TOKSTAT, Reg.INJ_STAT, Reg.LE_STAT, Reg.FLT_STAT] at h
    omega) (fun _ h => h)
  have hp (t : State) (a : Nat) (ha : a ≠ Reg.BOOT_FWVER) (hi lo x : Nat) : State.Frame notFwVer E t (t.put a hi lo x) :=
    (State.Frame.refl t).put _ _ _ _ (fun _ _ _ _ => ha)
  refine .ite (.refl s) (.ite ((hp s _ (by decide) _ _ _).trans (hc _)) (.ite (.trans (.onPair (.trans (hp s _ (by decide) _ _ _)
    (hp _ _ (by decide) _ _ _)) _) (hc _)) (.ite (hp s _ (by decide) _ _ _) (.refl s))))

end

/-! ## The firmware that the ROM accepts -/

theorem State.raiseArb_upd (s : State) (kind v : Nat) : (s.raiseArb kind v).upd = s.upd := by
  unfold State.raiseArb
  split
  · split <;> simp
  · rfl

/-- What the load of slot `i` leaves: its version, and no trial where the descriptor asks for none. -/
theorem State.fwLoaded_shows (s : State) (d : Desc) (i was : Nat) : (s.fwLoaded d i was).rd Reg.BOOT_FWVER = hdrVersion (s.slot i).header ∧
    (s.fwLoaded d i was).boot = s.boot ∧ (d.trial = false → (s.fwLoaded d i was).upd.trialrun = false) := by
  have hx : ((s.wr Reg.BOOT_FWVER (hdrVersion (s.slot i).header)).put Reg.BOOT_STAT 7 7 i).rd Reg.BOOT_FWVER = hdrVersion (s.slot i).header := by
    rw [State.rd_put_ne _ _ _ _ _ _ (by decide), State.rd_wr_same]
  unfold State.fwLoaded
  extract_lets v x u z y reason u2 w w2
  have hz : State.Frame notFwVer (fun _ => True) x z := .of rfl
  have hy : State.Frame notFwVer (fun _ => True) x y := x.frame_writeDesc _
  have hw : State.Frame notFwVer (fun _ => True) x w := hy.trans (.of rfl)
  have hw2 : State.Frame notFwVer (fun _ => True) x w2 := .ite (hw.trans (State.frame_tokGive _
    (fun _ => (by decide : Reg.INJ_STAT ≠ Reg.BOOT_FWVER)) (fun _ => (by decide : Reg.SYS_TOKSTAT ≠ Reg.BOOT_FWVER)))) hw
  have hfr {t : State} (h : State.Frame notFwVer (fun _ => True) x t) : t.rd Reg.BOOT_FWVER = v ∧ t.boot = s.boot :=
    ⟨(h.rd (fun _ _ hn => hn rfl) (by decide)).trans hx, h.boot⟩
  split
  · split
    · refine ⟨(hfr (hz.trans (State.frame_raiseArb _ _ _))).1, (hfr (hz.trans (State.frame_raiseArb _ _ _))).2, fun _ => ?_⟩
      rw [State.raiseArb_upd]
    · exact ⟨(hfr hz).1, (hfr hz).2, fun _ => rfl⟩
  · next hn =>
    have hd : d.trial = false → False := fun h => hn (by rw [h]; rfl)
    split
    · have hf : State.Frame notFwVer (fun _ => True) x ((w2.offerNow 0x0102 3 (leBytes 4 was ++ leBytes 4 v.toNat ++ leBytes 4 reason)).raise
        (E.FW_FALLBACK 0)) := State.Frame.raise (x := w2.offerNow 0x0102 3 _) (hw2.trans (.of rfl)) (E.FW_FALLBACK 0) (by decide) (.inl trivial)
      exact ⟨(hfr hf).1, (hfr hf).2, fun h => (hd h).elim⟩
    · split
      · have hf : State.Frame notFwVer (fun _ => True) x ({ x with upd := { x.upd with trialrun := true } } : State) := .of rfl
        exact ⟨(hfr hf).1, (hfr hf).2, fun h => (hd h).elim⟩
      · exact ⟨(hfr (.refl x)).1, rfl, fun h => (hd h).elim⟩

theorem State.readOverlay_upd (s : State) (r : OverlayRead) : (s.readOverlay r).1.upd = s.upd := by
  unfold State.readOverlay
  cases r
  · dsimp only
    split
    · rfl
    · simp [State.offerNow]
  · dsimp only
    split
    · simp [State.offerNow]
    · simp [State.offerNow]
  · simp [State.offerNow]

theorem State.frame_readOverlay (s : State) (r : OverlayRead) : State.Frame notFwVer (fun _ => True) s (s.readOverlay r).1 := by
  have huse (v : Nat) : State.Frame notFwVer (fun _ => True) s (s.wrN Reg.UPD_OVL v) :=
    (State.Frame.refl s).wrN _ _ (fun _ _ => (by decide : Reg.UPD_OVL ≠ Reg.BOOT_FWVER))
  have hnone (p : List Byte) : State.Frame notFwVer (fun _ => True) s (((s.wrN Reg.UPD_OVL 2).raise (E.SETTINGS_UNREADABLE 0)).offerNow 0x0103 3 p) :=
    ((huse 2).raise _ (by decide) (.inl trivial)).trans (.of rfl)
  unfold State.readOverlay
  cases r
  · dsimp only
    split
    · exact huse _
    · exact hnone _
  · dsimp only
    split
    · exact ((huse _).raise _ (by decide) (.inl trivial)).trans (.of rfl)
    · exact hnone _
  · exact hnone _

theorem State.pairRestarted_upd (s : State) : s.pairRestarted.upd = s.upd := by
  unfold State.pairRestarted
  repeat' split
  all_goals rfl

/-- No trial goes on: the descriptor in use asks for none. -/
theorem trial_of_desc {s : State} {d : Desc} {c : Nat} (hd : (s.flash.desc).getD (Desc.default, 0) = (d, c)) (ht : s.trial = false) :
    d.trial = false := by
  unfold State.trial at ht
  cases h : s.flash.desc with
  | none =>
    rw [h] at hd
    obtain rfl := (Prod.mk.inj hd).1
    rfl
  | some x =>
    rw [h] at hd ht
    obtain rfl : x = (d, c) := hd
    exact ht

theorem State.startRestart_ver (s : State) (planned : Bool) : (s.startRestart planned).rd Reg.BOOT_FWVER = s.rd Reg.BOOT_FWVER := by
  have hl : ∀ (l : List Nat) (x : State), (l.foldl (fun s f => s.onMb f (fun m => { m with sub := none, dec := none, lost := m.open_ })) x).reg =
      x.reg := fun l => by
    induction l with
    | nil => exact fun _ => rfl
    | cons f l ih => exact fun x => ih _
  unfold State.startRestart State.flushCrossing
  rw [State.rd_raise _ _ _ _ _ (by decide) (by decide) (by decide), State.rd_bump_ne _ _ _ _ _ _ (by decide),
    State.rd_bump_ne _ _ _ _ _ _ (by decide), State.rd_setBit_ne _ _ _ _ _ (by decide), State.rd, hl]
  rfl

theorem State.updFallback_ver (s : State) (reason : Nat) : (s.updFallback reason).rd Reg.BOOT_FWVER = s.rd Reg.BOOT_FWVER := by
  unfold State.updFallback
  split
  · exact State.startRestart_ver _ _
  · rfl

/-- Firmware serves without a trial. -/
theorem State.fwServes_shows (s : State) (r : OverlayRead) : (s.fwServes r).rd Reg.BOOT_FWVER = s.rd Reg.BOOT_FWVER ∧
    (s.upd.trialrun = false → (s.fwServes r).boot = s.boot ∧ (s.fwServes r).bit Reg.HST_STAT 31 = true) := by
  have ho := s.frame_readOverlay r
  have hu := s.readOverlay_upd r
  unfold State.fwServes
  generalize s.readOverlay r = o at ho hu
  obtain ⟨x, found⟩ := o
  have hx : State.Frame notFwVer (fun _ => True) s (x.setBit Reg.HST_STAT 31 true) := ho.setBit _ _ _ (by decide : Reg.HST_STAT ≠ Reg.BOOT_FWVER)
  have hrd {t : State} (h : State.Frame notFwVer (fun _ => True) s t) : t.rd Reg.BOOT_FWVER = s.rd Reg.BOOT_FWVER :=
    h.rd (fun _ _ hn => hn rfl) (by decide)
  simp only
  split
  · next ht =>
    have hn : s.upd.trialrun = false → False := fun h => by
      rw [← hu] at h
      exact Bool.false_ne_true (h.symm.trans ht)
    refine ⟨?_, fun h => (hn h).elim⟩
    split
    · exact hrd (hx.trans (.of rfl))
    · exact (State.updFallback_ver _ _).trans (hrd (hx.trans (.of rfl)))
  · exact ⟨hrd hx, fun _ => ⟨hx.boot, State.bit_setBit _ _ _ _ (by decide)⟩⟩

/-- The restart has ended. -/
def State.restartOver (s : State) : State := { s with boot := { s.boot with lrStart := none, lrPlanned := false } }

/-- The ROM has loaded slot `i` by the descriptor `d` of copy `c`, and firmware serves. -/
def State.restartLoaded (s : State) (lr : LiveStart) (d : Desc) (c i : Nat) (activation : Bool) : State :=
  let was := s.rdN Reg.BOOT_FWVER
  let s := s.wrN Reg.BOOT_DESC (d.dseq + 65536 * c)
  let s := if activation then s else s.sessionsLost
  let s := (s.fwLoaded d i was).setBit Reg.UPD_STAT 28 false
  let s := (s.wrN Reg.BOOT_LRTIME lr.micros).pairRestarted
  s.fwServes lr.overlay

theorem exec_liveRestartComplete (s : State) (lr : LiveStart) (hr : s.runs = true) (h : s.boot.lrStart.isSome = true) {d : Desc} {c : Nat}
    (hd : (s.flash.desc).getD (Desc.default, 0) = (d, c)) : exec (.liveRestartComplete lr) s = .next (
      if s.checkSlot (s.fwChoice d) 0 = 1 then
        s.restartOver.restartLoaded lr d c (s.fwChoice d) (s.boot.lrPlanned && d.trial && !s.upd.trialrun)
      else s.restartOver.fault 23 0 2) := by
  have he : exec (.liveRestartComplete lr) s = execLiveRestartComplete lr s := rfl
  have hif : (!s.runs || s.boot.lrStart.isNone) = false := by
    rw [hr, Option.isNone_eq_false_iff.mpr h]
    rfl
  rw [he, execLiveRestartComplete, if_neg (ne_true_of_eq_false hif), hd]
  by_cases hc : s.checkSlot (s.fwChoice d) 0 = 1
  · have hb : (s.checkSlot (s.fwChoice d) 0 != 1) = false := by rw [hc]; rfl
    rw [if_pos hc]
    exact if_neg (ne_true_of_eq_false hb)
  · rw [if_neg hc]
    exact if_pos (bne_iff_ne.mpr hc)

/-- The version that the ROM shows, and firmware that serves again outside a trial. -/
theorem State.restartLoaded_shows (s : State) (lr : LiveStart) (d : Desc) (c i : Nat) (activation : Bool) :
    (s.restartLoaded lr d c i activation).rd Reg.BOOT_FWVER = hdrVersion (s.slot i).header ∧
      (d.trial = false → (s.restartLoaded lr d c i activation).boot = s.boot ∧
        (s.restartLoaded lr d c i activation).bit Reg.HST_STAT 31 = true) := by
  unfold State.restartLoaded
  extract_lets was x y z w
  have hy : y.slot i = s.slot i ∧ y.boot = s.boot := by
    simp only [y]
    split
    · exact ⟨rfl, rfl⟩
    · exact ⟨congrArg (fun f : FlashSt => vget f.slots i Slot.erased) x.sessionsLost_flash, x.frame_sessionsLost.boot⟩
  obtain ⟨f1, f2, f3⟩ := y.fwLoaded_shows d i was
  have hz : State.Frame notFwVer (fun _ => True) (y.fwLoaded d i was) z :=
    (State.Frame.refl _).setBit _ _ _ (by decide : Reg.UPD_STAT ≠ Reg.BOOT_FWVER)
  have hw : State.Frame notFwVer (fun _ => True) (y.fwLoaded d i was) w :=
    (hz.wrN _ _ (fun _ _ => (by decide : Reg.BOOT_LRTIME ≠ Reg.BOOT_FWVER))).trans (State.frame_pairRestarted _)
  obtain ⟨g1, g2⟩ := w.fwServes_shows lr.overlay
  refine ⟨(g1.trans ((hw.rd (fun _ _ hn => hn rfl) (by decide)).trans f1)).trans (by rw [hy.1]), fun hd => ?_⟩
  have hu : w.upd = (y.fwLoaded d i was).upd := (z.wrN Reg.BOOT_LRTIME lr.micros).pairRestarted_upd
  obtain ⟨g3, g4⟩ := g2 (by rw [hu]; exact f3 hd)
  exact ⟨g3.trans (hw.boot.trans (f2.trans hy.2)), g4⟩

/-- Settles O17. -/
theorem firmwareStallAndRestart : Obligations.FirmwareStallAndRestart := by
  intro lr s hl
  obtain ⟨hr, -⟩ := Bool.and_eq_true_iff.mp hl
  refine ⟨fun h => ?_, fun h => ⟨?_, ?_⟩⟩
  · have he : exec .fwWatchdogExpiry s = execFwWatchdogExpiry s := rfl
    rw [Completes, he, execFwWatchdogExpiry, if_pos (by rw [hl, h]; rfl)]
    exact ⟨_, rfl, s.fault_reported _ _ _ (.inr (by decide)), (Keeps.refl s _).fault _ _ _⟩
  · have he : exec .liveRestartTimeout s = execLiveRestartTimeout s := rfl
    rw [Completes, he, execLiveRestartTimeout, if_pos (by rw [hl, h]; rfl)]
    exact ⟨_, rfl, s.fault_reported _ _ _ (.inr (by decide)), (Keeps.refl s _).fault _ _ _⟩
  · generalize hd : (s.flash.desc).getD (Desc.default, 0) = dc
    obtain ⟨d, c⟩ := dc
    have hx := exec_liveRestartComplete s lr hr h hd
    refine ⟨fun hc => ?_, fun hc => ?_⟩
    · rw [if_pos hc] at hx
      obtain ⟨h1, h2⟩ := s.restartOver.restartLoaded_shows lr d c (s.fwChoice d) (s.boot.lrPlanned && d.trial && !s.upd.trialrun)
      refine ⟨_, hx, h1, fun ht => ?_⟩
      have hdt : d.trial = false := trial_of_desc hd ht
      exact ⟨congrArg BootSt.lrStart (h2 hdt).1, (h2 hdt).2⟩
    · rw [if_neg hc] at hx
      have hk : Keeps s s.restartOver [] := .of (regsKept_refl _ _) rfl rfl
      exact ⟨_, hx, congrArg BootSt.lrStart (State.fault_boot _ _ _ _), State.fault_reported _ _ _ _ (.inr (by decide)), hk.fault _ _ _⟩

end Sys2Proof.Machine
end

section
/-!
PROOFS. Follow-ups and retry counts of faults (O47).
-/

namespace Sys2Proof.Machine

/-! ## Entries of the list -/

/-- The entry with its follow-up made. -/
def FltEntry.followed (e : FltEntry) (made retries : Nat) : FltEntry :=
  { e with st := 2, made := made, retries := retries, follow := if made = 3 then 0 else e.follow }

/-- What a follow-up makes of a place of the list. -/
def followPlace (scope item made retries : Nat) (x : Option FltEntry) : Option FltEntry :=
  x.map (fun e => if e.names scope item && e.st == 1 then e.followed made retries else e)

/-- The follow-up of the entry at place `i`, if it is an ACTIVE one of the item. -/
def State.followOne (scope item made retries : Nat) (s : State) (i : Nat) : State :=
  match s.fltAt i with
  | some e => if e.names scope item && e.st == 1 then s.fltPut i (some (e.followed made retries)) else s
  | none => s

theorem State.followDone_eq (s : State) (scope item made retries : Nat) :
    s.followDone scope item made retries = (List.range 64).foldl (State.followOne scope item made retries) s := rfl

/-- `t` is `s` but for the list of faults. -/
def State.SameButList (s t : State) : Prop := t = { s with flt := { s.flt with list := t.flt.list } }

theorem State.SameButList.refl (s : State) : s.SameButList s := rfl

theorem State.SameButList.trans {s t u : State} (h : s.SameButList t) (g : t.SameButList u) : s.SameButList u := by
  unfold State.SameButList at h g ⊢
  rw [h] at g
  exact g

section
variable (scope item made retries : Nat)

theorem State.followOne_same (s : State) (i : Nat) : s.SameButList (State.followOne scope item made retries s i) := by
  unfold State.followOne
  split
  · split
    · rfl
    · exact .refl s
  · exact .refl s

theorem State.followOne_at (s : State) {i : Nat} (hi : i < 64) :
    (State.followOne scope item made retries s i).fltAt i = followPlace scope item made retries (s.fltAt i) := by
  unfold State.followOne followPlace
  split
  · next e he =>
    rw [he, Option.map_some]
    split
    · exact s.fltAt_fltPut_same _ hi
    · exact he
  · next he => rw [he, Option.map_none]

theorem State.followOne_ne (s : State) {i j : Nat} (hj : j < 64) (hji : j ≠ i) :
    (State.followOne scope item made retries s i).fltAt j = s.fltAt j := by
  unfold State.followOne
  split
  · split
    · exact s.fltAt_fltPut_ne _ hj hji
    · rfl
  · rfl

theorem State.foldl_followOne (l : List Nat) (hl : ∀ i ∈ l, i < 64) (hd : l.Nodup) (s : State) :
    s.SameButList (l.foldl (State.followOne scope item made retries) s) ∧ ∀ j < 64,
      (l.foldl (State.followOne scope item made retries) s).fltAt j =
        if j ∈ l then followPlace scope item made retries (s.fltAt j) else s.fltAt j := by
  induction l generalizing s with
  | nil => exact ⟨.refl s, fun _ _ => rfl⟩
  | cons i l ih =>
    obtain ⟨hi, hd⟩ := List.nodup_cons.mp hd
    obtain ⟨h1, h2⟩ := ih (fun x hx => hl x (List.mem_cons_of_mem _ hx)) hd (State.followOne scope item made retries s i)
    refine ⟨(s.followOne_same scope item made retries i).trans h1, fun j hj => (h2 j hj).trans ?_⟩
    by_cases hji : j = i
    · subst hji
      rw [if_neg hi, if_pos List.mem_cons_self, s.followOne_at scope item made retries hj]
    · rw [s.followOne_ne scope item made retries hj hji]
      simp only [List.mem_cons, hji, false_or]

theorem State.followDone_same (s : State) : s.SameButList (s.followDone scope item made retries) :=
  (s.foldl_followOne scope item made retries _ (fun _ h => List.mem_range.mp h) List.nodup_range).1

/-- Each place of the list after a follow-up. -/
theorem State.followDone_at (s : State) {j : Nat} (hj : j < 64) :
    (s.followDone scope item made retries).fltAt j = followPlace scope item made retries (s.fltAt j) :=
  ((s.foldl_followOne scope item made retries _ (fun _ h => List.mem_range.mp h) List.nodup_range).2 j hj).trans
    (if_pos (List.mem_range.mpr hj))

theorem followPlace_done {e : FltEntry} (h : e.names scope item = true) (h1 : e.st = 1) :
    (followPlace scope item made retries (some e)).map (fun e => (e.st, e.made, e.retries, e.msg)) = some (2, made, retries, e.msg) := by
  simp [followPlace, h, h1, FltEntry.followed]

theorem followPlace_rest {x : Option FltEntry} (h : ∀ e, x = some e → e.names scope item = true → e.st ≠ 1) :
    followPlace scope item made retries x = x := by
  cases x with
  | none => rfl
  | some e =>
    rw [followPlace, Option.map_some, if_neg]
    rintro hc
    obtain ⟨hn, h1⟩ := Bool.and_eq_true_iff.mp hc
    exact h e rfl hn (beq_iff_eq.mp h1)

end

/-! ## Retry counts -/

theorem State.retriesOf_setRetries (s : State) (scope item n : Nat) : (s.setRetries scope item n).retriesOf scope item = n := by
  unfold State.setRetries State.retriesOf
  by_cases h : n = 0
  · simp only [h, if_true]
    rw [List.find?_eq_none.mpr]
    · rfl
    · intro x hx
      exact ne_true_of_eq_false ((Bool.not_eq_true' _).mp (List.mem_filter.mp hx).2)
  · simp only [h, if_false]
    rw [List.find?_cons_of_pos]
    · rfl
    · simp

/-! ## The item's own follow-up -/

/-- `t` is `s` but for its stages, its feeders and the STARTs that are due. -/
def State.Followed (s t : State) : Prop :=
  t = { s with stg := t.stg, fdr := t.fdr, flt := { s.flt with startDue := t.flt.startDue } }

namespace State.Followed

variable {s t u : State}

theorem refl (s : State) : s.Followed s := rfl

theorem trans (h : s.Followed t) (g : t.Followed u) : s.Followed u := by
  unfold State.Followed at h g ⊢
  rw [h] at g
  exact g

theorem foldl {α : Type} (f : State → α → State) (hf : ∀ (s : State) x, s.Followed (f s x)) (l : List α) (s : State) : s.Followed (l.foldl f s) := by
  induction l generalizing s with
  | nil => exact .refl s
  | cons a l ih => exact (hf s a).trans (ih _)

theorem frame (h : s.Followed t) {R : Nat → Nat → Prop} {E : Nat → Prop} : State.Frame R E s t := .of (by rw [h]; rfl)

end State.Followed

theorem State.followStage_followed (s : State) (k : Nat) (retry : Bool) : s.Followed (s.followStage k retry) := by
  unfold State.followStage
  split <;> rfl

theorem State.fdrFollow_followed (s : State) (f kind : Nat) : s.Followed (s.fdrFollow f kind) := by
  unfold State.fdrFollow
  split <;> rfl

theorem State.followItem_followed (s : State) (scope item kind : Nat) : s.Followed (s.followItem scope item kind) := by
  unfold State.followItem
  split
  · exact s.followStage_followed ..
  · exact s.fdrFollow_followed ..
  · refine .trans (.foldl _ (fun s k => ?_) _ s) (.foldl _ (fun s f => ?_) _ _)
    · split
      · exact s.followStage_followed ..
      · exact .refl s
    · split
      · exact s.fdrFollow_followed ..
      · exact .refl s
  · exact .refl s

/-- A stage's CLEAR, and its START where a retry asks for one. -/
theorem State.followItem_stage (s : State) {i : Nat} (hi : i < 32) (kind : Nat) :
    ((s.followItem 2 i kind).sg i).cmd = (s.sg i).cmd ++ [3] ∧
      (s.followItem 2 i kind).flt.startDue = if kind = 1 then s.flt.startDue ++ [i] else s.flt.startDue := by
  have h : s.followItem 2 i kind = s.followStage i (kind == 1) := rfl
  have hsg := State.onSg_sg_same s (fun g => { g with cmd := g.cmd ++ [3] }) hi
  rw [h, State.followStage]
  by_cases hk : kind = 1
  · rw [if_pos (beq_iff_eq.mpr hk), if_pos hk]
    exact ⟨congrArg StgSt.cmd hsg, rfl⟩
  · rw [if_neg (mt beq_iff_eq.mp hk), if_neg hk]
    exact ⟨congrArg StgSt.cmd hsg, rfl⟩

theorem State.forward_same (s : State) (x : FwdItem) : s.forward x = { s with pair := (s.forward x).pair } := by
  unfold State.forward State.tdmSend
  split
  · split <;> rfl
  · rfl

/-! ## The obligation -/

/-- The entries that the follow-up of an item heeds. -/
def State.followActive (s : State) (c i : Nat) : List FltEntry :=
  (List.range 64).filterMap (fun j => (s.fltAt j).filter (fun e => e.names c i && e.st == 1 && !e.msg.fwd))

theorem exec_faultFollowUp (s : State) (c : Fin 8) (i : Fin 128) (hl : s.live = true) (h2 : 2 ≤ c.val) (h4 : c.val ≤ 4)
    (hr : s.followReady c i = true) : exec (.faultFollowUp c i) s = .next (
      if (s.followActive c i).any (fun e => e.follow == 2) then
        ((s.followDone c i 2 (s.retriesOf c i)).followItem c i 2).forward (.decision (.follow c i 2))
      else if (s.followActive c i).any (fun e => decide (e.rmax < s.retriesOf c i + 1)) then
        (s.followDone c i 3 (s.retriesOf c i)).raise (E.FLT_RETRY_LIMIT i)
      else
        ((((s.setRetries c i (s.retriesOf c i + 1)).raise (E.FLT_RETRY i)).followDone c i 1 (s.retriesOf c i + 1)).followItem c i 1).forward
          (.decision (.follow c i 1))) := by
  have he : exec (.faultFollowUp c i) s = execFaultFollowUp c i s := rfl
  have hif : (s.live && decide (2 ≤ c.val) && decide (c.val ≤ 4) && s.followReady c i) = true := by
    rw [hl, decide_eq_true h2, decide_eq_true h4, hr]
    rfl
  have hret : ((s.setRetries c i (s.retriesOf c i + 1)).raise (E.FLT_RETRY i)).retriesOf c i = s.retriesOf c i + 1 := by
    rw [State.retriesOf, State.raise_flt, ← State.retriesOf]
    exact s.retriesOf_setRetries c i _
  rw [he, execFaultFollowUp, if_pos hif, ← State.followActive]
  cases hc : (s.followActive c i).any (fun e => e.follow == 2)
  · cases hm : (s.followActive c i).any (fun e => decide (e.rmax < s.retriesOf c i + 1))
    · simp only [hc, hm, Bool.false_eq_true, if_false, if_true, decide_true, Bool.and_false, hret]
    · simp only [hc, hm, Bool.false_eq_true, if_false, if_true, decide_true, Bool.and_true, Nat.add_sub_cancel]
  · simp only [hc, if_true, Nat.reduceEqDiff, decide_false, Bool.false_and, Bool.false_eq_true, if_false]

/-- The places of the list after a follow-up and what comes after it. -/
theorem State.follow_places {s x t : State} {c i made retries : Nat} (hx : x.flt.list = s.flt.list)
    (ht : t.flt.list = (x.followDone c i made retries).flt.list) {j : Nat} (hj : j < 64) :
    t.fltAt j = followPlace c i made retries (s.fltAt j) := by
  have h1 : t.fltAt j = (x.followDone c i made retries).fltAt j := by rw [State.fltAt, ht, ← State.fltAt]
  have h2 : x.fltAt j = s.fltAt j := by rw [State.fltAt, hx, ← State.fltAt]
  rw [h1, x.followDone_at c i made retries hj, h2]

/-- What the item's own follow-up and its forward leave of the collector. -/
theorem State.followEnd_same (s : State) (c i kind : Nat) (x : FwdItem) :
    ((s.followItem c i kind).forward x).flt.list = s.flt.list ∧ ((s.followItem c i kind).forward x).flt.retries = s.flt.retries ∧
      ((s.followItem c i kind).forward x).evq = s.evq ∧ ((s.followItem c i kind).forward x).stg = (s.followItem c i kind).stg ∧
      ((s.followItem c i kind).forward x).flt.startDue = (s.followItem c i kind).flt.startDue := by
  have h := s.followItem_followed c i kind
  rw [State.forward_same]
  refine ⟨?_, ?_, ?_, rfl, rfl⟩
  · rw [h]
  · rw [h]
  · rw [h]

section
variable (c : Fin 8) (i : Fin 128) (s : State)

/-- A follow-up that is made: the entries, and a stage's commands. -/
theorem State.followMade (x : State) (kind retries : Nat) (hx : x.flt.list = s.flt.list) (hsg : x.stg = s.stg)
    (hdue : x.flt.startDue = s.flt.startDue) :
    let t := ((x.followDone c i kind retries).followItem c i kind).forward (.decision (.follow c i kind))
    (∀ j < 64, ∀ e, s.fltAt j = some e → e.names c i = true → e.st = 1 →
      (t.fltAt j).map (fun e => (e.st, e.made, e.retries, e.msg)) = some (2, kind, retries, e.msg)) ∧
    (∀ j < 64, (∀ e, s.fltAt j = some e → e.names c i = true → e.st ≠ 1) → t.fltAt j = s.fltAt j) ∧
    t.flt.retries = x.flt.retries ∧ t.evq = x.evq ∧
    (c.val = 2 → i.val < 32 → (t.sg i).cmd = (s.sg i).cmd ++ [3] ∧
      t.flt.startDue = if kind = 1 then s.flt.startDue ++ [i.val] else s.flt.startDue) := by
  intro t
  have hd := x.followDone_same c i kind retries
  obtain ⟨h1, h2, h3, h4, h5⟩ := (x.followDone c i kind retries).followEnd_same c i kind (.decision (.follow c i kind))
  have hp {j : Nat} (hj : j < 64) : t.fltAt j = followPlace c i kind retries (s.fltAt j) := State.follow_places hx h1 hj
  refine ⟨fun j hj e he hn h => ?_, fun j hj h => ?_, ?_, ?_, fun hc hi => ?_⟩
  · rw [hp hj, he]
    exact followPlace_done c i kind retries hn h
  · rw [hp hj]
    exact followPlace_rest c i kind retries h
  · rw [h2, hd]
  · rw [h3, hd]
  · obtain ⟨g1, g2⟩ := (x.followDone c i kind retries).followItem_stage hi kind
    rw [← hc] at g1 g2
    have hs : (x.followDone c i kind retries).stg = s.stg := by rw [hd]; exact hsg
    have hq : (x.followDone c i kind retries).flt.startDue = s.flt.startDue := by rw [hd]; exact hdue
    refine ⟨?_, ?_⟩
    · rw [State.sg, h4, ← State.sg, g1, State.sg, hs, ← State.sg]
    · rw [h5, g2, hq]

theorem retryCountClear_shows (ha : s.awake = true)
    (hw : (c.val = 2 ∧ i.val < 32 ∧ s.stState i = 2) ∨ (c.val = 3 ∧ i.val < 16 ∧ s.linkUp i = true) ∨
        (c.val = 4 ∧ i.val < 64 ∧ s.fdrState i = 2))
    (hq : ∀ j < 64, ∀ e, s.fltAt j = some e → e.scope = c.val → e.item = i.val → 800000000 ≤ (s.time.mono - e.mono).toNat) :
    Completes (.retryCountClear c i) s (fun t => t.retriesOf c i = 0 ∧ t.flt.list = s.flt.list ∧ Keeps s t []) := by
  have he : exec (.retryCountClear c i) s = execRetryCountClear c i s := rfl
  have hquiet : ((List.range 64).all (fun j => match s.fltAt j with
      | some e => !(e.scope == c.val && e.item == i.val) || decide (800000000 ≤ (s.time.mono - e.mono).toNat)
      | none => true)) = true := by
    refine List.all_eq_true.mpr fun j hj => ?_
    split
    · next e hje =>
      by_cases hs : e.scope = c.val ∧ e.item = i.val
      · exact Bool.or_eq_true_iff.mpr (.inr (decide_eq_true (hq j (List.mem_range.mp hj) e hje hs.1 hs.2)))
      · simp only [not_and] at hs
        by_cases h1 : e.scope = c.val
        · simp [hs h1]
        · simp [h1]
    · rfl
  have hworks : (match c.val with
      | 2 => s.stState (i.val % 32) == 2 && decide (i.val < 32)
      | 3 => s.linkUp i && decide (i.val < 16)
      | 4 => s.fdrState i == 2 && decide (i.val < 64)
      | _ => false) = true := by
    rcases hw with ⟨h, hi, hw⟩ | ⟨h, hi, hw⟩ | ⟨h, hi, hw⟩
    · simp [h, hi, Nat.mod_eq_of_lt hi, hw]
    · simp [h, hi, hw]
    · simp [h, hi, hw]
  refine ⟨s.setRetries c i 0, ?_, s.retriesOf_setRetries c i 0, rfl, .of (regsKept_refl _ _) rfl rfl⟩
  rw [he]
  exact if_pos (Bool.and_eq_true_iff.mpr ⟨Bool.and_eq_true_iff.mpr ⟨ha, hworks⟩, hquiet⟩)

end

/-- Settles O47. -/
theorem faultFollowUps : Obligations.FaultFollowUps := by
  refine ⟨fun c i s hl h2 h4 hr => ?_, fun c i s ha => ⟨retryCountClear_shows c i s ha, ?_⟩⟩
  · intro act clears n limit done rest
    have hx := exec_faultFollowUp s c i hl h2 h4 hr
    refine ⟨fun hc => ?_, fun hc hm => ?_, fun hc hm => ?_⟩
    · rw [if_pos (show (s.followActive c i).any (fun e => e.follow == 2) = true from hc)] at hx
      obtain ⟨m1, m2, -, -, m5⟩ := State.followMade c i s s 2 (s.retriesOf c i) rfl rfl rfl
      exact ⟨_, hx, m1, m2, m5⟩
    · rw [if_neg (ne_true_of_eq_false (show (s.followActive c i).any (fun e => e.follow == 2) = false from hc)),
        if_neg (ne_true_of_eq_false (show (s.followActive c i).any (fun e => decide (e.rmax < s.retriesOf c i + 1)) = false from hm))] at hx
      have hlist : ((s.setRetries c i (s.retriesOf c i + 1)).raise (E.FLT_RETRY i)).flt = (s.setRetries c i (s.retriesOf c i + 1)).flt :=
        State.raise_flt _ _
      obtain ⟨m1, m2, m3, m4, m5⟩ := State.followMade c i s ((s.setRetries c i (s.retriesOf c i + 1)).raise (E.FLT_RETRY i)) 1
        (s.retriesOf c i + 1) (congrArg FltSt.list hlist :) (State.raise_stg _ _) (congrArg FltSt.startDue hlist :)
      refine ⟨_, hx, m1, m2, ?_, ?_, m5⟩
      · rw [State.retriesOf, m3, hlist]
        exact s.retriesOf_setRetries c i _
      · exact Raised.of (x := s.setRetries c i (s.retriesOf c i + 1)) (by rw [m4]; exact List.Subset.refl _) rfl
    · rw [if_neg (ne_true_of_eq_false (show (s.followActive c i).any (fun e => e.follow == 2) = false from hc)),
        if_pos (show (s.followActive c i).any (fun e => decide (e.rmax < s.retriesOf c i + 1)) = true from hm)] at hx
      have hd := s.followDone_same c i 3 (s.retriesOf c i)
      have hflt : ((s.followDone c i 3 (s.retriesOf c i)).raise (E.FLT_RETRY_LIMIT i)).flt = (s.followDone c i 3 (s.retriesOf c i)).flt :=
        State.raise_flt _ _
      have hp {j : Nat} (hj : j < 64) := State.follow_places (s := s) (x := s) (c := c) (i := i) (made := 3) (retries := s.retriesOf c i) rfl
        (congrArg FltSt.list hflt) hj
      have hk : Keeps s (s.followDone c i 3 (s.retriesOf c i)) [] := by
        rw [hd]
        exact .of (regsKept_refl _ _) rfl rfl
      refine ⟨_, hx, fun j hj e he hn h => ?_, fun j hj h => ?_, ?_, ?_, ?_, hk.raise (by decide)⟩
      · rw [hp hj, he]
        exact followPlace_done c i 3 _ hn h
      · rw [hp hj]
        exact followPlace_rest c i 3 _ h
      · exact Raised.of (List.Subset.refl _) (by rw [hd])
      · rw [State.sg, State.raise_stg, hd]
        rfl
      · rw [hflt, hd]
  · have he : exec .faultMinTimeEnd s = execFaultMinTimeEnd s := rfl
    rw [Completes, he, execFaultMinTimeEnd, if_pos ha]
    exact ⟨_, rfl, rfl, rfl, .of (regsKept_refl _ _) rfl rfl⟩

end Sys2Proof.Machine
end

section
/-!
PROOFS. Events pend and are cleared (O50).
-/

namespace Sys2Proof.Machine

/-- The source's registers once its pulse has been taken. -/
def State.pend (s : State) (n : Nat) (q : EvPulse) : State :=
  ((({ s with evq := s.evq.erase q } : State).setBit (Reg.EVT_PEND (n / 32)) (n % 32) true).bump (Reg.EVT_SRCCNT n) 15 0 1).wrN
    (Reg.EVT_SRCLAST n) (256 * n % 65536 + q.ev.k % 256 + q.ev.inst % 256 * 65536)

/-- The record that a pulse of source `n` offers. -/
def pulseRec (w : Word) (n : Nat) (p : EvPulse) : Rec :=
  { kind := 1, sev := fieldOf w 22 20, inj := p.inj, fwd := p.fwd, src := n, stamp := p.stamp,
    payload := leBytes 4 p.stamp.ns ++ leBytes 2 (256 * n + p.ev.k) ++ leBytes 1 p.ev.inst ++ leBytes 1 0 ++ p.detail }

theorem exec_eventRaise (n : Fin 256) (q : EvPulse) (s : State) (hq : s.evq.find? (fun q => q.ev.src == n.val) = some q)
    (ha : s.awake = true) : exec (.eventRaise n) s = .next (
      let u := s.pend n q
      let x := if s.bit (Reg.EVT_SRCCFG n) 26 then u.offer (pulseRec (s.rd (Reg.EVT_SRCCFG n)) n q) else u
      (if x.evtRoutes 29 (x.fld Reg.EVT_CFG 6 4) n then x.setBit Reg.HST_STAT 30 false else x).traceSee 6 n) := by
  have he : exec (.eventRaise n) s = execEventRaise n s := rfl
  simp only [he, execEventRaise, hq, ha, Bool.not_true, Bool.false_eq_true, if_false]
  rfl

section
variable (s : State) (n : Fin 256) (q : EvPulse)

theorem State.pend_bit : (s.pend n q).bit (Reg.EVT_PEND (n / 32)) (n % 32) = true := by
  unfold State.pend
  rw [State.bit, State.rd_wrN_ne _ _ _ _ (by simp only [Reg.EVT_PEND, Reg.EVT_SRCLAST]; omega),
    State.rd_bump_ne _ _ _ _ _ _ (by simp only [Reg.EVT_PEND, Reg.EVT_SRCCNT]; omega)]
  exact State.bit_setBit _ _ _ _ (Nat.mod_lt _ (by decide))

theorem State.pend_count : (s.pend n q).fld (Reg.EVT_SRCCNT n) 15 0 = min (s.fld (Reg.EVT_SRCCNT n) 15 0 + 1) 0xFFFF := by
  unfold State.pend
  rw [State.fld_eq, State.rd_wrN_ne _ _ _ _ (by simp only [Reg.EVT_SRCCNT, Reg.EVT_SRCLAST]; omega), State.rd_bump_same,
    fieldOf_setField_min _ _ _ _ (by decide)]
  rw [State.fld, State.rd_setBit_ne _ _ _ _ _ (by simp only [Reg.EVT_PEND, Reg.EVT_SRCCNT]; omega)]
  rfl

theorem State.pend_last : (s.pend n q).fld (Reg.EVT_SRCLAST n) 15 0 = 256 * n % 65536 + q.ev.k % 256 ∧
    (s.pend n q).fld (Reg.EVT_SRCLAST n) 23 16 = q.ev.inst % 256 := by
  have h : (s.pend n q).rd (Reg.EVT_SRCLAST n) = word (256 * n % 65536 + q.ev.k % 256 + q.ev.inst % 256 * 65536) := State.rd_wrN_same ..
  rw [State.fld, State.fld, h]
  constructor
  · simp only [fieldOf, word, BitVec.extractLsb'_toNat, BitVec.toNat_ofNat, Nat.shiftRight_eq_div_pow]
    omega
  · simp only [fieldOf, word, BitVec.extractLsb'_toNat, BitVec.toNat_ofNat, Nat.shiftRight_eq_div_pow]
    omega

theorem State.pend_keeps : Keeps s (s.pend n q) [Reg.EVT_PEND (n / 32), Reg.EVT_SRCCNT n, Reg.EVT_SRCLAST n, Reg.HST_STAT] :=
  (((Keeps.of (regsKept_refl _ _) rfl rfl : Keeps s ({ s with evq := s.evq.erase q } : State) _).setBit _ _ (by simp)).bump _ _ _ (by simp)).wr _
    (by simp)

end

theorem EvtPend.apart (n : Fin 256) : Reg.HST_STAT ≠ Reg.EVT_PEND (n / 32) ∧ Reg.HST_STAT ≠ Reg.EVT_SRCCNT n ∧
    Reg.HST_STAT ≠ Reg.EVT_SRCLAST n := by
  simp only [Reg.HST_STAT, Reg.EVT_PEND, Reg.EVT_SRCCNT, Reg.EVT_SRCLAST]
  omega

theorem State.traceSee_same (s : State) (kind src : Nat) : s.traceSee kind src = { s with trc := (s.traceSee kind src).trc } := by
  unfold State.traceSee
  generalize List.range 8 = l
  induction l generalizing s with
  | nil => rfl
  | cons u l ih =>
    rw [List.foldl_cons, ih]
    split <;> rfl

theorem eventRaise_shows (n : Fin 256) (q : EvPulse) (s : State) (hq : s.evq.find? (fun q => q.ev.src == n.val) = some q)
    (ha : s.awake = true) : Completes (.eventRaise n) s (fun t =>
      t.evq = s.evq.erase q ∧ t.bit (Reg.EVT_PEND (n / 32)) (n % 32) = true ∧
      t.fld (Reg.EVT_SRCCNT n) 15 0 = min (s.fld (Reg.EVT_SRCCNT n) 15 0 + 1) 0xFFFF ∧
      t.fld (Reg.EVT_SRCLAST n) 15 0 = 256 * n % 65536 + q.ev.k % 256 ∧ t.fld (Reg.EVT_SRCLAST n) 23 16 = q.ev.inst % 256 ∧
      (s.bit (Reg.EVT_SRCCFG n) 26 = true → t.evr.offers.length = s.evr.offers.length + 1 ∧
        ∃ r ∈ t.evr.offers, r.kind = 1 ∧ r.src = n.val ∧ r.stamp = q.stamp ∧ r.sev = s.fld (Reg.EVT_SRCCFG n) 22 20) ∧
      (s.bit (Reg.EVT_SRCCFG n) 26 = false → t.evr = s.evr) ∧
      Keeps s t [Reg.EVT_PEND (n / 32), Reg.EVT_SRCCNT n, Reg.EVT_SRCLAST n, Reg.HST_STAT]) := by
  have hx := exec_eventRaise n q s hq ha
  obtain ⟨h1, h2, h3⟩ := EvtPend.apart n
  set x := (if s.bit (Reg.EVT_SRCCFG n) 26 then (s.pend n q).offer (pulseRec (s.rd (Reg.EVT_SRCCFG n)) n q) else s.pend n q) with hxe
  have hu : x = { s.pend n q with evr := x.evr } := by
    rw [hxe]
    split <;> rfl
  set y := (if x.evtRoutes 29 (x.fld Reg.EVT_CFG 6 4) n then x.setBit Reg.HST_STAT 30 false else x) with hye
  obtain ⟨hreg, hy⟩ : (∀ a, Reg.HST_STAT ≠ a → y.rd a = x.rd a) ∧ y = { x with reg := y.reg } := by
    rw [hye]
    split
    · exact ⟨fun a h => State.rd_setBit_ne _ _ _ _ _ h, rfl⟩
    · exact ⟨fun _ _ => rfl, rfl⟩
  have ht := y.traceSee_same 6 n
  have hrd (a : Nat) (ha : Reg.HST_STAT ≠ a) : (y.traceSee 6 n).rd a = (s.pend n q).rd a := by
    calc (y.traceSee 6 n).rd a = y.rd a := by rw [ht]; rfl
      _ = x.rd a := hreg a ha
      _ = (s.pend n q).rd a := by rw [hu]; rfl
  obtain ⟨l1, l2⟩ := s.pend_last n q
  have hevr : (y.traceSee 6 n).evr = x.evr := by rw [ht, hy]
  refine ⟨_, hx, ?_, ?_, ?_, ?_, ?_, fun h => ?_, fun h => ?_, ?_⟩
  · rw [ht, hy, hu]
    rfl
  · rw [State.bit, hrd _ h1]
    exact s.pend_bit n q
  · rw [State.fld_eq, hrd _ h2]
    exact s.pend_count n q
  · rw [State.fld_eq, hrd _ h3]
    exact l1
  · rw [State.fld_eq, hrd _ h3]
    exact l2
  · rw [hevr, hxe, if_pos h]
    exact ⟨List.length_append, _, List.mem_append_right _ List.mem_cons_self, rfl, rfl, rfl, rfl⟩
  · rw [hevr, hxe, if_neg (ne_true_of_eq_false h)]
    rfl
  · refine .trans (s.pend_keeps n q) (.of (fun a ha _ => hrd a ?_) (by rw [ht, hy, hu]) (by rw [ht, hy, hu]))
    rintro rfl
    simp at ha

/-- The row of the pending registers: every bit clears by a write of 1 (R381). -/
def evtPendRow : RegRow := ⟨0x320, 0x10000000, 1, 4, 8, 0, 0, 0xFFFFFFFF, 0, 0, 0xFFFFFFFF, none, []⟩

theorem evtPend_direct (i : Fin 8) : directReg (Reg.EVT_PEND i) = true ∧ rowOfKey (Reg.EVT_PEND i) = some evtPendRow ∧
    followsPair (Reg.EVT_PEND i) = false ∧ sideReg (Reg.EVT_PEND i) = false := by
  fin_cases i
  all_goals exact ⟨by decide +kernel, rfl, rfl, rfl⟩

theorem State.writeFixed_evtPend (s : State) (p : Port) (i : Fin 8) (v : Word) : s.writeFixed p (Reg.EVT_PEND i) v = none := by
  fin_cases i
  all_goals
    cases p
    all_goals rfl

/-- Settles O50. -/
theorem eventsPend : Obligations.EventsPend := by
  refine fun n p i v s => ⟨fun q hq ha => eventRaise_shows n q s hq ha, fun hr => ?_⟩
  obtain ⟨hd, hrow, hf, hs⟩ := evtPend_direct i
  have hw := s.writeFixed_evtPend p i (v &&& word evtPendRow.known)
  have hm := mapped_direct hd s hr
  obtain ⟨hrd, hkeep, -⟩ := s.hostWrite_byType p (Reg.EVT_PEND i) _ v evtPendRow (State.fabricUp_runs s hr) hm (plainAddr_direct hd)
    (fwBusy_direct hd s p) (keyOf_direct hd s p) hrow hf hw rfl (.inl hs)
  have hc := s.hostWrite_counted p (Reg.EVT_PEND i) _ v evtPendRow (State.fabricUp_runs s hr) hm (plainAddr_direct hd)
    (fwBusy_direct hd s p) (keyOf_direct hd s p) hrow
  refine ⟨_, rfl, fun j hj => ?_, ?_, hkeep⟩
  · have h1 : (word evtPendRow.w1c).getLsbD j = true := by
      change (0xFFFFFFFF#32).getLsbD j = true
      rw [show (0xFFFFFFFF#32) = BitVec.allOnes 32 from rfl, BitVec.getLsbD_allOnes]
      exact decide_eq_true hj
    have h0 : (word evtPendRow.rw).getLsbD j = false := BitVec.getLsbD_zero
    rw [State.bit, hrd, RegRow.written_bit hrow rfl _ _ hj, h1, h0]
    cases v.getLsbD j <;> simp [State.bit]
  · obtain ⟨_, _, he⟩ := hc.fields
    have hwk : s.writeKey p (Reg.EVT_PEND i) (v &&& word evtPendRow.known) =
        s.storeByType true (Reg.EVT_PEND i) (v &&& word evtPendRow.known) := by
      have hshd : evtPendRow.shd = 0 := rfl
      simp [State.writeKey, hf, hw, hrow, hshd]
    rw [he, hwk, s.rd_storeByType _ hrow rfl]
    split <;> rfl

end Sys2Proof.Machine
end

section
/-!
PROOFS. What the pulses of phases and the active sets of stages change.
-/

namespace Sys2Proof.Machine

/-! ## Pulses -/

/-- `t` is `s` but for the phases, the links and the local channels. -/
def State.Edged (s t : State) : Prop := t = { s with phs := t.phs, links := t.links, loc := t.loc }

namespace State.Edged

variable {s t u : State}

theorem refl (s : State) : s.Edged s := rfl

theorem trans (h : s.Edged t) (g : t.Edged u) : s.Edged u := by
  unfold State.Edged at h g ⊢
  rw [h] at g
  exact g

theorem foldl {α : Type} (f : State → α → State) (hf : ∀ (s : State) x, s.Edged (f s x)) (l : List α) (s : State) : s.Edged (l.foldl f s) := by
  induction l generalizing s with
  | nil => exact .refl s
  | cons a l ih => exact (hf s a).trans (ih _)

theorem ite {p : Prop} [Decidable p] (ht : s.Edged t) (hu : s.Edged u) : s.Edged (if p then t else u) := by
  split
  · exact ht
  · exact hu

theorem onPh (h : s.Edged t) (i : Nat) (f : PhSt → PhSt) : s.Edged (t.onPh i f) := h.trans rfl
theorem onLc (h : s.Edged t) (i : Nat) (f : LocSt → LocSt) : s.Edged (t.onLc i f) := h.trans rfl
theorem onLink (h : s.Edged t) (i : Nat) (f : LinkSt → LinkSt) : s.Edged (t.onLink i f) := h.trans rfl

theorem frame (h : s.Edged t) {R : Nat → Nat → Prop} {E : Nat → Prop} : State.Frame R E s t := .of (by rw [h]; rfl)

end State.Edged

section
variable (s : State)

theorem State.edged_removeEdge (i ev t : Nat) : s.Edged (s.removeEdge i ev t) := .ite (.onLc (.refl s) ..) (.onLink (.refl s) ..)

theorem State.edged_placeEdge (i ev t : Nat) : s.Edged (s.placeEdge i ev t) :=
  .ite (.onLc (.refl s) ..) (.ite (.onLink (.refl s) ..) (.refl s))

theorem State.edged_unplace (i : Nat) (p : Pulse) : s.Edged (s.unplace i p) := by
  unfold State.unplace
  extract_lets s1 s2
  have h1 : s.Edged s1 := by
    simp only [s1]
    split
    · exact s.edged_removeEdge ..
    · exact .refl s
  have h2 : s1.Edged s2 := by
    simp only [s2]
    split
    · exact s1.edged_removeEdge ..
    · exact .refl s1
  exact (h1.trans h2).onPh ..

theorem State.edged_addPulse (i : Nat) (p : Pulse) : s.Edged (s.addPulse i p) := by
  unfold State.addPulse
  extract_lets s1 s2
  have h1 : s.Edged s1 := by
    simp only [s1]
    split
    · exact s.edged_placeEdge ..
    · exact .refl s
  have h2 : s1.Edged s2 := by
    simp only [s2]
    split
    · exact s1.edged_placeEdge ..
    · exact .refl s1
  exact (h1.trans h2).onPh ..

theorem State.edged_replacePulse (i : Nat) (p q : Pulse) : s.Edged (s.replacePulse i p q) := by
  have hr (s : State) (ev : Nat) (o o' : Option Nat) :
      s.Edged (if o = o' then s else match o with | some t => s.removeEdge i ev t | none => s) := by
    refine .ite (.refl s) ?_
    split
    · exact s.edged_removeEdge ..
    · exact .refl s
  have hp (s : State) (ev : Nat) (o o' : Option Nat) :
      s.Edged (if o = o' then s else match o' with | some t => s.placeEdge i ev t | none => s) := by
    refine .ite (.refl s) ?_
    split
    · exact s.edged_placeEdge ..
    · exact .refl s
  unfold State.replacePulse
  refine .ite (.refl s) ?_
  extract_lets s1 s2 s3 s4
  have h1 : s.Edged s1 := hr s 1 p.on q.on
  have h2 : s1.Edged s2 := hr s1 2 p.off q.off
  have h3 : s2.Edged s3 := hp s2 1 p.on q.on
  have h4 : s3.Edged s4 := hp s3 2 p.off q.off
  exact (((h1.trans h2).trans h3).trans h4).onPh ..

theorem State.edged_releasePhase (i x : Nat) : s.Edged (s.releasePhase i x) := .foldl _ (fun s _ => s.edged_replacePulse ..) _ s

theorem State.edged_onDriven (c : State → Nat → Bool) (f : State → Nat → State) (hf : ∀ (s : State) i, s.Edged (f s i)) :
    s.Edged (s.onDriven c f) := .foldl _ (fun s i => .ite (hf s i) (.refl s)) _ s

theorem State.edged_releaseTo (c x : Nat) : s.Edged (s.releaseTo c x) := s.edged_onDriven _ _ fun s i => s.edged_releasePhase i x

theorem State.edged_redrive (cs : List Nat) (x : Nat) : s.Edged (s.redrive cs x) := s.edged_onDriven _ _ fun s i => s.edged_releasePhase i x

theorem State.edged_outputGone (c : Nat) : s.Edged (s.outputGone c) :=
  s.edged_onDriven _ _ fun s _ => .foldl _ (fun s _ => .ite (.refl s) (s.edged_replacePulse ..)) _ s

theorem State.edged_dropPulses (i : Nat) : s.Edged (s.dropPulses i) := .foldl _ (fun s _ => s.edged_unplace ..) _ s

theorem State.edged_placePeriod (k start len lim : Nat) : s.Edged (s.placePeriod k start len lim) := by
  refine .foldl _ (fun s i => .ite (.refl s) ?_) _ s
  extract_lets s1 s2
  exact (((State.Edged.foldl _ (fun s p => s.edged_unplace i p) _ s).onPh ..).trans (State.edged_addPulse ..))

end

/-! ## Active sets -/

/-- The registers of stages and phases, with their sums. -/
def shapeReg (a : Nat) : Prop := (0x11000 ≤ a ∧ a % 0x20 = 0x10) ∨ phaseReg a ∨ a = Reg.PHS_STAT ∨ a = Reg.PHS_CAPREQ ∨ a = Reg.SHF_FTRUN

section
variable {R : Nat → Nat → Prop} {E : Nat → Prop} (hR : ∀ a i, shapeReg a → R a i) (s : State)
include hR

theorem State.frame_ptStat {x : State} (h : State.Frame R E s x) (i hi lo v : Nat) : State.Frame R E s (x.put (Reg.PT_STAT i) hi lo v) :=
  h.put _ _ _ _ (fun _ _ _ _ => hR _ _ (.inl (by simp only [Reg.PT_STAT]; omega)))

theorem State.frame_stStat {x : State} (h : State.Frame R E s x) (k hi lo v : Nat) : State.Frame R E s (x.put (Reg.ST_STAT k) hi lo v) :=
  h.put _ _ _ _ (fun _ _ _ _ => hR _ _ (.inl (by simp only [Reg.ST_STAT]; omega)))

theorem State.frame_countPhases (k : Nat) : State.Frame R E s (s.countPhases k) := by
  unfold State.countPhases
  extract_lets ps n s1
  have h : State.Frame R E s s1 := s.frame_stStat hR (s.frame_stStat hR (s.frame_stStat hR (.refl s) ..) ..) ..
  exact h.put _ _ _ _ (fun _ _ _ _ => hR _ _ (.inr (.inr (.inl rfl))))

theorem State.frame_respaceStep (hE : E 103) (k start : Nat) : State.Frame R E s (s.respaceStep k start) := by
  unfold State.respaceStep
  extract_lets g m done s1 s2
  refine .ite ?_ (.refl s)
  have h1 : State.Frame R E s s1 := .foldl _ _ (fun s i _ => s.frame_ptStat hR (s.frame_ptStat hR (.refl s) ..) ..) s
  have h2 : State.Frame R E s s2 := h1.onSg ..
  exact .ite (.raise (s.frame_stStat hR h2 ..) _ (by decide : 103 < 256) (.inl hE)) h2

theorem State.frame_formPeriod (hE : E 103) (k start len : Nat) : State.Frame R E s (s.formPeriod k start len) := by
  unfold State.formPeriod
  extract_lets s1 s2
  have h1 : State.Frame R E s s1 := .ite (.refl s) (s.frame_respaceStep hR hE ..)
  have h2 : State.Frame R E s1 s2 := .foldl _ _ (fun s i _ => .onPh (.refl s) ..) s1
  exact .onSg (.trans (h1.trans h2) (s2.edged_placePeriod ..).frame) _ _

theorem State.frame_formNext (hE : E 103) (k : Nat) : State.Frame R E s (s.formNext k) :=
  .trans (.of (t := s.onSg k _) rfl) (State.frame_formPeriod hR _ hE ..)

theorem State.frame_reform (hE : E 103) (k : Nat) (relen : Bool) : State.Frame R E s (s.reform k relen) := by
  unfold State.reform
  extract_lets g redo kept rm
  cases redo with
  | nil => exact .refl s
  | cons f l =>
    refine State.Frame.trans ?_ (.foldl _ _ (fun s p _ => .ite (s.frame_formNext hR hE k) (s.frame_formPeriod hR hE ..)) _)
    refine .trans (.onSg (.refl s) ..) (.ite ?_ (.refl _))
    exact .trans (.onSg (.refl _) ..) (.foldl _ _ (fun s i _ => s.frame_ptStat hR (.refl s) ..) _)

theorem State.frame_setActiveFrom (hE : E 103) (k : Nat) (fresh force : Bool) : State.Frame R E s (s.setActiveFrom k fresh force) := by
  unfold State.setActiveFrom
  extract_lets want had s1 s2 s3 s4 s5
  have h1 : State.Frame R E s s1 := .foldl _ _ (fun s i _ => .ite (s.frame_ptStat hR (.refl s) ..) (.refl s)) s
  have h2 : State.Frame R E s1 s2 :=
    .foldl _ _ (fun s i _ => .ite (.refl s) (s.frame_ptStat hR (s.edged_dropPulses i).frame ..)) s1
  have h3 : State.Frame R E s2 s3 := by
    refine .foldl _ _ (fun s x _ => ?_) s2
    extract_lets t a u
    exact .ite (s.frame_ptStat hR (s.frame_ptStat hR (.onPh (.refl s) ..) ..) ..) (s.frame_ptStat hR (.onPh (.refl s) ..) ..)
  have h4 : State.Frame R E s2 s4 := (h3.onSg ..).setBit _ _ _ (hR _ _ (.inl (by simp only [Reg.ST_STAT]; omega)))
  have h5 : State.Frame R E s2 s5 := by
    refine .ite (.refl s2) (.ite ?_ (h4.trans (s4.frame_reform hR hE ..)))
    exact h3.setBit _ _ _ (hR _ _ (.inl (by simp only [Reg.ST_STAT]; omega)))
  exact ((h1.trans h2).trans h5).trans (s5.frame_countPhases hR k)

theorem State.frame_shapeSafe (hE : E 101) (k cause : Nat) (fwd : Bool) : State.Frame R E s (s.stageSafe k cause fwd) := by
  refine s.frame_stageSafe (fun a i h => hR a i ?_) hE cause fwd
  rcases h with h | rfl | h | h | h
  · exact .inr (.inl h)
  · exact .inl (by simp only [Reg.ST_STAT]; omega)
  · exact .inr (.inr (.inl h.1))
  · exact .inr (.inr (.inr (.inl h)))
  · exact .inr (.inr (.inr (.inr h)))

theorem State.frame_stageFaultCheck (hE : E 101) (k : Nat) : State.Frame R E s (s.stageFaultCheck k) :=
  .ite (.trans (.fault (.refl s) ..) (State.frame_shapeSafe hR _ hE ..)) (.refl s)

theorem State.frame_phaseForce (h1 : E 101) (h3 : E 103) {i : Nat} (hi : i < 128) : State.Frame R E s (s.phaseForce i) := by
  have hf : State.Frame R E s (s.forcePhases [i] 11) :=
    s.frame_forcePhases (fun a i h => hR a i (.inr (.inl h))) _ (fun _ h => List.mem_singleton.mp h ▸ hi) _
  exact .ite hf ((hf.trans (State.frame_setActiveFrom hR _ h3 ..)).trans (State.frame_stageFaultCheck hR _ h1 _))

end

end Sys2Proof.Machine
end

section
/-!
PROOFS. The injection block (O51).
-/

namespace Sys2Proof.Machine

/-! ## The safe state of an injected message's scope -/

/-- The registers above the system's own. -/
def itemReg (a : Nat) : Prop := 0x1000 ≤ a

theorem itemReg_of_shape {a : Nat} (h : shapeReg a) : itemReg a := by
  simp only [shapeReg, phaseReg, Reg.PHS_STAT, Reg.PHS_CAPREQ, Reg.SHF_FTRUN] at h
  unfold itemReg
  omega

theorem kindIdx_lt {m : FltMsg} {k : Nat} (h : m.kindIdx = some k) : k < 27 := by
  unfold FltMsg.kindIdx at h
  split at h
  · cases h; decide
  · split at h
    · cases h; decide
    · exact Nat.lt_trans (List.mem_range.mp (List.mem_of_find?_eq_some h)) (by decide)

/-- The items that the scope codes name. -/
def scopeItem (s : State) (c i : Nat) : Bool :=
  match c with
  | 0 => decide (i < 256)
  | 1 => decide (i < 128) && s.phValid i
  | 2 => decide (i < 32)
  | 3 => decide (i < 16)
  | 4 => decide (i < 64) && s.fdrValid i
  | 7 => true
  | _ => false

theorem scope_fixed (m : FltMsg) {k : Nat} (hk : k ∈ [3, 4, 5, 13, 14, 20, 21]) : (m.scope k).1 = 7 ∨ (m.scope k).1 = 0xFF := by
  simp only [List.mem_cons, List.not_mem_nil, or_false] at hk
  rcases hk with rfl | rfl | rfl | rfl | rfl | rfl | rfl
  · exact .inr rfl
  · exact .inl rfl
  · exact .inl rfl
  all_goals exact .inr rfl

theorem scope_routed (m : FltMsg) {k : Nat} (hk : k = 17 ∨ k = 18) : (m.scope k).1 = 0xFF ∨ (m.scope k).2 = m.inst := by
  have h : ∀ b : Prop, [Decidable b] → ∀ y : Nat, (if b then (0xFF, 0) else (y, m.inst)).1 = 0xFF ∨
      (if b then (0xFF, 0) else (y, m.inst)).2 = m.inst := by
    intro b _ y
    split
    · exact .inl rfl
    · exact .inr rfl
  rcases hk with rfl | rfl
  · exact h _ _
  · exact h _ _

theorem injInstOk_item {s : State} {m : FltMsg} {k : Nat} (h : s.injInstOk m k = true) (hc : m.cls = 1) :
    (m.scope k).1 = 7 ∨ (m.scope k).1 = 0xFF ∨ scopeItem s (m.scope k).1 (m.scope k).2 = true := by
  by_cases hf : k ∈ [3, 4, 5, 13, 14, 20, 21]
  · exact (scope_fixed m hf).imp_right .inl
  · by_cases hr : k = 17 ∨ k = 18
    · rcases scope_routed m hr with h1 | h1
      · exact .inr (.inl h1)
      · rw [h1]
        refine .inr (.inr ?_)
        rcases hr with rfl | rfl
        · exact h
        · have h0 : (m.cls == 0) = false := by rw [hc]; rfl
          have h18 : (m.cls == 0 || scopeItem s (m.scope 18).1 m.inst) = true := h
          rwa [h0, Bool.false_or] at h18
    · simp only [List.mem_cons, List.not_mem_nil, or_false, not_or] at hf hr
      obtain ⟨h3, h4, h5, h13, h14, h20, h21⟩ := hf
      have hd : ((m.scope k).1 == 0xFF || scopeItem s (m.scope k).1 (m.scope k).2) = true := by
        unfold State.injInstOk at h
        extract_lets item x at h
        split at h
        · exact absurd rfl h3
        · exact absurd rfl h4
        · exact absurd rfl h5
        · exact absurd rfl h13
        · exact absurd rfl h14
        · exact absurd rfl hr.1
        · exact absurd rfl hr.2
        · exact absurd rfl h20
        · exact absurd rfl h21
        · exact h
      exact .inr ((Bool.or_eq_true_iff.mp hd).imp_left beq_iff_eq.mp)

/-- An item that its scope has. -/
def scopeFits (x : Nat × Nat) : Prop := (x.1 = 1 → x.2 < 128) ∧ (x.1 = 3 → x.2 < 16) ∧ (x.1 = 4 → x.2 < 64)

theorem scopeItem_fits {s : State} {c i : Nat} (h : c = 7 ∨ c = 0xFF ∨ scopeItem s c i = true) : scopeFits (c, i) := by
  refine ⟨fun hc => ?_, fun hc => ?_, fun hc => ?_⟩
  all_goals
    subst hc
    simp only [Nat.reduceEqDiff, false_or] at h
  · exact of_decide_eq_true (Bool.and_eq_true_iff.mp h).1
  · exact of_decide_eq_true h
  · exact of_decide_eq_true (Bool.and_eq_true_iff.mp h).1

theorem injInstOk_fits {s : State} {m : FltMsg} {k : Nat} (h : s.injInstOk m k = true) (hc : m.cls = 1) : scopeFits (m.scope k) :=
  scopeItem_fits (injInstOk_item h hc)

theorem itemReg_of_stage {k a i : Nat} (h : stageReg k a i) : itemReg a := by
  simp only [stageReg, phaseReg, Reg.PHS_STAT, Reg.PHS_CAPREQ, Reg.SHF_FTRUN, Reg.ST_STAT] at h
  unfold itemReg
  omega

section
variable {E : Nat → Prop} (hE : ∀ n, 101 ≤ n → E n) (s : State)
include hE

theorem State.frame_itemTrip {f : Nat} (hf : f < 64) (cause : Nat) (fwd : Bool) :
    State.Frame (fun a _ => itemReg a) E s (s.tripState f cause fwd) :=
  s.frame_tripState hf (fun _ _ => by simp only [itemReg, Reg.FDR_CTL]; omega) (hE _ (by omega)) ..

theorem State.frame_tripReflex {f : Nat} (hf : f < 64) (cause : Nat) (fwd : Bool) :
    State.Frame (fun a _ => itemReg a) E s (s.tripReflex f cause fwd) :=
  .ite ((s.frame_itemTrip hE hf ..).trans (State.frame_sendReflex _ (fun _ _ h => itemReg_of_shape (.inr (.inl h))) (fieldOf_lt ..) ..))
    (s.frame_tripAgain (fun _ _ => by simp only [itemReg, Reg.FDR_CTL]; omega) _)

theorem State.frame_linkSafe {n : Nat} (hn : n < 16) : State.Frame (fun a _ => itemReg a) E s (s.linkSafe n) := by
  unfold State.linkSafe
  extract_lets s1 s2
  have h1 : State.Frame (fun a _ => itemReg a) E s s1 := s.frame_sendReflex (fun _ _ h => itemReg_of_shape (.inr (.inl h))) hn ..
  have h2 : State.Frame (fun a _ => itemReg a) E s1 s2 :=
    .foldl _ _ (fun s k _ => (s.frame_stageFaultSafe (fun _ _ h => itemReg_of_stage h) (hE _ (by decide)) ..).trans (State.frame_forward ..)) s1
  refine (h1.trans h2).trans (.foldl _ _ (fun s f hf => .ite ((s.frame_itemTrip hE ?_ ..).trans (State.frame_forward ..)) (.refl s)) _)
  exact List.mem_range.mp (List.mem_filter.mp hf).1

theorem State.frame_injSafe (m : FltMsg) (k : Nat) (hi : scopeFits (m.scope k)) :
    State.Frame (fun a _ => itemReg a) E s (s.injSafe m k) := by
  unfold State.injSafe
  generalize m.scope k = x at hi ⊢
  obtain ⟨scope, i⟩ := x
  dsimp only at hi ⊢
  split
  · exact .of rfl
  · exact s.frame_phaseForce (fun _ _ h => itemReg_of_shape h) (hE _ (by decide)) (hE _ (by decide)) (hi.1 rfl)
  · exact s.frame_stageFaultSafe (fun _ _ h => itemReg_of_stage h) (hE _ (by decide)) ..
  · exact s.frame_linkSafe hE (hi.2.1 rfl)
  · exact { s.frame_tripReflex hE (hi.2.2 rfl) 3 false with inq := List.Subset.refl _ }
  · exact .refl s

end

/-! ## Writes of the injection block -/

/-- The registers of the block that start something. -/
def injGo (k : Nat) : Prop := k = Reg.INJ_LOCK ∨ k = Reg.INJ_LCTL ∨ k = Reg.INJ_ECTL ∨ k = Reg.INJ_LANE ∨ k = Reg.INJ_FMGO

/-- The state with the first key of INJ_KEY forgotten. -/
def State.keyless (s : State) : State := { s with flt := { s.flt with injKey := none } }

section
variable {s : State} (hr : s.runs = true) (hs : s.unit.sealed = false) (p : Port) (v : Word)
include hr hs

theorem State.hostWrite_injGo {k : Nat} {r : RegRow} (hk : injGo k) (hrow : rowOfKey k = some r) :
    (s.hostWrite p k v).Counted (s.injWrite k (v &&& word r.known)) := by
  rcases hk with rfl | rfl | rfl | rfl | rfl
  all_goals
    exact s.hostWrite_fixed_counted p _ _ v r _ (State.fabricUp_runs s hr) (State.mapped_runs s _ hr (.inl hs)) (by decide)
      (by cases p <;> rfl) rfl hrow (by decide) (by decide) (by decide) rfl

theorem State.hostWrite_injKey : (s.hostWrite p Reg.INJ_KEY v).Counted (s.injKeyWrite (v &&& word 0xFFFF)) :=
  s.hostWrite_fixed_counted p _ _ v ⟨0xB00, 0x10000000, 1, 4, 1, 0, 0, 0, 0, 0xFFFF, 0xFFFF, none, []⟩ _ (State.fabricUp_runs s hr)
    (State.mapped_runs s _ hr (.inl hs)) (by decide) (by cases p <;> rfl) rfl rfl (by decide) (by decide) (by decide) rfl

end

theorem State.injWrite_locked {s : State} (h : s.bit Reg.INJ_STAT 31 = false) (k : Nat) (v : Word) : s.injWrite k v = s.keyless := by
  have hl : (!s.keyless.bit Reg.INJ_STAT 31) = true := by rw [show s.keyless.bit Reg.INJ_STAT 31 = false from h]; rfl
  exact if_pos hl

section
variable {s : State} (h : s.bit Reg.INJ_STAT 31 = true) (v : Word)
include h

theorem State.keyless_unlocked : ¬ (!s.keyless.bit Reg.INJ_STAT 31) = true := by
  rw [show s.keyless.bit Reg.INJ_STAT 31 = true from h]
  decide

theorem State.injWrite_lock (hv : bitOf v 31 = true) : s.injWrite Reg.INJ_LOCK v = s.keyless.injLock :=
  (if_neg (State.keyless_unlocked h)).trans ((if_pos rfl).trans (if_pos hv))

theorem State.injWrite_lctl : s.injWrite Reg.INJ_LCTL v = s.keyless.injLctl v := (if_neg (State.keyless_unlocked h)).trans rfl

theorem State.injWrite_ectl : s.injWrite Reg.INJ_ECTL v = s.keyless.injEctl v := (if_neg (State.keyless_unlocked h)).trans rfl

theorem State.injWrite_lane : s.injWrite Reg.INJ_LANE v = s.keyless.injLane v := (if_neg (State.keyless_unlocked h)).trans rfl

theorem State.injWrite_fmgo : s.injWrite Reg.INJ_FMGO v = s.keyless.injFmgo v := (if_neg (State.keyless_unlocked h)).trans rfl

end

/-! ## The outcomes -/

/-- The block is locked and nothing is armed. -/
def InjLocked (s t : State) : Prop :=
  t.bit Reg.INJ_STAT 31 = false ∧ t.bit Reg.INJ_STAT 29 = false ∧ t.bit Reg.INJ_STAT 28 = false ∧ Keeps s t [Reg.INJ_STAT]

/-- An injection is refused with the code, and nothing else of it. -/
def InjRefused (s : State) (c : Nat) (w : List Nat) (t : State) : Prop :=
  t.fld Reg.INJ_STAT 7 0 = c ∧ t.linj = s.linj ∧ t.flt.inq = s.flt.inq ∧
    t.fld Reg.INJ_STAT 31 28 = s.fld Reg.INJ_STAT 31 28 ∧ Keeps s t (Reg.INJ_STAT :: w)

section
variable {s t u : State} (h : t.Counted u)
include h

theorem InjLocked.counted (hu : InjLocked s u) : InjLocked s t := by
  obtain ⟨h1, h2, h3, h4⟩ := hu
  have hr := h.rd (a := Reg.INJ_STAT) (by decide)
  refine ⟨?_, ?_, ?_, h.keeps h4⟩ <;> rwa [State.bit, hr]

theorem InjRefused.counted {c : Nat} {w : List Nat} (hu : InjRefused s c w u) : InjRefused s c w t := by
  obtain ⟨h1, h2, h3, h4, h5⟩ := hu
  have hr := h.rd (a := Reg.INJ_STAT) (by decide)
  obtain ⟨_, _, he⟩ := h.fields
  refine ⟨?_, ?_, ?_, ?_, h.keeps h5⟩
  · rwa [State.fld, hr]
  · rwa [he]
  · rwa [he]
  · rwa [State.fld, hr]

end

theorem State.injLock_locked (s : State) : InjLocked s s.injLock := by
  refine ⟨?_, ?_, ?_, ?_⟩
  · rw [State.injLock, State.bit_setBit_ne _ _ _ _ _ (by decide) (by decide), State.bit_setBit_ne _ _ _ _ _ (by decide) (by decide)]
    exact State.bit_setBit _ _ _ _ (by decide)
  · rw [State.injLock, State.bit_setBit_ne _ _ _ _ _ (by decide) (by decide)]
    exact State.bit_setBit _ _ _ _ (by decide)
  · exact State.bit_setBit _ _ _ _ (by decide)
  · exact (((Keeps.of (regsKept_refl _ _) rfl rfl : Keeps s s.keyless _).setBit _ _ (by simp)).setBit _ _ (by simp)).setBit _ _ (by simp)

theorem State.injRefuse_refused {s x : State} {w : List Nat} {c : Nat} (hc : c < 256) (hk : Keeps s x w)
    (hr : x.rd Reg.INJ_STAT = s.rd Reg.INJ_STAT) (hl : x.linj = s.linj) (hq : x.flt.inq = s.flt.inq) :
    InjRefused s c w (x.injRefuse c) := by
  refine ⟨?_, hl, hq, ?_, (hk.mono (List.subset_cons_self _ _)).put _ _ _ List.mem_cons_self⟩
  · rw [State.injRefuse, State.fld_put _ _ _ _ _ (by decide)]
    exact Nat.mod_eq_of_lt hc
  · rw [State.fld, State.injRefuse, State.rd_put_same, fieldOf_setField_ne _ _ _ _ _ _ (by decide) (.inr (by decide)), hr, State.fld]

/-! ## INJ_KEY -/

section
variable {s : State}

theorem State.injKeyWrite_first {v : Word} (hv : fieldOf v 15 0 = 0x494E) :
    s.injKeyWrite v = { s with flt := { s.flt with injKey := some s.time.mono } } := by
  simp [State.injKeyWrite, hv]

theorem State.injKeyWrite_second {v : Word} (hv : fieldOf v 15 0 = 0x4A21) {x : BitVec 64} (hx : s.flt.injKey = some x) :
    s.injKeyWrite v = if (s.time.mono - x).toNat ≤ 800000 then
      (if s.tokOk [5] then ((s.keyless.setBit Reg.INJ_STAT 31 true).injRefuse 0).raise (E.INJ_UNLOCKED 0) else s.keyless.injRefuse 4)
      else s.keyless := by
  simp [State.injKeyWrite, hv, hx, State.keyless]

end

/-! ## An injection made -/

theorem State.injected_count (s : State) : s.injected.fld Reg.INJ_CNT 15 0 = min (s.fld Reg.INJ_CNT 15 0 + 1) 0xFFFF := by
  have h : s.injected.rd Reg.INJ_CNT = ((s.bump Reg.INJ_CNT 15 0 1).raiseWith (E.INJ_APPLIED 0) [] true false).rd Reg.INJ_CNT := rfl
  rw [State.fld_eq, h, State.raiseWith_rd _ _ _ _ _ _ (by decide) (by decide), State.rd_bump_same]
  exact fieldOf_setField_min _ _ _ _ (by decide)

theorem State.injected_raised (s : State) : Raised s s.injected (E.INJ_APPLIED 0) :=
  (State.raiseWith_raised (s.bump Reg.INJ_CNT 15 0 1) _ _ _ _ : Raised _ _ _)

theorem State.injected_rd (s : State) {a : Nat} (hs : sideReg a = false) (h1 : a ≠ Reg.INJ_STAT) (h2 : a ≠ Reg.INJ_EADDR)
    (h3 : a ≠ Reg.INJ_CNT) : s.injected.rd a = s.rd a :=
  s.frame_injected.rd (fun _ _ h => by rcases h with h | h | h <;> contradiction) hs

theorem State.injected_stat (s : State) : s.injected.rd Reg.INJ_STAT = s.rd Reg.INJ_STAT := by
  have h : s.injected.rd Reg.INJ_STAT = ((s.bump Reg.INJ_CNT 15 0 1).raiseWith (E.INJ_APPLIED 0) [] true false).rd Reg.INJ_STAT := rfl
  rw [h, State.raiseWith_rd _ _ _ _ _ _ (by decide) (by decide), State.rd_bump_ne _ _ _ _ _ _ (by decide)]

theorem Keeps.injected {s x : State} {w : List Nat} (h : Keeps s x w) (hw : Reg.INJ_CNT ∈ w) : Keeps s x.injected w :=
  ((h.bump _ _ _ hw).raiseWith (src := 38) (k := 1) (i := 0) _ _ _ (by decide)).trans (.of (regsKept_refl _ _) rfl rfl)

/-- A link injection starts (R375). -/
def State.takeLinkInj (s : State) (x : LinkInj) : State :=
  ((({ s with linj := some x }.injRefuse 0).setBit Reg.INJ_STAT 30 true).wrN Reg.INJ_LCNT 0).injected

/-- The injection of a link that INJ_LCTL starts (R375). -/
def State.linkInj (s : State) (v : Word) : LinkInj :=
  { link := fieldOf v 3 0, up := bitOf v 4, op := fieldOf v 7 5, n := max 1 (fieldOf v 15 8),
    left := match fieldOf v 7 5 with
      | 3 => 2
      | 4 => s.fld Reg.INJ_LDUR 15 0
      | _ => max 1 (fieldOf v 15 8),
    start := fieldOf v 23 16, open_ := false, kept := [] }

theorem State.injLctl_go (s : State) {v : Word} (hv : bitOf v 31 = true) : s.injLctl v =
    let x := s.wr Reg.INJ_LCTL (v &&& 0x00FFFFFF)
    if 5 ≤ fieldOf v 7 5 then x.injRefuse 5
    else if x.linj.isSome then x.injRefuse 3
    else if !x.linkUp (fieldOf v 3 0) then x.injRefuse 6
    else x.takeLinkInj (x.linkInj v) :=
  if_pos hv

/-- The fields of a write that starts an injection. -/
theorem fieldOf_go (v : Word) {m hi lo : Nat} (hm : ∀ i < 32, lo ≤ i → i ≤ hi → (word m).getLsbD i = true) (hh : hi < 31) :
    fieldOf (withBit v 31 &&& word m) hi lo = fieldOf v hi lo := by
  rw [fieldOf_and _ _ _ _ hm (by omega), fieldOf_withBit _ _ _ _ (by omega) (.inl hh)]

theorem bitOf_go (v : Word) {m i : Nat} (hm : (word m).getLsbD i = true) (hi : i < 31) : bitOf (withBit v 31 &&& word m) i = bitOf v i := by
  rw [bitOf_and _ _ _ hm, bitOf_withBit _ _ _ (by omega), if_neg (by omega)]

theorem bitOf_go_top (v : Word) {m : Nat} (hm : (word m).getLsbD 31 = true) : bitOf (withBit v 31 &&& word m) 31 = true := by
  rw [bitOf_and _ _ _ hm, bitOf_withBit _ _ _ (by decide), if_pos rfl]

/-! ## The obligation -/

section
variable (p : Port) (v : Word) (s : State) (hr : s.runs = true) (hs : s.unit.sealed = false)
include hr hs

theorem injUnlock_shows :
    (fieldOf v 15 0 = 0x494E → Completes (.injUnlock p v) s (fun t => t.flt.injKey = some s.time.mono ∧ Keeps s t [])) ∧
    (fieldOf v 15 0 = 0x4A21 → ∀ x, s.flt.injKey = some x →
      ((s.time.mono - x).toNat ≤ 800000 → s.tokOk [5] = true → Completes (.injUnlock p v) s (fun t =>
        t.bit Reg.INJ_STAT 31 = true ∧ t.fld Reg.INJ_STAT 7 0 = 0 ∧ Raised s t (E.INJ_UNLOCKED 0) ∧ Keeps s t [Reg.INJ_STAT])) ∧
      ((s.time.mono - x).toNat ≤ 800000 → s.tokOk [5] = false → Completes (.injUnlock p v) s (fun t =>
        t.bit Reg.INJ_STAT 31 = s.bit Reg.INJ_STAT 31 ∧ t.fld Reg.INJ_STAT 7 0 = 4 ∧ Keeps s t [Reg.INJ_STAT])) ∧
      (800000 < (s.time.mono - x).toNat → Completes (.injUnlock p v) s (fun t => t.flt.injKey = none ∧ Keeps s t []))) := by
  have hc := State.hostWrite_injKey hr hs p v
  have hv : fieldOf (v &&& word 0xFFFF) 15 0 = fieldOf v 15 0 :=
    fieldOf_and _ _ _ _ (fun i hi _ h => by interval_cases i <;> rfl) (by decide)
  have hk (w : List Nat) : Keeps s s.keyless w := .of (regsKept_refl _ _) rfl rfl
  refine ⟨fun h1 => ?_, fun h2 x hx => ⟨fun hle htok => ?_, fun hle htok => ?_, fun hlt => ?_⟩⟩
  · rw [State.injKeyWrite_first (hv.trans h1)] at hc
    obtain ⟨_, _, he⟩ := hc.fields
    exact ⟨_, rfl, by rw [he], hc.keeps (.of (regsKept_refl _ _) rfl rfl)⟩
  all_goals rw [State.injKeyWrite_second (hv.trans h2) hx] at hc
  · rw [if_pos hle, if_pos htok] at hc
    have hrd := (hc.rd (a := Reg.INJ_STAT) (by decide)).trans (State.rd_raise _ _ _ _ _ (by decide) (by decide) (by decide))
    refine ⟨_, rfl, ?_, ?_, hc.raised (.of (List.Subset.refl _) rfl),
      hc.keeps ((((hk _).setBit _ _ (by simp)).put _ _ _ (by simp)).raise (by decide))⟩
    · rw [State.bit, hrd, State.injRefuse, ← State.bit, State.bit_put _ _ _ _ _ _ (by decide)]
      exact State.bit_setBit _ _ _ _ (by decide)
    · rw [State.fld, hrd]
      exact State.fld_put _ _ _ _ _ (by decide)
  · rw [if_pos hle, if_neg (ne_true_of_eq_false htok)] at hc
    have hrd := hc.rd (a := Reg.INJ_STAT) (by decide)
    refine ⟨_, rfl, ?_, ?_, hc.keeps ((hk _).put _ _ _ (by simp))⟩
    · rw [State.bit, hrd, State.injRefuse, ← State.bit, State.bit_put _ _ _ _ _ _ (by decide)]
      rfl
    · rw [State.fld, hrd]
      exact State.fld_put _ _ _ _ _ (by decide)
  · rw [if_neg (by omega)] at hc
    obtain ⟨_, _, he⟩ := hc.fields
    exact ⟨_, rfl, by rw [he]; rfl, hc.keeps (hk _)⟩

/-- The block is locked, and ignores every injection command. -/
theorem injBlock_locked (h31 : s.bit Reg.INJ_STAT 31 = false) {k : Nat} {r : RegRow} (hk : injGo k) (hrow : rowOfKey k = some r) :
    let t := s.hostWrite p k v
    t.linj = s.linj ∧ t.flt.inq = s.flt.inq ∧ t.ecc = s.ecc ∧ Keeps s t [] := by
  have hc := State.hostWrite_injGo hr hs p v hk hrow
  rw [State.injWrite_locked h31] at hc
  obtain ⟨_, _, he⟩ := hc.fields
  exact ⟨by rw [he]; rfl, by rw [he]; rfl, by rw [he]; rfl, hc.keeps (.of (regsKept_refl _ _) rfl rfl)⟩

theorem injLock_shows (h31 : s.bit Reg.INJ_STAT 31 = true) : InjLocked s (s.hostWrite p Reg.INJ_LOCK (withBit v 31)) := by
  have hc := State.hostWrite_injGo hr hs p (withBit v 31) (.inl rfl)
    (r := ⟨0xB08, 0x10000000, 1, 4, 1, 0, 0, 0, 0, 0x80000000, 0x80000000, none, []⟩) rfl
  rw [State.injWrite_lock h31 _ (bitOf_go_top v rfl)] at hc
  exact (s.keyless.injLock_locked).counted hc

end

section
variable (p : Port) (v : Word) (s : State) (hr : s.runs = true) (hs : s.unit.sealed = false) (h31 : s.bit Reg.INJ_STAT 31 = true)
include hr hs h31

theorem linkInjection_counted : (s.hostWrite p Reg.INJ_LCTL (withBit v 31)).Counted (
    let x := s.keyless.wr Reg.INJ_LCTL (withBit v 31 &&& word 0x80FFFFFF &&& 0x00FFFFFF)
    if 5 ≤ fieldOf v 7 5 then x.injRefuse 5
    else if s.linj.isSome then x.injRefuse 3
    else if !s.linkUp (fieldOf v 3 0) then x.injRefuse 6
    else x.takeLinkInj (s.linkInj v)) := by
  have hc := State.hostWrite_injGo hr hs p (withBit v 31) (.inr (.inl rfl))
    (r := ⟨0xB10, 0x10000000, 1, 4, 1, 0, 0xFFFFFF, 0, 0, 0x80000000, 0x80FFFFFF, none, []⟩) rfl
  rw [State.injWrite_lctl h31, State.injLctl_go _ (bitOf_go_top v rfl)] at hc
  have h5 : fieldOf (withBit v 31 &&& word 0x80FFFFFF) 7 5 = fieldOf v 7 5 :=
    fieldOf_go v (fun i hi _ h => by interval_cases i <;> rfl) (by decide)
  have h3 : fieldOf (withBit v 31 &&& word 0x80FFFFFF) 3 0 = fieldOf v 3 0 :=
    fieldOf_go v (fun i hi _ h => by interval_cases i <;> rfl) (by decide)
  have h8 : fieldOf (withBit v 31 &&& word 0x80FFFFFF) 15 8 = fieldOf v 15 8 :=
    fieldOf_go v (fun i hi _ h => by interval_cases i <;> rfl) (by decide)
  have h16 : fieldOf (withBit v 31 &&& word 0x80FFFFFF) 23 16 = fieldOf v 23 16 :=
    fieldOf_go v (fun i hi _ h => by interval_cases i <;> rfl) (by decide)
  have h4 : bitOf (withBit v 31 &&& word 0x80FFFFFF) 4 = bitOf v 4 := bitOf_go v rfl (by decide)
  have hx (x : State) (hx : x.fld Reg.INJ_LDUR 15 0 = s.fld Reg.INJ_LDUR 15 0) :
      x.linkInj (withBit v 31 &&& word 0x80FFFFFF) = s.linkInj v := by
    simp only [State.linkInj, h5, h3, h8, h16, h4, hx]
  have hd : ∀ w, (s.keyless.wr Reg.INJ_LCTL w).fld Reg.INJ_LDUR 15 0 = s.fld Reg.INJ_LDUR 15 0 := fun w => by
    rw [State.fld, State.rd_wr_ne _ _ _ _ (by decide)]
    rfl
  have hl : ∀ w, (s.keyless.wr Reg.INJ_LCTL w).linkUp (fieldOf v 3 0) = s.linkUp (fieldOf v 3 0) := fun w => by
    rw [State.linkUp, State.linkState, State.fld, State.rd_wr_ne _ _ _ _ (by simp only [Reg.LNK_STAT, Reg.INJ_LCTL]; omega)]
    rfl
  simp only [hx _ (hd _), h5, h3, hl] at hc
  exact hc

theorem eccInjection_counted : (s.hostWrite p Reg.INJ_ECTL (withBit v 31)).Counted (
    let x := s.keyless.wr Reg.INJ_ECTL (withBit v 31 &&& word 0x8F80FFFF &&& 0x0F80FFFF)
    if 9 ≤ fieldOf v 27 24 || 136 < fieldOf v 7 0 || (bitOf v 23 && 136 < fieldOf v 15 8) then x.injRefuse 5
    else (x.setBit Reg.INJ_STAT 29 true).injRefuse 0) := by
  have hc := State.hostWrite_injGo hr hs p (withBit v 31) (.inr (.inr (.inl rfl)))
    (r := ⟨0xB30, 0x10000000, 1, 4, 1, 0, 0xF80FFFF, 0, 0, 0x80000000, 0x8F80FFFF, none, []⟩) rfl
  have h24 : fieldOf (withBit v 31 &&& word 0x8F80FFFF) 27 24 = fieldOf v 27 24 :=
    fieldOf_go v (fun i hi _ h => by interval_cases i <;> rfl) (by decide)
  have h7 : fieldOf (withBit v 31 &&& word 0x8F80FFFF) 7 0 = fieldOf v 7 0 :=
    fieldOf_go v (fun i hi _ h => by interval_cases i <;> rfl) (by decide)
  have h8 : fieldOf (withBit v 31 &&& word 0x8F80FFFF) 15 8 = fieldOf v 15 8 :=
    fieldOf_go v (fun i hi _ h => by interval_cases i <;> rfl) (by decide)
  have h23 : bitOf (withBit v 31 &&& word 0x8F80FFFF) 23 = bitOf v 23 := bitOf_go v rfl (by decide)
  rw [State.injWrite_ectl h31, State.injEctl, if_pos (bitOf_go_top v rfl)] at hc
  simp only [h24, h7, h8, h23] at hc
  exact hc

theorem laneInjection_counted : (s.hostWrite p Reg.INJ_LANE (withBit v 31)).Counted
    (((s.keyless.wr Reg.INJ_LANE (withBit v 31 &&& word 0x800000FF &&& 0xFF)).setBit Reg.INJ_STAT 28 true).injRefuse 0) := by
  have hc := State.hostWrite_injGo hr hs p (withBit v 31) (.inr (.inr (.inr (.inl rfl))))
    (r := ⟨0xB38, 0x10000000, 1, 4, 1, 0, 0xFF, 0, 0, 0x80000000, 0x800000FF, none, []⟩) rfl
  rwa [State.injWrite_lane h31, State.injLane, if_pos (bitOf_go_top v rfl)] at hc

/-- What the message of INJ_FMGO makes of the state (R378). -/
def State.sendInjected (s : State) (m : FltMsg) (k : Nat) : State :=
  (if m.cls = 1 then (s.injRefuse 0).injected.injSafe m k else (s.injRefuse 0).injected).sendFault m

theorem faultInjection_counted : (s.hostWrite p Reg.INJ_FMGO (withBit v 31)).Counted (
    match s.injMessage.kindIdx with
    | none => s.keyless.injRefuse 5
    | some k => if s.injInstOk s.injMessage k then s.keyless.sendInjected s.injMessage k else s.keyless.injRefuse 5) := by
  have hc := State.hostWrite_injGo hr hs p (withBit v 31) (.inr (.inr (.inr (.inr rfl))))
    (r := ⟨0xB48, 0x10000000, 1, 4, 1, 0, 0, 0, 0, 0x80000000, 0x80000000, none, []⟩) rfl
  rw [State.injWrite_fmgo h31, State.injFmgo, if_pos (bitOf_go_top v rfl)] at hc
  exact hc

theorem linkInjection_taken (h5 : fieldOf v 7 5 < 5) (hl : s.linj = none) (hu : s.linkUp (fieldOf v 3 0) = true) :
    Completes (.linkInjection p v) s (fun t =>
      t.linj.map (fun x => (x.link, x.up, x.op, x.n, x.start)) =
        some (fieldOf v 3 0, bitOf v 4, fieldOf v 7 5, max 1 (fieldOf v 15 8), fieldOf v 23 16) ∧
      t.bit Reg.INJ_STAT 30 = true ∧ t.fld Reg.INJ_STAT 7 0 = 0 ∧
      t.fld Reg.INJ_CNT 15 0 = min (s.fld Reg.INJ_CNT 15 0 + 1) 0xFFFF ∧ Raised s t (E.INJ_APPLIED 0) ∧
      Keeps s t [Reg.INJ_LCTL, Reg.INJ_STAT, Reg.INJ_LCNT, Reg.INJ_CNT]) := by
  have hc := linkInjection_counted p v s hr hs h31
  rw [hl, hu] at hc
  simp only [Nat.not_le.mpr h5, if_false, Option.isSome_none, Bool.false_eq_true, Bool.not_true] at hc
  generalize hx : s.keyless.wr Reg.INJ_LCTL (withBit v 31 &&& word 0x80FFFFFF &&& 0x00FFFFFF) = x at hc
  have hxk : Keeps s x [Reg.INJ_LCTL, Reg.INJ_STAT, Reg.INJ_LCNT, Reg.INJ_CNT] := by
    rw [← hx]
    exact (Keeps.of (regsKept_refl _ _) rfl rfl : Keeps s s.keyless _).wr _ (by simp)
  have hxq : x.evq = s.evq := by rw [← hx]; rfl
  have hxc : x.fld Reg.INJ_CNT 15 0 = s.fld Reg.INJ_CNT 15 0 := by
    rw [State.fld, ← hx, State.rd_wr_ne _ _ _ _ (by decide)]
    rfl
  have hrd := (hc.rd (a := Reg.INJ_STAT) (by decide)).trans (State.injected_stat _)
  rw [State.rd_wrN_ne _ _ _ _ (by decide)] at hrd
  obtain ⟨_, _, he⟩ := hc.fields
  refine ⟨_, rfl, ?_, ?_, ?_, ?_, hc.raised fun hf => ?_, hc.keeps ?_⟩
  · rw [he]
    have hj : (x.takeLinkInj (s.linkInj v)).linj = some (s.linkInj v) := State.raiseWith_linj ..
    rw [hj]
    rfl
  · rw [State.bit, hrd, ← State.bit]
    exact State.bit_setBit _ _ _ _ (by decide)
  · rw [State.fld, hrd, ← State.fld, State.setBit, State.fld_put_disj _ _ _ _ _ _ _ (by decide) (.inl (by decide))]
    exact State.fld_put _ _ _ _ _ (by decide)
  · rw [State.fld, hc.rd (by decide), ← State.fld]
    refine (State.injected_count _).trans ?_
    rw [State.fld, State.rd_wrN_ne _ _ _ _ (by decide), State.rd_setBit_ne _ _ _ _ _ (by decide), State.injRefuse,
      State.rd_put_ne _ _ _ _ _ _ (by decide)]
    exact congrArg (fun n => min (n + 1) 0xFFFF) hxc
  · have hf' : x.pulseFits (E.INJ_APPLIED 0).src = true := by simpa only [State.pulseFits, hxq] using hf
    exact State.injected_raised _ hf'
  · refine Keeps.injected ?_ (by simp)
    have hj : Keeps s { x with linj := some (s.linkInj v) } [Reg.INJ_LCTL, Reg.INJ_STAT, Reg.INJ_LCNT, Reg.INJ_CNT] :=
      hxk.trans (.of (regsKept_refl _ _) rfl rfl)
    exact ((hj.put _ _ _ (by simp)).setBit _ _ (by simp)).wr _ (by simp)

theorem faultInjection_sent {k : Nat} (hk : s.injMessage.kindIdx = some k) (hi : s.injInstOk s.injMessage k = true)
    (hroom : s.injMessage.cls ≠ 0 ∨ s.flt.inq.length < 256) :
    Completes (.faultMessageInjection p v) s (fun t => s.injMessage ∈ t.flt.inq ∧ t.fld Reg.INJ_STAT 7 0 = 0 ∧
      t.fld Reg.INJ_CNT 15 0 = min (s.fld Reg.INJ_CNT 15 0 + 1) 0xFFFF ∧ Raised s t (E.INJ_APPLIED 0)) := by
  have hc := faultInjection_counted p v s hr hs h31
  simp only [hk, hi, if_true] at hc
  generalize s.injMessage = m at *
  set y := (s.keyless.injRefuse 0).injected with hy
  set z := (if m.cls = 1 then y.injSafe m k else y) with hz
  have hyz : State.Frame (fun a _ => itemReg a) (· ≠ 38) y z := by
    by_cases h1 : m.cls = 1
    · rw [hz, if_pos h1]
      exact y.frame_injSafe (fun n hn => by omega) m k (injInstOk_fits hi h1)
    · rw [hz, if_neg h1]
      exact .refl y
  have hzt : State.Frame (fun a _ => itemReg a) (· ≠ 38) y (z.sendFault m) := hyz.sendFault m
  have hrd {a : Nat} (ha : a < 0x1000) (hsd : sideReg a = false) : (s.hostWrite p Reg.INJ_FMGO (withBit v 31)).rd a = y.rd a :=
    (hc.rd hsd).trans (hzt.rd (fun _ _ h => Nat.not_le.mpr ha h) hsd)
  have hyr : Raised s y (E.INJ_APPLIED 0) := fun hf => State.injected_raised (s.keyless.injRefuse 0) hf
  obtain ⟨_, _, he⟩ := hc.fields
  refine ⟨_, rfl, ?_, ?_, ?_, (hyr.mono hzt.evq).mono hc.evq⟩
  · rw [he]
    refine z.sendFault_has m ?_
    by_cases h0 : m.cls = 0
    · refine .inl ?_
      rw [hz, if_neg (by omega)]
      have hq : y.flt = s.keyless.flt := State.raiseWith_flt ((s.keyless.injRefuse 0).bump Reg.INJ_CNT 15 0 1) ..
      rw [hq]
      exact hroom.resolve_left (not_not.mpr h0)
    · exact .inr h0
  · rw [State.fld, hrd (by decide) (by decide), State.injected_stat]
    exact State.fld_put _ _ _ _ _ (by decide)
  · rw [State.fld, hrd (by decide) (by decide), ← State.fld, hy, State.injected_count, State.fld, State.injRefuse,
      State.rd_put_ne _ _ _ _ _ _ (by decide)]
    rfl

end

/-- A refusal of an injection that has written `k` of the block. -/
theorem State.injRefused_wr {s : State} {k c : Nat} {w : Word} {t : State} (hc : c < 256) (hk : k ≠ Reg.INJ_STAT)
    (ht : t.Counted ((s.keyless.wr k w).injRefuse c)) : InjRefused s c [k] t := by
  refine InjRefused.counted ht (State.injRefuse_refused hc ?_ ?_ rfl rfl)
  · exact (Keeps.of (regsKept_refl _ _) rfl rfl : Keeps s s.keyless _).wr _ List.mem_cons_self
  · exact State.rd_wr_ne _ _ _ _ hk

/-- An injection is armed by a write of `k` of the block. -/
theorem State.injArmed_wr {s t : State} {k i : Nat} {w : Word} (hk : k ≠ Reg.INJ_STAT) (hs : sideReg k = false) (hi : 8 ≤ i) (hi' : i < 32)
    (ht : t.Counted (((s.keyless.wr k w).setBit Reg.INJ_STAT i true).injRefuse 0)) :
    t.bit Reg.INJ_STAT i = true ∧ t.fld Reg.INJ_STAT 7 0 = 0 ∧ t.rd k = w ∧ t.ecc = s.ecc ∧ Keeps s t [k, Reg.INJ_STAT] := by
  have hrd := ht.rd (a := Reg.INJ_STAT) (by decide)
  obtain ⟨_, _, he⟩ := ht.fields
  refine ⟨?_, ?_, ?_, by rw [he]; rfl, ht.keeps ?_⟩
  · rw [State.bit, hrd, ← State.bit, State.injRefuse, State.bit_put _ _ _ _ _ _ hi', if_neg (by omega)]
    exact State.bit_setBit _ _ _ _ hi'
  · rw [State.fld, hrd]
    exact State.fld_put _ _ _ _ _ (by decide)
  · rw [ht.rd hs, State.injRefuse, State.rd_put_ne _ _ _ _ _ _ hk.symm, State.rd_setBit_ne _ _ _ _ _ hk.symm]
    exact State.rd_wr_same ..
  · have h : Keeps s s.keyless [k, Reg.INJ_STAT] := .of (regsKept_refl _ _) rfl rfl
    exact ((h.wr _ List.mem_cons_self).setBit _ _ (by simp)).put _ _ _ (by simp)

/-- Settles O51. -/
theorem injectionBlock : Obligations.InjectionBlock := by
  refine ⟨fun p v s hr hs => ?_, fun p v s hr hs h31 => ?_⟩
  · obtain ⟨h1, h2⟩ := injUnlock_shows p v s hr hs
    refine ⟨h1, h2, fun h31 => ⟨⟨_, rfl, injLock_shows p v s hr hs h31⟩, s.injLock, ?_, s.injLock_locked⟩, fun h31 => ?_⟩
    · have ha := State.awake_of_runs hr
      have he : exec .injIdleLock s = execInjIdleLock s := rfl
      rw [he, execInjIdleLock, if_pos (by rw [ha, h31]; rfl)]
    · exact ⟨⟨_, rfl, injBlock_locked p _ s hr hs h31 (.inl rfl) rfl⟩, ⟨_, rfl, injBlock_locked p _ s hr hs h31 (.inr (.inl rfl)) rfl⟩,
        ⟨_, rfl, injBlock_locked p _ s hr hs h31 (.inr (.inr (.inl rfl))) rfl⟩,
        ⟨_, rfl, injBlock_locked p _ s hr hs h31 (.inr (.inr (.inr (.inl rfl)))) rfl⟩,
        ⟨_, rfl, injBlock_locked p _ s hr hs h31 (.inr (.inr (.inr (.inr rfl)))) rfl⟩⟩
  · have hlink := linkInjection_counted p v s hr hs h31
    have hecc := eccInjection_counted p v s hr hs h31
    have hlane := laneInjection_counted p v s hr hs h31
    have hfault := faultInjection_counted p v s hr hs h31
    have hk : Keeps s s.keyless [] := .of (regsKept_refl _ _) rfl rfl
    refine ⟨fun h5 => ?_, fun h5 hl => ?_, fun h5 hl hu => ?_, linkInjection_taken p v s hr hs h31, ⟨fun hb => ?_, fun hb => ?_⟩, ?_,
      fun hn => ?_, fun k hk' => ⟨fun hi => ?_, fun hi hroom => faultInjection_sent p v s hr hs h31 hk' hi hroom⟩⟩
    · simp only [h5, if_true] at hlink
      exact ⟨_, rfl, State.injRefused_wr (by decide) (by decide) hlink⟩
    · simp only [Nat.not_le.mpr h5, if_false, hl, if_true] at hlink
      exact ⟨_, rfl, State.injRefused_wr (by decide) (by decide) hlink⟩
    · simp only [Nat.not_le.mpr h5, if_false, hl, hu, Option.isSome_none, Bool.false_eq_true, Bool.not_false, if_true] at hlink
      exact ⟨_, rfl, State.injRefused_wr (by decide) (by decide) hlink⟩
    · have hb' : (decide (9 ≤ fieldOf v 27 24) || decide (136 < fieldOf v 7 0) || (bitOf v 23 && decide (136 < fieldOf v 15 8))) = true := hb
      simp only [hb', if_true] at hecc
      exact ⟨_, rfl, State.injRefused_wr (by decide) (by decide) hecc⟩
    · have hb' : (decide (9 ≤ fieldOf v 27 24) || decide (136 < fieldOf v 7 0) || (bitOf v 23 && decide (136 < fieldOf v 15 8))) = false := hb
      simp only [hb', Bool.false_eq_true, if_false] at hecc
      obtain ⟨e1, e2, e3, e4, e5⟩ := State.injArmed_wr (by decide) (by decide) (by decide) (by decide) hecc
      refine ⟨_, rfl, e1, e2, ?_, e4, e5⟩
      rw [State.fld, e3, fieldOf_and _ _ _ _ (fun i hi _ h => by interval_cases i <;> rfl) (by decide)]
      exact fieldOf_go v (fun i hi _ h => by interval_cases i <;> rfl) (by decide)
    · obtain ⟨e1, e2, e3, -, e5⟩ := State.injArmed_wr (by decide) (by decide) (by decide) (by decide) hlane
      refine ⟨_, rfl, e1, e2, ?_, e5⟩
      rw [State.fld, e3, fieldOf_and _ _ _ _ (fun i hi _ h => by interval_cases i <;> rfl) (by decide)]
      exact fieldOf_go v (fun i hi _ h => by interval_cases i <;> rfl) (by decide)
    · rw [hn] at hfault
      exact ⟨_, rfl, InjRefused.counted hfault (State.injRefuse_refused (by decide) hk rfl rfl rfl)⟩
    · simp only [hk', hi, Bool.false_eq_true, if_false] at hfault
      exact ⟨_, rfl, InjRefused.counted hfault (State.injRefuse_refused (by decide) hk rfl rfl rfl)⟩

end Sys2Proof.Machine
end

section
/-!
PROOFS. Records read word by word, the settings overlay and the memory window (O53, O60).
-/

namespace Sys2Proof.Machine

/-! ## Reads of the record stores -/

/-- `t` is `s` after reads that found errors in its stores: the recorder stands, and the registers but those of the error counts. -/
structure State.Checked (s t : State) : Prop where
  frame : State.Frame (fun a _ => eccNoteReg a) (fun _ => False) s t
  evr : t.evr = s.evr

namespace State.Checked

theorem refl (s : State) : s.Checked s := ⟨.refl s, rfl⟩

theorem trans {s t u : State} (h : s.Checked t) (g : t.Checked u) : s.Checked u := ⟨h.frame.trans g.frame, g.evr.trans h.evr⟩

theorem foldl {α : Type} (f : State → α → State) (l : List α) (hf : ∀ (s : State), ∀ x ∈ l, s.Checked (f s x)) (s : State) :
    s.Checked (l.foldl f s) := by
  induction l generalizing s with
  | nil => exact .refl s
  | cons a l ih => exact (hf s a List.mem_cons_self).trans (ih (fun s x hx => hf s x (List.mem_cons_of_mem _ hx)) _)

end State.Checked

theorem State.checked_faultFrom (s : State) (k src inst addr : Nat) : s.Checked (s.faultFrom k src inst addr false) :=
  ⟨State.frame_faultFrom .., (State.StageParts.sendFault (.refl s) _).same (·.evr) (fun _ _ _ _ _ _ _ _ => rfl)⟩

theorem State.checked_eccNote (s : State) (region addr : Nat) (bits : List Nat) (scrub : Bool) :
    s.Checked (s.eccNote region addr bits scrub) := by
  refine ⟨s.frame_eccNote .., ?_⟩
  unfold State.eccNote
  extract_lets unc s1 s2
  split <;> rfl

/-- A word of the ring or of the log (R368 regions 5 and 8). -/
theorem State.checked_eccTake (s : State) (x : EccFlip) (hx : x.region = 5 ∨ x.region = 8) : s.Checked (s.eccTake x false) := by
  have hn := s.checked_eccNote x.region x.addr x.bits false
  by_cases h : x.bits.length < 2
  · rw [State.eccTake_cor _ _ _ h]
    have hd : (s.eccNote x.region x.addr x.bits false).Checked ((s.eccNote x.region x.addr x.bits false).dropFlip x) := ⟨.of rfl, rfl⟩
    exact (hn.trans hd).trans (State.checked_faultFrom ..)
  · rw [State.eccTake_unc _ _ _ (by omega)]
    refine hn.trans ?_
    rcases hx with hx | hx <;> rw [hx] <;> exact State.checked_faultFrom ..

theorem State.checked_eccRead (s : State) {region : Nat} (hr : region = 5 ∨ region = 8) (lo hi : Nat) : s.Checked (s.eccRead region lo hi) := by
  refine .foldl _ _ (fun s x hx => s.checked_eccTake x ?_) s
  have := (List.mem_filter.mp hx).2
  simp only [Bool.and_eq_true, beq_iff_eq] at this
  rwa [this.1.1]

theorem State.checked_recScan (s : State) {region : Nat} (hr : region = 5 ∨ region = 8) (l : List StoredRec) (v : Nat)
    (found : Option StoredRec) : s.Checked (s.recScan l region v found) :=
  .foldl _ _ (fun s _ _ => s.checked_eccRead hr ..) s

/-! ## Selections -/

theorem State.setRecSel_recSel (s : State) (p : Port) (x : RecSel) : (s.setRecSel p x).recSel p = x :=
  vget_vset_same _ _ _ _ (by cases p <;> decide)

theorem State.setRecSel_rd (s : State) (p : Port) (x : RecSel) (a : Nat) : (s.setRecSel p x).rd a = s.rd a := rfl

theorem Keeps.setRecSel {s x : State} {w : List Nat} (h : Keeps s x w) (p : Port) (y : RecSel) : Keeps s (x.setRecSel p y) w :=
  h.trans (.of (regsKept_refl _ _) rfl rfl)

theorem recordSelect_shows (p : Port) (v : Word) (s : State) (hr : s.runs = true) :
    Completes (.recordSelect p v) s (fun t => (t.recSel p).want = some (v.toNat, s.bit (bankKey p Reg.EVR_RCTL) 0) ∧
      (t.recSel p).words = (s.recSel p).words ∧ Keeps s t [bankKey p Reg.EVR_RSEL]) := by
  obtain ⟨t, ht, hn⟩ := exec_recordSelect_near p v s hr
  have hv : v &&& word 0xFFFFFFFF = v := BitVec.and_allOnes
  rw [hv] at hn
  have hk : Keeps s (s.recSelect p v) [bankKey p Reg.EVR_RSEL] :=
    ((Keeps.refl s _).wr _ List.mem_cons_self).trans (.of (regsKept_refl _ _) rfl rfl)
  have hkt := hk.trans (State.keeps_of_near _ hn)
  obtain ⟨⟨r, q, he⟩, -⟩ := hn
  have hsel : t.recSel p = { s.recSel p with want := some (v.toNat, s.bit (bankKey p Reg.EVR_RCTL) 0) } := by
    rw [he]
    exact State.setRecSel_recSel ..
  refine ⟨t, ht, by rw [hsel], by rw [hsel], hkt⟩

/-- What a selection that ends leaves. -/
theorem recordSelectDone_shows (p : Port) (s : State) (ha : s.awake = true) {n : Nat} {log : Bool}
    (hw : (s.recSel p).want = some (n, log)) (hf : log = true → s.fwOk = true) :
    let found := s.findRec (if log = true then s.evr.log else s.evr.ring) (if log = true then 8 else 5) n
    Completes (.recordSelectDone p) s (fun t => t.recSel p = (match found with
        | some y => { words := bytesWords y.bytes, seq := y.seq, log := log, want := none }
        | none => { words := [], seq := 0, log := log, want := none }) ∧ t.rd (bankKey p Reg.EVR_ROFS) = 0 ∧
      Keeps s t [bankKey p Reg.EVR_ROFS, Reg.FLT_ECCCNT, Reg.FLT_ECCINFO, Reg.FLT_ECCADDR]) := by
  intro found
  have he : exec (.recordSelectDone p) s = execRecordSelectDone p s := rfl
  have hc : (!s.awake || (log && !s.fwOk)) = false := by
    rw [ha]
    cases log with
    | false => rfl
    | true => rw [hf rfl]; rfl
  set l := if log then s.evr.log else s.evr.ring
  set region := if log then 8 else 5 with hreg
  have hr : region = 5 ∨ region = 8 := by
    cases log
    · exact .inl rfl
    · exact .inr rfl
  have hx : exec (.recordSelectDone p) s = .next (((s.recScan l region n found).wrN (bankKey p Reg.EVR_ROFS) 0).setRecSel p
      (match found with
        | some y => { words := bytesWords y.bytes, seq := y.seq, log := log, want := none }
        | none => { words := [], seq := 0, log := log, want := none })) := by
    rw [he, execRecordSelectDone, hw]
    simp only [hc, Bool.false_eq_true, if_false]
    split
    · next y hy =>
      rw [show found = some y from hy, hy]
    · next hy =>
      rw [show found = none from hy, hy]
  refine ⟨_, hx, State.setRecSel_recSel _ _ _, (State.setRecSel_rd ..).trans (State.rd_wrN_same ..), ?_⟩
  have hsc := (s.checked_recScan hr l n found).frame
  have hk : Keeps s (s.recScan l region n found) [bankKey p Reg.EVR_ROFS, Reg.FLT_ECCCNT, Reg.FLT_ECCINFO, Reg.FLT_ECCADDR] :=
    hsc.keeps fun a _ h => by
      rcases h with rfl | rfl | rfl <;> simp
  exact (hk.wr _ List.mem_cons_self).setRecSel p _

/-! ## Words read -/

/-- A read that is no part of a wide value, of a register that steps no index. -/
theorem State.hostRead_word (s : State) (p : Port) {a : Nat} (hr : s.runs = true) (hm : within a 0xB00 0xC00 = false) (h4 : a % 4 = 0)
    (hw : wideWord a = false) (hrest : wideRest a = []) (h1 : a ≠ sent1Addr) (h2 : within a 0x164 0x1E0 = false) :
    s.hostRead p a = { (s.readNow p a).2 with readData := vset (s.readNow p a).2.readData (portIdx p) (s.readNow p a).1 } := by
  have he (t : State) : t.readEffect p a = t := by
    rw [State.readEffect, if_neg h1, h2, Bool.false_and, if_neg Bool.false_ne_true]
  rw [s.hostRead_plain p _ (State.fabricUp_runs s hr) (State.mapped_runs s _ hr (.inr hm)) h4 hw hrest, he]

theorem exec_recordDataRead (p : Port) (s : State) (hr : s.runs = true) :
    exec (.recordDataRead p) s = .next { (s.recRead p).2 with
      readData := vset (s.recRead p).2.readData (portIdx p) (s.recRead p).1 } := by
  have hx : exec (.recordDataRead p) s = .next (s.hostRead p Reg.EVR_RDATA) := rfl
  have hn : s.readNow p Reg.EVR_RDATA = s.recRead p := rfl
  rw [hx, s.hostRead_word p hr (by decide) (by decide) (by decide) (by decide) (by decide) (by decide), hn]

theorem exec_windowDataRead (p : Port) (s : State) (hr : s.runs = true) :
    exec (.windowDataRead p) s = .next { s.wrN (bankKey p Reg.WIN_BASE) ((s.bankN p Reg.WIN_BASE + 4) % 2 ^ 24) with
      readData := vset s.readData (portIdx p) (s.regionWord (s.bankN p Reg.WIN_SEL % 16) (s.bankN p Reg.WIN_BASE)) } := by
  have hx : exec (.windowDataRead p) s = .next (s.hostRead p Reg.WIN_DATA) := rfl
  have hn : s.readNow p Reg.WIN_DATA = (s.regionWord (s.bankN p Reg.WIN_SEL % 16) (s.bankN p Reg.WIN_BASE),
    s.wrN (bankKey p Reg.WIN_BASE) ((s.bankN p Reg.WIN_BASE + 4) % 2 ^ 24)) := rfl
  rw [hx, s.hostRead_word p hr (by decide) (by decide) (by decide) (by decide) (by decide) (by decide), hn]
  rfl

/-- What a read of EVR_RDATA makes of the position, and of the recorder. -/
theorem State.recRead_shows (s : State) (p : Port) (hw : (s.recSel p).want = none) :
    let o := s.fld (bankKey p Reg.EVR_ROFS) 10 0
    (s.recRead p).2.rd (bankKey p Reg.EVR_ROFS) = word ((o + 4) % 2048) ∧ (s.recRead p).2.evr = s.evr ∧
      Keeps s (s.recRead p).2 [bankKey p Reg.EVR_ROFS] ∧
      (∀ w, (s.recSel p).words[o / 4]? = some w → s.recAlive (s.recSel p) = true → (s.recRead p).1 = w) ∧
      ((s.recSel p).words[o / 4]? = none → (s.recRead p).1 = 0) := by
  intro o
  have hk : Keeps s (s.wrN (bankKey p Reg.EVR_ROFS) ((o + 4) % 2048)) [bankKey p Reg.EVR_ROFS] := (Keeps.refl s _).wr _ List.mem_cons_self
  unfold State.recRead
  simp only [hw, Option.isSome_none, Bool.false_eq_true, if_false]
  split
  · next hn => exact ⟨State.rd_wrN_same .., rfl, hk, (fun w h _ => absurd (hn.symm.trans h) nofun), fun _ => rfl⟩
  · next w hw' =>
    split
    · exact ⟨State.rd_wrN_same .., rfl, hk, fun w' h _ => Option.some.inj (hw'.symm.trans h), fun h => nomatch hw'.symm.trans h⟩
    · next hal =>
      exact ⟨State.rd_wrN_same .., rfl, hk.trans (.of (regsKept_refl _ _) rfl rfl), fun w' _ h => absurd h hal, fun h => nomatch hw'.symm.trans h⟩

/-- Settles O53. -/
theorem recordReads : Obligations.RecordReads := by
  intro p v s hr x o
  have ha := State.awake_of_runs hr
  refine ⟨recordSelect_shows p v s hr, fun n log hw hf => ?_, fun n hw hf => ?_, fun hw => ?_, fun hw => ?_⟩
  · intro found
    obtain ⟨t, ht, hsel, hofs, hk⟩ := recordSelectDone_shows p s ha hw hf
    refine ⟨fun y hy => ⟨t, ht, ?_, hofs, hk⟩, fun hy => ⟨t, ht, ?_, ?_, hk⟩⟩
    · rw [hsel, show s.findRec (if log = true then s.evr.log else s.evr.ring) (if log = true then 8 else 5) n = some y from hy]
    all_goals rw [hsel, show s.findRec (if log = true then s.evr.log else s.evr.ring) (if log = true then 8 else 5) n = none from hy]
  · have he : exec (.recordSelectDone p) s = execRecordSelectDone p s := rfl
    rw [he, execRecordSelectDone, show (s.recSel p).want = some (n, true) from hw]
    simp only [hf, Bool.not_false, Bool.and_self, Bool.or_true, if_true]
  · obtain ⟨hofs, hevr, hk, hsome, hnone⟩ := s.recRead_shows p hw
    have hget (y : State) (d : Word) : vget (vset y.readData (portIdx p) d) (portIdx p) 0 = d := vget_vset_same _ _ _ _ (by cases p <;> decide)
    refine ⟨_, exec_recordDataRead p s hr, ?_, fun w h1 h2 => (hget ..).trans (hsome w h1 h2), fun h => (hget ..).trans (hnone h), hevr,
      hk.trans (.of (regsKept_refl _ _) rfl rfl)⟩
    have h : ({ (s.recRead p).2 with readData := vset (s.recRead p).2.readData (portIdx p) (s.recRead p).1 } : State).rd (bankKey p Reg.EVR_ROFS) =
      word ((o + 4) % 2048) := hofs
    rw [State.rdN, h, word, BitVec.toNat_ofNat]
    exact Nat.mod_eq_of_lt (Nat.lt_trans (Nat.mod_lt _ (by decide)) (by decide))
  · have hread : s.recRead p = (0, s) := by
      unfold State.recRead
      exact if_pos (Option.isSome_iff_ne_none.mpr hw)
    refine ⟨_, exec_recordDataRead p s hr, ?_, ?_, ?_⟩
    · rw [hread]
      exact vget_vset_same _ _ _ _ (by cases p <;> decide)
    · rw [hread]
    · rw [hread]
      exact .of (regsKept_refl _ _) rfl rfl

/-! ## The settings overlay and the window -/

/-- The copy that is not `a` is replaced. -/
def UpdSt.putCopy (u : UpdSt) (a : Bool) (c : OvlCopy) : UpdSt := if a then { u with ovlB := some c } else { u with ovlA := some c }

/-- The GEN after that of the newer copy. -/
def UpdSt.nextGen (u : UpdSt) : Nat := match u.copy u.newerA with | some c => c.gen + 1 | none => 1

theorem UpdSt.putCopy_other (u : UpdSt) (a : Bool) (c : OvlCopy) (x : Option (BitVec 64)) :
    ({ u.putCopy a c with ovlAt := x } : UpdSt).copy (!a) = some c ∧ ({ u.putCopy a c with ovlAt := x } : UpdSt).copy a = u.copy a := by
  cases a <;> exact ⟨rfl, rfl⟩

theorem UpdSt.nextGen_eq (u : UpdSt) : u.nextGen = ((u.copy u.newerA).map (·.gen)).getD 0 + 1 := by
  unfold UpdSt.nextGen
  cases u.copy u.newerA <;> rfl

theorem exec_overlayWrite (s : State) (hl : s.live = true) (hf : s.fwOk = true) (ht : s.upd.trialrun = false)
    (hw : ∀ x, s.upd.ovlAt = some x → 48000000000 ≤ (s.time.mono - x).toNat) :
    exec .overlayWrite s = .next (
      let a := s.upd.keepsA (s.fld Reg.UPD_OVL 1 0)
      let c : OvlCopy := { format := 1, gen := s.upd.nextGen, version := s.rd Reg.BOOT_FWVER }
      ({ s with upd := { s.upd.putCopy a c with ovlAt := some s.time.mono } } : State).wrN Reg.UPD_OVL
        ((if a then 1 else 0) + 256 + s.upd.nextGen % 65536 * 65536)) := by
  have he : exec .overlayWrite s = execOverlayWrite s := rfl
  have hwait : (match s.upd.ovlAt with
      | some t => decide ((s.time.mono - t).toNat < 48000000000)
      | none => false) = false := by
    split
    · next x hx => exact decide_eq_false (Nat.not_lt.mpr (hw x hx))
    · rfl
  have hgo : (s.live && s.fwOk && !s.upd.trialrun && !(match s.upd.ovlAt with
      | some t => decide ((s.time.mono - t).toNat < 48000000000)
      | none => false)) = true := by
    rw [hl, hf, ht, hwait]
    rfl
  exact he.trans ((if_pos hgo).trans rfl)

theorem overlayWrite_shows (s : State) (hl : s.live = true) (hf : s.fwOk = true) (ht : s.upd.trialrun = false)
    (hw : ∀ x, s.upd.ovlAt = some x → 48000000000 ≤ (s.time.mono - x).toNat) :
    let a := s.upd.keepsA (s.fld Reg.UPD_OVL 1 0)
    Completes .overlayWrite s (fun t =>
      (t.upd.copy (!a)).map (fun c => (c.gen, c.version)) = some (((s.upd.copy s.upd.newerA).map (·.gen)).getD 0 + 1, s.rd Reg.BOOT_FWVER) ∧
      t.upd.copy a = s.upd.copy a ∧ t.upd.ovlAt = some s.time.mono ∧ t.fld Reg.UPD_OVL 1 0 = (if a = true then 1 else 0) ∧
      Keeps s t [Reg.UPD_OVL]) := by
  intro a
  have hx := exec_overlayWrite s hl hf ht hw
  obtain ⟨h1, h2⟩ := s.upd.putCopy_other a { format := 1, gen := s.upd.nextGen, version := s.rd Reg.BOOT_FWVER } (some s.time.mono)
  refine ⟨_, hx, ?_, h2, rfl, ?_, ?_⟩
  · rw [← s.upd.nextGen_eq]
    exact congrArg (Option.map (fun c => (c.gen, c.version))) h1
  · rw [State.fld, State.rd_wrN_same]
    change fieldOf (word ((if a then 1 else 0) + 256 + s.upd.nextGen % 65536 * 65536)) 1 0 = _
    simp only [fieldOf, word, BitVec.extractLsb'_toNat, BitVec.toNat_ofNat, Nat.shiftRight_eq_div_pow]
    generalize s.upd.nextGen = g
    split <;> omega
  · exact Keeps.wr (.of (regsKept_refl _ _) rfl rfl) _ List.mem_cons_self

theorem windowSelect_shows (p : Port) (v : Word) (s : State) (hr : s.runs = true) :
    Completes (.windowSelect p v) s (fun t => t.fld (bankKey p Reg.WIN_SEL) 3 0 = fieldOf v 3 0 ∧ t.rd (bankKey p Reg.WIN_BASE) = 0 ∧
      Keeps s t [bankKey p Reg.WIN_SEL, bankKey p Reg.WIN_BASE]) := by
  obtain ⟨t, ht, hn⟩ := exec_windowSelect_near p v s hr
  obtain ⟨r, hrow, hshd, hctr, hk⟩ : ∃ r, rowOfKey (bankKey p Reg.WIN_SEL) = some r ∧ r.shd = 0 ∧ r.ctr = [] ∧
      r.known = 0xF ∧ r.rw = 0xF ∧ r.w1c = 0 := by
    cases p
    all_goals exact ⟨⟨0xF004, 0x10000000, 1, 4, 1, 0, 0xF, 0, 0, 0, 0xF, none, []⟩, rfl, rfl, rfl, rfl, rfl, rfl⟩
  obtain ⟨hknown, hrw, hw1⟩ := hk
  rw [← hknown, s.rd_storeByType _ hrow hshd] at hn
  set k := bankKey p Reg.WIN_SEL with hkey
  set w := r.written (s.rd k) (v &&& word r.known) with hw
  set u : State := if w = s.rd k then s else s.wr k w with hu
  have hud : u.rd k = w := by
    rw [hu]
    split
    · next h => exact h.symm
    · exact State.rd_wr_same ..
  have huk : Keeps s u [k, bankKey p Reg.WIN_BASE] := by
    rw [hu]
    split
    · exact .refl _ _
    · exact (Keeps.refl s _).wr _ List.mem_cons_self
  have hsides : sideReg k = false ∧ sideReg (bankKey p Reg.WIN_BASE) = false ∧ bankKey p Reg.WIN_BASE ≠ k := by
    cases p <;> exact ⟨rfl, rfl, by decide⟩
  obtain ⟨hs1, hs2, hne⟩ := hsides
  refine ⟨t, ht, ?_, (hn.2 _ hs2).trans (State.rd_wrN_same ..), (huk.wr _ (by simp)).trans (State.keeps_of_near _ hn)⟩
  rw [State.fld, hn.2 _ hs1, State.rd_wrN_ne _ _ _ _ hne, hud, hw]
  refine fieldOf_eq_of_bits fun i hi _ h3 => ?_
  have hb : (word 0xF).getLsbD i = true := by interval_cases i <;> rfl
  have hz : (word 0).getLsbD i = false := BitVec.getLsbD_zero
  rw [RegRow.written_bit hrow hctr _ _ hi, hrw, hw1, hb, hz]
  rfl

theorem windowDataRead_shows (p : Port) (s : State) (hr : s.runs = true) :
    Completes (.windowDataRead p) s (fun t =>
      let r := s.bankN p Reg.WIN_SEL % 16
      let b := s.bankN p Reg.WIN_BASE
      vget t.readData (portIdx p) 0 = s.regionWord r b ∧ (regionLen r ≤ b → vget t.readData (portIdx p) 0 = 0) ∧
      t.rdN (bankKey p Reg.WIN_BASE) = (b + 4) % 2 ^ 24 ∧ Keeps s t [bankKey p Reg.WIN_BASE]) := by
  have hget (x : Word) : vget (vset s.readData (portIdx p) x) (portIdx p) 0 = x := vget_vset_same _ _ _ _ (by cases p <;> decide)
  refine ⟨_, exec_windowDataRead p s hr, hget _, fun h => (hget _).trans (if_pos h), ?_, ?_⟩
  · have hlt : (s.bankN p Reg.WIN_BASE + 4) % 2 ^ 24 < 2 ^ 24 := Nat.mod_lt _ (by decide)
    generalize (s.bankN p Reg.WIN_BASE + 4) % 2 ^ 24 = n at hlt
    have h : (s.wrN (bankKey p Reg.WIN_BASE) n).rdN (bankKey p Reg.WIN_BASE) = n := by
      rw [State.rdN, State.rd_wrN_same, word, BitVec.toNat_ofNat]
      omega
    exact h
  · exact ((Keeps.refl s _).wr _ List.mem_cons_self).trans (.of (regsKept_refl _ _) rfl rfl)

/-- Settles O60. -/
theorem overlayAndWindow : Obligations.OverlayAndWindow := fun p v s hr =>
  ⟨overlayWrite_shows s, windowSelect_shows p v s hr, windowDataRead_shows p s hr⟩

end Sys2Proof.Machine
end

section
/-!
PROOFS. The recorder: offers, stores and the log (O52).
-/

namespace Sys2Proof.Machine

/-! ## Offers -/

theorem exec_recordOffer (s : State) (ha : s.awake = true) {r : Rec} (hr : nextOffer s.evr.offers = some r) : exec .recordOffer s = .next (
    let t : State := { s with evr := { s.evr with offers := s.evr.offers.erase r } }
    if s.evr.queue.length < 128 then { t with evr := { t.evr with queue := t.evr.queue ++ [s.stampRec r] } }
    else if r.kind = 1 then (t.bump (Reg.EVR_DROP r.sev) 31 0 1).setBit Reg.EVR_STAT 31 true
    else s) := by
  have he : exec .recordOffer s = execRecordOffer s := rfl
  rw [he, execRecordOffer, hr]
  simp only [ha, Bool.not_true, Bool.false_eq_true, if_false]
  split
  · rfl
  · split <;> rfl

theorem evrDrop_ne_stat {n : Nat} (h : n < 8) : Reg.EVR_DROP n ≠ Reg.EVR_STAT := by
  simp only [Reg.EVR_DROP, Reg.EVR_STAT]
  omega

theorem recordOffer_shows (s : State) (ha : s.awake = true) (r : Rec) (hr : nextOffer s.evr.offers = some r) (hs : r.sev < 8) :
    (s.evr.queue.length < 128 → Completes .recordOffer s (fun t => t.evr.queue = s.evr.queue ++ [s.stampRec r] ∧
        t.evr.offers = s.evr.offers.erase r ∧ t.evr.ring = s.evr.ring ∧ Keeps s t [])) ∧
    (128 ≤ s.evr.queue.length → r.kind = 1 → Completes .recordOffer s (fun t => t.evr.queue = s.evr.queue ∧
        t.evr.offers = s.evr.offers.erase r ∧ t.fld (Reg.EVR_DROP r.sev) 31 0 = min (s.fld (Reg.EVR_DROP r.sev) 31 0 + 1) 0xFFFFFFFF ∧
        t.bit Reg.EVR_STAT 31 = true ∧ Keeps s t [Reg.EVR_DROP r.sev, Reg.EVR_STAT])) ∧
    (128 ≤ s.evr.queue.length → r.kind ≠ 1 → exec .recordOffer s = .next s) := by
  have hx := exec_recordOffer s ha hr
  have hk (w : List Nat) : Keeps s { s with evr := { s.evr with offers := s.evr.offers.erase r } } w := .of (regsKept_refl _ _) rfl rfl
  refine ⟨fun hq => ?_, fun hq h1 => ?_, fun hq h1 => ?_⟩
  · simp only [hq, if_true] at hx
    exact ⟨_, hx, rfl, rfl, rfl, .of (regsKept_refl _ _) rfl rfl⟩
  · simp only [Nat.not_lt.mpr hq, if_false, h1, if_true] at hx
    refine ⟨_, hx, rfl, rfl, ?_, State.bit_setBit _ _ _ _ (by decide), ((hk _).bump _ _ _ (by simp)).setBit _ _ (by simp)⟩
    rw [State.fld, State.rd_setBit_ne _ _ _ _ _ (evrDrop_ne_stat hs).symm]
    exact State.fld_bump _ _ _ _ _ (by decide)
  · simpa only [Nat.not_lt.mpr hq, if_false, h1] using hx

/-! ## Stores -/

theorem mem_insertSeq (q x : Nat) (l : List Nat) : x ∈ insertSeq q l ↔ x = q ∨ x ∈ l := by
  induction l with
  | nil => simp [insertSeq]
  | cons y l ih =>
    rw [insertSeq]
    split
    · exact List.mem_cons
    · rw [List.mem_cons, ih, List.mem_cons]
      exact or_left_comm

theorem mem_insertSeqs (l : List StoredRec) (g : List Nat) (x : Nat) :
    x ∈ l.foldl (fun g x => insertSeq x.seq g) g ↔ x ∈ g ∨ x ∈ l.map (·.seq) := by
  induction l generalizing g with
  | nil => simp
  | cons y l ih =>
    rw [List.foldl_cons, ih, mem_insertSeq, List.map_cons, List.mem_cons, or_assoc, or_left_comm]

/-- A slot of the saddlebag whose staged snapshot takes the SEQ of the FAULT record of its fault (R396). -/
def seqSlot (r : Rec) (seq : Nat) (x : SbgSlot) : SbgSlot :=
  match x.staged with
  | some p => if p.seq = 0 && r.snaps.contains (p.slot, p.stamp.mono) then { x with staged := some { p with seq := seq } } else x
  | none => x

theorem State.seqSnaps_eq (s : State) (r : Rec) (seq : Nat) : s.seqSnaps r seq = { s with sbg := s.sbg.map (seqSlot r seq) } := rfl

theorem State.seqSnaps_slot (s : State) (r : Rec) (seq : Nat) {i : Nat} (hi : i < 98) :
    (s.seqSnaps r seq).slotOf i = seqSlot r seq (s.slotOf i) := by
  simp [State.seqSnaps_eq, State.slotOf, vget, hi]

theorem seqSlot_staged {r : Rec} {x : SbgSlot} {p : Snap} (seq : Nat) (hp : x.staged = some p) (h0 : p.seq = 0)
    (hc : r.snaps.contains (p.slot, p.stamp.mono) = true) : (seqSlot r seq x).staged = some { p with seq := seq } := by
  rw [seqSlot, hp]
  simp only [h0, hc, decide_true, Bool.and_self, if_true]

/-- `t` is `s` after a write of a protected word: the recorder stands but for its offers. -/
structure State.Stored (s t : State) : Prop where
  frame : State.Frame (fun a _ => injReg a) (· = 38) s t
  evr : t.evr = { s.evr with offers := t.evr.offers }
  sbg : t.sbg = s.sbg

theorem State.injected_evr (s : State) : s.injected.evr = { s.evr with offers := s.injected.evr.offers } :=
  congrArg (fun e : EvrSt => ({ e with offers := s.injected.evr.offers } : EvrSt))
    (State.raiseWith_evr (s.bump Reg.INJ_CNT 15 0 1) (E.INJ_APPLIED 0) [] true false)

theorem State.stored_eccWrite (s : State) (region addr : Nat) : s.Stored (s.eccWrite region addr) := by
  refine ⟨s.frame_eccWrite .., ?_, ?_⟩
  all_goals
    unfold State.eccWrite
    extract_lets a fs ec s1 b x ec2 s2
    split
  · exact State.injected_evr _
  · rfl
  · exact State.raiseWith_sbg ..
  · rfl

theorem State.ringCount_shows (s : State) :
    s.ringCount.fld Reg.EVR_RCNT 15 0 = s.evr.ring.length % 65536 ∧ s.ringCount = { s with reg := s.ringCount.reg } ∧
      ∀ a, a ≠ Reg.EVR_RCNT → a ≠ Reg.EVR_OLDEST → a ≠ Reg.EVR_MIRSEQ → a ≠ Reg.EVR_STAT → s.ringCount.rd a = s.rd a := by
  refine ⟨?_, rfl, fun a h1 h2 h3 h4 => ?_⟩
  · unfold State.ringCount
    rw [State.fld, State.rd_put_ne _ _ _ _ _ _ (by decide), State.rd_wrN_ne _ _ _ _ (by decide), State.rd_wrN_ne _ _ _ _ (by decide),
      State.rd_wrN_same]
    simp only [fieldOf, word, BitVec.extractLsb'_toNat, BitVec.toNat_ofNat, Nat.shiftRight_eq_div_pow]
    omega
  · unfold State.ringCount
    rw [State.rd_put_ne _ _ _ _ _ _ h4.symm, State.rd_wrN_ne _ _ _ _ h3.symm, State.rd_wrN_ne _ _ _ _ h2.symm, State.rd_wrN_ne _ _ _ _ h1.symm]

/-- The state in which a stored record joins the ring (R388 to R390). -/
def State.ringStore (s : State) (r : Rec) (rest : List Rec) (keep gone : List StoredRec) : State :=
  let seq := s.rdN Reg.EVR_SEQ
  let t := ({ s with evr := { s.evr with queue := rest } } : State).noteGap gone
  let h := if seq = s.evr.high then (s.evr.high + 2 ^ 20) % 2 ^ 32 else s.evr.high
  (({ t with evr := { t.evr with ring := keep ++ [{ r := r, seq := seq, mir := false }], high := h } } : State).wrN Reg.EVR_SEQ (seqNext seq)).bump
    Reg.EVR_WRCNT 31 0 1

theorem exec_recordStore_dropped (s : State) (ha : s.awake = true) {r : Rec} {rest : List Rec} (hq : s.evr.queue = r :: rest)
    (hm : makeRoom 32768 r.sev r.cells s.evr.ring = none) :
    exec .recordStore s = .next (({ s with evr := { s.evr with queue := rest } } : State).bump (Reg.EVR_DROP r.sev) 31 0 1) := by
  have he : exec .recordStore s = execRecordStore s := rfl
  rw [he, execRecordStore, hq]
  simp only [ha, Bool.not_true, Bool.false_eq_true, if_false, hm]

theorem exec_recordStore (s : State) (ha : s.awake = true) {r : Rec} {rest : List Rec} (hq : s.evr.queue = r :: rest)
    {keep gone : List StoredRec} (hm : makeRoom 32768 r.sev r.cells s.evr.ring = some (keep, gone)) :
    exec .recordStore s = .next
      (((s.ringStore r rest keep gone).eccWrite 5 (seqAddr (s.rdN Reg.EVR_SEQ))).seqSnaps r (s.rdN Reg.EVR_SEQ)).ringCount := by
  have he : exec .recordStore s = execRecordStore s := rfl
  rw [he, execRecordStore, hq]
  simp only [ha, Bool.not_true, Bool.false_eq_true, if_false, hm]
  rfl

theorem State.ringStore_shows (s : State) (r : Rec) (rest : List Rec) (keep gone : List StoredRec) :
    let t := s.ringStore r rest keep gone
    t.evr.queue = rest ∧ t.evr.ring = keep ++ [{ r := r, seq := s.rdN Reg.EVR_SEQ, mir := false }] ∧ t.evr.log = s.evr.log ∧
      t.rd Reg.EVR_SEQ = word (seqNext (s.rdN Reg.EVR_SEQ)) ∧
      t.fld Reg.EVR_WRCNT 31 0 = min (s.fld Reg.EVR_WRCNT 31 0 + 1) 0xFFFFFFFF ∧ t.sbg = s.sbg ∧
      (∀ q : Nat, q ∈ t.evr.gap ↔ q ∈ s.evr.gap ∨ q ∈ (gone.filter (fun x => s.mirrorDue x)).map (·.seq)) ∧
      ∀ w, Reg.EVR_SEQ ∈ w → Reg.EVR_WRCNT ∈ w → Keeps s t w := by
  refine ⟨rfl, rfl, rfl, ?_, ?_, rfl, fun q => mem_insertSeqs _ _ q, fun w h1 h2 => ?_⟩
  · exact (State.rd_bump_ne _ _ _ _ _ _ (by decide)).trans (State.rd_wrN_same ..)
  · unfold State.ringStore
    rw [State.fld_bump _ _ _ _ _ (by decide), State.fld, State.rd_wrN_ne _ _ _ _ (by decide)]
    rfl
  · exact (Keeps.wr (.of (regsKept_refl _ _) rfl rfl) _ h1).bump _ _ _ h2

theorem seqNext_lt (n : Nat) : seqNext n < 2 ^ 32 := by
  unfold seqNext
  split
  · decide
  · exact Nat.mod_lt _ (by decide)

theorem recordStore_shows (s : State) (ha : s.awake = true) (r : Rec) (rest : List Rec) (hq : s.evr.queue = r :: rest) :
    (makeRoom 32768 r.sev r.cells s.evr.ring = none → Completes .recordStore s (fun t => t.evr.queue = rest ∧
        t.evr.ring = s.evr.ring ∧ t.fld (Reg.EVR_DROP r.sev) 31 0 = min (s.fld (Reg.EVR_DROP r.sev) 31 0 + 1) 0xFFFFFFFF ∧
        Keeps s t [Reg.EVR_DROP r.sev])) ∧
    (∀ keep gone, makeRoom 32768 r.sev r.cells s.evr.ring = some (keep, gone) → Completes .recordStore s (fun t =>
        t.evr.queue = rest ∧ t.evr.ring = keep ++ [{ r := r, seq := s.rdN Reg.EVR_SEQ, mir := false }] ∧
        t.rdN Reg.EVR_SEQ = seqNext (s.rdN Reg.EVR_SEQ) ∧ t.fld Reg.EVR_RCNT 15 0 = t.evr.ring.length % 65536 ∧
        t.fld Reg.EVR_WRCNT 31 0 = min (s.fld Reg.EVR_WRCNT 31 0 + 1) 0xFFFFFFFF ∧ t.evr.log = s.evr.log ∧
        (∀ q : Nat, q ∈ t.evr.gap ↔ q ∈ s.evr.gap ∨ q ∈ (gone.filter (fun x => s.mirrorDue x)).map (·.seq)) ∧
        (∀ i < 98, ∀ p, (s.slotOf i).staged = some p → p.seq = 0 → r.snaps.contains (p.slot, p.stamp.mono) = true →
          (t.slotOf i).staged = some { p with seq := s.rdN Reg.EVR_SEQ }) ∧
        Keeps s t [Reg.EVR_SEQ, Reg.EVR_WRCNT, Reg.EVR_RCNT, Reg.EVR_OLDEST, Reg.EVR_MIRSEQ, Reg.EVR_STAT, Reg.INJ_STAT,
          Reg.INJ_EADDR, Reg.INJ_CNT])) := by
  refine ⟨fun hm => ?_, fun keep gone hm => ?_⟩
  · have hx := exec_recordStore_dropped s ha hq hm
    refine ⟨_, hx, rfl, rfl, ?_, Keeps.bump (.of (regsKept_refl _ _) rfl rfl) _ _ _ List.mem_cons_self⟩
    exact State.fld_bump _ _ _ _ _ (by decide)
  · have hx := exec_recordStore s ha hq hm
    obtain ⟨hqueue, hring, hlog, hseq, hcnt, hsbg, hgap, hk⟩ := s.ringStore_shows r rest keep gone
    generalize s.ringStore r rest keep gone = a at hx hqueue hring hlog hseq hcnt hsbg hgap hk
    obtain ⟨bfr, bevr, bsbg⟩ := a.stored_eccWrite 5 (seqAddr (s.rdN Reg.EVR_SEQ))
    generalize a.eccWrite 5 (seqAddr (s.rdN Reg.EVR_SEQ)) = b at hx bfr bevr bsbg
    obtain ⟨crcnt, ceq, crd⟩ := (b.seqSnaps r (s.rdN Reg.EVR_SEQ)).ringCount_shows
    have hrd {k : Nat} (hk : k = Reg.EVR_SEQ ∨ k = Reg.EVR_WRCNT) :
        ((b.seqSnaps r (s.rdN Reg.EVR_SEQ)).ringCount).rd k = a.rd k := by
      rcases hk with rfl | rfl
      all_goals
        rw [crd _ (by decide) (by decide) (by decide) (by decide)]
        exact bfr.rd (fun _ _ h => by rcases h with h | h | h <;> exact absurd h (by decide)) (by decide)
    generalize hc : (b.seqSnaps r (s.rdN Reg.EVR_SEQ)).ringCount = c at *
    have hcevr : c.evr = b.evr := by rw [ceq]; rfl
    have hcsbg : c.sbg = (b.seqSnaps r (s.rdN Reg.EVR_SEQ)).sbg := by rw [ceq]
    refine ⟨c, hx, ?_, ?_, ?_, ?_, ?_, ?_, ?_, ?_, ?_⟩
    · rw [hcevr, bevr]; exact hqueue
    · rw [hcevr, bevr]; exact hring
    · rw [State.rdN, hrd (.inl rfl), hseq, word, BitVec.toNat_ofNat]
      exact Nat.mod_eq_of_lt (seqNext_lt _)
    · rw [crcnt, hcevr]; rfl
    · rw [State.fld, hrd (.inr rfl), ← State.fld]; exact hcnt
    · rw [hcevr, bevr]; exact hlog
    · rw [hcevr, bevr]; exact hgap
    · intro i hi p hp h0 hct
      have h1 : c.slotOf i = (b.seqSnaps r (s.rdN Reg.EVR_SEQ)).slotOf i := by rw [State.slotOf, hcsbg, ← State.slotOf]
      have h2 : b.slotOf i = s.slotOf i := by rw [State.slotOf, bsbg, hsbg, ← State.slotOf]
      rw [h1, State.seqSnaps_slot _ _ _ hi, h2]
      exact seqSlot_staged _ hp h0 hct
    · refine .trans (hk _ (by simp) (by simp)) (.trans (bfr.keeps fun k _ h => ?_) (.of (fun k hk' hsd => ?_) ?_ ?_))
      · rcases h with rfl | rfl | rfl <;> simp
      · simp only [List.mem_cons, List.not_mem_nil, or_false, not_or] at hk'
        exact crd k hk'.2.2.1 hk'.2.2.2.1 hk'.2.2.2.2.1 hk'.2.2.2.2.2.1
      · rw [ceq]; rfl
      · rw [ceq]; rfl

/-! ## The log -/

/-- The recorder's lists but for the log and the offers. -/
def State.logRest (s : State) : List StoredRec × List Nat := (s.evr.ring, s.evr.gap)

theorem State.logStore_rest (s : State) (x : StoredRec) : (s.logStore x).logRest = s.logRest := by
  unfold State.logStore
  split
  · rfl
  · next keep gone h =>
    generalize hy : ({ s with evr := { s.evr with log := keep ++ [x], logWrites := s.evr.logWrites + x.r.cells } } : State) = y
    have h1 := (y.stored_eccWrite 8 (seqAddr x.seq)).evr
    have h2 : (y.eccWrite 8 (seqAddr x.seq)).logCount.evr = (y.eccWrite 8 (seqAddr x.seq)).evr := rfl
    rw [State.logRest, h2, h1, ← hy]
    rfl

theorem State.logStore_log (s : State) {x : StoredRec} {keep gone : List StoredRec}
    (h : makeRoom 65536 x.r.sev x.r.cells s.evr.log = some (keep, gone)) : (s.logStore x).evr.log = keep ++ [x] := by
  unfold State.logStore
  simp only [h]
  generalize hy : ({ s with evr := { s.evr with log := keep ++ [x], logWrites := s.evr.logWrites + x.r.cells } } : State) = y
  have h1 := (y.stored_eccWrite 8 (seqAddr x.seq)).evr
  have h2 : (y.eccWrite 8 (seqAddr x.seq)).logCount.evr = (y.eccWrite 8 (seqAddr x.seq)).evr := rfl
  rw [h2, h1, ← hy]

/-- The GAP record of `n` lost records from `first` (R392). -/
def State.gapRec (s : State) (first n : Nat) : Rec :=
  { kind := 0xA, sev := 3, inj := false, fwd := false, src := 0xFF, stamp := s.stamp,
    payload := leBytes 4 s.time.wallNs ++ leBytes 4 first ++ leBytes 4 n }

theorem State.gapRec_cells (s : State) (first n : Nat) : (s.gapRec first n).cells = 3 := by
  simp [State.gapRec, Rec.cells, leBytes]

/-- The state once its next ring record has been read for the log. -/
def State.mirrorRead (s : State) (x : StoredRec) : State := (s.eccRead 5 (seqAddr x.seq) (seqAddr x.seq + 1024)).markMirrored x

theorem State.mirrorRead_evr (s : State) (x : StoredRec) : (s.mirrorRead x).evr = (s.markMirrored x).evr := by
  have h := (s.checked_eccRead (.inl rfl) (seqAddr x.seq) (seqAddr x.seq + 1024)).evr
  exact congrArg (fun e : EvrSt => ({ e with ring := e.ring.map (fun y => if y.seq = x.seq then { y with mir := true } else y) } : EvrSt)) h

section
variable (s : State) (ha : s.awake = true) (hf : s.fwOk = true) (hc : s.bit Reg.EVR_CFG 8 = true)
include ha hf hc

theorem logMirror_due : (s.awake && s.fwOk && s.bit Reg.EVR_CFG 8) = true := by
  rw [ha, hf, hc]
  rfl

theorem exec_logMirror_gap {first : Nat} {more : List Nat} (hg : s.gapRun = first :: more) : exec .logMirror s =
    .next ((({ s with evr := { s.evr with gap := s.evr.gap.drop (more.length + 1) } } : State).logStore
      { r := s.gapRec first (more.length + 1), seq := first, mir := true }).setBit Reg.EVR_STAT 29 true) := by
  have he : exec .logMirror s = execLogMirror s := rfl
  rw [he, execLogMirror, if_pos (logMirror_due s ha hf hc)]
  simp only [hg]
  rfl

theorem exec_logMirror_next {x : StoredRec} (hn : s.nextMirror = some x) (hg : s.gapRun = []) : exec .logMirror s =
    .next (if s.eccBad 5 (seqAddr x.seq) (seqAddr x.seq + 1024) then
        ({ s.mirrorRead x with evr := { (s.mirrorRead x).evr with gap := insertSeq x.seq (s.mirrorRead x).evr.gap } } : State).ringCount
      else ((s.mirrorRead x).logStore { x with mir := true }).ringCount) := by
  have he : exec .logMirror s = execLogMirror s := rfl
  rw [he, execLogMirror, if_pos (logMirror_due s ha hf hc)]
  simp only [hg, hn]
  split <;> rfl

theorem logMirror_gap {first : Nat} {more : List Nat} (hg : s.gapRun = first :: more) : Completes .logMirror s (fun t =>
    t.evr.gap = s.evr.gap.drop (more.length + 1) ∧ t.bit Reg.EVR_STAT 29 = true ∧ t.evr.ring = s.evr.ring ∧
    (∀ keep gone, makeRoom 65536 3 3 s.evr.log = some (keep, gone) →
      t.evr.log = keep ++ [{ r := s.gapRec first (more.length + 1), seq := first, mir := true }])) := by
  have hx := exec_logMirror_gap s ha hf hc hg
  generalize hy : ({ s with evr := { s.evr with gap := s.evr.gap.drop (more.length + 1) } } : State) = y at hx
  have hrest := y.logStore_rest { r := s.gapRec first (more.length + 1), seq := first, mir := true }
  have hyl : y.logRest = (s.evr.ring, s.evr.gap.drop (more.length + 1)) := by rw [← hy]; rfl
  obtain ⟨hring, hgap⟩ := Prod.mk.injEq .. ▸ (hrest.trans hyl)
  refine ⟨_, hx, hgap, State.bit_setBit _ _ _ _ (by decide), hring, fun keep gone hm => ?_⟩
  refine y.logStore_log ?_ (gone := gone)
  rw [← hy]
  exact (congrArg (makeRoom 65536 3 · s.evr.log) (s.gapRec_cells ..)).trans hm

theorem logMirror_copied {x : StoredRec} (hn : s.nextMirror = some x) (hg : s.gapRun = [])
    (hb : s.eccBad 5 (seqAddr x.seq) (seqAddr x.seq + 1024) = false) : Completes .logMirror s (fun t =>
    t.evr.ring = (s.markMirrored x).evr.ring ∧ t.evr.gap = s.evr.gap ∧
    ∀ keep gone, makeRoom 65536 x.r.sev x.r.cells s.evr.log = some (keep, gone) → t.evr.log = keep ++ [{ x with mir := true }]) := by
  have hx := exec_logMirror_next s ha hf hc hn hg
  simp only [hb, Bool.false_eq_true, if_false] at hx
  have hevr := s.mirrorRead_evr x
  generalize s.mirrorRead x = y at hx hevr
  have hrest := y.logStore_rest { x with mir := true }
  have hyl : y.logRest = ((s.markMirrored x).evr.ring, s.evr.gap) := by rw [State.logRest, hevr]; rfl
  obtain ⟨hring, hgap⟩ := Prod.mk.injEq .. ▸ (hrest.trans hyl)
  refine ⟨_, hx, hring, hgap, fun keep gone hm => y.logStore_log (gone := gone) ?_⟩
  rw [hevr]
  exact hm

theorem logMirror_lost {x : StoredRec} (hn : s.nextMirror = some x) (hg : s.gapRun = [])
    (hb : s.eccBad 5 (seqAddr x.seq) (seqAddr x.seq + 1024) = true) : Completes .logMirror s (fun t =>
    t.evr.ring = (s.markMirrored x).evr.ring ∧ t.evr.log = s.evr.log ∧ t.evr.gap = insertSeq x.seq s.evr.gap) := by
  have hx := exec_logMirror_next s ha hf hc hn hg
  simp only [hb, if_true] at hx
  have hevr := s.mirrorRead_evr x
  generalize s.mirrorRead x = y at hx hevr
  rw [hevr] at hx
  exact ⟨_, hx, rfl, rfl, rfl⟩

end

/-- Settles O52. -/
theorem recorderStores : Obligations.RecorderStores := by
  intro s ha
  refine ⟨recordOffer_shows s ha, fun r rest hq _ => recordStore_shows s ha r rest hq, fun hf hc => ?_⟩
  intro noted
  refine ⟨fun first more hg => ?_, fun x hn hg => ⟨logMirror_copied s ha hf hc hn hg, logMirror_lost s ha hf hc hn hg⟩⟩
  obtain ⟨t, ht, hgap, hbit, hring, hlog⟩ := logMirror_gap s ha hf hc hg
  refine ⟨t, ht, hgap, hbit, hring, fun keep gone hm => ?_⟩
  rw [hlog keep gone hm]
  exact List.map_append

end Sys2Proof.Machine
end

section
/-!
PROOFS. The classification of fault messages (O46).
-/

namespace Sys2Proof.Machine

/-! ## What the fatal reaction leaves -/

/-- `t` is `s` but for its registers, phases, links, local channels, pair, snapshots, the claim and two notes of the collector. -/
structure State.Reacted (s t : State) : Prop where
  list : t.flt.list = s.flt.list
  evr : t.evr = s.evr

namespace State.Reacted

variable {s t u : State}

theorem refl (s : State) : s.Reacted s := ⟨rfl, rfl⟩

theorem trans (h : s.Reacted t) (g : t.Reacted u) : s.Reacted u := ⟨g.list.trans h.list, g.evr.trans h.evr⟩

theorem ite {p : Prop} [Decidable p] (ht : s.Reacted t) (hu : s.Reacted u) : s.Reacted (if p then t else u) := by
  split
  · exact ht
  · exact hu

theorem foldl {α : Type} (f : State → α → State) (hf : ∀ (s : State) x, s.Reacted (f s x)) (l : List α) (s : State) :
    s.Reacted (l.foldl f s) := by
  induction l generalizing s with
  | nil => exact .refl s
  | cons a l ih => exact (hf s a).trans (ih _)

end State.Reacted

section
variable (s : State)

theorem State.reacted_forceLocal (n : Nat) : s.Reacted (s.forceLocal n) := by
  have h : s.Reacted (s.noteLocal n 3 s.now) := by
    unfold State.noteLocal State.noteEdge
    refine .ite ?_ (.refl s)
    split
    · exact .ite ⟨rfl, rfl⟩ (.refl s)
    · exact .ite (.refl s) ⟨rfl, rfl⟩
  exact h.trans ⟨rfl, rfl⟩

/-- `t` is `s` but for its registers, links, pair, snapshots, the claim and two notes of the collector. -/
def State.Resigned (s t : State) : Prop :=
  t = { s with reg := t.reg, links := t.links, pair := t.pair, sbg := t.sbg, unit := t.unit,
               flt := { s.flt with injKey := t.flt.injKey, fatalAt := t.flt.fatalAt } }

end

namespace State.Resigned

variable {s t u : State}

theorem refl (s : State) : s.Resigned s := rfl

theorem trans (h : s.Resigned t) (g : t.Resigned u) : s.Resigned u := by
  unfold State.Resigned at h g ⊢
  rw [h] at g
  exact g

theorem ite {p : Prop} [Decidable p] (ht : s.Resigned t) (hu : s.Resigned u) : s.Resigned (if p then t else u) := by
  split
  · exact ht
  · exact hu

theorem foldl {α : Type} (f : State → α → State) (hf : ∀ (s : State) x, s.Resigned (f s x)) (l : List α) (s : State) :
    s.Resigned (l.foldl f s) := by
  induction l generalizing s with
  | nil => exact .refl s
  | cons a l ih => exact (hf s a).trans (ih _)

theorem loc (h : s.Resigned t) : t.loc = s.loc := by rw [h]
theorem time (h : s.Resigned t) : t.time = s.time := by rw [h]
theorem reacted (h : s.Resigned t) : s.Reacted t := by
  constructor
  · rw [h]
  · rw [h]

end State.Resigned

section
variable (s : State)

theorem State.resigned_giveUp : s.Resigned s.giveUp := by
  unfold State.giveUp
  extract_lets s1 pr s2 s3
  have h1 : s.Resigned s1 := .ite (.refl s) rfl
  have h2 : s.Resigned s2 := h1.trans rfl
  have h3 : s.Resigned s3 := by
    refine .ite (h2.trans ?_) h2
    unfold State.tokFree
    extract_lets s'
    have h' : s2.Resigned s' := .ite rfl (.refl s2)
    exact h'.trans rfl
  exact h3.trans rfl

theorem State.resigned_sendReflex (n act mask : Nat) : s.Resigned (s.sendReflex n act mask) := by
  unfold State.sendReflex
  refine .ite ?_ (.refl s)
  extract_lets l m l'
  split <;> rfl

theorem State.resigned_fatalSnaps (thermal : Bool) : s.Resigned (s.fatalSnaps thermal) := by
  refine .ite (.ite (.refl s) (.foldl _ (fun s k => ?_) _ s)) (.trans (.foldl _ (fun s k => .ite (by rfl) (.refl s)) _ s)
    (.foldl _ (fun s f => .ite (by rfl) (.refl s)) _ _))
  split
  · exact .ite (by rfl) (.refl s)
  · exact .refl s

end

/-- A step over the channels that makes its own safe and leaves the safe ones so makes every channel of its list safe. -/
theorem foldl_safe (f : State → Nat → State) (hf : ∀ (s : State) n m, n < 16 → ((s.lc m).safe = true ∨ m = n) → ((f s n).lc m).safe = true)
    (l : List Nat) (hl : ∀ n ∈ l, n < 16) (s : State) (m : Nat) (h : (s.lc m).safe = true ∨ m ∈ l) : ((l.foldl f s).lc m).safe = true := by
  induction l generalizing s with
  | nil => exact h.resolve_right List.not_mem_nil
  | cons n l ih =>
    refine ih (fun n hn => hl n (List.mem_cons_of_mem _ hn)) _ ?_
    by_cases hm : m ∈ l
    · exact .inr hm
    · exact .inl (hf s n m (hl n List.mem_cons_self) (h.imp_right (fun h => (List.mem_cons.mp h).resolve_right hm)))

/-- The state of a fatal reaction before its claim is sent anew. -/
def State.resigned (s : State) (msg : Nat) (thermal inj : Bool) : State :=
  let x := ((List.range 16).foldl (fun s n => s.forceLocal n) s).giveUp
  let x := if !s.unit.pairMode || (!s.claimIn && !s.tdmUp) then
      (List.range 16).foldl (fun s n => if s.linkUp n then s.sendReflex n 0 0xFF else s) x else x
  let x := (x.fatalSnaps thermal).takeSnap 96 (s.unitSnapBytes msg) true inj false
  let x := { x with flt := { x.flt with fatalAt := some x.time.mono } }
  (x.setBit Reg.LE_STAT 31 true).setBit Reg.FLT_STAT 31 true

theorem State.fatalReaction_eq (s : State) (msg : Nat) (thermal inj : Bool) :
    s.fatalReaction msg thermal inj = (s.resigned msg thermal inj).claimUpdate := rfl

theorem State.resigned_resigned (s : State) (msg : Nat) (thermal inj : Bool) :
    ((List.range 16).foldl (fun s n => s.forceLocal n) s).Resigned (s.resigned msg thermal inj) := by
  unfold State.resigned
  generalize (List.range 16).foldl (fun s n => s.forceLocal n) s = x
  extract_lets x1 x2 x3 fl x4
  have h1 : x.Resigned x1 := x.resigned_giveUp
  have h2 : x1.Resigned x2 := .ite (.foldl _ (fun s n => .ite (s.resigned_sendReflex ..) (.refl s)) _ _) (.refl x1)
  have h3 : x2.Resigned x3 := (x2.resigned_fatalSnaps thermal).trans rfl
  exact ((h1.trans h2).trans h3).trans rfl

theorem State.forceLocals_time (s : State) : ((List.range 16).foldl (fun s n => s.forceLocal n) s).time = s.time :=
  (State.StageParts.foldl (fun s n => s.forceLocal n) (fun s n => s.parts_forceLocal n) (List.range 16) s).same (·.time)
    (fun _ _ _ _ _ _ _ _ => rfl)

/-- The state just before the time of the reaction is noted. -/
theorem State.resigned_fatalAt (s : State) (msg : Nat) (thermal inj : Bool) :
    (s.resigned msg thermal inj).flt.fatalAt = some (s.resigned msg thermal inj).time.mono := rfl

theorem State.resigned_bits (s : State) (msg : Nat) (thermal inj : Bool) :
    (s.resigned msg thermal inj).bit Reg.FLT_STAT 31 = true ∧ (s.resigned msg thermal inj).bit Reg.LE_STAT 31 = true := by
  unfold State.resigned
  refine ⟨State.bit_setBit _ _ _ _ (by decide), ?_⟩
  rw [State.bit, State.rd_setBit_ne _ _ _ _ _ (by decide)]
  exact State.bit_setBit _ _ _ _ (by decide)

theorem State.claimUpdate_halted {s : State} (h : s.bit Reg.FLT_STAT 31 = true) :
    s.claimUpdate.unit.claimOut = false ∧ s.claimUpdate.fld Reg.PAIR_CLAIM 15 0 = 0 := by
  have hc : s.claimNow = 0 := by
    unfold State.claimNow
    rw [if_pos]
    rw [State.halted, h, Bool.or_true]
  unfold State.claimUpdate
  rw [hc]
  exact ⟨rfl, State.fld_put _ _ _ _ _ (by decide)⟩

theorem State.fatalReaction_shows (s : State) (msg : Nat) (thermal inj : Bool) :
    let t := s.fatalReaction msg thermal inj
    t.flt.list = s.flt.list ∧ t.evr = s.evr ∧ t.flt.fatalAt = some s.time.mono ∧ t.bit Reg.FLT_STAT 31 = true ∧
      t.bit Reg.LE_STAT 31 = true ∧ t.unit.claimOut = false ∧ t.fld Reg.PAIR_CLAIM 15 0 = 0 ∧ ∀ m < 16, (t.lc m).safe = true := by
  intro t
  have ht : t = (s.resigned msg thermal inj).claimUpdate := rfl
  have hr := s.resigned_resigned msg thermal inj
  have hf : s.Reacted ((List.range 16).foldl (fun s n => s.forceLocal n) s) := .foldl _ (fun s n => s.reacted_forceLocal n) _ s
  have hl : ∀ m < 16, (((List.range 16).foldl (fun s n => s.forceLocal n) s).lc m).safe = true := fun m hm =>
    foldl_safe (fun s n => s.forceLocal n) (fun s n m hn h => s.killChannel_safe n m hn h) _ (fun _ => List.mem_range.mp) s m
      (.inr (List.mem_range.mpr hm))
  have hat := s.resigned_fatalAt msg thermal inj
  rw [hr.time, s.forceLocals_time] at hat
  obtain ⟨h1, h2⟩ := s.resigned_bits msg thermal inj
  obtain ⟨c1, c2⟩ := State.claimUpdate_halted h1
  have hrl := hr.loc
  have hra := hf.trans hr.reacted
  rw [ht]
  generalize s.resigned msg thermal inj = x at hat h1 h2 c1 c2 hrl hra
  refine ⟨hra.list, hra.evr, hat, ?_, ?_, c1, c2, fun m hm => ?_⟩
  · exact (congrArg (fun w => bitOf w 31) (State.rd_put_ne x Reg.PAIR_CLAIM Reg.FLT_STAT 15 0 x.claimNow (by decide))).trans h1
  · exact (congrArg (fun w => bitOf w 31) (State.rd_put_ne x Reg.PAIR_CLAIM Reg.LE_STAT 15 0 x.claimNow (by decide))).trans h2
  · have := hl m hm
    rwa [State.lc, ← hrl, ← State.lc] at this

/-! ## Entries of the list -/

/-- The message shows as the last one and counts (R356). -/
def State.fltShown (s : State) (m : FltMsg) (k : Nat) : State :=
  (((s.wrN Reg.FLT_LAST_LO (m.bits % 2 ^ 32)).wrN Reg.FLT_LAST_HI (m.bits / 2 ^ 32)).wr Reg.FLT_LASTGFC s.time.gfc).bump (Reg.FLT_KCNT k) 15 0 1

/-- A message that asserts the pin has its entry, and its FAULT record is offered. -/
def State.fltEntered (s : State) (m : FltMsg) (k : Nat) : State :=
  let e := (s.fltShown m k).fltEnter m k
  (if !m.fwd then ({ e.1 with flt := { e.1.flt with minRun := true } } : State) else e.1).fltRecord m k e.2

/-- The message at the head of the queue, without the class that R355 does not name. -/
def FltMsg.known (m : FltMsg) : FltMsg := { m with cls := if m.cls = 3 then 2 else m.cls }

theorem FltMsg.known_eq (m : FltMsg) : m.known = if m.cls = 3 then { m with cls := 2 } else m := by
  unfold FltMsg.known
  split <;> rfl

/-- The state with the head of the queue taken. -/
def State.fltTaken (s : State) (rest : List FltMsg) : State := { s with flt := { s.flt with inq := rest } }

theorem State.fltRoute_none (s : State) {rxn : Word} (h : fieldOf rxn 25 24 = 0) (scope item : Nat) : s.fltRoute rxn scope item = s := by
  unfold State.fltRoute
  simp only [h]

section
variable {s : State} (ha : s.awake = true) {m : FltMsg} {rest : List FltMsg} (hq : s.flt.inq = m :: rest) {k : Nat} (hk : m.kindIdx = some k)
include ha hq hk

theorem exec_faultClassify_cor (h0 : m.cls = 0) (h27 : bitOf (s.rxn k) 27 = false) : exec .faultClassify s = .next (
    ((((s.fltTaken rest).fltShown m k).bump Reg.FLT_CNTCOR 31 0 1).raiseWith (E.FLT_CORRECTED 0) [] m.inj m.fwd).fltCorrected m k 0xFF) := by
  have he : exec .faultClassify s = execFaultClassify s := rfl
  have h3 : m.cls ≠ 3 := by omega
  have hr : bitOf ((s.fltTaken rest).rxn k) 27 = false := h27
  have ht : (m.cls != 0 || bitOf ((s.fltTaken rest).rxn k) 27) = false := by rw [h0, hr]; rfl
  rw [he, execFaultClassify, hq]
  simp only [ha, Bool.not_true, Bool.false_eq_true, if_false, if_neg h3, hk]
  simp only [State.fltTaken] at ht
  simp only [ht, Bool.false_eq_true, if_false, Bool.false_and, if_pos h0]
  rfl

theorem exec_faultClassify (h0 : m.cls ≠ 0) (h24 : fieldOf (s.rxn k) 25 24 = 0) : exec .faultClassify s = .next (
    let y := ((s.fltTaken rest).fltEntered m.known k).traceFreeze (m.known.cls == 2)
    if m.cls = 1 then
      let z := ((y.bump Reg.FLT_CNTCON 31 0 1).bump Reg.FLT_LIFECON 31 0 1).raiseWith (E.FLT_CONTAINED 0) [] m.inj m.fwd
      if (m.known.scope k).1 = 7 && !m.fwd then z.unitReaction else z
    else
      let z := (y.bump Reg.FLT_LIFEFAT 31 0 1).raiseWith (E.FLT_FATAL 0) [] m.inj m.fwd
      if k < 2 && !m.inj then z else z.fatalReaction m.known.bits (k == 22) m.inj) := by
  have he : exec .faultClassify s = execFaultClassify s := rfl
  have hm : (if m.cls = 3 then { m with cls := 2 } else m) = m.known := m.known_eq.symm
  have hk' : m.known.kindIdx = some k := hk
  have hc : m.known.cls ≠ 0 := by
    rw [m.known_eq]
    split
    · exact (by decide : (2 : Nat) ≠ 0)
    · exact h0
  have ht : (m.known.cls != 0 || bitOf ((s.fltTaken rest).rxn k) 27) = true := by rw [bne_iff_ne.mpr hc]; rfl
  rw [he, execFaultClassify, hq]
  simp only [ha, Bool.not_true, Bool.false_eq_true, if_false, hm, hk', if_neg hc]
  simp only [State.fltTaken] at ht
  have hr (x : State) (a b : Nat) : x.fltRoute ((s.fltTaken rest).rxn k) a b = x := State.fltRoute_none x h24 a b
  simp only [State.fltTaken] at hr
  have h1 : (m.known.cls = 1) = (m.cls = 1) := by
    rw [m.known_eq]
    split <;> simp [*]
  simp only [ht, if_true, Bool.true_and, hr, h1]
  split
  · rfl
  · rfl

end

/-! ## The place of an entry -/

theorem mem_insertAge (p : Nat → Bool) (acc : List Nat) (i x : Nat) (h : x ∈ acc.takeWhile p ++ [i] ++ acc.dropWhile p) : x = i ∨ x ∈ acc := by
  rcases List.mem_append.mp h with h | h
  · rcases List.mem_append.mp h with h | h
    · exact .inr ((List.takeWhile_prefix p).subset h)
    · exact .inl (List.mem_singleton.mp h)
  · exact .inr ((List.dropWhile_suffix p).subset h)

theorem State.fltFind_lt (s : State) (p : FltEntry → Bool) {x : Nat} (h : x ∈ s.fltFind p) : x < 64 := by
  unfold State.fltFind at h
  extract_lets hits age at h
  have hh : ∀ y ∈ hits, y < 64 := fun y hy => List.mem_range.mp (List.mem_filter.mp hy).1
  have hall : ∀ (l : List Nat) (acc : List Nat), (∀ y ∈ l, y < 64) → (∀ y ∈ acc, y < 64) →
      ∀ y ∈ l.foldl (fun acc i => acc.takeWhile (fun j => decide (age j ≤ age i)) ++ [i] ++ acc.dropWhile (fun j => decide (age j ≤ age i))) acc,
        y < 64 := by
    intro l
    induction l with
    | nil => exact fun acc _ ha => ha
    | cons i l ih =>
      intro acc hl ha
      refine ih _ (fun y hy => hl y (List.mem_cons_of_mem _ hy)) fun y hy => ?_
      rcases mem_insertAge _ _ _ _ hy with rfl | hy
      · exact hl _ List.mem_cons_self
      · exact ha y hy
  exact hall hits [] hh (fun _ h => absurd h List.not_mem_nil) x h

theorem State.fltPlace_lt (s : State) {i : Nat} (h : s.fltPlace = some i) : i < 64 := by
  unfold State.fltPlace at h
  split at h
  · next j hj =>
    cases h
    exact List.mem_range.mp (List.mem_of_find?_eq_some hj)
  · exact s.fltFind_lt _ (List.mem_of_mem_head? h)

/-- A new entry names its message, its kind and its time. -/
theorem State.fltEnter_some (s : State) (m : FltMsg) (k : Nat) {i : Nat} (h : s.fltPlace = some i) :
    ∃ e : FltEntry, (e.msg, e.kidx, e.gfc) = (m, k, s.time.gfc) ∧ s.fltEnter m k = (s.fltPut i (some e), i) := by
  unfold State.fltEnter
  rw [h]
  exact ⟨_, rfl, rfl⟩

theorem State.fltEnter_none (s : State) (m : FltMsg) (k : Nat) (h : s.fltPlace = none) :
    s.fltEnter m k = ((s.setBit Reg.FLT_STAT 30 true).raise (E.FLT_OVERFLOW 0), 0xFF) := by
  unfold State.fltEnter
  rw [h]

/-! ## The message entered -/

/-- The registers that show a message of kind `k`. -/
def shownReg (k a i : Nat) : Prop :=
  a = Reg.FLT_LAST_LO ∨ a = Reg.FLT_LAST_HI ∨ a = Reg.FLT_LASTGFC ∨ a = Reg.FLT_KCNT k ∨ (a = Reg.FLT_STAT ∧ i = 30)

section
variable (s : State) (m : FltMsg) (k : Nat)

theorem State.frame_fltShown {E : Nat → Prop} : State.Frame (shownReg k) E s (s.fltShown m k) := by
  have h : State.Frame (shownReg k) E s s := .refl s
  exact (((h.wrN _ _ (fun _ _ => .inl rfl)).wrN _ _ (fun _ _ => .inr (.inl rfl))).wr _ _ (fun _ _ => .inr (.inr (.inl rfl)))).bump _ _ _ _
    (fun _ _ _ _ => .inr (.inr (.inr (.inl rfl))))

end

/-- `t` is `s` but for its registers and its events. -/
def State.Told (s t : State) : Prop := t = { s with reg := t.reg, evq := t.evq }

theorem State.Told.trans {s t u : State} (h : s.Told t) (g : t.Told u) : s.Told u := by
  unfold State.Told at h g ⊢
  rw [h] at g
  exact g

theorem State.told_pulse (s : State) (p : EvPulse) : s.Told (s.pulse p) := by
  unfold State.pulse
  split <;> rfl

theorem State.told_raiseWith (s : State) (e : Ev) (d : List Byte) (i w : Bool) : s.Told (s.raiseWith e d i w) := by
  unfold State.raiseWith
  split
  · exact State.told_pulse ..
  · exact (State.told_pulse ..).trans (State.told_pulse ..)

theorem State.told_traceFreeze (s : State) (fatal : Bool) : s.Told (s.traceFreeze fatal) := by
  unfold State.traceFreeze
  generalize List.range 8 = l
  induction l generalizing s with
  | nil => rfl
  | cons u l ih =>
    rw [List.foldl_cons]
    refine State.Told.trans ?_ (ih _)
    extract_lets st
    split
    · exact State.Told.trans (t := s.trcGoto u 6) rfl (State.told_raiseWith ..)
    · rfl

/-- What freezing the trace units may change. -/
def freezeReg (a : Nat) : Prop := 0x2600 ≤ a ∧ a < 0x2800

theorem State.frame_traceFreeze (s : State) (fatal : Bool) : State.Frame (fun a _ => freezeReg a) (· = 98) s (s.traceFreeze fatal) := by
  refine .foldl _ _ (fun s u hu => .ite ?_ (.refl s)) s
  have hu := List.mem_range.mp hu
  have hst : freezeReg (Reg.TRC_STAT u) := by
    simp only [freezeReg, Reg.TRC_STAT]
    omega
  exact .raise (.put (.refl s) _ _ _ _ (fun _ _ _ _ => hst)) _ (by decide : 98 < 256) (.inl rfl)

/-! ## What a classification shows -/

section
variable (s : State) (m : FltMsg) (k : Nat)

theorem State.wr_only {s x : State} (h : x = { s with reg := x.reg }) (a : Nat) (v : Word) : x.wr a v = { s with reg := (x.wr a v).reg } := by
  rw [h]
  rfl

theorem State.fltShown_eq : s.fltShown m k = { s with reg := (s.fltShown m k).reg } :=
  State.wr_only (State.wr_only (State.wr_only (State.wr_only rfl _ _) _ _) _ _) _ _

/-- The state of an entered message before its FAULT record is offered. -/
theorem State.fltEnter_shows {x : State} (hf : State.Frame (shownReg k) (fun _ => False) s x) (hx : x = { s with reg := x.reg }) :
    let y := (x.fltEnter m k).1
    State.Frame (shownReg k) (fun _ => False) s y ∧
      y = { s with reg := y.reg, evq := y.evq, flt := { s.flt with list := y.flt.list } } ∧
      (∀ a, a ≠ Reg.FLT_STAT → sideReg a = false → y.rd a = x.rd a) ∧
      (∀ i, s.fltPlace = some i → (y.fltAt i).map (fun e => (e.msg, e.kidx, e.gfc)) = some (m, k, s.time.gfc)) ∧
      (s.fltPlace = none → y.flt.list = s.flt.list ∧ y.bit Reg.FLT_STAT 30 = true ∧ Raised s y (E.FLT_OVERFLOW 0)) := by
  intro y
  have hp : x.fltPlace = s.fltPlace := by rw [hx]; rfl
  have hg : x.time.gfc = s.time.gfc := by rw [hx]
  have hev : x.evq = s.evq := by rw [hx]
  cases h : s.fltPlace with
  | none =>
    have hy : y = (x.setBit Reg.FLT_STAT 30 true).raise (E.FLT_OVERFLOW 0) := by
      simp only [y, x.fltEnter_none m k (hp.trans h)]
    have ht : State.Told s y := by
      rw [hy]
      refine State.Told.trans (t := x.setBit Reg.FLT_STAT 30 true) ?_ (State.told_raiseWith ..)
      rw [hx]
      rfl
    refine ⟨?_, ?_, fun a ha hs => ?_, (fun i hi => absurd hi nofun), fun _ => ⟨?_, ?_, ?_⟩⟩
    · rw [hy]
      exact (hf.setBit _ _ _ (.inr (.inr (.inr (.inr ⟨rfl, rfl⟩))))).raise _ (by decide) (.inr (.inr rfl))
    · rw [ht]
    · rw [hy, State.raise, State.raiseWith_rd _ _ _ _ _ _ (by decide) (sideReg_cross hs), State.rd_setBit_ne _ _ _ _ _ ha.symm]
    · rw [ht]
    · rw [hy, State.bit, State.rd_raise _ _ _ _ _ (by decide) (by decide) (by decide)]
      exact State.bit_setBit _ _ _ _ (by decide)
    · rw [hy]
      exact .of (List.Subset.refl _) hev
  | some i =>
    obtain ⟨e, he, hxe⟩ := x.fltEnter_some m k (hp.trans h)
    have hy : y = x.fltPut i (some e) := by simp only [y, hxe]
    refine ⟨?_, ?_, fun a _ _ => ?_, fun j hj => ?_, (fun hn => absurd hn nofun)⟩
    · rw [hy]
      exact hf.trans (.of rfl)
    · rw [hy, hx]
      rfl
    · rw [hy]
      rfl
    · cases hj
      rw [hy, State.fltAt_fltPut_same _ _ (s.fltPlace_lt h), ← hg]
      exact congrArg some he

/-- Which snapshots belong to a message follows the phases, the feeders and the time. -/
theorem State.snapsOf_congr {t : State} (hp : ∀ i, t.rd (Reg.PT_LOC i) = s.rd (Reg.PT_LOC i)) (hf : ∀ f, t.rd (Reg.FDR_CFG f) = s.rd (Reg.FDR_CFG f))
    (ht : t.time = s.time) : t.snapsOf m k = s.snapsOf m k := by
  have h1 (i : Nat) : t.phStage i = s.phStage i := by simp only [State.phStage, State.fld, hp]
  have h2 (n : Nat) : t.linkStages n = s.linkStages n := by
    simp only [State.linkStages, State.phases, State.phValid, State.phLocal, State.phWhere, State.phStage, State.fld, State.bit, hp]
  have h3 (n : Nat) : t.linkFeeders n = s.linkFeeders n := by
    simp only [State.linkFeeders, State.fdrValid, State.fdrLink, State.fld, State.bit, hf]
  simp only [State.snapsOf, h1, h2, h3, ht]

theorem shownReg_apart {a i : Nat} (ha : a % 0x20 = 0) (h : 0x3400 ≤ a) : ¬ shownReg k a i ∧ sideReg a = false := by
  simp only [shownReg, sideReg, Reg.FLT_LAST_LO, Reg.FLT_LAST_HI, Reg.FLT_LASTGFC, Reg.FLT_KCNT, Reg.FLT_STAT, Reg.TIM_CDCDROP, Reg.FLT_DROP,
    Reg.HST_RSVWR, Reg.CW_STAT, Bool.or_eq_false_iff, Bool.and_eq_false_iff, beq_eq_false_iff_ne, decide_eq_false_iff_not]
  omega

/-- What an entered message leaves. -/
structure State.EntersAs (s : State) (m : FltMsg) (k : Nat) (y : State) : Prop where
  frame : State.Frame (fun a i => shownReg k a i ∨ freezeReg a) (· = 98) s y
  shown : ∀ a, a ≠ Reg.FLT_STAT → sideReg a = false → ¬ freezeReg a → y.rd a = (s.fltShown m k).rd a
  kept : y.unit = s.unit ∧ y.loc = s.loc ∧ y.flt.inq = s.flt.inq
  minRun : m.fwd = false → y.flt.minRun = true
  place : ∀ i, s.fltPlace = some i → (y.fltAt i).map (fun e => (e.msg, e.kidx, e.gfc)) = some (m, k, s.time.gfc)
  full : s.fltPlace = none → y.flt.list = s.flt.list ∧ y.bit Reg.FLT_STAT 30 = true ∧ Raised s y (E.FLT_OVERFLOW 0)
  offer : ∃ r ∈ y.evr.offers, r.kind = 2 ∧ r.src = k ∧ r.sev = m.sev ∧ r.snaps = s.snapsOf m k

/-- The FAULT record of a message is offered with the snapshots of the state that offers it. -/
theorem State.fltRecord_shows (idx : Nat) : (s.fltRecord m k idx).reg = s.reg ∧ (s.fltRecord m k idx).evq = s.evq ∧
    (s.fltRecord m k idx) = { s with flt := (s.fltRecord m k idx).flt, evr := (s.fltRecord m k idx).evr } ∧
    (s.fltRecord m k idx).flt = { s.flt with supp := (s.fltRecord m k idx).flt.supp, recSec := (s.fltRecord m k idx).flt.recSec } ∧
    ∃ r ∈ (s.fltRecord m k idx).evr.offers, r.kind = 2 ∧ r.src = k ∧ r.sev = m.sev ∧ r.snaps = s.snapsOf m k :=
  ⟨rfl, rfl, rfl, rfl, _, List.mem_append_right _ List.mem_cons_self, rfl, rfl, rfl,
    State.snapsOf_congr _ _ _ (fun _ => rfl) (fun _ => rfl) rfl⟩

theorem State.fltEntered_shows : s.EntersAs m k (s.fltEntered m k) := by
  obtain ⟨e1, e2, e3, e4, e5⟩ := s.fltEnter_shows m k (s.frame_fltShown m k) (s.fltShown_eq m k)
  unfold State.fltEntered
  generalize (s.fltShown m k).fltEnter m k = e at e1 e2 e3 e4 e5
  obtain ⟨y, idx⟩ := e
  dsimp only at e1 e2 e3 e4 e5 ⊢
  set z := (if (!m.fwd) = true then ({ y with flt := { y.flt with minRun := true } } : State) else y) with hz
  have hzy : z = { y with flt := { y.flt with minRun := z.flt.minRun } } := by
    rw [hz]
    split <;> rfl
  have hmin : m.fwd = false → z.flt.minRun = true := fun h => by rw [hz, h]; rfl
  obtain ⟨-, -, r3, r4, r5⟩ := z.fltRecord_shows m k idx
  generalize z.fltRecord m k idx = x at r3 r4 r5
  have hreg : x.reg = y.reg := by rw [r3, hzy]
  have hevq : x.evq = y.evq := by rw [r3, hzy]
  have hlist : x.flt.list = y.flt.list := by rw [r4, hzy]
  have hinq : x.flt.inq = y.flt.inq := by rw [r4, hzy]
  have hrd (a : Nat) : x.rd a = y.rd a := by rw [State.rd, hreg, ← State.rd]
  have hyx : State.Frame (shownReg k) (fun _ => False) y x := .of (by
    rw [State.frameParts, r3, r4, hzy]
    rfl)
  refine ⟨(e1.trans hyx).mono (fun _ _ => .inl) (fun _ h => h.elim), fun a ha hs _ => (hrd a).trans (e3 a ha hs),
    ⟨?_, ?_, ?_⟩, fun h => ?_, fun i hi => ?_, fun h => ?_, ?_⟩
  · rw [r3, hzy, e2]
  · rw [r3, hzy, e2]
  · rw [hinq, e2]
  · rw [r4]
    exact hmin h
  · rw [State.fltAt, hlist, ← State.fltAt]
    exact e4 i hi
  · obtain ⟨f1, f2, f3⟩ := e5 h
    exact ⟨hlist.trans f1, by rw [State.bit, hrd]; exact f2, f3.mono (by rw [hevq]; exact List.Subset.refl _)⟩
  · obtain ⟨r, hr, g1, g2, g3, g4⟩ := r5
    refine ⟨r, hr, g1, g2, g3, g4.trans (State.snapsOf_congr _ _ _ (fun i => ?_) (fun f => ?_) (by rw [hzy]; exact e1.time))⟩
    all_goals
      rw [hzy]
      refine e1.rd (fun j _ => (shownReg_apart k ?_ ?_).1) (shownReg_apart k (i := 0) ?_ ?_).2 <;>
        simp only [Reg.PT_LOC, Reg.FDR_CFG] <;> omega

/-- The registers of the last message and the count of its kind show it. -/
def State.ShowsMsg (s : State) (m : FltMsg) (k : Nat) (t : State) : Prop :=
  t.rdN Reg.FLT_LAST_LO = m.bits % 2 ^ 32 ∧ t.rdN Reg.FLT_LAST_HI = m.bits / 2 ^ 32 ∧
    t.rd Reg.FLT_LASTGFC = s.time.gfc ∧ t.fld (Reg.FLT_KCNT k) 15 0 = min (s.fld (Reg.FLT_KCNT k) 15 0 + 1) 0xFFFF

theorem FltMsg.bits_lt : m.bits < 2 ^ 64 := by
  unfold FltMsg.bits
  omega

theorem State.fltShown_shows : s.ShowsMsg m k (s.fltShown m k) := by
  have hb := m.bits_lt
  have hk (a : Nat) (h : a < 0x1E40C) : Reg.FLT_KCNT k ≠ a := by simp only [Reg.FLT_KCNT]; omega
  have hw (x : State) (a : Nat) (h : a < 0x1E40C) (hi lo n : Nat) : (x.bump (Reg.FLT_KCNT k) hi lo n).rd a = x.rd a :=
    State.rd_bump_ne _ _ _ _ _ _ (hk a h)
  refine ⟨?_, ?_, ?_, ?_⟩
  · rw [State.rdN, State.fltShown, hw _ _ (by decide), State.rd_wr_ne _ _ _ _ (by decide), State.rd_wrN_ne _ _ _ _ (by decide), State.rd_wrN_same]
    simp only [word, BitVec.toNat_ofNat]
    omega
  · rw [State.rdN, State.fltShown, hw _ _ (by decide), State.rd_wr_ne _ _ _ _ (by decide), State.rd_wrN_same]
    simp only [word, BitVec.toNat_ofNat]
    omega
  · rw [State.fltShown, hw _ _ (by decide), State.rd_wr_same]
  · rw [State.fltShown, State.fld_bump _ _ _ _ _ (by decide)]
    have : ∀ x : State, ((x.wr Reg.FLT_LASTGFC s.time.gfc).fld (Reg.FLT_KCNT k) 15 0 = x.fld (Reg.FLT_KCNT k) 15 0) := fun x => by
      rw [State.fld, State.rd_wr_ne _ _ _ _ (hk _ (by decide)).symm, ← State.fld]
    rw [this, State.fld, State.rd_wrN_ne _ _ _ _ (hk _ (by decide)).symm, State.rd_wrN_ne _ _ _ _ (hk _ (by decide)).symm, ← State.fld]
    rfl

/-- Freezing the trace units leaves what an entered message shows. -/
theorem State.EntersAs.traceFreeze {y : State} (h : s.EntersAs m k y) (fatal : Bool) : s.EntersAs m k (y.traceFreeze fatal) := by
  have hf := y.frame_traceFreeze fatal
  have ht := y.told_traceFreeze fatal
  generalize y.traceFreeze fatal = z at hf ht
  have hflt : z.flt = y.flt := by rw [ht]
  refine ⟨h.frame.trans (hf.mono (fun _ _ => .inr) (fun _ h => h)), fun a ha hs hz => (hf.rd (fun _ _ => hz) hs).trans (h.shown a ha hs hz),
    ⟨?_, ?_, ?_⟩, fun hm => ?_, fun i hi => ?_, fun hp => ?_, ?_⟩
  · rw [ht]
    exact h.kept.1
  · rw [ht]
    exact h.kept.2.1
  · rw [hflt]
    exact h.kept.2.2
  · rw [hflt]
    exact h.minRun hm
  · rw [State.fltAt, hflt, ← State.fltAt]
    exact h.place i hi
  · obtain ⟨f1, f2, f3⟩ := h.full hp
    refine ⟨by rw [hflt]; exact f1, ?_, hf.raised f3⟩
    rw [State.bit, hf.rd (fun i _ => by simp only [freezeReg, Reg.FLT_STAT]; omega) (by decide)]
    exact f2
  · have : z.evr = y.evr := by rw [ht]
    rw [this]
    exact h.offer

theorem State.ShowsMsg.congr {y t : State} (h : s.ShowsMsg m k y)
    (hr : ∀ a, a = Reg.FLT_LAST_LO ∨ a = Reg.FLT_LAST_HI ∨ a = Reg.FLT_LASTGFC ∨ a = Reg.FLT_KCNT k → t.rd a = y.rd a) : s.ShowsMsg m k t := by
  obtain ⟨h1, h2, h3, h4⟩ := h
  unfold State.ShowsMsg State.rdN State.fld
  rw [hr _ (.inl rfl), hr _ (.inr (.inl rfl)), hr _ (.inr (.inr (.inl rfl))), hr _ (.inr (.inr (.inr rfl)))]
  exact ⟨h1, h2, h3, h4⟩

/-- The registers that show a message are none of the counts, and nothing on the way changes them. -/
theorem shows_apart (hk : k < 27) {a : Nat} (h : a = Reg.FLT_LAST_LO ∨ a = Reg.FLT_LAST_HI ∨ a = Reg.FLT_LASTGFC ∨ a = Reg.FLT_KCNT k) :
    (a = 0x410 ∨ a = 0x414 ∨ a = 0x418 ∨ 0x1E400 ≤ a) ∧ sideReg a = false ∧ ¬ freezeReg a ∧ ∀ i, ¬ fatalReg a i := by
  have hd : Reg.FLT_KCNT k = 0x1E40C + 0x10 * k := rfl
  have ha : a = 0x410 ∨ a = 0x414 ∨ a = 0x418 ∨ (0x1E400 ≤ a ∧ a < 0x1E5C0) := by
    rcases h with h | h | h | h
    · exact .inl h
    · exact .inr (.inl h)
    · exact .inr (.inr (.inl h))
    · omega
  refine ⟨by omega, sideReg_eq_false.mpr (by simp only [Reg.HST_RSVWR, Reg.CW_STAT]; omega), by simp only [freezeReg]; omega, fun i => ?_⟩
  simp only [fatalReg, phaseReg, Reg.SYS_TOKSTAT, Reg.INJ_STAT, Reg.LE_STAT, Reg.FLT_STAT]
  omega

end

/-! ## The three classes -/

/-- The record of a corrected message changes the collector's notes and the recorder alone. -/
theorem State.fltCorrected_eq (s : State) (m : FltMsg) (k idx : Nat) : s.fltCorrected m k idx =
    { s with flt := { s.flt with supp := (s.fltCorrected m k idx).flt.supp, recSec := (s.fltCorrected m k idx).flt.recSec },
             evr := (s.fltCorrected m k idx).evr } := by
  unfold State.fltCorrected
  split
  · split <;> rfl
  · rfl

section
variable (s : State) (m : FltMsg) (k : Nat) (rest : List FltMsg)

/-- A corrected message is shown and counted. -/
theorem State.corrected_shows (hk : k < 27) :
    let t := ((((s.fltTaken rest).fltShown m k).bump Reg.FLT_CNTCOR 31 0 1).raiseWith (E.FLT_CORRECTED 0) [] m.inj m.fwd).fltCorrected m k 0xFF
    s.ShowsMsg m k t ∧ t.flt.inq = rest ∧ t.flt.list = s.flt.list ∧
      t.fld Reg.FLT_CNTCOR 31 0 = min (s.fld Reg.FLT_CNTCOR 31 0 + 1) 0xFFFFFFFF ∧ Raised s t (E.FLT_CORRECTED 0) ∧
      Keeps s t [Reg.FLT_LAST_LO, Reg.FLT_LAST_HI, Reg.FLT_LASTGFC, Reg.FLT_KCNT k, Reg.FLT_CNTCOR] := by
  have hsh := (s.fltTaken rest).fltShown_shows m k
  have heq := (s.fltTaken rest).fltShown_eq m k
  have hfr := (s.fltTaken rest).frame_fltShown m k (E := fun _ => False)
  have hkp : Keeps s ((s.fltTaken rest).fltShown m k) [Reg.FLT_LAST_LO, Reg.FLT_LAST_HI, Reg.FLT_LASTGFC, Reg.FLT_KCNT k, Reg.FLT_CNTCOR] :=
    (((Keeps.refl s _).wr _ (by simp)).wr _ (by simp)).wr _ (by simp) |>.bump _ _ _ (by simp)
  generalize (s.fltTaken rest).fltShown m k = x at hsh heq hfr hkp ⊢
  intro t
  have htx := State.told_raiseWith (x.bump Reg.FLT_CNTCOR 31 0 1) (E.FLT_CORRECTED 0) [] m.inj m.fwd
  have hty := State.fltCorrected_eq ((x.bump Reg.FLT_CNTCOR 31 0 1).raiseWith (E.FLT_CORRECTED 0) [] m.inj m.fwd) m k 0xFF
  have hky := (hkp.bump (k := Reg.FLT_CNTCOR) 31 0 1 (by simp)).raiseWith (src := 32) (k := 0) (i := 0) [] m.inj m.fwd (by decide)
  have hr := State.raiseWith_raised (x.bump Reg.FLT_CNTCOR 31 0 1) (E.FLT_CORRECTED 0) [] m.inj m.fwd
  have hrd (a : Nat) (hs : sideReg a = false) :
      ((x.bump Reg.FLT_CNTCOR 31 0 1).raiseWith (E.FLT_CORRECTED 0) [] m.inj m.fwd).rd a = (x.bump Reg.FLT_CNTCOR 31 0 1).rd a :=
    State.raiseWith_rd _ _ _ _ _ _ (by decide) (sideReg_cross hs)
  have ht : t = ((x.bump Reg.FLT_CNTCOR 31 0 1).raiseWith (E.FLT_CORRECTED 0) [] m.inj m.fwd).fltCorrected m k 0xFF := rfl
  rw [← ht] at hty
  generalize (x.bump Reg.FLT_CNTCOR 31 0 1).raiseWith (E.FLT_CORRECTED 0) [] m.inj m.fwd = y at htx hty hky hr hrd
  have htr (a : Nat) : t.rd a = y.rd a := by rw [hty]; rfl
  have hc : Reg.FLT_KCNT k ≠ Reg.FLT_CNTCOR := by simp only [Reg.FLT_KCNT, Reg.FLT_CNTCOR]; omega
  refine ⟨State.ShowsMsg.congr _ _ _ hsh fun a ha => ?_, ?_, ?_, ?_, ?_, ?_⟩
  · obtain ⟨h1, h2, -⟩ := shows_apart k hk ha
    rw [htr, hrd a h2, State.rd_bump_ne _ _ _ _ _ _ (by simp only [Reg.FLT_CNTCOR]; omega)]
  · rw [hty, htx, heq]
    rfl
  · rw [hty, htx, heq]
    rfl
  · rw [State.fld, htr, hrd _ (by decide), ← State.fld, State.fld_bump _ _ _ _ _ (by decide)]
    have : x.fld Reg.FLT_CNTCOR 31 0 = s.fld Reg.FLT_CNTCOR 31 0 :=
      hfr.field (fun i _ _ _ h => by
          simp only [shownReg, Reg.FLT_CNTCOR, Reg.FLT_KCNT, Reg.FLT_LAST_LO, Reg.FLT_LAST_HI, Reg.FLT_LASTGFC, Reg.FLT_STAT] at h
          omega)
        (by decide)
    rw [this]
    rfl
  · refine Raised.mono (t := y) ?_ (by rw [hty]; exact List.Subset.refl _)
    have hq : (x.bump Reg.FLT_CNTCOR 31 0 1).evq = s.evq := by
      rw [heq]
      rfl
    exact fun hf => hr (by rw [State.pulseFits, hq]; exact hf)
  · rw [hty]
    exact hky.trans (.of (fun _ _ _ => rfl) rfl rfl)

/-- The entry of a message is in the list, or the overflow is raised, and its record is offered. -/
def State.Listed (s : State) (m : FltMsg) (k sev : Nat) (t : State) : Prop :=
  (∀ i, s.fltPlace = some i → (t.fltAt i).map (fun e => (e.msg, e.kidx, e.gfc)) = some (m, k, s.time.gfc)) ∧
    (s.fltPlace = none → t.flt.list = s.flt.list ∧ t.bit Reg.FLT_STAT 30 = true ∧ Raised s t (E.FLT_OVERFLOW 0)) ∧
    (∃ r ∈ t.evr.offers, r.kind = 2 ∧ r.src = k ∧ r.sev = sev ∧ r.snaps = s.snapsOf m k)

/-- What is later counted, raised and reacted to leaves the entry and its record. -/
theorem State.EntersAs.listed {y t : State} (h : (s.fltTaken rest).EntersAs m k y) (hl : t.flt.list = y.flt.list) (he : t.evr = y.evr)
    (hb : t.bit Reg.FLT_STAT 30 = y.bit Reg.FLT_STAT 30) (hq : y.evq ⊆ t.evq) : s.Listed m k m.sev t := by
  refine ⟨fun i hi => ?_, fun hp => ?_, ?_⟩
  · rw [State.fltAt, hl, ← State.fltAt]
    exact h.place i hi
  · obtain ⟨f1, f2, f3⟩ := h.full hp
    exact ⟨hl.trans f1, hb.trans f2, Raised.mono (t := y) (fun hf => f3 hf) hq⟩
  · rw [he]
    exact h.offer

/-- The entered message counts once more in a lifetime counter, and its event is raised. -/
def State.fltCounts (y : State) (m : FltMsg) : State :=
  if m.cls = 1 then ((y.bump Reg.FLT_CNTCON 31 0 1).bump Reg.FLT_LIFECON 31 0 1).raiseWith (E.FLT_CONTAINED 0) [] m.inj m.fwd
  else (y.bump Reg.FLT_LIFEFAT 31 0 1).raiseWith (E.FLT_FATAL 0) [] m.inj m.fwd

/-- The registers of the lifetime counts. -/
def countReg (a : Nat) : Prop := a = Reg.FLT_CNTCON ∨ a = Reg.FLT_LIFECON ∨ a = Reg.FLT_LIFEFAT

theorem State.frame_fltCounts (y : State) : State.Frame (fun a _ => countReg a) (fun n => n = 33 ∨ n = 34) y (y.fltCounts m) :=
  .ite (.raiseWith (.bump (.bump (.refl y) _ _ _ _ (fun _ _ _ _ => .inl rfl)) _ _ _ _ (fun _ _ _ _ => .inr (.inl rfl))) _ _ _ _ (by decide)
      (.inl (.inl rfl)))
    (.raiseWith (.bump (.refl y) _ _ _ _ (fun _ _ _ _ => .inr (.inr rfl))) _ _ _ _ (by decide) (.inl (.inr rfl)))

theorem State.told_fltCounts (y : State) : y.Told (y.fltCounts m) := by
  unfold State.fltCounts
  split
  · exact State.Told.trans (t := (y.bump Reg.FLT_CNTCON 31 0 1).bump Reg.FLT_LIFECON 31 0 1) rfl (State.told_raiseWith ..)
  · exact State.Told.trans (t := y.bump Reg.FLT_LIFEFAT 31 0 1) rfl (State.told_raiseWith ..)

theorem State.fltCounts_con (y : State) (h : m.cls = 1) : (y.fltCounts m).fld Reg.FLT_CNTCON 31 0 = min (y.fld Reg.FLT_CNTCON 31 0 + 1) 0xFFFFFFFF ∧
    (y.fltCounts m).fld Reg.FLT_LIFECON 31 0 = min (y.fld Reg.FLT_LIFECON 31 0 + 1) 0xFFFFFFFF := by
  unfold State.fltCounts
  rw [if_pos h]
  constructor
  · rw [State.fld, State.raiseWith_rd _ _ _ _ _ _ (by decide) (by decide), State.rd_bump_ne _ _ _ _ _ _ (by decide)]
    exact State.fld_bump _ _ _ _ _ (by decide)
  · have : (y.bump Reg.FLT_CNTCON 31 0 1).fld Reg.FLT_LIFECON 31 0 = y.fld Reg.FLT_LIFECON 31 0 := by
      rw [State.fld, State.rd_bump_ne _ _ _ _ _ _ (by decide), ← State.fld]
    rw [State.fld, State.raiseWith_rd _ _ _ _ _ _ (by decide) (by decide), ← State.fld, State.fld_bump _ _ _ _ _ (by decide), this]
    rfl

theorem State.fltCounts_fat (y : State) (h : m.cls ≠ 1) :
    (y.fltCounts m).fld Reg.FLT_LIFEFAT 31 0 = min (y.fld Reg.FLT_LIFEFAT 31 0 + 1) 0xFFFFFFFF := by
  unfold State.fltCounts
  rw [if_neg h, State.fld, State.raiseWith_rd _ _ _ _ _ _ (by decide) (by decide), ← State.fld]
  exact State.fld_bump _ _ _ _ _ (by decide)

/-- The event of a class, after what entering the message raised. -/
theorem State.fltCounts_raised {y : State} (h : (s.fltTaken rest).EntersAs m.known k y) :
    (m.cls = 1 → Raised s (y.fltCounts m) (E.FLT_CONTAINED 0)) ∧ (m.cls ≠ 1 → Raised s (y.fltCounts m) (E.FLT_FATAL 0)) := by
  constructor
  · intro hc hf
    rw [State.fltCounts, if_pos hc]
    exact State.raiseWith_raised _ _ _ _ _ (h.frame.fits 33 (by decide) (by decide) (by decide) hf)
  · intro hc hf
    rw [State.fltCounts, if_neg hc]
    exact State.raiseWith_raised _ _ _ _ _ (h.frame.fits 34 (by decide) (by decide) (by decide) hf)

/-- What a classified contained or fatal message shows before its reaction. -/
theorem State.fltCounts_shows (hk : k < 27) {y : State} (h : (s.fltTaken rest).EntersAs m.known k y) :
    s.ShowsMsg m.known k (y.fltCounts m) ∧ s.Listed m.known k m.sev (y.fltCounts m) := by
  have hf := y.frame_fltCounts m
  have ht := y.told_fltCounts m
  generalize y.fltCounts m = z at hf ht
  have hn {a : Nat} (h : a = 0x410 ∨ a = 0x414 ∨ a = 0x418 ∨ 0x1E400 ≤ a ∨ a = 0x404) : ∀ i < 32, ¬ countReg a := by
    simp only [countReg, Reg.FLT_CNTCON, Reg.FLT_LIFECON, Reg.FLT_LIFEFAT]
    omega
  constructor
  · refine State.ShowsMsg.congr _ _ _ ((s.fltTaken rest).fltShown_shows m.known k) fun a ha => ?_
    obtain ⟨h1, h2, h3, -⟩ := shows_apart k hk ha
    exact (hf.rd (hn (by omega)) h2).trans (h.shown a (by simp only [Reg.FLT_STAT]; omega) h2 h3)
  · refine h.listed (k := k) s m.known rest ?_ ?_ ?_ hf.evq
    · rw [ht]
    · rw [ht]
    · rw [State.bit, hf.rd (hn (by decide)) (by decide), ← State.bit]

end

/-- What counts of registers an entered message leaves alone. -/
theorem State.EntersAs.fld_count {s y : State} {m : FltMsg} {k : Nat} {rest : List FltMsg} (h : (s.fltTaken rest).EntersAs m k y) {a : Nat}
    (ha : countReg a) : y.fld a 31 0 = s.fld a 31 0 := by
  have hc : a = 0x420 ∨ a = 0x424 ∨ a = 0x428 := ha
  refine h.frame.field (fun i _ _ _ hr => ?_) (sideReg_eq_false.mpr (by simp only [Reg.HST_RSVWR, Reg.CW_STAT]; omega))
  simp only [shownReg, freezeReg, Reg.FLT_KCNT, Reg.FLT_LAST_LO, Reg.FLT_LAST_HI, Reg.FLT_LASTGFC, Reg.FLT_STAT] at hr
  omega

section
variable {s : State} {m : FltMsg} {rest : List FltMsg} {k : Nat}

/-- What a contained message leaves: it is entered and counted, and nothing is halted. -/
theorem State.contained_shows (hk : k < 27) (hc : m.cls = 1) {y : State} (h : (s.fltTaken rest).EntersAs m.known k y) :
    let t := y.fltCounts m
    s.ShowsMsg m.known k t ∧ t.flt.inq = rest ∧ s.Listed m.known k m.sev t ∧
      t.fld Reg.FLT_CNTCON 31 0 = min (s.fld Reg.FLT_CNTCON 31 0 + 1) 0xFFFFFFFF ∧
      t.fld Reg.FLT_LIFECON 31 0 = min (s.fld Reg.FLT_LIFECON 31 0 + 1) 0xFFFFFFFF ∧ Raised s t (E.FLT_CONTAINED 0) ∧
      (m.fwd = false → t.flt.minRun = true) ∧ t.unit = s.unit ∧ t.loc = s.loc ∧ ∀ a, t.mem8 a = s.mem8 a := by
  obtain ⟨h1, h2⟩ := s.fltCounts_shows m k rest hk h
  obtain ⟨c1, c2⟩ := State.fltCounts_con m y hc
  rw [h.fld_count (.inl rfl)] at c1
  rw [h.fld_count (.inr (.inl rfl))] at c2
  have hr := (s.fltCounts_raised m k rest h).1 hc
  have ht := y.told_fltCounts m
  have hf := y.frame_fltCounts m
  intro t
  change State.Told y t at ht
  obtain ⟨k1, k2, k3⟩ := h.kept
  refine ⟨h1, ?_, h2, c1, c2, hr, fun hw => ?_, ?_, ?_, fun a => ?_⟩
  · rw [ht]
    exact k3
  · rw [ht]
    exact h.minRun hw
  · rw [ht]
    exact k1
  · rw [ht]
    exact k2
  · rw [State.mem8, hf.mem, h.frame.mem]
    rfl

/-- What a fatal message leaves before its reaction. -/
theorem State.fatal_shows (hk : k < 27) (hc : m.cls ≠ 1) {y : State} (h : (s.fltTaken rest).EntersAs m.known k y) :
    let t := y.fltCounts m
    s.ShowsMsg m.known k t ∧ t.flt.inq = rest ∧ s.Listed m.known k m.sev t ∧
      t.fld Reg.FLT_LIFEFAT 31 0 = min (s.fld Reg.FLT_LIFEFAT 31 0 + 1) 0xFFFFFFFF ∧ Raised s t (E.FLT_FATAL 0) ∧
      t.unit = s.unit ∧ t.loc = s.loc ∧ t.time = s.time ∧ t.rd Reg.LE_STAT = s.rd Reg.LE_STAT := by
  obtain ⟨h1, h2⟩ := s.fltCounts_shows m k rest hk h
  have c1 := State.fltCounts_fat m y hc
  rw [h.fld_count (.inr (.inr rfl))] at c1
  have hr := (s.fltCounts_raised m k rest h).2 hc
  have ht := y.told_fltCounts m
  have hf := y.frame_fltCounts m
  intro t
  change State.Told y t at ht
  obtain ⟨k1, k2, k3⟩ := h.kept
  refine ⟨h1, ?_, h2, c1, hr, ?_, ?_, hf.time.trans h.frame.time, ?_⟩
  · rw [ht]
    exact k3
  · rw [ht]
    exact k1
  · rw [ht]
    exact k2
  · refine (hf.rd (fun i _ => by unfold countReg; decide) (by decide)).trans (h.frame.rd (fun i _ hr => ?_) (by decide))
    simp only [shownReg, freezeReg, Reg.FLT_KCNT, Reg.FLT_LAST_LO, Reg.FLT_LAST_HI, Reg.FLT_LASTGFC, Reg.FLT_STAT, Reg.LE_STAT] at hr
    omega

/-- The fatal reaction keeps what a fatal message has shown, and halts the unit. -/
theorem State.fatalReaction_of_shows (hk : k < 27) {x : FltMsg} {z : State} (h1 : s.ShowsMsg x k z) (h2 : s.Listed x k m.sev z)
    (h3 : z.fld Reg.FLT_LIFEFAT 31 0 = min (s.fld Reg.FLT_LIFEFAT 31 0 + 1) 0xFFFFFFFF) (h4 : Raised s z (E.FLT_FATAL 0)) (hz : z.time = s.time)
    (msg : Nat) (thermal inj : Bool) :
    let t := z.fatalReaction msg thermal inj
    s.ShowsMsg x k t ∧ s.Listed x k m.sev t ∧ t.flt.fatalAt = some s.time.mono ∧ t.bit Reg.FLT_STAT 31 = true ∧
      t.bit Reg.LE_STAT 31 = true ∧ t.unit.claimOut = false ∧ t.fld Reg.PAIR_CLAIM 15 0 = 0 ∧
      t.loc.toList.all (fun c => c.a == .safe && c.b == .safe) = true ∧
      t.fld Reg.FLT_LIFEFAT 31 0 = min (s.fld Reg.FLT_LIFEFAT 31 0 + 1) 0xFFFFFFFF ∧ Raised s t (E.FLT_FATAL 0) := by
  obtain ⟨g1, g2, g3, g4, g5, g6, g7, g8⟩ := z.fatalReaction_shows msg thermal inj
  have hf := State.frame_fatalReaction (E := fun _ => False) z msg thermal inj
  intro t
  change t.flt.list = _ at g1
  change t.evr = _ at g2
  change State.Frame fatalReg _ z t at hf
  obtain ⟨l1, l2, l3⟩ := h2
  have hrd {a : Nat} (ha : a = 0x428 ∨ a = 0x404) : ∀ i, i ≠ 31 ∨ a ≠ 0x404 → ¬ fatalReg a i := fun i hi => by
    simp only [fatalReg, phaseReg, Reg.SYS_TOKSTAT, Reg.INJ_STAT, Reg.LE_STAT, Reg.FLT_STAT]
    omega
  refine ⟨State.ShowsMsg.congr _ _ _ h1 fun a ha => ?_, ⟨fun i hi => ?_, fun hp => ?_, ?_⟩, ?_, g4, g5, g6, g7, ?_, ?_, h4.mono hf.evq⟩
  · obtain ⟨-, h2, -, h4⟩ := shows_apart k hk ha
    exact hf.rd (fun i _ => h4 i) h2
  · rw [State.fltAt, g1, ← State.fltAt]
    exact l1 i hi
  · obtain ⟨f1, f2, f3⟩ := l2 hp
    exact ⟨g1.trans f1, (hf.bits _ _ (by decide) (hrd (.inr rfl) _ (.inl (by decide))) (by decide)).trans f2, f3.mono hf.evq⟩
  · rw [g2]
    exact l3
  · rw [← hz]
    exact g3
  · exact (State.all_loc _ _).mpr g8
  · exact (hf.field (fun i _ _ _ => hrd (.inl rfl) i (.inr (by decide))) (by decide)).trans h3

end

/-- The message at the head of the queue is entered and its trace units frozen. -/
theorem State.fltHead_enters (s : State) (m : FltMsg) (k : Nat) (rest : List FltMsg) :
    (s.fltTaken rest).EntersAs m.known k (((s.fltTaken rest).fltEntered m.known k).traceFreeze (m.known.cls == 2)) :=
  ((s.fltTaken rest).fltEntered_shows m.known k).traceFreeze _ _ _ _

/-- Settles O46: a message is shown and counted before its class is looked at; its entry and its record are made before its reaction,
and the fatal reaction touches neither. -/
theorem faultClassification : Obligations.FaultClassification := by
  intro s ha m rest hq k hk x shown entered
  have hk27 := kindIdx_lt hk
  have hen := s.fltHead_enters m k rest
  refine ⟨fun h0 h27 => ?_, fun h1 h24 h7 => ?_, fun hc h2 hi h24 => ?_, fun hc h2 h24 => ?_⟩
  · refine ⟨_, exec_faultClassify_cor ha hq hk h0 h27, ?_⟩
    have hx : m.known = m := by rw [m.known_eq, if_neg (by omega)]
    obtain ⟨⟨f1, f2, f3, f4⟩, f5⟩ := s.corrected_shows m k rest hk27
    exact ⟨⟨f1.trans (congrArg (fun m => m.bits % 2 ^ 32) hx.symm), f2.trans (congrArg (fun m => m.bits / 2 ^ 32) hx.symm), f3, f4⟩, f5⟩
  · have he := exec_faultClassify ha hq hk (by omega) h24
    have hsc : ((m.known.scope k).1 = 7 && !m.fwd) = false := by
      rw [show decide ((m.known.scope k).1 = 7) = false from decide_eq_false h7]
      rfl
    simp only [if_pos h1, hsc, Bool.false_eq_true, if_false] at he
    have := State.contained_shows hk27 h1 hen
    rw [State.fltCounts, if_pos h1] at this
    exact ⟨_, he, this⟩
  · have he := exec_faultClassify ha hq hk (by omega) h24
    have hk2 : (decide (k < 2) && !m.inj) = true := by simp [h2, hi]
    simp only [if_neg (by omega : m.cls ≠ 1), hk2, if_true] at he
    obtain ⟨f1, f2, f3, f4, f5, f6, f7, -, f9⟩ := State.fatal_shows hk27 (by omega : m.cls ≠ 1) hen
    rw [State.fltCounts, if_neg (by omega)] at f1 f2 f3 f4 f5 f6 f7 f9
    exact ⟨_, he, f1, f2, f3, f4, f5, f6, f7, f9⟩
  · have he := exec_faultClassify ha hq hk (by omega) h24
    have hk2 : (decide (k < 2) && !m.inj) = false := by
      rcases h2 with h | h
      · simp [show ¬ k < 2 by omega]
      · simp [h]
    simp only [if_neg (by omega : m.cls ≠ 1), hk2, Bool.false_eq_true, if_false] at he
    obtain ⟨f1, -, f3, f4, f5, -, -, f8, -⟩ := State.fatal_shows hk27 (by omega : m.cls ≠ 1) hen
    rw [State.fltCounts, if_neg (by omega)] at f1 f3 f4 f5 f8
    exact ⟨_, he, State.fatalReaction_of_shows hk27 f1 f3 f4 f5 f8 ..⟩

end Sys2Proof.Machine
end

section
/-!
PROOFS. Housekeeping: what a slot decision stores and counts, and what a finding reports (O40).
-/

namespace Sys2Proof.Machine

/-! ## The parts of a slot decision -/

/-- The registers of T. -/
def tempReg (a : Nat) : Prop := a = Reg.HK_TEMP ∨ a = Reg.HK_TFINE ∨ a = Reg.HK_RISE ∨ a = Reg.HK_STAT

section
variable {E : Nat → Prop} (s : State) (i w limit b : Nat)

theorem State.riseWindow_cases : s.riseWindow i w limit b = s ∨ ∃ up dn r,
    let x := (({ s with hk := { s.hk with rateUp := vset s.hk.rateUp i up, rateDn := vset s.hk.rateDn i dn } } : State).setBit
      Reg.HK_STAT (b - 2) true).put Reg.HK_RISE (16 * i + 15) (16 * i) r
    s.riseWindow i w limit b = if 4 ≤ dn then x.setBit Reg.HK_STAT b false else x := by
  unfold State.riseWindow
  split
  · exact .inl rfl
  · exact .inr ⟨_, _, _, rfl⟩

theorem State.frame_riseWindow : State.Frame (fun a _ => a = Reg.HK_STAT ∨ a = Reg.HK_RISE) E s (s.riseWindow i w limit b) := by
  rcases s.riseWindow_cases i w limit b with h | ⟨up, dn, r, h⟩
  · rw [h]
    exact .refl s
  · rw [h]
    have h1 : State.Frame (fun a _ => a = Reg.HK_STAT ∨ a = Reg.HK_RISE) E s
        { s with hk := { s.hk with rateUp := vset s.hk.rateUp i up, rateDn := vset s.hk.rateDn i dn } } := .of rfl
    have h3 := (h1.setBit Reg.HK_STAT (b - 2) true (.inl rfl)).put Reg.HK_RISE (16 * i + 15) (16 * i) r (fun _ _ _ _ => .inr rfl)
    exact .ite (h3.setBit Reg.HK_STAT b false (.inl rfl)) h3

theorem State.riseWindow_hk : (s.riseWindow i w limit b).hk =
    { s.hk with rateUp := (s.riseWindow i w limit b).hk.rateUp, rateDn := (s.riseWindow i w limit b).hk.rateDn } := by
  rcases s.riseWindow_cases i w limit b with h | ⟨up, dn, r, h⟩
  · rw [h]
  · rw [h]
    split <;> rfl

end

/-- The diodes disagree or T is out of range, so T is not used in this round. -/
def tempBad (a b : Int) : Bool := decide (1024 < (a - b).natAbs) || decide (cdiv (a + b) 2 < -14080) || decide (44800 < cdiv (a + b) 2)

section
variable {E : Nat → Prop} (s : State)

theorem State.hkTemp_unused (h : tempBad (s.hkVal 0) (s.hkVal 12) = true) :
    s.hkTemp = { s with hk := { s.hk with badN := countRound s.hk.badN true, used := false } } := by
  exact if_pos h

/-- The rise windows follow the new T and leave its register. -/
theorem State.rises_shows (a b : Nat) :
    let t := (s.riseWindow 0 16 a 28).riseWindow 1 1024 b 27
    State.Frame (fun a _ => a = Reg.HK_STAT ∨ a = Reg.HK_RISE) E s t ∧ t.hk = { s.hk with rateUp := t.hk.rateUp, rateDn := t.hk.rateDn } := by
  intro t
  refine ⟨(s.frame_riseWindow ..).trans (State.frame_riseWindow ..), ?_⟩
  have h1 := s.riseWindow_hk 0 16 a 28
  have h2 := (s.riseWindow 0 16 a 28).riseWindow_hk 1 1024 b 27
  change t.hk = _ at h2
  rw [h2, h1]

/-- The counts after a round that uses T. -/
def State.hkUsed (s : State) : HkSt :=
  let t := cdiv (s.hkVal 0 + s.hkVal 12) 2
  let warn := s.sfld Reg.HK_TLIM 15 0 * 16
  { s.hk with
    badN := 0, used := true, hist := (t :: s.hk.hist).take 1025, warnN := countRound s.hk.warnN (warn < t),
    coolN := countRound s.hk.coolN (t ≤ warn - 2048), shutN := countRound s.hk.shutN (s.sfld Reg.HK_TLIM 31 16 * 16 < t) }

/-- The highest T so far. -/
def State.hkTop (s : State) (t : Int) : Int :=
  match s.hk.hist with
  | [] => tempCode t
  | _ => max (s.sfld Reg.HK_TEMP 31 16) (tempCode t)

/-- T of the round from the two diodes. -/
def State.hkMean (s : State) : Int := cdiv (s.hkVal 0 + s.hkVal 12) 2

/-- A T that is used and shown, before the rise windows follow it. -/
def State.hkTaken (s : State) : State :=
  (({ s with hk := s.hkUsed } : State).wrN Reg.HK_TEMP (code 16 (tempCode s.hkMean) + 65536 * code 16 (s.hkTop s.hkMean))).wrN
    Reg.HK_TFINE (code 32 s.hkMean)

theorem State.hkTemp_eq (h : ¬ tempBad (s.hkVal 0) (s.hkVal 12) = true) :
    s.hkTemp = (s.hkTaken.riseWindow 0 16 (s.hkTaken.fld Reg.HK_RATE 15 0) 28).riseWindow 1 1024 (s.hkTaken.fld Reg.HK_RATE 31 16) 27 :=
  if_neg h

/-- A T that is used shows in HK_TEMP and ends the run of implausible rounds. -/
theorem State.hkTemp_used (h : ¬ tempBad (s.hkVal 0) (s.hkVal 12) = true) :
    s.hkTemp.fld Reg.HK_TEMP 15 0 = code 16 (tempCode s.hkMean) ∧ s.hkTemp.hk.badN = 0 := by
  obtain ⟨h1, h2⟩ := State.rises_shows (E := fun _ => False) s.hkTaken (s.hkTaken.fld Reg.HK_RATE 15 0) (s.hkTaken.fld Reg.HK_RATE 31 16)
  rw [s.hkTemp_eq h]
  refine ⟨?_, by rw [h2]; rfl⟩
  rw [State.fld, h1.rd (fun i _ hr => by revert hr; decide) (by decide)]
  have : s.hkTaken.rd Reg.HK_TEMP = word (code 16 (tempCode s.hkMean) + 65536 * code 16 (s.hkTop s.hkMean)) :=
    (State.rd_wrN_ne _ _ _ _ (by decide)).trans (State.rd_wrN_same ..)
  rw [this]
  have hc : code 16 (tempCode s.hkMean) < 2 ^ 16 := by
    unfold code
    omega
  simp only [fieldOf, word, BitVec.extractLsb'_toNat, BitVec.toNat_ofNat, Nat.shiftRight_eq_div_pow]
  omega

theorem State.frame_hkTemp : State.Frame (fun a _ => tempReg a) E s s.hkTemp := by
  by_cases h : tempBad (s.hkVal 0) (s.hkVal 12) = true
  · rw [s.hkTemp_unused h]
    exact .of rfl
  · rw [s.hkTemp_eq h]
    have h1 : State.Frame (fun a _ => tempReg a) E s { s with hk := s.hkUsed } := .of rfl
    have h2 : State.Frame (fun a _ => tempReg a) E s s.hkTaken := (h1.wrN Reg.HK_TEMP _ (fun _ _ => .inl rfl)).wrN Reg.HK_TFINE _
      (fun _ _ => .inr (.inl rfl))
    refine h2.trans ((State.rises_shows ..).1.mono (fun a i h => ?_) (fun _ h => h))
    rcases h with h | h
    · exact .inr (.inr (.inr h))
    · exact .inr (.inr (.inl h))

theorem State.hkTemp_hk : s.hkTemp.hk.vals = s.hk.vals ∧ s.hkTemp.hk.outN = s.hk.outN := by
  by_cases h : tempBad (s.hkVal 0) (s.hkVal 12) = true
  · rw [s.hkTemp_unused h]
    exact ⟨rfl, rfl⟩
  · rw [s.hkTemp_eq h, (State.rises_shows (E := fun _ => False) s.hkTaken _ _).2]
    exact ⟨rfl, rfl⟩

theorem State.hkMonitor_shows (i : Nat) :
    let t := s.hkMonitor i
    State.Frame (fun a _ => a = Reg.HK_SUPSTAT) E s t ∧ t.hk = { s.hk with outN := t.hk.outN, inN := t.hk.inN } ∧
      (i < 24 → hkHasMonitor i = true → s.fld (Reg.HK_SUPLIM i) 15 0 < s.fld (Reg.HK_SUPLIM i) 31 16 →
        vget t.hk.outN i 0 = countRound (vget s.hk.outN i 0)
          (decide (s.hkVal i < s.fld (Reg.HK_SUPLIM i) 15 0) || decide ((s.fld (Reg.HK_SUPLIM i) 31 16 : Int) < s.hkVal i))) := by
  intro t
  by_cases h : (hkHasMonitor i && decide ((s.fld (Reg.HK_SUPLIM i) 15 0 : Int) < (s.fld (Reg.HK_SUPLIM i) 31 16 : Int))) = true
  · have ht : t = s.hkMonitor i := rfl
    rw [State.hkMonitor, if_pos h] at ht
    extract_lets v out inn hk s1 at ht
    have h1 : State.Frame (fun a _ => a = Reg.HK_SUPSTAT) E s s1 := .of rfl
    have hk : t.hk = s1.hk := by
      rw [ht]
      split <;> rfl
    refine ⟨by rw [ht]; exact .ite (h1.setBit _ _ _ rfl) h1, by rw [hk], fun hi _ _ => ?_⟩
    rw [hk]
    exact vget_vset_same _ _ _ _ hi
  · have ht : t = s := if_neg h
    rw [ht]
    refine ⟨.refl s, rfl, fun _ h1 h2 => absurd ?_ h⟩
    rw [h1, decide_eq_true (by exact_mod_cast h2)]
    rfl

/-- The state in which a slot's value is stored and shown. -/
def State.hkStored (s : State) (i : Nat) (v : Int) : State :=
  ({ s with hk := { s.hk with vals := vset s.hk.vals i v } } : State).wrN (Reg.HK_VAL i) (hkShown i v)

theorem State.hkStored_hkVal (i j : Nat) (v : Int) (hi : i < 24) : (s.hkStored i v).hkVal j = if j = i then v else s.hkVal j := by
  split
  · next h =>
    rw [h]
    exact vget_vset_same _ _ _ _ hi
  · next h => exact vget_vset_ne _ _ _ _ _ (Ne.symm h)

/-- The count of a slot's check. -/
def State.hkChecked (s : State) (i : Nat) : State :=
  match s.hkCheckFails i with
  | some b => { s with hk := { s.hk with chkN := vset s.hk.chkN i (countRound (vget s.hk.chkN i 0) b) } }
  | none => { s with hk := { s.hk with chkN := vset s.hk.chkN i 0 } }

theorem State.hkChecked_eq (i : Nat) : ∃ n, s.hkChecked i = { s with hk := { s.hk with chkN := vset s.hk.chkN i n } } := by
  unfold State.hkChecked
  split
  · exact ⟨_, rfl⟩
  · exact ⟨_, rfl⟩

/-- A slot decision stores and shows, decides T in slot 12, counts its check and its supply, and ends the round in slot 23. -/
theorem exec_hkSlotDecision (i : Fin 24) (v : Int) (hon : s.hkOn = true) : exec (.hkSlotDecision i v) s = .next (
    let x := if i.val = 12 then (s.hkStored i v).hkTemp else s.hkStored i v
    let y := (x.hkChecked i).hkMonitor i
    if i.val = 23 then y.bump Reg.HK_ROUNDS 31 0 1 else y) := if_pos hon

end

/-! ## What a slot decision shows -/

theorem hkShown_lt (i : Nat) (v : Int) : hkShown i v < 2 ^ 32 := by
  have hc (v : Int) : code 32 v < 2 ^ 32 := by
    unfold code
    omega
  unfold hkShown
  split
  · exact hc _
  · split
    · exact hc _
    · exact hc _

/-- The registers of a slot decision. -/
def slotReg (i a : Nat) : Prop := a = Reg.HK_VAL i ∨ tempReg a ∨ a = Reg.HK_SUPSTAT ∨ a = Reg.HK_ROUNDS

/-- What a slot decision leaves, from the state that stored the value on. -/
structure State.SlotEnds (s : State) (i : Nat) (v : Int) (t : State) : Prop where
  frame : State.Frame (fun a _ => tempReg a ∨ a = Reg.HK_SUPSTAT ∨ a = Reg.HK_ROUNDS) (fun _ => False) (s.hkStored i v) t
  vals : t.hk.vals = (s.hkStored i v).hk.vals
  rounds : i = 23 → t.fld Reg.HK_ROUNDS 31 0 = min (s.fld Reg.HK_ROUNDS 31 0 + 1) (2 ^ 32 - 1)
  temp : i = 12 → t.rd Reg.HK_TEMP = (s.hkStored i v).hkTemp.rd Reg.HK_TEMP ∧ t.hk.badN = (s.hkStored i v).hkTemp.hk.badN
  supply : hkHasMonitor i = true → s.fld (Reg.HK_SUPLIM i) 15 0 < s.fld (Reg.HK_SUPLIM i) 31 16 →
    vget t.hk.outN i 0 = countRound (vget s.hk.outN i 0)
      (decide (v < s.fld (Reg.HK_SUPLIM i) 15 0) || decide ((s.fld (Reg.HK_SUPLIM i) 31 16 : Int) < v))

section
variable (s : State) {i : Nat} (v : Int)

theorem State.rd_hkStored {a : Nat} (h : Reg.HK_VAL i ≠ a) : (s.hkStored i v).rd a = s.rd a := State.rd_wrN_ne _ _ _ _ h

/-- What every register outside T's keeps up to the monitor. -/
theorem State.hkTempOf_shows (b : Bool) :
    let x := if b then s.hkTemp else s
    State.Frame (fun a _ => tempReg a) (fun _ => False) s x ∧ x.hk.vals = s.hk.vals ∧ x.hk.outN = s.hk.outN := by
  cases b with
  | true => exact ⟨s.frame_hkTemp, s.hkTemp_hk⟩
  | false => exact ⟨.refl s, rfl, rfl⟩

theorem State.hkSlot_ends (hi : i < 24) : s.SlotEnds i v
    (let x := if i = 12 then (s.hkStored i v).hkTemp else s.hkStored i v
     let y := (x.hkChecked i).hkMonitor i
     if i = 23 then y.bump Reg.HK_ROUNDS 31 0 1 else y) := by
  extract_lets x y
  obtain ⟨x1, x2, x3⟩ : State.Frame (fun a _ => tempReg a) (fun _ => False) (s.hkStored i v) x ∧ x.hk.vals = (s.hkStored i v).hk.vals ∧
      x.hk.outN = s.hk.outN := by
    have := (s.hkStored i v).hkTempOf_shows (decide (i = 12))
    simp only [decide_eq_true_eq] at this
    exact this
  have hx12 : i = 12 → x = (s.hkStored i v).hkTemp := fun h => if_pos h
  have hy : y = (x.hkChecked i).hkMonitor i := rfl
  obtain ⟨n, hn⟩ := x.hkChecked_eq i
  obtain ⟨m1, m2, m3⟩ := State.hkMonitor_shows (E := fun _ => False) (x.hkChecked i) i
  rw [← hy] at m1 m2 m3
  have hz : State.Frame (fun a _ => a = Reg.HK_SUPSTAT) (fun _ => False) x y := by
    refine State.Frame.trans (.of ?_) m1
    rw [hn]
    rfl
  rw [hn] at m2
  have hyb : y.hk.badN = x.hk.badN := by rw [m2]
  have hyv : y.hk.vals = x.hk.vals := by rw [m2]
  have hxy := (x1.mono (R' := fun a _ => tempReg a ∨ a = Reg.HK_SUPSTAT ∨ a = Reg.HK_ROUNDS) (fun _ _ => .inl) (fun _ h => h)).trans
    (hz.mono (fun _ _ h => .inr (.inl h)) (fun _ h => h))
  set t := if i = 23 then y.bump Reg.HK_ROUNDS 31 0 1 else y with ht
  have hyt : State.Frame (fun a _ => a = Reg.HK_ROUNDS) (fun _ => False) y t := .ite (.bump (.refl y) _ _ _ _ (fun _ _ _ _ => rfl)) (.refl y)
  have htk : t.hk = y.hk := by
    rw [ht]
    split <;> rfl
  have hv : Reg.HK_VAL i ≥ 0x1E000 := by simp only [Reg.HK_VAL]; omega
  refine ⟨hxy.trans (hyt.mono (fun _ _ h => .inr (.inr h)) (fun _ h => h)), by rw [htk, hyv, x2],
    fun h => ?_, fun h => ⟨?_, ?_⟩, fun h1 h2 => ?_⟩
  · have hr : y.rd Reg.HK_ROUNDS = s.rd Reg.HK_ROUNDS := by
      refine ((hz.rd (fun _ _ => by decide) (by decide)).trans (x1.rd (fun _ _ => by unfold tempReg; decide) (by decide))).trans ?_
      exact s.rd_hkStored v (by simp only [Reg.HK_ROUNDS]; omega)
    rw [ht, if_pos h, State.fld_bump _ _ _ _ _ (by decide), State.fld, hr]
    rfl
  · rw [hyt.rd (fun _ _ => by decide) (by decide), hz.rd (fun _ _ => by decide) (by decide), hx12 h]
  · rw [htk, hyb, hx12 h]
  · have hlim : (x.hkChecked i).rd (Reg.HK_SUPLIM i) = s.rd (Reg.HK_SUPLIM i) := by
      have h1 : (x.hkChecked i).rd (Reg.HK_SUPLIM i) = x.rd (Reg.HK_SUPLIM i) := by
        rw [hn]
        rfl
      refine h1.trans ((x1.rd (fun _ _ => ?_) ?_).trans (s.rd_hkStored v ?_))
      · simp only [tempReg, Reg.HK_SUPLIM, Reg.HK_TEMP, Reg.HK_TFINE, Reg.HK_RISE, Reg.HK_STAT]
        omega
      · rw [sideReg_eq_false]
        simp only [Reg.HK_SUPLIM, Reg.HST_RSVWR, Reg.CW_STAT]
        omega
      · simp only [Reg.HK_SUPLIM, Reg.HK_VAL]
        omega
    have hval : (x.hkChecked i).hkVal i = v := by
      rw [hn]
      refine (congrArg (fun w => vget w i 0) x2).trans ?_
      exact vget_vset_same _ _ _ _ hi
    have hout : (x.hkChecked i).hk.outN = s.hk.outN := by
      rw [hn]
      exact x3
    have := m3 hi h1 (by rw [State.fld, State.fld, hlim]; exact h2)
    rw [State.fld, State.fld, hlim, hval, hout] at this
    rw [htk]
    exact this

/-- The clauses of O40 for a slot decision. -/
theorem State.SlotEnds.shows {t : State} (h : s.SlotEnds i v t) (hi : i < 24) :
    t.hkVal i = v ∧ (∀ j, j ≠ i → t.hkVal j = s.hkVal j) ∧ t.rdN (Reg.HK_VAL i) = hkShown i v ∧
      (i = 12 → (s.hkVal 0 - v).natAbs ≤ 1024 → -14080 ≤ cdiv (s.hkVal 0 + v) 2 → cdiv (s.hkVal 0 + v) 2 ≤ 44800 →
        t.fld Reg.HK_TEMP 15 0 = code 16 (cdiv (cdiv (s.hkVal 0 + v) 2) 16) ∧ t.hk.badN = 0) ∧
      (i = 12 → 1024 < (s.hkVal 0 - v).natAbs → t.rd Reg.HK_TEMP = s.rd Reg.HK_TEMP ∧ t.hk.badN = countRound s.hk.badN true) ∧
      Keeps s t [Reg.HK_VAL i, Reg.HK_TEMP, Reg.HK_TFINE, Reg.HK_RISE, Reg.HK_STAT, Reg.HK_SUPSTAT, Reg.HK_ROUNDS] := by
  have hval (j : Nat) : t.hkVal j = (s.hkStored i v).hkVal j := congrArg (fun w => vget w j 0) h.vals
  have h0 (hi : i = 12) : (s.hkStored i v).hkVal 0 = s.hkVal 0 ∧ (s.hkStored i v).hkVal 12 = v := by
    subst hi
    exact ⟨s.hkStored_hkVal 12 0 v (by decide), s.hkStored_hkVal 12 12 v (by decide)⟩
  refine ⟨?_, fun j hj => ?_, ?_, fun hi h1 h2 h3 => ?_, fun hi h1 => ?_, ?_⟩
  · rw [hval, s.hkStored_hkVal _ _ _ hi, if_pos rfl]
  · rw [hval, s.hkStored_hkVal _ _ _ hi, if_neg hj]
  · have hs : (s.hkStored i v).rd (Reg.HK_VAL i) = word (hkShown i v) := State.rd_wrN_same ..
    rw [State.rdN, h.frame.rd (fun _ _ => ?_) ?_, hs]
    · exact Nat.mod_eq_of_lt (hkShown_lt i v)
    · rw [sideReg_eq_false]
      simp only [Reg.HK_VAL, Reg.HST_RSVWR, Reg.CW_STAT]
      omega
    · simp only [tempReg, Reg.HK_VAL, Reg.HK_TEMP, Reg.HK_TFINE, Reg.HK_RISE, Reg.HK_STAT, Reg.HK_SUPSTAT, Reg.HK_ROUNDS]
      omega
  · obtain ⟨e0, e12⟩ := h0 hi
    obtain ⟨f1, f2⟩ := h.temp hi
    have hu := (s.hkStored i v).hkTemp_used (by
      rw [e0, e12]
      simp only [tempBad, Bool.or_eq_true, decide_eq_true_eq]
      omega)
    rw [State.hkMean, e0, e12] at hu
    exact ⟨(congrArg (fun w => fieldOf w 15 0) f1).trans hu.1, f2.trans hu.2⟩
  · obtain ⟨e0, e12⟩ := h0 hi
    obtain ⟨f1, f2⟩ := h.temp hi
    have hu := (s.hkStored i v).hkTemp_unused (by
      rw [e0, e12]
      simp only [tempBad, Bool.or_eq_true, decide_eq_true_eq]
      omega)
    rw [hu] at f1 f2
    exact ⟨f1.trans (s.rd_hkStored v (by simp only [Reg.HK_VAL, Reg.HK_TEMP]; omega)), f2⟩
  · refine ((Keeps.refl s _).wr (k := Reg.HK_VAL i) _ List.mem_cons_self).trans
      (Keeps.trans (.of (fun _ _ _ => rfl) rfl rfl) (h.frame.keeps fun a _ ha => ?_))
    simp only [tempReg] at ha
    simp only [List.mem_cons, List.not_mem_nil, or_false]
    omega

end

/-! ## The findings -/

section
variable {s : State} (hon : s.hkOn = true)
include hon

theorem exec_hkSensor (h4 : 4 ≤ s.hk.badN) (hn : s.hk.badN ≠ 255) : exec .hkSensor s =
    .next ((({ s with hk := { s.hk with badN := 255 } } : State).setBit Reg.HK_STAT 30 true).fault 19 0 (code 32 s.hkT)) := by
  refine if_pos ?_
  rw [hon, countDue, decide_eq_true h4, show (_ != countSent) = true from bne_iff_ne.mpr hn]
  rfl

theorem exec_hkCheck (i : Fin 24) (h4 : 4 ≤ vget s.hk.chkN i 0) (hn : vget s.hk.chkN i 0 ≠ 255) : exec (.hkCheck i) s =
    .next (({ s with hk := { s.hk with chkN := vset s.hk.chkN i 255 } } : State).fault 20 i (code 32 (s.hkVal i))) := by
  refine if_pos ?_
  rw [hon, countDue, decide_eq_true h4, show (_ != countSent) = true from bne_iff_ne.mpr hn]
  rfl

theorem exec_thermWarn (h4 : 4 ≤ s.hk.warnN) (hb : s.bit Reg.HK_STAT 29 = false) : exec .thermWarn s =
    .next ((s.setBit Reg.HK_STAT 29 true).raise (E.THERM_WARN 0)) := by
  refine if_pos ?_
  rw [hon, decide_eq_true h4, hb]
  rfl

theorem exec_thermWarnClear (h4 : 4 ≤ s.hk.coolN) (hb : s.bit Reg.HK_STAT 29 = true) : exec .thermWarnClear s =
    .next ((s.setBit Reg.HK_STAT 29 false).raise (E.THERM_WARN_CLEAR 0)) := by
  refine if_pos ?_
  rw [hon, decide_eq_true h4, hb]
  rfl

theorem exec_thermShut (h4 : 4 ≤ s.hk.shutN) (hb : s.bit Reg.HK_STAT 31 = false) : exec .thermShut s =
    .next (let x : State := { s.setBit Reg.HK_STAT 31 true with unit := { s.unit with thermLatch := true } }
      (x.takeSnap 97 x.thermBytes true false false).fault 22 0 (code 32 s.hkT)) := by
  refine if_pos ?_
  rw [hon, decide_eq_true h4, hb]
  rfl

theorem exec_thermRate (long : Bool) (h4 : 4 ≤ vget s.hk.rateUp (if long then 1 else 0) 0)
    (hb : s.bit Reg.HK_STAT (if long then 27 else 28) = false) : exec (.thermRate long) s =
    .next ((s.setBit Reg.HK_STAT (if long then 27 else 28) true).raise (E.THERM_RATE 0)) := by
  refine if_pos ?_
  rw [hon, decide_eq_true h4, hb]
  rfl

theorem exec_hkSupply (i : Fin 24) (h4 : 4 ≤ vget s.hk.outN i 0) (hb : s.bit Reg.HK_SUPSTAT i = false) : exec (.hkSupply i) s =
    .next (let x := ((s.setBit Reg.HK_SUPSTAT i true).setBit Reg.HK_SUPSTKY i true).raise (E.SUPPLY_WARN i)
      let fatal := x.bit (Reg.HK_SUPCFG i) 0
      x.sendFault (x.faultMsg 21 (if fatal then 2 else 0) (if fatal then 7 else 4) i (code 32 (x.hkVal i)))) := by
  refine if_pos ?_
  rw [hon, decide_eq_true h4, hb]
  rfl

end

/-- A finding that sets or clears its bit of HK_STAT and raises its event. -/
theorem State.finding_shows (s : State) {n : Nat} (hn : n < 32) (b : Bool) {src k i : Nat} (he : src < 256) :
    let t := (s.setBit Reg.HK_STAT n b).raise ⟨src, k, i⟩
    t.bit Reg.HK_STAT n = b ∧ Raised s t ⟨src, k, i⟩ ∧ Keeps s t [Reg.HK_STAT] := by
  refine ⟨?_, .of (List.Subset.refl _) rfl, ((Keeps.refl s _).setBit _ _ (by decide)).raise he⟩
  rw [State.bit, State.rd_raise _ _ _ _ _ he (by decide) (by decide)]
  exact State.bit_setBit _ _ _ _ hn

section
variable (s : State)

theorem State.sensor_shows : let t := (({ s with hk := { s.hk with badN := 255 } } : State).setBit Reg.HK_STAT 30 true).fault 19 0 (code 32 s.hkT)
    t.bit Reg.HK_STAT 30 = true ∧ Reported t 19 0 (code 32 s.hkT) ∧ t.hk.badN = 255 ∧ Keeps s t [Reg.HK_STAT] := by
  refine ⟨?_, State.fault_reported _ _ _ _ (.inr (by decide)), by rw [State.fault_hk]; rfl, ?_⟩
  · rw [State.bit, State.rd_fault _ _ _ _ _ (by decide) (by decide) (by decide)]
    exact State.bit_setBit _ _ _ _ (by decide)
  · exact (Keeps.setBit (k := Reg.HK_STAT) (x := { s with hk := { s.hk with badN := 255 } }) (.of (fun _ _ _ => rfl) rfl rfl) 30 true
      (by decide)).fault _ _ _

theorem State.shut_shows :
    let x : State := { s.setBit Reg.HK_STAT 31 true with unit := { s.unit with thermLatch := true } }
    let t := (x.takeSnap 97 x.thermBytes true false false).fault 22 0 (code 32 s.hkT)
    t.bit Reg.HK_STAT 31 = true ∧ t.unit.thermLatch = true ∧ Reported t 22 0 (code 32 s.hkT) ∧
      (t.slotOf 97).count = min ((s.slotOf 97).count + 1) 0xFFFF ∧ Keeps s t [Reg.HK_STAT] := by
  intro x t
  have hx : Keeps s x [Reg.HK_STAT] := ((Keeps.refl s _).setBit (k := Reg.HK_STAT) 31 true (by decide)).trans (.of (fun _ _ _ => rfl) rfl rfl)
  have hk : Keeps s (x.takeSnap 97 x.thermBytes true false false) [Reg.HK_STAT] := hx.trans (.of (fun _ _ _ => rfl) rfl rfl)
  have hu : (x.takeSnap 97 x.thermBytes true false false).unit.thermLatch = true := rfl
  have hb : (x.takeSnap 97 x.thermBytes true false false).bit Reg.HK_STAT 31 = true := s.bit_setBit _ _ _ (by decide)
  have hc : ((x.takeSnap 97 x.thermBytes true false false).slotOf 97).count = min ((s.slotOf 97).count + 1) 0xFFFF := by
    rw [State.slotOf, State.takeSnap]
    rw [vget_vset_same _ _ _ _ (by decide)]
    split <;> rfl
  have ht : t = (x.takeSnap 97 x.thermBytes true false false).fault 22 0 (code 32 s.hkT) := rfl
  rw [ht]
  generalize x.takeSnap 97 x.thermBytes true false false = y at hk hu hb hc
  refine ⟨?_, ?_, State.fault_reported _ _ _ _ (.inr (by decide)), ?_, hk.fault _ _ _⟩
  · rw [State.bit, State.rd_fault _ _ _ _ _ (by decide) (by decide) (by decide)]
    exact hb
  · rw [State.fault_unit]
    exact hu
  · rw [State.slotOf, State.fault_sbg, ← State.slotOf]
    exact hc


theorem State.supply_shows (i : Fin 24) :
    let x := ((s.setBit Reg.HK_SUPSTAT i true).setBit Reg.HK_SUPSTKY i true).raise (E.SUPPLY_WARN i)
    let fatal := x.bit (Reg.HK_SUPCFG i) 0
    let t := x.sendFault (x.faultMsg 21 (if fatal then 2 else 0) (if fatal then 7 else 4) i (code 32 (x.hkVal i)))
    t.bit Reg.HK_SUPSTAT i = true ∧ t.bit Reg.HK_SUPSTKY i = true ∧ Raised s t (E.SUPPLY_WARN i) ∧
      (s.bit (Reg.HK_SUPCFG i) 0 = true ∨ s.flt.inq.length < 256 → Reported t 21 i (code 32 (s.hkVal i))) ∧
      Keeps s t [Reg.HK_SUPSTAT, Reg.HK_SUPSTKY] := by
  intro x fatal t
  have hi : i.val < 32 := by omega
  have hlo (j : Nat) : Reg.HK_SUPCFG i ≠ 0xA34 ∧ Reg.HK_SUPCFG i ≠ 0xA38 ∧ 0x1E008 ≤ Reg.HK_SUPCFG i := by
    simp only [Reg.HK_SUPCFG]
    omega
  have hx (a : Nat) (h : a ≠ 0x150) (h' : a < 0x340 ∨ 0x360 ≤ a) :
      x.rd a = ((s.setBit Reg.HK_SUPSTAT i true).setBit Reg.HK_SUPSTKY i true).rd a :=
    State.rd_raise _ 233 0 i a (by decide) h h'
  have hf : fatal = s.bit (Reg.HK_SUPCFG i) 0 := by
    obtain ⟨h1, h2, h3⟩ := hlo 0
    show bitOf (x.rd _) 0 = _
    rw [hx _ (by omega) (by omega), State.rd_setBit_ne _ _ _ _ _ h2.symm, State.rd_setBit_ne _ _ _ _ _ h1.symm]
    rfl
  have hval : x.hkVal i = s.hkVal i := by
    rw [State.hkVal, State.raise_hk]
    rfl
  have hxq : x.flt = s.flt := by
    rw [State.raise_flt]
    rfl
  have hr (a : Nat) (h : a ≠ 0x150) (h' : a < 0x340 ∨ 0x360 ≤ a) (hd : a ≠ 0x42C) : t.rd a = x.rd a := State.rd_sendFault _ _ _ h h' hd
  refine ⟨?_, ?_, Raised.mono (t := x) (.of (List.Subset.refl _) rfl) (State.Frame.ofSendFault (R := fun _ _ => False) (E := fun _ => False) x _).evq,
    fun h => ?_, ?_⟩
  · rw [State.bit, hr _ (by decide) (by decide) (by decide), hx _ (by decide) (by decide), State.rd_setBit_ne _ _ _ _ _ (by decide)]
    exact State.bit_setBit _ _ _ _ hi
  · rw [State.bit, hr _ (by decide) (by decide) (by decide), hx _ (by decide) (by decide)]
    exact State.bit_setBit _ _ _ _ hi
  · rw [← hval]
    refine State.sendFault_reported _ _ _ _ _ _ ?_
    rw [hxq]
    rcases h with h | h
    · rw [hf, if_pos h]
      exact .inr (by decide)
    · exact .inl h
  · exact ((((Keeps.refl s _).setBit _ _ (by simp)).setBit _ _ (by simp)).raise (by decide)).sendFault _


end

/-- Settles O40: a slot decision is followed part by part from the state that stores the value; each finding is one setting of its bit
with its report. -/
theorem housekeeping : Obligations.Housekeeping := by
  refine ⟨fun i v s hon => ?_, fun i long s hon =>
    ⟨fun h4 hn => ?_, fun h4 hn => ?_, fun h4 hb => ?_, fun h4 hb => ?_, fun h4 hb => ?_, fun h4 hb => ?_,
    fun h4 hb => ?_⟩⟩
  · have he := s.hkSlot_ends v i.isLt
    obtain ⟨h1, h2, h3, h4, h5, h6⟩ := he.shows s v i.isLt
    refine ⟨_, exec_hkSlotDecision s i v hon, h1, h2, h3.trans ?_, he.rounds, h4, h5, he.supply, h6⟩
    simp only [hkShown, tempCode, Bool.or_eq_true, decide_eq_true_eq, or_assoc]
  · exact ⟨_, exec_hkSensor hon h4 hn, s.sensor_shows⟩
  · refine ⟨_, exec_hkCheck hon i h4 hn, fun hq => State.fault_reported _ _ _ _ (.inl hq), ?_,
      Keeps.fault (.of (fun _ _ _ => rfl) rfl rfl) _ _ _⟩
    rw [State.fault_hk]
    exact vget_vset_same _ _ _ _ i.isLt
  · exact ⟨_, exec_thermWarn hon h4 hb, s.finding_shows (by decide) true (by decide)⟩
  · exact ⟨_, exec_thermWarnClear hon h4 hb, s.finding_shows (by decide) false (by decide)⟩
  · exact ⟨_, exec_thermShut hon h4 hb, s.shut_shows⟩
  · refine ⟨_, exec_thermRate hon long h4 hb, s.finding_shows ?_ true (by decide)⟩
    split <;> decide
  · exact ⟨_, exec_hkSupply hon i h4 hb, s.supply_shows i⟩

end Sys2Proof.Machine
end

section
/-!
PROOFS. Module inputs and shedding, and the recovery from hold-up (O32).
-/

namespace Sys2Proof.Machine

/-- A fold whose step keeps `P`, settles `D` for its own item and unsettles it for no other settles `D` for every item of its list. -/
theorem foldl_each {σ α : Type} (f : σ → α → σ) (P : σ → Prop) (D : σ → α → Prop) (l : List α)
    (hP : ∀ s, ∀ n ∈ l, P s → P (f s n)) (hD : ∀ s, ∀ n ∈ l, ∀ m ∈ l, P s → (D s m ∨ m = n) → D (f s n) m)
    (s : σ) (hs : P s) :
    P (l.foldl f s) ∧ ∀ m ∈ l, D (l.foldl f s) m := by
  have key : ∀ (r : List α) (s : σ), r ⊆ l → P s → P (r.foldl f s) ∧ ∀ m ∈ l, (D s m ∨ m ∈ r) → D (r.foldl f s) m := by
    intro r
    induction r with
    | nil => exact fun s _ hs => ⟨hs, fun m _ h => h.resolve_right List.not_mem_nil⟩
    | cons n r ih =>
      intro s hr hs
      have hn : n ∈ l := hr List.mem_cons_self
      obtain ⟨h1, h2⟩ := ih (f s n) (fun _ h => hr (List.mem_cons_of_mem _ h)) (hP s n hn hs)
      refine ⟨h1, fun m hm h => h2 m hm ?_⟩
      by_cases hmr : m ∈ r
      · exact .inr hmr
      · exact .inl (hD s n hn m hm hs (h.imp_right fun h => (List.mem_cons.mp h).resolve_right hmr))
  exact ⟨(key l s (List.Subset.refl l) hs).1, fun m hm => (key l s (List.Subset.refl l) hs).2 m hm (.inr hm)⟩

/-! ## Module inputs -/

section
variable {s : State} (hl : s.live = true)
include hl

theorem exec_moduleInputFailed (m : Fin 16) (hf : s.inFailed m = false) (hi : s.huInp ≤ vget s.shf.inBad m 0) :
    exec (.moduleInputFailed m) s =
      .next { s.setBit Reg.SH_INFAIL m true with shf := { (s.setBit Reg.SH_INFAIL m true).shf with redo := true } } := by
  refine if_pos ?_
  rw [hl, hf, decide_eq_true hi]
  rfl

theorem exec_moduleInputRestored (m : Fin 16) (hf : s.inFailed m = true) (hi : s.huInp ≤ vget s.shf.inGood m 0) :
    exec (.moduleInputRestored m) s =
      .next { s.setBit Reg.SH_INFAIL m false with shf := { (s.setBit Reg.SH_INFAIL m false).shf with redo := true } } := by
  refine if_pos ?_
  rw [hl, hf, decide_eq_true hi]
  rfl

theorem exec_busDroop (hb : s.bit Reg.HU_CFG 30 = true) (hi : s.huInp ≤ s.shf.droopN) :
    exec .busDroop s = .next { s with shf := { s.shf with droop := true } } := by
  refine if_pos ?_
  rw [hl, hb, decide_eq_true hi]
  rfl

theorem exec_moduleShed {x : Nat} (ho : s.shedOff = false) (hd : s.decision 0 = none) (hn : max 1 (s.fld Reg.SH_PAR 7 0) ≤ s.shf.shedN)
    (hx : s.shedTarget = some x) : exec .moduleShed s = .next ((s.shedModule x).hwTargets.shareTargets.relatch 0 15) := by
  have he : exec .moduleShed s = execModuleShed s := rfl
  rw [he, execModuleShed, if_pos, hx]
  rw [hl, ho, hd, decide_eq_true hn]
  rfl

theorem exec_holdupRecover (hu : s.bit Reg.HU_CFG 31 = true) (h1 : s.huState = 1) (ht : s.huTrigger = false)
    (hg : max 1 (1024 * s.fld Reg.HU_REC 15 0) ≤ s.shf.goodN) : exec .holdupRecover s = .next (
      let x := (s.put Reg.SHF_STAT 1 0 2).toCC [3, 4]
      let y : State := { x with shf := { x.shf with qcap := x.shf.qPrev } }
      (y.lnStrings (y.bankOut (y.fld Reg.HU_CFG 7 0))).relatch 16 23) := by
  refine if_pos ?_
  rw [hl, hu, h1, ht, decide_eq_true hg]
  rfl

theorem exec_holdupEnd (hu : s.bit Reg.HU_CFG 31 = true) (h2 : s.huState = 2) (hq : s.shf.qcap ≤ 0) : exec .holdupEnd s =
    .next (({ s.put Reg.SHF_STAT 1 0 0 with shf := { s.shf with normN := 0, qcap := 0 } } : State).raise (E.HOLDUP_END 0)) := by
  refine if_pos ?_
  rw [hl, hu, h2, decide_eq_true hq]
  rfl

theorem exec_chargeResume (hc : s.chargeOk = true) : exec .chargeResume s = .next (s.lnStrings 0) := by
  refine if_pos ?_
  rw [hl, hc]
  rfl

end

/-- What a module input that fails or is restored changes: its bit, and the sharing is redone. -/
theorem State.inputSet_shows (s : State) {m : Nat} (hm : m < 16) (b : Bool) :
    let t : State := { s.setBit Reg.SH_INFAIL m b with shf := { (s.setBit Reg.SH_INFAIL m b).shf with redo := true } }
    t.inFailed m = b ∧ t.shf.redo = true ∧ (∀ j, j ≠ m → j < 32 → t.inFailed j = s.inFailed j) ∧ Keeps s t [Reg.SH_INFAIL] :=
  ⟨State.bit_setBit _ _ _ _ (by omega), rfl, fun j hj h32 => State.bit_setBit_ne _ _ _ _ _ h32 hj.symm,
    ((Keeps.refl s _).setBit (k := Reg.SH_INFAIL) m b (by decide)).trans (.of (fun _ _ _ => rfl) rfl rfl)⟩

/-! ## The parts of the turnover that act on modules -/

/-- `t` is `s` but for its registers, strings, events, and the outputs and the demand of the shelf functions. -/
def State.Shelved (s t : State) : Prop :=
  t = { s with reg := t.reg, strs := t.strs, evq := t.evq, shf := { s.shf with out := t.shf.out, q := t.shf.q } }

namespace State.Shelved

variable {s t u : State}

theorem refl (s : State) : s.Shelved s := rfl

theorem trans (h : s.Shelved t) (g : t.Shelved u) : s.Shelved u := by
  unfold State.Shelved at h g ⊢
  rw [h] at g
  exact g

theorem ite {p : Prop} [Decidable p] (ht : s.Shelved t) (hu : s.Shelved u) : s.Shelved (if p then t else u) := by
  split
  · exact ht
  · exact hu

theorem foldl {α : Type} (f : State → α → State) (hf : ∀ (s : State) x, s.Shelved (f s x)) (l : List α) (s : State) :
    s.Shelved (l.foldl f s) := by
  induction l generalizing s with
  | nil => exact .refl s
  | cons a l ih => exact (hf s a).trans (ih _)

theorem raise (s : State) (e : Ev) : s.Shelved (s.raise e) := by
  have hp (s : State) (p : EvPulse) : s.Shelved (s.pulse p) := by
    unfold State.pulse
    split <;> rfl
  unfold State.raise State.raiseWith
  split
  · exact hp ..
  · exact (hp ..).trans (hp ..)

end State.Shelved

section
variable (s : State)

/-- Targets latched again leave everything but the latch. -/
theorem State.relatch_eq (lo hi : Nat) : s.relatch lo hi = { s with shf := { s.shf with lat := (s.relatch lo hi).shf.lat } } := by
  unfold State.relatch
  split <;> rfl

theorem State.issue_eq (op : Nat) (ks : List Nat) : s.issue op ks = { s with stg := (s.issue op ks).stg } := by
  unfold State.issue
  induction ks generalizing s with
  | nil => rfl
  | cons k ks ih =>
    rw [List.foldl_cons, ih]
    rfl

/-- Each stage of a list without repetitions gets the command once. -/
theorem State.issue_cmd (op : Nat) {ks : List Nat} (hn : ks.Nodup) (h32 : ∀ k ∈ ks, k < 32) (k : Nat) (hk : k < 32) :
    ((s.issue op ks).sg k).cmd = if k ∈ ks then (s.sg k).cmd ++ [op] else (s.sg k).cmd := by
  unfold State.issue
  induction ks generalizing s with
  | nil => rfl
  | cons j ks ih =>
    obtain ⟨hj, hn⟩ := List.nodup_cons.mp hn
    rw [List.foldl_cons, ih _ hn (fun k hk => h32 k (List.mem_cons_of_mem _ hk))]
    by_cases hjk : k = j
    · subst hjk
      rw [if_neg hj, if_pos List.mem_cons_self, State.onSg_sg_same _ _ hk]
    · rw [State.onSg_sg_ne _ _ (Ne.symm hjk)]
      simp only [List.mem_cons, hjk, false_or]

/-- The target of one module (R233, R254, R256). -/
def State.shareOf (s : State) (m : Nat) : Int :=
  match s.decision 0 with
  | some d => if s.huState == 1 && s.inFailed m then 0 else signed 16 (fieldOf (decWord d m) 15 0)
  | none => vget s.shf.hw m 0

theorem State.shareOf_none (m : Nat) (hd : s.decision 0 = none) : s.shareOf m = vget s.shf.hw m 0 := by
  unfold State.shareOf
  rw [hd]

theorem State.shareTargets_eq : s.shareTargets = (List.range 16).foldl (fun s m => s.setOut m (s.shareOf m)) s := rfl

/-- The targets in effect are outputs alone. -/
theorem State.shareTargets_outs : s.shareTargets = { s with shf := { s.shf with out := s.shareTargets.shf.out } } := by
  rw [s.shareTargets_eq]
  generalize List.range 16 = l
  induction l generalizing s with
  | nil => rfl
  | cons m l ih =>
    rw [List.foldl_cons, ih]
    rfl

/-- The state that shares the targets of a hardware result. -/
def State.Sharing (s t : State) : Prop := t.shf.hw = s.shf.hw ∧ t.mb = s.mb

theorem State.Sharing.setOut {t : State} (h : s.Sharing t) (n : Nat) (v : Int) : s.Sharing (t.setOut n v) := h

theorem State.shOut_setOut (n m : Nat) (v : Int) (hn : n < 28) : (s.setOut n v).shOut m = if n = m then v else s.shOut m := by
  split
  · next h =>
    subst h
    exact vget_vset_same _ _ _ _ hn
  · next h => exact vget_vset_ne _ _ _ _ _ h

theorem State.Sharing.shareOf {t : State} (h : s.Sharing t) (hd : s.decision 0 = none) (m : Nat) : t.shareOf m = vget s.shf.hw m 0 := by
  obtain ⟨hw, hmb⟩ := h
  rw [t.shareOf_none _ (by rw [State.decision, State.mbx, hmb]; exact hd), hw]

/-- The targets in effect without a decision are the hardware's. -/
theorem State.shareTargets_hw (hd : s.decision 0 = none) (m : Nat) (hm : m < 16) : s.shareTargets.shOut m = vget s.shf.hw m 0 := by
  rw [s.shareTargets_eq]
  have hs : s.Sharing s := ⟨rfl, rfl⟩
  have key := foldl_each (fun (s : State) (m : Nat) => s.setOut m (s.shareOf m)) s.Sharing (fun t m => t.shOut m = vget s.shf.hw m 0) (List.range 16)
    ?_ ?_ s hs
  · exact key.2 m (List.mem_range.mpr hm)
  · exact fun t n _ h => h.setOut s _ _
  · intro t n hn m _ h hmn
    have := List.mem_range.mp hn
    rw [t.shOut_setOut _ _ _ (by omega), h.shareOf s hd]
    split
    · next h => rw [h]
    · next h => exact hmn.resolve_right (Ne.symm h)

/-- A module that is shed has no share. -/
theorem State.hwTargets_shed {x : Nat} (hx : x < 16) (h : s.modShed x = true) : vget s.hwTargets.shf.hw x 0 = 0 := by
  have hw : s.modWeight x = 0 := by
    unfold State.modWeight
    rw [if_pos]
    rw [h, Bool.or_true, Bool.true_or]
  unfold State.hwTargets
  extract_lets ws w i
  have hg : ws.getD x 0 = 0 := by
    rw [List.getD_eq_getElem?_getD, List.getElem?_map, List.getElem?_range hx]
    exact hw
  simp only [vget, Vector.getElem?_ofFn, hx, dif_pos, Option.getD_some, hg, Int.mul_zero]
  split
  · next h =>
    have : cdiv 0 w = 0 := by
      unfold cdiv
      simp [Int.ne_of_gt h, Int.not_lt.mpr (Int.le_of_lt h)]
    rw [this]
    decide
  · rfl

theorem State.modStages_nodup (x : Nat) : (s.modStages x).Nodup := List.nodup_range.filter _

/-- What shedding a module leaves before the targets are computed anew. -/
theorem State.shedModule_shows {x : Nat} (hx : x < 16) :
    let t := s.shedModule x
    t.modShed x = true ∧ (∀ k ∈ s.modStages x, (t.sg k).cmd = (s.sg k).cmd ++ [2]) ∧ t.shf.shedN = 0 ∧ t.mb = s.mb ∧
      Raised s t (E.MODULE_SHED x) ∧ Keeps s t [Reg.SH_ONLINE] := by
  intro t
  have hi := State.issue_eq (s.setBit Reg.SH_ONLINE (16 + x) true) 2 (s.modStages x)
  have hc := State.issue_cmd (s.setBit Reg.SH_ONLINE (16 + x) true) 2 (s.modStages_nodup x)
    (fun k hk => List.mem_range.mp (List.mem_filter.mp hk).1)
  set y := (s.setBit Reg.SH_ONLINE (16 + x) true).issue 2 (s.modStages x) with hy
  have ht : t = { y.raise (E.MODULE_SHED x) with shf := { y.shf with redo := true, shedN := 0 } } := rfl
  have hrd (a : Nat) : y.rd a = (s.setBit Reg.SH_ONLINE (16 + x) true).rd a := by rw [hi]; rfl
  have hevq : y.evq = s.evq := by rw [hi]; rfl
  have hk : Keeps s y [Reg.SH_ONLINE] := ((Keeps.refl s _).setBit (k := Reg.SH_ONLINE) (16 + x) true (by decide)).trans
    (.of (fun a _ _ => hrd a) (by rw [hi]) (by rw [hi]))
  refine ⟨?_, fun k hk => ?_, by rw [ht], ?_, ?_, ?_⟩
  · have h1 : (y.raise (E.MODULE_SHED x)).rd Reg.SH_ONLINE = y.rd Reg.SH_ONLINE := State.rd_raise _ _ _ _ _ (by decide) (by decide) (by decide)
    rw [ht]
    refine (congrArg (fun w => bitOf w (16 + x)) (h1.trans (hrd _))).trans ?_
    exact State.bit_setBit _ _ _ _ (by omega)
  · have h32 := List.mem_range.mp (List.mem_filter.mp hk).1
    have := hc k h32
    rw [if_pos hk] at this
    rw [ht]
    refine Eq.trans ?_ this
    show ((y.raise (E.MODULE_SHED x)).sg k).cmd = _
    rw [State.sg, State.raise_stg, ← State.sg]
  · rw [ht]
    show (y.raise (E.MODULE_SHED x)).mb = _
    rw [State.raise_mb, hi]
    rfl
  · rw [ht]
    exact .of (List.Subset.refl _) hevq
  · rw [ht]
    exact (hk.raise (by decide)).trans (.of (fun _ _ _ => rfl) rfl rfl)

/-- What MODULE_SHED leaves. -/
theorem State.shed_shows {x : Nat} (hx : x < 16) (hd : s.decision 0 = none) :
    let t := (s.shedModule x).hwTargets.shareTargets.relatch 0 15
    t.modShed x = true ∧ (∀ k ∈ s.modStages x, (t.sg k).cmd = (s.sg k).cmd ++ [2]) ∧ t.shf.shedN = 0 ∧ t.shf.redo = false ∧
      (∀ m < 16, t.shOut m = vget t.shf.hw m 0) ∧ t.shOut x = 0 ∧ Raised s t (E.MODULE_SHED x) ∧ Keeps s t [Reg.SH_ONLINE] := by
  obtain ⟨h1, h2, h3, h4, h5, h6⟩ := s.shedModule_shows hx
  generalize s.shedModule x = y at h1 h2 h3 h4 h5 h6
  have hd' : y.hwTargets.decision 0 = none := by
    rw [State.decision, State.mbx, show y.hwTargets.mb = y.mb from rfl, h4]
    exact hd
  have ho := State.shareTargets_outs y.hwTargets
  have hs := State.shareTargets_hw y.hwTargets hd'
  have hr := State.relatch_eq y.hwTargets.shareTargets 0 15
  have hz := y.hwTargets_shed hx h1
  have hw : y.hwTargets = { y with shf := { y.shf with hw := y.hwTargets.shf.hw, redo := false } } := rfl
  intro t
  change t = _ at hr
  generalize y.hwTargets.shareTargets = z at ho hs hr
  generalize y.hwTargets = w at ho hs hz hw
  have hout (m : Nat) (hm : m < 16) : t.shOut m = vget t.shf.hw m 0 := by
    have h1 : t.shOut m = z.shOut m := by rw [hr]; rfl
    have h2 : t.shf.hw = w.shf.hw := by rw [hr, ho]
    rw [h1, h2]
    exact hs m hm
  refine ⟨?_, fun k hk => ?_, ?_, ?_, hout, ?_, ?_, ?_⟩
  · rw [hr, ho, hw]
    exact h1
  · rw [hr, ho, hw]
    exact h2 k hk
  · rw [hr, ho, hw]
    exact h3
  · rw [hr, ho, hw]
  · rw [hout x hx, show t.shf.hw = w.shf.hw by rw [hr, ho]]
    exact hz
  · rw [hr, ho, hw]
    exact h5
  · rw [hr, ho, hw]
    exact h6.trans (.of (fun _ _ _ => rfl) rfl rfl)

end

/-! ## The string targets -/

/-- String `b` in the turnover that shares the demand `q` (R241 to R243). -/
def State.strShare (s : State) (sh : List (Nat × Int)) (q : Int) (b : Nat) : State :=
  let x := ((sh.find? (fun y => y.1 == b)).map (·.2)).getD 0
  let eod := decide (0 < x) && decide (0 < q) && decide (s.strV b ≤ (s.fld Reg.BT_LIM 31 16 : Int))
  let s := if eod then (s.setStrMode b 5).onStr b (fun t => { t with eodAt := some 0 }) else s
  let tgt := if eod || !s.strEn b then 0 else if 0 < q then -x else s.chargeI b
  (s.setOut (16 + b) tgt).put (Reg.BS_STAT b) 31 16 (code 16 tgt)

/-- The demand of a turnover (R241). -/
def State.demand (s : State) (h : Int) : Int :=
  let q := max h (if s.shaving then s.bankOut (s.fld Reg.HU_CFG 15 8) else 0)
  if s.huState = 2 then min q s.shf.qcap else q

/-- The strings of a turnover share its demand. -/
def State.strShares (s : State) (h : Int) : State :=
  let q := s.demand h
  let x : State := { s with shf := { s.shf with q := q } }
  let sh := x.shares q
  (List.range 8).foldl (fun s b => s.strShare sh.1 q b) (x.clamped 1 (sh.2 && decide (0 < q)))

theorem State.lnStrings_eq (s : State) (h : Int) : ∃ g1 g2 g3, s.lnStrings h =
    if (s.strShares h).huState == 1 && g1 && g2 && g3 then (s.strShares h).raise (E.BATT_EXHAUSTED 0) else s.strShares h :=
  ⟨_, _, _, rfl⟩

/-- The registers of the strings and of the decision that they follow. -/
def stringReg (a : Nat) : Prop := a = Reg.MB_DSTAT 1 ∨ ∃ b < 8, a = Reg.BS_STAT b

theorem stringReg_keeps {a : Nat} (h : stringReg a) : a ∈ Reg.MB_DSTAT 1 :: (List.range 8).map Reg.BS_STAT := by
  rcases h with h | ⟨b, hb, h⟩
  · rw [h]
    exact List.mem_cons_self
  · rw [h]
    exact List.mem_cons_of_mem _ (List.mem_map_of_mem (List.mem_range.mpr hb))

section
variable {E : Nat → Prop} (s : State)

theorem State.shelved_strShare (sh : List (Nat × Int)) (q : Int) (b : Nat) : s.Shelved (s.strShare sh q b) := by
  unfold State.strShare
  extract_lets x eod s1 tgt
  have h1 : s.Shelved s1 := .ite rfl (.refl s)
  exact h1.trans rfl

theorem State.frame_strShare (sh : List (Nat × Int)) (q : Int) {b : Nat} (hb : b < 8) :
    State.Frame (fun a _ => stringReg a) E s (s.strShare sh q b) := by
  unfold State.strShare
  extract_lets x eod s1 tgt
  have hr : stringReg (Reg.BS_STAT b) := .inr ⟨b, hb, rfl⟩
  have h1 : State.Frame (fun a _ => stringReg a) E s s1 := .ite (.onStr (.put (.refl s) _ _ _ _ (fun _ _ _ _ => hr)) _ _) (.refl s)
  exact (h1.trans (t := s1) (.trans (t := s1.setOut (16 + b) tgt) (.of rfl) (.put (.refl _) _ _ _ _ (fun _ _ _ _ => hr))))

theorem State.shelved_strShares (h : Int) : s.Shelved (s.strShares h) ∧ State.Frame (fun a _ => stringReg a) E s (s.strShares h) := by
  unfold State.strShares
  extract_lets q shf x sh
  have hx : s.Shelved x := rfl
  have hxf : State.Frame (fun a _ => stringReg a) E s x := .of rfl
  have hc : x.Shelved (x.clamped 1 (sh.2 && decide (0 < q))) := .ite rfl (.refl x)
  have hcf : State.Frame (fun a _ => stringReg a) E x (x.clamped 1 (sh.2 && decide (0 < q))) :=
    .ite (.setBit (.refl x) _ _ _ (.inl rfl)) (.refl x)
  exact ⟨(hx.trans hc).trans (.foldl (fun (s : State) (b : Nat) => s.strShare sh.1 q b) (fun s b => s.shelved_strShare ..) _ _),
    (hxf.trans hcf).trans (.foldl (fun (s : State) (b : Nat) => s.strShare sh.1 q b) _
      (fun s b hb => s.frame_strShare _ _ (List.mem_range.mp hb)) _)⟩

theorem State.shelved_lnStrings (h : Int) : s.Shelved (s.lnStrings h) ∧ State.Frame (fun a _ => stringReg a) (· = 194) s (s.lnStrings h) := by
  obtain ⟨g1, g2, g3, he⟩ := s.lnStrings_eq h
  obtain ⟨h1, h2⟩ := s.shelved_strShares (E := (· = 194)) h
  rw [he]
  exact ⟨.ite (h1.trans (.raise ..)) h1, .ite (h2.raise _ (by decide) (.inl rfl)) h2⟩

theorem stringStat_ne {b c : Nat} (h : b ≠ c) : Reg.BS_STAT b ≠ Reg.BS_STAT c := by
  simp only [Reg.BS_STAT]
  omega

theorem State.strMode_setStrMode (b c m : Nat) (hm : m < 8) : (s.setStrMode b m).strMode c = if b = c then m else s.strMode c := by
  split
  · next h =>
    subst h
    exact (State.fld_put _ _ _ _ _ (by decide)).trans (Nat.mod_eq_of_lt hm)
  · next h => exact congrArg (fun w => fieldOf w 2 0) (State.rd_put_ne _ _ _ _ _ _ (stringStat_ne h))

/-- What showing a target leaves of the modes. -/
theorem State.strMode_put (b c : Nat) (v : Nat) : (s.put (Reg.BS_STAT b) 31 16 v).strMode c = s.strMode c := by
  by_cases h : b = c
  · subst h
    exact State.fld_put_disj _ _ _ _ _ _ _ (by decide) (.inl (by decide))
  · exact congrArg (fun w => fieldOf w 2 0) (State.rd_put_ne _ _ _ _ _ _ (stringStat_ne h))

theorem State.strShare_mode (sh : List (Nat × Int)) (q : Int) (b c : Nat) :
    (s.strShare sh q b).strMode c = 5 ∨ (s.strShare sh q b).strMode c = s.strMode c := by
  unfold State.strShare
  extract_lets x eod s1 tgt
  have h1 : s1.strMode c = 5 ∨ s1.strMode c = s.strMode c := by
    unfold s1
    split
    · have := s.strMode_setStrMode b c 5 (by decide)
      split at this
      · exact .inl this
      · exact .inr this
    · exact .inr rfl
  rw [State.strMode_put]
  exact h1

/-- A string that shares a demand stays in its mode or reaches EOD. -/
theorem State.lnStrings_mode (h : Int) {c : Nat} (hc : c < 8) : (s.lnStrings h).strMode c = 5 ∨ (s.lnStrings h).strMode c = s.strMode c := by
  have hs : (s.strShares h).strMode c = 5 ∨ (s.strShares h).strMode c = s.strMode c := by
    unfold State.strShares
    extract_lets q shf x sh
    have hx : (x.clamped 1 (sh.2 && decide (0 < q))).strMode c = s.strMode c := by
      unfold State.clamped
      split
      · exact congrArg (fun w => fieldOf w 2 0) (State.rd_setBit_ne _ _ _ _ _ (by simp only [Reg.BS_STAT, Reg.MB_DSTAT]; omega))
      · rfl
    generalize x.clamped 1 (sh.2 && decide (0 < q)) = y at hx
    rw [← hx]
    generalize List.range 8 = l
    clear hx
    induction l generalizing y with
    | nil => exact .inr rfl
    | cons b l ih =>
      rcases ih (y.strShare sh.1 q b) with h | h
      · exact .inl h
      · rw [List.foldl_cons, h]
        exact y.strShare_mode ..
  obtain ⟨g1, g2, g3, he⟩ := s.lnStrings_eq h
  rw [he]
  split
  · have : ((s.strShares h).raise (E.BATT_EXHAUSTED 0)).strMode c = (s.strShares h).strMode c :=
      congrArg (fun w => fieldOf w 2 0) (State.rd_raise _ _ _ _ _ (by decide) (by simp only [Reg.BS_STAT]; omega) (by simp only [Reg.BS_STAT]; omega))
    rw [this]
    exact hs
  · exact hs

/-- The mode of a string that charges again after a discharge or in FLOAT. -/
def ccMode (m : Nat) : Nat := if m = 3 ∨ m = 4 then 1 else m

theorem State.frame_toCC (l : List Nat) : State.Frame (fun a _ => stringReg a) E s (s.toCC l) :=
  .foldl (fun (s : State) b => if l.contains (s.strMode b) then s.setStrMode b 1 else s) _ (fun s b hb => .ite
    (.put (.refl s) _ _ _ _ (fun _ _ _ _ => .inr ⟨b, List.mem_range.mp hb, rfl⟩)) (.refl s)) s

theorem State.toCC_eq (l : List Nat) : s.toCC l = { s with reg := (s.toCC l).reg } := by
  unfold State.toCC
  generalize List.range 8 = r
  induction r generalizing s with
  | nil => rfl
  | cons b r ih =>
    rw [List.foldl_cons, ih]
    split <;> rfl

theorem ccMode_ccMode (m : Nat) : ccMode (ccMode m) = ccMode m := by
  unfold ccMode
  split
  · rfl
  · rfl

theorem State.toCC_step (b c : Nat) :
    (if [3, 4].contains (s.strMode b) then s.setStrMode b 1 else s).strMode c = if b = c then ccMode (s.strMode c) else s.strMode c := by
  have hcc : [3, 4].contains (s.strMode b) = true ↔ s.strMode b = 3 ∨ s.strMode b = 4 := by simp
  split
  · next h =>
    rw [s.strMode_setStrMode _ _ _ (by decide)]
    split
    · next hbc =>
      subst hbc
      rw [ccMode, if_pos (hcc.mp h)]
    · rfl
  · next h =>
    split
    · next hbc =>
      subst hbc
      rw [ccMode, if_neg (mt hcc.mpr h)]
    · rfl

theorem State.toCC_mode {c : Nat} (hc : c < 8) : (s.toCC [3, 4]).strMode c = ccMode (s.strMode c) := by
  have key := foldl_each (fun (s : State) (b : Nat) => if [3, 4].contains (s.strMode b) then s.setStrMode b 1 else s)
    (fun t => ∀ c, t.strMode c = s.strMode c ∨ t.strMode c = ccMode (s.strMode c)) (fun t c => t.strMode c = ccMode (s.strMode c)) (List.range 8)
    ?_ ?_ s (fun c => .inl rfl)
  · exact key.2 c (List.mem_range.mpr hc)
  · intro t b _ ht c
    rw [t.toCC_step]
    split
    · right
      rcases ht c with h | h
      · rw [h]
      · rw [h, ccMode_ccMode]
    · exact ht c
  · intro t b _ c _ ht hd
    rw [t.toCC_step]
    split
    · rcases ht c with h | h
      · rw [h]
      · rw [h, ccMode_ccMode]
    · next h => exact hd.resolve_right (Ne.symm h)

/-- The state in RECOVER, its strings charging and its demand capped. -/
def State.recovering (s : State) : State :=
  let x := (s.put Reg.SHF_STAT 1 0 2).toCC [3, 4]
  { x with shf := { x.shf with qcap := x.shf.qPrev } }

theorem not_stringReg_shfStat : ¬ stringReg Reg.SHF_STAT := by
  rintro (h | ⟨b, hb, h⟩)
  · revert h
    decide
  · simp only [Reg.SHF_STAT, Reg.BS_STAT] at h
    omega

theorem State.recovering_shows : State.Frame (fun a _ => stringReg a) (· = 194) (s.put Reg.SHF_STAT 1 0 2) s.recovering ∧
    s.recovering.shf.qcap = s.shf.qPrev ∧ ∀ b < 8, s.recovering.strMode b = ccMode (s.strMode b) := by
  have hx := (s.put Reg.SHF_STAT 1 0 2).toCC_eq [3, 4]
  have hf := (s.put Reg.SHF_STAT 1 0 2).frame_toCC (E := (· = 194)) [3, 4]
  have hm (c : Nat) (hc : c < 8) := (s.put Reg.SHF_STAT 1 0 2).toCC_mode hc
  unfold State.recovering
  generalize (s.put Reg.SHF_STAT 1 0 2).toCC [3, 4] = x at hx hf hm
  refine ⟨hf.trans (.of rfl), ?_, fun b hb => (hm b hb).trans (congrArg ccMode ?_)⟩
  · show x.shf.qPrev = _
    rw [hx]
    rfl
  · exact congrArg (fun w => fieldOf w 2 0) (State.rd_put_ne _ _ _ _ _ _ (by simp only [Reg.SHF_STAT, Reg.BS_STAT]; omega))

/-- What HOLDUP_RECOVER leaves. -/
theorem State.recover_shows (h : Int) {t : State} (ht : (s.recovering.lnStrings h).relatch 16 23 = t) :
    t.huState = 2 ∧ t.shf.qcap = s.shf.qPrev ∧ (∀ b < 8, t.strMode b = 5 ∨ t.strMode b = ccMode (s.strMode b)) ∧
      Keeps s t (Reg.SHF_STAT :: Reg.MB_DSTAT 1 :: (List.range 8).map Reg.BS_STAT) := by
  obtain ⟨hy1, hy2, hy3⟩ := s.recovering_shows
  obtain ⟨hz1, hz2⟩ := s.recovering.shelved_lnStrings h
  have hzm (c : Nat) (hc : c < 8) := s.recovering.lnStrings_mode h hc
  have hr := State.relatch_eq (s.recovering.lnStrings h) 16 23
  rw [ht] at hr
  generalize s.recovering.lnStrings h = z at hz1 hz2 hzm hr
  generalize s.recovering = y at hy1 hy2 hy3 hz1 hz2 hzm
  have hxz := hy1.trans hz2
  have htr : t.reg = z.reg := by rw [hr]
  have hrd (a : Nat) : t.rd a = z.rd a := by rw [State.rd, htr, ← State.rd]
  refine ⟨?_, ?_, fun b hb => ?_, ?_⟩
  · rw [State.huState, State.fld, hrd, hxz.rd (fun _ _ => not_stringReg_shfStat) (by decide), ← State.fld, State.fld_put _ _ _ _ _ (by decide)]
    rfl
  · have h1 : t.shf.qcap = z.shf.qcap := by rw [hr]
    have h2 : z.shf.qcap = y.shf.qcap := by rw [hz1]
    rw [h1, h2, hy2]
  · have h1 : t.strMode b = z.strMode b := by
      rw [State.strMode, State.fld, hrd]
      rfl
    rw [h1, ← hy3 b hb]
    exact hzm b hb
  · refine ((Keeps.refl s _).put (k := Reg.SHF_STAT) 1 0 2 List.mem_cons_self).trans ?_
    refine (hxz.keeps fun a _ ha => List.mem_cons_of_mem _ (stringReg_keeps ha)).trans ?_
    rw [hr]
    exact .of (fun _ _ _ => rfl) rfl rfl

/-! ## Charging -/

/-- The target of a string that no demand is shared to (R242). -/
def State.chargeOf (b : Nat) : Int := if s.strEn b then s.chargeI b else 0

/-- One string of a turnover without a demand. -/
def State.chargeStep (b : Nat) : State := (s.setOut (16 + b) (s.chargeOf b)).put (Reg.BS_STAT b) 31 16 (code 16 (s.chargeOf b))

theorem State.strShare_zero (sh : List (Nat × Int)) (b : Nat) : s.strShare sh 0 b = s.chargeStep b := by
  unfold State.strShare State.chargeStep State.chargeOf
  simp only [Int.lt_irrefl, decide_false, Bool.and_false, Bool.false_and, Bool.false_or, Bool.false_eq_true, if_false]
  cases s.strEn b <;> rfl

/-- `t` is `s` with some strings charged. -/
structure State.Charging (s t : State) : Prop where
  shelved : s.Shelved t
  frame : State.Frame (fun a _ => ∃ b < 8, a = Reg.BS_STAT b) (fun _ => False) s t
  mode : ∀ c, t.strMode c = s.strMode c
  power : t.shOut 24 = s.shOut 24

/-- The window of a channel at the gait-frame starts `gs`. -/
def gaitWindow (h : List Sample) (gs : List Nat) (e m now : Nat) : WinVal :=
  if 32 ≤ e && e < 64 then ⟨0, true⟩
  else match gs.find? (fun a => closedAt h a now) with
    | some a => winValue (h.filter (fun x => x.at_ ≤ a)) (min m 5)
    | none => ⟨0, true⟩

theorem State.winM_eq (e m : Nat) : s.winM e m = gaitWindow (s.chan e) (s.time.gaits.filter (· ≤ s.now)) e m s.now := rfl

theorem State.winS_congr {t : State} (hc : t.chans = s.chans) (ht : t.time = s.time) (hf : t.frameNo = s.frameNo)
    (hr : t.rd Reg.SHF_CFG = s.rd Reg.SHF_CFG) (e : Nat) : t.winS e = s.winS e := by
  rw [State.winS, State.winS, State.winM_eq, State.winM_eq, State.chan, State.now, State.fld, hc, ht, hf, hr]
  rfl

variable {s} in
theorem State.Charging.chargeOf {t : State} (h : s.Charging t) {b : Nat} (hb : b < 8) : t.chargeOf b = s.chargeOf b := by
  have hrd (a : Nat) (ha : (0x3000 ≤ a ∧ a < 0x3180) ∨ a = Reg.BS_CH b) : t.rd a = s.rd a := by
    simp only [Reg.BS_CH] at ha
    refine h.frame.rd (fun _ _ => ?_) (sideReg_eq_false.mpr ?_)
    · rintro ⟨c, hc, h⟩
      simp only [Reg.BS_STAT] at h
      omega
    · simp only [Reg.HST_RSVWR, Reg.CW_STAT]
      omega
  have hn : t.shf.normN = s.shf.normN := by rw [h.shelved]
  have hw (e : Nat) : t.winS e = s.winS e := State.winS_congr s (by rw [h.shelved]) h.frame.time (by rw [h.shelved]) (hrd _ (.inl (by decide))) e
  have hp : t.pIn = s.pIn := h.power
  have hch : t.rd (Reg.BS_CH b) = s.rd (Reg.BS_CH b) := hrd _ (.inr rfl)
  have hv : t.strV b = s.strV b := by simp only [State.strV, State.fld, hch, hw]
  have hT (v : Int) : t.tempV b v = s.tempV b v := by
    simp only [State.tempV, State.strT, State.sfld, State.fld, hch, hw, hrd Reg.BT_CV0 (.inl (by decide)), hrd Reg.BT_CV1 (.inl (by decide))]
  have hok : t.chargeOk = s.chargeOk := by
    unfold State.chargeOk State.huState State.fld State.bit
    rw [hn, hp, hrd Reg.SHF_STAT (.inl (by decide)), hrd Reg.HU_REC (.inl (by decide)), hrd Reg.SHF_CFG (.inl (by decide)),
      hrd Reg.PS_CAP (.inl (by decide))]
  unfold State.chargeOf State.strEn State.chargeI State.bit State.fld
  rw [hch, hok, hv, h.mode, hrd Reg.BT_CC (.inl (by decide)), hrd Reg.BT_CV1 (.inl (by decide)), hrd Reg.BT_CV0 (.inl (by decide)),
    hrd Reg.BT_FLT (.inl (by decide)), hT, hT]

theorem State.Charging.step {t : State} (h : s.Charging t) {b : Nat} (hb : b < 8) : s.Charging (t.chargeStep b) := by
  have hr : ∃ c < 8, Reg.BS_STAT b = Reg.BS_STAT c := ⟨b, hb, rfl⟩
  refine ⟨h.shelved.trans rfl, ?_, fun c => (State.strMode_put _ b c _).trans (h.mode c), ?_⟩
  · exact h.frame.trans (.trans (t := t.setOut (16 + b) (t.chargeOf b)) (.of rfl) (.put (.refl _) _ _ _ _ (fun _ _ _ _ => hr)))
  · refine Eq.trans ?_ h.power
    exact (t.shOut_setOut (16 + b) 24 _ (by omega)).trans (if_neg (by omega))

/-- What a string that has been charged shows. -/
def State.Charged (s t : State) (b : Nat) : Prop :=
  t.shOut (16 + b) = s.chargeOf b ∧ t.fld (Reg.BS_STAT b) 31 16 = code 16 (s.chargeOf b)

theorem State.Charging.charged {t : State} (h : s.Charging t) {b c : Nat} (hb : b < 8) (hd : s.Charged t c ∨ c = b) :
    s.Charged (t.chargeStep b) c := by
  have hcode (v : Int) : code 16 v % 2 ^ (31 + 1 - 16) = code 16 v := by
    unfold code
    omega
  have ho : (t.chargeStep b).shOut (16 + c) = if b = c then s.chargeOf b else t.shOut (16 + c) := by
    refine (t.shOut_setOut (16 + b) (16 + c) _ (by omega)).trans ?_
    rw [h.chargeOf hb]
    by_cases hbc : b = c
    · rw [if_pos hbc, if_pos (by omega)]
    · rw [if_neg hbc, if_neg (by omega)]
  unfold State.Charged
  rw [ho]
  by_cases hbc : b = c
  · subst hbc
    rw [if_pos rfl]
    refine ⟨rfl, (State.fld_put _ _ _ _ _ (by decide)).trans ?_⟩
    rw [hcode, h.chargeOf hb]
  · rw [if_neg hbc]
    obtain ⟨h1, h2⟩ := hd.resolve_right (Ne.symm hbc)
    exact ⟨h1, (congrArg (fun w => fieldOf w 31 16) (State.rd_put_ne _ _ _ _ _ _ (stringStat_ne hbc))).trans h2⟩

/-- Without a demand every string takes its charge current. -/
theorem State.lnStrings_charge (hc : s.chargeOk = true) (hs : s.shaving = false) :
    (∀ b < 8, (s.lnStrings 0).shOut (16 + b) = s.chargeOf b ∧ (s.lnStrings 0).fld (Reg.BS_STAT b) 31 16 = code 16 (s.chargeOf b) ∧
      (s.lnStrings 0).strMode b = s.strMode b) ∧ Keeps s (s.lnStrings 0) ((List.range 8).map Reg.BS_STAT) := by
  have hh : s.huState = 0 := by
    simp only [State.chargeOk, Bool.and_eq_true, beq_iff_eq] at hc
    exact hc.1.1
  have hd : s.demand 0 = 0 := by
    unfold State.demand
    rw [hs, if_neg (by omega)]
    rfl
  have hz : s.strShares 0 = (List.range 8).foldl State.chargeStep { s with shf := { s.shf with q := 0 } } := by
    unfold State.strShares
    rw [hd]
    simp only [State.strShare_zero, State.clamped, Int.lt_irrefl, decide_false, Bool.and_false, Bool.false_eq_true, if_false]
  have h0 : s.Charging { s with shf := { s.shf with q := 0 } } := ⟨rfl, .of rfl, fun _ => rfl, rfl⟩
  have key := foldl_each State.chargeStep s.Charging s.Charged (List.range 8) (fun t b hb h => h.step s (List.mem_range.mp hb))
    (fun t b hb c _ h hd => h.charged s (List.mem_range.mp hb) hd) { s with shf := { s.shf with q := 0 } } h0
  rw [← hz] at key
  obtain ⟨hp, hD⟩ := key
  have hl : s.lnStrings 0 = s.strShares 0 := by
    obtain ⟨g1, g2, g3, he⟩ := s.lnStrings_eq 0
    have : (s.strShares 0).huState = 0 := by
      rw [State.huState, State.fld, hp.frame.rd (fun _ _ h => not_stringReg_shfStat (.inr h)) (by decide)]
      exact hh
    rw [he, this]
    rfl
  rw [hl]
  refine ⟨fun b hb => ?_, hp.frame.keeps fun a _ h => ?_⟩
  · obtain ⟨h1, h2⟩ := hD b (List.mem_range.mpr hb)
    exact ⟨h1, h2, hp.mode b⟩
  · obtain ⟨b, hb, rfl⟩ := h
    exact List.mem_map_of_mem (List.mem_range.mpr hb)

end

theorem State.holdupEnd_shows (s : State) :
    let t := ({ s.put Reg.SHF_STAT 1 0 0 with shf := { s.shf with normN := 0, qcap := 0 } } : State).raise (E.HOLDUP_END 0)
    t.huState = 0 ∧ t.shf.normN = 0 ∧ t.shf.qcap = 0 ∧ Raised s t (E.HOLDUP_END 0) ∧ Keeps s t [Reg.SHF_STAT] := by
  refine ⟨?_, by rw [State.raise_shf], by rw [State.raise_shf], .of (List.Subset.refl _) rfl, ?_⟩
  · rw [State.huState, State.fld, State.rd_raise _ _ _ _ _ (by decide) (by decide) (by decide)]
    exact State.fld_put _ _ _ _ _ (by decide)
  · exact (((Keeps.refl s _).put (k := Reg.SHF_STAT) 1 0 0 (by decide)).trans
      (.of (t := { s.put Reg.SHF_STAT 1 0 0 with shf := { s.shf with normN := 0, qcap := 0 } }) (fun _ _ _ => rfl) rfl rfl)).raise (by decide)

/-- Settles O32: the targets are recomputed by a fold that writes one output at a time, and no step of it looks at another's. -/
theorem modulesAndHoldup : Obligations.ModulesAndHoldup := by
  refine ⟨fun m s hl => ⟨fun hf hi => ?_, fun hf hi => ?_, fun hb hi => ?_, fun x ho hd hn hx => ?_⟩,
    fun s hl => ⟨fun hu h1 ht hg => ?_, fun hu h2 hq => ?_, fun hc hs => ?_⟩⟩
  · exact ⟨_, exec_moduleInputFailed hl m hf hi, s.inputSet_shows m.isLt true⟩
  · exact ⟨_, exec_moduleInputRestored hl m hf hi, s.inputSet_shows m.isLt false⟩
  · exact ⟨_, exec_busDroop hl hb hi, rfl, .of (fun _ _ _ => rfl) rfl rfl⟩
  · have h16 : x < 16 := List.mem_range.mp (List.mem_filter.mp (List.mem_of_getLast? hx)).1
    exact ⟨_, exec_moduleShed hl ho hd hn hx, s.shed_shows h16 hd⟩
  · exact ⟨_, exec_holdupRecover hl hu h1 ht hg, s.recover_shows _ rfl⟩
  · exact ⟨_, exec_holdupEnd hl hu h2 hq, s.holdupEnd_shows⟩
  · obtain ⟨h1, h2⟩ := s.lnStrings_charge hc hs
    refine ⟨_, exec_chargeResume hl hc, fun b hb => ?_, h2⟩
    obtain ⟨g1, g2, g3⟩ := h1 b hb
    refine ⟨g1, ?_, g3⟩
    rw [g2, g1]
    unfold code
    omega

end Sys2Proof.Machine
end

section
/-!
PROOFS. Phase management, power-good outputs and the decisions of firmware (O34).
-/

namespace Sys2Proof.Machine

/-! ## What re-spacing leaves of a stage -/

/-- `t` has the requests and the low-load count of every stage of `s`. -/
structure State.StgKept (s t : State) : Prop where
  stage : ∀ j, (t.sg j).nreq = (s.sg j).nreq ∧ (t.sg j).pmt = (s.sg j).pmt

namespace State.StgKept

variable {s t u : State}

theorem of (h : t.stg = s.stg) : s.StgKept t := ⟨fun j => by
  rw [State.sg, State.sg, h]
  exact ⟨rfl, rfl⟩⟩

theorem refl (s : State) : s.StgKept s := .of rfl

theorem trans (h : s.StgKept t) (g : t.StgKept u) : s.StgKept u :=
  ⟨fun j => ⟨(g.stage j).1.trans (h.stage j).1, (g.stage j).2.trans (h.stage j).2⟩⟩

theorem ite {p : Prop} [Decidable p] (ht : s.StgKept t) (hu : s.StgKept u) : s.StgKept (if p then t else u) := by
  split
  · exact ht
  · exact hu

theorem foldl {α : Type} (f : State → α → State) (hf : ∀ (s : State) x, s.StgKept (f s x)) (l : List α) (s : State) :
    s.StgKept (l.foldl f s) := by
  induction l generalizing s with
  | nil => exact .refl s
  | cons a l ih => exact (hf s a).trans (ih _)

theorem onSg (h : s.StgKept t) (k : Nat) (f : StgSt → StgSt) (hf : ∀ g, (f g).nreq = g.nreq ∧ (f g).pmt = g.pmt) : s.StgKept (t.onSg k f) := by
  refine h.trans ⟨fun j => ?_⟩
  by_cases hk : k < 32
  · by_cases hj : k = j
    · subst hj
      rw [t.onSg_sg_same f hk]
      exact hf _
    · rw [t.onSg_sg_ne f hj]
      exact ⟨rfl, rfl⟩
  · have : vset t.stg k (f (t.sg k)) = t.stg := by
      unfold vset
      rw [Vector.setIfInBounds_eq_of_size_le (by omega)]
    rw [State.onSg, this]
    exact ⟨rfl, rfl⟩

theorem setBit (h : s.StgKept t) (a i : Nat) (b : Bool) : s.StgKept (t.setBit a i b) := h.trans (.of rfl)

theorem edged (h : s.Edged t) : s.StgKept t := .of (by rw [h])

end State.StgKept

section
variable (s : State)

theorem State.stgKept_respaceStep (k start : Nat) : s.StgKept (s.respaceStep k start) := by
  unfold State.respaceStep
  extract_lets g m done s1 s2
  refine .ite ?_ (.refl s)
  have h1 : s.StgKept s1 := .foldl _ (fun s i => .of (by rfl)) _ s
  have h2 : s.StgKept s2 := h1.onSg k _ (by exact fun _ => ⟨rfl, rfl⟩)
  exact .ite (h2.trans (.of (by rw [State.raise_stg]; rfl))) h2

theorem State.stgKept_formPeriod (k start len : Nat) : s.StgKept (s.formPeriod k start len) := by
  unfold State.formPeriod
  extract_lets s1 s2
  have h1 : s.StgKept s1 := .ite (.refl s) (s.stgKept_respaceStep ..)
  have h2 : s1.StgKept s2 := .foldl _ (fun s i => .of (by rfl)) _ s1
  exact .onSg ((h1.trans h2).trans (.edged (s2.edged_placePeriod ..))) k _ (by exact fun _ => ⟨rfl, rfl⟩)

theorem State.stgKept_formNext (k : Nat) : s.StgKept (s.formNext k) :=
  .trans (.onSg (.refl s) k _ (by exact fun _ => ⟨rfl, rfl⟩)) (State.stgKept_formPeriod ..)

theorem State.stgKept_reform (k : Nat) (relen : Bool) : s.StgKept (s.reform k relen) := by
  unfold State.reform
  extract_lets g redo kept rm
  cases redo with
  | nil => exact .refl s
  | cons f l =>
    refine State.StgKept.trans ?_ (.foldl _ (fun s p => .ite (s.stgKept_formNext k) (s.stgKept_formPeriod ..)) _ _)
    refine .trans (.onSg (.refl s) k _ (by exact fun _ => ⟨rfl, rfl⟩)) (.ite ?_ (.refl _))
    exact .trans (.onSg (.refl _) k _ (by exact fun _ => ⟨rfl, rfl⟩)) (.foldl _ (fun s i => .of (by rfl)) _ _)

theorem State.stgKept_setActiveFrom (k : Nat) (fresh force : Bool) : s.StgKept (s.setActiveFrom k fresh force) := by
  unfold State.setActiveFrom
  extract_lets want had s1 s2 s3 s4 s5
  have h1 : s.StgKept s1 := .foldl _ (fun s i => .ite (.of (by rfl)) (.refl s)) _ s
  have h2 : s1.StgKept s2 := .foldl _ (fun s i => .ite (.refl s) (.trans (.edged (s.edged_dropPulses i)) (.of (by rfl)))) _ s1
  have h3 : s2.StgKept s3 := by
    refine .foldl _ (fun s x => ?_) _ s2
    extract_lets t a u
    exact .ite (.of (by rfl)) (.of (by rfl))
  have h4 : s2.StgKept s4 := (h3.onSg k _ (by exact fun _ => ⟨rfl, rfl⟩)).setBit ..
  have h5 : s2.StgKept s5 := .ite (.refl s2) (.ite (h3.trans (.of (by rfl))) (h4.trans (s4.stgKept_reform ..)))
  exact ((h1.trans h2).trans h5).trans (.of (by rfl))

/-! ## The request of a stage -/

/-- What setting a stage's request leaves: its field takes the count, and neither the requests nor the counts of hardware change. -/
theorem State.setNreq_shows (k n : Nat) (resp : Option Nat) :
    let t := s.setNreq k n resp
    s.StgKept t ∧ t.fld (Reg.ST_NREQ k) 7 0 = n % 256 ∧ t.mem = s.mem := by
  intro t
  by_cases h : s.fld (Reg.ST_NREQ k) 7 0 = n
  · have ht : t = s := if_pos h
    rw [ht]
    have : s.fld (Reg.ST_NREQ k) 7 0 < 256 := fieldOf_lt ..
    exact ⟨.refl s, by omega, rfl⟩
  · have ht : t = s.setNreq k n resp := rfl
    rw [State.setNreq, if_neg h] at ht
    extract_lets x z at ht
    have hx : x.fld (Reg.ST_NREQ k) 7 0 = n % 256 := State.fld_put _ _ _ _ _ (by decide)
    split at ht
    · have hf : State.Frame (fun a _ => shapeReg a) (· = 103) (x.onSg k (fun g => { g with resp := resp })) z :=
        State.frame_setActiveFrom (E := (· = 103)) (fun _ _ h => h) _ rfl ..
      have hk : s.StgKept t := by
        rw [ht]
        refine .onSg (.trans (t := x.onSg k (fun g => { g with resp := resp })) ?_ (State.stgKept_setActiveFrom ..)) k _
          (by exact fun _ => ⟨rfl, rfl⟩)
        exact .onSg (.of (by rfl)) k _ (by exact fun _ => ⟨rfl, rfl⟩)
      refine ⟨hk, ?_, ?_⟩
      · rw [ht]
        refine Eq.trans (congrArg (fun w => fieldOf w 7 0) (hf.rd (a := Reg.ST_NREQ k) (fun _ _ => ?_) (sideReg_eq_false.mpr ?_))) hx
        · simp only [shapeReg, phaseReg, Reg.ST_NREQ, Reg.PHS_STAT, Reg.PHS_CAPREQ, Reg.SHF_FTRUN]
          omega
        · simp only [Reg.ST_NREQ, Reg.HST_RSVWR, Reg.CW_STAT]
          omega
      · rw [ht]
        exact hf.mem
    · rw [ht]
      exact ⟨.of (by rfl), hx, rfl⟩

end

/-- ST_NREQ follows a decision's count, or else what hardware requests. -/
theorem State.applyNreq_shows (s : State) (k : Nat) :
    let t := s.applyNreq k
    let count := fieldOf (((s.decision 3).map (fun d => decWord d k)).getD 0) 7 0
    s.StgKept t ∧ t.fld (Reg.ST_NREQ k) 7 0 = (if count = 0 then (s.sg k).nreq % 256 else count) ∧ t.mem = s.mem := by
  intro t count
  have hc : count < 256 := fieldOf_lt ..
  by_cases h : count = 0
  · have ht : t = s.setNreq k (s.sg k).nreq none := if_pos h
    rw [ht, if_pos h]
    exact s.setNreq_shows ..
  · have ht : t = s.setNreq k count _ := if_neg h
    rw [ht, if_neg h]
    obtain ⟨h1, h2, h3⟩ := s.setNreq_shows k count (if fieldOf (((s.decision 3).map (fun d => decWord d k)).getD 0) 15 8 = 0 then none
      else some (fieldOf (((s.decision 3).map (fun d => decWord d k)).getD 0) 15 8))
    exact ⟨h1, h2.trans (Nat.mod_eq_of_lt hc), h3⟩

section
variable {s : State} (hl : s.live = true)
include hl

theorem exec_phaseDrop (k : Fin 32) (h2 : s.stState k = 2) (he : s.bit Reg.PM_EN k = true) (hp : max 1 (s.fld Reg.PM_PAR 7 0) ≤ (s.sg k).pmt) :
    exec (.phaseDrop k) s = .next ((s.onSg k (fun g => { g with
      pmt := 0,
      nreq := if max (s.nAct k - 1) (max 1 (s.fld Reg.PM_PAR 11 8)) < s.nAct k then max (s.nAct k - 1) (max 1 (s.fld Reg.PM_PAR 11 8))
        else g.nreq })).applyNreq k) := by
  refine if_pos ?_
  rw [hl, h2, he, decide_eq_true hp]
  rfl

theorem exec_pgTimeout (k : Fin 32) (hb : s.bit Reg.SHF_FTRUN k = true) (hf : max 1 (s.fld Reg.PG_FTIME 15 0) ≤ (s.sg k).ft) :
    exec (.pgTimeout k) s = .next ((s.fault 11 k
      (((List.range 4).find? (fun g => s.bit (Reg.PG_CFG g) 31 && s.bit (Reg.PG_STG g) k)).getD 0)).stageSafe k 11 false) := by
  refine if_pos ?_
  rw [hl, hb, decide_eq_true hf]
  rfl

theorem exec_pgAssert (g : Fin 4) (hb : s.unit.booted = true) (hq : 16 * max 1 (s.fld (Reg.PG_CFG g) 15 0) ≤ vget s.shf.qual g 0) :
    exec (.pgAssert g) s = .next (s.setPg g true) := by
  refine if_pos ?_
  rw [hl, hb, decide_eq_true hq]
  rfl

end

section
variable (s : State)

theorem State.phaseDrop_shows (k : Fin 32) {lo : Nat} (hlo : 1 ≤ lo) :
    let count := fieldOf (((s.decision 3).map (fun d => decWord d k)).getD 0) 7 0
    let t := (s.onSg k (fun g => { g with pmt := 0, nreq := if max (s.nAct k - 1) lo < s.nAct k then max (s.nAct k - 1) lo else g.nreq })).applyNreq k
    (t.sg k).pmt = 0 ∧ (lo < s.nAct k → (t.sg k).nreq = max (s.nAct k - 1) lo) ∧ (s.nAct k ≤ lo → (t.sg k).nreq = (s.sg k).nreq) ∧
      t.fld (Reg.ST_NREQ k) 7 0 = (if count = 0 then (t.sg k).nreq % 256 else count) ∧ ∀ a, t.mem8 a = s.mem8 a := by
  intro count t
  obtain ⟨h1, h2, h3⟩ := State.applyNreq_shows (s.onSg k (fun g => { g with
    pmt := 0, nreq := if max (s.nAct k - 1) lo < s.nAct k then max (s.nAct k - 1) lo else g.nreq })) k
  change State.StgKept _ t at h1
  change t.fld _ _ _ = _ at h2
  change t.mem = _ at h3
  obtain ⟨hn, hp⟩ := h1.stage k
  rw [State.onSg_sg_same _ _ k.isLt] at hn hp h2
  refine ⟨hp, fun h => ?_, fun h => ?_, ?_, fun a => ?_⟩
  · rw [hn]
    exact if_pos (by omega)
  · rw [hn]
    exact if_neg (by omega)
  · rw [h2, hn]
    rfl
  · rw [State.mem8, h3]
    rfl

theorem State.pgTimeout_shows (k : Fin 32) (p : Nat → Bool) :
    let t := (s.fault 11 k (((List.range 4).find? p).getD 0)).stageSafe k 11 false
    t.stState k = 3 ∧ (∃ o < 4, Reported t 11 k o) ∧ ∀ a, t.mem8 a = s.mem8 a := by
  intro t
  have ho : ((List.range 4).find? p).getD 0 < 4 := by
    cases h : (List.range 4).find? p with
    | none => decide
    | some o => exact List.mem_range.mp (List.mem_of_find?_eq_some h)
  have hf : State.Frame (fun _ _ => True) (· = 101) (s.fault 11 k (((List.range 4).find? p).getD 0)) t :=
    State.frame_stageSafe (E := (· = 101)) _ (fun _ _ _ => trivial) rfl 11 false
  refine ⟨State.stageSafe_stState .., ⟨_, ho, hf.reported (State.fault_reported _ _ _ _ (.inr (by decide)))⟩, fun a => ?_⟩
  rw [State.mem8, hf.mem, State.fault_mem]
  rfl

theorem State.setPg_shows (g : Fin 4) :
    let t := s.setPg g true
    t.bit Reg.PG_STAT g = true ∧ t.bit Reg.PG_STAT (4 + g) = !s.bit (Reg.PG_CFG g) 30 ∧
      (s.bit Reg.PG_STAT g = false → Raised s t (E.PG_ASSERT g)) ∧ Keeps s t [Reg.PG_STAT] := by
  intro t
  have ht : t = s.setPg g true := rfl
  unfold State.setPg at ht
  extract_lets was x at ht
  have hx : x.bit Reg.PG_STAT g = true ∧ x.bit Reg.PG_STAT (4 + g) = !s.bit (Reg.PG_CFG g) 30 := by
    refine ⟨(State.bit_setBit_ne _ _ _ _ _ (by omega) (by omega)).trans (State.bit_setBit _ _ _ _ (by omega)), ?_⟩
    refine (State.bit_setBit _ _ _ _ (by omega)).trans ?_
    exact Bool.true_bne _
  have hk : Keeps s x [Reg.PG_STAT] := ((Keeps.refl s _).setBit _ _ (by simp)).setBit _ _ (by simp)
  by_cases hw : was = true
  · have hw' : ¬ s.bit Reg.PG_STAT g = false := by
      rw [show s.bit Reg.PG_STAT g = true from hw]
      decide
    rw [if_pos hw] at ht
    rw [ht]
    exact ⟨hx.1, hx.2, fun h => absurd h hw', hk⟩
  · rw [if_neg hw, if_pos rfl] at ht
    have hr : (x.raise (E.PG_ASSERT g)).rd Reg.PG_STAT = x.rd Reg.PG_STAT := State.rd_raise _ _ _ _ _ (by decide) (by decide) (by decide)
    rw [ht, State.bit, State.bit, hr]
    exact ⟨hx.1, hx.2, fun _ => .of (List.Subset.refl _) rfl, hk.raise (by decide)⟩

end

/-! ## Decisions -/

theorem State.writePair_mailbox (s : State) (f : Fin 7) (v : Word) : s.writePair (0x20010 + 0x200 * (f : Nat)) v = s.mbSubmit f v := by
  fin_cases f <;> rfl

/-- The row of MB_DCTL. -/
def mailboxRow : RegRow := ⟨0x20010, 0x200, 8, 4, 1, 0, 0, 0, 0, 0x8000FFFF, 0x8000FFFF, none, []⟩

/-- A submission with the sequence number of `v`, as the mailbox sees it. -/
def submission (v : Word) : Word := withBit v 31 &&& word 0x8000FFFF

theorem submission_bits (v : Word) : bitOf (submission v) 31 = true ∧ fieldOf (submission v) 15 0 = fieldOf v 15 0 := by
  unfold submission
  constructor
  · rw [bitOf_and _ _ _ (by decide), bitOf_withBit _ _ _ (by decide), if_pos rfl]
  · rw [fieldOf_and _ _ _ _ (by decide) (by decide), fieldOf_withBit _ _ _ _ (by decide) (.inl (by decide))]

section
variable (s : State) (p : Port) (v : Word) (f : Fin 7) (hr : s.runs = true) (hf : s.bankN p Reg.MB_SEL = f)
include hr hf

theorem hostWrite_mailbox_now (hn : s.actsNow = true) : (s.hostWrite p mbDctlAddr (withBit v 31)).Counted (s.mbSubmit f (submission v)) :=
  s.writePair_mailbox f _ ▸ State.hostWrite_now_counted s p _ (0x20010 + 0x200 * (f : Nat)) _ mailboxRow (State.fabricUp_runs s hr)
    (State.mapped_runs s _ hr (Or.inr (by decide))) (by decide) (by cases p <;> rfl) (State.keyOf_decisionSubmit s p _ hf f.isLt)
    (row_decisionSubmit f) (fol_decisionSubmit f) hn

theorem hostWrite_mailbox_standby (hn : s.notActiveInPair = true) : (s.hostWrite p mbDctlAddr v).Counted s :=
  State.hostWrite_standby_counted s p mbDctlAddr (0x20010 + 0x200 * (f : Nat)) v mailboxRow (State.fabricUp_runs s hr)
    (State.mapped_runs s _ hr (Or.inr (by decide))) (by decide) (by cases p <;> rfl) (State.keyOf_decisionSubmit s p _ hf f.isLt)
    (row_decisionSubmit f) (fol_decisionSubmit f) hn (by simp only [Reg.ADC_HTEST]; omega)

end

theorem sideReg_mailbox (f : Fin 7) : sideReg (Reg.MB_DSTAT f) = false := by
  revert f
  decide

section
variable {s : State} {v : Word} {f : Fin 7}

theorem State.mbSubmit_wrong (h : (s.mbx f).active = false ∨ fieldOf v 15 0 ≠ s.fld (Reg.MB_PSEQ f) 15 0) :
    s.mbSubmit f (submission v) = (s.onMb f (fun m => { m with bad := true })).put (Reg.MB_DSTAT f) 19 16 4 := by
  obtain ⟨h1, h2⟩ := submission_bits v
  unfold State.mbSubmit
  rw [if_pos (by rw [h1]; simp), if_pos]
  rw [h2]
  rcases h with h | h
  · rw [h]
    simp
  · rw [bne_iff_ne.mpr h]
    rfl

variable (ha : (s.mbx f).active = true) (hq : fieldOf v 15 0 = s.fld (Reg.MB_PSEQ f) 15 0)
include ha hq

theorem State.mbSubmit_late (h : (s.mbx f).open_ = false ∨ (s.mbx f).lost = true) :
    s.mbSubmit f (submission v) = s.put (Reg.MB_DSTAT f) 19 16 2 := by
  obtain ⟨h1, h2⟩ := submission_bits v
  unfold State.mbSubmit
  rw [if_pos (by rw [h1]; simp)]
  rw [if_neg (by rw [h2, ha, hq]; simp), if_pos]
  rcases h with h | h
  · rw [h]
    rfl
  · rw [h, Bool.or_true]

theorem State.mbSubmit_taken (ho : (s.mbx f).open_ = true) (hl : (s.mbx f).lost = false) :
    s.mbSubmit f (submission v) = s.onMb f (fun m => { m with sub := some ((List.range 32).map (fun i => s.rd (Reg.MB_DEC f i))) }) := by
  obtain ⟨h1, h2⟩ := submission_bits v
  unfold State.mbSubmit
  rw [if_pos (by rw [h1]; simp)]
  rw [if_neg (by rw [h2, ha, hq]; simp), if_neg (by rw [ho, hl]; simp)]

end

/-- Settles O34: the request of a stage follows from what re-spacing leaves alone, and a submission from the mailbox as it stands. -/
theorem powerGoodAndDecisions : Obligations.PowerGoodAndDecisions := by
  refine ⟨fun k g s hl => ⟨fun h2 he hp => ?_, fun hb hf => ?_, fun hb hq => ?_⟩, fun p v f s hr hf =>
    ⟨fun hn ha hq => ⟨fun ho hlo => ?_, fun h => ?_⟩, fun hn h => ?_, fun hn => ?_⟩⟩
  · exact ⟨_, exec_phaseDrop hl k h2 he hp, s.phaseDrop_shows k (Nat.le_max_left _ _)⟩
  · exact ⟨_, exec_pgTimeout hl k hb hf, s.pgTimeout_shows k _⟩
  · exact ⟨_, exec_pgAssert hl g hb hq, s.setPg_shows g⟩
  · have hc := hostWrite_mailbox_now s p v f hr hf hn
    rw [State.mbSubmit_taken ha hq ho hlo] at hc
    refine ⟨_, rfl, ?_, fun g hg => ?_, hc.keeps (.of (fun _ _ _ => rfl) rfl rfl)⟩
    · rw [hc.same (·.mbx f) (fun _ _ => rfl), s.onMb_mbx_same _ f.isLt]
    · rw [hc.same (·.mbx g) (fun _ _ => rfl), s.onMb_mbx_ne _ (Ne.symm hg)]
  · have hc := hostWrite_mailbox_now s p v f hr hf hn
    rw [State.mbSubmit_late ha hq h] at hc
    refine ⟨_, rfl, hc.same (·.mb) (fun _ _ => rfl), ?_, hc.keeps ((Keeps.refl s _).put _ _ _ (by simp))⟩
    rw [State.fld, hc.rd (sideReg_mailbox f)]
    exact State.fld_put _ _ _ _ _ (by decide)
  · have hc := hostWrite_mailbox_now s p v f hr hf hn
    rw [State.mbSubmit_wrong h] at hc
    have hm : (((s.onMb f (fun m => { m with bad := true })).put (Reg.MB_DSTAT f) 19 16 4).mbx f) = { s.mbx f with bad := true } :=
      s.onMb_mbx_same (fun m => { m with bad := true }) f.isLt
    have hk : Keeps s (s.onMb f (fun m => { m with bad := true })) [Reg.MB_DSTAT f] := .of (fun _ _ _ => rfl) rfl rfl
    refine ⟨_, rfl, ?_, ?_, ?_, hc.keeps (hk.put _ _ _ (by simp))⟩
    · rw [hc.same (·.mbx f) (fun _ _ => rfl), hm]
    · rw [hc.same (·.mbx f) (fun _ _ => rfl), hm]
    · rw [State.fld, hc.rd (sideReg_mailbox f)]
      exact State.fld_put _ _ _ _ _ (by decide)
  · have hc := hostWrite_mailbox_standby s p (withBit v 31) f hr hf hn
    exact ⟨_, rfl, hc.same (·.mb) (fun _ _ => rfl), hc.keeps (.refl _ _)⟩

end Sys2Proof.Machine
end

section
/-!
PROOFS. Feeders: their trips, the end of a toggle and the snapshot request (O35).
-/

namespace Sys2Proof.Machine

section
variable (s : State) {f : Nat} (hf : f < 64)

theorem State.fdrLink_lt (f : Nat) : s.fdrLink f < 16 := fieldOf_lt ..
theorem State.fdrPh_lt (f : Nat) : s.fdrPh f < 8 := fieldOf_lt ..

/-- The head values change nothing of a feeder but its own note of them. -/
theorem State.fdrSendHead_fd (hf : f < 64) : ((s.fdrSendHead f).fd f).offAt = (s.fd f).offAt ∧ ((s.fdrSendHead f).fd f).follow = (s.fd f).follow ∧
    (s.fdrSendHead f).unit = s.unit := by
  unfold State.fdrSendHead
  extract_lets d n v a acc x
  have hx : x.fd f = s.fd f := rfl
  have hu : x.unit = s.unit := rfl
  split
  · refine ⟨?_, ?_, hu⟩ <;> rw [State.onFd_fd_same _ _ hf, hx]
  · exact ⟨rfl, rfl, rfl⟩

/-- What a trip leaves, before its head is told. -/
structure State.Tripped (s : State) (f cause : Nat) (t : State) : Prop where
  state : t.fdrState f = 3
  noted : t.fld (Reg.FDR_CTL f) 23 20 = cause
  reported : Reported t 12 f cause
  raised : Raised s t (E.FEEDER_TRIP f)
  offAt : (t.fd f).offAt = none
  frame : State.Frame (fun a _ => a = Reg.FDR_CTL f) (· = 128 + f) s t
  unit : t.unit = s.unit

/-- The state of a trip before its event and its fault. -/
def State.tripPut (s : State) (f cause : Nat) (fwd : Bool) : State :=
  let x := ((s.fdrSnap f cause (cause == 10) fwd).put (Reg.FDR_CTL f) 25 24 3).put (Reg.FDR_CTL f) 23 20 cause
  (x.onFd f (fun d => { d with psum := 0, offAt := none, tripAt := some x.time.mono, follow := 0 })).fdrDiscard f

theorem State.tripState_eq (h : s.fdrState f = 1 ∨ s.fdrState f = 2) (cause : Nat) (fwd : Bool) : s.tripState f cause fwd =
    (((s.tripPut f cause fwd).raiseWith (E.FEEDER_TRIP f) [BitVec.ofNat 8 cause, BitVec.ofNat 8 (s.fdrState f)] false fwd).fault
      12 f cause).fdrSendHead f := by
  refine if_pos ?_
  rcases h with h | h <;> rw [h] <;> rfl

include hf

theorem sideReg_fdrCtl : sideReg (Reg.FDR_CTL f) = false := by
  rw [sideReg_eq_false]
  simp only [Reg.FDR_CTL, Reg.HST_RSVWR, Reg.CW_STAT]
  omega

theorem State.tripState_tripped (h : s.fdrState f = 1 ∨ s.fdrState f = 2) {cause : Nat} (hc : cause < 16) (fwd : Bool) :
    s.Tripped f cause (s.tripState f cause fwd) := by
  have hfr := s.frame_tripState (R := fun a _ => a = Reg.FDR_CTL f) (E := (· = 128 + f)) hf (fun _ _ => rfl) rfl cause fwd
  have hside := sideReg_fdrCtl hf
  obtain ⟨h1, h2, h3, -⟩ := sideReg_eq_false.mp hside
  rw [s.tripState_eq h] at hfr ⊢
  have hp : (s.tripPut f cause fwd).fdrState f = 3 ∧ (s.tripPut f cause fwd).fld (Reg.FDR_CTL f) 23 20 = cause :=
    ⟨(State.fld_put_disj _ _ _ _ _ _ _ (by decide) (.inr (by decide))).trans (State.fld_put _ _ _ _ _ (by decide)),
      (State.fld_put _ _ _ _ _ (by decide)).trans (Nat.mod_eq_of_lt hc)⟩
  have hd : ((s.tripPut f cause fwd).fd f).offAt = none :=
    congrArg FdrSt.offAt (State.onFd_fd_same _ (fun d => { d with psum := 0, offAt := none, tripAt := some s.time.mono, follow := 0 }) hf)
  have hq : (s.tripPut f cause fwd).evq = s.evq := rfl
  have hu : (s.tripPut f cause fwd).unit = s.unit := rfl
  generalize s.tripPut f cause fwd = x at hp hd hq hu hfr
  have hr := State.raiseWith_raised x (E.FEEDER_TRIP f) [BitVec.ofNat 8 cause, BitVec.ofNat 8 (s.fdrState f)] false fwd
  have hxr : (x.raiseWith (E.FEEDER_TRIP f) [BitVec.ofNat 8 cause, BitVec.ofNat 8 (s.fdrState f)] false fwd).rd (Reg.FDR_CTL f) =
      x.rd (Reg.FDR_CTL f) :=
    State.raiseWith_rd _ _ _ _ _ _ (by simp only; omega) (sideReg_cross hside)
  have hxf : (x.raiseWith (E.FEEDER_TRIP f) [BitVec.ofNat 8 cause, BitVec.ofNat 8 (s.fdrState f)] false fwd).fdr = x.fdr := by simp
  have hxu : (x.raiseWith (E.FEEDER_TRIP f) [BitVec.ofNat 8 cause, BitVec.ofNat 8 (s.fdrState f)] false fwd).unit = x.unit := by simp
  generalize x.raiseWith (E.FEEDER_TRIP f) [BitVec.ofNat 8 cause, BitVec.ofNat 8 (s.fdrState f)] false fwd = y at hr hxr hxf hxu hfr
  have hyr : (y.fault 12 f cause).rd (Reg.FDR_CTL f) = y.rd (Reg.FDR_CTL f) := State.rd_fault _ _ _ _ _ h1 h2 h3
  have hyf : (y.fault 12 f cause).fdr = y.fdr := State.fault_fdr ..
  have hyu : (y.fault 12 f cause).unit = y.unit := State.fault_unit ..
  have hrep := State.fault_reported y 12 f cause (.inr (by decide))
  have hye : y.evq ⊆ (y.fault 12 f cause).evq := (State.Frame.fault (R := fun _ _ => False) (E := fun _ => False) (.refl y) 12 f cause).evq
  generalize y.fault 12 f cause = z at hyr hyf hyu hrep hye hfr
  have hz := State.frame_fdrSendHead (R := fun _ _ => False) (E := fun _ => False) z f
  have hzr : (z.fdrSendHead f).rd (Reg.FDR_CTL f) = x.rd (Reg.FDR_CTL f) := ((hz.rd (fun _ _ h => h) hside).trans hyr).trans hxr
  refine ⟨?_, ?_, hz.reported hrep, Raised.mono (t := y) ?_ (List.Subset.trans hye hz.evq), ?_, hfr, ?_⟩
  · rw [State.fdrState, State.fld, hzr]
    exact hp.1
  · rw [State.fld, hzr]
    exact hp.2
  · exact fun hfit => hr (by rw [State.pulseFits, hq]; exact hfit)
  · rw [(z.fdrSendHead_fd hf).1, State.fd, hyf, hxf]
    exact hd
  · rw [(z.fdrSendHead_fd hf).2.2, hyu, hxu, hu]

end

/-! ## How the head is told -/

/-- Making a channel safe by a reflex word leaves no edge of it waiting. -/
theorem State.sendReflex_discards (s : State) {n c : Nat} (hn : n < 16) (hc : c < 8) (ht : s.linkTx n = true) :
    ∀ e ∈ ((s.sendReflex n 0 (1 <<< c)).link n).edges, e.ch ≠ c := by
  have hm : (1 <<< c % 256).testBit c = true := by
    interval_cases c <;> decide
  have hnot (es : List Edge) : ∀ e ∈ notNamed (1 <<< c % 256) es, e.ch ≠ c := by
    intro e he hec
    have := (List.mem_filter.mp he).2
    rw [hec, hm] at this
    exact absurd this (by decide)
  unfold State.sendReflex
  rw [if_pos ht]
  extract_lets l m l1 k l2
  have h1 : ∀ e ∈ l1.edges, e.ch ≠ c := hnot _
  have h2 (k : Nat) : ∀ e ∈ (if k ≤ 10 then l1.abort k m else l1).edges, e.ch ≠ c := by
    intro e he
    split at he
    · unfold LinkSt.abort at he
      split at he
      · exact h1 e he
      · rcases List.mem_append.mp he with he | he
        · exact hnot _ e he
        · exact h1 e he
    · exact h1 e he
  split
  · intro e he
    rw [State.setLink_link_same _ _ hn] at he
    exact h1 e he
  · intro e he
    rw [show ∀ x : State, (x.bump (Reg.LNK_REFLEX n) 31 0 1).link n = x.link n from fun _ => rfl, State.setLink_link_same _ _ hn] at he
    exact h2 k e he

/-- A reflex word changes its link and the count of its words. -/
theorem State.sendReflex_only (s : State) (n act mask : Nat) :
    State.Frame (fun a _ => a = Reg.LNK_REFLEX n) (fun _ => False) s (s.sendReflex n act mask) ∧ (s.sendReflex n act mask).fdr = s.fdr := by
  unfold State.sendReflex
  split
  · extract_lets l m l1 k l2
    split
    · exact ⟨.of rfl, rfl⟩
    · exact ⟨.bump (.of (by rfl)) _ _ _ _ (fun _ _ _ _ => rfl), rfl⟩
  · exact ⟨.refl s, rfl⟩

/-- Whether a link transmits follows its control register and the unit. -/
theorem State.linkTx_of_frame {s x : State} {f n : Nat} (h : State.Frame (fun a _ => a = Reg.FDR_CTL f) (· = 128 + f) s x) (hu : x.unit = s.unit)
    (hn : n < 16) : x.linkTx n = s.linkTx n := by
  have : x.rd (Reg.LNK_CTL n) = s.rd (Reg.LNK_CTL n) := by
    refine h.rd (fun _ _ h => ?_) (sideReg_eq_false.mpr ?_)
    · simp only [Reg.LNK_CTL, Reg.FDR_CTL] at h
      omega
    · simp only [Reg.LNK_CTL, Reg.HST_RSVWR, Reg.CW_STAT]
      omega
  rw [State.linkTx, State.linkTx, State.bit, State.bit, this, hu]

/-- A fast trip of a feeder: it is tripped, and its head is told by a reflex word. -/
theorem State.tripReflex_shows (s : State) {f cause : Nat} (hf : f < 64) (h : s.fdrState f = 1 ∨ s.fdrState f = 2) (hc : cause < 16) :
    let t := s.tripReflex f cause false
    t.fdrState f = 3 ∧ t.fld (Reg.FDR_CTL f) 23 20 = cause ∧ Reported t 12 f cause ∧ Raised s t (E.FEEDER_TRIP f) ∧ (t.fd f).offAt = none ∧
      (s.linkTx (s.fdrLink f) = true → ∀ e ∈ (t.link (s.fdrLink f)).edges, e.ch ≠ s.fdrPh f) ∧
      Keeps s t [Reg.FDR_CTL f, Reg.LNK_REFLEX (s.fdrLink f)] := by
  intro t
  have ht : t = (s.tripState f cause false).sendReflex (s.fdrLink f) 0 (1 <<< s.fdrPh f) := if_pos (by rcases h with h | h <;> rw [h] <;> rfl)
  obtain ⟨h1, h2, h3, h4, h5, h6, h7⟩ := s.tripState_tripped hf h hc false
  rw [ht]
  generalize s.tripState f cause false = x at h1 h2 h3 h4 h5 h6 h7
  have hside := sideReg_fdrCtl hf
  obtain ⟨hr, hfd⟩ := x.sendReflex_only (s.fdrLink f) 0 (1 <<< s.fdrPh f)
  have htx := State.linkTx_of_frame h6 h7 (s.fdrLink_lt f)
  have hrd : (x.sendReflex (s.fdrLink f) 0 (1 <<< s.fdrPh f)).rd (Reg.FDR_CTL f) = x.rd (Reg.FDR_CTL f) := hr.rd (fun _ _ h => by
    have := s.fdrLink_lt f
    simp only [Reg.FDR_CTL, Reg.LNK_REFLEX] at h
    omega) hside
  refine ⟨?_, ?_, hr.reported h3, h4.mono hr.evq, ?_, fun hl => ?_, ?_⟩
  · rw [State.fdrState, State.fld, hrd]
    exact h1
  · rw [State.fld, hrd]
    exact h2
  · rw [State.fd, hfd]
    exact h5
  · exact x.sendReflex_discards (s.fdrLink_lt f) (s.fdrPh_lt f) (htx.trans hl)
  · exact (h6.keeps fun a _ h => by simp [h]).trans (hr.keeps fun a _ h => by simp [h])

/-- An inrush timeout of a feeder: it is tripped, and its head is told by a force-safe edge. -/
theorem State.tripEdge_shows (s : State) {f cause : Nat} (hf : f < 64) (h : s.fdrState f = 1 ∨ s.fdrState f = 2) (hc : cause < 16) :
    let t := s.tripEdge f cause false
    t.fdrState f = 3 ∧ t.fld (Reg.FDR_CTL f) 23 20 = cause ∧ Reported t 12 f cause ∧ Raised s t (E.FEEDER_TRIP f) ∧
      (∃ e ∈ (t.link (s.fdrLink f)).edges, e.ch = s.fdrPh f ∧ e.ev = 3) ∧ Keeps s t [Reg.FDR_CTL f] := by
  intro t
  have ht : t = (s.tripState f cause false).fdrEdge f 3 := if_pos (by rcases h with h | h <;> rw [h] <;> rfl)
  obtain ⟨h1, h2, h3, h4, -, h6, -⟩ := s.tripState_tripped hf h hc false
  rw [ht]
  generalize s.tripState f cause false = x at h1 h2 h3 h4 h6
  have hcfg : x.rd (Reg.FDR_CFG f) = s.rd (Reg.FDR_CFG f) := by
    refine h6.rd (fun _ _ h => ?_) (sideReg_eq_false.mpr ?_)
    · simp only [Reg.FDR_CFG, Reg.FDR_CTL] at h
      omega
    · simp only [Reg.FDR_CFG, Reg.HST_RSVWR, Reg.CW_STAT]
      omega
  have hl : x.fdrLink f = s.fdrLink f := by rw [State.fdrLink, State.fld, hcfg]; rfl
  have hp : x.fdrPh f = s.fdrPh f := by rw [State.fdrPh, State.fld, hcfg]; rfl
  refine ⟨h1, h2, h3, h4, ⟨{ ch := x.fdrPh f, ev := 3, at_ := x.fdrNextFrame f 3 }, ?_, hp, rfl⟩,
    (h6.keeps fun a _ h => by simp [h]).trans (.of (fun _ _ _ => rfl) rfl rfl)⟩
  rw [← hl, State.fdrEdge, State.addEdge, State.onLink_link_same _ _ (x.fdrLink_lt f)]
  exact List.mem_append_right _ List.mem_cons_self

/-! ## The end of a toggle -/

theorem exec_feederToggleDone {s : State} (hl : s.live = true) (f : Fin 64) (h3 : s.fdrState f = 3) {x : Nat} (hx : (s.fd f).offAt = some x)
    (hg : x + 8000 * 64 ≤ s.gaitStart) : exec (.feederToggleDone f) s = .next (
      let y := ((s.put (Reg.FDR_CTL f) 25 24 0).setBit (Reg.FDR_CTL f) 26 ((s.fd f).follow == 2)).onFd f
        (fun d => { d with offAt := none, follow := 0 })
      (y.sendRelease (y.fdrLink f) (1 <<< y.fdrPh f)).fdrSendHead f) := by
  refine if_pos ?_
  have ht : s.toggled f = true := by
    unfold State.toggled
    rw [hx]
    exact decide_eq_true hg
  rw [hl, h3, ht]
  rfl

theorem exec_feederToggleDone_early {s : State} (f : Fin 64) {x : Nat} (hx : (s.fd f).offAt = some x) (hg : s.gaitStart < x + 8000 * 64) :
    exec (.feederToggleDone f) s = .next s := by
  refine if_neg ?_
  have ht : s.toggled f = false := by
    unfold State.toggled
    rw [hx]
    exact decide_eq_false (Nat.not_le.mpr hg)
  rw [ht, Bool.and_false]
  exact Bool.false_ne_true

theorem State.sendRelease_only (s : State) (n mask : Nat) : (s.sendRelease n mask).reg = s.reg ∧ (s.sendRelease n mask).fdr = s.fdr ∧
    (s.sendRelease n mask).shadow = s.shadow ∧ (s.sendRelease n mask).mem = s.mem := by
  unfold State.sendRelease
  split
  · exact ⟨rfl, rfl, rfl, rfl⟩
  · exact ⟨rfl, rfl, rfl, rfl⟩

theorem State.toggleDone_shows (s : State) {f : Nat} (hf : f < 64) (b : Bool) :
    let y := ((s.put (Reg.FDR_CTL f) 25 24 0).setBit (Reg.FDR_CTL f) 26 b).onFd f (fun d => { d with offAt := none, follow := 0 })
    let t := (y.sendRelease (y.fdrLink f) (1 <<< y.fdrPh f)).fdrSendHead f
    t.fdrState f = 0 ∧ (t.fd f).offAt = none ∧ (t.fd f).follow = 0 ∧ t.bit (Reg.FDR_CTL f) 26 = b ∧ Keeps s t [Reg.FDR_CTL f] := by
  intro y t
  have hside := sideReg_fdrCtl hf
  have hy : y.fdrState f = 0 ∧ y.bit (Reg.FDR_CTL f) 26 = b := by
    refine ⟨?_, State.bit_setBit _ _ _ _ (by decide)⟩
    exact (State.fld_put_disj _ _ _ _ _ _ _ (by decide) (.inl (by decide))).trans (State.fld_put s (Reg.FDR_CTL f) 25 24 0 (by decide))
  have hk : Keeps s y [Reg.FDR_CTL f] := (((Keeps.refl s _).put _ _ _ (by simp)).setBit _ _ (by simp)).trans (.of (fun _ _ _ => rfl) rfl rfl)
  have hd : y.fd f = { s.fd f with offAt := none, follow := 0 } := State.onFd_fd_same _ (fun d => { d with offAt := none, follow := 0 }) hf
  obtain ⟨r1, r2, r3, r4⟩ := y.sendRelease_only (y.fdrLink f) (1 <<< y.fdrPh f)
  have ht : t = (y.sendRelease (y.fdrLink f) (1 <<< y.fdrPh f)).fdrSendHead f := rfl
  rw [ht]
  generalize y.sendRelease (y.fdrLink f) (1 <<< y.fdrPh f) = z at r1 r2 r3 r4
  have hz := State.frame_fdrSendHead (R := fun _ _ => False) (E := fun _ => False) z f
  obtain ⟨e1, e2, -⟩ := z.fdrSendHead_fd hf
  have hzd : z.fd f = { s.fd f with offAt := none, follow := 0 } := by rw [State.fd, r2, ← State.fd, hd]
  have hrd : (z.fdrSendHead f).rd (Reg.FDR_CTL f) = y.rd (Reg.FDR_CTL f) := (hz.rd (fun _ _ h => h) hside).trans (by rw [State.rd, r1, ← State.rd])
  refine ⟨?_, ?_, ?_, ?_, ?_⟩
  · rw [State.fdrState, State.fld, hrd]
    exact hy.1
  · rw [e1, hzd]
  · rw [e2, hzd]
  · rw [State.bit, hrd]
    exact hy.2
  · exact (hk.trans (.of (fun a _ _ => by rw [r1]; rfl) r3 r4)).trans (hz.keeps (fun _ _ h => h.elim))

/-! ## The snapshot request -/

/-- The row of FDR_CTL. -/
def fdrCtlRow : RegRow := ⟨0x3418, 0x20, 64, 4, 1, 0, 0x30000001, 0, 0, 0x80000000, 0xFFFF0003, none, []⟩

theorem State.writePair_feeder (s : State) (f : Fin 64) (v : Word) : s.writePair (Reg.FDR_CTL f) v = s.fdrCtlWrite (Reg.FDR_CTL f) v := by
  fin_cases f <;> rfl

/-- A write of FDR_CTL with SNAP: the writable bits take the word, and SNAP waits. -/
theorem State.fdrCtlWrite_snap (s : State) (f : Fin 64) (v : Word) (hv : bitOf v 31 = true) :
    let t := s.fdrCtlWrite (Reg.FDR_CTL f) (v &&& word fdrCtlRow.known)
    t.bit (Reg.FDR_CTL f) 30 = true ∧ t.bit (Reg.FDR_CTL f) 0 = bitOf v 0 ∧ t.fdrState f = s.fdrState f ∧ t.fdr = s.fdr ∧
      Keeps s t [Reg.FDR_CTL f] := by
  have hr := row_feederSnap f
  have hw (i : Nat) (hi : i < 32) := RegRow.written_bit hr rfl (s.rd (Reg.FDR_CTL f)) v hi
  have hst := s.rd_storeByType (k := Reg.FDR_CTL f) (v &&& word fdrCtlRow.known) hr rfl
  intro t
  have hb31 : bitOf (v &&& word fdrCtlRow.known) 31 = true := by
    rw [bitOf_and _ _ _ (by decide), hv]
  have ht : t = (s.storeByType true (Reg.FDR_CTL f) (v &&& word fdrCtlRow.known)).setBit (Reg.FDR_CTL f) 30 true := if_pos hb31
  have hx : (s.storeByType true (Reg.FDR_CTL f) (v &&& word fdrCtlRow.known)).rd (Reg.FDR_CTL f) =
      fdrCtlRow.written (s.rd (Reg.FDR_CTL f)) (v &&& word fdrCtlRow.known) := by
    rw [hst]
    split
    · next h => exact h.symm
    · exact State.rd_wr_same ..
  have hk : Keeps s (s.storeByType true (Reg.FDR_CTL f) (v &&& word fdrCtlRow.known)) [Reg.FDR_CTL f] ∧
      (s.storeByType true (Reg.FDR_CTL f) (v &&& word fdrCtlRow.known)).fdr = s.fdr := by
    rw [hst]
    split
    · exact ⟨.refl s _, rfl⟩
    · exact ⟨(Keeps.refl s _).wr _ (by simp), rfl⟩
  rw [ht]
  generalize s.storeByType true (Reg.FDR_CTL f) (v &&& word fdrCtlRow.known) = x at hx hk
  refine ⟨State.bit_setBit _ _ _ _ (by decide), ?_, ?_, hk.2, hk.1.setBit _ _ (by simp)⟩
  · rw [State.bit_setBit_ne _ _ _ _ _ (by decide) (by decide), State.bit, hx]
    exact hw 0 (by decide)
  · have h2 : ∀ i < 32, 24 ≤ i → i ≤ 25 → bitOf (x.rd (Reg.FDR_CTL f)) i = bitOf (s.rd (Reg.FDR_CTL f)) i := by
      intro i hi h1 h2
      rw [hx]
      refine (hw i hi).trans ?_
      interval_cases i <;> rfl
    exact (State.fld_put_disj _ _ _ _ _ _ _ (by decide) (.inl (by decide))).trans (fieldOf_eq_of_bits h2)

section
variable (s : State) (p : Port) (f : Fin 64) (v : Word) (hr : s.runs = true)
include hr

theorem hostWrite_feeder_now (hn : s.actsNow = true) :
    (s.hostWrite p (Reg.FDR_CTL f) v).Counted (s.fdrCtlWrite (Reg.FDR_CTL f) (v &&& word fdrCtlRow.known)) :=
  s.writePair_feeder f _ ▸ State.hostWrite_now_counted s p _ (Reg.FDR_CTL f) v fdrCtlRow (State.fabricUp_runs s hr)
    (State.mapped_runs s _ hr (Or.inr (by revert f; decide))) (by revert f; decide) (by fin_cases f <;> cases p <;> rfl)
    (by fin_cases f <;> rfl) (row_feederSnap f) (by revert f; decide) hn

theorem hostWrite_feeder_standby (hn : s.notActiveInPair = true) : (s.hostWrite p (Reg.FDR_CTL f) v).Counted s :=
  State.hostWrite_standby_counted s p _ (Reg.FDR_CTL f) v fdrCtlRow (State.fabricUp_runs s hr)
    (State.mapped_runs s _ hr (Or.inr (by clear hn; revert f; decide))) (by clear hn; revert f; decide) (by fin_cases f <;> cases p <;> rfl)
    (by fin_cases f <;> rfl) (row_feederSnap f) (by clear hn; revert f; decide) hn (by simp only [Reg.FDR_CTL, Reg.ADC_HTEST]; omega)

end

theorem State.live_runs {s : State} (h : s.live = true) : s.runs = true := by
  rw [State.live, Bool.and_eq_true] at h
  exact h.1

/-- Settles O35: a trip sets the state and the cause before it raises, reports and tells its head, and none of these touches them. -/
theorem feeders : Obligations.Feeders := by
  intro p v f s hl
  refine ⟨fun hp h => ?_, fun hi h => ?_, fun x h3 hx hg => ?_, fun x h3 hx hg => ?_, fun hn => ?_, fun hn => ?_⟩
  · have he : exec (.feederFastTrip f) s = .next (s.tripReflex f (if s.fdrState f == 1 then 2 else 1) false) :=
      if_pos (by rw [hl, decide_eq_true hp]; rfl)
    have hc : (if s.fdrState f == 1 then 2 else 1) = if s.fdrState f = 1 then 2 else 1 := by simp only [beq_iff_eq]
    rw [hc] at he
    exact ⟨_, he, s.tripReflex_shows f.isLt h (by split <;> decide)⟩
  · have he : exec (.feederInrushTimeout f) s = .next (s.tripEdge f 6 false) := if_pos (by rw [hl, h, decide_eq_true hi]; rfl)
    exact ⟨_, he, s.tripEdge_shows f.isLt (.inl h) (by decide)⟩
  · exact exec_feederToggleDone_early f hx hg
  · refine ⟨_, exec_feederToggleDone hl f h3 hx hg, ?_⟩
    have hb : ((s.fd f).follow == 2) = decide ((s.fd f).follow = 2) := rfl
    rw [← hb]
    exact s.toggleDone_shows f.isLt _
  · have hr := State.live_runs hl
    have hc := hostWrite_feeder_now s p f (withBit v 31) hr hn
    obtain ⟨h1, h2, h3, h4, h5⟩ := s.fdrCtlWrite_snap f (withBit v 31) (by rw [bitOf_withBit _ _ _ (by decide), if_pos rfl])
    have hrd := hc.rd (sideReg_fdrCtl f.isLt)
    refine ⟨_, rfl, ?_, ?_, ?_, (hc.same (·.fdr) (fun _ _ => rfl)).trans h4, hc.keeps h5⟩
    · rw [State.bit, hrd]
      exact h1
    · rw [State.bit, hrd]
      refine h2.trans ?_
      rw [bitOf_withBit _ _ _ (by decide), if_neg (by decide)]
    · rw [State.fdrState, State.fld, hrd]
      exact h3
  · have hc := hostWrite_feeder_standby s p f (withBit v 31) (State.live_runs hl) hn
    exact ⟨_, rfl, hc.same (·.fdr) (fun _ _ => rfl), hc.keeps (.refl _ _)⟩

end Sys2Proof.Machine
end

section
/-!
PROOFS. Taking and leaving ACTIVE (O42).
-/

namespace Sys2Proof.Machine

/-! ## The registers of the pair -/

/-- A change of role shows in PAIR_STAT and PAIR_LAST, and counts. -/
def State.Changed (s : State) (role last : Nat) (t : State) : Prop :=
  t.role = role ∧ t.fld Reg.PAIR_LAST 3 0 = last ∧ t.rd Reg.PAIR_LASTGFC = s.time.gfc ∧
    t.fld Reg.PAIR_SWAPCNT 15 0 = min (s.fld Reg.PAIR_SWAPCNT 15 0 + 1) 0xFFFF

section
variable (s : State)

theorem State.roleChange_shows {role last : Nat} (hr : role < 4) : s.Changed role (last % 16) (s.roleChange role last) := by
  unfold State.roleChange
  extract_lets x
  have hx : x.fld Reg.PAIR_SWAPCNT 15 0 = min (s.fld Reg.PAIR_SWAPCNT 15 0 + 1) 0xFFFF ∧ x.role = role := by
    constructor
    · have h : (s.put Reg.PAIR_STAT 29 28 role).fld Reg.PAIR_SWAPCNT 15 0 = s.fld Reg.PAIR_SWAPCNT 15 0 := by
        rw [State.fld, State.rd_put_ne _ _ _ _ _ _ (by decide), ← State.fld]
      exact (State.fld_bump _ _ _ _ _ (by decide)).trans (by rw [h]; rfl)
    · refine (congrArg (fun w => fieldOf w 29 28) (State.rd_bump_ne _ _ _ _ _ _ (by decide))).trans ?_
      exact (State.fld_put _ _ _ _ _ (by decide)).trans (Nat.mod_eq_of_lt hr)
  have hrd (a : Nat) (h1 : Reg.PAIR_LAST ≠ a) (h2 : Reg.PAIR_LASTGFC ≠ a) :
      ((x.put Reg.PAIR_LAST 3 0 last).wr Reg.PAIR_LASTGFC s.time.gfc).rd a = x.rd a :=
    (State.rd_wr_ne _ _ _ _ h2).trans (State.rd_put_ne _ _ _ _ _ _ h1)
  refine ⟨?_, ?_, State.rd_wr_same .., ?_⟩
  · rw [State.role, State.fld]
    exact (congrArg (fun w => fieldOf w 29 28) (hrd _ (by decide) (by decide))).trans hx.2
  · rw [State.fld, State.rd_wr_ne _ _ _ _ (by decide)]
    exact State.fld_put _ _ _ _ _ (by decide)
  · rw [State.fld]
    exact (congrArg (fun w => fieldOf w 15 0) (hrd _ (by decide) (by decide))).trans hx.1

/-- The registers that show a change of role. -/
def changeReg (a i : Nat) : Prop := (a = Reg.PAIR_STAT ∧ 28 ≤ i) ∨ a = Reg.PAIR_LAST ∨ a = Reg.PAIR_LASTGFC ∨ a = Reg.PAIR_SWAPCNT

variable {s} in
/-- What changes none of its bits leaves a change of role as it shows. -/
theorem State.Changed.frame {x t : State} {role last : Nat} {R : Nat → Nat → Prop} {E : Nat → Prop} (h : s.Changed role last x)
    (hf : State.Frame R E x t)
    (hR : ∀ a i, changeReg a i → ¬ R a i) : s.Changed role last t := by
  obtain ⟨h1, h2, h3, h4⟩ := h
  refine ⟨?_, ?_, ?_, ?_⟩
  · exact (hf.field (fun i _ hi _ => hR _ _ (.inl ⟨rfl, hi⟩)) (by decide)).trans h1
  · exact (hf.field (fun i _ _ _ => hR _ _ (.inr (.inl rfl))) (by decide)).trans h2
  · exact (hf.rd (fun i _ => hR _ _ (.inr (.inr (.inl rfl)))) (by decide)).trans h3
  · exact (hf.field (fun i _ _ _ => hR _ _ (.inr (.inr (.inr rfl)))) (by decide)).trans h4

/-! ## Taking ACTIVE -/

/-- What taking ACTIVE changes beside the registers of the role. -/
def takenReg (a i : Nat) : Prop :=
  a = Reg.TIM_WALLSTAT ∨ (a = Reg.PAIR_STAT ∧ i = 25) ∨ a = Reg.SYS_TOKSTAT ∨ a = Reg.INJ_STAT ∨ a = Reg.PAIR_SYNC ∨ a = Reg.PAIR_CLAIM

theorem not_takenReg {a i : Nat} (h : changeReg a i) : ¬ takenReg a i := by
  simp only [changeReg, takenReg, Reg.PAIR_STAT, Reg.PAIR_LAST, Reg.PAIR_LASTGFC, Reg.PAIR_SWAPCNT, Reg.TIM_WALLSTAT, Reg.SYS_TOKSTAT,
    Reg.INJ_STAT, Reg.PAIR_SYNC, Reg.PAIR_CLAIM] at h ⊢
  omega

/-- The new phase of state sync shows, with the claim number of the new role. -/
def State.toPhase (p : Nat) : State := (s.setSync p).claimUpdate

theorem State.frame_toPhase {E : Nat → Prop} (p : Nat) : State.Frame takenReg E s (s.toPhase p) :=
  (((State.Frame.refl s).put _ _ _ _ fun _ _ _ _ => .inr (.inr (.inr (.inr (.inl rfl))))).put Reg.PAIR_CLAIM 15 0 (s.setSync p).claimNow
    (fun _ _ _ _ => .inr (.inr (.inr (.inr (.inr rfl)))))).trans (.of rfl)

theorem State.toPhase_syncPhase {p : Nat} (hp : p < 8) : (s.toPhase p).syncPhase = p := by
  refine Eq.trans ?_ ((State.fld_put s Reg.PAIR_SYNC 2 0 p (by decide)).trans (Nat.mod_eq_of_lt hp))
  exact congrArg (fun w => fieldOf w 2 0) (State.rd_put_ne (s.setSync p) Reg.PAIR_CLAIM Reg.PAIR_SYNC 15 0 _ (by decide))

theorem State.becomeActive_shows (last : Nat) : s.Changed 2 (last % 16) (s.becomeActive last) ∧
    State.Frame takenReg (fun _ => False) (s.roleChange 2 last) (s.becomeActive last) ∧ (s.becomeActive last).pair.load = false := by
  have h : State.Frame takenReg (fun _ => False) (s.roleChange 2 last) (s.becomeActive last) :=
    (((State.Frame.refl _).setBit Reg.TIM_WALLSTAT 4 false (.inl rfl)).setBit Reg.PAIR_STAT 25 true (.inr (.inl ⟨rfl, rfl⟩))).trans (.of rfl)
  exact ⟨(s.roleChange_shows (by decide)).frame h fun _ _ => not_takenReg, h, rfl⟩

/-- The state that has taken ACTIVE, before its event. -/
def State.takenOver (f : Nat) : State :=
  let s := s.becomeActive 1
  let s := if f != 4 && s.tokHeld && !s.tokMine then s.tokFree else s
  s.toPhase 0

theorem State.tokFree_pair : s.tokFree.pair = s.pair := by
  unfold State.tokFree
  extract_lets x
  exact (apply_ite State.pair _ _ _).trans (ite_self _)

theorem State.takenOver_shows (f : Nat) : s.Changed 2 1 (s.takenOver f) ∧
    State.Frame takenReg (fun _ => False) (s.roleChange 2 1) (s.takenOver f) ∧ (s.takenOver f).pair.load = false ∧
    (s.takenOver f).syncPhase = 0 := by
  obtain ⟨hc, hf, hl⟩ := s.becomeActive_shows 1
  unfold State.takenOver
  extract_lets x y
  have hy : State.Frame takenReg (fun _ => False) x y :=
    .ite (x.frame_tokFree (fun _ => .inr (.inr (.inr (.inl rfl)))) (fun _ => .inr (.inr (.inl rfl)))) (.refl x)
  have hp : y.pair = x.pair := ((apply_ite State.pair _ _ _).trans (congrArg (ite _ · _) x.tokFree_pair)).trans (ite_self _)
  have h := hy.trans (y.frame_toPhase 0)
  refine ⟨hc.frame h fun _ _ => not_takenReg, hf.trans h, ?_, y.toPhase_syncPhase (by decide)⟩
  exact (congrArg PairSt.load hp).trans hl

variable {s} in
/-- An event after a state that has changed its role leaves the change as it shows. -/
theorem State.Changed.raise {x : State} {role last : Nat} (h : s.Changed role last x) (e : Ev) (he : e.src < 256) : s.Changed role last (x.raise e) :=
  h.frame (R := fun _ _ => False) (E := (· = e.src)) ((State.Frame.refl x).raise e he (.inl rfl)) fun _ _ _ => id

theorem State.syncPhase_raise (src k i : Nat) (he : src < 256) : (s.raise ⟨src, k, i⟩).syncPhase = s.syncPhase := by
  rw [State.syncPhase, State.fld, State.rd_raise _ _ _ _ _ he (by decide) (by decide), ← State.fld, ← State.syncPhase]

theorem State.takenOver_raise (f k : Nat) : s.Changed 2 1 ((s.takenOver f).raise ⟨48, k, 0⟩) ∧
    ((s.takenOver f).raise ⟨48, k, 0⟩).syncPhase = 0 ∧ ((s.takenOver f).raise ⟨48, k, 0⟩).pair.load = false ∧
    Raised s ((s.takenOver f).raise ⟨48, k, 0⟩) ⟨48, k, 0⟩ ∧ ∀ a, ((s.takenOver f).raise ⟨48, k, 0⟩).mem8 a = s.mem8 a := by
  obtain ⟨h1, h2, h3, h4⟩ := s.takenOver_shows f
  refine ⟨h1.raise _ (by decide : 48 < 256), ?_, ?_,
    h2.raisedAfter (v := s.takenOver f) ⟨48, k, 0⟩ rfl id (by decide : 48 ≠ 1) (by decide : 48 ≠ 35), fun a => ?_⟩
  · rw [State.syncPhase_raise _ _ _ _ (by decide), h4]
  · rw [State.raise_pair, h3]
  · exact congrArg (cellsGet memDefault · a) ((State.raise_mem _ _).trans h2.mem)

theorem State.exec_takeover (f : Nat) (hf : s.pair.finding = some f) (h9 : f ≠ 9) (hr : s.runs = true) (hs : s.role = 1) :
    exec .takeover s = .next ((s.takenOver f).raise
      (if s.syncPhase == 4 && !s.bit Reg.PAIR_STAT 26 then E.TAKEOVER 0 else E.TAKEOVER_UNSYNCED 0)) := by
  change execTakeover s = _
  unfold execTakeover
  rw [hf]
  exact if_neg (by simp [hr, hs, h9])

theorem State.exec_takeover_none (hf : s.pair.finding = none) : exec .takeover s = .next s := by
  change execTakeover s = _
  unfold execTakeover
  rw [hf]

theorem State.takeover_completes (f : Nat) (hf : s.pair.finding = some f) (h9 : f ≠ 9) (hr : s.runs = true) (hs : s.role = 1) :
    Completes .takeover s (fun t => s.Changed 2 1 t ∧ t.syncPhase = 0 ∧ t.pair.load = false ∧
      (s.syncPhase = 4 → s.bit Reg.PAIR_STAT 26 = false → Raised s t (E.TAKEOVER 0)) ∧
      (s.syncPhase ≠ 4 ∨ s.bit Reg.PAIR_STAT 26 = true → Raised s t (E.TAKEOVER_UNSYNCED 0)) ∧ ∀ a, t.mem8 a = s.mem8 a) := by
  refine ⟨_, s.exec_takeover f hf h9 hr hs, ?_⟩
  by_cases hg : s.syncPhase = 4 ∧ s.bit Reg.PAIR_STAT 26 = false
  · obtain ⟨h4, h26⟩ := hg
    rw [if_pos (by rw [h4, h26]; rfl)]
    obtain ⟨h1, h2, h3, hr, hm⟩ := s.takenOver_raise f 0
    exact ⟨h1, h2, h3, fun _ _ => hr, fun h => absurd (h.resolve_left (not_not_intro h4)) (by rw [h26]; exact Bool.false_ne_true), hm⟩
  · rw [if_neg (by simpa using hg)]
    obtain ⟨h1, h2, h3, hr, hm⟩ := s.takenOver_raise f 1
    exact ⟨h1, h2, h3, fun h4 h26 => absurd ⟨h4, h26⟩ hg, fun _ => hr, hm⟩

/-! ## Leaving ACTIVE -/

/-- The state of a unit whose heads obey the partner, before its event. -/
def State.leftActive : State := (s.becomeStandby 7).toPhase 1

theorem State.leftActive_shows : s.Changed 1 7 s.leftActive ∧ State.Frame takenReg (fun _ => False) (s.roleChange 1 7) s.leftActive ∧
    s.leftActive.syncPhase = 1 ∧ s.leftActive.unit.claimOut = false := by
  have h1 : State.Frame takenReg (fun _ => False) (s.roleChange 1 7) (s.becomeStandby 7) := .of rfl
  have h := h1.trans ((s.becomeStandby 7).frame_toPhase 1)
  refine ⟨(s.roleChange_shows (by decide)).frame h fun _ _ => not_takenReg, h, State.toPhase_syncPhase _ (by decide), ?_⟩
  have hc : ∀ x : State, x.role = 1 → x.claimNow < 32768 := fun x hx => by
    have h2 : x.fld Reg.PAIR_HEALTH 2 0 < 8 := fieldOf_lt ..
    have h3 : x.pair.epoch % 256 < 256 := Nat.mod_lt _ (by decide)
    unfold State.claimNow
    rw [hx]
    split
    · decide
    · rw [if_neg (by decide)]
      split <;> omega
  have hr : ((s.becomeStandby 7).setSync 1).role = 1 := by
    refine Eq.trans ?_ (s.roleChange_shows (role := 1) (last := 7) (by decide)).1
    exact congrArg (fun w => fieldOf w 29 28) (State.rd_put_ne _ _ _ _ _ _ (by decide))
  exact decide_eq_false (by have := hc _ hr; omega)

theorem State.exec_dualActive (hr : s.runs = true) (hp : s.unit.pairMode = true) (h2 : s.role = 2)
    (hl : ((List.range 16).filter (fun n => s.linkUp n)).length <
      2 * (((List.range 16).filter (fun n => s.linkUp n)).filter (fun n => decide (2 ≤ vget s.pair.obeyPart n 0))).length) :
    exec .dualActive s = .next (s.leftActive.raise (E.DUAL_ACTIVE 0)) :=
  if_pos (by rw [hr, hp, h2, decide_eq_true hl]; rfl)

/-! ## The finding that is noted -/

/-- The finding held, or the one that now holds. -/
def State.Noted (s t : State) : Prop := t.pair.found = (s.pair.found <|> t.takeFinding)

theorem State.noteFinding_noted : s.Noted s.noteFinding := by
  have h : ∀ f, (s.onPair fun p => { p with found := f }).takeFinding = s.takeFinding := fun _ => rfl
  unfold State.Noted State.noteFinding
  cases hf : s.pair.found with
  | some f => rw [hf]; rfl
  | none =>
    cases ht : s.takeFinding with
    | none => rw [hf, ht]; rfl
    | some f => rw [h, ht]; rfl

theorem State.noteFinding_parts : s.noteFinding.reg = s.reg ∧ s.noteFinding.shadow = s.shadow ∧ s.noteFinding.mem = s.mem ∧
    s.noteFinding.pair.claimOk = s.pair.claimOk := by
  unfold State.noteFinding
  split <;> exact ⟨rfl, rfl, rfl, rfl⟩

/-- The levels of CLAIM_IN and of the claim show. -/
def State.claimLevel (level : Bool) : State :=
  let s := s.setBit Reg.PAIR_STAT 23 level
  let s := s.setBit Reg.PAIR_STAT 24 (level || s.tdmUp)
  if level then s.onPair (fun p => { p with claimOk := false }) else s

theorem State.claimLevel_shows (level : Bool) : (s.claimLevel level).claimIn = level ∧
    (s.claimLevel level).bit Reg.PAIR_STAT 24 = (level || s.tdmUp) ∧ (s.claimLevel level).pair.found = s.pair.found ∧
    Keeps s (s.claimLevel level) [Reg.PAIR_STAT] := by
  have hu : (s.setBit Reg.PAIR_STAT 23 level).tdmUp = s.tdmUp := by
    rw [State.tdmUp, State.fld, State.rd_setBit_ne _ _ _ _ _ (by decide), ← State.fld, ← State.tdmUp]
  have hs : ∀ b, Keeps s ((s.setBit Reg.PAIR_STAT 23 level).setBit Reg.PAIR_STAT 24 b) [Reg.PAIR_STAT] := fun b =>
    ((Keeps.refl s [Reg.PAIR_STAT]).setBit (k := Reg.PAIR_STAT) 23 level (by simp)).setBit (k := Reg.PAIR_STAT) 24 b (by simp)
  have h23 : ∀ b, ((s.setBit Reg.PAIR_STAT 23 level).setBit Reg.PAIR_STAT 24 b).claimIn = level := fun b =>
    (State.bit_setBit_ne _ _ _ _ _ (by decide) (by decide)).trans (State.bit_setBit _ _ _ _ (by decide))
  have h24 : ∀ b, ((s.setBit Reg.PAIR_STAT 23 level).setBit Reg.PAIR_STAT 24 b).bit Reg.PAIR_STAT 24 = b := fun b =>
    State.bit_setBit _ _ _ _ (by decide)
  rw [← hu]
  unfold State.claimLevel
  extract_lets x y
  have hy : y = (s.setBit Reg.PAIR_STAT 23 level).setBit Reg.PAIR_STAT 24 (level || x.tdmUp) := rfl
  have hx : x = s.setBit Reg.PAIR_STAT 23 level := rfl
  generalize hz : (if level = true then y.onPair (fun p => { p with claimOk := false }) else y) = z
  have hreg : z.reg = y.reg ∧ z.pair.found = y.pair.found ∧ z.shadow = y.shadow ∧ z.mem = y.mem := by
    rw [← hz]
    split <;> exact ⟨rfl, rfl, rfl, rfl⟩
  obtain ⟨h1, h2, h3, h4⟩ := hreg
  have hrd : ∀ a, z.rd a = y.rd a := fun a => congrArg (cellsGet regReset · a) h1
  clear_value y
  subst hy
  refine ⟨?_, ?_, h2, (hs _).trans (.of (fun a _ _ => hrd a) h3 h4)⟩
  · rw [State.claimIn, State.bit, hrd, ← State.bit, ← State.claimIn, h23]
  · rw [State.bit, hrd, ← State.bit, h24, hx]

/-- The claim wire is reported where it has gone off. -/
def State.claimWired (was : Bool) : State := if s.awake && s.claimWire && !was then s.raise (E.CLAIM_WIRE 0) else s

theorem State.exec_claimInChange (level : Bool) :
    exec (.claimInChange level) s = .next ((s.claimLevel level).claimWired s.claimWire).noteFinding := rfl

theorem State.claimInChange_completes (level : Bool) : Completes (.claimInChange level) s (fun t => t.claimIn = level ∧
    t.bit Reg.PAIR_STAT 24 = (level || s.tdmUp) ∧ s.Noted t ∧ Keeps s t [Reg.PAIR_STAT]) := by
  obtain ⟨h1, h2, h3, h4⟩ := s.claimLevel_shows level
  refine ⟨_, s.exec_claimInChange level, ?_⟩
  generalize hz : (s.claimLevel level).claimWired s.claimWire = z
  have hr : z.rd Reg.PAIR_STAT = (s.claimLevel level).rd Reg.PAIR_STAT ∧ z.pair = (s.claimLevel level).pair ∧ Keeps s z [Reg.PAIR_STAT] := by
    rw [← hz, State.claimWired]
    split
    · exact ⟨State.rd_raise _ _ _ _ _ (by decide) (by decide) (by decide), State.raise_pair _ _, h4.raise (by decide)⟩
    · exact ⟨rfl, rfl, h4⟩
  obtain ⟨hrd, hp, hk⟩ := hr
  obtain ⟨n1, n2, n3, n4⟩ := z.noteFinding_parts
  have hb : ∀ i, z.noteFinding.bit Reg.PAIR_STAT i = (s.claimLevel level).bit Reg.PAIR_STAT i := fun i => by
    rw [State.bit, State.rd, n1, ← State.rd, hrd, ← State.bit]
  refine ⟨(hb 23).trans h1, (hb 24).trans h2, ?_, hk.trans (.of (fun a _ _ => congrArg (fun r => cellsGet regReset r a) n1) n2 n3)⟩
  rw [State.Noted, z.noteFinding_noted, hp, h3]

theorem State.claimInWait_completes (hr : s.runs = true) (hp : s.unit.pairMode = true) (hb : s.unit.unitB = true) (hu : s.tdmUp = false)
    (hc : s.claimIn = false) : Completes .claimInWaitExpiry s (fun t => t.pair.claimOk = true ∧ s.Noted t ∧ Keeps s t []) := by
  refine ⟨_, if_pos (by rw [hr, hp, hb, hu, hc]; rfl), ?_⟩
  obtain ⟨n1, n2, n3, n4⟩ := (s.onPair fun p => { p with claimOk := true }).noteFinding_parts
  exact ⟨n4, State.noteFinding_noted _, .of (fun a _ _ => congrArg (fun r => cellsGet regReset r a) n1) n2 n3⟩

end

/-- Settles O42: a change of role shows in four registers, which nothing else of the two commands writes; the finding is noted after the levels. -/
theorem takeoverAndDualActive : Obligations.TakeoverAndDualActive := by
  unfold Obligations.TakeoverAndDualActive
  intro level s
  refine ⟨fun f hf h9 hr hs => s.takeover_completes f hf h9 hr hs, s.exec_takeover_none, fun hr hp h2 hl => ?_, s.claimInChange_completes level,
    fun hr hp hb hu hc => s.claimInWait_completes hr hp hb hu hc⟩
  obtain ⟨h1, hf, hsync, hout⟩ := s.leftActive_shows
  refine ⟨_, s.exec_dualActive hr hp h2 hl, h1.raise _ (by decide), ?_, ?_,
    hf.raisedAfter (v := s.leftActive) (E.DUAL_ACTIVE 0) rfl id (by decide) (by decide), fun a => ?_⟩
  · rw [State.syncPhase_raise _ _ _ _ (by decide), hsync]
  · rw [State.raise_unit, hout]
  · exact congrArg (cellsGet memDefault · a) ((State.raise_mem _ _).trans hf.mem)

end Sys2Proof.Machine
end

section
/-!
PROOFS. The state sync of the standby (O43).
-/

namespace Sys2Proof.Machine

/-- A fold of steps each of which leaves a part of the state leaves it. -/
theorem foldl_part {α β : Type} (part : State → β) (f : State → α → State) (hf : ∀ s x, part (f s x) = part s) (l : List α) (s : State) :
    part (l.foldl f s) = part s := by
  induction l generalizing s with
  | nil => rfl
  | cons a l ih => exact (ih _).trans (hf s a)

theorem ite_part {β : Type} (part : State → β) {c : Prop} [Decidable c] {x y : State} {b : β} (hx : part x = b) (hy : part y = b) :
    part (if c then x else y) = b := by
  split
  · exact hx
  · exact hy

/-! ## What a change of an active set leaves -/

/-- `t` is `s` but for registers, pulses of events, phases, links, local channels and stages. -/
def State.Shaped (s t : State) : Prop := t = { s with reg := t.reg, evq := t.evq, phs := t.phs, links := t.links, loc := t.loc, stg := t.stg }

namespace State.Shaped

variable {s t u : State}

theorem refl (s : State) : s.Shaped s := rfl

theorem trans (h : s.Shaped t) (g : t.Shaped u) : s.Shaped u := by
  unfold State.Shaped at h g ⊢
  rw [h] at g
  exact g

theorem foldl {α : Type} (f : State → α → State) (hf : ∀ (s : State) x, s.Shaped (f s x)) (l : List α) (s : State) : s.Shaped (l.foldl f s) := by
  induction l generalizing s with
  | nil => exact .refl s
  | cons a l ih => exact (hf s a).trans (ih _)

theorem ite {p : Prop} [Decidable p] (ht : s.Shaped t) (hu : s.Shaped u) : s.Shaped (if p then t else u) := by
  split
  · exact ht
  · exact hu

theorem put (h : s.Shaped t) (a hi lo v : Nat) : s.Shaped (t.put a hi lo v) := h.trans rfl
theorem setBit (h : s.Shaped t) (a i : Nat) (b : Bool) : s.Shaped (t.setBit a i b) := h.trans rfl
theorem onSg (h : s.Shaped t) (k : Nat) (f : StgSt → StgSt) : s.Shaped (t.onSg k f) := h.trans rfl
theorem onPh (h : s.Shaped t) (k : Nat) (f : PhSt → PhSt) : s.Shaped (t.onPh k f) := h.trans rfl
theorem onLc (h : s.Shaped t) (k : Nat) (f : LocSt → LocSt) : s.Shaped (t.onLc k f) := h.trans rfl

theorem edged (h : s.Edged t) : s.Shaped t := by
  unfold State.Edged at h
  rw [h]
  rfl

theorem pulse (h : s.Shaped t) (p : EvPulse) : s.Shaped (t.pulse p) := h.trans (.ite rfl rfl)

theorem raise (h : s.Shaped t) (e : Ev) : s.Shaped (t.raise e) := h.trans (.ite (.pulse (.refl t) _) (.pulse (.pulse (.refl t) _) _))

theorem pair (h : s.Shaped t) : t.pair = s.pair := by
  rw [h]

end State.Shaped

section
variable (s : State)

theorem State.shaped_respaceStep (k start : Nat) : s.Shaped (s.respaceStep k start) := by
  unfold State.respaceStep
  extract_lets g m done s1 s2
  refine .ite ?_ (.refl s)
  have h1 : s.Shaped s1 := .foldl _ (fun (s : State) i => ((State.Shaped.refl s).put ..).put ..) _ s
  have h2 : s.Shaped s2 := h1.onSg k _
  exact .ite ((h2.put ..).raise _) h2

theorem State.shaped_formPeriod (k start len : Nat) : s.Shaped (s.formPeriod k start len) := by
  unfold State.formPeriod
  extract_lets s1 s2
  have h1 : s.Shaped s1 := .ite (.refl s) (s.shaped_respaceStep ..)
  have h2 : s1.Shaped s2 := .foldl _ (fun (s : State) i => (State.Shaped.refl s).onPh ..) _ s1
  exact .onSg ((h1.trans h2).trans (.edged (s2.edged_placePeriod ..))) k _

theorem State.shaped_formNext (k : Nat) : s.Shaped (s.formNext k) :=
  .trans (.onSg (.refl s) k _) (State.shaped_formPeriod ..)

theorem State.shaped_reform (k : Nat) (relen : Bool) : s.Shaped (s.reform k relen) := by
  unfold State.reform
  extract_lets g redo kept rm
  cases redo with
  | nil => exact .refl s
  | cons f l =>
    refine State.Shaped.trans ?_ (.foldl _ (fun (s : State) p => .ite (s.shaped_formNext k) (s.shaped_formPeriod ..)) _ _)
    refine .trans (.onSg (.refl s) k _) (.ite ?_ (.refl _))
    exact .trans (.onSg (.refl _) k _) (.foldl _ (fun (s : State) i => (State.Shaped.refl s).put ..) _ _)

theorem State.shaped_countPhases (k : Nat) : s.Shaped (s.countPhases k) := rfl

theorem State.shaped_setActiveFrom (k : Nat) (fresh force : Bool) : s.Shaped (s.setActiveFrom k fresh force) := by
  unfold State.setActiveFrom
  extract_lets want had s1 s2 s3 s4 s5
  have h1 : s.Shaped s1 := .foldl _ (fun (s : State) i => .ite ((State.Shaped.refl s).put ..) (.refl s)) _ s
  have h2 : s1.Shaped s2 := .foldl _ (fun (s : State) i => .ite (.refl s) (.setBit (.edged (s.edged_dropPulses i)) ..)) _ s1
  have h3 : s2.Shaped s3 := by
    refine .foldl _ (fun (s : State) x => ?_) _ s2
    extract_lets t a u
    exact .ite (((State.Shaped.onPh (.refl s) ..).put ..).setBit ..) ((State.Shaped.onPh (.refl s) ..).put ..)
  have h4 : s2.Shaped s4 := (h3.onSg k _).setBit ..
  have h5 : s2.Shaped s5 := .ite (.refl s2) (.ite (h3.setBit ..) (h4.trans (s4.shaped_reform ..)))
  exact ((h1.trans h2).trans h5).trans (s5.shaped_countPhases k)

theorem State.shaped_assignLocal (n : Nat) : s.Shaped (s.assignLocal n) := by
  have hr : s.Shaped (s.releaseLocal n) := .ite (.refl s) ((State.Shaped.refl s).setBit ..)
  unfold State.assignLocal
  extract_lets i was x
  refine .ite (.refl s) ?_
  cases i with
  | some i => exact (((hr.setBit ..).put ..).put ..).onLc ..
  | none => exact ((hr.setBit ..).put ..).onLc ..

theorem State.shaped_phaseCommitted (old : State) : s.Shaped (s.phaseCommitted old) := by
  unfold State.phaseCommitted
  extract_lets x
  have h : s.Shaped x := .foldl _ (fun (s : State) n => s.shaped_assignLocal n) _ s
  exact h.trans (.foldl _ (fun (s : State) k => .ite (s.shaped_setActiveFrom ..) (s.shaped_countPhases k)) _ x)

/-! ## The image of CONFIG -/

/-- What a MET commit changes of the measurement state is not the pair's. -/
theorem State.metCommitted_pair (old : State) : (s.metCommitted old).pair = s.pair := by
  unfold State.metCommitted
  extract_lets x rate m y
  have hx : x.pair = s.pair := by
    refine foldl_part State.pair _ (fun (s : State) a => ?_) _ s
    extract_lets w o z
    have hz : z.pair = s.pair := (apply_ite State.pair _ _ _).trans (ite_self _)
    exact (apply_ite State.pair _ _ _).trans ((ite_self (c := _) z.pair).trans hz)
  have hy : y.pair = x.pair := by
    clear_value x
    exact (apply_ite State.pair _ _ _).trans (ite_self _)
  refine Eq.trans (foldl_part State.pair _ (fun (s : State) c => ?_) _ y) (hy.trans hx)
  exact (apply_ite State.pair _ _ _).trans (ite_self _)

theorem State.schedApplied_pair : s.schedApplied.pair = s.pair := by
  unfold State.schedApplied
  rw [State.wr_pair, State.put_pair]

/-- What follows an image that has been applied leaves the state of the pair. -/
theorem State.committed_pair (old : State) : ((s.schedApplied.phaseCommitted old).metCommitted old).pair = s.pair :=
  (State.metCommitted_pair _ _).trans ((s.schedApplied.shaped_phaseCommitted old).pair.trans s.schedApplied_pair)

theorem State.applyImage_pair (x : SyncImage) : (s.applyImage x).pair.image = none ∧ (s.applyImage x).pair.epoch = x.commits := by
  unfold State.applyImage
  extract_lets old s1 s2 s3 s4 s5
  have h5 : s5.pair = { s4.pair with image := none, epoch := x.commits } := rfl
  clear_value s5
  rw [State.committed_pair, h5]
  exact ⟨rfl, rfl⟩

/-! ## The groups of STATE -/

/-- A fold of writes, each of which sets its own cell and no other: where the keys differ, every cell written holds its value. -/
theorem foldl_writes {β : Type} (read : State → Nat → β) (write : State → Nat × β → State) (hs : ∀ s x, read (write s x) x.1 = x.2)
    (hn : ∀ s x a, x.1 ≠ a → read (write s x) a = read s a) (l : List (Nat × β)) (s : State) :
    (∀ a, a ∉ l.map (·.1) → read (l.foldl write s) a = read s a) ∧
      ((l.map (·.1)).Nodup → ∀ x ∈ l, read (l.foldl write s) x.1 = x.2) := by
  induction l generalizing s with
  | nil => exact ⟨fun _ _ => rfl, fun _ _ h => absurd h (List.not_mem_nil)⟩
  | cons y l ih =>
    obtain ⟨h1, h2⟩ := ih (write s y)
    refine ⟨fun a ha => ?_, fun hd x hx => ?_⟩
    · rw [List.map_cons, List.mem_cons, not_or] at ha
      exact (h1 a ha.2).trans (hn s y a (Ne.symm ha.1))
    · obtain ⟨hy, hl⟩ := List.nodup_cons.mp (List.map_cons ▸ hd)
      rcases List.mem_cons.mp hx with rfl | hx
      · exact (h1 _ hy).trans (hs s x)
      · exact h2 hl x hx

/-- The items of a group that are neither registers nor bytes. -/
def State.groupState (s : State) (g : SyncGroup) : State :=
  let s := { s with meas := { s.meas with wmUp := g.monitors.foldl (fun v m => vset v m.1 m.2) s.meas.wmUp } }
  let s := g.feeders.foldl (fun s x => s.onFd x.1 (fun d => d.copied x.2)) s
  let s := g.stages.foldl (fun s x => s.onSg x.1 (fun d => d.copied x.2)) s
  let s := g.phases.foldl (fun s x => s.onPh x.1 (fun d => d.copied x.2)) s
  let s := g.strings.foldl (fun s x => s.onStr x.1 (fun d => d.copied x.2)) s
  match g.shelf with
  | some x => { s with shf := s.shf.copied x }
  | none => s

/-- The registers and the bytes of a state. -/
def State.twoBanks (s : State) : Cells 32 × Cells 8 := (s.reg, s.mem)

theorem State.groupState_cells (g : SyncGroup) : (s.groupState g).twoBanks = s.twoBanks := by
  unfold State.groupState
  extract_lets m s1 s2 s3 s4 s5
  have h2 : s2.twoBanks = s1.twoBanks := foldl_part _ _ (by exact fun _ _ => rfl) _ s1
  have h3 : s3.twoBanks = s2.twoBanks := foldl_part _ _ (by exact fun _ _ => rfl) _ s2
  have h4 : s4.twoBanks = s3.twoBanks := foldl_part _ _ (by exact fun _ _ => rfl) _ s3
  have h5 : s5.twoBanks = s4.twoBanks := foldl_part _ _ (by exact fun _ _ => rfl) _ s4
  have h : s5.twoBanks = s.twoBanks := h5.trans (h4.trans (h3.trans (h2.trans rfl)))
  split <;> exact h

/-- The registers and bytes of a group, before its other items. -/
def State.groupCells (s : State) (g : SyncGroup) : State :=
  g.mem.foldl (fun s m => s.setMem8 m.1 m.2) (g.regs.foldl (fun s r => s.wr r.1 r.2) s)

theorem State.groupCopy_eq (g : SyncGroup) : s.groupCopy g = (s.groupCells g).groupState g := rfl

theorem State.groupCopy_shows (g : SyncGroup) :
    (∀ a, a ∉ g.regs.map (·.1) → (s.groupCopy g).rd a = s.rd a) ∧ ((g.regs.map (·.1)).Nodup → ∀ x ∈ g.regs, (s.groupCopy g).rd x.1 = x.2) ∧
      (∀ a, a ∉ g.mem.map (·.1) → (s.groupCopy g).mem8 a = s.mem8 a) ∧
      ((g.mem.map (·.1)).Nodup → ∀ x ∈ g.mem, (s.groupCopy g).mem8 x.1 = x.2) := by
  have hreg : (s.groupCopy g).reg = (g.regs.foldl (fun s r => s.wr r.1 r.2) s).reg := by
    rw [State.groupCopy_eq]
    refine (congrArg Prod.fst (State.groupState_cells (s.groupCells g) g)).trans ?_
    exact foldl_part State.reg _ (by exact fun _ _ => rfl) _ _
  have hmem : (g.regs.foldl (fun s r => s.wr r.1 r.2) s).mem = s.mem := foldl_part State.mem _ (by exact fun _ _ => rfl) _ _
  obtain ⟨r1, r2⟩ := foldl_writes State.rd (fun s r => s.wr r.1 r.2) (fun s x => State.rd_wr_same ..)
    (fun s x a h => State.rd_wr_ne _ _ _ _ h) g.regs s
  obtain ⟨m1, m2⟩ := foldl_writes State.mem8 (fun s r => s.setMem8 r.1 r.2) (fun s x => cellsGet_set_same ..)
    (fun s x a h => cellsGet_set_ne _ _ _ _ h) g.mem (g.regs.foldl (fun s r => s.wr r.1 r.2) s)
  have hr : ∀ a, (s.groupCopy g).rd a = (g.regs.foldl (fun s r => s.wr r.1 r.2) s).rd a := fun a => congrArg (cellsGet regReset · a) hreg
  have hm : ∀ a, (s.groupCopy g).mem8 a = (s.groupCells g).mem8 a := fun a =>
    congrArg (cellsGet memDefault · a) (congrArg Prod.snd (State.groupState_cells (s.groupCells g) g))
  refine ⟨fun a ha => (hr a).trans (r1 a ha), fun hd x hx => (hr _).trans (r2 hd x hx), fun a ha => ?_, fun hd x hx => (hm _).trans (m2 hd x hx)⟩
  exact ((hm a).trans (m1 a ha)).trans (congrArg (cellsGet memDefault · a) hmem)

theorem State.fld_put_kept (a b hi lo v hi' lo' : Nat) (h : a ≠ b) : (s.put a hi lo v).fld b hi' lo' = s.fld b hi' lo' := by
  rw [State.fld, State.rd_put_ne _ _ _ _ _ _ h, ← State.fld]

theorem State.setSync_syncPhase {p : Nat} (hp : p < 8) : (s.setSync p).syncPhase = p :=
  (State.fld_put s Reg.PAIR_SYNC 2 0 p (by decide)).trans (Nat.mod_eq_of_lt hp)

theorem State.keeps_claimUpdate {w : List Nat} (hw : Reg.PAIR_CLAIM ∈ w) {x : State} (h : Keeps s x w) : Keeps s x.claimUpdate w :=
  (h.put (k := Reg.PAIR_CLAIM) 15 0 x.claimNow hw).trans (.of (fun _ _ _ => rfl) rfl rfl)

theorem State.claimUpdate_syncPhase : s.claimUpdate.syncPhase = s.syncPhase := s.fld_put_kept Reg.PAIR_CLAIM Reg.PAIR_SYNC 15 0 _ 2 0 (by decide)

section
variable (hl : s.live = true) (hp : s.unit.pairMode = true) (hr : s.role = 1) (hu : s.tdmUp = true)
include hl hp hr hu

theorem State.exec_syncMatch {p : PartnerStat} (h1 : s.syncPhase = 1) (hq : s.pair.partner = some p)
    (hs : (decide (p.tackId = s.rd Reg.BOOT_TKID) && decide (p.tackVer = s.rd Reg.BOOT_TKVER) &&
      decide (p.stepping = s.fld Reg.SYS_ID 7 0)) = true) :
    exec .syncPhaseDone s = .next (((s.onPair (fun q => { q with mism := false })).setSync 2).claimUpdate) := by
  change execSyncPhaseDone s = _
  unfold execSyncPhaseDone
  rw [hl, hp, hr, hu, h1, hq]
  exact if_pos hs

theorem State.exec_syncMismatch {p : PartnerStat} (h1 : s.syncPhase = 1) (hq : s.pair.partner = some p)
    (hs : (decide (p.tackId = s.rd Reg.BOOT_TKID) && decide (p.tackVer = s.rd Reg.BOOT_TKVER) &&
      decide (p.stepping = s.fld Reg.SYS_ID 7 0)) = false) (hm : s.pair.mism = false) :
    exec .syncPhaseDone s = .next (((s.onPair (fun q => { q with mism := true })).claimUpdate).raise (E.PAIR_TACK_MISMATCH 0)) := by
  change execSyncPhaseDone s = _
  unfold execSyncPhaseDone
  rw [hl, hp, hr, hu, h1, hq]
  exact (if_neg (ne_true_of_eq_false hs)).trans (if_neg (ne_true_of_eq_false hm))

theorem State.exec_syncConfig {x : SyncImage} (h2 : s.syncPhase = 2) (hx : s.pair.image = some x) :
    exec .syncPhaseDone s = .next ((s.applyImage x).setSync 3) := by
  change execSyncPhaseDone s = _
  unfold execSyncPhaseDone
  rw [hl, hp, hr, hu, h2, hx]
  rfl

theorem State.exec_syncState (h3 : s.syncPhase = 3) (h0 : s.fld Reg.PAIR_SYNC 31 16 = 0) :
    exec .syncPhaseDone s = .next (((s.setSync 4).wr Reg.PAIR_SYNCGFC s.time.gfc).raise (E.PAIR_SYNCED 0)) := by
  change execSyncPhaseDone s = _
  unfold execSyncPhaseDone
  rw [hl, hp, hr, hu, h3]
  exact if_pos h0

theorem State.syncMatch_completes (p : PartnerStat) (hq : s.pair.partner = some p) (h1 : s.syncPhase = 1) :
    ((decide (p.tackId = s.rd Reg.BOOT_TKID) && decide (p.tackVer = s.rd Reg.BOOT_TKVER) &&
      decide (p.stepping = s.fld Reg.SYS_ID 7 0)) = true → Completes .syncPhaseDone s (fun t => t.syncPhase = 2 ∧ t.pair.mism = false ∧
        Keeps s t [Reg.PAIR_SYNC, Reg.PAIR_CLAIM])) ∧
    ((decide (p.tackId = s.rd Reg.BOOT_TKID) && decide (p.tackVer = s.rd Reg.BOOT_TKVER) &&
      decide (p.stepping = s.fld Reg.SYS_ID 7 0)) = false → s.pair.mism = false → Completes .syncPhaseDone s (fun t => t.syncPhase = 1 ∧
        t.pair.mism = true ∧ t.fld Reg.PAIR_CLAIM 15 0 = 0 ∧ t.unit.claimOut = false ∧ Raised s t (E.PAIR_TACK_MISMATCH 0) ∧
        Keeps s t [Reg.PAIR_CLAIM])) := by
  refine ⟨fun hs => ⟨_, s.exec_syncMatch hl hp hr hu h1 hq hs, ?_, rfl, ?_⟩, fun hs hm => ⟨_, s.exec_syncMismatch hl hp hr hu h1 hq hs hm, ?_⟩⟩
  · exact (State.claimUpdate_syncPhase _).trans (State.setSync_syncPhase _ (by decide))
  · exact State.keeps_claimUpdate _ (by simp) (.put (k := Reg.PAIR_SYNC) (.of (fun _ _ _ => rfl) rfl rfl) _ _ _ (by simp))
  · have h0 : (s.onPair (fun q => { q with mism := true })).claimNow = 0 := if_pos (by
      rw [show (s.onPair (fun q => { q with mism := true })).pair.mism = true from rfl]
      simp only [Bool.or_true, Bool.true_or])
    have hc : (s.onPair (fun q => { q with mism := true })).claimUpdate.fld Reg.PAIR_CLAIM 15 0 = 0 :=
      (State.fld_put _ _ _ _ _ (by decide)).trans (by rw [h0]; rfl)
    have ho : (s.onPair (fun q => { q with mism := true })).claimUpdate.unit.claimOut = false :=
      decide_eq_false (by rw [h0]; decide)
    have hs := (s.onPair (fun q => { q with mism := true })).claimUpdate_syncPhase
    refine ⟨?_, ?_, ?_, ?_, .of (List.Subset.refl _) rfl, (State.keeps_claimUpdate _ (by simp) (.of (fun _ _ _ => rfl) rfl rfl)).raise (by decide)⟩
    · exact ((State.syncPhase_raise _ _ _ _ (by decide)).trans hs).trans h1
    · rw [State.raise_pair]
      rfl
    · rw [State.fld, State.rd_raise _ _ _ _ _ (by decide) (by decide) (by decide), ← State.fld, hc]
    · rw [State.raise_unit, ho]

theorem State.syncConfig_completes (x : SyncImage) (hx : s.pair.image = some x) (h2 : s.syncPhase = 2) :
    Completes .syncPhaseDone s (fun t => t.syncPhase = 3 ∧ t.pair.image = none ∧ t.pair.epoch = x.commits) :=
  ⟨_, s.exec_syncConfig hl hp hr hu h2 hx, State.setSync_syncPhase _ (by decide), by rw [State.setSync, State.put_pair]; exact s.applyImage_pair x⟩

theorem State.syncState_completes (h3 : s.syncPhase = 3) (h0 : s.fld Reg.PAIR_SYNC 31 16 = 0) : Completes .syncPhaseDone s (fun t =>
    t.syncPhase = 4 ∧ t.rd Reg.PAIR_SYNCGFC = s.time.gfc ∧ Raised s t (E.PAIR_SYNCED 0) ∧ Keeps s t [Reg.PAIR_SYNC, Reg.PAIR_SYNCGFC]) := by
  refine ⟨_, s.exec_syncState hl hp hr hu h3 h0, ?_, ?_, .of (List.Subset.refl _) rfl, ?_⟩
  · refine (State.syncPhase_raise _ _ _ _ (by decide)).trans (Eq.trans ?_ (s.setSync_syncPhase (p := 4) (by decide)))
    exact congrArg (fun w => fieldOf w 2 0) (State.rd_wr_ne _ _ _ _ (by decide))
  · exact (State.rd_raise _ _ _ _ _ (by decide) (by decide) (by decide)).trans (State.rd_wr_same ..)
  · exact (((Keeps.refl s _).put (k := Reg.PAIR_SYNC) _ _ _ (by simp)).wr (k := Reg.PAIR_SYNCGFC) _ (by simp)).raise (by decide)

end

theorem State.syncFail_completes (hl : s.live = true) (hp : s.unit.pairMode = true) (hr : s.role = 1)
    (h : s.syncPhase = 2 ∨ s.syncPhase = 3) : Completes .syncFail s (fun t =>
      t.syncPhase = 2 ∧ t.fld Reg.PAIR_SYNC 31 16 = 0 ∧ t.pair.image = none ∧ Raised s t (E.SYNC_FAIL 0) ∧ Keeps s t [Reg.PAIR_SYNC]) := by
  have ha : s.awake = true := by
    rw [State.live, State.runs, Bool.and_eq_true, decide_eq_true_eq] at hl
    rw [State.awake, hl.1]
    rfl
  refine ⟨_, if_pos ?_, ?_, ?_, ?_, .of (List.Subset.refl _) rfl, ?_⟩
  · rw [ha, hp, hr, Bool.and_eq_true, Bool.or_eq_true, beq_iff_eq, beq_iff_eq]
    exact ⟨rfl, h⟩
  · refine (State.syncPhase_raise _ _ _ _ (by decide)).trans ?_
    exact (State.fld_put_disj _ _ _ _ _ _ _ (by decide) (.inl (by decide))).trans (State.setSync_syncPhase _ (by decide))
  · rw [State.fld, State.rd_raise _ _ _ _ _ (by decide) (by decide) (by decide)]
    exact State.fld_put _ _ _ _ _ (by decide)
  · rw [State.raise_pair]
    rfl
  · have h : Keeps s (s.onPair (fun p => { p with image := none })) [Reg.PAIR_SYNC] := .of (fun _ _ _ => rfl) rfl rfl
    exact ((h.put (k := Reg.PAIR_SYNC) _ _ _ (by simp)).put (k := Reg.PAIR_SYNC) _ _ _ (by simp)).raise (by decide)

theorem State.groupCopy_completes (g : SyncGroup) (hl : s.live = true) (hp : s.unit.pairMode = true) (hr : s.role = 1) (h3 : s.syncPhase = 3) :
    (s.lanesUp = true → (g.regs.map (·.1)).Nodup → (g.mem.map (·.1)).Nodup → Completes (.syncGroupCopy g) s (fun t =>
      (∀ x ∈ g.regs, x.1 ≠ Reg.PAIR_SYNC → t.rd x.1 = x.2) ∧ (∀ a, a ∉ g.regs.map (·.1) → a ≠ Reg.PAIR_SYNC → t.rd a = s.rd a) ∧
      (∀ x ∈ g.mem, t.mem8 x.1 = x.2) ∧ (∀ a, a ∉ g.mem.map (·.1) → t.mem8 a = s.mem8 a) ∧
      t.fld Reg.PAIR_SYNC 31 16 = g.left % 65536)) ∧
    (s.lanesUp = false → exec (.syncGroupCopy g) s = .next s) := by
  refine ⟨fun hu hd hm => ⟨_, if_pos (by rw [hl, hp, hr, h3, hu]; rfl), ?_⟩, fun hu => if_neg (by rw [hu, Bool.and_false]; exact Bool.false_ne_true)⟩
  obtain ⟨r1, r2, m1, m2⟩ := s.groupCopy_shows g
  refine ⟨fun x hx hn => ?_, fun a ha hn => ?_, m2 hm, m1, State.fld_put _ _ _ _ _ (by decide)⟩
  · exact (State.rd_put_ne _ _ _ _ _ _ hn.symm).trans (r2 hd x hx)
  · exact (State.rd_put_ne _ _ _ _ _ _ hn.symm).trans (r1 a ha)

/-! ## The end of a resolution -/

/-- The state in which a resolution has ended. -/
def State.resolved : State :=
  (s.setBit Reg.PAIR_STAT 26 false).onPair (fun p => { p with resEnd := some s.time.mono, resTest := false })

/-- SUSPECT is set, raised and recorded. -/
def State.suspected : State :=
  let x := (s.setBit Reg.PAIR_STAT 27 true).raise (E.SUSPECT (s.fld Reg.PAIR_MM 19 16))
  x.offerNow 0x0007 3 (leBytes 1 (x.fld Reg.PAIR_MM 19 16) ++ leBytes 3 0 ++ leBytes 4 (x.rdN Reg.PAIR_MMGFC))

theorem State.keeps_resolved : Keeps s s.resolved [Reg.PAIR_STAT] :=
  ((Keeps.refl s _).setBit (k := Reg.PAIR_STAT) _ _ (by simp)).trans (.of (fun _ _ _ => rfl) rfl rfl)

theorem State.resolved_bit (i : Nat) (hi : i < 32) : s.resolved.bit Reg.PAIR_STAT i = if i = 26 then false else s.bit Reg.PAIR_STAT i := by
  split
  next h => rw [h]; exact State.bit_setBit _ _ _ _ (by decide)
  next h => exact State.bit_setBit_ne _ _ _ _ _ hi (Ne.symm h)

theorem State.suspected_shows : (∀ i < 32, s.suspected.bit Reg.PAIR_STAT i = if i = 27 then true else s.bit Reg.PAIR_STAT i) ∧
    s.suspected.pair = s.pair ∧ Raised s s.suspected (E.SUSPECT (s.fld Reg.PAIR_MM 19 16)) ∧
    s.suspected.evr.offers.length = s.evr.offers.length + 1 ∧ Keeps s s.suspected [Reg.PAIR_STAT] := by
  unfold State.suspected
  extract_lets x
  have hx : x.pair = s.pair ∧ x.evr = s.evr := ⟨State.raise_pair _ _, State.raise_evr _ _⟩
  have hk : Keeps s x [Reg.PAIR_STAT] := ((Keeps.refl s _).setBit (k := Reg.PAIR_STAT) _ _ (by simp)).raise (by decide)
  have hq : Raised s x (E.SUSPECT (s.fld Reg.PAIR_MM 19 16)) := .of (List.Subset.refl _) rfl
  have hb : ∀ i < 32, x.bit Reg.PAIR_STAT i = if i = 27 then true else s.bit Reg.PAIR_STAT i := fun i hi => by
    refine (congrArg (fun w => bitOf w i) (State.rd_raise _ _ _ _ _ (by decide) (by decide) (by decide))).trans ?_
    split
    next h => rw [h]; exact State.bit_setBit _ _ _ _ (by decide)
    next h => exact State.bit_setBit_ne _ _ _ _ _ hi (Ne.symm h)
  clear_value x
  refine ⟨hb, hx.1, hq, ?_, hk.trans (.of (fun _ _ _ => rfl) rfl rfl)⟩
  rw [State.offerNow, State.offer, hx.2]
  exact List.length_append

theorem State.exec_resolutionTimeout (hr : s.runs = true) (h : s.bit Reg.PAIR_STAT 26 = true) :
    exec .resolutionTimeout s = if s.resolved.role == 1 then .next s.resolved.suspected else .next s.resolved :=
  if_pos (by rw [hr, h]; rfl)

theorem State.resolutionTimeout_completes (hr : s.runs = true) (h : s.bit Reg.PAIR_STAT 26 = true) : Completes .resolutionTimeout s (fun t =>
    t.bit Reg.PAIR_STAT 26 = false ∧ t.pair.resEnd = some s.time.mono ∧
    (s.role = 1 → t.bit Reg.PAIR_STAT 27 = true ∧ Raised s t (E.SUSPECT (s.fld Reg.PAIR_MM 19 16)) ∧
      t.evr.offers.length = s.evr.offers.length + 1) ∧
    (s.role ≠ 1 → t.bit Reg.PAIR_STAT 27 = s.bit Reg.PAIR_STAT 27 ∧ t.evr = s.evr) ∧ Keeps s t [Reg.PAIR_STAT]) := by
  have hrole : s.resolved.role = s.role := State.fld_put_disj _ _ _ _ _ _ _ (by decide) (.inr (by decide))
  have hx := s.exec_resolutionTimeout hr h
  rw [hrole] at hx
  by_cases h1 : s.role = 1
  · obtain ⟨hb, hp, hq, ho, hk⟩ := s.resolved.suspected_shows
    have hm : s.resolved.fld Reg.PAIR_MM 19 16 = s.fld Reg.PAIR_MM 19 16 := s.fld_put_kept Reg.PAIR_STAT Reg.PAIR_MM _ _ _ 19 16 (by decide)
    rw [if_pos (by rw [h1]; rfl)] at hx
    refine ⟨_, hx, (hb 26 (by decide)).trans ?_, by rw [hp]; rfl, fun _ => ⟨hb 27 (by decide), ?_, ho⟩, fun h => absurd h1 h,
      s.keeps_resolved.trans hk⟩
    · exact (if_neg (by decide)).trans (s.resolved_bit 26 (by decide))
    · rw [← hm]
      exact hq
  · rw [if_neg (by simpa using h1)] at hx
    exact ⟨_, hx, s.resolved_bit 26 (by decide), rfl, fun h => absurd h h1, fun _ => ⟨s.resolved_bit 27 (by decide), rfl⟩, s.keeps_resolved⟩

end

/-- Settles O43: each phase of the sync by its own outcome; a group's cells by the fold of their writes. -/
theorem stateSync : Obligations.StateSync := by
  unfold Obligations.StateSync
  refine ⟨fun s hl hp hr => ⟨fun p hq hu h1 => ?_, fun x hx hu h2 => s.syncConfig_completes hl hp hr hu x hx h2,
    fun hu h3 h0 => s.syncState_completes hl hp hr hu h3 h0, fun h => s.syncFail_completes hl hp hr h,
    fun g h3 => s.groupCopy_completes g hl hp hr h3⟩, fun s hr h => s.resolutionTimeout_completes hr h⟩
  exact s.syncMatch_completes hl hp hr hu p hq h1

end Sys2Proof.Machine
end

section
/-!
PROOFS. Remounts and role swaps (O44).
-/

namespace Sys2Proof.Machine

/-! ## The token and the swap -/

/-- A swap that this unit proposes for GFC + 4. -/
def State.Proposed (s : State) (kind : Nat) (t : State) : Prop :=
  t.pair.swap = some { out := true, gh := (s.gfcN + 4) % 2 ^ 32, ok := false, kind := kind }

/-- The remount goes: the token is this unit's, and the swap out is proposed. -/
def State.RemountGoes (s t : State) : Prop :=
  t.tokHeld = true ∧ t.tokMine = true ∧ t.tokAct = 1 ∧ t.pair.remWait = false ∧ s.Proposed 3 t

/-- The remount waits: the token is held, and the request is counted. -/
def State.RemountWaits (s t : State) : Prop :=
  t.pair.remWait = true ∧ t.pair.swap = none ∧ Raised s t (E.MAINT_BUSY 0) ∧
    t.fld Reg.SYS_TOKREF 15 0 = min (s.fld Reg.SYS_TOKREF 15 0 + 1) 0xFFFF

section
variable (s : State)

theorem State.tdmSend_parts (x : TandemContent) : (s.tdmSend x).reg = s.reg ∧ (s.tdmSend x).shadow = s.shadow ∧ (s.tdmSend x).mem = s.mem ∧
    (s.tdmSend x).pair.swap = s.pair.swap ∧ (s.tdmSend x).pair.remWait = s.pair.remWait ∧ (s.tdmSend x).pair.back = s.pair.back := by
  unfold State.tdmSend
  split <;> exact ⟨rfl, rfl, rfl, rfl, rfl, rfl⟩

/-- A swap is proposed by the state of the pair alone. -/
theorem State.proposeSwap_shows (kind : Nat) : s.Proposed kind (s.proposeSwap kind) ∧ (s.proposeSwap kind).reg = s.reg ∧
    (s.proposeSwap kind).shadow = s.shadow ∧ (s.proposeSwap kind).mem = s.mem ∧ (s.proposeSwap kind).pair.remWait = s.pair.remWait ∧
    (s.proposeSwap kind).pair.back = s.pair.back := by
  unfold State.proposeSwap
  extract_lets gh
  obtain ⟨h1, h2, h3, h4, h5, h6⟩ := (s.onPair (fun p => { p with swap := some { out := true, gh := gh, ok := false, kind := kind } })).tdmSend_parts
    (.propose gh)
  exact ⟨h4, h1, h2, h3, h5, h6⟩

theorem State.keeps_proposeSwap {x : State} {w : List Nat} (h : Keeps s x w) (kind : Nat) : Keeps s (x.proposeSwap kind) w := by
  obtain ⟨h0, h1, h2, h3, h4⟩ := x.proposeSwap_shows kind
  exact h.trans (.of (fun a _ _ => congrArg (cellsGet regReset · a) h1) h2 h3)

theorem State.tokGrant_shows {act : Nat} (ha : act < 16) : (s.tokGrant true act).tokHeld = true ∧ (s.tokGrant true act).tokMine = true ∧
    (s.tokGrant true act).tokAct = act ∧ Keeps s (s.tokGrant true act) [Reg.SYS_TOKSTAT, Reg.SYS_TOKGFC] := by
  unfold State.tokGrant
  extract_lets holder x
  have hr : (x.wr Reg.SYS_TOKGFC x.time.gfc).rd Reg.SYS_TOKSTAT = x.rd Reg.SYS_TOKSTAT := State.rd_wr_ne _ _ _ _ (by decide)
  have hb : ∀ i, 28 ≤ i → i < 32 → x.bit Reg.SYS_TOKSTAT i =
      (((s.setBit Reg.SYS_TOKSTAT 31 true).setBit Reg.SYS_TOKSTAT 30 true).setBit Reg.SYS_TOKSTAT 28 holder).bit Reg.SYS_TOKSTAT i := fun i h1 h2 =>
    (State.bit_put _ _ _ _ _ _ h2).trans (if_neg (by omega))
  refine ⟨?_, ?_, ?_, ?_⟩
  · rw [State.tokHeld, State.bit, hr, ← State.bit, hb 31 (by decide) (by decide), State.bit_setBit_ne _ _ _ _ _ (by decide) (by decide),
      State.bit_setBit_ne _ _ _ _ _ (by decide) (by decide), State.bit_setBit _ _ _ _ (by decide)]
  · rw [State.tokMine, State.bit, hr, ← State.bit, hb 30 (by decide) (by decide), State.bit_setBit_ne _ _ _ _ _ (by decide) (by decide),
      State.bit_setBit _ _ _ _ (by decide)]
  · rw [State.tokAct, State.fld, hr]
    exact (State.fld_put _ _ _ _ _ (by decide)).trans (Nat.mod_eq_of_lt ha)
  · have h := ((Keeps.refl s [Reg.SYS_TOKSTAT, Reg.SYS_TOKGFC]).setBit (k := Reg.SYS_TOKSTAT) 31 true (by simp)).setBit
      (k := Reg.SYS_TOKSTAT) 30 true (by simp)
    exact ((h.setBit (k := Reg.SYS_TOKSTAT) 28 holder (by simp)).put (k := Reg.SYS_TOKSTAT) 27 24 act (by simp)).wr (k := Reg.SYS_TOKGFC) _ (by simp)

theorem State.tokBusy_shows : Raised s s.tokBusy (E.MAINT_BUSY 0) ∧
    s.tokBusy.fld Reg.SYS_TOKREF 15 0 = min (s.fld Reg.SYS_TOKREF 15 0 + 1) 0xFFFF ∧ s.tokBusy.pair = s.pair ∧
    Keeps s s.tokBusy [Reg.SYS_TOKREF] := by
  refine ⟨.of (List.Subset.refl _) rfl, ?_, (State.raise_pair _ _).trans rfl,
    ((Keeps.refl s _).bump (k := Reg.SYS_TOKREF) 15 0 1 (by simp)).raise (by decide)⟩
  rw [State.tokBusy, State.fld, State.rd_raise _ _ _ _ _ (by decide) (by decide) (by decide), ← State.fld, State.fld_bump _ _ _ _ _ (by decide)]
  rfl

/-! ## The request of a remount -/

/-- The state in which a remount has taken the token. -/
def State.remountTaken : State := (s.tokGrant true 1).onPair (fun p => { p with remWait := false, remAt := none })

theorem State.keeps_remountTaken : Keeps s s.remountTaken [Reg.SYS_TOKSTAT, Reg.SYS_TOKGFC] :=
  (s.tokGrant_shows (act := 1) (by decide)).2.2.2.trans (.of (fun _ _ _ => rfl) rfl rfl)

section
variable (hc : s.canSwap = true) (hd : s.pair.dwell = false)
include hc hd

theorem State.remountRequest_goes (ht : s.tokHeld = false) : s.RemountGoes s.remountRequest ∧
    Keeps s s.remountRequest [Reg.SYS_TOKSTAT, Reg.SYS_TOKGFC] := by
  have hx : s.remountRequest = s.remountTaken.proposeSwap 3 :=
    (if_neg (by rw [hc, hd]; decide)).trans (if_neg (ne_true_of_eq_false ht))
  obtain ⟨g1, g2, g3, -⟩ := s.tokGrant_shows (act := 1) (by decide)
  obtain ⟨p1, p2, p3, p4, p5, p6⟩ := s.remountTaken.proposeSwap_shows 3
  rw [hx]
  have hr : ∀ a, (s.remountTaken.proposeSwap 3).rd a = (s.tokGrant true 1).rd a :=
    fun a => congrArg (cellsGet regReset · a) p2
  refine ⟨⟨?_, ?_, ?_, p5, p1⟩, State.keeps_proposeSwap _ s.keeps_remountTaken 3⟩
  · rw [State.tokHeld, State.bit, hr]
    exact g1
  · rw [State.tokMine, State.bit, hr]
    exact g2
  · rw [State.tokAct, State.fld, hr]
    exact g3

theorem State.remountRequest_waits (ht : s.tokHeld = true) : s.RemountWaits s.remountRequest ∧ Keeps s s.remountRequest [Reg.SYS_TOKREF] := by
  obtain ⟨x, hx, hreq⟩ : ∃ x : State, (x.pair.remWait = true ∧ x.pair.swap = s.pair.swap ∧ x.reg = s.reg ∧ x.evq = s.evq ∧ x.shadow = s.shadow ∧
      x.mem = s.mem) ∧ s.remountRequest = x.tokBusy := by
    refine ⟨_, ?_, (if_neg (by rw [hc, hd]; decide)).trans (if_pos ht)⟩
    by_cases hw : s.pair.remWait = true
    · rw [if_pos hw]
      exact ⟨hw, rfl, rfl, rfl, rfl, rfl⟩
    · rw [if_neg hw]
      exact ⟨rfl, rfl, rfl, rfl, rfl, rfl⟩
  obtain ⟨h1, h2, h3, h4, h5, h6⟩ := hx
  obtain ⟨b1, b2, b3, b4⟩ := x.tokBusy_shows
  have hs : s.pair.swap = none := by
    simp only [State.canSwap, Bool.and_eq_true, Option.isNone_iff_eq_none] at hc
    exact hc.2
  have hk : Keeps s x [Reg.SYS_TOKREF] := .of (fun a _ _ => congrArg (cellsGet regReset · a) h3) h5 h6
  rw [hreq]
  refine ⟨⟨by rw [b3, h1], by rw [b3, h2, hs], fun hf => b1 (by rw [State.pulseFits, h4]; exact hf), ?_⟩, hk.trans b4⟩
  rw [b2, State.fld, State.rd, h3, ← State.rd, ← State.fld]

end

/-! ## The commands of remounts -/

theorem State.canSwap_iff : s.canSwap = true ↔ s.runs = true ∧ s.unit.pairMode = true ∧ s.role = 2 ∧ s.syncPhase = 4 ∧ s.pair.swap = none := by
  rw [State.canSwap, Bool.and_eq_true, Bool.and_eq_true, Bool.and_eq_true, Bool.and_eq_true, beq_iff_eq, beq_iff_eq, Option.isNone_iff_eq_none,
    and_assoc, and_assoc, and_assoc]

/-- PAIR_CTL as a write leaves it at the active unit of a pair, before REMNOW acts. -/
def State.pairCtlShown (v : Word) : State := (s.put Reg.PAIR_CTL 1 0 (fieldOf v 1 0)).claimUpdate

/-- A write of PAIR_CTL changes nothing that a remount rests on. -/
structure State.SwapSame (s t : State) : Prop where
  canSwap : t.canSwap = s.canSwap
  pair : t.pair = s.pair
  time : t.time = s.time
  evq : t.evq = s.evq
  held : t.tokHeld = s.tokHeld
  ref : t.fld Reg.SYS_TOKREF 15 0 = s.fld Reg.SYS_TOKREF 15 0

theorem State.pairCtlShown_same (v : Word) : s.SwapSame (s.pairCtlShown v) := by
  have hrd : ∀ a, Reg.PAIR_CTL ≠ a → Reg.PAIR_CLAIM ≠ a → (s.pairCtlShown v).rd a = s.rd a := fun a h1 h2 =>
    (State.rd_put_ne _ _ _ _ _ _ h2).trans (State.rd_put_ne _ _ _ _ _ _ h1)
  refine ⟨?_, rfl, rfl, rfl, ?_, ?_⟩
  · have h1 : (s.pairCtlShown v).role = s.role := congrArg (fun w => fieldOf w 29 28) (hrd _ (by decide) (by decide))
    have h2 : (s.pairCtlShown v).syncPhase = s.syncPhase := congrArg (fun w => fieldOf w 2 0) (hrd _ (by decide) (by decide))
    rw [State.canSwap, State.canSwap, h1, h2]
    rfl
  · exact congrArg (fun w => bitOf w 31) (hrd _ (by decide) (by decide))
  · exact congrArg (fun w => fieldOf w 15 0) (hrd _ (by decide) (by decide))

theorem State.pairCtl_active (v : Word) (h2 : s.role = 2) (hp : s.unit.pairMode = true) (hv : bitOf v 31 = true) :
    s.pairCtl v = (s.pairCtlShown v).remountRequest := by
  have hr : (s.put Reg.PAIR_CTL 1 0 (fieldOf v 1 0)).role = 2 := (s.fld_put_kept Reg.PAIR_CTL Reg.PAIR_STAT _ _ _ 29 28 (by decide)).trans h2
  unfold State.pairCtl
  extract_lets x y z
  have hy : y = x := if_pos hr
  have hz : z = s.pairCtlShown v := by
    simp only [z, hy]
    exact if_pos hp
  rw [hz]
  exact if_pos hv

theorem exec_remountNow_counted (p : Port) (v : Word) (hr : s.runs = true) :
    ∃ t, exec (.remountNow p v) s = .next t ∧ t.Counted (s.pairCtl (withBit v 31 &&& word 0xC0000003)) :=
  ⟨_, rfl, State.hostWrite_fixed_counted s p _ _ _ _ _ (State.fabricUp_runs s hr) (State.mapped_runs s _ hr (Or.inr (by decide))) (by decide)
    (by cases p <;> rfl) rfl rfl (by decide) (by decide) (by decide) rfl⟩

theorem State.remountNow_completes (p : Port) (v : Word) (hc : s.canSwap = true) (hd : s.pair.dwell = false) :
    (s.tokHeld = false → Completes (.remountNow p v) s s.RemountGoes) ∧ (s.tokHeld = true → Completes (.remountNow p v) s s.RemountWaits) := by
  obtain ⟨hr, hp, h2, -, -⟩ := s.canSwap_iff.mp hc
  obtain ⟨t, ht, hn⟩ := exec_remountNow_counted s p v hr
  have hv : bitOf (withBit v 31 &&& word 0xC0000003) 31 = true := (bitOf_and _ _ _ (by decide)).trans (bitOf_withBit v 31 31 (by decide))
  rw [s.pairCtl_active _ h2 hp hv] at hn
  generalize withBit v 31 &&& word 0xC0000003 = w at hn
  have hs := s.pairCtlShown_same w
  have hc' := hs.canSwap.trans hc
  have hd' : (s.pairCtlShown w).pair.dwell = false := by rw [hs.pair, hd]
  have hrd : ∀ a, sideReg a = false → t.rd a = (s.pairCtlShown w).remountRequest.rd a := fun a ha => hn.rd ha
  have hpr : t.pair = (s.pairCtlShown w).remountRequest.pair := hn.same (·.pair) (fun _ _ => rfl)
  refine ⟨fun h => ⟨t, ht, ?_⟩, fun h => ⟨t, ht, ?_⟩⟩
  · obtain ⟨⟨g1, g2, g3, g4, g5⟩, -⟩ := State.remountRequest_goes _ hc' hd' (hs.held.trans h)
    refine ⟨?_, ?_, ?_, by rw [hpr, g4], ?_⟩
    · rw [State.tokHeld, State.bit, hrd _ (by decide)]
      exact g1
    · rw [State.tokMine, State.bit, hrd _ (by decide)]
      exact g2
    · rw [State.tokAct, State.fld, hrd _ (by decide)]
      exact g3
    · rw [State.Proposed, hpr, g5, State.gfcN, hs.time, State.gfcN]
  · obtain ⟨⟨g1, g2, g3, g4⟩, -⟩ := State.remountRequest_waits _ hc' hd' (hs.held.trans h)
    refine ⟨by rw [hpr, g1], by rw [hpr, g2], hn.raised fun hf => g3 (by rw [State.pulseFits, hs.evq]; exact hf), ?_⟩
    rw [State.fld, hrd _ (by decide), ← State.fld, g4, hs.ref]

theorem State.remountTimer_completes (hc : s.canSwap = true) (hd : s.pair.dwell = false) (ha : s.pair.remAt.isSome = true)
    (hw : s.pair.remWait = false) :
    (s.tokHeld = false → Completes .remountTimer s (fun t => s.RemountGoes t ∧ Keeps s t [Reg.SYS_TOKSTAT, Reg.SYS_TOKGFC])) ∧
    (s.tokHeld = true → Completes .remountTimer s (fun t => s.RemountWaits t ∧ Keeps s t [Reg.SYS_TOKREF])) := by
  have hx : exec .remountTimer s = .next s.remountRequest := if_pos (by rw [State.awake_of_runs (s.canSwap_iff.mp hc).1, ha, hw]; rfl)
  exact ⟨fun h => ⟨_, hx, s.remountRequest_goes hc hd h⟩, fun h => ⟨_, hx, s.remountRequest_waits hc hd h⟩⟩

theorem State.exec_remountRetry (hr : s.runs = true) (hw : s.pair.remWait = true)
    (hs : ∀ x, s.pair.remAt = some x → s.tokHeld = true → s.time.mono < x) : exec .remountRetry s = .next s.remountRequest := by
  change execRemountRetry s = _
  unfold execRemountRetry
  rw [if_neg (by rw [State.awake_of_runs hr, hw]; decide)]
  cases ha : s.pair.remAt with
  | none => rfl
  | some x =>
    refine if_neg fun h => ?_
    rw [Bool.and_eq_true, decide_eq_true_eq] at h
    exact absurd (hs x ha h.1) (BitVec.not_lt.mpr h.2)

theorem State.exec_remountRetry_skipped {x : BitVec 64} (hr : s.runs = true) (hw : s.pair.remWait = true) (ha : s.pair.remAt = some x)
    (ht : s.tokHeld = true) (hx : x ≤ s.time.mono) : exec .remountRetry s = .next (s.remountStart.raise (E.REMOUNT_SKIPPED 0)) := by
  change execRemountRetry s = _
  unfold execRemountRetry
  rw [if_neg (by rw [State.awake_of_runs hr, hw]; decide), ha]
  exact if_pos (by rw [ht, decide_eq_true hx]; rfl)

theorem State.remountRetry_completes (hc : s.canSwap = true) (hd : s.pair.dwell = false) (hw : s.pair.remWait = true) :
    (s.tokHeld = false → Completes .remountRetry s (fun t => s.RemountGoes t ∧ Keeps s t [Reg.SYS_TOKSTAT, Reg.SYS_TOKGFC])) ∧
    (∀ x, s.pair.remAt = some x → s.tokHeld = true →
      (s.time.mono < x → Completes .remountRetry s (fun t => s.RemountWaits t ∧ Keeps s t [Reg.SYS_TOKREF])) ∧
      (x ≤ s.time.mono → Completes .remountRetry s (fun t => t.pair.remWait = false ∧ Raised s t (E.REMOUNT_SKIPPED 0) ∧
        t.pair.remAt = some (s.time.mono + s.remountLen) ∧ Keeps s t []))) := by
  have hr := (s.canSwap_iff.mp hc).1
  refine ⟨fun h => ⟨_, s.exec_remountRetry hr hw (fun _ _ ht => absurd (h.symm.trans ht) Bool.false_ne_true), s.remountRequest_goes hc hd h⟩,
    fun x ha ht => ⟨fun hx => ⟨_, s.exec_remountRetry hr hw (fun y hy _ => ?_), s.remountRequest_waits hc hd ht⟩, fun hx =>
      ⟨_, s.exec_remountRetry_skipped hr hw ha ht hx, ?_, .of (List.Subset.refl _) rfl, ?_, ?_⟩⟩⟩
  · rw [ha] at hy
    obtain rfl := Option.some.inj hy
    exact hx
  · rw [State.raise_pair]
    rfl
  · rw [State.raise_pair]
    rfl
  · exact (Keeps.of (s := s) (t := s.remountStart) (fun _ _ _ => rfl) rfl rfl).raise (by decide)

/-! ## Swaps -/

theorem State.frame_tdmSend {R : Nat → Nat → Prop} {E : Nat → Prop} (x : TandemContent) : State.Frame R E s (s.tdmSend x) :=
  .ite (.of rfl) (.refl s)

theorem State.frame_tokGiven {E : Nat → Prop} : State.Frame takenReg E s s.tokGive :=
  State.frame_tokGive _ (fun _ => .inr (.inr (.inr (.inl rfl)))) (fun _ => .inr (.inr (.inl rfl)))

theorem State.tokGive_swap : s.tokGive.pair.swap = s.pair.swap := by
  have h := congrArg PairSt.swap s.tokFree_pair
  unfold State.tokGive
  extract_lets x
  split
  · exact (x.tdmSend_parts _).2.2.2.1.trans h
  · exact h

/-- The state in which a swap has failed, before its event. -/
def State.swapEnded : State :=
  let kind := (s.pair.swap.map (·.kind)).getD 0
  let s := s.onPair (fun p => { p with swap := none, dwell := if kind = 4 then false else p.dwell, back := if kind = 4 then false else p.back })
  let s := if kind != 2 && s.tokHeld && s.tokMine && s.tokAct == 1 then s.tokGive else s
  s.remountStart

theorem State.swapEnded_shows : State.Frame takenReg (fun _ => False) s s.swapEnded ∧ s.swapEnded.pair.swap = none := by
  unfold State.swapEnded
  extract_lets kind x y
  have hx : State.Frame takenReg (fun _ => False) s x := .of rfl
  have hy : State.Frame takenReg (fun _ => False) x y := .ite x.frame_tokGiven (.refl x)
  have hs : y.pair.swap = x.pair.swap := ite_part (fun z => z.pair.swap) x.tokGive_swap rfl
  exact ⟨(hx.trans hy).trans (.of rfl), hs⟩

theorem State.exec_swapOrder {x : SwapSt} (hr : s.runs = true) (hx : s.pair.swap = some x) (ho : x.out = true) (h2 : s.role = 2)
    (hg : (s.gfcN + 1) % 2 ^ 32 = x.gh) : exec .swapOrder s = .next (if x.ok then s.tdmSend .order else s.swapEnded.raise (E.ROLE_SWAP_FAIL 0)) := by
  change execSwapOrder s = _
  unfold execSwapOrder
  rw [hx]
  exact if_pos (by rw [hr, ho, h2, decide_eq_true hg]; rfl)

theorem State.swapOrder_completes (x : SwapSt) (hr : s.runs = true) (hx : s.pair.swap = some x) (ho : x.out = true) (h2 : s.role = 2)
    (hg : (s.gfcN + 1) % 2 ^ 32 = x.gh) (hp : s.unit.pairMode = true) :
    (x.ok = true → Completes .swapOrder s (fun t => t.pair.txq = s.pair.txq ++ [.order] ∧ t.pair.swap = s.pair.swap ∧ Keeps s t [])) ∧
    (x.ok = false → Completes .swapOrder s (fun t => t.pair.swap = none ∧ t.role = 2 ∧ Raised s t (E.ROLE_SWAP_FAIL 0))) := by
  have hex := s.exec_swapOrder hr hx ho h2 hg
  refine ⟨fun ok => ?_, fun ok => ?_⟩
  · rw [if_pos ok, State.tdmSend, if_pos hp] at hex
    exact ⟨_, hex, rfl, rfl, .of (fun _ _ _ => rfl) rfl rfl⟩
  · rw [if_neg (ne_true_of_eq_false ok)] at hex
    obtain ⟨hf, hs⟩ := s.swapEnded_shows
    refine ⟨_, hex, by rw [State.raise_pair, hs], ?_, hf.raisedAfter (v := s.swapEnded) _ rfl id (by decide) (by decide)⟩
    have hall : State.Frame takenReg (· = 49) s (s.swapEnded.raise (E.ROLE_SWAP_FAIL 0)) :=
      (hf.mono (fun _ _ h => h) (fun _ h => h.elim)).raise _ (by decide) (.inl rfl)
    exact (hall.field (fun i _ hi _ => not_takenReg (.inl ⟨rfl, hi⟩)) (by decide)).trans h2

theorem State.frame_swapDone {E : Nat → Prop} (kind : Nat) : State.Frame takenReg E s (s.swapDone kind) := by
  unfold State.swapDone
  extract_lets x
  have h : State.Frame takenReg E s x := .of rfl
  exact .ite (h.trans x.frame_tokGiven) h

/-- A role that has been changed, its swap done and its claim shown. -/
def State.swapShown (s : State) (kind : Nat) : State := (s.swapDone kind).claimUpdate

theorem State.frame_swapShown {E : Nat → Prop} (kind : Nat) : State.Frame takenReg E s (s.swapShown kind) :=
  (((s.frame_swapDone kind)).put Reg.PAIR_CLAIM 15 0 (s.swapDone kind).claimNow
    (fun _ _ _ _ => .inr (.inr (.inr (.inr (.inr rfl)))))).trans (.of rfl)

/-- What ROLE_SWAP shows of a role that has been changed. -/
theorem State.Changed.swapped {s x : State} {role last code : Nat} (h : s.Changed role last x)
    (hf : State.Frame takenReg (fun _ => False) (s.roleChange role code) x) (kind : Nat) :
    ((x.swapShown kind).raise (E.ROLE_SWAP 0)).role = role ∧ Raised s ((x.swapShown kind).raise (E.ROLE_SWAP 0)) (E.ROLE_SWAP 0) ∧
      ((x.swapShown kind).raise (E.ROLE_SWAP 0)).rd Reg.PAIR_LASTGFC = s.time.gfc ∧
      ∀ a, ((x.swapShown kind).raise (E.ROLE_SWAP 0)).mem8 a = s.mem8 a := by
  have hz := hf.trans (x.frame_swapShown kind)
  obtain ⟨h1, h2, h3, h4⟩ := (h.frame (x.frame_swapShown (E := fun _ => False) kind) fun _ _ => not_takenReg).raise (E.ROLE_SWAP 0) (by decide)
  refine ⟨h1, hz.raisedAfter (v := x.swapShown kind) _ rfl id (by decide) (by decide), h3, fun a => ?_⟩
  exact congrArg (cellsGet memDefault · a) ((State.raise_mem _ _).trans hz.mem)

theorem State.exec_roleSwap_out {x : SwapSt} (hr : s.runs = true) (hx : s.pair.swap = some x) (hg : s.gfcN = x.gh) (ok : x.ok = true)
    (ho : x.out = true) (h2 : s.role = 2) :
    exec .roleSwap s = .next (((s.becomeStandby x.kind).swapShown x.kind).raise (E.ROLE_SWAP 0)) := by
  change execRoleSwap s = _
  unfold execRoleSwap
  rw [hx]
  refine (if_neg (by rw [hr, decide_eq_true hg]; decide)).trans ((if_pos ho).trans (if_pos ?_))
  rw [h2, ok]
  rfl

theorem State.exec_roleSwap_in {x : SwapSt} (hr : s.runs = true) (hx : s.pair.swap = some x) (hg : s.gfcN = x.gh) (ok : x.ok = true)
    (ho : x.out = false) (h1 : s.role = 1) : exec .roleSwap s =
      .next ((((s.onPair (fun p => { p with swap := none })).becomeActive s.incomingKind).swapShown s.incomingKind).raise (E.ROLE_SWAP 0)) := by
  change execRoleSwap s = _
  unfold execRoleSwap
  rw [hx]
  refine (if_neg (by rw [hr, decide_eq_true hg]; decide)).trans ((if_neg (ne_true_of_eq_false ho)).trans (if_pos ?_))
  rw [ok, h1]
  rfl

theorem State.roleSwap_completes (x : SwapSt) (hr : s.runs = true) (hx : s.pair.swap = some x) (hg : s.gfcN = x.gh) (ok : x.ok = true)
    (hd : x.out = true ∧ s.role = 2 ∨ x.out = false ∧ s.role = 1) : Completes .roleSwap s (fun t =>
      t.role = (if x.out = true then 1 else 2) ∧ Raised s t (E.ROLE_SWAP 0) ∧ t.rd Reg.PAIR_LASTGFC = s.time.gfc ∧ ∀ a, t.mem8 a = s.mem8 a) := by
  rcases hd with ⟨ho, h2⟩ | ⟨ho, h1⟩
  · have hf : State.Frame takenReg (fun _ => False) (s.roleChange 1 x.kind) (s.becomeStandby x.kind) := .of rfl
    rw [if_pos ho]
    exact ⟨_, s.exec_roleSwap_out hr hx hg ok ho h2,
      (State.Changed.frame (s.roleChange_shows (by decide)) hf fun _ _ => not_takenReg).swapped hf x.kind⟩
  · obtain ⟨hc, hf, -⟩ := (s.onPair (fun p => { p with swap := none })).becomeActive_shows s.incomingKind
    rw [if_neg (ne_true_of_eq_false ho)]
    exact ⟨_, s.exec_roleSwap_in hr hx hg ok ho h1, hc.swapped hf s.incomingKind⟩

/-! ## Proposals -/

theorem State.exec_dwellEnd (hc : s.canSwap = true) (hd : s.pair.dwell = true) : exec .remountDwellEnd s =
    .next (((if s.pair.dwellMm then s else s.setBit Reg.PAIR_STAT 27 false).onPair (fun p => { p with back := true })).proposeSwap 4) := by
  have hs : (if s.pair.dwellMm then s else s.setBit Reg.PAIR_STAT 27 false).canSwap = true := by
    refine ite_part State.canSwap hc ?_
    have h : (s.setBit Reg.PAIR_STAT 27 false).role = s.role := State.fld_put_disj _ _ _ _ _ _ _ (by decide) (.inr (by decide))
    have h' : (s.setBit Reg.PAIR_STAT 27 false).syncPhase = s.syncPhase :=
      congrArg (fun w => fieldOf w 2 0) (State.rd_setBit_ne _ _ _ _ _ (by decide))
    rw [← hc, State.canSwap, State.canSwap, h, h']
    rfl
  exact (if_pos (by rw [State.awake_of_runs (s.canSwap_iff.mp hc).1, hd]; rfl)).trans (if_pos hs)

theorem State.dwellEnd_completes (hc : s.canSwap = true) (hd : s.pair.dwell = true) : Completes .remountDwellEnd s (fun t =>
    s.Proposed 4 t ∧ t.pair.back = true ∧ t.bit Reg.PAIR_STAT 27 = (s.bit Reg.PAIR_STAT 27 && s.pair.dwellMm) ∧ Keeps s t [Reg.PAIR_STAT]) := by
  refine ⟨_, s.exec_dwellEnd hc hd, ?_⟩
  generalize hx : (if s.pair.dwellMm then s else s.setBit Reg.PAIR_STAT 27 false) = x
  have hk : Keeps s x [Reg.PAIR_STAT] ∧ x.gfcN = s.gfcN ∧ x.bit Reg.PAIR_STAT 27 = (s.bit Reg.PAIR_STAT 27 && s.pair.dwellMm) := by
    rw [← hx]
    split
    next h => exact ⟨.refl s _, rfl, by rw [h, Bool.and_true]⟩
    next h =>
      refine ⟨(Keeps.refl s _).setBit (k := Reg.PAIR_STAT) _ _ (by simp), rfl, ?_⟩
      rw [State.bit_setBit _ _ _ _ (by decide), Bool.eq_false_of_not_eq_true h, Bool.and_false]
  obtain ⟨h1, h2, h3⟩ := hk
  obtain ⟨p1, p2, p3, p4, p5, p6⟩ := (x.onPair (fun p => { p with back := true })).proposeSwap_shows 4
  refine ⟨?_, p6, ?_, h1.trans (State.keeps_proposeSwap x (x := x.onPair (fun p => { p with back := true })) (.of (fun _ _ _ => rfl) rfl rfl) 4)⟩
  · rw [State.Proposed, ← h2]
    exact p1
  · rw [← h3, State.bit, State.rd, p2]
    rfl

theorem State.takeback_completes (q : PartnerStat) (hc : s.canSwap = true) (hq : s.pair.partner = some q) (hb : s.unit.unitB = true)
    (h0 : s.bit Reg.PAIR_CTL 0 = true) (ht : s.tokHeld = false) (h7 : q.health = 7) :
    Completes .revertTakeback s (fun t => s.Proposed 2 t ∧ t.tokHeld = false ∧ Keeps s t []) := by
  have hx : exec .revertTakeback s = .next (s.proposeSwap 2) := by
    have hh : s.fld Reg.PAIR_HEALTH 2 0 < 8 := fieldOf_lt ..
    change execRevertTakeback s = _
    unfold execRevertTakeback
    rw [hq]
    exact if_pos (by rw [hc, hb, h0, ht, h7, decide_eq_true (show s.fld Reg.PAIR_HEALTH 2 0 ≤ 7 by omega)]; rfl)
  obtain ⟨p1, p2, p3, p4, p5, p6⟩ := s.proposeSwap_shows 2
  refine ⟨_, hx, p1, ?_, State.keeps_proposeSwap _ (.refl s _) 2⟩
  rw [State.tokHeld, State.bit, State.rd, p2]
  exact ht

theorem State.headSplit_shows : State.Frame (fun _ _ => False) (· = 51) s s.headSplit ∧ s.headSplit.pair.swap = s.pair.swap := by
  unfold State.headSplit
  refine ⟨.foldl _ _ (fun (s : State) n _ => .ite (.raise (.onPair (.refl s) _) (E.PAIR_HEADSPLIT n) (by decide : 51 < 256) (.inl rfl)) (.refl s)) s, ?_⟩
  refine foldl_part (fun z => z.pair.swap) _ (fun (s : State) n => ite_part (fun z => z.pair.swap) ?_ rfl) _ s
  rw [State.raise_pair]
  rfl

section
variable (q : PartnerStat) (hc : s.canSwap = true) (hq : s.pair.partner = some q) (h1 : s.bit Reg.PAIR_CTL 1 = true)
  (hh : s.fld Reg.PAIR_HEALTH 2 0 < q.health)
include hc hq h1 hh

theorem State.exec_healthRemount : exec .healthRemount s =
    if s.tokHeld then .next s.tokBusy.headSplit else .next ((s.tokGrant true 1).proposeSwap 5) := by
  change execHealthRemount s = _
  unfold execHealthRemount
  rw [hq]
  exact if_pos (by rw [hc, h1, decide_eq_true hh]; rfl)

theorem State.healthRemount_completes :
    (s.tokHeld = false → Completes .healthRemount s (fun t => s.Proposed 5 t ∧ t.tokMine = true ∧ t.tokAct = 1 ∧
      Keeps s t [Reg.SYS_TOKSTAT, Reg.SYS_TOKGFC])) ∧
    (s.tokHeld = true → Completes .healthRemount s (fun t => t.pair.swap = none ∧ Raised s t (E.MAINT_BUSY 0) ∧ Keeps s t [Reg.SYS_TOKREF])) := by
  have hx := s.exec_healthRemount q hc hq h1 hh
  refine ⟨fun ht => ?_, fun ht => ?_⟩
  · rw [if_neg (ne_true_of_eq_false ht)] at hx
    obtain ⟨g1, g2, g3, g4⟩ := s.tokGrant_shows (act := 1) (by decide)
    obtain ⟨p1, p2, p3, p4, p5, p6⟩ := (s.tokGrant true 1).proposeSwap_shows 5
    have hr : ∀ a, ((s.tokGrant true 1).proposeSwap 5).rd a = (s.tokGrant true 1).rd a := fun a => congrArg (cellsGet regReset · a) p2
    refine ⟨_, hx, p1, ?_, ?_, State.keeps_proposeSwap _ g4 5⟩
    · rw [State.tokMine, State.bit, hr]
      exact g2
    · rw [State.tokAct, State.fld, hr]
      exact g3
  · rw [if_pos ht] at hx
    obtain ⟨b1, b2, b3, b4⟩ := s.tokBusy_shows
    obtain ⟨hf, hs⟩ := s.tokBusy.headSplit_shows
    exact ⟨_, hx, by rw [hs, b3, (s.canSwap_iff.mp hc).2.2.2.2], b1.mono hf.evq, b4.trans (hf.keeps fun _ _ h => h.elim)⟩

end

end

/-- Settles O44: a remount by its request, and a swap by what shows of its proposal, its order and its change of roles. -/
theorem remountsAndSwaps : Obligations.RemountsAndSwaps := by
  unfold Obligations.RemountsAndSwaps
  refine ⟨fun p v s hc hd => ?_, fun x q s hr => ?_⟩
  · obtain ⟨h1, h2⟩ := s.remountNow_completes p v hc hd
    exact ⟨h1, h2, s.remountTimer_completes hc hd, s.remountRetry_completes hc hd⟩
  · exact ⟨fun hx ho h2 hg hp => s.swapOrder_completes x hr hx ho h2 hg hp, fun hx hg ok hd => s.roleSwap_completes x hr hx hg ok hd,
      s.dwellEnd_completes, fun hc hq => ⟨fun hb h0 ht h7 => s.takeback_completes q hc hq hb h0 ht h7,
      fun h1 hh => s.healthRemount_completes q hc hq h1 hh⟩⟩

end Sys2Proof.Machine
end

section
/-!
PROOFS. The rein links that train again, as the tandem link's training and the end of its wait need them (O41).
-/

namespace Sys2Proof.Machine

/-! ## What reactions leave -/

/-- `t` is `s` but for what the reactions to faults and the training of links touch: registers, events, faults, the items, the links, the
  memory's errors, the saddlebag and the queue to the partner. -/
structure State.Reacts (s t : State) : Prop where
  eq : t = { s with reg := t.reg, evq := t.evq, flt := t.flt, phs := t.phs, stg := t.stg, loc := t.loc, links := t.links, fdr := t.fdr,
                    ctx := t.ctx, ecc := t.ecc, sbg := t.sbg, pair := { s.pair with txq := t.pair.txq } }

namespace State.Reacts

variable {s t u x : State}

theorem refl (s : State) : s.Reacts s := ⟨rfl⟩

theorem trans (h : s.Reacts t) (g : t.Reacts u) : s.Reacts u := by
  obtain ⟨h⟩ := h
  obtain ⟨g⟩ := g
  rw [h] at g
  exact ⟨g⟩

theorem ite {p : Prop} [Decidable p] (ht : s.Reacts t) (hu : s.Reacts u) : s.Reacts (if p then t else u) := by
  split
  · exact ht
  · exact hu

theorem foldl {α : Type} (f : State → α → State) (hf : ∀ (s : State) x, s.Reacts (f s x)) (l : List α) (s : State) :
    s.Reacts (l.foldl f s) := by
  induction l generalizing s with
  | nil => exact .refl s
  | cons a l ih => exact (hf s a).trans (ih _)

theorem put (h : s.Reacts x) (a hi lo v : Nat) : s.Reacts (x.put a hi lo v) := h.trans ⟨rfl⟩
theorem setBit (h : s.Reacts x) (a i : Nat) (b : Bool) : s.Reacts (x.setBit a i b) := h.trans ⟨rfl⟩
theorem bump (h : s.Reacts x) (a hi lo n : Nat) : s.Reacts (x.bump a hi lo n) := h.trans ⟨rfl⟩
theorem wr (h : s.Reacts x) (a : Nat) (v : Word) : s.Reacts (x.wr a v) := h.trans ⟨rfl⟩
theorem onLink (h : s.Reacts x) (n : Nat) (f : LinkSt → LinkSt) : s.Reacts (x.onLink n f) := h.trans ⟨rfl⟩
theorem onFd (h : s.Reacts x) (n : Nat) (f : FdrSt → FdrSt) : s.Reacts (x.onFd n f) := h.trans ⟨rfl⟩
theorem onPh (h : s.Reacts x) (n : Nat) (f : PhSt → PhSt) : s.Reacts (x.onPh n f) := h.trans ⟨rfl⟩
theorem onLc (h : s.Reacts x) (n : Nat) (f : LocSt → LocSt) : s.Reacts (x.onLc n f) := h.trans ⟨rfl⟩
theorem onSg (h : s.Reacts x) (n : Nat) (f : StgSt → StgSt) : s.Reacts (x.onSg n f) := h.trans ⟨rfl⟩
theorem pulse (h : s.Reacts x) (p : EvPulse) : s.Reacts (x.pulse p) := h.trans (.ite ⟨rfl⟩ ⟨rfl⟩)
theorem raiseWith (h : s.Reacts x) (e : Ev) (d : List Byte) (i w : Bool) : s.Reacts (x.raiseWith e d i w) :=
  h.trans (.ite (.pulse (.refl x) _) (.pulse (.pulse (.refl x) _) _))
theorem raise (h : s.Reacts x) (e : Ev) : s.Reacts (x.raise e) := h.raiseWith ..
theorem sendFault (h : s.Reacts x) (m : FltMsg) : s.Reacts (x.sendFault m) := h.trans (.ite (.raise (.bump (.refl x) ..) _) ⟨rfl⟩)
theorem fault (h : s.Reacts x) (k i a : Nat) : s.Reacts (x.fault k i a) := h.sendFault _

theorem takeSnap (h : s.Reacts x) (i : Nat) (b : List Byte) (u j w : Bool) : s.Reacts (x.takeSnap i b u j w) := h.trans ⟨rfl⟩
theorem onCx (h : s.Reacts x) (n : Nat) (f : CtxSt → CtxSt) : s.Reacts (x.onCx n f) := h.trans ⟨rfl⟩
theorem addAccess (h : s.Reacts x) (n : Nat) (a : HeadAccess) : s.Reacts (x.addAccess n a) := h.onLink ..

theorem shaped (h : s.Shaped t) : s.Reacts t := by
  unfold State.Shaped at h
  rw [h]
  exact ⟨rfl⟩

theorem load (h : s.Reacts t) : t.pair.load = s.pair.load := by rw [h.eq]
theorem waitDone (h : s.Reacts t) : t.pair.waitDone = s.pair.waitDone := by rw [h.eq]
theorem bad (h : s.Reacts t) : t.pair.bad = s.pair.bad := by rw [h.eq]

theorem ports (h : s.Reacts t) : t.smb = s.smb ∧ t.spi = s.spi ∧ t.readData = s.readData := by
  rw [h.eq]
  exact ⟨rfl, rfl, rfl⟩

end State.Reacts

section
variable (s : State)

theorem State.reacts_forward (x : FwdItem) : s.Reacts (s.forward x) := .ite (.ite ⟨rfl⟩ (.refl s)) (.refl s)

theorem State.reacts_sendReflex (n act mask : Nat) : s.Reacts (s.sendReflex n act mask) := by
  unfold State.sendReflex
  refine .ite ?_ (.refl s)
  extract_lets l m l'
  split <;> exact ⟨rfl⟩

theorem State.reacts_noteEdge (i ev t : Nat) : s.Reacts (s.noteEdge i ev t) := by
  unfold State.noteEdge
  split
  · exact .ite ⟨rfl⟩ (.refl s)
  · exact .ite (.refl s) ⟨rfl⟩

theorem State.reacts_forceLocal (n : Nat) : s.Reacts (s.forceLocal n) :=
  .setBit (.onLc (.ite (s.reacts_noteEdge ..) (.refl s)) ..) ..

theorem State.reacts_forcePhases (is : List Nat) (cause : Nat) : s.Reacts (s.forcePhases is cause) := by
  refine .trans (.foldl _ (fun (s : State) i => ?_) is s) (.foldl _ (fun (s : State) _ => .ite (.refl s) (s.reacts_sendReflex ..)) _ _)
  extract_lets s1 s2 s3
  have h1 : s.Reacts (s.discardEdges i) := .ite (.onLc (.onPh (.refl s) ..) ..) (.onLink (.onPh (.refl s) ..) ..)
  have h : s.Reacts s2 := h1.trans (.ite (State.reacts_forceLocal ..) (State.reacts_noteEdge ..))
  exact .ite (h.setBit ..) (((h.setBit ..).put ..).put ..)

theorem State.reacts_stageSafe (k cause : Nat) (fwd : Bool) : s.Reacts (s.stageSafe k cause fwd) := by
  unfold State.stageSafe
  extract_lets st s1 s2 s3 s4
  have h1 : s.Reacts s1 := (State.Reacts.refl s).takeSnap ..
  have h2 : s1.Reacts s2 := s1.reacts_forcePhases ..
  have h3 : s2.Reacts s3 := (((State.Reacts.refl s2).put ..).put ..).setBit ..
  have h4 : s2.Reacts s4 := ((((h3.onSg ..).setBit ..).setBit ..).setBit ..).onSg ..
  have h5 : s4.Reacts (s4.countPhases k) := .shaped (s4.shaped_countPhases k)
  exact .ite (.refl s) ((((h1.trans h2).trans h4).trans h5).raise _)

/-! ### Reads that find errors -/

theorem State.reacts_eccUnc (region addr : Nat) : s.Reacts (s.eccUnc region addr) := by
  have hs : ∀ (x : State) k, x.Reacts (x.stageFaultSafe k 7 false) := fun x k => .ite (x.reacts_stageSafe ..) (.refl x)
  unfold State.eccUnc
  split
  · exact .trans (.onCx (.fault (.refl s) ..) ..) (.foldl _ (fun (x : State) k => .ite (hs x k) (.refl x)) _ _)
  · exact .trans (.fault (.refl s) ..) (hs ..)
  · exact .ite (.refl s) (.fault (.refl s) ..)
  · exact .fault (.refl s) ..
  · exact .fault (.refl s) ..
  · exact .sendFault (.refl s) _

theorem State.reacts_eccTake (x : EccFlip) (scrub : Bool) : s.Reacts (s.eccTake x scrub) := by
  have hn : s.Reacts (s.eccNote x.region x.addr x.bits scrub) := .ite (.bump (.wr (.wr (.refl s) ..) ..) ..) (.bump (.wr (.wr (.refl s) ..) ..) ..)
  exact .ite (hn.trans (State.reacts_eccUnc ..)) (.sendFault (hn.trans ⟨rfl⟩) _)

theorem State.reacts_eccRead (region lo hi : Nat) : s.Reacts (s.eccRead region lo hi) := .foldl _ (fun (s : State) x => s.reacts_eccTake x false) _ s

/-! ### Feeders and links -/

theorem State.reacts_fdrSendHead (f : Nat) : s.Reacts (s.fdrSendHead f) := by
  unfold State.fdrSendHead
  extract_lets d n
  refine .ite ?_ (.refl s)
  exact ((((State.Reacts.refl s).addAccess ..).addAccess ..).addAccess ..).onFd ..

theorem State.reacts_tripState (f cause : Nat) (fwd : Bool) : s.Reacts (s.tripState f cause fwd) := by
  unfold State.tripState
  refine .ite ?_ (.ite ⟨rfl⟩ (.refl s))
  extract_lets st s1 s2 s3 s4
  have h2 : s.Reacts s2 := (((State.Reacts.refl s).takeSnap ..).put ..).put ..
  have h : s.Reacts s3 := (h2.onFd ..).onLink ..
  exact ((h.raiseWith ..).fault ..).trans (State.reacts_fdrSendHead ..)

theorem State.reacts_accessDone (n : Nat) (ok diff : Bool) (v : Word) : s.Reacts (s.accessDone n ok diff v) := by
  unfold State.accessDone
  split
  · exact .refl s
  · extract_lets s1 s2 s3
    have h : s.Reacts s3 := by
      simp only [s3]
      split
      · exact .ite ⟨rfl⟩ ⟨rfl⟩
      · exact .ite ⟨rfl⟩ ⟨rfl⟩
      · exact ⟨rfl⟩
    exact .ite (h.raise _) h

theorem State.reacts_linkSafe (n : Nat) : s.Reacts (s.linkSafe n) := by
  refine ((s.reacts_sendReflex ..).trans (.foldl _ (fun (s : State) k => ?_) _ _)).trans (.foldl _ (fun (s : State) f => ?_) _ _)
  · exact (State.Reacts.ite (s.reacts_stageSafe ..) (.refl s)).trans (State.reacts_forward ..)
  · exact .ite ((s.reacts_tripState ..).trans (State.reacts_forward ..)) (.refl s)

theorem State.reacts_linkLost (n : Nat) : s.Reacts (s.linkLost n) := by
  have hd : s.Reacts (s.dropAccesses n) := ((s.reacts_accessDone n false false 0).onLink n _).trans
    (.foldl _ (fun (s : State) a => .trans (.onLink (.refl s) n _) (State.reacts_accessDone ..)) _ _)
  have h := hd.onLink n (fun l => { l with
    edges := [], flight := [], cmds := [], cmdPos := 0, cmdFly := false, badRun := 0, dnRun := 0, digestOk := false })
  exact .ite h (h.trans (.foldl _ (fun (s : State) f => ((State.Reacts.refl s).onFd ..).setBit ..) _ _))

theorem State.reacts_trainTo (n st : Nat) : s.Reacts (s.trainTo n st) := by
  unfold State.trainTo
  extract_lets s1 rs s2
  have h : s.Reacts s2 := ⟨rfl⟩
  exact .ite (h.trans (.foldl _ (fun (s : State) f => (State.Reacts.refl s).onFd ..) _ _)) h

theorem State.reacts_linkDown (n reason : Nat) : s.Reacts (s.linkDown n reason) := by
  unfold State.linkDown
  refine .raise (.trans (.trans (.ite (.refl s) ?_) (State.reacts_linkLost ..)) (State.reacts_trainTo ..)) _
  exact (s.reacts_linkSafe n).fault ..

theorem State.reacts_retrainLink (n : Nat) : s.Reacts (s.retrainLink n) :=
  .raise (.bump (.bump (s.reacts_trainTo n 1) ..) ..) _

end

/-! ## The registers of a link that trains -/

/-- What a link that goes down or trains changes of the registers, but for its state. -/
def downReg (a : Nat) : Prop := 0x2000 ≤ a ∨ (0x1000 ≤ a ∧ 0x50 ≤ a % 0x100) ∨ a = Reg.TIM_CDCFLUSH

/-- With its state. -/
def trainReg (n a : Nat) : Prop := downReg a ∨ a = Reg.LNK_STAT n

theorem downReg_of_phase {a : Nat} (h : phaseReg a) : downReg a := by
  simp only [phaseReg] at h
  unfold downReg
  omega

theorem downReg_of_stage {k a i : Nat} (h : stageReg k a i) : downReg a := by
  rcases h with h | rfl | ⟨rfl, -⟩ | rfl | rfl
  · exact downReg_of_phase h
  · exact .inl (by simp only [Reg.ST_STAT]; omega)
  all_goals exact .inl (by decide)

section
variable (s : State)

/-- A frame whose events do not matter. -/
abbrev State.Down (R : Nat → Prop) (s t : State) : Prop := State.Frame (fun a _ => R a) (fun _ => True) s t

theorem State.down_accessDone {n : Nat} (hn : n < 16) (ok : Bool) (v : Word) : State.Down downReg s (s.accessDone n ok false v) := by
  have hreg : ∀ k, k = 0x6C ∨ k = 0x70 → downReg (0x1000 + k + 0x100 * n) := fun k hk => .inr (.inl (by omega))
  unfold State.accessDone
  split
  · exact .refl s
  · extract_lets s1 s2 s3
    have h : State.Down downReg s s3 := by
      simp only [s3]
      split
      · have h2 : State.Down downReg s s2 := ((State.Frame.onLink (.refl s) ..).setBit _ _ _ (hreg 0x70 (.inr rfl))).setBit _ _ _
          (hreg 0x70 (.inr rfl))
        exact .ite (h2.wr _ _ fun _ _ => hreg 0x6C (.inl rfl)) h2
      · next f _ =>
        have h2 : State.Down downReg s (s1.onFd f (fun d => { d with writes := d.writes - 1, hbad := d.hbad || !ok })) :=
          .onFd (.onLink (.refl s) ..) ..
        exact .ite (h2.setBit _ _ _ (.inl (by simp only [Reg.FDR_CTL]; omega))) h2
      · exact .onLink (.refl s) ..
    exact h

theorem State.down_dropAccesses {n : Nat} (hn : n < 16) : State.Down downReg s (s.dropAccesses n) :=
  ((s.down_accessDone hn false 0).onLink n _).trans
    (.foldl _ _ (fun (s : State) _ _ => .trans (.onLink (.refl s) n _) (State.down_accessDone _ hn ..)) _)

theorem State.down_linkLost {n : Nat} (hn : n < 16) : State.Down downReg s (s.linkLost n) := by
  have h := (s.down_dropAccesses hn).onLink n (fun l => { l with
    edges := [], flight := [], cmds := [], cmdPos := 0, cmdFly := false, badRun := 0, dnRun := 0, digestOk := false })
  refine .ite h (h.trans (.foldl _ _ (fun (s : State) f _ => ((State.Frame.refl s).onFd ..).setBit _ _ _ (.inl ?_)) _))
  simp only [Reg.FDR_CTL]
  omega

theorem State.down_linkSafe {n : Nat} (hn : n < 16) : State.Down downReg s (s.linkSafe n) := by
  unfold State.linkSafe
  extract_lets s1 s2
  have h1 : State.Down downReg s s1 := s.frame_sendReflex (fun _ _ => downReg_of_phase) hn ..
  have h2 : State.Down downReg s1 s2 :=
    .foldl _ _ (fun s k _ => (s.frame_stageFaultSafe (fun _ _ => downReg_of_stage) trivial ..).trans (State.frame_forward ..)) s1
  refine (h1.trans h2).trans (.foldl _ _ (fun s f hf => .ite ((s.frame_tripState ?_ (fun _ _ => .inl ?_) trivial ..).trans
    (State.frame_forward ..)) (.refl s)) _)
  · exact List.mem_range.mp (List.mem_filter.mp hf).1
  · simp only [Reg.FDR_CTL]
    omega

/-- A training state begins with its state and its requests. -/
theorem State.down_trainTo (n st : Nat) : State.Down (trainReg n) s (s.trainTo n st) := by
  unfold State.trainTo
  extract_lets s1 rs s2
  have h1 : State.Down (trainReg n) s s1 := (State.Frame.refl s).put _ _ _ _ (fun _ _ _ _ => .inr rfl)
  have h : State.Down (trainReg n) s s2 := h1.onLink n _
  exact .ite (h.trans (.foldl _ _ (fun (s : State) f _ => (State.Frame.refl s).onFd ..) _)) h

theorem State.trainTo_linkState {n st : Nat} (hst : st < 8) : (s.trainTo n st).linkState n = st := by
  have hs : (s.setLinkState n st).linkState n = st := (State.fld_put _ _ _ _ _ (by decide)).trans (Nat.mod_eq_of_lt hst)
  unfold State.trainTo
  extract_lets s1 rs s2
  have h2 : s2.linkState n = st := hs
  refine ite_part (fun x => x.linkState n) ?_ h2
  exact (foldl_part (fun x => x.linkState n) _ (by exact fun _ _ => rfl) _ s2).trans h2

theorem State.down_mono {R R' : Nat → Prop} {s t : State} (h : State.Down R s t) (hR : ∀ a, R a → R' a) : State.Down R' s t :=
  h.mono (fun a _ => hR a) fun _ h => h

theorem State.down_linkDown {n : Nat} (hn : n < 16) (reason : Nat) : State.Down (trainReg n) s (s.linkDown n reason) := by
  have hR : ∀ a, downReg a → trainReg n a := fun _ => .inl
  unfold State.linkDown
  extract_lets s1
  have h1 : State.Down (trainReg n) s s1 := .ite (.refl s) ((State.down_mono (s.down_linkSafe hn) hR).fault ..)
  have h2 : State.Down (trainReg n) s1 (s1.linkLost n) := State.down_mono (s1.down_linkLost hn) hR
  exact ((h1.trans h2).trans (State.down_trainTo _ n 6)).raise (E.LINK_DOWN n) (by dsimp only; omega) (.inl trivial)

theorem State.down_retrainLink {n : Nat} : State.Down (trainReg n) s (s.retrainLink n) := by
  refine .raise (.bump (.bump (s.down_trainTo n 1) _ _ _ _ (fun _ _ _ _ => .inl (.inr (.inl ?_)))) _ _ _ _ (fun _ _ _ _ => .inl (.inr (.inr rfl)))) _
    (by decide : 1 < 256) (.inl trivial)
  simp only [Reg.LNK_RETRAIN]
  omega

theorem State.retrainLink_linkState {n : Nat} : (s.retrainLink n).linkState n = 1 := by
  have hne : Reg.TIM_CDCFLUSH ≠ Reg.LNK_STAT n := by simp only [Reg.TIM_CDCFLUSH, Reg.LNK_STAT]; omega
  have hnr : Reg.LNK_RETRAIN n ≠ Reg.LNK_STAT n := by simp only [Reg.LNK_RETRAIN, Reg.LNK_STAT]; omega
  rw [State.retrainLink, State.flushCrossing, State.linkState, State.fld, State.rd_raise _ _ _ _ _ (by decide) (by simp only [Reg.LNK_STAT]; omega)
    (by simp only [Reg.LNK_STAT]; omega), State.rd_bump_ne _ _ _ _ _ _ hne, State.rd_bump_ne _ _ _ _ _ _ hnr]
  exact s.trainTo_linkState (by decide)

/-! ## Every enabled link trains from LOCK -/

/-- A link of the unit trains from LOCK where it is enabled. -/
def State.startLink (s : State) (n : Nat) : State :=
  if s.bit (Reg.LNK_CTL n) 0 then
    (if s.linkUp n then (s.linkDown n 0).retrainLink n else if s.linkState n == 0 then s.trainTo n 1 else s.retrainLink n)
  else s

theorem State.down_startLink {n : Nat} (hn : n < 16) : State.Down (trainReg n) s (s.startLink n) :=
  .ite (.ite ((s.down_linkDown hn 0).trans (State.down_retrainLink _)) (.ite (s.down_trainTo n 1) s.down_retrainLink)) (.refl s)

theorem State.reacts_startLink (n : Nat) : s.Reacts (s.startLink n) :=
  .ite (.ite ((s.reacts_linkDown n 0).trans (State.reacts_retrainLink _ n)) (.ite (s.reacts_trainTo n 1) (s.reacts_retrainLink n))) (.refl s)

theorem State.startLink_linkState {n : Nat} (h : s.bit (Reg.LNK_CTL n) 0 = true) : (s.startLink n).linkState n = 1 := by
  rw [State.startLink, if_pos h]
  exact ite_part (fun x => x.linkState n) (State.retrainLink_linkState _)
    (ite_part (fun x => x.linkState n) (s.trainTo_linkState (by decide)) s.retrainLink_linkState)

/-- What the start of the links changes of the registers. -/
def linksReg (a : Nat) : Prop := downReg a ∨ (0x1000 ≤ a ∧ a % 0x100 = 0x30)

theorem State.down_startLinks : State.Down linksReg s s.startLinks := by
  refine .trans (t := s.onPair (fun p => { p with waitDone := true })) (.of rfl) (.foldl _ _ (fun s n hn => ?_) _)
  refine State.down_mono (s.down_startLink (List.mem_range.mp hn)) fun a ha => ha.imp_right ?_
  rintro rfl
  simp only [Reg.LNK_STAT]
  omega

theorem State.reacts_startLinks : (s.onPair (fun p => { p with waitDone := true })).Reacts s.startLinks :=
  .foldl _ (fun (s : State) n => s.reacts_startLink n) _ _

theorem State.startLinks_linkState {n : Nat} (hn : n < 16) (h : s.bit (Reg.LNK_CTL n) 0 = true) : s.startLinks.linkState n = 1 := by
  have hctl : ∀ (x : State) m k, m < 16 → k < 16 → (x.startLink m).bit (Reg.LNK_CTL k) 0 = x.bit (Reg.LNK_CTL k) 0 := fun x m k hm hk =>
    (x.down_startLink hm).bits _ 0 (by decide) (by simp only [trainReg, downReg, Reg.LNK_CTL, Reg.LNK_STAT, Reg.TIM_CDCFLUSH]; omega)
      (sideReg_eq_false.mpr (by simp only [Reg.LNK_CTL, Reg.HST_RSVWR, Reg.CW_STAT]; omega))
  have hst : ∀ (x : State) m k, m < 16 → k < 16 → k ≠ m → (x.startLink m).linkState k = x.linkState k := fun x m k hm hk hne =>
    (x.down_startLink hm).field (fun i _ _ _ => by simp only [trainReg, downReg, Reg.LNK_STAT, Reg.TIM_CDCFLUSH]; omega)
      (sideReg_eq_false.mpr (by simp only [Reg.LNK_STAT, Reg.HST_RSVWR, Reg.CW_STAT]; omega))
  refine (foldl_each State.startLink (fun x => ∀ k < 16, x.bit (Reg.LNK_CTL k) 0 = s.bit (Reg.LNK_CTL k) 0)
    (fun x k => s.bit (Reg.LNK_CTL k) 0 = true → x.linkState k = 1) (List.range 16) (fun x m hm hx k hk => ?_) (fun x m hm k hk hx hd he => ?_)
    (s.onPair (fun p => { p with waitDone := true })) (fun _ _ => rfl)).2 n (List.mem_range.mpr hn) h
  · exact (hctl x m k (List.mem_range.mp hm) hk).trans (hx k hk)
  · have hk := List.mem_range.mp hk
    by_cases hkm : k = m
    · subst hkm
      exact x.startLink_linkState ((hx k hk).trans he)
    · exact (hst x m k (List.mem_range.mp hm) hk hkm).trans (hd.resolve_right hkm he)

end

end Sys2Proof.Machine
end

section
/-!
PROOFS. The frames of the tandem link (O41).
-/

namespace Sys2Proof.Machine

/-! ## The SYNC bits of a frame -/

theorem descrambleFrom_high (f : BitVec 160) (n b : Nat) (r : BitVec 58) (out : BitVec 160) (i : Nat) (hb : b + n ≤ 160) (hi : 160 - b ≤ i) :
    (descrambleFrom f n b r out).1.getLsbD i = out.getLsbD i := by
  induction n generalizing b r out with
  | zero => rfl
  | succ n ih =>
    rw [descrambleFrom, ih (b + 1) _ _ (by omega) (by omega), BitVec.getLsbD_or, BitVec.getLsbD_shiftLeft]
    have h : (BitVec.ofNat 160 (fbit f b ^^ r.getLsbD 38 ^^ r.getLsbD 57).toNat).getLsbD (i - (159 - b)) = false := by
      rw [BitVec.getLsbD_ofNat, Nat.testBit_lt_two_pow, Bool.and_false]
      have h2 : 2 ^ 1 ≤ 2 ^ (i - (159 - b)) := Nat.pow_le_pow_right (by decide) (by omega)
      exact lt_of_lt_of_le (Bool.toNat_lt _) h2
    rw [h, Bool.and_false, Bool.or_false]

/-- Descrambling leaves SYNC as it is (R89). -/
theorem descramble_sync (w : BitVec 160) (r : BitVec 58) : ffield (descramble w r).1 0 1 = ffield w 0 1 := by
  have h : ∀ i, 158 ≤ i → (descramble w r).1.getLsbD i = w.getLsbD i := fun i hi => by
    rw [descramble, descrambleFrom_high _ _ _ _ _ _ (by decide) (by omega), BitVec.getLsbD_and, BitVec.getLsbD_shiftLeft]
    by_cases h160 : i < 160
    · obtain rfl | rfl : i = 158 ∨ i = 159 := by omega
      all_goals exact Bool.and_true _
    · rw [BitVec.getLsbD_of_ge _ _ (by omega), Bool.false_and]
  refine congrArg BitVec.toNat (BitVec.eq_of_getLsbD_eq fun i hi => ?_)
  rw [BitVec.getLsbD_extractLsb', BitVec.getLsbD_extractLsb', h _ (by omega)]

/-! ## What the end of a frame leaves -/

/-- A change that leaves the registers, the memory, the time and the pair's state but for the finding it holds. -/
structure State.Noticed (s t : State) : Prop where
  keeps : Keeps s t []
  time : t.time = s.time
  pair : ∃ q, t.pair = { s.pair with found := q }

theorem State.noticed_noteFinding {s x : State} (h : s.Noticed x) : s.Noticed x.noteFinding := by
  obtain ⟨hk, ht, q, hp⟩ := h
  unfold State.noteFinding
  split
  · exact ⟨hk.trans (.of (fun _ _ _ => rfl) rfl rfl), ht, _, by rw [State.onPair, hp]⟩
  · exact ⟨hk, ht, q, hp⟩

/-- The end of a good frame: a partner that holds ACTIVE ends the wait of soft start, and the claim wire is watched. -/
def State.laneEnd (s : State) (active was : Bool) : State :=
  let s := if active then { s with boot := { s.boot with softWait := false } } else s
  if s.claimWire && !was then s.raise (E.CLAIM_WIRE 0) else s

theorem State.noticed_laneEnd (s : State) (active was : Bool) : s.Noticed (s.laneEnd active was).noteFinding := by
  refine State.noticed_noteFinding ?_
  unfold State.laneEnd
  extract_lets b x
  have hx : Keeps s x [] ∧ x.time = s.time ∧ x.pair = s.pair := by
    refine ⟨?_, ite_part State.time rfl rfl, ite_part State.pair rfl rfl⟩
    simp only [x]
    split
    · exact .of (fun _ _ _ => rfl) rfl rfl
    · exact .refl s _
  obtain ⟨hk, ht, hp⟩ := hx
  clear_value x
  split
  · exact ⟨hk.raise (by decide), by rw [State.raise_time, ht], s.pair.found, by rw [State.raise_pair, hp]⟩
  · exact ⟨hk, ht, s.pair.found, hp⟩

/-! ## A bad frame -/

section
variable (s : State)

/-- What a bad frame of a lane shows. -/
def State.LaneBad (s : State) (lane : Nat) (t : State) : Prop :=
  vget t.pair.bad lane 0 = min (vget s.pair.bad lane 0 + 1) 3 ∧
    (2 ≤ vget s.pair.bad lane 0 → t.bit Reg.PAIR_TDSTAT (3 + lane) = false) ∧
    (vget s.pair.bad lane 0 < 2 → t.rd Reg.PAIR_TDSTAT = s.rd Reg.PAIR_TDSTAT) ∧
    (2 ≤ vget s.pair.bad lane 0 → s.bit Reg.PAIR_TDSTAT (3 + lane) = true → vget s.pair.bad (1 - lane) 0 < 3 →
      Raised s t (E.TANDEM_LANE lane)) ∧ Keeps s t [Reg.PAIR_TDSTAT]

theorem State.laneBad_bad {lane : Nat} (hl : lane < 2) : s.LaneBad lane (s.laneBad lane) := by
  unfold State.laneBad
  extract_lets n x y
  have hb : vget x.pair.bad lane 0 = n := vget_vset_same _ _ _ _ hl
  have hb' : vget x.pair.bad (1 - lane) 0 = vget s.pair.bad (1 - lane) 0 := vget_vset_ne _ _ _ _ _ (by omega)
  have hx : Keeps s x [Reg.PAIR_TDSTAT] ∧ x.evq = s.evq := ⟨.of (fun _ _ _ => rfl) rfl rfl, rfl⟩
  have hrx : x.rd Reg.PAIR_TDSTAT = s.rd Reg.PAIR_TDSTAT := rfl
  have hy : y.pair = x.pair ∧ y.evq = x.evq := ⟨rfl, rfl⟩
  have hyb : y.bit Reg.PAIR_TDSTAT (3 + lane) = false := State.bit_setBit _ _ _ _ (by omega)
  have hyk : Keeps x y [Reg.PAIR_TDSTAT] := (Keeps.refl x _).setBit _ _ (by simp)
  clear_value x y
  have hn : n = min (vget s.pair.bad lane 0 + 1) 3 := rfl
  clear_value n
  by_cases hc : n = 3 ∧ x.bit Reg.PAIR_TDSTAT (3 + lane) = true
  · rw [if_pos (by rw [hc.1, hc.2]; rfl)]
    split
    next h3 =>
      refine ⟨by rw [State.raise_pair, hy.1, hb, hn], fun _ => ?_, fun h => by omega, fun _ _ _ => .of (List.Subset.refl _) (hy.2.trans hx.2),
        (hx.1.trans hyk).raise (by decide : 52 < 256)⟩
      rw [State.bit, State.rd_raise _ _ _ _ _ (by decide) (by decide) (by decide), ← State.bit, hyb]
    next h3 =>
      rw [hy.1, hb'] at h3
      exact ⟨by rw [hy.1, hb, hn], fun _ => hyb, fun h => by omega, fun _ _ h => absurd h h3, hx.1.trans hyk⟩
  · rw [if_neg (by simpa using hc)]
    refine ⟨by rw [hb, hn], fun h => ?_, fun _ => hrx, fun h h' _ => absurd ⟨by omega, ?_⟩ hc, hx.1⟩
    · exact Bool.eq_false_of_not_eq_true fun hb => hc ⟨by omega, hb⟩
    · rw [State.bit, hrx]
      exact h'

/-- The receiver of a lane alone changes what a bad frame shows in nothing. -/
theorem State.LaneBad.seen {lane : Nat} {l : Vector TdLane 2} {t : State} (h : (s.onPair (fun p => { p with lanes := l })).LaneBad lane t) :
    s.LaneBad lane t.noteFinding := by
  obtain ⟨h1, h2, h3, h4, h5⟩ := h
  have hn : t.Noticed t.noteFinding := State.noticed_noteFinding ⟨.refl t _, rfl, _, rfl⟩
  have hr : t.noteFinding.rd Reg.PAIR_TDSTAT = t.rd Reg.PAIR_TDSTAT := hn.keeps.1 _ (by simp) (by decide)
  have he : t.noteFinding.evq = t.evq := by
    unfold State.noteFinding
    split <;> rfl
  obtain ⟨q, hq⟩ := hn.pair
  refine ⟨by rw [hq]; exact h1, fun h => ?_, fun h => hr.trans (h3 h), fun a b c => (h4 a b c).mono (by rw [he]; exact List.Subset.refl _), ?_⟩
  · rw [State.bit, hr]
    exact h2 h
  · exact Keeps.trans (s := s) h5 (hn.keeps.mono (by simp))

end

/-! ## A good frame -/

/-- The receiver of a lane once it has seen these line bits. -/
def State.laneSeen (s : State) (lane : Nat) (w : BitVec 160) : State :=
  s.onLane lane (fun l => { l with
    dsc := (descramble w (vget s.pair.lanes lane TdLane.initial).dsc).2
    aln := (noteSync (vget s.pair.lanes lane TdLane.initial).aln (vget s.pair.lanes lane TdLane.initial).lost (ffield w 0 1 == 1)).1
    lost := (noteSync (vget s.pair.lanes lane TdLane.initial).aln (vget s.pair.lanes lane TdLane.initial).lost (ffield w 0 1 == 1)).2 })

/-- What every good frame shows. -/
def State.GoodShown (lane : Nat) (f : BitVec 160) (t : State) : Prop :=
  vget t.pair.bad lane 0 = 0 ∧ t.fld Reg.PAIR_CLAIM 31 16 = ffield f 4 19 ∧ t.bit Reg.PAIR_STAT 24 = true

/-- A change that leaves what a good frame shows. -/
structure State.GoodKept (s t : State) : Prop where
  bad : t.pair.bad = s.pair.bad
  claim : t.fld Reg.PAIR_CLAIM 31 16 = s.fld Reg.PAIR_CLAIM 31 16
  up : t.bit Reg.PAIR_STAT 24 = s.bit Reg.PAIR_STAT 24

section
variable {s t u : State}

theorem State.GoodKept.trans (h : s.GoodKept t) (g : t.GoodKept u) : s.GoodKept u :=
  ⟨g.bad.trans h.bad, g.claim.trans h.claim, g.up.trans h.up⟩

theorem State.GoodKept.shown {lane : Nat} {f : BitVec 160} (h : s.GoodKept t) (hs : State.GoodShown lane f s) : State.GoodShown lane f t :=
  ⟨by rw [h.bad]; exact hs.1, h.claim.trans hs.2.1, h.up.trans hs.2.2⟩

/-- A frame that leaves the claim and the link's bit. -/
theorem State.GoodKept.frame {R : Nat → Nat → Prop} {E : Nat → Prop} (h : State.Frame R E s t) (hb : t.pair.bad = s.pair.bad)
    (hc : ∀ i, ¬ R Reg.PAIR_CLAIM i) (hu : ¬ R Reg.PAIR_STAT 24) : s.GoodKept t :=
  ⟨hb, h.field (fun i _ _ _ => hc i) (by decide), h.bits _ 24 (by decide) hu (by decide)⟩

theorem State.Noticed.goodKept (h : s.Noticed t) : s.GoodKept t := by
  obtain ⟨q, hq⟩ := h.pair
  exact ⟨by rw [hq], congrArg (fun w => fieldOf w 31 16) (h.keeps.1 _ (by simp) (by decide)),
    congrArg (fun w => bitOf w 24) (h.keeps.1 _ (by simp) (by decide))⟩

end

section
variable (s : State)

/-- A good frame ends the lane's bad run and shows the claim. -/
def State.laneShown (lane : Nat) (claim : BitVec 16) : State :=
  let s := s.onPair (fun p => { p with bad := vset p.bad lane 0, seen := true })
  (s.put Reg.PAIR_CLAIM 31 16 claim.toNat).setBit Reg.PAIR_STAT 24 true

/-- What a good frame brings is taken: its content where the link is UP, or a PROBE of ALIGN. -/
def State.laneTakes (lane : Nat) (f : BitVec 160) (arrival : Int) (x : TandemContent) (claim : BitVec 16) : State :=
  if s.tdmUp then
    let s := s.setBit Reg.PAIR_TDSTAT (3 + lane) true
    if s.halted then s else s.rxContent claim (BitVec.ofNat 8 (ffield f 20 27)) arrival x
  else if s.tdState == 3 && tandemKind x == 2 then s.onPair (fun p => { p with al := p.al.probe arrival })
  else s

/-- The state in which a lane's good frame has been shown. -/
def State.goodStart (lane : Nat) (w : BitVec 160) (f : BitVec 160) : State :=
  (s.laneSeen lane w).laneShown lane (BitVec.ofNat 16 (ffield f 4 19))

theorem State.goodStart_rd (lane : Nat) (w f : BitVec 160) (a : Nat) (h1 : Reg.PAIR_CLAIM ≠ a) (h2 : Reg.PAIR_STAT ≠ a) :
    (s.goodStart lane w f).rd a = s.rd a :=
  (State.rd_setBit_ne _ _ _ _ _ h2).trans (State.rd_put_ne _ _ _ _ _ _ h1)

theorem State.goodStart_keeps (lane : Nat) (w f : BitVec 160) : Keeps s (s.goodStart lane w f) [Reg.PAIR_CLAIM, Reg.PAIR_STAT] :=
  .of (fun a ha _ => s.goodStart_rd lane w f a (fun h => ha (by simp [h])) (fun h => ha (by simp [h]))) rfl rfl

theorem State.goodStart_shown {lane : Nat} (hl : lane < 2) (w f : BitVec 160) : State.GoodShown lane f (s.goodStart lane w f) := by
  refine ⟨vget_vset_same _ _ _ _ hl, ?_, State.bit_setBit _ _ _ _ (by decide)⟩
  rw [State.goodStart, State.laneShown, State.fld, State.rd_setBit_ne _ _ _ _ _ (by decide), ← State.fld, State.fld_put _ _ _ _ _ (by decide)]
  have h : ffield f 4 19 < 2 ^ 16 := (f.extractLsb' 140 16).isLt
  rw [BitVec.toNat_ofNat, Nat.mod_eq_of_lt h, Nat.mod_eq_of_lt h]

theorem State.goodStart_role (lane : Nat) (w f : BitVec 160) : (s.goodStart lane w f).role = s.role := by
  refine (State.fld_put_disj _ _ _ _ _ _ _ (by decide) (.inr (by decide))).trans ?_
  exact congrArg (fun w => fieldOf w 29 28) (State.rd_put_ne _ _ _ _ _ _ (by decide))

theorem State.goodStart_tdmUp (lane : Nat) (w f : BitVec 160) : (s.goodStart lane w f).tdmUp = s.tdmUp :=
  congrArg (fun w => fieldOf w 2 0 == 5) (s.goodStart_rd lane w f _ (by decide) (by decide))

theorem State.goodStart_tdState (lane : Nat) (w f : BitVec 160) : (s.goodStart lane w f).tdState = s.tdState :=
  congrArg (fun w => fieldOf w 2 0) (s.goodStart_rd lane w f _ (by decide) (by decide))

/-- What a lane receives of line bits: the frame where the receiver is aligned and the frame good. -/
theorem State.laneRx_some (lane : Nat) (w : BitVec 160) : s.laneRx lane (some w) =
    (if (noteSync (vget s.pair.lanes lane TdLane.initial).aln (vget s.pair.lanes lane TdLane.initial).lost (ffield w 0 1 == 1)).1 = 64 &&
        tandemGood (descramble w (vget s.pair.lanes lane TdLane.initial).dsc).1
      then some (descramble w (vget s.pair.lanes lane TdLane.initial).dsc).1 else none, s.laneSeen lane w) := by
  rw [State.laneRx, State.laneSeen]

section
variable (lane : Fin 2) (w : BitVec 160) (arrival : Int) (content : TandemContent) (hr : s.runs = true) (hp : s.unit.pairMode = true)
  (ht : s.tdState ≠ 0)
include hr hp ht

theorem State.exec_tandemFrame_none {line : Option (BitVec 160)} {x : State} (hx : s.laneRx lane line = (none, x)) :
    exec (.tandemFrame lane line arrival content) s = .next (x.laneBad lane).noteFinding := by
  change execTandemFrame lane line arrival content s = _
  unfold execTandemFrame
  rw [if_neg (by simp [hr, hp, ht]), hx]

theorem State.exec_tandemFrame_some {line : Option (BitVec 160)} {f : BitVec 160} {x : State} (hx : s.laneRx lane line = (some f, x)) :
    exec (.tandemFrame lane line arrival content) s = .next (x.laneGood lane f arrival (contentOf f content)).noteFinding := by
  change execTandemFrame lane line arrival content s = _
  unfold execTandemFrame
  rw [if_neg (by simp [hr, hp, ht]), hx]

theorem State.exec_tandemFrame_good (f : BitVec 160) (hf : (descramble w (vget s.pair.lanes lane TdLane.initial).dsc).1 = f)
    (ha : (noteSync (vget s.pair.lanes lane TdLane.initial).aln (vget s.pair.lanes lane TdLane.initial).lost (ffield f 0 1 == 1)).1 = 64)
    (hg : tandemGood f = true) :
    exec (.tandemFrame lane (some w) arrival content) s =
      .next ((((s.goodStart lane w f).laneTakes lane f arrival (contentOf f content) (BitVec.ofNat 16 (ffield f 4 19))).laneEnd
        ((BitVec.ofNat 16 (ffield f 4 19)).getLsbD 15) (s.laneSeen lane w).claimWire).noteFinding) := by
  have hs : ffield f 0 1 = ffield w 0 1 := by rw [← hf, descramble_sync]
  refine s.exec_tandemFrame_some lane arrival content hr hp ht ?_
  rw [State.laneRx_some, hf, if_pos (by rw [← hs, ha, hg]; rfl)]

theorem State.exec_tandemFrame_bad (line : Option (BitVec 160))
    (h : ∀ w, line = some w → (noteSync (vget s.pair.lanes lane TdLane.initial).aln (vget s.pair.lanes lane TdLane.initial).lost
        (ffield (descramble w (vget s.pair.lanes lane TdLane.initial).dsc).1 0 1 == 1)).1 ≠ 64 ∨
      tandemGood (descramble w (vget s.pair.lanes lane TdLane.initial).dsc).1 = false) :
    ∃ l : Vector TdLane 2, exec (.tandemFrame lane line arrival content) s =
      .next ((s.onPair (fun p => { p with lanes := l })).laneBad lane).noteFinding := by
  cases line with
  | none => exact ⟨s.pair.lanes, s.exec_tandemFrame_none lane arrival content hr hp ht rfl⟩
  | some w =>
    have h := h w rfl
    rw [descramble_sync] at h
    refine ⟨_, s.exec_tandemFrame_none lane arrival content hr hp ht ((s.laneRx_some lane w).trans (congrArg (·, s.laneSeen lane w) (if_neg ?_)))⟩
    intro hc
    rw [Bool.and_eq_true, decide_eq_true_eq] at hc
    rcases h with h | h
    · exact h hc.1
    · exact absurd (h.symm.trans hc.2) Bool.false_ne_true

theorem State.tandemFrame_bad (line : Option (BitVec 160))
    (h : ∀ w, line = some w → (noteSync (vget s.pair.lanes lane TdLane.initial).aln (vget s.pair.lanes lane TdLane.initial).lost
        (ffield (descramble w (vget s.pair.lanes lane TdLane.initial).dsc).1 0 1 == 1)).1 ≠ 64 ∨
      tandemGood (descramble w (vget s.pair.lanes lane TdLane.initial).dsc).1 = false) :
    Completes (.tandemFrame lane line arrival content) s (s.LaneBad lane) := by
  obtain ⟨l, hx⟩ := s.exec_tandemFrame_bad lane arrival content hr hp ht line h
  exact ⟨_, hx, State.LaneBad.seen _ (State.laneBad_bad _ lane.isLt)⟩

end

end

end Sys2Proof.Machine
end

section
/-!
PROOFS. What a good frame of the tandem link brings (O41).
-/

namespace Sys2Proof.Machine

/-! ## FRAME -/

section
variable (s : State)

/-- The timeline that a FRAME loads after an alignment, or a drift that it finds. -/
def State.frameLoads (gfc : Nat) (fcnt : BitVec 8) (arrival : Int) : State :=
  if s.pair.load && s.role != 2 then s.loadTimeline gfc fcnt
  else if s.bit Reg.PAIR_STAT 25 && s.aligns && (decide (gfc ≠ s.gfcN) || decide (4 < (arrival - s.pair.al.arr).natAbs)) then s.realign
  else s

/-- The incoming frame of an outgoing swap's G_h. -/
def State.frameSwaps (gfc : Nat) (act : Bool) : State :=
  match s.pair.swap with
  | some x =>
    if x.out && s.role == 1 && decide (gfc = x.gh) then
      (if act then s.onPair (fun p => { p with swap := none }) else s.onPair (fun p => { p with finding := some 9 }))
    else s
  | none => s

theorem State.rxFrame_eq (gfc sec ns : Nat) (fcnt : BitVec 8) (arrival : Int) (claim : BitVec 16) :
    s.rxFrame gfc sec ns fcnt arrival claim =
      (if ((s.onPair (fun p => p.noteFrame gfc claim)).frameLoads gfc fcnt arrival).role != 2 && claim.getLsbD 15
        then ((s.onPair (fun p => p.noteFrame gfc claim)).frameLoads gfc fcnt arrival).followWall sec ns
        else (s.onPair (fun p => p.noteFrame gfc claim)).frameLoads gfc fcnt arrival).frameSwaps gfc (claim.getLsbD 15) := rfl

theorem State.frameSwaps_parts (gfc : Nat) (act : Bool) : (s.frameSwaps gfc act).reg = s.reg ∧ (s.frameSwaps gfc act).time = s.time ∧
    (s.frameSwaps gfc act).pair.bad = s.pair.bad ∧ (s.frameSwaps gfc act).pair.load = s.pair.load := by
  unfold State.frameSwaps
  split
  · split
    · split <;> exact ⟨rfl, rfl, rfl, rfl⟩
    · exact ⟨rfl, rfl, rfl, rfl⟩
  · exact ⟨rfl, rfl, rfl, rfl⟩

/-- What a drift writes. -/
def driftReg (a i : Nat) : Prop := a = Reg.PAIR_TDSTAT ∨ (a = Reg.PAIR_STAT ∧ i = 25) ∨ a = Reg.PAIR_SYNC

theorem State.frame_realign : State.Frame driftReg (fun _ => True) s s.realign := by
  unfold State.realign
  extract_lets al x y
  have h0 : State.Frame driftReg (fun _ => True) s (s.setTd 3) := (State.Frame.refl s).put _ _ _ _ fun _ _ _ _ => .inl rfl
  have hx : State.Frame driftReg (fun _ => True) s x := (h0.onPair _).setBit _ _ _ (.inr (.inl ⟨rfl, rfl⟩))
  have hy : State.Frame driftReg (fun _ => True) x y := .ite (.put (.refl x) _ _ _ _ (fun _ _ _ _ => .inr (.inr rfl))) (.refl x)
  exact (hx.trans hy).raise _ (by decide) (.inl trivial)

theorem State.realign_pair : s.realign.pair.bad = s.pair.bad ∧ s.realign.pair.load = s.pair.load := by
  unfold State.realign
  extract_lets al x y
  have hy : y.pair = x.pair := ite_part State.pair rfl rfl
  rw [State.raise_pair, hy]
  exact ⟨rfl, rfl⟩

/-- What a FRAME leaves of the timeline: the role, and the time where nothing is loaded. -/
theorem State.frameLoads_shows (gfc : Nat) (fcnt : BitVec 8) (arrival : Int) (hr : s.role ≠ 2) :
    s.GoodKept (s.frameLoads gfc fcnt arrival) ∧ (s.frameLoads gfc fcnt arrival).role = s.role ∧
      (s.pair.load = true → (s.frameLoads gfc fcnt arrival).time.gfc = BitVec.ofNat 32 gfc ∧ (s.frameLoads gfc fcnt arrival).time.fcnt = fcnt ∧
        (s.frameLoads gfc fcnt arrival).pair.load = false) := by
  unfold State.frameLoads
  cases hl : s.pair.load with
  | true =>
    rw [if_pos (by rw [Bool.true_and]; exact bne_iff_ne.mpr hr)]
    exact ⟨⟨rfl, rfl, rfl⟩, rfl, fun _ => ⟨rfl, rfl, rfl⟩⟩
  | false =>
    rw [if_neg (by rw [Bool.false_and]; exact Bool.false_ne_true)]
    split
    · have hf := s.frame_realign
      refine ⟨.frame hf s.realign_pair.1 (fun i => ?_) ?_, hf.field (fun i _ h _ => ?_) (by decide), fun h => absurd h Bool.false_ne_true⟩
      all_goals
        simp only [driftReg, Reg.PAIR_CLAIM, Reg.PAIR_STAT, Reg.PAIR_TDSTAT, Reg.PAIR_SYNC]
        omega
    · exact ⟨⟨rfl, rfl, rfl⟩, rfl, fun h => absurd h Bool.false_ne_true⟩

theorem State.followWall_shows {sec ns : Nat} (hs : sec < 2 ^ 48) (hn : ns < 1000000000) : s.GoodKept (s.followWall sec ns) ∧
    (s.followWall sec ns).time.wallSec = sec ∧ (s.followWall sec ns).time.wallNs = ns ∧ (s.followWall sec ns).bit Reg.TIM_WALLSTAT 4 = true ∧
    (s.followWall sec ns).time.gfc = s.time.gfc ∧ (s.followWall sec ns).time.fcnt = s.time.fcnt ∧ (s.followWall sec ns).pair.load = s.pair.load := by
  obtain ⟨tm, hw, hg, hc, hf⟩ : ∃ tm : TimeSt, tm.wall = (sec % 2 ^ 48 * 1000000000 + ns) * wallUnit ∧ tm.gfc = s.time.gfc ∧
      tm.fcnt = s.time.fcnt ∧ s.followWall sec ns = { s with time := tm }.setBit Reg.TIM_WALLSTAT 4 true :=
    ⟨{ s.time with wall := (sec % 2 ^ 48 * 1000000000 + ns) * wallUnit, rem := 0, slew := none, step := none }, rfl, rfl, rfl, rfl⟩
  rw [wallUnit] at hw
  rw [hf, State.setBit_time, State.setBit_pair]
  refine ⟨⟨rfl, ?_, ?_⟩, ?_, ?_, State.bit_setBit _ _ _ _ (by decide), hg, hc, rfl⟩
  · exact congrArg (fun w => fieldOf w 31 16) (State.rd_setBit_ne _ _ _ _ _ (by decide))
  · exact congrArg (fun w => bitOf w 24) (State.rd_setBit_ne _ _ _ _ _ (by decide))
  · rw [TimeSt.wallSec, hw]
    omega
  · rw [TimeSt.wallNs, hw]
    omega

/-- A FRAME of the unit that holds ACTIVE, at a unit that does not. -/
theorem State.rxFrame_follows (gfc : Nat) {sec ns : Nat} (fcnt : BitVec 8) (arrival : Int) (claim : BitVec 16) (hr : s.role ≠ 2)
    (ha : claim.getLsbD 15 = true) (hs : sec < 2 ^ 48) (hn : ns < 1000000000) :
    let t := s.rxFrame gfc sec ns fcnt arrival claim
    s.GoodKept t ∧ t.time.wallSec = sec ∧ t.time.wallNs = ns ∧ t.bit Reg.TIM_WALLSTAT 4 = true ∧
      (s.pair.load = true → t.time.gfc = BitVec.ofNat 32 gfc ∧ t.time.fcnt = fcnt ∧ t.pair.load = false) := by
  intro t
  have ht : t = s.rxFrame gfc sec ns fcnt arrival claim := rfl
  clear_value t
  obtain ⟨l1, l2, l3⟩ := (s.onPair (fun p => p.noteFrame gfc claim)).frameLoads_shows gfc fcnt arrival hr
  rw [State.rxFrame_eq] at ht
  generalize (s.onPair (fun p => p.noteFrame gfc claim)).frameLoads gfc fcnt arrival = x at ht l1 l2 l3
  have hx : x.role ≠ 2 := by rw [l2]; exact hr
  rw [if_pos (by rw [ha, Bool.and_true]; exact bne_iff_ne.mpr hx)] at ht
  obtain ⟨w1, w2, w3, w4, w5, w6, w7⟩ := x.followWall_shows hs hn
  generalize x.followWall sec ns = y at ht w1 w2 w3 w4 w5 w6 w7
  obtain ⟨p1, p2, p3, p4⟩ := y.frameSwaps_parts gfc (claim.getLsbD 15)
  have hrd : ∀ a, (y.frameSwaps gfc (claim.getLsbD 15)).rd a = y.rd a := fun a => congrArg (cellsGet regReset · a) p1
  have hk : y.GoodKept (y.frameSwaps gfc (claim.getLsbD 15)) :=
    ⟨p3, congrArg (fun w => fieldOf w 31 16) (hrd _), congrArg (fun w => bitOf w 24) (hrd _)⟩
  have h0 : s.GoodKept (s.onPair (fun p => p.noteFrame gfc claim)) := ⟨rfl, rfl, rfl⟩
  rw [ht]
  refine ⟨((h0.trans l1).trans w1).trans hk, by rw [p2, w2], by rw [p2, w3], ?_, fun hl => ?_⟩
  · rw [State.bit, hrd]
    exact w4
  · obtain ⟨m1, m2, m3⟩ := l3 hl
    exact ⟨by rw [p2, w5, m1], by rw [p2, w6, m2], by rw [p4, w7, m3]⟩

/-- A FRAME at the unit that holds ACTIVE moves neither WALL nor the timeline. -/
theorem State.rxFrame_active (gfc sec ns : Nat) (fcnt : BitVec 8) (arrival : Int) (claim : BitVec 16) (hr : s.role = 2) :
    s.GoodKept (s.rxFrame gfc sec ns fcnt arrival claim) ∧ (s.rxFrame gfc sec ns fcnt arrival claim).time = s.time := by
  have hx : (s.onPair (fun p => p.noteFrame gfc claim)).frameLoads gfc fcnt arrival = s.onPair (fun p => p.noteFrame gfc claim) := by
    have h2 : (s.onPair (fun p => p.noteFrame gfc claim)).role = 2 := hr
    have ha : (s.onPair (fun p => p.noteFrame gfc claim)).aligns = false := by rw [State.aligns, h2]; rfl
    exact (if_neg (by rw [h2]; simp)).trans (if_neg (by rw [ha]; simp))
  rw [State.rxFrame_eq, hx, if_neg (by rw [show (s.onPair (fun p => p.noteFrame gfc claim)).role = 2 from hr]; simp)]
  obtain ⟨p1, p2, p3, p4⟩ := (s.onPair (fun p => p.noteFrame gfc claim)).frameSwaps_parts gfc (claim.getLsbD 15)
  refine ⟨⟨p3, ?_, ?_⟩, p2⟩
  · exact congrArg (fun r => fieldOf (cellsGet regReset r Reg.PAIR_CLAIM) 31 16) p1
  · exact congrArg (fun r => bitOf (cellsGet regReset r Reg.PAIR_STAT) 24) p1

/-! ## STAT -/

/-- What STAT writes. -/
def statReg (a : Nat) : Prop := a = Reg.PAIR_SYNC ∨ a = Reg.SYS_TOKSTAT ∨ a = Reg.INJ_STAT

/-- The partner's part of the token as STAT shows it. -/
def State.statToken (p : PartnerStat) : State :=
  if p.tokenHeld then
    (if s.tokHeld && s.tokMine then s
     else ((((s.setBit Reg.SYS_TOKSTAT 31 true).setBit Reg.SYS_TOKSTAT 30 false).setBit Reg.SYS_TOKSTAT 28
       (!s.unit.unitB)).put Reg.SYS_TOKSTAT 27 24 p.tokenAct))
  else if s.tokHeld && !s.tokMine && s.role != 2 then s.tokFree else s

theorem State.statToken_shows (p : PartnerStat) : State.Frame (fun a _ => a = Reg.SYS_TOKSTAT ∨ a = Reg.INJ_STAT) (fun _ => True) s (s.statToken p) ∧
    (s.statToken p).pair = s.pair := by
  refine ⟨.ite (.ite (.refl s) ?_) (.ite (s.frame_tokFree (fun _ => .inr rfl) (fun _ => .inl rfl)) (.refl s)), ?_⟩
  · exact ((((State.Frame.refl s).setBit _ _ _ (.inl rfl)).setBit _ _ _ (.inl rfl)).setBit _ _ _ (.inl rfl)).put _ _ _ _ (fun _ _ _ _ => .inl rfl)
  · exact ite_part State.pair (ite_part State.pair rfl rfl) (ite_part State.pair s.tokFree_pair rfl)

/-- The partner's status is held; at the active unit its phase shows. -/
def State.statHeld (p : PartnerStat) : State :=
  let was := s.syncPhase
  let s := s.onPair (fun q => { q with partner := some p })
  if s.role == 2 then
    let s := s.setSync p.phase
    if p.phase == 4 && was != 4 then s.remountStart else s
  else s

theorem State.rxStat_eq (p : PartnerStat) (hl : p.laneTest = false) : s.rxStat p = (s.statHeld p).statToken p := by
  refine Eq.trans (if_neg ?_) rfl
  rw [hl]
  exact Bool.false_ne_true

theorem State.statHeld_shows (p : PartnerStat) : s.GoodKept (s.statHeld p) ∧ (s.statHeld p).pair.partner = some p ∧
    (s.role = 2 → (s.statHeld p).syncPhase = p.phase % 8) := by
  unfold State.statHeld
  extract_lets was x y
  have hx : s.GoodKept x ∧ x.pair.partner = some p ∧ x.role = s.role := ⟨⟨rfl, rfl, rfl⟩, rfl, rfl⟩
  have hy : x.GoodKept y ∧ y.pair = x.pair ∧ y.syncPhase = p.phase % 8 := by
    refine ⟨⟨rfl, ?_, ?_⟩, rfl, State.fld_put _ _ _ _ _ (by decide)⟩
    · exact congrArg (fun w => fieldOf w 31 16) (State.rd_put_ne _ _ _ _ _ _ (by decide))
    · exact congrArg (fun w => bitOf w 24) (State.rd_put_ne _ _ _ _ _ _ (by decide))
  clear_value x y
  obtain ⟨hk, hp, hr⟩ := hx
  obtain ⟨gk, gp, gs⟩ := hy
  split
  · split
    · exact ⟨hk.trans (gk.trans ⟨rfl, rfl, rfl⟩), (congrArg PairSt.partner gp).trans hp, fun _ => gs⟩
    · exact ⟨hk.trans gk, (congrArg PairSt.partner gp).trans hp, fun _ => gs⟩
  next h => exact ⟨hk, hp, fun h2 => absurd (by rw [hr, h2]; rfl) h⟩

theorem State.rxStat_shows (p : PartnerStat) (hl : p.laneTest = false) : s.GoodKept (s.rxStat p) ∧ (s.rxStat p).pair.partner = some p ∧
    (s.role = 2 → (s.rxStat p).syncPhase = p.phase % 8) := by
  obtain ⟨h1, h2, h3⟩ := s.statHeld_shows p
  obtain ⟨hf, hp⟩ := (s.statHeld p).statToken_shows p
  rw [s.rxStat_eq p hl]
  refine ⟨h1.trans (.frame hf (by rw [hp]) (fun _ => by decide) (by decide)), by rw [hp, h2], fun h => Eq.trans ?_ (h3 h)⟩
  exact hf.field (fun i _ _ _ => by decide) (by decide)

end

end Sys2Proof.Machine
end

section
/-!
PROOFS. The tandem link (O41).
-/

namespace Sys2Proof.Machine

/-! ## Good frames by their KIND -/

/-- The receiver of a lane with this frame is aligned and the frame is good. -/
def State.LaneTakesFrame (s : State) (lane : Nat) (w f : BitVec 160) : Prop :=
  (descramble w (vget s.pair.lanes lane TdLane.initial).dsc).1 = f ∧
    (noteSync (vget s.pair.lanes lane TdLane.initial).aln (vget s.pair.lanes lane TdLane.initial).lost (ffield f 0 1 == 1)).1 = 64 ∧
    tandemGood f = true

theorem ffield_active {f : BitVec 160} (h : ffield f 4 4 = 1) : (BitVec.ofNat 16 (ffield f 4 19)).getLsbD 15 = true := by
  have h1 : (f.extractLsb' 155 1).getLsbD 0 = true := by
    rw [show f.extractLsb' 155 1 = 1 from BitVec.eq_of_toNat_eq h]
    rfl
  rw [ffield, BitVec.ofNat_toNat, BitVec.getLsbD_setWidth, BitVec.getLsbD_extractLsb']
  rw [BitVec.getLsbD_extractLsb'] at h1
  simpa using h1

section
variable (s : State)

theorem State.laneTakes_up (lane : Nat) (f : BitVec 160) (arrival : Int) (x : TandemContent) (claim : BitVec 16) (hu : s.tdmUp = true)
    (hh : s.halted = false) : s.laneTakes lane f arrival x claim =
      (s.setBit Reg.PAIR_TDSTAT (3 + lane) true).rxContent claim (BitVec.ofNat 8 (ffield f 20 27)) arrival x := by
  have h : (s.setBit Reg.PAIR_TDSTAT (3 + lane) true).halted = false := by
    rw [State.halted, State.bit, State.rd_setBit_ne _ _ _ _ _ (by decide)]
    exact hh
  exact (if_pos hu).trans (if_neg (ne_true_of_eq_false h))

theorem State.laneTakes_idle (lane : Nat) (f : BitVec 160) (arrival : Int) (claim : BitVec 16) :
    s.laneTakes lane f arrival .idle claim = if s.tdmUp then s.setBit Reg.PAIR_TDSTAT (3 + lane) true else s := by
  have hc : ∀ x : State, (if x.halted then x else x.rxContent claim (BitVec.ofNat 8 (ffield f 20 27)) arrival .idle) = x := fun x => ite_self x
  unfold State.laneTakes
  have h2 : ¬ (s.tdState == 3 && tandemKind .idle == 2) = true := by
    rw [show (tandemKind .idle == 2) = false from rfl, Bool.and_false]
    exact Bool.false_ne_true
  rw [hc, if_neg h2]

theorem State.laneTakes_probe (lane : Nat) (f : BitVec 160) (arrival : Int) (claim : BitVec 16) (h3 : s.tdState = 3) :
    s.laneTakes lane f arrival .probe claim = s.onPair (fun p => { p with al := p.al.probe arrival }) := by
  have hu : s.tdmUp = false := by
    rw [State.tdmUp, show s.fld Reg.PAIR_TDSTAT 2 0 = 3 from h3]
    rfl
  exact (if_neg (ne_true_of_eq_false hu)).trans (if_pos (by rw [h3]; rfl))

theorem State.goodKept_tdBit (lane : Nat) : s.GoodKept (s.setBit Reg.PAIR_TDSTAT (3 + lane) true) :=
  ⟨rfl, congrArg (fun w => fieldOf w 31 16) (State.rd_setBit_ne _ _ _ _ _ (by decide)),
    congrArg (fun w => bitOf w 24) (State.rd_setBit_ne _ _ _ _ _ (by decide))⟩

theorem State.tdBit_role (lane : Nat) : (s.setBit Reg.PAIR_TDSTAT (3 + lane) true).role = s.role :=
  congrArg (fun w => fieldOf w 29 28) (State.rd_setBit_ne _ _ _ _ _ (by decide))

section
variable (lane : Fin 2) (w f : BitVec 160) (arrival : Int) (content : TandemContent) (hr : s.runs = true) (hp : s.unit.pairMode = true)
  (ht : s.tdState ≠ 0) (hf : s.LaneTakesFrame lane w f)
include hr hp ht hf

/-- A good frame of a lane: what its content leaves, but for what the end of the frame notes. -/
theorem State.goodFrame (z : State) (hz : (s.goodStart lane w f).laneTakes lane f arrival (contentOf f content)
    (BitVec.ofNat 16 (ffield f 4 19)) = z) :
    ∃ t, exec (.tandemFrame lane (some w) arrival content) s = .next t ∧ z.Noticed t ∧
      ((s.goodStart lane w f).GoodKept z → State.GoodShown lane f t) := by
  obtain ⟨h1, h2, h3⟩ := hf
  have hn := z.noticed_laneEnd ((BitVec.ofNat 16 (ffield f 4 19)).getLsbD 15) (s.laneSeen lane w).claimWire
  refine ⟨_, by rw [s.exec_tandemFrame_good lane w arrival content hr hp ht f h1 h2 h3, hz], hn, fun hk => ?_⟩
  exact (hk.trans hn.goodKept).shown (s.goodStart_shown lane.isLt w f)

theorem State.goodFrame_idle (h0 : ffield f 28 31 = 0) : Completes (.tandemFrame lane (some w) arrival content) s (fun t =>
    State.GoodShown lane f t ∧ (s.tdmUp = true → t.bit Reg.PAIR_TDSTAT (3 + lane) = true) ∧
      Keeps s t [Reg.PAIR_CLAIM, Reg.PAIR_STAT, Reg.PAIR_TDSTAT]) := by
  have hc : contentOf f content = .idle := by rw [contentOf, h0]; rfl
  obtain ⟨t, hx, hn, hg⟩ := s.goodFrame lane w f arrival content hr hp ht hf _ rfl
  rw [hc, State.laneTakes_idle, State.goodStart_tdmUp] at hn hg
  have hk0 : Keeps s (s.goodStart lane w f) [Reg.PAIR_CLAIM, Reg.PAIR_STAT, Reg.PAIR_TDSTAT] := (s.goodStart_keeps lane w f).mono (by simp)
  refine ⟨t, hx, hg ?_, fun hu => ?_, Keeps.trans ?_ (hn.keeps.mono (by simp))⟩
  · split
    · exact State.goodKept_tdBit _ lane
    · exact ⟨rfl, rfl, rfl⟩
  · rw [if_pos hu] at hn
    rw [State.bit, hn.keeps.1 _ (by simp) (by decide)]
    exact State.bit_setBit _ _ _ _ (by omega)
  · split
    · exact hk0.setBit (k := Reg.PAIR_TDSTAT) _ _ (by simp)
    · exact hk0

theorem State.goodFrame_follows (h1 : ffield f 28 31 = 1) (hu : s.tdmUp = true) (hh : s.halted = false) (h2 : s.role ≠ 2)
    (ha : ffield f 4 4 = 1) (hn : ffield f 112 141 < 1000000000) :
    Completes (.tandemFrame lane (some w) arrival content) s (fun t => State.GoodShown lane f t ∧
      t.time.wallSec = ffield f 64 111 ∧ t.time.wallNs = ffield f 112 141 ∧ t.bit Reg.TIM_WALLSTAT 4 = true ∧
      (s.pair.load = true → t.time.gfc = BitVec.ofNat 32 (ffield f 32 63) ∧ t.time.fcnt = BitVec.ofNat 8 (ffield f 20 27) ∧
        t.pair.load = false)) := by
  have hc : contentOf f content = .frame (ffield f 32 63) (ffield f 64 111) (ffield f 112 141) (ffield f 142 143) := by rw [contentOf, h1]; rfl
  have hhs : (s.goodStart lane w f).halted = false := by
    rw [State.halted, State.bit, State.goodStart_rd _ _ _ _ _ (by decide) (by decide)]
    exact hh
  have hus : (s.goodStart lane w f).tdmUp = true := (s.goodStart_tdmUp lane w f).trans hu
  obtain ⟨t, hx, hnt, hg⟩ := s.goodFrame lane w f arrival content hr hp ht hf _ rfl
  rw [hc, State.laneTakes_up _ _ _ _ _ _ hus hhs] at hnt hg
  have hrole : ((s.goodStart lane w f).setBit Reg.PAIR_TDSTAT (3 + lane) true).role ≠ 2 := by
    rw [State.tdBit_role, State.goodStart_role]
    exact h2
  have hsec : ffield f 64 111 < 2 ^ 48 := (f.extractLsb' 48 48).isLt
  obtain ⟨k1, k2, k3, k4, k5⟩ := State.rxFrame_follows _ (ffield f 32 63) (BitVec.ofNat 8 (ffield f 20 27)) arrival
    (BitVec.ofNat 16 (ffield f 4 19)) hrole (ffield_active ha) hsec hn
  obtain ⟨q, hq⟩ := hnt.pair
  refine ⟨t, hx, hg ((State.goodKept_tdBit _ lane).trans k1), by rw [hnt.time]; exact k2, by rw [hnt.time]; exact k3, ?_, fun hl => ?_⟩
  · rw [State.bit, hnt.keeps.1 _ (by simp) (by decide)]
    exact k4
  · obtain ⟨m1, m2, m3⟩ := k5 hl
    exact ⟨by rw [hnt.time]; exact m1, by rw [hnt.time]; exact m2, by rw [hq]; exact m3⟩

theorem State.goodFrame_leads (h1 : ffield f 28 31 = 1) (hu : s.tdmUp = true) (hh : s.halted = false) (h2 : s.role = 2) :
    Completes (.tandemFrame lane (some w) arrival content) s (fun t => State.GoodShown lane f t ∧ t.time = s.time) := by
  have hc : contentOf f content = .frame (ffield f 32 63) (ffield f 64 111) (ffield f 112 141) (ffield f 142 143) := by rw [contentOf, h1]; rfl
  have hhs : (s.goodStart lane w f).halted = false := by
    rw [State.halted, State.bit, State.goodStart_rd _ _ _ _ _ (by decide) (by decide)]
    exact hh
  have hus : (s.goodStart lane w f).tdmUp = true := (s.goodStart_tdmUp lane w f).trans hu
  obtain ⟨t, hx, hnt, hg⟩ := s.goodFrame lane w f arrival content hr hp ht hf _ rfl
  rw [hc, State.laneTakes_up _ _ _ _ _ _ hus hhs] at hnt hg
  have hrole : ((s.goodStart lane w f).setBit Reg.PAIR_TDSTAT (3 + lane) true).role = 2 := by
    rw [State.tdBit_role, State.goodStart_role]
    exact h2
  obtain ⟨k1, k2⟩ := State.rxFrame_active _ (ffield f 32 63) (ffield f 64 111) (ffield f 112 141) (BitVec.ofNat 8 (ffield f 20 27)) arrival
    (BitVec.ofNat 16 (ffield f 4 19)) hrole
  exact ⟨t, hx, hg ((State.goodKept_tdBit _ lane).trans k1), hnt.time.trans k2⟩

theorem State.goodFrame_probe (h2 : ffield f 28 31 = 2) (h3 : s.tdState = 3) (hn : s.pair.al.n < 256) :
    Completes (.tandemFrame lane (some w) arrival content) s (fun t => State.GoodShown lane f t ∧ t.pair.al.n = s.pair.al.n + 1 ∧
      t.pair.al.sum = s.pair.al.sum + arrival ∧ Keeps s t [Reg.PAIR_CLAIM, Reg.PAIR_STAT]) := by
  have hc : contentOf f content = .probe := by rw [contentOf, h2]; rfl
  obtain ⟨t, hx, hnt, hg⟩ := s.goodFrame lane w f arrival content hr hp ht hf _ rfl
  rw [hc, State.laneTakes_probe _ _ _ _ _ ((s.goodStart_tdState lane w f).trans h3)] at hnt hg
  obtain ⟨q, hq⟩ := hnt.pair
  have ha : t.pair.al = s.pair.al.probe arrival := by rw [hq]; rfl
  rw [TdAlign.probe, if_pos hn] at ha
  refine ⟨t, hx, hg ⟨rfl, rfl, rfl⟩, by rw [ha], by rw [ha], (s.goodStart_keeps lane w f).trans (Keeps.trans ?_ (hnt.keeps.mono (by simp)))⟩
  exact .of (fun _ _ _ => rfl) rfl rfl

theorem State.goodFrame_stat (p : PartnerStat) (h3 : ffield f 28 31 = 3) (hu : s.tdmUp = true) (hh : s.halted = false) (hl : p.laneTest = false) :
    Completes (.tandemFrame lane (some w) arrival (.stat p)) s (fun t => State.GoodShown lane f t ∧ t.pair.partner = some p ∧
      (s.role = 2 → t.syncPhase = p.phase % 8)) := by
  have hc : contentOf f (.stat p) = .stat p := by
    rw [contentOf, h3]
    rfl
  have hhs : (s.goodStart lane w f).halted = false := by
    rw [State.halted, State.bit, State.goodStart_rd _ _ _ _ _ (by decide) (by decide)]
    exact hh
  have hus : (s.goodStart lane w f).tdmUp = true := (s.goodStart_tdmUp lane w f).trans hu
  obtain ⟨t, hx, hnt, hg⟩ := s.goodFrame lane w f arrival (.stat p) hr hp ht hf _ rfl
  rw [hc, State.laneTakes_up _ _ _ _ _ _ hus hhs] at hnt hg
  obtain ⟨k1, k2, k3⟩ := ((s.goodStart lane w f).setBit Reg.PAIR_TDSTAT (3 + lane) true).rxStat_shows p hl
  obtain ⟨q, hq⟩ := hnt.pair
  refine ⟨t, hx, hg ((State.goodKept_tdBit _ lane).trans k1), by rw [hq]; exact k2, fun h => ?_⟩
  rw [State.syncPhase, State.fld, hnt.keeps.1 _ (by simp) (by decide)]
  exact k3 (by rw [State.tdBit_role, State.goodStart_role]; exact h)

end

end

end Sys2Proof.Machine
end

section
/-!
PROOFS. The training of the tandem link, and its loss (O41).
-/

namespace Sys2Proof.Machine

section
variable (s : State)

/-! ## The states of training -/

theorem State.setTd_tdState {st : Nat} (h : st < 8) : (s.setTd st).tdState = st :=
  (State.fld_put _ _ _ _ _ (by decide)).trans (Nat.mod_eq_of_lt h)

theorem State.tandemProbe_shows (f : TdAlign → TdAlign) : (s.tandemProbe f).tdState = 3 ∧ (s.tandemProbe f).pair.al = f s.pair.al ∧
    Keeps s (s.tandemProbe f) [Reg.PAIR_TDSTAT] :=
  ⟨s.setTd_tdState (by decide), rfl,
    ((Keeps.refl s _).put (k := Reg.PAIR_TDSTAT) _ _ _ (by simp)).trans (.of (fun _ _ _ => rfl) rfl rfl)⟩

theorem State.tandemFail_shows {c : Nat} (hc : c < 16) : (s.tandemFail c).tdState = 6 ∧ (s.tandemFail c).fld Reg.PAIR_TDSTAT 11 8 = c ∧
    Keeps s (s.tandemFail c) [Reg.PAIR_TDSTAT] := by
  refine ⟨State.setTd_tdState _ (by decide), ?_,
    ((Keeps.refl s _).put (k := Reg.PAIR_TDSTAT) _ _ _ (by simp)).put (k := Reg.PAIR_TDSTAT) _ _ _ (by simp)⟩
  refine (State.fld_put_disj _ _ _ _ _ _ _ (by decide) (.inr (by decide))).trans ?_
  exact (State.fld_put _ _ _ _ _ (by decide)).trans (Nat.mod_eq_of_lt hc)

section
variable (hr : s.runs = true) (hp : s.unit.pairMode = true)
include hr

theorem State.exec_tandemStep (r : TrainReply) : exec (.linkTrainingStep 16 r) s = .next (s.tandemStep r) := (if_pos hr).trans rfl

include hp

theorem State.exec_tandemWaited (h6 : s.tdState = 6) : exec (.retrainWaitExpiry 16) s = .next s.tandemLock.flushCrossing := by
  refine (if_neg (by rw [hr]; decide)).trans ((if_neg (by decide)).trans ?_)
  exact congrArg _ (if_pos (by rw [h6, hp]; rfl))

theorem State.tandemWaited_completes (h6 : s.tdState = 6) : Completes (.retrainWaitExpiry 16) s (fun t => t.tdState = 1 ∧
    t.pair.al = TdAlign.initial ∧ Keeps s t [Reg.PAIR_TDSTAT, Reg.TIM_CDCFLUSH]) := by
  have hk : Keeps s s.tandemLock [Reg.PAIR_TDSTAT, Reg.TIM_CDCFLUSH] :=
    ((Keeps.refl s _).put (k := Reg.PAIR_TDSTAT) _ _ _ (by simp)).trans (.of (fun _ _ _ => rfl) rfl rfl)
  refine ⟨_, s.exec_tandemWaited hr hp h6, ?_, ?_, (hk.bump (k := Reg.TIM_CDCFLUSH) _ _ _ (by simp)).raise (by decide)⟩
  · rw [State.flushCrossing, State.tdState, State.fld, State.rd_raise _ _ _ _ _ (by decide) (by decide) (by decide),
      State.rd_bump_ne _ _ _ _ _ _ (by decide)]
    exact s.setTd_tdState (by decide)
  · rw [State.flushCrossing, State.raise_pair]
    rfl

end

section
variable (hp : s.unit.pairMode = true) (hi : s.unit.txIdle = false)
include hp hi

theorem State.tandemStep_shown (h1 : s.tdState = 1) (hl : s.lanesAligned ≠ 0) :
    s.tandemStep .shown = s.tandemProbe (fun _ => TdAlign.initial) := by
  unfold State.tandemStep
  rw [if_neg (by rw [hp, hi]; decide), h1]
  exact if_neg hl

theorem State.tandemStep_noReply (h : s.tdState = 1 ∨ s.tdState = 3) :
    s.tandemStep .noReply = s.tandemFail (if s.tdState = 1 then 1 else 4) := by
  unfold State.tandemStep
  rw [if_neg (by rw [hp, hi]; decide)]
  rcases h with h | h
  all_goals
    rw [h]
    rfl

theorem State.tandemStep_partner (ma : Int) (spread : Nat) (h3 : s.tdState = 3) (hn : 256 ≤ s.pair.al.n) :
    s.tandemStep (.partner ma spread) =
      s.tandemMeasured s.lanesAligned (cdiv s.pair.al.sum 256) ma (max spread (s.pair.al.mx - s.pair.al.mn).toNat) := by
  unfold State.tandemStep
  rw [if_neg (by rw [hp, hi]; decide), h3]
  exact if_neg (by omega)

end

/-! ## The link is UP -/

/-- The state in which the tandem link has come UP, before what the aligning unit adds. -/
def State.tandemUpStart (m : Nat) (ms ma : Int) : State :=
  let s := ((s.setTd 5).setBit Reg.PAIR_TDSTAT 3 (m.testBit 0)).setBit Reg.PAIR_TDSTAT 4 (m.testBit 1)
  let s := s.onPair (fun p => { p with bad := Vector.replicate 2 0, al := { p.al with arr := ms } })
  (s.setBit Reg.PAIR_STAT 24 true).put Reg.PAIR_ALIGN 31 16 (code 16 (cdiv (ms + ma) 2))

theorem State.tandemUpStart_shows (m : Nat) (ms ma : Int) : (s.tandemUpStart m ms ma).tdState = 5 ∧
    (s.tandemUpStart m ms ma).bit Reg.PAIR_STAT 24 = true ∧ (s.tandemUpStart m ms ma).pair.bad = Vector.replicate 2 0 ∧
    (s.tandemUpStart m ms ma).aligns = s.aligns ∧ ∀ n < 16, (s.tandemUpStart m ms ma).bit (Reg.LNK_CTL n) 0 = s.bit (Reg.LNK_CTL n) 0 := by
  unfold State.tandemUpStart
  extract_lets x y
  have hx : x.tdState = 5 := by
    refine (State.fld_put_disj _ _ _ _ _ _ _ (by decide) (.inl (by decide))).trans ?_
    exact (State.fld_put_disj _ _ _ _ _ _ _ (by decide) (.inl (by decide))).trans (s.setTd_tdState (by decide))
  have hxr : ∀ a, Reg.PAIR_TDSTAT ≠ a → x.rd a = s.rd a := fun a h =>
    (State.rd_setBit_ne _ _ _ _ _ h).trans ((State.rd_setBit_ne _ _ _ _ _ h).trans (State.rd_put_ne _ _ _ _ _ _ h))
  have hxu : x.unit = s.unit := rfl
  have hy : y.reg = x.reg ∧ y.unit = x.unit ∧ y.pair.bad = Vector.replicate 2 0 := ⟨rfl, rfl, rfl⟩
  clear_value x y
  obtain ⟨hyr, hyu, hyb⟩ := hy
  have hrd : ∀ a, y.rd a = x.rd a := fun a => congrArg (cellsGet regReset · a) hyr
  have hz : ∀ a, Reg.PAIR_STAT ≠ a → Reg.PAIR_ALIGN ≠ a →
      ((y.setBit Reg.PAIR_STAT 24 true).put Reg.PAIR_ALIGN 31 16 (code 16 (cdiv (ms + ma) 2))).rd a =
      x.rd a := fun a h1 h2 => (State.rd_put_ne _ _ _ _ _ _ h2).trans ((State.rd_setBit_ne _ _ _ _ _ h1).trans (hrd a))
  refine ⟨?_, ?_, hyb, ?_, fun n hn => ?_⟩
  · rw [State.tdState, State.fld, hz _ (by decide) (by decide)]
    exact hx
  · refine Eq.trans (congrArg (fun w => bitOf w 24) (State.rd_put_ne _ _ _ _ _ _ (by decide))) (State.bit_setBit _ _ _ _ (by decide))
  · have hrole : ((y.setBit Reg.PAIR_STAT 24 true).put Reg.PAIR_ALIGN 31 16 (code 16 (cdiv (ms + ma) 2))).role = s.role := by
      refine Eq.trans (congrArg (fun w => fieldOf w 29 28) (State.rd_put_ne _ _ _ _ _ _ (by decide))) ?_
      refine (State.fld_put_disj _ _ _ _ _ _ _ (by decide) (.inr (by decide))).trans ?_
      exact congrArg (fun w => fieldOf w 29 28) ((hrd _).trans (hxr _ (by decide)))
    rw [State.aligns, State.aligns, hrole, State.partnerActive, State.bit, hz _ (by decide) (by decide), hxr _ (by decide)]
    exact congrArg (fun u => _ && (_ || UnitSt.unitB u)) (hyu.trans hxu)
  · rw [State.bit, hz _ (by simp only [Reg.PAIR_STAT, Reg.LNK_CTL]; omega) (by simp only [Reg.PAIR_ALIGN, Reg.LNK_CTL]; omega),
      hxr _ (by simp only [Reg.PAIR_TDSTAT, Reg.LNK_CTL]; omega)]
    rfl

/-- The unit that aligns has come UP: its residual, and the timeline to load. -/
def State.alignedUp (d : Int) : State :=
  let s := (s.put Reg.PAIR_ALIGN 15 0 (code 16 d)).onPair (fun p => { p with load := true })
  ((s.setSync 1).setBit Reg.PAIR_STAT 25 true).startLinks

/-- The unit that does not align has come UP. -/
def State.otherUp : State :=
  let s := s.setBit Reg.PAIR_STAT 25 true
  let s := if s.role == 1 then s.setSync 1 else s
  if s.pair.waitDone then s else s.startLinks

theorem State.tandemUp_eq (m : Nat) (ms ma d : Int) : s.tandemUp m ms ma d =
    if (s.tandemUpStart m ms ma).aligns then (s.tandemUpStart m ms ma).alignedUp d else (s.tandemUpStart m ms ma).otherUp := rfl

theorem linksReg_pair {a : Nat} (h1 : 0x900 ≤ a) (h2 : a < 0x1000) : ¬ linksReg a := by
  simp only [linksReg, downReg, Reg.TIM_CDCFLUSH]
  omega

/-- The start of the links leaves the registers of the pair. -/
theorem State.startLinks_pair (a : Nat) (h1 : 0x900 ≤ a) (h2 : a < 0x1000) : s.startLinks.rd a = s.rd a :=
  s.down_startLinks.rd (fun _ _ => linksReg_pair h1 h2) (sideReg_eq_false.mpr (by simp only [Reg.HST_RSVWR, Reg.CW_STAT]; omega))

theorem State.startLinks_parts : s.startLinks.pair.waitDone = true ∧ s.startLinks.pair.load = s.pair.load ∧ s.startLinks.pair.bad = s.pair.bad :=
  ⟨s.reacts_startLinks.waitDone, s.reacts_startLinks.load, s.reacts_startLinks.bad⟩

theorem State.alignedUp_shows (d : Int) : (s.alignedUp d).tdState = s.tdState ∧ (s.alignedUp d).fld Reg.PAIR_ALIGN 15 0 = code 16 d ∧
    (s.alignedUp d).pair.load = true ∧ (s.alignedUp d).syncPhase = 1 ∧
    ∀ n < 16, s.bit (Reg.LNK_CTL n) 0 = true → (s.alignedUp d).linkState n = 1 := by
  unfold State.alignedUp
  extract_lets x
  have hx : ∀ a, Reg.PAIR_ALIGN ≠ a → x.rd a = s.rd a := fun a h => State.rd_put_ne _ _ _ _ _ _ h
  have ha : x.fld Reg.PAIR_ALIGN 15 0 = code 16 d := (State.fld_put s _ _ _ _ (by decide)).trans (Nat.mod_eq_of_lt (code_lt d))
  have hl : x.pair.load = true := rfl
  clear_value x
  have hy : ∀ a, Reg.PAIR_SYNC ≠ a → Reg.PAIR_STAT ≠ a → ((x.setSync 1).setBit Reg.PAIR_STAT 25 true).rd a = x.rd a := fun a h1 h2 =>
    (State.rd_setBit_ne _ _ _ _ _ h2).trans (State.rd_put_ne _ _ _ _ _ _ h1)
  have hsync : ((x.setSync 1).setBit Reg.PAIR_STAT 25 true).syncPhase = 1 :=
    (congrArg (fun w => fieldOf w 2 0) (State.rd_setBit_ne _ _ _ _ _ (by decide))).trans (x.setSync_syncPhase (by decide))
  have hp : ((x.setSync 1).setBit Reg.PAIR_STAT 25 true).pair = x.pair := rfl
  generalize (x.setSync 1).setBit Reg.PAIR_STAT 25 true = y at hy hsync hp
  have hz := fun a h1 h2 => y.startLinks_pair a h1 h2
  refine ⟨?_, ?_, ?_, ?_, fun n hn h => y.startLinks_linkState hn ?_⟩
  · rw [State.tdState, State.fld, hz _ (by decide) (by decide), hy _ (by decide) (by decide), hx _ (by decide)]
    rfl
  · rw [State.fld, hz _ (by decide) (by decide), hy _ (by decide) (by decide)]
    exact ha
  · rw [y.startLinks_parts.2.1, hp, hl]
  · rw [State.syncPhase, State.fld, hz _ (by decide) (by decide)]
    exact hsync
  · rw [State.bit, hy _ (by simp only [Reg.PAIR_SYNC, Reg.LNK_CTL]; omega) (by simp only [Reg.PAIR_STAT, Reg.LNK_CTL]; omega),
      hx _ (by simp only [Reg.PAIR_ALIGN, Reg.LNK_CTL]; omega)]
    exact h

theorem State.otherUp_shows : s.otherUp.tdState = s.tdState ∧ s.otherUp.bit Reg.PAIR_STAT 24 = s.bit Reg.PAIR_STAT 24 ∧
    s.otherUp.bit Reg.PAIR_STAT 25 = true ∧ s.otherUp.pair.bad = s.pair.bad := by
  unfold State.otherUp
  extract_lets x y
  have hy : y.tdState = x.tdState ∧ y.rd Reg.PAIR_STAT = x.rd Reg.PAIR_STAT ∧ y.pair = x.pair := by
    simp only [y]
    split
    · exact ⟨congrArg (fun w => fieldOf w 2 0) (State.rd_put_ne _ _ _ _ _ _ (by decide)), State.rd_put_ne _ _ _ _ _ _ (by decide), rfl⟩
    · exact ⟨rfl, rfl, rfl⟩
  obtain ⟨h1, h2, h3⟩ := hy
  have hx : x.tdState = s.tdState := congrArg (fun w => fieldOf w 2 0) (State.rd_setBit_ne _ _ _ _ _ (by decide))
  have h24 : y.bit Reg.PAIR_STAT 24 = s.bit Reg.PAIR_STAT 24 := by
    rw [State.bit, h2]
    exact State.bit_setBit_ne _ _ _ _ _ (by decide) (by decide)
  have h25 : y.bit Reg.PAIR_STAT 25 = true := by
    rw [State.bit, h2]
    exact State.bit_setBit _ _ _ _ (by decide)
  have hb : y.pair.bad = s.pair.bad := by rw [h3]; rfl
  clear_value x y
  split
  · exact ⟨h1.trans hx, h24, h25, hb⟩
  · have hz := fun a h1 h2 => y.startLinks_pair a h1 h2
    refine ⟨Eq.trans ?_ (h1.trans hx), ?_, ?_, y.startLinks_parts.2.2.trans hb⟩
    · exact congrArg (fun w => fieldOf w 2 0) (hz _ (by decide) (by decide))
    · exact (congrArg (fun w => bitOf w 24) (hz _ (by decide) (by decide))).trans h24
    · exact (congrArg (fun w => bitOf w 25) (hz _ (by decide) (by decide))).trans h25

/-! ## ALIGN -/

section
variable (m : Nat) (ms ma : Int) {spread : Nat} (h8 : spread ≤ 8)
include h8

theorem State.tandemMeasured_other (ha : s.aligns = false) :
    s.tandemMeasured m ms ma spread = (s.tandemUpStart m ms ma).otherUp := by
  unfold State.tandemMeasured
  extract_lets d al
  rw [if_neg (by omega), if_neg (by rw [ha, Bool.false_and]; exact Bool.false_ne_true), State.tandemUp_eq,
    if_neg (by rw [(s.tandemUpStart_shows m ms ma).2.2.2.1, ha]; exact Bool.false_ne_true)]

theorem State.tandemMeasured_again (ha : s.aligns = true) (hg : s.pair.al.again = false) : s.tandemMeasured m ms ma spread =
    s.tandemProbe (fun a => { TdAlign.initial with shift := a.shift + 16 * cdiv (cdiv (ma - ms) 2) 16, again := true }) := by
  unfold State.tandemMeasured
  extract_lets d al
  rw [if_neg (by omega), if_pos (by rw [ha, show al.again = false from hg]; rfl)]

theorem State.tandemMeasured_aligned (ha : s.aligns = true) (hg : s.pair.al.again = true) (hd : (cdiv (ma - ms) 2).natAbs ≤ 8) :
    s.tandemMeasured m ms ma spread = (s.tandemUpStart m ms ma).alignedUp (cdiv (ma - ms) 2) := by
  unfold State.tandemMeasured
  extract_lets d al
  rw [if_neg (by omega), if_neg (by rw [ha, show al.again = true from hg, decide_eq_false (show ¬ 8 < d.natAbs by omega)]; decide),
    State.tandemUp_eq, if_pos ((s.tandemUpStart_shows m ms ma).2.2.2.1.trans ha)]

end

/-! ## The loss of the link, and the end of its wait -/

/-- The state in which the tandem link is down, before its event. -/
def State.tandemLost : State :=
  let s := ((s.setTd 6).setBit Reg.PAIR_TDSTAT 3 false).setBit Reg.PAIR_TDSTAT 4 false
  let s := s.onPair (fun p => { p with partner := none, txq := [], tx := .idle, tx1 := .idle, noAct := 0, seen := false, frIn := none,
                                       load := false, img := none })
  let s := s.setBit Reg.PAIR_STAT 24 s.claimIn
  let s := s.setBit Reg.SYS_TOKSTAT 29 false
  if 2 ≤ s.syncPhase then s.setSync 2 else s

theorem State.exec_tandemDown (hr : s.runs = true) (hp : s.unit.pairMode = true) (hu : s.tdmUp = true) (h0 : 3 ≤ vget s.pair.bad 0 0)
    (h1 : 3 ≤ vget s.pair.bad 1 0) : exec .tandemDown s = .next (s.tandemLost.raise (E.TANDEM_DOWN 0)).noteFinding :=
  if_pos (by rw [State.awake_of_runs hr, hp, hu, decide_eq_true h0, decide_eq_true h1]; rfl)

theorem State.tandemLost_shows : s.tandemLost.tdState = 6 ∧ s.tandemLost.bit Reg.PAIR_TDSTAT 3 = false ∧
    s.tandemLost.bit Reg.PAIR_TDSTAT 4 = false ∧ (s.tandemLost.pair.partner = none ∧ s.tandemLost.pair.txq = [] ∧ s.tandemLost.pair.load = false) ∧
    (2 ≤ s.syncPhase → s.tandemLost.syncPhase = 2) ∧ (s.syncPhase < 2 → s.tandemLost.syncPhase = s.syncPhase) ∧ s.tandemLost.evq = s.evq ∧
    Keeps s s.tandemLost [Reg.PAIR_TDSTAT, Reg.PAIR_STAT, Reg.SYS_TOKSTAT, Reg.PAIR_SYNC] := by
  unfold State.tandemLost
  extract_lets x y z u
  have hx : x.tdState = 6 ∧ x.bit Reg.PAIR_TDSTAT 3 = false ∧ x.bit Reg.PAIR_TDSTAT 4 = false := by
    refine ⟨?_, ?_, State.bit_setBit _ _ _ _ (by decide)⟩
    · refine (State.fld_put_disj _ _ _ _ _ _ _ (by decide) (.inl (by decide))).trans ?_
      exact (State.fld_put_disj _ _ _ _ _ _ _ (by decide) (.inl (by decide))).trans (s.setTd_tdState (by decide))
    · exact (State.bit_setBit_ne _ _ _ _ _ (by decide) (by decide)).trans (State.bit_setBit _ _ _ _ (by decide))
  have hxk : Keeps s x [Reg.PAIR_TDSTAT, Reg.PAIR_STAT, Reg.SYS_TOKSTAT, Reg.PAIR_SYNC] :=
    (((Keeps.refl s _).put (k := Reg.PAIR_TDSTAT) _ _ _ (by simp)).setBit (k := Reg.PAIR_TDSTAT) _ _ (by simp)).setBit
      (k := Reg.PAIR_TDSTAT) _ _ (by simp)
  have hyk : Keeps s y [Reg.PAIR_TDSTAT, Reg.PAIR_STAT, Reg.SYS_TOKSTAT, Reg.PAIR_SYNC] := hxk.trans (.of (fun _ _ _ => rfl) rfl rfl)
  have hyr : y.reg = x.reg ∧ y.pair.partner = none ∧ y.pair.txq = [] ∧ y.pair.load = false := ⟨rfl, rfl, rfl, rfl⟩
  have hxe : x.evq = s.evq := rfl
  have hye : y.evq = x.evq := rfl
  have hxs : x.syncPhase = s.syncPhase := congrArg (fun w => fieldOf w 2 0) ((State.rd_setBit_ne _ _ _ _ _ (by decide)).trans
    ((State.rd_setBit_ne _ _ _ _ _ (by decide)).trans (State.rd_put_ne _ _ _ _ _ _ (by decide))))
  clear_value x y
  have huk : Keeps s u [Reg.PAIR_TDSTAT, Reg.PAIR_STAT, Reg.SYS_TOKSTAT, Reg.PAIR_SYNC] :=
    (hyk.setBit (k := Reg.PAIR_STAT) _ _ (by simp)).setBit (k := Reg.SYS_TOKSTAT) _ _ (by simp)
  have hur : ∀ a, Reg.PAIR_STAT ≠ a → Reg.SYS_TOKSTAT ≠ a → u.rd a = x.rd a := fun a h1 h2 =>
    (State.rd_setBit_ne _ _ _ _ _ h2).trans ((State.rd_setBit_ne _ _ _ _ _ h1).trans (congrArg (cellsGet regReset · a) hyr.1))
  have hup : u.pair = y.pair := rfl
  have hue : u.evq = y.evq := rfl
  have hus : u.syncPhase = s.syncPhase := (congrArg (fun w => fieldOf w 2 0) (hur _ (by decide) (by decide))).trans hxs
  clear_value u
  obtain ⟨h6, h3, h4⟩ := hx
  have hend : ∀ t : State, t.rd Reg.PAIR_TDSTAT = u.rd Reg.PAIR_TDSTAT → t.pair = u.pair → t.tdState = 6 ∧ t.bit Reg.PAIR_TDSTAT 3 = false ∧
      t.bit Reg.PAIR_TDSTAT 4 = false ∧ (t.pair.partner = none ∧ t.pair.txq = [] ∧ t.pair.load = false) := fun t h hp => by
    have hr := h.trans (hur _ (by decide) (by decide))
    rw [State.tdState, State.fld, State.bit, State.bit, hr, hp, hup]
    exact ⟨h6, h3, h4, hyr.2⟩
  split
  next h =>
    obtain ⟨e1, e2, e3, e4⟩ := hend (u.setSync 2) (State.rd_put_ne _ _ _ _ _ _ (by decide)) rfl
    exact ⟨e1, e2, e3, e4, fun _ => u.setSync_syncPhase (by decide), fun h' => by omega, hue.trans (hye.trans hxe),
      huk.put (k := Reg.PAIR_SYNC) _ _ _ (by simp)⟩
  next h =>
    obtain ⟨e1, e2, e3, e4⟩ := hend u rfl rfl
    exact ⟨e1, e2, e3, e4, fun h' => by omega, fun _ => hus, hue.trans (hye.trans hxe), huk⟩

theorem State.tandemDown_completes (hr : s.runs = true) (hp : s.unit.pairMode = true) (hu : s.tdmUp = true) (h0 : 3 ≤ vget s.pair.bad 0 0)
    (h1 : 3 ≤ vget s.pair.bad 1 0) : Completes .tandemDown s (fun t =>
      t.tdState = 6 ∧ t.bit Reg.PAIR_TDSTAT 3 = false ∧ t.bit Reg.PAIR_TDSTAT 4 = false ∧ t.pair.partner = none ∧ t.pair.txq = [] ∧
      t.pair.load = false ∧ (2 ≤ s.syncPhase → t.syncPhase = 2) ∧ (s.syncPhase < 2 → t.syncPhase = s.syncPhase) ∧
      Raised s t (E.TANDEM_DOWN 0) ∧ Keeps s t [Reg.PAIR_TDSTAT, Reg.PAIR_STAT, Reg.SYS_TOKSTAT, Reg.PAIR_SYNC]) := by
  obtain ⟨l1, l2, l3, ⟨l4, l5, l6⟩, l7, l8, l9, l10⟩ := s.tandemLost_shows
  have hn : s.tandemLost.Noticed (s.tandemLost.raise (E.TANDEM_DOWN 0)).noteFinding := State.noticed_noteFinding
    ⟨(Keeps.refl _ _).raise (by decide), State.raise_time _ _, _, State.raise_pair _ _⟩
  have he : (s.tandemLost.raise (E.TANDEM_DOWN 0)).evq ⊆ (s.tandemLost.raise (E.TANDEM_DOWN 0)).noteFinding.evq := by
    unfold State.noteFinding
    split <;> exact List.Subset.refl _
  obtain ⟨q, hq⟩ := hn.pair
  have hb : ∀ a, sideReg a = false → (s.tandemLost.raise (E.TANDEM_DOWN 0)).noteFinding.rd a = s.tandemLost.rd a := fun a h =>
    hn.keeps.1 a (by simp) h
  have hsync : (s.tandemLost.raise (E.TANDEM_DOWN 0)).noteFinding.syncPhase = s.tandemLost.syncPhase :=
    congrArg (fun w => fieldOf w 2 0) (hb _ (by decide))
  refine ⟨_, s.exec_tandemDown hr hp hu h0 h1, (congrArg (fun w => fieldOf w 2 0) (hb _ (by decide))).trans l1,
    (congrArg (fun w => bitOf w 3) (hb _ (by decide))).trans l2, (congrArg (fun w => bitOf w 4) (hb _ (by decide))).trans l3,
    by rw [hq, l4], by rw [hq, l5], by rw [hq, l6], fun h => hsync.trans (l7 h), fun h => hsync.trans (l8 h), .of he l9,
    l10.trans (hn.keeps.mono (by simp))⟩

end

/-- Settles O41: a frame by the KIND of its content; training by its state; the links that train by the fold over their starts. -/
theorem tandemLink : Obligations.TandemLink := by
  unfold Obligations.TandemLink
  refine ⟨fun lane w arrival content s hr hp ht => ⟨fun ha hg => ?_, fun h => ?_, ?_⟩, fun ma spread s hr hp => ⟨fun h1 hl hi => ?_, fun h hi => ?_,
    fun h3 hn h8 hmx => ⟨fun hal hi => ?_, fun hal hag hi => ?_, fun hal hag hd hi => ?_⟩, s.tandemWaited_completes hr hp,
    s.tandemDown_completes hr hp, fun hu hw => ?_⟩⟩
  · have hf : s.LaneTakesFrame lane w (descramble w (vget s.pair.lanes lane TdLane.initial).dsc).1 := ⟨rfl, of_decide_eq_true ha, hg⟩
    exact ⟨s.goodFrame_idle lane w _ arrival content hr hp ht hf, s.goodFrame_follows lane w _ arrival content hr hp ht hf,
      s.goodFrame_leads lane w _ arrival content hr hp ht hf, s.goodFrame_probe lane w _ arrival content hr hp ht hf,
      s.goodFrame_stat lane w _ arrival hr hp ht hf⟩
  · refine s.tandemFrame_bad lane arrival content hr hp ht (some w) fun v hv => ?_
    obtain rfl := Option.some.inj hv
    exact h.imp_left of_decide_eq_false
  · exact s.tandemFrame_bad lane arrival content hr hp ht none fun v hv => absurd hv nofun
  · exact ⟨_, s.exec_tandemStep hr _, by rw [s.tandemStep_shown hp hi h1 hl]; exact s.tandemProbe_shows _⟩
  · refine ⟨_, s.exec_tandemStep hr _, ?_⟩
    rw [s.tandemStep_noReply hp hi h]
    exact s.tandemFail_shows (by split <;> decide)
  · refine ⟨_, s.exec_tandemStep hr _, ?_⟩
    rw [s.tandemStep_partner hp hi ma spread h3 hn, s.tandemMeasured_other _ _ _ (by omega) hal]
    obtain ⟨u1, u2, u3, u4, u5⟩ := s.tandemUpStart_shows s.lanesAligned (cdiv s.pair.al.sum 256) ma
    obtain ⟨o1, o2, o3, o4⟩ := (s.tandemUpStart s.lanesAligned (cdiv s.pair.al.sum 256) ma).otherUp_shows
    exact ⟨o1.trans u1, o2.trans u2, o3, by rw [o4, u3]; rfl, by rw [o4, u3]; rfl⟩
  · refine ⟨_, s.exec_tandemStep hr _, ?_⟩
    rw [s.tandemStep_partner hp hi ma spread h3 hn, s.tandemMeasured_again _ _ _ (by omega) hal hag]
    obtain ⟨p1, p2, p3⟩ := s.tandemProbe_shows (fun a => { TdAlign.initial with
      shift := a.shift + 16 * cdiv (cdiv (ma - cdiv s.pair.al.sum 256) 2) 16, again := true })
    exact ⟨p1, by rw [p2], by rw [p2], by rw [p2]; rfl, p3⟩
  · refine ⟨_, s.exec_tandemStep hr _, ?_⟩
    rw [s.tandemStep_partner hp hi ma spread h3 hn, s.tandemMeasured_aligned _ _ _ (by omega) hal hag hd]
    obtain ⟨u1, u2, u3, u4, u5⟩ := s.tandemUpStart_shows s.lanesAligned (cdiv s.pair.al.sum 256) ma
    obtain ⟨a1, a2, a3, a4, a5⟩ := (s.tandemUpStart s.lanesAligned (cdiv s.pair.al.sum 256) ma).alignedUp_shows
      (cdiv (ma - cdiv s.pair.al.sum 256) 2)
    exact ⟨a1.trans u1, a2, a3, a4, fun n hn h => a5 n hn ((u5 n hn).trans h)⟩
  · exact ⟨_, if_pos (by rw [hr, hp, hu, hw]; rfl), s.startLinks_parts.1, fun n hn h => s.startLinks_linkState hn h⟩

end Sys2Proof.Machine
end

section
/-!
PROOFS. The host ports: what the shared operations of a port's transaction leaves of the registers and raises.
-/

namespace Sys2Proof.Machine

/-! ## The state of a port is no register -/

section
variable {s x : State}

theorem Keeps.onSmb {w : List Nat} (h : Keeps s x w) (f : SmbSt → SmbSt) : Keeps s (x.onSmb f) w := h.trans (.of (regsKept_refl x w) rfl rfl)
theorem Keeps.onSpi {w : List Nat} (h : Keeps s x w) (f : SpiSt → SpiSt) : Keeps s (x.onSpi f) w := h.trans (.of (regsKept_refl x w) rfl rfl)

namespace State.Frame

variable {R : Nat → Nat → Prop} {E : Nat → Prop} (h : State.Frame R E s x)
include h

theorem onSmb (f : SmbSt → SmbSt) : State.Frame R E s (x.onSmb f) := h.trans (.of rfl)
theorem onSpi (f : SpiSt → SpiSt) : State.Frame R E s (x.onSpi f) := h.trans (.of rfl)

end State.Frame
end

@[simp] theorem State.onSmb_smb (s : State) (f : SmbSt → SmbSt) : (s.onSmb f).smb = f s.smb := rfl
@[simp] theorem State.onSpi_spi (s : State) (f : SpiSt → SpiSt) : (s.onSpi f).spi = f s.spi := rfl

/-- The registers of the list `w`, with all their bits. -/
def regsIn (w : List Nat) (a _i : Nat) : Prop := a ∈ w

section
variable (s : State)

/-! ## The counters and the outcome of a port (R411, R414, R417, R426) -/

/-- A count of a port, with the bit of HST_STAT and the event that tell of it. -/
theorem State.fld_noted (a hi lo n k : Nat) (e : Ev) (ha : Reg.HST_STAT ≠ a) (hc : crossReg a = false) (he : e.src < 256) (hh : hi < 32) :
    (((s.bump a hi lo n).setBit Reg.HST_STAT k true).raise e).fld a hi lo = min (s.fld a hi lo + n) (2 ^ (hi + 1 - lo) - 1) := by
  rw [State.fld, State.raise_rd _ _ _ he hc, State.rd_setBit_ne _ _ _ _ _ ha]
  exact s.fld_bump a hi lo n hh

theorem State.frame_countPartial (p : Port) (n : Nat) :
    State.Frame (regsIn [Reg.HST_PARTIAL, Reg.HST_STAT]) (· = 27) s (s.countPartial p n) := by
  unfold State.countPartial
  refine .ite (.refl s) ?_
  refine .raise (.setBit (.bump (.refl s) _ _ _ _ ?_) _ _ _ ?_) (E.HOST_PARTIAL 0) (by decide : 27 < 256) (.inl rfl)
  · intro i _ _ _
    exact List.mem_cons_self
  · exact List.mem_cons_of_mem _ List.mem_cons_self

theorem State.countPartial_smb (p : Port) (n : Nat) : (s.countPartial p n).smb = s.smb ∧ (s.countPartial p n).spi = s.spi := by
  unfold State.countPartial
  split
  · exact ⟨rfl, rfl⟩
  · exact ⟨by simp, by simp⟩

/-- A word discarded in part is counted at the SMBus and raises HOST_PARTIAL. -/
theorem State.countPartial_counts {n : Nat} (hn : n ≠ 0) :
    (s.countPartial .smbus n).fld Reg.HST_PARTIAL 15 0 = min (s.fld Reg.HST_PARTIAL 15 0 + n) 0xFFFF ∧
    Raised s (s.countPartial .smbus n) (E.HOST_PARTIAL 0) := by
  rw [State.countPartial, if_neg hn]
  constructor
  · exact s.fld_noted Reg.HST_PARTIAL 15 0 n 0 (E.HOST_PARTIAL 0) (by decide) (by decide) (by decide) (by decide)
  · exact .of (List.Subset.refl _) rfl

theorem State.frame_pecError (p : Port) : State.Frame (regsIn [Reg.HST_PECERR, Reg.HST_STAT]) (· = 24) s (s.pecError p) := by
  refine .raise (.setBit (.bump (.refl s) _ _ _ _ ?_) _ _ _ ?_) (E.HOST_PEC_ERR 0) (by decide : 24 < 256) (.inl rfl)
  · intro i _ _ _
    exact List.mem_cons_self
  · exact List.mem_cons_of_mem _ List.mem_cons_self

/-- A PEC or CRC that fails is counted in the half-word of its port. -/
theorem State.pecError_counts :
    (s.pecError .smbus).fld Reg.HST_PECERR 15 0 = min (s.fld Reg.HST_PECERR 15 0 + 1) 0xFFFF ∧
    (s.pecError .spi).fld Reg.HST_PECERR 31 16 = min (s.fld Reg.HST_PECERR 31 16 + 1) 0xFFFF := by
  constructor
  · exact s.fld_noted Reg.HST_PECERR 15 0 1 1 (E.HOST_PEC_ERR 0) (by decide) (by decide) (by decide) (by decide)
  · exact s.fld_noted Reg.HST_PECERR 31 16 1 1 (E.HOST_PEC_ERR 0) (by decide) (by decide) (by decide) (by decide)

theorem State.frame_busyAnswer (p : Port) : State.Frame (regsIn [Reg.HST_FWBUSY]) (· = 26) s (s.busyAnswer p) :=
  .raise (.bump (.refl s) _ _ _ _ (fun _ _ _ _ => List.mem_cons_self)) (E.HOST_BUSY 0) (by decide : 26 < 256) (.inl rfl)

theorem State.busyAnswer_counts : (s.busyAnswer .smbus).fld Reg.HST_FWBUSY 15 0 = min (s.fld Reg.HST_FWBUSY 15 0 + 1) 0xFFFF := by
  rw [State.busyAnswer, State.fld, State.raise_rd _ _ _ (by decide) (by decide)]
  exact s.fld_bump Reg.HST_FWBUSY 15 0 1 (by decide)

theorem State.frame_wrStat (p : Port) (r n : Nat) : State.Frame (regsIn [Reg.HST_WRSTAT]) (fun _ => False) s (s.wrStat p r n) :=
  .put (.put (.refl s) _ _ _ _ (fun _ _ _ _ => List.mem_cons_self)) _ _ _ _ (fun _ _ _ _ => List.mem_cons_self)

theorem State.wrStat_smbus (r n : Nat) : (s.wrStat .smbus r n).fld Reg.HST_WRSTAT 31 30 = r % 4 ∧
    (s.wrStat .smbus r n).fld Reg.HST_WRSTAT 29 16 = min n 16383 := by
  constructor
  · exact (State.fld_put_disj _ _ 29 16 _ 31 30 (by decide) (.inr (by decide))).trans (State.fld_put _ _ 31 30 _ (by decide))
  · refine (State.fld_put _ _ _ _ _ (by decide)).trans (Nat.mod_eq_of_lt ?_)
    show min n 16383 < 16384
    omega

theorem State.wrStat_spi (r n : Nat) : (s.wrStat .spi r n).fld Reg.HST_WRSTAT 15 14 = r % 4 ∧
    (s.wrStat .spi r n).fld Reg.HST_WRSTAT 13 0 = min n 16383 := by
  constructor
  · exact (State.fld_put_disj _ _ 13 0 _ 15 14 (by decide) (.inr (by decide))).trans (State.fld_put _ _ 15 14 _ (by decide))
  · refine (State.fld_put _ _ _ _ _ (by decide)).trans (Nat.mod_eq_of_lt ?_)
    show min n 16383 < 16384
    omega

theorem State.frame_portReset (p : Port) :
    State.Frame (regsIn [Reg.HST_TIMEOUT, Reg.HST_STAT, Reg.TIM_CDCFLUSH]) (· = 25) s (s.portReset p) := by
  have h1 : State.Frame (regsIn [Reg.HST_TIMEOUT, Reg.HST_STAT, Reg.TIM_CDCFLUSH]) (· = 25) s
      ((s.bump Reg.HST_TIMEOUT (if p = .spi then 31 else 15) (if p = .spi then 16 else 0) 1).setBit Reg.HST_STAT 2 true) :=
    .setBit (.bump (.refl s) _ _ _ _ (fun _ _ _ _ => List.mem_cons_self)) _ _ _ (List.mem_cons_of_mem _ List.mem_cons_self)
  refine .raise (.raise (.bump h1 _ _ _ _ (fun _ _ _ _ => ?_)) ⟨1, 1, 0⟩ (by decide : 1 < 256) (.inr (.inl rfl))) (E.HOST_TIMEOUT 0)
    (by decide : 25 < 256) (.inl rfl)
  simp [regsIn]

/-- What a port reset shows: the count of its port, TIMEOUT of HST_STAT and HOST_TIMEOUT; no other bit of HST_STAT changes. -/
theorem State.portReset_shows : (∀ p, ∀ i < 32, (s.portReset p).bit Reg.HST_STAT i = if 2 = i then true else s.bit Reg.HST_STAT i) ∧
    (s.portReset .smbus).fld Reg.HST_TIMEOUT 15 0 = min (s.fld Reg.HST_TIMEOUT 15 0 + 1) 0xFFFF ∧
    (s.portReset .spi).fld Reg.HST_TIMEOUT 31 16 = min (s.fld Reg.HST_TIMEOUT 31 16 + 1) 0xFFFF ∧
    ∀ p, Raised s (s.portReset p) (E.HOST_TIMEOUT 0) := by
  have hr : ∀ (x : State) a, a ≠ Reg.TIM_CDCFLUSH → crossReg a = false → (x.flushCrossing.raise (E.HOST_TIMEOUT 0)).rd a = x.rd a :=
    fun x a ha hc => (State.raise_rd _ _ _ (by decide) hc).trans
      ((State.raise_rd _ _ _ (by decide) hc).trans (State.rd_bump_ne _ _ _ _ _ _ ha.symm))
  have hc : ∀ hi lo, hi < 32 → (((s.bump Reg.HST_TIMEOUT hi lo 1).setBit Reg.HST_STAT 2 true).flushCrossing.raise (E.HOST_TIMEOUT 0)).fld
      Reg.HST_TIMEOUT hi lo = min (s.fld Reg.HST_TIMEOUT hi lo + 1) (2 ^ (hi + 1 - lo) - 1) := fun hi lo hh => by
    rw [State.fld, hr _ _ (by decide) (by decide), State.rd_setBit_ne _ _ _ _ _ (by decide)]
    exact s.fld_bump _ hi lo 1 hh
  refine ⟨fun p i hi => ?_, hc 15 0 (by decide), hc 31 16 (by decide), fun p => ?_⟩
  · rw [State.portReset, State.bit, hr _ _ (by decide) (by decide), State.rd_setBit_same, bitOf_setField_bit _ _ _ _ hi,
      State.rd_bump_ne _ _ _ _ _ _ (by decide), State.bit]
  · have h : State.Frame (fun _ _ => True) (fun _ => False) s
        ((s.bump Reg.HST_TIMEOUT (if p = .spi then 31 else 15) (if p = .spi then 16 else 0) 1).setBit Reg.HST_STAT 2 true).flushCrossing :=
      .raise (.bump (.setBit (.bump (.refl s) _ _ _ _ (fun _ _ _ _ => trivial)) _ _ _ trivial) _ _ _ _ (fun _ _ _ _ => trivial)) ⟨1, 1, 0⟩
        (by decide : 1 < 256) (.inr (.inl rfl))
    exact h.raisedAfter _ rfl id (by decide) (by decide)

theorem State.frame_smbLeave : State.Frame (regsIn [Reg.HST_STAT]) (fun _ => False) s s.smbLeave :=
  .setBit (.onSmb (.refl s) _) _ _ _ List.mem_cons_self

theorem State.smbLeave_idle : s.smbLeave.smb = SmbSt.initial ∧ s.smbLeave.bit Reg.HST_STAT 28 = false :=
  ⟨rfl, (State.bit_setBit _ _ _ _ (by decide))⟩

end

end Sys2Proof.Machine
end

section
/-!
PROOFS. How an SMBus transaction ends, and the alert response (O56).
-/

namespace Sys2Proof.Machine

section
variable {s : State}

/-- A state whose transaction has ended leaves HST_STAT and what its write phase left. -/
theorem State.smbLeave_told {x : State} {r n : Nat} : (x.wrStat .smbus r n).smbLeave.fld Reg.HST_WRSTAT 31 30 = r % 4 ∧
    (x.wrStat .smbus r n).smbLeave.fld Reg.HST_WRSTAT 29 16 = min n 16383 := by
  have h := (x.wrStat .smbus r n).frame_smbLeave
  have hr : (x.wrStat .smbus r n).smbLeave.rd Reg.HST_WRSTAT = (x.wrStat .smbus r n).rd Reg.HST_WRSTAT :=
    h.rd (fun i _ => by simp [regsIn]) (by decide)
  rw [State.fld, State.fld, hr]
  exact x.wrStat_smbus r n

theorem State.exec_smbusStop (hup : s.fabricUp = true) {w : Bool} (h : (s.smb.comp.isSome && !s.smb.reading && !s.smb.addrDue) = w) :
    exec .smbusStop s = .next (if w then s.writeStop.smbLeave else s.smbLeave) := by
  change execSmbusStop s = _
  subst h
  rw [execSmbusStop, hup, if_neg (by decide)]
  split <;> rfl

/-- A write phase without PEC ends with its outcome, and a partial word is counted. -/
theorem State.plainStop_shows :
    let t := ((s.countPartial .smbus (b2n (!s.smb.word.isEmpty))).wrStat .smbus s.smb.result s.smb.words).smbLeave
    (s.smb.word ≠ [] → t.fld Reg.HST_PARTIAL 15 0 = min (s.fld Reg.HST_PARTIAL 15 0 + 1) 0xFFFF ∧ Raised s t (E.HOST_PARTIAL 0)) ∧
      Keeps s t [Reg.HST_STAT, Reg.HST_WRSTAT, Reg.HST_PARTIAL] := by
  intro t
  have h1 := s.frame_countPartial .smbus (b2n (!s.smb.word.isEmpty))
  have h2 := (s.countPartial .smbus (b2n (!s.smb.word.isEmpty))).frame_wrStat .smbus s.smb.result s.smb.words
  have h3 := State.frame_smbLeave ((s.countPartial .smbus (b2n (!s.smb.word.isEmpty))).wrStat .smbus s.smb.result s.smb.words)
  refine ⟨fun hw => ?_, ?_⟩
  · have he : b2n (!s.smb.word.isEmpty) = 1 := by
      cases hl : s.smb.word with
      | nil => exact absurd hl hw
      | cons b l => rfl
    obtain ⟨hn, hr⟩ := s.countPartial_counts (n := b2n (!s.smb.word.isEmpty)) (by omega)
    rw [he] at hn
    refine ⟨?_, hr.mono (List.Subset.trans h2.evq h3.evq)⟩
    have ht : t.rd Reg.HST_PARTIAL = (s.countPartial .smbus 1).rd Reg.HST_PARTIAL := by
      rw [← he]
      exact (h3.rd (fun i _ => by simp [regsIn]) (by decide)).trans (h2.rd (fun i _ => by simp [regsIn]) (by decide))
    rw [State.fld, ht]
    exact hn
  · refine ((h1.keeps ?_).trans (h2.keeps ?_)).trans (h3.keeps ?_) <;> simp [regsIn]

/-- The pointer after the buffered bytes (R412). -/
def State.blockPtr (s : State) : State :=
  s.wrN Reg.HST_PTR ((List.range s.smb.buf.dropLast.length).foldl (fun p _ => pageNext p) s.smb.bufPtr)

/-- A STOP of a buffered write phase that the target acknowledged: its PEC fails, firmware would have to serve it, or it applies. -/
theorem State.pecStop_acked (hn : s.smb.nacked = false) :
    let block := splitWords pageNext s.smb.bufPtr s.smb.buf.dropLast
    let x := s.blockPtr.countPartial .smbus block.2
    s.pecStop = if (s.smb.buf.isEmpty || s.smb.pec != 0) = true then (x.pecError .smbus).wrStat .smbus 1 0
      else if (block.1.any fun x => s.fwBusy .smbus x.1) = true then (x.busyAnswer .smbus).wrStat .smbus 2 0
      else (x.applyBlock .smbus block.1).wrStat .smbus 0 block.1.length := by
  unfold State.pecStop
  rw [hn]
  rfl

theorem State.pecFailed_shows {x : State} {n : Nat} (hr : x.evq = s.evq) (hx : ∀ a, a ≠ Reg.HST_PTR → x.rd a = s.rd a)
    (hk : Keeps s x [Reg.HST_PTR]) :
    let t := (((x.countPartial .smbus n).pecError .smbus).wrStat .smbus 1 0).smbLeave
    t.fld Reg.HST_PECERR 15 0 = min (s.fld Reg.HST_PECERR 15 0 + 1) 0xFFFF ∧ Raised s t (E.HOST_PEC_ERR 0) ∧
      Keeps s t [Reg.HST_STAT, Reg.HST_WRSTAT, Reg.HST_PARTIAL, Reg.HST_PECERR, Reg.HST_PTR] := by
  intro t
  have h1 := x.frame_countPartial .smbus n
  have h2 := (x.countPartial .smbus n).frame_pecError .smbus
  have h3 := ((x.countPartial .smbus n).pecError .smbus).frame_wrStat .smbus 1 0
  have h4 := State.frame_smbLeave (((x.countPartial .smbus n).pecError .smbus).wrStat .smbus 1 0)
  refine ⟨?_, ?_, ?_⟩
  · have ht : t.rd Reg.HST_PECERR = ((x.countPartial .smbus n).pecError .smbus).rd Reg.HST_PECERR :=
      (h4.rd (fun i _ => by simp [regsIn]) (by decide)).trans (h3.rd (fun i _ => by simp [regsIn]) (by decide))
    have hs : (x.countPartial .smbus n).rd Reg.HST_PECERR = s.rd Reg.HST_PECERR :=
      (h1.rd (fun i _ => by simp [regsIn]) (by decide)).trans (hx _ (by decide))
    have := (x.countPartial .smbus n).pecError_counts.1
    rw [State.fld, ht, State.fld, ← hs]
    exact this
  · have hraise : Raised x ((x.countPartial .smbus n).pecError .smbus) (E.HOST_PEC_ERR 0) :=
      h1.raisedAfter _ rfl (by decide) (by decide) (by decide)
    have hq : Raised x t (E.HOST_PEC_ERR 0) := hraise.mono (List.Subset.trans h3.evq h4.evq)
    intro hf
    exact hq (by simpa [State.pulseFits, hr] using hf)
  · refine ((((hk.mono (by simp)).trans (h1.keeps ?_)).trans (h2.keeps ?_)).trans (h3.keeps ?_)).trans (h4.keeps ?_) <;>
      simp [regsIn]

theorem State.smbusStop_completes (hup : s.fabricUp = true) :
    let idle (t : State) : Prop := t.smb = SmbSt.initial ∧ t.bit Reg.HST_STAT 28 = false
    let writes := s.smb.comp.isSome && !s.smb.reading && !s.smb.addrDue
    let block := splitWords pageNext s.smb.bufPtr s.smb.buf.dropLast
    let told (r n : Nat) (t : State) : Prop := t.fld Reg.HST_WRSTAT 31 30 = r % 4 ∧ t.fld Reg.HST_WRSTAT 29 16 = min n 16383
    (writes = false → Completes .smbusStop s (fun t => idle t ∧ Keeps s t [Reg.HST_STAT])) ∧
    (writes = true → s.pecMode = false → Completes .smbusStop s (fun t => idle t ∧ told s.smb.result s.smb.words t ∧
      (s.smb.word ≠ [] → t.fld Reg.HST_PARTIAL 15 0 = min (s.fld Reg.HST_PARTIAL 15 0 + 1) 0xFFFF ∧ Raised s t (E.HOST_PARTIAL 0)) ∧
      Keeps s t [Reg.HST_STAT, Reg.HST_WRSTAT, Reg.HST_PARTIAL])) ∧
    (writes = true → s.pecMode = true → s.smb.nacked = false →
      (s.smb.buf = [] ∨ s.smb.pec ≠ 0 → Completes .smbusStop s (fun t => idle t ∧ told 1 0 t ∧
        t.fld Reg.HST_PECERR 15 0 = min (s.fld Reg.HST_PECERR 15 0 + 1) 0xFFFF ∧ Raised s t (E.HOST_PEC_ERR 0) ∧
        Keeps s t [Reg.HST_STAT, Reg.HST_WRSTAT, Reg.HST_PARTIAL, Reg.HST_PECERR, Reg.HST_PTR])) ∧
      (s.smb.buf ≠ [] → s.smb.pec = 0 → block.1.any (fun x => s.fwBusy .smbus x.1) = false → block.2 = 0 →
        let u := s.blockPtr.applyBlock .smbus block.1
        Completes .smbusStop s (fun t => idle t ∧ told 0 block.1.length t ∧
          (∀ a, a ≠ Reg.HST_STAT → a ≠ Reg.HST_WRSTAT → t.rd a = u.rd a) ∧ (∀ a, t.srd a = u.srd a) ∧ ∀ a, t.mem8 a = u.mem8 a))) := by
  intro idle writes block told
  refine ⟨fun hw => ⟨_, State.exec_smbusStop hup hw, s.smbLeave_idle, s.frame_smbLeave.keeps (by simp [regsIn])⟩,
    fun hw hp => ?_, fun hw hp hn => ⟨fun hb => ?_, fun hb h0 hf hz => ?_⟩⟩
  · refine ⟨_, State.exec_smbusStop hup hw, State.smbLeave_idle _, ?_⟩
    rw [if_pos rfl, State.writeStop, hp, if_neg (by decide)]
    exact ⟨State.smbLeave_told, State.plainStop_shows⟩
  · refine ⟨_, State.exec_smbusStop hup hw, State.smbLeave_idle _, ?_⟩
    have hc : (s.smb.buf.isEmpty || s.smb.pec != 0) = true := by
      simpa using hb
    rw [if_pos rfl, State.writeStop, hp, if_pos rfl, State.pecStop_acked hn, if_pos hc]
    exact ⟨State.smbLeave_told, State.pecFailed_shows rfl (fun a ha => State.rd_wr_ne _ _ _ _ ha.symm)
      ((Keeps.refl s _).wr _ List.mem_cons_self)⟩
  · intro u
    refine ⟨_, State.exec_smbusStop hup hw, State.smbLeave_idle _, ?_⟩
    rw [if_pos rfl, State.writeStop, hp, if_pos rfl, State.pecStop_acked hn, if_neg (by simp [hb, h0]), if_neg (by rw [hf]; decide), hz]
    exact ⟨State.smbLeave_told, fun a h1 h2 => (State.rd_setBit_ne _ _ _ _ _ h1.symm).trans
      ((State.rd_put_ne _ _ _ _ _ _ h2.symm).trans (State.rd_put_ne _ _ _ _ _ _ h2.symm)), fun _ => rfl, fun _ => rfl⟩

/-! ## SMBUS_TIMEOUT and ALERT_RESPONSE -/

theorem State.smbusTimeout_completes (hup : s.fabricUp = true) : Completes .smbusTimeout s (fun t =>
    (t.smb = SmbSt.initial ∧ t.bit Reg.HST_STAT 28 = false) ∧ t.fld Reg.HST_TIMEOUT 15 0 = min (s.fld Reg.HST_TIMEOUT 15 0 + 1) 0xFFFF ∧
      t.bit Reg.HST_STAT 2 = true ∧ Raised s t (E.HOST_TIMEOUT 0) ∧
      Keeps s t [Reg.HST_STAT, Reg.HST_TIMEOUT, Reg.HST_PARTIAL, Reg.TIM_CDCFLUSH]) := by
  refine ⟨_, (by change execSmbusTimeout s = _; rw [execSmbusTimeout, hup, if_neg (by decide)]), ?_⟩
  generalize (if s.pecMode = true then (splitWords pageNext s.smb.bufPtr s.smb.buf).2 else b2n (!s.smb.word.isEmpty)) = n
  have h1 := s.frame_countPartial .smbus n
  have h2 := (s.countPartial .smbus n).frame_smbLeave
  have h3 := (s.countPartial .smbus n).smbLeave.frame_portReset .smbus
  obtain ⟨hb, hc, -, hr⟩ := (s.countPartial .smbus n).smbLeave.portReset_shows
  have h12 : State.Frame (regsIn [Reg.HST_PARTIAL, Reg.HST_STAT]) (· = 27) s (s.countPartial .smbus n).smbLeave :=
    h1.trans (h2.mono (by simp [regsIn]) (fun _ h => h.elim))
  refine ⟨⟨by simp [State.portReset, State.flushCrossing, State.smbLeave], ?_⟩, ?_, hb .smbus 2 (by decide), ?_, ?_⟩
  · rw [hb .smbus 28 (by decide), if_neg (by decide)]
    exact (State.smbLeave_idle _).2
  · rw [hc, State.fld, h12.rd (fun i _ => by simp [regsIn]) (by decide), State.fld]
  · intro hf
    exact hr .smbus (h12.fits 25 (by decide) (by decide) (by decide) hf)
  · refine (h12.keeps ?_).trans (h3.keeps ?_) <;> simp [regsIn]

theorem State.frame_arbLost : State.Frame (regsIn [Reg.HST_STAT, Reg.HST_ARA]) (· = 28) s s.arbLost := by
  refine .raise (.setBit (.bump (.refl s) _ _ _ _ ?_) _ _ _ List.mem_cons_self) (E.HOST_ARBLOST 0) (by decide : 28 < 256) (.inl rfl)
  intro i _ _ _
  exact List.mem_cons_of_mem _ List.mem_cons_self

/-- A lost arbitration is counted, shown and raised, and no other bit of HST_STAT changes. -/
theorem State.arbLost_shows : s.arbLost.fld Reg.HST_ARA 31 16 = min (s.fld Reg.HST_ARA 31 16 + 1) 0xFFFF ∧
    (∀ i < 32, s.arbLost.bit Reg.HST_STAT i = if 3 = i then true else s.bit Reg.HST_STAT i) ∧ Raised s s.arbLost (E.HOST_ARBLOST 0) := by
  refine ⟨s.fld_noted Reg.HST_ARA 31 16 1 3 (E.HOST_ARBLOST 0) (by decide) (by decide) (by decide) (by decide), fun i hi => ?_,
    .of (List.Subset.refl _) rfl⟩
  rw [State.arbLost, State.bit, State.raise_rd _ _ _ (by decide) (by decide), State.rd_setBit_same, bitOf_setField_bit _ _ _ _ hi,
    State.rd_bump_ne _ _ _ _ _ _ (by decide), State.bit]

/-- What the Alert Response Address returns for the comparator word `w`: the address, and the PEC byte above it. -/
def alertBytesOf (w : Word) : Nat :=
  let b : Byte := BitVec.ofNat 8 (2 * fieldOf w 6 0)
  b.toNat + (if bitOf w 20 then 256 * (crc8 [0x19, b]).toNat else 0)

theorem alertBytesOf_low (w : Word) : alertBytesOf w < 2 ^ 32 ∧ alertBytesOf w % 256 = 2 * fieldOf w 6 0 := by
  have hl := fieldOf_lt w 6 0
  have hb : (BitVec.ofNat 8 (2 * fieldOf w 6 0)).toNat = 2 * fieldOf w 6 0 := by
    rw [BitVec.toNat_ofNat]
    omega
  have hc := (crc8 [0x19, BitVec.ofNat 8 (2 * fieldOf w 6 0)]).isLt
  by_cases hp : bitOf w 20 = true
  · simp only [alertBytesOf, hp, if_true, hb]
    omega
  · simp only [alertBytesOf, if_neg hp, hb]
    omega

def State.alertBytes (s : State) : Nat := alertBytesOf (s.rd (Reg.HST_ACMP (s.fld Reg.HST_CFG 1 0)))

theorem State.alertBytes_low : s.alertBytes < 2 ^ 32 ∧
    s.alertBytes % 256 = 2 * s.fld (Reg.HST_ACMP (s.fld Reg.HST_CFG 1 0)) 6 0 := alertBytesOf_low _

/-- The unit answers the Alert Response Address with its bytes. -/
def State.answered (s : State) : State := { s with readData := vset s.readData 0 (word s.alertBytes) }

theorem State.exec_alertResponse (lost : Bool) (hup : s.fabricUp = true) (hc : s.smb.comp = none) (ha : s.alertPin = true) :
    exec (.alertResponse lost) s = .next (if lost && s.alertBytes != 0 then s.answered.arbLost
      else (s.answered.setBit Reg.HST_STAT 30 true).bump Reg.HST_ARA 15 0 1) := by
  change execAlertResponse lost s = _
  unfold execAlertResponse
  rw [hup, hc, ha]
  rfl

theorem State.answered_rd (a : Nat) : s.answered.rd a = s.rd a := rfl

theorem State.keeps_answered (w : List Nat) : Keeps s s.answered w := .of (regsKept_refl s w) rfl rfl

theorem State.alertAnswered_completes (hup : s.fabricUp = true) (hc : s.smb.comp = none) (ha : s.alertPin = true) :
    Completes (.alertResponse false) s (fun t =>
      (vget t.readData 0 0).toNat % 256 = 2 * s.fld (Reg.HST_ACMP (s.fld Reg.HST_CFG 1 0)) 6 0 ∧ t.alertPin = false ∧
      t.fld Reg.HST_ARA 15 0 = min (s.fld Reg.HST_ARA 15 0 + 1) 0xFFFF ∧ Keeps s t [Reg.HST_STAT, Reg.HST_ARA]) := by
  refine ⟨_, State.exec_alertResponse false hup hc ha, ?_, ?_, ?_, ?_⟩
  · obtain ⟨h32, h8⟩ := s.alertBytes_low
    have : vget ((s.answered.setBit Reg.HST_STAT 30 true).bump Reg.HST_ARA 15 0 1).readData 0 0 = word s.alertBytes :=
      vget_vset_same _ _ _ _ (by decide)
    rw [if_neg (by simp), this, word, BitVec.toNat_ofNat, Nat.mod_eq_of_lt h32, h8]
  · have : ((s.answered.setBit Reg.HST_STAT 30 true).bump Reg.HST_ARA 15 0 1).bit Reg.HST_STAT 30 = true := by
      rw [State.bit, State.rd_bump_ne _ _ _ _ _ _ (by decide)]
      exact State.bit_setBit _ _ _ _ (by decide)
    rw [if_neg (by simp), State.alertPin, this]
    rfl
  · rw [if_neg (by simp), State.fld_bump _ _ 15 0 _ (by decide), State.fld, State.rd_setBit_ne _ _ _ _ _ (by decide)]
    rfl
  · exact ((s.keeps_answered _).setBit _ _ (by decide)).bump _ _ _ (by decide)

theorem State.alertLost_completes (hup : s.fabricUp = true) (hc : s.smb.comp = none) (ha : s.alertPin = true)
    (h0 : s.fld (Reg.HST_ACMP (s.fld Reg.HST_CFG 1 0)) 6 0 ≠ 0) : Completes (.alertResponse true) s (fun t =>
      t.fld Reg.HST_ARA 31 16 = min (s.fld Reg.HST_ARA 31 16 + 1) 0xFFFF ∧ Raised s t (E.HOST_ARBLOST 0) ∧
      t.bit Reg.HST_STAT 30 = s.bit Reg.HST_STAT 30 ∧ Keeps s t [Reg.HST_STAT, Reg.HST_ARA]) := by
  have hb := s.alertBytes_low
  have hn : (true && s.alertBytes != 0) = true := by
    simp only [Bool.true_and, bne_iff_ne]
    omega
  obtain ⟨hf, hs, hr⟩ := s.answered.arbLost_shows
  exact ⟨_, (State.exec_alertResponse true hup hc ha).trans (by rw [if_pos hn]), hf, hr, hs 30 (by decide),
    (s.keeps_answered _).trans (s.answered.frame_arbLost.keeps (by simp [regsIn]))⟩

end

/-- Settles O56: each end of a transaction by its own frame. -/
theorem smbusEnds : Obligations.SmbusEnds := by
  unfold Obligations.SmbusEnds
  intro lost s hup idle writes block told
  obtain ⟨h1, h2, h3⟩ := State.smbusStop_completes hup
  refine ⟨h1, h2, h3, State.smbusTimeout_completes hup, fun hc ha => ⟨?_, ?_⟩, fun ha => ?_⟩
  · rintro rfl
    exact State.alertAnswered_completes hup hc ha
  · rintro rfl h0
    exact State.alertLost_completes hup hc ha h0
  · change execAlertResponse lost s = _
    rw [execAlertResponse, ha, Bool.and_false, if_neg (by decide)]

end Sys2Proof.Machine
end

section
/-!
PROOFS. What a read of the register fabric leaves: no host port changes, and no register below the links but the counts of memory
errors and the captures of TIM (R7, R47, R404).
-/

namespace Sys2Proof.Machine

/-- What a read may change of the registers. -/
def readReg (a : Nat) : Prop := 0x1000 ≤ a ∨ (0x160 ≤ a ∧ a < 0x1E0) ∨ eccNoteReg a

theorem readReg_of_ecc {a i : Nat} (h : eccReadReg a i) : readReg a := by
  rcases h with h | ⟨k, h | rfl | ⟨rfl, -⟩ | rfl | rfl⟩
  · exact .inr (.inr h)
  · refine .inl ?_
    simp only [phaseReg] at h
    omega
  · refine .inl ?_
    simp only [Reg.ST_STAT]
    omega
  all_goals exact .inl (by decide)

/-- The registers of the host ports are none of them. -/
theorem not_readReg_host {a : Nat} (h : 0x700 ≤ a) (h' : a < 0x800) : ¬ readReg a := by
  simp only [readReg, eccNoteReg, Reg.FLT_ECCCNT, Reg.FLT_ECCINFO, Reg.FLT_ECCADDR]
  omega

/-- The host ports of a state and the data that they last read. -/
def State.ports (s : State) := (s.smb, s.spi, s.readData)

/-- From `s` to `t` a read has passed. -/
structure State.Reads (s t : State) : Prop where
  frame : State.Frame (fun a _ => readReg a) (· = 101) s t
  ports : t.ports = s.ports

namespace State.Reads

variable {s t u x : State}

theorem refl (s : State) : s.Reads s := ⟨.refl s, rfl⟩

theorem trans (h : s.Reads t) (g : t.Reads u) : s.Reads u := ⟨h.frame.trans g.frame, g.ports.trans h.ports⟩

theorem ite {p : Prop} [Decidable p] (ht : s.Reads t) (hu : s.Reads u) : s.Reads (if p then t else u) := by
  split
  · exact ht
  · exact hu

theorem wr (h : s.Reads x) (a : Nat) (v : Word) (ha : readReg a) : s.Reads (x.wr a v) := ⟨h.frame.wr a v (fun _ _ => ha), h.ports⟩

theorem setBit (h : s.Reads x) (a i : Nat) (b : Bool) (ha : readReg a) : s.Reads (x.setBit a i b) := ⟨h.frame.setBit a i b ha, h.ports⟩

theorem takeWord (h : s.Reads x) : s.Reads x.takeWord.2 := ⟨h.frame.trans (.of rfl), h.ports⟩

theorem takeBit (h : s.Reads x) : s.Reads x.takeBit.2 := ⟨h.frame.trans (.of rfl), h.ports⟩

theorem eccRead (h : s.Reads x) (region lo hi : Nat) : s.Reads (x.eccRead region lo hi) := by
  refine h.trans ⟨(x.frame_eccRead ..).mono (fun _ _ => readReg_of_ecc) (fun _ h => h), ?_⟩
  obtain ⟨h1, h2, h3⟩ := (x.reacts_eccRead region lo hi).ports
  rw [State.ports, h1, h2, h3, State.ports]

theorem eccTouch (h : s.Reads x) (region a : Nat) : s.Reads (x.eccTouch region a) := h.eccRead ..

theorem latchRest (h : s.Reads x) (p : Port) (l : List (Nat × Word)) : s.Reads (x.latchRest p l) := ⟨h.frame.trans (.of rfl), h.ports⟩

end State.Reads

theorem readReg_bank (p : Port) (a : Nat) : readReg (bankKey p a) := .inl (by unfold bankKey; omega)

section
variable (s : State) (p : Port)

theorem State.reads_trcRead (u : Nat) (w : Word) : s.Reads (s.trcRead u w).2 := ((State.Reads.refl s).eccRead ..).eccRead ..

theorem State.reads_outLevel (l : OutLvl) (safe : Nat) (inv : Bool) : s.Reads (s.outLevel l safe inv).2 := by
  unfold State.outLevel
  split
  · exact .refl s
  · exact .refl s
  · split
    · exact .refl s
    · exact .refl s
    · exact .takeBit (.refl s)

theorem State.reads_edgStat (n : Nat) : s.Reads (s.edgStat n).2 := by
  unfold State.edgStat
  exact (s.reads_outLevel ..).trans (State.reads_outLevel ..)

theorem State.reads_recRead : s.Reads (s.recRead p).2 := by
  have hw (v : Nat) : s.Reads (s.wrN (bankKey p Reg.EVR_ROFS) v) := .wr (.refl s) _ _ (readReg_bank p _)
  unfold State.recRead
  extract_lets r o s'
  split
  · exact .refl s
  · split
    · exact hw _
    · split
      · exact hw _
      · exact (hw _).takeWord

theorem State.reads_sbgRead : s.Reads (s.sbgRead p).2 := by
  unfold State.sbgRead
  extract_lets i o c t
  have h : s.Reads t := .eccRead (.wr (.refl s) _ _ (readReg_bank p _)) ..
  split
  · exact h
  · exact h.takeWord

theorem State.reads_readStored (k : Nat) : s.Reads (s.readStored p k).2 := by
  unfold State.readStored
  split
  · exact .refl s
  · split
    · exact .ite (.refl s) (.eccTouch (.refl s) ..)
    · exact .refl s

/-- What a block of registers answers, where it answers. -/
def State.Answers (s : State) (o : Option (Word × State)) : Prop := ∀ r, o = some r → s.Reads r.2

theorem State.Answers.some {s : State} {r : Word × State} (h : s.Reads r.2) : s.Answers (some r) := fun _ hr => Option.some.inj hr ▸ h

theorem State.Answers.same (s : State) (w : Word) : s.Answers (Option.some (w, s)) := .some (.refl s)

theorem State.Answers.none (s : State) : s.Answers Option.none := fun _ h => nomatch h

theorem State.Answers.ite {s : State} {c : Prop} [Decidable c] {x y : Option (Word × State)} (hx : s.Answers x) (hy : s.Answers y) :
    s.Answers (if c then x else y) := by
  split
  · exact hx
  · exact hy

theorem State.Answers.keep {s : State} {c : Prop} [Decidable c] {w : Word} {y : Option (Word × State)} (hy : s.Answers y) :
    s.Answers (if c then Option.some (w, s) else y) := .ite (.same s w) hy

theorem State.Answers.orElse {s : State} {x y : Option (Word × State)} (hx : s.Answers x) (hy : s.Answers y) :
    s.Answers (x.orElse fun _ => y) := by
  cases x with
  | none => exact hy
  | some r => exact hx

theorem State.answers_readControl (a : Nat) : s.Answers (s.readControl p a) := by
  unfold State.readControl
  refine .keep (.keep (.ite (.some (.eccTouch (.refl s) ..)) (.ite (.some ?_) (.ite (.some (s.reads_edgStat _)) ?_))))
  · exact (s.reads_trcRead _ _).trans (.wr (.refl _) _ _ (readReg_bank p _))
  · exact .keep (.keep (.keep (.keep (.keep (.keep (.keep
      (.keep (.none s))))))))

theorem State.answers_readService (a : Nat) : s.Answers (s.readService p a) := by
  unfold State.readService
  refine .keep (.keep (.keep (.keep (.keep (.keep (.keep
    (.ite (.some (s.reads_recRead p)) (.keep (.keep (.keep (.ite (.some (s.reads_sbgRead p)) ?_)))))))))))
  exact .keep (.keep (.keep (.keep (.keep (.keep (.none s))))))

theorem State.answers_readWindow (a : Nat) : s.Answers (s.readWindow p a) := by
  unfold State.readWindow
  exact .keep (.ite (.some (.wr (.refl s) _ _ (readReg_bank p _))) (.keep (.none s)))

theorem State.reads_readNow (a : Nat) : s.Reads (s.readNow p a).2 := by
  unfold State.readNow
  split
  · exact .refl s
  · split
    · exact .refl s
    · split
      next r hr => exact ((s.answers_readControl p a).orElse ((s.answers_readService p a).orElse (s.answers_readWindow p a))) r hr
      · split
        · exact s.reads_readStored ..
        · exact .refl s

theorem State.reads_readEffect (a : Nat) : s.Reads (s.readEffect p a) := by
  unfold State.readEffect
  refine .ite (.wr (.refl s) _ _ (readReg_bank p _)) ?_
  split
  next h =>
    refine .setBit (.refl s) _ _ _ (.inr (.inl ?_))
    simp only [within, Bool.and_eq_true, decide_eq_true_eq] at h
    omega
  · exact .refl s

/-- A read of the fabric is a read. -/
theorem State.reads_fabricRead (a : Nat) : s.Reads (s.fabricRead p a).2 := by
  unfold State.fabricRead
  split
  · exact .refl s
  · split
    · exact .refl s
    · refine .trans ?_ (State.reads_readEffect ..)
      exact .ite (s.reads_readNow p a) ((s.reads_readNow p a).latchRest ..)

end

end Sys2Proof.Machine
end

section
/-!
PROOFS. The service SPI (O57).
-/

namespace Sys2Proof.Machine

/-! ## A frame of one word -/

/-- A byte before the last one of its word joins the bytes held. -/
theorem wordStep_held {p : Nat} (h : p % 4 ≠ 3) (cur : List Byte) (b : Byte) : wordStep p cur b = (none, cur ++ [b], false) := by
  rw [wordStep, if_pos (by simpa using h)]

/-- The last byte of a word whose first three are held completes it. -/
theorem wordStep_last {p : Nat} (h : p % 4 = 3) {cur : List Byte} (hl : cur.length = 3) (b : Byte) :
    wordStep p cur b = (some (wordOfBytes (cur ++ [b])), [], false) := by
  rw [wordStep, if_neg (by simpa using h), if_pos hl]

theorem spiNext_free {p : Nat} (h : p < 65535) : spiNext false p = p + 1 := by
  rw [spiNext, if_neg (by decide)]
  omega

/-- Four bytes from the start of a word are that word (R411, R420). -/
theorem splitWords_word {a : Nat} (h4 : a % 4 = 0) (ha : a < 65536) {bytes : List Byte} (hl : bytes.length = 4) :
    splitWords (spiNext false) a bytes = ([(a, wordOfBytes bytes)], 0) := by
  obtain ⟨b0, b1, b2, b3, rfl⟩ := List.length_eq_four.mp hl
  have e4 : (a + 1 + 1 + 1) / 4 * 4 = a := by omega
  simp only [splitWords, List.foldl_cons, List.foldl_nil, spiNext_free (p := a) (by omega), spiNext_free (p := a + 1) (by omega),
    spiNext_free (p := a + 1 + 1) (by omega), wordStep_held (p := a) (by omega), wordStep_held (p := a + 1) (by omega),
    wordStep_held (p := a + 1 + 1) (by omega), List.nil_append, List.cons_append,
    wordStep_last (p := a + 1 + 1 + 1) (by omega) (cur := [b0, b1, b2]) rfl, e4]
  rfl

/-- The four bytes of a word. -/
def bytesOf (w : Word) : List Byte := (List.range 4).map (fun i => byteOf w i)

section
variable {s : State}

theorem State.spiFetch_word (s : State) (fixed : Bool) {a : Nat} (h4 : a % 4 = 0) :
    s.spiFetch false fixed 4 a [] =
      ({ (s.fabricRead .spi a).2 with readData := vset (s.fabricRead .spi a).2.readData 1 (s.fabricRead .spi a).1 },
        bytesOf (s.fabricRead .spi a).1) := by
  have he : a / 4 * 4 = a := by omega
  simp [State.spiFetch, he, h4, bytesOf, List.range_succ]

/-! ## The command of a frame -/

/-- A frame that has taken its command byte (R420). -/
def State.spiOpened (s : State) (op : Nat) (crc : Bool) : State :=
  (s.put Reg.HST_SPISTAT 15 8 (op + 128 * b2n crc)).onSpi (fun m => { m with used := true, miso := [] })

theorem State.spiCommand_opens (hup : s.fabricUp = true) (hc : s.spi.cs = true) (hu : s.spi.used = false) (op : Nat) (crc : Bool) :
    s.spiCommand op crc = some (s.spiOpened op crc) := by
  rw [State.spiCommand, hup, hc, hu]
  rfl

theorem State.spiOpened_shows (s : State) {op : Nat} (h : op < 128) (crc : Bool) :
    (s.spiOpened op crc).fld Reg.HST_SPISTAT 15 8 = op + 128 * b2n crc ∧ (s.spiOpened op crc).spi.used = true := by
  refine ⟨(State.fld_put _ _ 15 8 _ (by decide)).trans (Nat.mod_eq_of_lt ?_), rfl⟩
  have : b2n crc ≤ 1 := by cases crc <;> decide
  show op + 128 * b2n crc < 256
  omega

theorem State.keeps_spiOpened (s : State) (op : Nat) (crc : Bool) {w : List Nat} (hw : Reg.HST_SPISTAT ∈ w) : Keeps s (s.spiOpened op crc) w :=
  ((Keeps.refl s w).put _ _ _ hw).onSpi _

theorem State.spiOpened_rd (s : State) (op : Nat) (crc : Bool) {a : Nat} (ha : a ≠ Reg.HST_SPISTAT) :
    (s.spiOpened op crc).rd a = s.rd a := State.rd_put_ne _ _ _ _ _ _ ha.symm

/-- A refused frame (R420, R422). -/
def State.SpiRefused (s t : State) : Prop :=
  t.spi.nRef = true ∧ t.spi.miso = [0xFF] ∧ Keeps s t [Reg.HST_SPISTAT, Reg.HST_WRSTAT]

theorem State.spiRefuse_refused (op : Nat) (crc : Bool) : s.SpiRefused (s.spiOpened op crc).spiRefuse :=
  ⟨rfl, rfl, (s.keeps_spiOpened op crc List.mem_cons_self).onSpi _⟩

theorem State.spiRefuse_told (op : Nat) (crc : Bool) : let t := (s.spiOpened op crc).spiRefuse.wrStat .spi 3 0
    s.SpiRefused t ∧ t.fld Reg.HST_WRSTAT 15 14 = 3 ∧ t.fld Reg.HST_WRSTAT 13 0 = 0 := by
  obtain ⟨h1, h2, h3⟩ := State.spiRefuse_refused (s := s) op crc
  exact ⟨⟨h1, h2, h3.trans ((State.frame_wrStat _ _ _ _).keeps (by simp [regsIn]))⟩, State.wrStat_spi _ 3 0⟩

theorem State.exec_spiWrite (h : s.spiCommand 2 crc = some t) (a : Addr) (bytes : List Byte) :
    exec (.spiWrite crc a bytes) s = .next (t.spiWriteFrame 2 crc false a.toNat bytes) := by
  change execSpiWrite crc a bytes s = _
  rw [execSpiWrite, h]

theorem State.exec_spiWriteFixed (h : s.spiCommand 10 crc = some t) (a : Addr) (bytes : List Byte) :
    exec (.spiWriteFixed crc a bytes) s = .next (t.spiWriteFrame 10 crc true a.toNat bytes) := by
  change execSpiWriteFixed crc a bytes s = _
  rw [execSpiWriteFixed, h]

theorem State.exec_spiRead (h : s.spiCommand 3 crc = some t) (a : Addr) (n : Nat) :
    exec (.spiRead crc a n) s = .next (t.spiReadFrame crc false a.toNat n) := by
  change execSpiRead crc a n s = _
  rw [execSpiRead, h]

theorem State.exec_spiReadFixed (h : s.spiCommand 11 crc = some t) (a : Addr) (n : Nat) :
    exec (.spiReadFixed crc a n) s = .next (t.spiReadFrame crc true a.toNat n) := by
  change execSpiReadFixed crc a n s = _
  rw [execSpiReadFixed, h]

/-! ## Write frames -/

theorem State.spiOpened_fwBusy (op : Nat) (crc : Bool) (a : Nat) : (s.spiOpened op crc).fwBusy .spi a = s.fwBusy .spi a := by
  have h : (s.spiOpened op crc).rd Reg.HST_STAT = s.rd Reg.HST_STAT := s.spiOpened_rd op crc (by decide)
  simp only [State.fwBusy, State.fwOk, State.bit, h]

/-- A frame of one whole word that the unit serves itself goes to its register. -/
theorem State.spiWriteFrame_word {t : State} {a : Nat} {bytes : List Byte} (h4 : a % 4 = 0) (ha : a < 65536) (hl : bytes.length = 4)
    (hg : t.bit Reg.HST_CFG 4 = false) (hf : t.fwBusy .spi a = false) : t.spiWriteFrame 2 false false a bytes =
      ((t.fabricWrite .spi a (wordOfBytes bytes)).wrStat .spi 0 1).onSpi (fun m => { m with early := false }) := by
  have htail : ((a + bytes.length) % 4 != 0) = false := by
    rw [bne_eq_false_iff_eq]
    omega
  have hs : t.spiServed [(a, wordOfBytes bytes)] = ([(a, wordOfBytes bytes)], false) := by
    simp [State.spiServed, hf]
  rw [State.spiWriteFrame, hg, if_neg (by simp), if_neg (by decide), splitWords_word h4 ha hl, htail]
  simp only [hs]
  rfl

theorem State.spiWord_completes (hup : s.fabricUp = true) (hc : s.spi.cs = true) (hu : s.spi.used = false) {a : Addr} {bytes : List Byte}
    (hg : s.bit Reg.HST_CFG 4 = false) (h4 : a.toNat % 4 = 0) (hl : bytes.length = 4) (hf : s.fwBusy .spi a.toNat = false) :
    let s' := s.spiOpened 2 false
    let u := s'.hostWrite .spi a.toNat (wordOfBytes bytes)
    exec (.registerWrite .spi a (wordOfBytes bytes)) s' = .next u ∧
    Completes (.spiWrite false a bytes) s (fun t => (t.fld Reg.HST_WRSTAT 15 14 = 0 ∧ t.fld Reg.HST_WRSTAT 13 0 = 1) ∧
      t.spi = { u.spi with early := false } ∧ (∀ k, k ≠ Reg.HST_WRSTAT → t.rd k = u.rd k) ∧ (∀ k, t.srd k = u.srd k) ∧
      ∀ k, t.mem8 k = u.mem8 k) := by
  intro s' u
  have hf' : s'.fwBusy .spi a.toNat = false := (State.spiOpened_fwBusy 2 false _).trans hf
  have hg' : s'.bit Reg.HST_CFG 4 = false := (congrArg (bitOf · 4) (s.spiOpened_rd 2 false (by decide))).trans hg
  have hw : u = s'.fabricWrite .spi a.toNat (wordOfBytes bytes) := State.hostWrite_fabric _ _ _ _ h4 hf'
  refine ⟨rfl, _, (State.exec_spiWrite (State.spiCommand_opens hup hc hu 2 false) a bytes).trans
    (congrArg _ (State.spiWriteFrame_word h4 a.isLt hl hg' hf')), ?_⟩
  rw [← hw]
  clear_value u
  exact ⟨u.wrStat_spi 0 1, rfl, fun k hk => (State.rd_put_ne _ _ _ _ _ _ hk.symm).trans (State.rd_put_ne _ _ _ _ _ _ hk.symm),
    fun _ => rfl, fun _ => rfl⟩

/-- What a CRC write frame holds until its end (R422): the data before its CRC byte, and whether that verifies. -/
def crcFrame (op : Nat) (fixed : Bool) (a : Nat) (bytes : List Byte) : SpiBuf :=
  { addr := a, fixed := fixed, data := bytes.dropLast,
    ok := crc8 ([BitVec.ofNat 8 (op + 128), BitVec.ofNat 8 (a / 256), BitVec.ofNat 8 a] ++ bytes.dropLast) == bytes.getLastD 0 &&
      !bytes.isEmpty }

theorem State.spiWriteFrame_crc {t : State} (op : Nat) {fixed : Bool} {a : Nat} {bytes : List Byte} (h4 : (fixed && a % 4 != 0) = false)
    (hl : bytes.length ≤ 257) :
    t.spiWriteFrame op true fixed a bytes = t.onSpi (fun m => { m with buf := some (crcFrame op fixed a bytes) }) := by
  rw [State.spiWriteFrame, h4, if_neg (by simpa using hl), if_pos rfl]
  rfl

/-- A CRC write waits for the end of its frame. -/
theorem State.spiBuffered {op : Nat} (fixed : Bool) (a : Nat) (bytes : List Byte) (ho : op < 128) :
    let t := (s.spiOpened op true).onSpi (fun m => { m with buf := some (crcFrame op fixed a bytes) })
    (t.fld Reg.HST_SPISTAT 15 8 = op + 128 * b2n true ∧ t.spi.used = true) ∧
      t.spi.buf.map (fun x => (x.addr, x.fixed, x.data)) = some (a, fixed, bytes.dropLast) ∧ Keeps s t [Reg.HST_SPISTAT] :=
  ⟨s.spiOpened_shows ho true, rfl, (s.keeps_spiOpened op true List.mem_cons_self).onSpi _⟩

theorem State.spiWriteFrame_refused {t : State} (op : Nat) {crc fixed : Bool} {a : Nat} {bytes : List Byte}
    (h : (fixed && a % 4 != 0) = true ∨ (!crc && t.bit Reg.HST_CFG 4) = true) :
    t.spiWriteFrame op crc fixed a bytes = t.spiRefuse.wrStat .spi 3 0 := by
  rw [State.spiWriteFrame]
  exact if_pos (by rcases h with h | h <;> rw [h] <;> simp only [Bool.true_or, Bool.or_true])

/-! ## Read frames -/

theorem State.spiWordRead (op : Nat) (fixed : Bool) {a : Nat} (h4 : a % 4 = 0) (ho : op < 128) :
    let t := (s.spiOpened op false).spiReadFrame false fixed a 4
    (t.fld Reg.HST_SPISTAT 15 8 = op + 128 * b2n false ∧ t.spi.used = true) ∧
      t.spi.miso = bytesOf ((s.spiOpened op false).fabricRead .spi a).1 ∧ t.spi.early = false := by
  intro t
  have hr := (s.spiOpened op false).reads_fabricRead .spi a
  have ht : t = { ((s.spiOpened op false).fabricRead .spi a).2 with
      readData := vset ((s.spiOpened op false).fabricRead .spi a).2.readData 1 ((s.spiOpened op false).fabricRead .spi a).1 }.onSpi
      (fun m => { m with miso := bytesOf ((s.spiOpened op false).fabricRead .spi a).1, early := (a + 4) % 4 != 0 }) := by
    have : (fixed && a % 4 != 0) = false := by simp [h4]
    change State.spiReadFrame _ _ _ _ _ = _
    rw [State.spiReadFrame, this, if_neg (by decide), State.spiFetch_word _ _ h4]
  obtain ⟨hs, hu⟩ := s.spiOpened_shows ho false
  generalize (s.spiOpened op false).fabricRead .spi a = r at hr ht
  rw [ht]
  refine ⟨⟨?_, ?_⟩, rfl, ?_⟩
  · rw [← hs]
    exact hr.frame.field (fun _ _ _ _ => not_readReg_host (by decide) (by decide)) (by decide)
  · have := congrArg (fun p => p.2.1.used) hr.ports
    exact Eq.trans this hu
  · show ((a + 4) % 4 != 0) = false
    rw [bne_eq_false_iff_eq]
    omega

/-! ## The end of a frame (R421 to R423) -/

/-- What is left of a frame's state at its end. -/
def State.spiEnded (s : State) : State :=
  (s.setBit Reg.HST_STAT 27 false).onSpi (fun m => { SpiSt.initial with crcErr := m.nCrc, busy := m.nBusy, refused := m.nRef, miso := m.miso })

theorem State.spiEnded_ends (s : State) : s.spiEnded.spi.cs = false ∧ s.spiEnded.bit Reg.HST_STAT 27 = false ∧ s.spiEnded.spi.buf = none :=
  ⟨rfl, State.bit_setBit _ _ _ _ (by decide), rfl⟩

theorem State.spiEnded_rd (s : State) {a : Nat} (ha : a ≠ Reg.HST_STAT) : s.spiEnded.rd a = s.rd a := State.rd_setBit_ne _ _ _ _ _ ha.symm

theorem State.keeps_spiEnded {x : State} {w : List Nat} (h : Keeps s x w) (hw : Reg.HST_STAT ∈ w) : Keeps s x.spiEnded w :=
  (h.setBit _ _ hw).onSpi _

/-- A frame without its address, or in the middle of a word, has ended early. -/
def State.spiTimed (s : State) : State := if !s.spi.used || s.spi.early then s.portReset .spi else s

theorem State.spiTimed_early (hu : s.spi.used = true) (he : s.spi.early = true) : s.spiTimed = s.portReset .spi := by
  rw [State.spiTimed, hu, he]
  rfl

theorem State.spiTimed_whole (hu : s.spi.used = true) (he : s.spi.early = false) : s.spiTimed = s := by
  rw [State.spiTimed, hu, he]
  rfl

theorem State.exec_spiFrameEnd_plain (hup : s.fabricUp = true) (hc : s.spi.cs = true) (hb : s.spi.buf = none) :
    exec .spiFrameEnd s = .next s.spiTimed.spiEnded := by
  change execSpiFrameEnd s = _
  rw [execSpiFrameEnd, hup, hc, hb]
  rfl

theorem State.exec_spiFrameEnd_held (hup : s.fabricUp = true) (hc : s.spi.cs = true) {x : SpiBuf} (hb : s.spi.buf = some x) :
    exec .spiFrameEnd s = .next (s.spiApply x).spiTimed.spiEnded := by
  change execSpiFrameEnd s = _
  rw [execSpiFrameEnd, hup, hc, hb]
  rfl

/-- A CRC write frame whose CRC fails changes nothing but the counts and the outcome. -/
def State.spiCrcFailed (s : State) (part : Nat) : State :=
  ((((s.countPartial .spi part).pecError .spi).onSpi (fun m => { m with nCrc := true })).wrStat .spi 1 0)

theorem State.spiCrcFailed_spi (s : State) (part : Nat) : (s.spiCrcFailed part).spi = { s.spi with nCrc := true } := by
  have h := (s.countPartial_smb .spi part).2
  simp only [State.spiCrcFailed, State.wrStat, State.pecError, State.put_spi, State.onSpi_spi, State.raise_spi, State.setBit_spi,
    State.bump_spi, h]

theorem State.exec_spiFrameEnd_failed (hup : s.fabricUp = true) (hc : s.spi.cs = true) (hu : s.spi.used = true) {x : SpiBuf}
    (hb : s.spi.buf = some x) (hk : x.ok = false) (he : s.spi.early = false) :
    exec .spiFrameEnd s = .next (s.spiCrcFailed (splitWords (spiNext x.fixed) x.addr x.data).2).spiEnded := by
  have ha : s.spiApply x = s.spiCrcFailed (splitWords (spiNext x.fixed) x.addr x.data).2 := by
    rw [State.spiApply, hk]
    rfl
  have hs := s.spiCrcFailed_spi (splitWords (spiNext x.fixed) x.addr x.data).2
  rw [State.exec_spiFrameEnd_held hup hc hb, ha, State.spiTimed_whole]
  · rw [hs]
    exact hu
  · rw [hs]
    exact he

theorem State.spiCrcFailed_completes (hup : s.fabricUp = true) (hc : s.spi.cs = true) (hu : s.spi.used = true) {x : SpiBuf}
    (hb : s.spi.buf = some x) (hk : x.ok = false) (he : s.spi.early = false) : Completes .spiFrameEnd s (fun t =>
      (t.spi.cs = false ∧ t.bit Reg.HST_STAT 27 = false ∧ t.spi.buf = none) ∧
      (t.fld Reg.HST_WRSTAT 15 14 = 1 ∧ t.fld Reg.HST_WRSTAT 13 0 = 0) ∧
      t.spi.crcErr = true ∧ t.fld Reg.HST_PECERR 31 16 = min (s.fld Reg.HST_PECERR 31 16 + 1) 0xFFFF ∧
      Raised s t (E.HOST_PEC_ERR 0) ∧ Keeps s t [Reg.HST_STAT, Reg.HST_WRSTAT, Reg.HST_PECERR, Reg.HST_PARTIAL]) := by
  refine ⟨_, State.exec_spiFrameEnd_failed hup hc hu hb hk he, State.spiEnded_ends _, ?_⟩
  generalize (splitWords (spiNext x.fixed) x.addr x.data).2 = n
  have h1 := s.frame_countPartial .spi n
  have h2 := (s.countPartial .spi n).frame_pecError .spi
  have h3 := (((s.countPartial .spi n).pecError .spi).onSpi (fun m => { m with nCrc := true })).frame_wrStat .spi 1 0
  refine ⟨?_, ?_, ?_, ?_, ?_⟩
  · simp only [State.fld, State.spiEnded_rd _ (show Reg.HST_WRSTAT ≠ Reg.HST_STAT by decide)]
    exact State.wrStat_spi _ 1 0
  · exact congrArg SpiSt.nCrc (s.spiCrcFailed_spi n)
  · have hr : (s.spiCrcFailed n).rd Reg.HST_PECERR = ((s.countPartial .spi n).pecError .spi).rd Reg.HST_PECERR :=
      h3.rd (fun i _ => by simp [regsIn]) (by decide)
    have := (s.countPartial .spi n).pecError_counts.2
    rw [State.fld, State.spiEnded_rd _ (by decide), hr, State.fld, ← h1.rd (a := Reg.HST_PECERR) (fun i _ => by simp [regsIn]) (by decide)]
    exact this
  · have hraise : Raised s ((s.countPartial .spi n).pecError .spi) (E.HOST_PEC_ERR 0) :=
      h1.raisedAfter _ rfl (by decide) (by decide) (by decide)
    exact hraise.mono h3.evq
  · refine State.keeps_spiEnded ?_ List.mem_cons_self
    refine (((h1.keeps ?_).trans (h2.keeps ?_)).onSpi _).trans (h3.keeps ?_) <;> simp [regsIn]

theorem State.spiEarly_completes (hup : s.fabricUp = true) (hc : s.spi.cs = true) (hu : s.spi.used = true) (hb : s.spi.buf = none)
    (he : s.spi.early = true) : Completes .spiFrameEnd s (fun t => (t.spi.cs = false ∧ t.bit Reg.HST_STAT 27 = false ∧ t.spi.buf = none) ∧
      t.fld Reg.HST_TIMEOUT 31 16 = min (s.fld Reg.HST_TIMEOUT 31 16 + 1) 0xFFFF ∧ Raised s t (E.HOST_TIMEOUT 0) ∧
      Keeps s t [Reg.HST_STAT, Reg.HST_TIMEOUT, Reg.TIM_CDCFLUSH]) := by
  obtain ⟨-, -, hn, hr⟩ := s.portReset_shows
  refine ⟨_, (State.exec_spiFrameEnd_plain hup hc hb).trans (by rw [State.spiTimed_early hu he]), State.spiEnded_ends _, ?_, hr .spi, ?_⟩
  · rw [State.fld, State.spiEnded_rd _ (by decide)]
    exact hn
  · exact State.keeps_spiEnded ((s.frame_portReset .spi).keeps (by simp [regsIn])) List.mem_cons_self

/-! ## SPI_FRAME_START and SPI_STATUS -/

theorem State.spiFrameStart_completes (mode3 : Bool) (hup : s.fabricUp = true) (hc : s.spi.cs = false) :
    Completes (.spiFrameStart mode3) s (fun t => t.spi.cs = true ∧ t.spi.used = false ∧
      t.fld Reg.HST_SPISTAT 7 0 = s.spiStatusByte.toNat ∧ t.bit Reg.HST_SPISTAT 16 = mode3 ∧ t.bit Reg.HST_STAT 27 = true ∧
      Keeps s t [Reg.HST_SPISTAT, Reg.HST_STAT]) := by
  have hx : exec (.spiFrameStart mode3) s = .next ((((s.put Reg.HST_SPISTAT 7 0 s.spiStatusByte.toNat).setBit Reg.HST_SPISTAT 16
      mode3).setBit Reg.HST_STAT 27 true).onSpi (fun m => { SpiSt.initial with cs := true, miso := m.miso })) := by
    change execSpiFrameStart mode3 s = _
    rw [execSpiFrameStart, hup, hc]
    rfl
  have hr (x : State) : ((x.setBit Reg.HST_STAT 27 true).onSpi (fun m => { SpiSt.initial with cs := true, miso := m.miso })).rd
      Reg.HST_SPISTAT = x.rd Reg.HST_SPISTAT := State.rd_setBit_ne _ _ _ _ _ (by decide)
  refine ⟨_, hx, rfl, rfl, ?_, ?_, State.bit_setBit _ _ _ _ (by decide), ?_⟩
  · rw [State.fld, hr]
    refine (State.fld_put_disj _ _ _ _ _ 7 0 (by decide) (.inl (by decide))).trans ((State.fld_put _ _ 7 0 _ (by decide)).trans ?_)
    exact Nat.mod_eq_of_lt s.spiStatusByte.isLt
  · rw [State.bit, hr]
    exact State.bit_setBit _ _ _ _ (by decide)
  · exact (((((Keeps.refl s _).put _ _ _ (by decide)).setBit _ _ (by decide)).setBit _ _ (by decide))).onSpi _

theorem State.spiStatus_completes (crc : Bool) (n : Nat) (hup : s.fabricUp = true) (hc : s.spi.cs = true) (hu : s.spi.used = false) :
    Completes (.spiStatus crc n) s (fun t => (t.fld Reg.HST_SPISTAT 15 8 = 5 + 128 * b2n crc ∧ t.spi.used = true) ∧
      t.spi.miso = List.replicate n (BitVec.ofNat 8 (s.fld Reg.HST_SPISTAT 7 0)) ∧ Keeps s t [Reg.HST_SPISTAT]) := by
  have hk : (s.spiOpened 5 crc).fld Reg.HST_SPISTAT 7 0 = s.fld Reg.HST_SPISTAT 7 0 :=
    State.fld_put_disj _ _ 15 8 _ 7 0 (by decide) (.inl (by decide))
  have hx : ∃ rd, exec (.spiStatus crc n) s = .next ({ s.spiOpened 5 crc with readData := rd }.onSpi
      (fun m => { m with miso := List.replicate n (BitVec.ofNat 8 (s.fld Reg.HST_SPISTAT 7 0)) })) := by
    refine ⟨vset (s.spiOpened 5 crc).readData 1 ((BitVec.ofNat 8 (s.fld Reg.HST_SPISTAT 7 0)).setWidth 32), ?_⟩
    change execSpiStatus crc n s = _
    rw [execSpiStatus, State.spiCommand_opens hup hc hu, ← hk]
  obtain ⟨rd, hx⟩ := hx
  exact ⟨_, hx, s.spiOpened_shows (by decide) crc, rfl, s.keeps_spiOpened 5 crc List.mem_cons_self⟩

theorem State.spiRefused_completes (op : Byte) (hup : s.fabricUp = true) (hc : s.spi.cs = true) (hu : s.spi.used = false)
    (ho : spiOpcode (op.toNat % 128) = false) : Completes (.spiRefused op) s (fun t => s.SpiRefused t ∧ t.spi.used = true) := by
  refine ⟨(s.spiOpened (op.toNat % 128) (op.getLsbD 7)).spiRefuse, ?_, State.spiRefuse_refused _ _, rfl⟩
  change execSpiRefused op s = _
  rw [execSpiRefused, ho, if_neg (by decide), State.spiCommand_opens hup hc hu]

end

/-- Settles O57: each command of a frame on the state that has taken its command byte, and each end of a frame. -/
theorem spiFrames : Obligations.SpiFrames := by
  unfold Obligations.SpiFrames
  intro mode3 crc a bytes op n s hup told shows refused
  have cmd (hc : s.spi.cs = true) (hu : s.spi.used = false) := State.spiCommand_opens hup hc hu
  refine ⟨State.spiFrameStart_completes mode3 hup, fun hc hu => ?_, fun hc hu => ?_⟩
  · intro s' u
    refine ⟨State.spiWord_completes hup hc hu, fun hl => ?_, fun h4 hl => ?_, fun h4 => ?_, fun hg => ?_, fun h4 => ?_,
      State.spiStatus_completes crc n hup hc hu, State.spiRefused_completes op hup hc hu⟩
    · exact ⟨_, (State.exec_spiWrite (cmd hc hu 2 true) a bytes).trans (congrArg _ (State.spiWriteFrame_crc 2 rfl hl)),
        State.spiBuffered false a.toNat bytes (by decide)⟩
    · exact ⟨_, (State.exec_spiWriteFixed (cmd hc hu 10 true) a bytes).trans (congrArg _ (State.spiWriteFrame_crc 10 (by simp [h4]) hl)),
        State.spiBuffered true a.toNat bytes (by decide)⟩
    · have hm : (true && a.toNat % 4 != 0) = true := by simpa using h4
      refine ⟨⟨_, (State.exec_spiWriteFixed (cmd hc hu 10 crc) a bytes).trans
        (congrArg _ (State.spiWriteFrame_refused 10 (.inl hm))), State.spiRefuse_told 10 crc⟩,
        _, (State.exec_spiReadFixed (cmd hc hu 11 crc) a n).trans (congrArg _ ?_), State.spiRefuse_refused 11 crc⟩
      rw [State.spiReadFrame, hm, if_pos rfl]
    · have hg' : (s.spiOpened 2 false).bit Reg.HST_CFG 4 = true := (congrArg (bitOf · 4) (s.spiOpened_rd 2 false (by decide))).trans hg
      exact ⟨_, (State.exec_spiWrite (cmd hc hu 2 false) a bytes).trans
        (congrArg _ (State.spiWriteFrame_refused 2 (.inr (by rw [hg']; rfl)))), State.spiRefuse_told 2 false⟩
    · exact ⟨⟨_, State.exec_spiRead (cmd hc hu 3 false) a 4, State.spiWordRead 3 false h4 (by decide)⟩,
        _, State.exec_spiReadFixed (cmd hc hu 11 false) a 4, State.spiWordRead 11 true h4 (by decide)⟩
  · refine ⟨fun hb he => ?_, State.spiEarly_completes hup hc hu, fun x hb he hk => State.spiCrcFailed_completes hup hc hu hb hk he⟩
    exact ⟨_, (State.exec_spiFrameEnd_plain hup hc hb).trans (by rw [State.spiTimed_whole hu he]), State.spiEnded_ends s, rfl, rfl, rfl,
      State.keeps_spiEnded (.refl s _) List.mem_cons_self⟩

end Sys2Proof.Machine
end

section
/-!
PROOFS. The bytes of an SMBus transaction (O55).
-/

namespace Sys2Proof.Machine

section
variable {s : State}

/-! ## START and the address byte (R408 to R410) -/

/-- The comparators as registers hold them now. -/
def State.comparators (s : State) : Vector Word 4 := Vector.ofFn (fun (k : Fin 4) => s.rd (Reg.HST_ACMP k))

theorem State.vget_comparators (s : State) (k : Fin 4) : vget s.comparators k 0 = s.rd (Reg.HST_ACMP k) := by
  simp [vget, State.comparators]

theorem State.exec_smbusStart (hup : s.fabricUp = true) (h : (s.smb.active && s.smb.comp.isSome) = false) :
    exec .smbusStart s = .next (s.onSmb (fun _ => { SmbSt.initial with active := true, addrDue := true, acmp := s.comparators })) := by
  change execSmbusStart s = _
  rw [execSmbusStart, hup, h]
  rfl

theorem State.exec_smbusRestart (hup : s.fabricUp = true) (ha : s.smb.active = true) (hc : s.smb.comp.isSome = true)
    (hr : s.smb.reading = true) : exec .smbusStart s =
      .next (s.onSmb (fun m => { m with acmp := s.comparators, addrDue := true, lost := false, ack := false, out := [] })) := by
  change execSmbusStart s = _
  rw [execSmbusStart, hup, ha, hc, hr]
  rfl

theorem smbMatch_lt {a k : Nat} (h : s.smbMatch a = some k) : k < 4 := by
  unfold State.smbMatch at h
  split at h
  · exact nomatch h
  · exact List.mem_range.mp (List.mem_of_find?_eq_some h)

theorem State.exec_smbusAddress_other (b : Byte) (hup : s.fabricUp = true) (ha : s.smb.active = true) (hd : s.smb.addrDue = true)
    (hm : s.smbMatch (b.toNat / 2) = none) : exec (.smbusAddress b) s = .next s.smbLeave := by
  change execSmbusAddress b s = _
  rw [execSmbusAddress, hup, ha, hd]
  simp only [hm]
  rfl

/-- The state in which comparator `k` has answered its address. -/
def State.addressed (s : State) (b : Byte) (k : Nat) : State :=
  let same := s.smb.comp == some k
  let x := if same then s else s.bump (Reg.HST_ACNT k) 31 0 1
  ((x.put Reg.HST_STAT 22 16 (b.toNat / 2)).setBit Reg.HST_STAT 28 true).onSmb (fun m => { m with
    comp := some k, addrDue := false, reading := b.getLsbD 0, ack := true, pec := crc8Byte (if same then m.pec else 0) b,
    nptr := 0, word := [], buf := [], words := 0, nacked := false, result := 0, out := [],
    left := if b.getLsbD 0 && bitOf (s.acmp k) 20 then
      (match (if same then m.left else none) with | some c => some c | none => some 4) else none })

theorem State.exec_smbusAddress_answered (b : Byte) {k : Nat} (hup : s.fabricUp = true) (ha : s.smb.active = true)
    (hd : s.smb.addrDue = true) (hn : s.smb.nacked = false) (hm : s.smbMatch (b.toNat / 2) = some k)
    (hk : s.smb.comp = some k ∨ s.smbAnswers k = true) : exec (.smbusAddress b) s = .next (s.addressed b k) := by
  have hk' : (!(s.smb.comp == some k || s.smbAnswers k)) = false := by
    rcases hk with h | h <;> simp [h]
  change execSmbusAddress b s = _
  rw [execSmbusAddress, hup, ha, hd]
  simp only [hm, hn, hk']
  unfold State.addressed
  cases hs : s.smb.comp == some k <;> rfl

theorem State.exec_smbusAddress_busy (b : Byte) {k : Nat} (hup : s.fabricUp = true) (ha : s.smb.active = true)
    (hd : s.smb.addrDue = true) (hn : s.smb.nacked = false) (hm : s.smbMatch (b.toNat / 2) = some k)
    (hk : s.smb.comp ≠ some k) (hw : s.smbAnswers k = false) (h3 : fieldOf (s.acmp k) 17 16 = 3) :
    exec (.smbusAddress b) s = .next (s.busyAnswer .smbus).smbLeave := by
  have hk' : (s.smb.comp == some k) = false := beq_eq_false_iff_ne.mpr hk
  change execSmbusAddress b s = _
  rw [execSmbusAddress, hup, ha, hd]
  simp only [hm, hn, hk', hw, h3]
  rfl

theorem State.addressed_shows (b : Byte) {k : Nat} (hk : k < 4) : let t := s.addressed b k
    t.fld Reg.HST_STAT 22 16 = b.toNat / 2 ∧ t.bit Reg.HST_STAT 28 = true ∧
      t.fld (Reg.HST_ACNT k) 31 0 = min (s.fld (Reg.HST_ACNT k) 31 0 + (if s.smb.comp = some k then 0 else 1)) 0xFFFFFFFF ∧
      Keeps s t [Reg.HST_STAT, Reg.HST_ACNT k] := by
  have hc : Reg.HST_ACNT k ≠ Reg.HST_STAT := by
    simp only [Reg.HST_ACNT, Reg.HST_STAT]
    omega
  refine ⟨?_, State.bit_setBit _ _ _ _ (by decide), ?_, ?_⟩
  · refine (State.fld_put_disj _ _ 28 28 _ 22 16 (by decide) (.inl (by decide))).trans ((State.fld_put _ _ 22 16 _ (by decide)).trans ?_)
    have := b.isLt
    exact Nat.mod_eq_of_lt (by show b.toNat / 2 < 128; omega)
  · have hl := fieldOf_lt (s.rd (Reg.HST_ACNT k)) 31 0
    have hx : (s.addressed b k).rd (Reg.HST_ACNT k) = (if s.smb.comp == some k then s else s.bump (Reg.HST_ACNT k) 31 0 1).rd (Reg.HST_ACNT k) :=
      (State.rd_setBit_ne _ _ _ _ _ hc.symm).trans (State.rd_put_ne _ _ _ _ _ _ hc.symm)
    rw [State.fld, hx]
    by_cases h : s.smb.comp = some k
    · rw [if_pos (by simp [h]), if_pos h, State.fld]
      exact (Nat.min_eq_left (by simp at hl; omega)).symm
    · rw [if_neg (by simp [h]), if_neg h]
      exact s.fld_bump _ 31 0 1 (by decide)
  · refine (((Keeps.put ?_ _ _ _ List.mem_cons_self).setBit _ _ List.mem_cons_self).onSmb _)
    split
    · exact .refl s _
    · exact (Keeps.refl s _).bump _ _ _ (List.mem_cons_of_mem _ List.mem_cons_self)

/-! ## Bytes written (R410 to R412, R414) -/

/-- A byte that the target has taken into its PEC and acknowledged. -/
def State.taken (s : State) (b : Byte) : State := s.onSmb (fun m => { m with pec := crc8Byte m.pec b, ack := true })

/-- A byte that the target does not acknowledge, with all after it (R415, R434). -/
def State.refusedByte (s : State) (r : Nat) : State := s.onSmb (fun m => { m with nacked := true, result := r, ack := false })

/-- What a byte after the address does. -/
def State.byteWritten (s : State) (b : Byte) (k : Nat) : State :=
  if s.smb.nptr = 0 then
    if fieldOf (s.acmp k) 17 16 = 3 && b != 8 then (s.taken b).refusedByte 3
    else (s.taken b).onSmb (fun m => { m with ptrHi := b, nptr := 1 })
  else if s.smb.nptr = 1 then
    ((s.taken b).onSmb (fun m => { m with nptr := 2, bufPtr := s.smb.ptrHi.toNat * 256 + b.toNat })).wrN Reg.HST_PTR
      (s.smb.ptrHi.toNat * 256 + b.toNat)
  else if s.pecMode then
    if 257 ≤ s.smb.buf.length then (s.taken b).refusedByte 3 else (s.taken b).onSmb (fun m => { m with buf := m.buf ++ [b] })
  else (s.taken b).writePlain b

theorem State.exec_smbusWriteByte (b : Byte) {k : Nat} (hup : s.fabricUp = true) (hc : s.smb.comp = some k) (hd : s.smb.addrDue = false)
    (hr : s.smb.reading = false) (hn : s.smb.nacked = false) : exec (.smbusWriteByte b) s = .next (s.byteWritten b k) := by
  change execSmbusWriteByte b s = _
  rw [execSmbusWriteByte]
  simp only [hc]
  rw [hup, hd, hr, if_neg (by decide), hn, if_neg (by decide)]
  unfold State.byteWritten
  simp only [apply_ite Host.Outcome.next]
  rfl

theorem State.ptr_lt (s : State) : s.ptr < 65536 := fieldOf_lt ..

theorem pageNext_lt {p : Nat} (h : p < 65536) : pageNext p < 65536 := by
  unfold pageNext
  omega

theorem State.rdN_wrN (s : State) (a : Nat) {v : Nat} (h : v < 2 ^ 32) : (s.wrN a v).rdN a = v := by
  rw [State.rdN, State.wrN, State.rd_wr_same, word, BitVec.toNat_ofNat, Nat.mod_eq_of_lt h]

/-- The state after a data byte that leaves `cur` of its word, the pointer advanced. -/
def State.stepped (s : State) (b : Byte) (cur : List Byte) : State :=
  ((s.taken b).onSmb (fun m => { m with word := cur })).wrN Reg.HST_PTR (pageNext s.ptr)

theorem State.stepped_ptr (b : Byte) (cur : List Byte) : (s.stepped b cur).rdN Reg.HST_PTR = pageNext s.ptr :=
  State.rdN_wrN _ _ (lt_trans (pageNext_lt s.ptr_lt) (by decide))

theorem State.stepped_rd (b : Byte) (cur : List Byte) {a : Nat} (ha : a ≠ Reg.HST_PTR) : (s.stepped b cur).rd a = s.rd a :=
  State.rd_wr_ne _ _ _ _ ha.symm

theorem State.keeps_stepped (b : Byte) (cur : List Byte) {w : List Nat} (hw : Reg.HST_PTR ∈ w) : Keeps s (s.stepped b cur) w :=
  (((Keeps.refl s w).onSmb _).onSmb _).wr _ hw

theorem State.byteWritten_plain (b : Byte) (k : Nat) (h2 : 2 ≤ s.smb.nptr) (hp : s.pecMode = false) :
    s.byteWritten b k = (s.taken b).writePlain b := by
  rw [State.byteWritten, if_neg (by omega), if_neg (by omega), hp, if_neg (by decide)]

theorem State.writePlain_held (b : Byte) (h : s.ptr % 4 ≠ 3) : (s.taken b).writePlain b = s.stepped b (s.smb.word ++ [b]) := by
  have hw : wordStep (s.taken b).ptr (s.taken b).smb.word b = (none, s.smb.word ++ [b], false) := wordStep_held h s.smb.word b
  rw [State.writePlain]
  simp only [hw]
  rfl

theorem State.writePlain_partial (b : Byte) (h : s.ptr % 4 = 3) (hl : s.smb.word.length ≠ 3) :
    (s.taken b).writePlain b = (s.stepped b []).countPartial .smbus 1 := by
  have hw : wordStep (s.taken b).ptr (s.taken b).smb.word b = (none, [], true) := by
    change wordStep s.ptr s.smb.word b = _
    rw [wordStep, if_neg (by simpa using h), if_neg hl]
  rw [State.writePlain]
  simp only [hw]
  rfl

theorem State.writePlain_whole (b : Byte) (h : s.ptr % 4 = 3) (hl : s.smb.word.length = 3) :
    (s.taken b).writePlain b = if (s.stepped b []).fwBusy .smbus (s.ptr / 4 * 4)
      then ((s.stepped b []).busyAnswer .smbus).onSmb (fun m => { m with nacked := true, result := 2, ack := false })
      else ((s.stepped b []).fabricWrite .smbus (s.ptr / 4 * 4) (wordOfBytes (s.smb.word ++ [b]))).onSmb
        (fun m => { m with words := m.words + 1 }) := by
  have hw : wordStep (s.taken b).ptr (s.taken b).smb.word b = (some (wordOfBytes (s.smb.word ++ [b])), [], false) := wordStep_last h hl b
  rw [State.writePlain]
  simp only [hw]
  rfl

theorem State.stepped_fwBusy (b : Byte) (cur : List Byte) (a : Nat) : (s.stepped b cur).fwBusy .smbus a = s.fwBusy .smbus a := by
  have h : (s.stepped b cur).rd Reg.HST_STAT = s.rd Reg.HST_STAT := State.stepped_rd b cur (by decide)
  simp only [State.fwBusy, State.fwOk, State.bit, h]

theorem State.writtenPartial_shows (b : Byte) : let t := (s.stepped b []).countPartial .smbus 1
    t.smb.word = [] ∧ t.rdN Reg.HST_PTR = pageNext s.ptr ∧
      t.fld Reg.HST_PARTIAL 15 0 = min (s.fld Reg.HST_PARTIAL 15 0 + 1) 0xFFFF ∧ Raised s t (E.HOST_PARTIAL 0) ∧
      Keeps s t [Reg.HST_PTR, Reg.HST_PARTIAL, Reg.HST_STAT] := by
  have hf := (s.stepped b []).frame_countPartial .smbus 1
  obtain ⟨hn, hr⟩ := (s.stepped b []).countPartial_counts (n := 1) (by decide)
  refine ⟨congrArg SmbSt.word ((s.stepped b []).countPartial_smb .smbus 1).1, ?_, ?_, hr,
    (State.keeps_stepped b [] List.mem_cons_self).trans (hf.keeps (by simp [regsIn]))⟩
  · rw [State.rdN, hf.rd (fun i _ => by simp [regsIn]) (by decide)]
    exact State.stepped_ptr b []
  · rw [hn, State.fld, State.stepped_rd b [] (by decide), State.fld]

theorem State.writtenBusy_shows (b : Byte) :
    let t := ((s.stepped b []).busyAnswer .smbus).onSmb (fun m => { m with nacked := true, result := 2, ack := false })
    t.smb.ack = false ∧ t.smb.nacked = true ∧ t.fld Reg.HST_FWBUSY 15 0 = min (s.fld Reg.HST_FWBUSY 15 0 + 1) 0xFFFF ∧
      Keeps s t [Reg.HST_PTR, Reg.HST_FWBUSY] := by
  refine ⟨rfl, rfl, ?_, ?_⟩
  · have := (s.stepped b []).busyAnswer_counts
    rw [State.fld, State.onSmb_rd, ← State.fld, this, State.fld, State.stepped_rd b [] (by decide), State.fld]
  · exact ((State.keeps_stepped b [] List.mem_cons_self).trans (((s.stepped b []).frame_busyAnswer .smbus).keeps (by simp [regsIn]))).onSmb _

/-- The byte that completes a word writes its register as REGISTER_WRITE does. -/
theorem State.writtenWord (b : Byte) (hl : s.smb.word.length = 3) (h3 : s.ptr % 4 = 3) (hf : s.fwBusy .smbus (s.ptr / 4 * 4) = false) :
    let s' := s.stepped b []
    let u := s'.hostWrite .smbus s.ptr (wordOfBytes (s.smb.word ++ [b]))
    exec (.registerWrite .smbus (BitVec.ofNat 16 s.ptr) (wordOfBytes (s.smb.word ++ [b]))) s' = .next u ∧
      (s.taken b).writePlain b = { u with smb := { u.smb with words := u.smb.words + 1 } } := by
  intro s' u
  have hf' : s'.fwBusy .smbus (s.ptr / 4 * 4) = false := (State.stepped_fwBusy b [] _).trans hf
  have hu : u = s'.fabricWrite .smbus (s.ptr / 4 * 4) (wordOfBytes (s.smb.word ++ [b])) := by
    change State.hostWrite _ _ _ _ = _
    rw [State.hostWrite, hf', Bool.and_false, if_neg (by decide)]
  refine ⟨?_, ?_⟩
  · rw [exec_registerWrite, BitVec.toNat_ofNat, Nat.mod_eq_of_lt s.ptr_lt]
  · rw [State.writePlain_whole b h3 hl, if_neg (by rw [hf']; decide), ← hu]
    rfl

/-! ## Bytes read (R410, R413, R416) -/

/-- The byte on the bus is the data that the port last sent. -/
def State.driven (s : State) (b : Byte) : State := { s with readData := vset s.readData 0 (b.setWidth 32) }

theorem State.driven_data (b : Byte) : vget (s.driven b).readData 0 0 = b.setWidth 32 := vget_vset_same _ _ _ _ (by decide)

theorem State.keeps_driven (b : Byte) (w : List Nat) : Keeps s (s.driven b) w := .of (regsKept_refl s w) rfl rfl

theorem State.arbLost_parts : s.arbLost.smb = s.smb ∧ s.arbLost.readData = s.readData := by
  simp [State.arbLost]

/-- A byte put on the bus, from the state in which it is due. -/
def State.byteSent (s : State) (lost ack : Bool) (b : Byte) : State :=
  if lost && b != 0 then (s.driven b).arbLost.onSmb (fun m => { m with lost := true })
  else (s.driven b).onSmb (fun m => { m with nacked := !ack })

theorem State.exec_smbusReadByte (lost ack : Bool) (hup : s.fabricUp = true) (hc : s.smb.comp.isSome = true) (hr : s.smb.reading = true)
    (hd : s.smb.addrDue = false) (hn : s.smb.nacked = false) (hl : s.smb.lost = false) :
    exec (.smbusReadByte lost ack) s = .next (s.sendByte.2.byteSent lost ack s.sendByte.1) := by
  change execSmbusReadByte lost ack s = _
  rw [execSmbusReadByte, hup, hc, hr, hd, hn, hl, if_neg (by decide)]
  unfold State.byteSent
  rw [apply_ite Host.Outcome.next]
  rfl

/-- What a byte on the bus shows, sent from a state `x`, told of `s`. -/
def State.Sent (s : State) (lost ack : Bool) (b : Byte) (t : State) : Prop :=
  vget t.readData 0 0 = b.setWidth 32 ∧
    ((lost && b != 0) = true → t.smb.lost = true ∧ t.bit Reg.HST_STAT 3 = true ∧ Raised s t (E.HOST_ARBLOST 0)) ∧
    ((lost && b != 0) = false → t.smb.nacked = !ack ∧ t.smb.lost = false)

theorem State.byteSent_shows (lost ack : Bool) (b : Byte) {x : State} (hl : x.smb.lost = false)
    (hev : s.pulseFits 28 = true → x.pulseFits 28 = true) : let t := x.byteSent lost ack b
    s.Sent lost ack b t ∧ t.smb.out = x.smb.out ∧ t.smb.left = x.smb.left ∧ Keeps x t [Reg.HST_STAT, Reg.HST_ARA] := by
  intro t
  have hk : Keeps x (x.driven b) [Reg.HST_STAT, Reg.HST_ARA] := State.keeps_driven b _
  by_cases h : (lost && b != 0) = true
  · have ht : t = (x.driven b).arbLost.onSmb (fun m => { m with lost := true }) := if_pos h
    obtain ⟨-, hs, hr⟩ := (x.driven b).arbLost_shows
    obtain ⟨hm, hd⟩ := (x.driven b).arbLost_parts
    rw [ht]
    refine ⟨⟨?_, fun _ => ⟨rfl, hs 3 (by decide), fun hf => hr (hev hf)⟩, fun h' => ?_⟩, ?_, ?_,
      (hk.trans ((x.driven b).frame_arbLost.keeps (by simp [regsIn]))).onSmb _⟩
    · exact (congrArg (vget · 0 0) hd).trans (State.driven_data b)
    · rw [h] at h'
      exact nomatch h'
    · show (x.driven b).arbLost.smb.out = x.smb.out
      rw [hm]
      rfl
    · show (x.driven b).arbLost.smb.left = x.smb.left
      rw [hm]
      rfl
  · have ht : t = (x.driven b).onSmb (fun m => { m with nacked := !ack }) := if_neg h
    rw [ht]
    exact ⟨⟨State.driven_data b, fun h' => absurd h' h, fun _ => ⟨rfl, hl⟩⟩, rfl, rfl, hk.onSmb _⟩

/-- The state from which a fetched byte is sent: the PEC has taken it and the pointer goes on. -/
def State.fetched (s : State) (b : Byte) : State :=
  (s.onSmb (fun m => { m with pec := crc8Byte m.pec b, left := m.left.map (fun n => n - 1) })).wrN Reg.HST_PTR ((s.ptr + 1) % 65536)

theorem State.sendByte_data (h0 : s.smb.left ≠ some 0) (hp : s.smb.left = none → s.pecMode = false) :
    s.sendByte = (s.fetchByte.1, s.fetchByte.2.fetched s.fetchByte.1) := by
  rw [State.sendByte]
  cases h : s.smb.left with
  | none =>
    simp only [hp h]
    rfl
  | some n =>
    cases n with
    | zero => exact absurd h h0
    | succ n => rfl

theorem State.sendByte_pec (h0 : s.smb.left = some 0) : s.sendByte = (s.smb.pec, s.onSmb (fun m => { m with left := none })) := by
  rw [State.sendByte]
  simp only [h0]

theorem State.fetchByte_held {b : Byte} {rest : List Byte} (h : s.smb.out = b :: rest) :
    s.fetchByte = (b, s.onSmb (fun m => { m with out := rest })) := by
  rw [State.fetchByte]
  simp only [h]

/-- The bytes of the word at the pointer from the pointer on (R413). -/
def State.dueBytes (s : State) (w : Word) : List Byte := (bytesOf w).drop (s.ptr % 4)

theorem State.fetchByte_read (h : s.smb.out = []) : s.fetchByte = ((s.dueBytes (s.fabricRead .smbus (s.ptr / 4 * 4)).1).headD 0,
    (s.fabricRead .smbus (s.ptr / 4 * 4)).2.onSmb
      (fun m => { m with out := (s.dueBytes (s.fabricRead .smbus (s.ptr / 4 * 4)).1).tail })) := by
  rw [State.fetchByte]
  simp only [h]
  rfl

theorem drop_bytesOf (w : Word) {i : Nat} (h : i < 4) :
    ((bytesOf w).drop i).headD 0 = byteOf w i ∧ ((bytesOf w).drop i).tail.length = 3 - i := by
  have : i = 0 ∨ i = 1 ∨ i = 2 ∨ i = 3 := by omega
  rcases this with rfl | rfl | rfl | rfl <;> exact ⟨rfl, rfl⟩

theorem State.fetched_ptr (b : Byte) : (s.fetched b).rdN Reg.HST_PTR = (s.ptr + 1) % 65536 := State.rdN_wrN _ _ (by omega)

theorem State.keeps_fetched (b : Byte) {x : State} {w : List Nat} (h : Keeps s x w) (hw : Reg.HST_PTR ∈ w) : Keeps s (x.fetched b) w :=
  (h.onSmb _).wr _ hw

/-! ## The clauses on SMBUS_READ_BYTE -/

section
variable (lost ack : Bool) (hup : s.fabricUp = true) (hc : s.smb.comp.isSome = true) (hr : s.smb.reading = true)
  (hd : s.smb.addrDue = false) (hn : s.smb.nacked = false) (hl : s.smb.lost = false)
include hup hc hr hd hn hl

theorem State.smbusRead_fresh (h0 : s.smb.left ≠ some 0) (hp : s.smb.left = none → s.pecMode = false) (ho : s.smb.out = []) :
    Completes (.smbusReadByte lost ack) s (fun t =>
      s.Sent lost ack (byteOf (s.fabricRead .smbus (s.ptr / 4 * 4)).1 (s.ptr % 4)) t ∧ t.rdN Reg.HST_PTR = (s.ptr + 1) % 65536 ∧
      t.smb.out.length = 3 - s.ptr % 4) := by
  refine ⟨_, State.exec_smbusReadByte lost ack hup hc hr hd hn hl, ?_⟩
  have hread := s.reads_fabricRead .smbus (s.ptr / 4 * 4)
  rw [State.sendByte_data h0 hp, State.fetchByte_read ho]
  generalize s.fabricRead .smbus (s.ptr / 4 * 4) = r at hread
  obtain ⟨hb, hlen⟩ := drop_bytesOf r.1 (i := s.ptr % 4) (by omega)
  have hsmb : r.2.smb = s.smb := congrArg (·.1) hread.ports
  have hptr : r.2.ptr = s.ptr :=
    hread.frame.field (hi := 15) (lo := 0) (fun _ _ _ _ => not_readReg_host (a := Reg.HST_PTR) (by decide) (by decide)) (by decide)
  have hx := State.byteSent_shows (s := s) lost ack ((s.dueBytes r.1).headD 0)
    (x := (r.2.onSmb (fun m => { m with out := (s.dueBytes r.1).tail })).fetched ((s.dueBytes r.1).headD 0))
    ((congrArg SmbSt.lost hsmb).trans hl) (fun hf => hread.frame.fits 28 (by decide) (by decide) (by decide) hf)
  obtain ⟨hs, hout, -, hk⟩ := hx
  refine ⟨?_, ?_, ?_⟩
  · rw [← hb]
    exact hs
  · have hq : (r.2.onSmb (fun m => { m with out := (s.dueBytes r.1).tail })).ptr = s.ptr := hptr
    rw [State.rdN, hk.1 _ (by decide) (by decide), ← State.rdN, State.fetched_ptr, hq]
  · exact (congrArg List.length hout).trans hlen

theorem State.smbusRead_held (h0 : s.smb.left ≠ some 0) (hp : s.smb.left = none → s.pecMode = false) {b : Byte} {rest : List Byte}
    (ho : s.smb.out = b :: rest) : Completes (.smbusReadByte lost ack) s (fun t =>
      s.Sent lost ack b t ∧ t.rdN Reg.HST_PTR = (s.ptr + 1) % 65536 ∧ t.smb.out = rest ∧
      Keeps s t [Reg.HST_PTR, Reg.HST_ARA, Reg.HST_STAT]) := by
  refine ⟨_, State.exec_smbusReadByte lost ack hup hc hr hd hn hl, ?_⟩
  rw [State.sendByte_data h0 hp, State.fetchByte_held ho]
  obtain ⟨hs, hout, -, hk⟩ := State.byteSent_shows (s := s) lost ack b (x := (s.onSmb (fun m => { m with out := rest })).fetched b) hl id
  refine ⟨hs, ?_, hout, ?_⟩
  · rw [State.rdN, hk.1 _ (by decide) (by decide), ← State.rdN, State.fetched_ptr]
    rfl
  · exact (State.keeps_fetched b ((Keeps.refl s _).onSmb _) List.mem_cons_self).trans (hk.mono (by simp))

theorem State.smbusRead_pec (h0 : s.smb.left = some 0) : Completes (.smbusReadByte lost ack) s (fun t =>
    s.Sent lost ack s.smb.pec t ∧ t.smb.left = none ∧ Keeps s t [Reg.HST_ARA, Reg.HST_STAT]) := by
  refine ⟨_, State.exec_smbusReadByte lost ack hup hc hr hd hn hl, ?_⟩
  rw [State.sendByte_pec h0]
  obtain ⟨hs, -, hleft, hk⟩ := State.byteSent_shows (s := s) lost ack s.smb.pec (x := s.onSmb (fun m => { m with left := none })) hl id
  exact ⟨hs, hleft, ((Keeps.refl s _).onSmb _).trans (hk.mono (by simp))⟩

end

/-! ## The clauses on SMBUS_ADDRESS and SMBUS_WRITE_BYTE -/

theorem State.smbusAddress_completes (b : Byte) (hup : s.fabricUp = true) (ha : s.smb.active = true) (hd : s.smb.addrDue = true)
    (hn : s.smb.nacked = false) {k : Nat} (hm : s.smbMatch (b.toNat / 2) = some k) :
    (s.smb.comp = some k ∨ s.smbAnswers k = true → Completes (.smbusAddress b) s (fun t =>
      t.smb.ack = true ∧ t.smb.comp = some k ∧ t.smb.reading = b.getLsbD 0 ∧ t.smb.nptr = 0 ∧ t.smb.addrDue = false ∧
      t.fld Reg.HST_STAT 22 16 = b.toNat / 2 ∧ t.bit Reg.HST_STAT 28 = true ∧
      t.fld (Reg.HST_ACNT k) 31 0 = min (s.fld (Reg.HST_ACNT k) 31 0 + (if s.smb.comp = some k then 0 else 1)) 0xFFFFFFFF ∧
      Keeps s t [Reg.HST_STAT, Reg.HST_ACNT k])) ∧
    (s.smb.comp ≠ some k → s.smbAnswers k = false → fieldOf (s.acmp k) 17 16 = 3 → s.inPaddock = false →
      Completes (.smbusAddress b) s (fun t => t.smb = SmbSt.initial ∧
        t.fld Reg.HST_FWBUSY 15 0 = min (s.fld Reg.HST_FWBUSY 15 0 + 1) 0xFFFF ∧ Raised s t (E.HOST_BUSY 0) ∧
        Keeps s t [Reg.HST_STAT, Reg.HST_FWBUSY])) := by
  refine ⟨fun hk => ?_, fun hk hw h3 _ => ?_⟩
  · exact ⟨_, State.exec_smbusAddress_answered b hup ha hd hn hm hk, rfl, rfl, rfl, rfl, rfl, State.addressed_shows b (smbMatch_lt hm)⟩
  · have hb := s.frame_busyAnswer .smbus
    have hl := (s.busyAnswer .smbus).frame_smbLeave
    refine ⟨_, State.exec_smbusAddress_busy b hup ha hd hn hm hk hw h3, rfl, ?_, Raised.of (x := s.bump Reg.HST_FWBUSY 15 0 1) hl.evq rfl, ?_⟩
    · rw [State.fld, hl.rd (fun i _ => by simp [regsIn]) (by decide)]
      exact s.busyAnswer_counts
    · exact (hb.keeps (by simp [regsIn])).trans (hl.keeps (by simp [regsIn]))

section
variable (b : Byte) {k : Nat} (hup : s.fabricUp = true) (hc : s.smb.comp = some k) (hd : s.smb.addrDue = false)
  (hr : s.smb.reading = false) (hn : s.smb.nacked = false)
include hup hc hd hr hn

theorem State.smbusPointer_completes :
    (s.smb.nptr = 0 → (fieldOf (s.acmp k) 17 16 ≠ 3 ∨ b = 8) → Completes (.smbusWriteByte b) s (fun t =>
      t.smb.ptrHi = b ∧ t.smb.nptr = 1 ∧ t.smb.ack = true ∧ Keeps s t [])) ∧
    (s.smb.nptr = 0 → fieldOf (s.acmp k) 17 16 = 3 → b ≠ 8 → Completes (.smbusWriteByte b) s (fun t =>
      t.smb.ack = false ∧ t.smb.nacked = true ∧ Keeps s t [])) ∧
    (s.smb.nptr = 1 → Completes (.smbusWriteByte b) s (fun t => t.rdN Reg.HST_PTR = s.smb.ptrHi.toNat * 256 + b.toNat ∧
      t.smb.nptr = 2 ∧ t.smb.ack = true ∧ Keeps s t [Reg.HST_PTR])) := by
  have hx := State.exec_smbusWriteByte b hup hc hd hr hn
  have hk : Keeps s (s.taken b) [] := (Keeps.refl s _).onSmb _
  refine ⟨fun h0 hf => ?_, fun h0 h3 h8 => ?_, fun h1 => ?_⟩
  · have hf' : (decide (fieldOf (s.acmp k) 17 16 = 3) && b != 8) = false := by
      rcases hf with h | h <;> simp [h]
    refine ⟨_, hx.trans (by rw [State.byteWritten, if_pos h0, hf', if_neg (by decide)]), ?_⟩
    exact ⟨rfl, rfl, rfl, hk.onSmb _⟩
  · have hf' : (decide (fieldOf (s.acmp k) 17 16 = 3) && b != 8) = true := by simpa [h3] using h8
    refine ⟨_, hx.trans (by rw [State.byteWritten, if_pos h0, hf', if_pos rfl]), ?_⟩
    exact ⟨rfl, rfl, hk.onSmb _⟩
  · refine ⟨_, hx.trans (by rw [State.byteWritten, if_neg (by omega), if_pos h1]), ?_⟩
    refine ⟨State.rdN_wrN _ _ ?_, rfl, rfl, (((Keeps.refl s _).onSmb _).onSmb _).wr _ List.mem_cons_self⟩
    have := s.smb.ptrHi.isLt
    have := b.isLt
    omega

theorem State.smbusBuffer_completes (h2 : 2 ≤ s.smb.nptr) (hp : s.pecMode = true) :
    (s.smb.buf.length < 257 → Completes (.smbusWriteByte b) s (fun t => t.smb.buf = s.smb.buf ++ [b] ∧ t.smb.ack = true ∧ Keeps s t [])) ∧
    (257 ≤ s.smb.buf.length → Completes (.smbusWriteByte b) s (fun t => t.smb.buf = s.smb.buf ∧ t.smb.ack = false ∧
      t.smb.nacked = true ∧ Keeps s t [])) := by
  have hx := State.exec_smbusWriteByte b hup hc hd hr hn
  rw [State.byteWritten, if_neg (by omega), if_neg (by omega), hp, if_pos rfl] at hx
  have hk : Keeps s (s.taken b) [] := (Keeps.refl s _).onSmb _
  refine ⟨fun h => ?_, fun h => ?_⟩
  · refine ⟨_, hx.trans (by rw [if_neg (by omega)]), ?_⟩
    exact ⟨rfl, rfl, hk.onSmb _⟩
  · refine ⟨_, hx.trans (by rw [if_pos h]), ?_⟩
    exact ⟨rfl, rfl, rfl, hk.onSmb _⟩

theorem State.exec_smbusWriteByte_plain (h2 : 2 ≤ s.smb.nptr) (hp : s.pecMode = false) :
    exec (.smbusWriteByte b) s = .next ((s.taken b).writePlain b) :=
  (State.exec_smbusWriteByte b hup hc hd hr hn).trans (congrArg _ (State.byteWritten_plain b k h2 hp))

end
end

/-- Settles O55: each byte of a transaction by what it does to the state of the target and to the register at the pointer. -/
theorem smbusBytes : Obligations.SmbusBytes := by
  unfold Obligations.SmbusBytes
  refine ⟨fun b s hup => ⟨fun h => ?_, fun ha hc hr => ?_, fun ha hd hn => ⟨fun hm => ?_, fun k hm => ?_⟩⟩,
    fun b k s hup hc hd hr hn => ?_, fun lost ack s hup hc hr hd hn hl => ?_⟩
  · exact ⟨_, State.exec_smbusStart hup h, rfl, rfl, rfl, s.vget_comparators, (Keeps.refl s _).onSmb _⟩
  · exact ⟨_, State.exec_smbusRestart hup ha hc hr, rfl, rfl, s.vget_comparators, (Keeps.refl s _).onSmb _⟩
  · exact ⟨_, State.exec_smbusAddress_other b hup ha hd hm, rfl, s.smbLeave_idle.2, s.frame_smbLeave.keeps (by simp [regsIn])⟩
  · exact State.smbusAddress_completes b hup ha hd hn hm
  · intro p
    have hx := State.exec_smbusWriteByte_plain b hup hc hd hr hn
    obtain ⟨h0, h1, h2⟩ := State.smbusPointer_completes b hup hc hd hr hn
    refine ⟨h0, h1, h2, State.smbusBuffer_completes b hup hc hd hr hn, fun hp hm => ⟨fun h3 => ?_, fun h3 hl => ?_, fun h3 hl hf => ?_,
      fun h3 hl hf => ?_⟩⟩
    · exact ⟨_, (hx hp hm).trans (congrArg _ (State.writePlain_held b h3)), rfl, State.stepped_ptr b _,
        State.keeps_stepped b _ List.mem_cons_self⟩
    · exact ⟨_, (hx hp hm).trans (congrArg _ (State.writePlain_partial b h3 hl)), State.writtenPartial_shows b⟩
    · have hf' : (s.stepped b []).fwBusy .smbus (s.ptr / 4 * 4) = true := (State.stepped_fwBusy b [] _).trans hf
      exact ⟨_, (hx hp hm).trans (congrArg _ ((State.writePlain_whole b h3 hl).trans (if_pos hf'))), State.writtenBusy_shows b⟩
    · obtain ⟨hu, hw⟩ := State.writtenWord b hl h3 hf
      exact ⟨hu, _, (hx hp hm).trans (congrArg _ hw), rfl⟩
  · exact ⟨fun h0 hp => ⟨State.smbusRead_fresh lost ack hup hc hr hd hn hl h0 hp,
      fun b rest => State.smbusRead_held lost ack hup hc hr hd hn hl h0 hp⟩, State.smbusRead_pec lost ack hup hc hr hd hn hl⟩

end Sys2Proof.Machine
end

section
/-!
PROOFS. Update sessions from the header to the verified slot (O58).
-/

namespace Sys2Proof.Machine

section
variable (s : State)

/-! ## The sources of a session and its end (R435, R438, R448) -/

/-- UPD_CTL takes a command of a source as its own. -/
theorem State.hostWrite_updCtl (p : Port) (v : Word) (hr : s.runs = true) (hf : s.fwOk = true) :
    (s.hostWrite p Reg.UPD_CTL v).Counted (s.updCtl p (v &&& word 0xF0000013)) := by
  cases p
  all_goals
    exact s.hostWrite_fixed_counted _ _ _ _ _ _ (State.fabricUp_runs s hr) (State.mapped_runs s _ hr (.inr (by decide))) (by decide)
      (by simp [State.fwBusy, hf]) rfl rfl (by decide) (by decide) (by decide) rfl

theorem State.hostWrite_updData (p : Port) (v : Word) (hr : s.runs = true) (hf : s.fwOk = true) :
    (s.hostWrite p Reg.UPD_DATA v).Counted (s.updData p (v &&& word 0xFFFFFFFF)) := by
  cases p
  all_goals
    exact s.hostWrite_fixed_counted _ _ _ _ _ _ (State.fabricUp_runs s hr) (State.mapped_runs s _ hr (.inr (by decide))) (by decide)
      (by simp [State.fwBusy, hf]) rfl rfl (by decide) (by decide) (by decide) rfl

/-- The registers of a session. -/
def sessRegs : List Nat := [Reg.UPD_STAT, Reg.UPD_OFS, Reg.UPD_RESULT, Reg.UPD_ERRCNT]

/-- From `s` to `t` only the registers of a session changed, and only UPD_BUSY may have been raised. -/
abbrev State.SessFrame (s t : State) : Prop := State.Frame (regsIn sessRegs) (· = 4) s t

theorem mem_sessRegs : Reg.UPD_STAT ∈ sessRegs ∧ Reg.UPD_OFS ∈ sessRegs ∧ Reg.UPD_RESULT ∈ sessRegs ∧ Reg.UPD_ERRCNT ∈ sessRegs := by
  decide

theorem State.sessEnded_frame (p : Port) (slot code : Nat) :
    State.Frame (regsIn [Reg.UPD_RESULT, Reg.UPD_ERRCNT]) (· = 4) s (s.sessEnded p slot code) := by
  unfold State.sessEnded
  extract_lets s1 s2 s3
  have h1 : State.Frame (regsIn [Reg.UPD_RESULT, Reg.UPD_ERRCNT]) (· = 4) s s1 :=
    .put (.refl s) _ _ _ _ (fun _ _ _ _ => List.mem_cons_self)
  have h2 : State.Frame (regsIn [Reg.UPD_RESULT, Reg.UPD_ERRCNT]) (· = 4) s s2 :=
    .ite (.raise (.put h1 _ _ _ _ (fun _ _ _ _ => List.mem_cons_self)) (E.UPD_BUSY 0) (by decide : 4 < 256) (.inl rfl)) h1
  have h3 : State.Frame (regsIn [Reg.UPD_RESULT, Reg.UPD_ERRCNT]) (· = 4) s s3 :=
    .ite h2 (h2.bump _ _ _ _ (fun _ _ _ _ => List.mem_cons_of_mem _ List.mem_cons_self))
  exact h3.trans (.of rfl)

theorem State.sessFrame_sessEnded (p : Port) (slot code : Nat) : s.SessFrame (s.sessEnded p slot code) :=
  (s.sessEnded_frame p slot code).mono (fun a _ h => by
    have hw : [Reg.UPD_RESULT, Reg.UPD_ERRCNT] ⊆ sessRegs := by decide
    exact hw h) (fun _ h => h)

/-- The end of a session shows its code, and no session, image or start changes. -/
theorem State.sessEnded_shows (p : Port) (slot code : Nat) : let t := s.sessEnded p slot code
    t.fld Reg.UPD_RESULT 7 0 = code % 256 ∧ t.upd = s.upd ∧ t.flash = s.flash ∧ t.boot = s.boot := by
  unfold State.sessEnded
  extract_lets s1 s2 s3
  have h2 : s2.fld Reg.UPD_RESULT 7 0 = s1.fld Reg.UPD_RESULT 7 0 := by
    refine ite_part (·.fld Reg.UPD_RESULT 7 0) ?_ rfl
    show fieldOf ((State.raise _ _).rd _) 7 0 = _
    rw [State.raise_rd _ _ _ (by decide) (by decide)]
    exact State.fld_put_disj _ _ 15 8 _ 7 0 (by decide) (.inl (by decide))
  have h3 : s3.fld Reg.UPD_RESULT 7 0 = s2.fld Reg.UPD_RESULT 7 0 :=
    ite_part (·.fld Reg.UPD_RESULT 7 0) rfl (congrArg (fieldOf · 7 0) (State.rd_bump_ne _ _ _ _ _ _ (by decide)))
  have hu : s2.upd = s.upd := ite_part (·.upd) (State.raise_upd _ _) rfl
  have hf : s2.flash = s.flash := ite_part (·.flash) (State.raise_flash _ _) rfl
  have hb : s2.boot = s.boot := ite_part (·.boot) (State.raise_boot _ _) rfl
  exact ⟨(h3.trans h2).trans (State.fld_put _ _ 7 0 _ (by decide)), ite_part (·.upd) hu hu, ite_part (·.flash) hf hf, ite_part (·.boot) hb hb⟩

theorem State.frame_setPend (p : Port) (x : Option PendSess) : State.Frame (regsIn [Reg.UPD_STAT]) (fun _ => False) s (s.setPend p x) := by
  cases p with
  | smbus =>
    have h : State.Frame (regsIn [Reg.UPD_STAT]) (fun _ => False) s { s with upd := { s.upd with pendS := x } } := .of rfl
    exact h.setBit Reg.UPD_STAT 25 _ List.mem_cons_self
  | spi =>
    have h : State.Frame (regsIn [Reg.UPD_STAT]) (fun _ => False) s { s with upd := { s.upd with pendP := x } } := .of rfl
    exact h.setBit Reg.UPD_STAT 24 _ List.mem_cons_self
  | fw => exact .refl s

theorem State.setPend_shows {p : Port} (hp : p ≠ .fw) (x : Option PendSess) :
    (s.setPend p x).pendOf p = x ∧ (s.setPend p x).upd.auth = s.upd.auth ∧ (s.setPend p x).flash = s.flash := by
  cases p with
  | smbus => exact ⟨rfl, rfl, rfl⟩
  | spi => exact ⟨rfl, rfl, rfl⟩
  | fw => exact absurd rfl hp

theorem State.SessFrame.ofStat {s t : State} (h : State.Frame (regsIn [Reg.UPD_STAT]) (fun _ => False) s t) : s.SessFrame t :=
  h.mono (fun a _ ha => by
    rw [List.mem_singleton.mp ha]
    exact mem_sessRegs.1) (fun _ h => h.elim)

/-- The pending session of a source ends: its code shows, and the other session stays. -/
theorem State.endPend_shows {p : Port} {x : PendSess} (hx : s.pendOf p = some x) (code : Nat) : let t := s.endPend p code
    t.pendOf p = none ∧ t.fld Reg.UPD_RESULT 7 0 = code % 256 ∧ t.upd.auth = s.upd.auth ∧ t.flash = s.flash ∧ s.SessFrame t := by
  have hp : p ≠ .fw := by
    rintro rfl
    exact nomatch hx
  have he : s.endPend p code = (s.setPend p none).sessEnded p x.slot code := by
    rw [State.endPend, hx]
  obtain ⟨hn, ha, hf⟩ := s.setPend_shows hp none
  obtain ⟨hc, hu, hfl, -⟩ := (s.setPend p none).sessEnded_shows p x.slot code
  simp only [he]
  refine ⟨?_, hc, (congrArg UpdSt.auth hu).trans ha, hfl.trans hf, (State.SessFrame.ofStat (s.frame_setPend p none)).trans (State.sessFrame_sessEnded ..)⟩
  refine Eq.trans ?_ hn
  cases p with
  | smbus => exact congrArg UpdSt.pendS hu
  | spi => exact congrArg UpdSt.pendP hu
  | fw => rfl

theorem State.endPend_none {p : Port} (hx : s.pendOf p = none) (code : Nat) : s.endPend p code = s := by
  rw [State.endPend, hx]

/-- The session of the part is gone, with UPD_OFS and all of UPD_STAT but the pending ones (R438). -/
def State.unauthed (s : State) : State := { s with upd := { s.upd with auth := none, actWait := false } }

/-- The authenticated session ends with its code. -/
theorem State.endAuth_shows {x : AuthSess} (hx : s.upd.auth = some x) (code : Nat) : let t := s.endAuth code
    t.upd = { s.upd with auth := none, actWait := false } ∧ t.fld Reg.UPD_RESULT 7 0 = code % 256 ∧ t.flash = s.flash ∧ t.boot = s.boot ∧
      s.SessFrame t := by
  obtain ⟨hst, hof, -, -⟩ := mem_sessRegs
  have h0 : s.SessFrame s.unauthed := .of rfl
  have h := (h0.wr Reg.UPD_STAT (s.rd Reg.UPD_STAT &&& 0x03000000) (fun _ _ => hst)).wrN Reg.UPD_OFS 0 (fun _ _ => hof)
  have he : s.endAuth code = ((s.unauthed.wr Reg.UPD_STAT (s.rd Reg.UPD_STAT &&& 0x03000000)).wrN Reg.UPD_OFS 0).sessEnded
      x.src x.slot code := by
    rw [State.endAuth, hx]
    rfl
  obtain ⟨hc, hu, hfl, hb⟩ := State.sessEnded_shows ((s.unauthed.wr Reg.UPD_STAT (s.rd Reg.UPD_STAT &&& 0x03000000)).wrN Reg.UPD_OFS 0)
    x.src x.slot code
  simp only [he]
  exact ⟨hu, hc, hfl, hb, h.trans (State.sessFrame_sessEnded ..)⟩

/-! ## UPD_OPEN and UPD_DATA (R435 to R437) -/

theorem fieldOf_updCtl (v : Word) {n : Nat} (h : n < 16) : fieldOf (withOp v n &&& word 0xF0000013) 31 28 = n := by
  rw [fieldOf_and _ _ _ _ (by decide) (by decide), fieldOf_withOp _ _ h]

/-- The slot that a word of UPD_CTL names; 4 for a provisioning container. -/
def updSlot (v : Word) : Nat := if bitOf v 4 = true then 4 else fieldOf v 1 0

theorem updSlot_updCtl (v : Word) (n : Nat) : updSlot (withOp v n &&& word 0xF0000013) = updSlot v := by
  unfold updSlot
  rw [bitOf_and _ _ _ (by decide), bitOf_withOp_ne _ _ _ (by decide), fieldOf_and _ _ _ _ (by decide) (by decide),
    fieldOf_withOp_ne _ _ _ _ (by decide)]

def State.slotInUse (s : State) (slot : Nat) : Bool :=
  (decide (slot < 2) && slot == s.fld Reg.BOOT_STAT 7 7) || slot == 2 + s.fld Reg.BOOT_STAT 8 8 ||
    (decide (slot < 2) && (s.upd.trialrun || s.trial))

def State.lengthRefused (s : State) (slot : Nat) : Bool :=
  decide (s.fld Reg.UPD_LEN 23 0 < 368) || s.fld Reg.UPD_LEN 23 0 % 4 != 0 ||
    (decide (slot < 4) && decide (slotSize slot < s.fld Reg.UPD_LEN 23 0))

/-- A session that is refused at its opening. -/
def State.sessRefused (s : State) (code : Nat) : State := (s.put Reg.UPD_RESULT 7 0 code).bump Reg.UPD_ERRCNT 15 0 1

theorem State.updOpen_eq (p : Port) (v : Word) : s.updOpen p v =
    if s.slotInUse (updSlot v) then s.sessRefused 18
    else if s.lengthRefused (updSlot v) then s.sessRefused 20
    else s.setPend p (some { slot := updSlot v, len := s.fld Reg.UPD_LEN 23 0, hdr := [] }) := rfl

theorem State.sessRefused_shows (code : Nat) : (s.sessRefused code).fld Reg.UPD_RESULT 7 0 = code % 256 ∧
    (s.sessRefused code).upd = s.upd ∧ s.SessFrame (s.sessRefused code) := by
  obtain ⟨-, -, hr, he⟩ := mem_sessRegs
  refine ⟨?_, rfl, .bump (.put (.refl s) _ _ _ _ (fun _ _ _ _ => hr)) _ _ _ _ (fun _ _ _ _ => he)⟩
  rw [State.fld, State.sessRefused, State.rd_bump_ne _ _ _ _ _ _ (by decide)]
  exact State.fld_put _ _ 7 0 _ (by decide)

theorem State.SessFrame.keeps {s t : State} (h : s.SessFrame t) : Keeps s t sessRegs := State.Frame.keeps h (fun _ _ h => h)

variable {s}

/-- A command of UPD_CTL by a source that another one's session does not keep out. -/
theorem State.updCtl_own {p : Port} (hp : p ≠ .fw) (ho : s.otherOwner p = false) (v : Word) :
    s.updCtl p (withOp v 1 &&& word 0xF0000013) = s.updOpen p (withOp v 1 &&& word 0xF0000013) ∧
    s.updCtl p (withOp v 2 &&& word 0xF0000013) = s.updActivate p ∧
    s.updCtl p (withOp v 3 &&& word 0xF0000013) = s.updAbort p ∧
    s.updCtl p (withOp v 4 &&& word 0xF0000013) = s.updFallback 2 := by
  simp only [State.updCtl, if_neg hp, ho, Bool.false_eq_true, if_false, fieldOf_updCtl v (show 1 < 16 by decide),
    fieldOf_updCtl v (show 2 < 16 by decide), fieldOf_updCtl v (show 3 < 16 by decide), fieldOf_updCtl v (show 4 < 16 by decide), and_self]

theorem State.updCtl_other {p : Port} (hp : p ≠ .fw) (ho : s.otherOwner p = true) (v : Word) : s.updCtl p v = s.endPend p 16 := by
  rw [State.updCtl, if_neg hp, if_pos ho]

/-- A session after four more bytes. -/
def AuthSess.more (x : AuthSess) : AuthSess := { x with ofs := x.ofs + 4, page := x.page + 4 }

/-- The session of the part stands at `y`. -/
def State.withAuth (s : State) (y : AuthSess) : State := { s with upd := { s.upd with auth := some y } }

/-- What a write of the block leaves of its sessions, of the images and of the start is what its action leaves. -/
theorem State.Counted.session {t u : State} (h : t.Counted u) : t.upd = u.upd ∧ t.flash = u.flash ∧ t.boot = u.boot ∧
    (∀ p, t.pendOf p = u.pendOf p) ∧ ∀ a, sideReg a = false → ∀ hi lo, t.fld a hi lo = u.fld a hi lo := by
  obtain ⟨⟨r, q, he⟩, hrd⟩ := h.near
  have hu : t.upd = u.upd := by rw [he]
  refine ⟨hu, by rw [he], by rw [he], fun p => ?_, fun a ha hi lo => by rw [State.fld, hrd a ha, State.fld]⟩
  cases p with
  | smbus => exact congrArg UpdSt.pendS hu
  | spi => exact congrArg UpdSt.pendP hu
  | fw => rfl

theorem State.updCtl_completes {c : Instr} {p : Port} {w : Word} {u : State} {P : State → Prop} (hr : s.runs = true) (hf : s.fwOk = true)
    (hx : exec c s = .next (s.hostWrite p Reg.UPD_CTL w)) (hu : s.updCtl p (w &&& word 0xF0000013) = u) (hP : ∀ t, t.Counted u → P t) :
    Completes c s P := ⟨_, hx, hP _ (hu ▸ s.hostWrite_updCtl p w hr hf)⟩

section
variable {p : Port} (v : Word) (hr : s.runs = true) (hf : s.fwOk = true) (hp : p ≠ .fw)
include hr hf hp

theorem State.updOpen_completes (ho : s.otherOwner p = false) :
    (s.slotInUse (updSlot v) = true → Completes (.updOpen p v) s (fun t =>
      t.fld Reg.UPD_RESULT 7 0 = 18 ∧ t.upd = s.upd ∧ Keeps s t sessRegs)) ∧
    (s.slotInUse (updSlot v) = false → s.lengthRefused (updSlot v) = true → Completes (.updOpen p v) s (fun t =>
      t.fld Reg.UPD_RESULT 7 0 = 20 ∧ t.upd = s.upd ∧ Keeps s t sessRegs)) ∧
    (s.slotInUse (updSlot v) = false → s.lengthRefused (updSlot v) = false → Completes (.updOpen p v) s (fun t =>
      t.pendOf p = some { slot := updSlot v, len := s.fld Reg.UPD_LEN 23 0, hdr := [] } ∧ t.upd.auth = s.upd.auth ∧
        Keeps s t sessRegs)) := by
  have hu := (State.updCtl_own hp ho v).1.trans (s.updOpen_eq p _)
  rw [updSlot_updCtl] at hu
  refine ⟨fun hi => ?_, fun hi hl => ?_, fun hi hl => ?_⟩
  · refine State.updCtl_completes hr hf rfl (hu.trans (if_pos hi)) fun t ht => ?_
    obtain ⟨hc, hx, hk⟩ := s.sessRefused_shows 18
    obtain ⟨htu, -, -, -, hrd⟩ := ht.session
    exact ⟨(hrd _ (by decide) 7 0).trans hc, htu.trans hx, ht.keeps hk.keeps⟩
  · refine State.updCtl_completes hr hf rfl (hu.trans ((if_neg (by rw [hi]; decide)).trans (if_pos hl))) fun t ht => ?_
    obtain ⟨hc, hx, hk⟩ := s.sessRefused_shows 20
    obtain ⟨htu, -, -, -, hrd⟩ := ht.session
    exact ⟨(hrd _ (by decide) 7 0).trans hc, htu.trans hx, ht.keeps hk.keeps⟩
  · refine State.updCtl_completes hr hf rfl (hu.trans ((if_neg (by rw [hi]; decide)).trans (if_neg (by rw [hl]; decide)))) fun t ht => ?_
    obtain ⟨hc, hx, -⟩ := s.setPend_shows hp (some { slot := updSlot v, len := s.fld Reg.UPD_LEN 23 0, hdr := [] })
    have hk := State.SessFrame.ofStat (s.frame_setPend p (some { slot := updSlot v, len := s.fld Reg.UPD_LEN 23 0, hdr := [] }))
    obtain ⟨htu, -, -, htp, -⟩ := ht.session
    exact ⟨(htp p).trans hc, (congrArg UpdSt.auth htu).trans hx, ht.keeps hk.keeps⟩

theorem State.updOpen_other (ho : s.otherOwner p = true) (hs : (s.pendOf p).isSome = true) : Completes (.updOpen p v) s (fun t =>
    t.pendOf p = none ∧ t.fld Reg.UPD_RESULT 7 0 = 16 ∧ t.upd.auth = s.upd.auth ∧ Keeps s t sessRegs) := by
  obtain ⟨x, hx⟩ := Option.isSome_iff_exists.mp hs
  obtain ⟨hn, hc, ha, -, hk⟩ := s.endPend_shows hx 16
  refine State.updCtl_completes hr hf rfl (State.updCtl_other hp ho _) fun t ht => ?_
  obtain ⟨htu, -, -, htp, hrd⟩ := ht.session
  exact ⟨(htp p).trans hn, (hrd _ (by decide) 7 0).trans hc, (congrArg UpdSt.auth htu).trans ha, ht.keeps hk.keeps⟩

theorem State.updAbort_completes {x : AuthSess} (hx : s.upd.auth = some x) (hs : x.src = p) (hn : s.pendOf p = none) :
    Completes (.updAbort p v) s (fun t => t.upd.auth = none ∧ t.fld Reg.UPD_RESULT 7 0 = 21 ∧ Keeps s t sessRegs) := by
  have ho : s.otherOwner p = false := by
    rw [State.otherOwner, hx]
    simp [hs]
  have hu : s.updAbort p = s.endAuth 21 := by
    rw [State.updAbort, s.endPend_none hn, hx]
    exact if_pos hs
  obtain ⟨hau, hc, -, -, hk⟩ := s.endAuth_shows hx 21
  refine State.updCtl_completes hr hf rfl ((State.updCtl_own hp ho v).2.2.1.trans hu) fun t ht => ?_
  obtain ⟨htu, -, -, -, hrd⟩ := ht.session
  exact ⟨(congrArg UpdSt.auth htu).trans (congrArg UpdSt.auth hau), (hrd _ (by decide) 7 0).trans hc, ht.keeps hk.keeps⟩

theorem State.updDataHeader_completes {x : PendSess} (hx : s.pendOf p = some x) (ho : s.otherOwner p = false) (hl : x.hdr.length < 256) :
    Completes (.updData p v) s (fun t => t.pendOf p = some { x with hdr := x.hdr ++ leBytes 4 v.toNat } ∧ t.upd.auth = s.upd.auth ∧
      Keeps s t [Reg.UPD_STAT]) := by
  have hw := s.hostWrite_updData p v hr hf
  have hv : v &&& word 0xFFFFFFFF = v := BitVec.and_allOnes
  have hu : s.updData p v = s.setPend p (some { x with hdr := x.hdr ++ leBytes 4 v.toNat }) := by
    rw [State.updData, ho, hx]
    exact if_pos hl
  rw [hv, hu] at hw
  obtain ⟨hn, ha, -⟩ := s.setPend_shows hp (some { x with hdr := x.hdr ++ leBytes 4 v.toNat })
  obtain ⟨htu, -, -, htp, -⟩ := hw.session
  exact ⟨_, rfl, (htp p).trans hn, (congrArg UpdSt.auth htu).trans ha, hw.keeps ((s.frame_setPend p _).keeps (fun _ _ h => h))⟩

omit hp in
theorem State.updDataPage_completes {x : AuthSess} (hx : s.upd.auth = some x) (hn : s.pendOf p = none) (hs : x.src = p)
    (hl : x.ofs < x.len) (hb : s.bit Reg.UPD_STAT 31 = true) : Completes (.updData p v) s (fun t =>
      t.upd.auth = some { x with ofs := x.ofs + 4, page := x.page + 4 } ∧
      t.bit Reg.UPD_STAT 31 = decide (x.page + 4 < 256 ∧ x.ofs + 4 < x.len) ∧ Keeps s t [Reg.UPD_STAT, Reg.UPD_OFS]) := by
  have hw := s.hostWrite_updData p v hr hf
  have hv : v &&& word 0xFFFFFFFF = v := BitVec.and_allOnes
  have ho : s.otherOwner p = false := by
    rw [State.otherOwner, hx]
    simp [hs]
  have hu : s.updData p v = if 256 ≤ x.more.page || x.len ≤ x.more.ofs
      then ((s.withAuth x.more).wrN Reg.UPD_OFS x.more.ofs).setBit Reg.UPD_STAT 31 false
      else (s.withAuth x.more).wrN Reg.UPD_OFS x.more.ofs := by
    have hc : (decide (x.src = p) && s.bit Reg.UPD_STAT 31 && decide (x.ofs < x.len)) = true := by simp [hs, hl, -State.bit_eq, hb]
    rw [State.updData, ho, hn, hx]
    exact if_pos hc
  rw [hv, hu] at hw
  obtain ⟨htu, -, -, -, hrd⟩ := hw.session
  have hk : Keeps s (s.withAuth x.more) [Reg.UPD_STAT, Reg.UPD_OFS] := .of (regsKept_refl s _) rfl rfl
  have hz : ((s.withAuth x.more).wrN Reg.UPD_OFS x.more.ofs).rd Reg.UPD_STAT = s.rd Reg.UPD_STAT := State.rd_wr_ne _ _ _ _ (by decide)
  have hm : x.more.page = x.page + 4 ∧ x.more.ofs = x.ofs + 4 := ⟨rfl, rfl⟩
  refine ⟨_, rfl, (congrArg UpdSt.auth htu).trans (ite_part (·.upd.auth) rfl rfl), ?_, hw.keeps ?_⟩
  · rw [State.bit, hw.rd (by decide)]
    by_cases h : (decide (256 ≤ x.more.page) || decide (x.len ≤ x.more.ofs)) = true
    · rw [if_pos h]
      rw [Bool.or_eq_true, decide_eq_true_eq, decide_eq_true_eq] at h
      exact (State.bit_setBit _ _ _ _ (by decide)).trans (decide_eq_false (by omega)).symm
    · rw [if_neg h, hz]
      rw [Bool.or_eq_true, decide_eq_true_eq, decide_eq_true_eq] at h
      exact hb.trans (decide_eq_true (by omega)).symm
  · split
    · exact (hk.wr _ (by decide)).setBit _ _ (by decide)
    · exact hk.wr _ (by decide)

end

/-! ## The header, the pages and the verified slot (R431, R437, R438) -/

/-- The checks of a container answer one of these codes (R431, R448). -/
theorem State.checkContainer_lt (h : List Byte) (k : Nat) (l : Bool) (cr : Crypto) (fw : Nat) : s.checkContainer h k l cr fw < 10 := by
  unfold State.checkContainer
  repeat' split
  all_goals omega

/-- What the end of a pending session of any source leaves. -/
theorem State.endPend_leaves (s : State) (q : Port) (code : Nat) : let t := s.endPend q code
    t.upd.auth = s.upd.auth ∧ t.flash = s.flash ∧ s.SessFrame t ∧ (∀ p, s.pendOf p = none → t.pendOf p = none) ∧
      t.bit Reg.UPD_STAT 30 = s.bit Reg.UPD_STAT 30 := by
  intro t
  cases hx : s.pendOf q with
  | none =>
    have ht : t = s := s.endPend_none hx code
    rw [ht]
    exact ⟨rfl, rfl, .refl s, fun _ h => h, rfl⟩
  | some x =>
    have hq : q ≠ .fw := by
      rintro rfl
      exact nomatch hx
    have he : t = (s.setPend q none).sessEnded q x.slot code := by
      change State.endPend _ _ _ = _
      rw [State.endPend, hx]
    obtain ⟨hn, -, ha, hf, hk⟩ := s.endPend_shows hx code
    obtain ⟨-, hu, -⟩ := (s.setPend q none).sessEnded_shows q x.slot code
    refine ⟨ha, hf, hk, fun p hp => ?_, ?_⟩
    · rw [he]
      cases p with
      | smbus =>
        refine (congrArg UpdSt.pendS hu).trans ?_
        cases q with
        | smbus => rfl
        | spi => exact hp
        | fw => exact hp
      | spi =>
        refine (congrArg UpdSt.pendP hu).trans ?_
        cases q with
        | smbus => exact hp
        | spi => rfl
        | fw => exact hp
      | fw => rfl
    · have hr : t.rd Reg.UPD_STAT = (s.setPend q none).rd Reg.UPD_STAT := by
        rw [he]
        exact (State.sessEnded_frame _ q x.slot code).rd (fun i _ => by simp [regsIn]) (by decide)
      rw [State.bit, hr]
      cases q with
      | smbus => exact State.bit_setBit_ne _ _ 25 30 _ (by decide) (by decide)
      | spi => exact State.bit_setBit_ne _ _ 24 30 _ (by decide) (by decide)
      | fw => rfl

/-- The session that a header opens (R437). -/
def PendSess.opened (x : PendSess) (p : Port) : AuthSess := { src := p, slot := x.slot, len := x.len, hdr := x.hdr, ofs := 256, page := 256 }

/-- The state in which an accepted header has opened its session. -/
def State.headerOpens (s : State) (p : Port) (x : PendSess) : State :=
  let t := ((((((s.setPend p none).withAuth (x.opened p)).setBit Reg.UPD_STAT 30 true).put Reg.UPD_STAT 27 26 (srcCode p)).put
    Reg.UPD_STAT 1 0 x.slot).wrN Reg.UPD_OFS 256)
  if x.slot < 4 then t.setSlot x.slot { Slot.erased with mark := 1 } else t

theorem State.headerOpens_shows {p : Port} (hp : p ≠ .fw) (x : PendSess) : let t := s.headerOpens p x
    t.pendOf p = none ∧ t.upd.auth = some (x.opened p) ∧ t.bit Reg.UPD_STAT 30 = true ∧
      (x.slot < 4 → t.slot x.slot = { Slot.erased with mark := 1 }) ∧ s.SessFrame t := by
  obtain ⟨hst, hof, -, -⟩ := mem_sessRegs
  let t := ((((((s.setPend p none).withAuth (x.opened p)).setBit Reg.UPD_STAT 30 true).put Reg.UPD_STAT 27 26 (srcCode p)).put
    Reg.UPD_STAT 1 0 x.slot).wrN Reg.UPD_OFS 256)
  have h1 : s.SessFrame ((s.setPend p none).withAuth (x.opened p)) := (State.SessFrame.ofStat (s.frame_setPend p none)).trans (.of rfl)
  have ht : s.SessFrame t := .wrN (.put (.put (.setBit h1 _ _ _ hst) _ _ _ _ (fun _ _ _ _ => hst)) _ _ _ _ (fun _ _ _ _ => hst)) _ _
    (fun _ _ => hof)
  have hb : t.bit Reg.UPD_STAT 30 = true := by
    rw [State.bit, show t.rd Reg.UPD_STAT = _ from State.rd_wr_ne _ _ _ _ (by decide), ← State.bit, State.bit_put _ _ _ _ _ _ (by decide), if_neg (by decide),
      State.bit_put _ _ _ _ _ _ (by decide), if_neg (by decide)]
    exact State.bit_setBit _ _ _ _ (by decide)
  have hn : t.pendOf p = none := by
    refine Eq.trans ?_ (s.setPend_shows hp none).1
    cases p <;> rfl
  refine ⟨?_, ite_part (·.upd.auth) rfl rfl, ite_part (·.bit Reg.UPD_STAT 30) hb hb, fun h4 => ?_, .ite (ht.trans (.of rfl)) ht⟩
  · refine ite_part (·.pendOf p) (Eq.trans ?_ hn) hn
    cases p <;> rfl
  · rw [State.headerOpens, if_pos h4]
    exact vget_vset_same _ _ _ _ h4

/-- The checks 1 to 4 of the header of a pending session (R431, R437). -/
def State.headerCode (s : State) (x : PendSess) (signer : Bool) : Nat :=
  s.checkContainer x.hdr (imageKind x.slot) (decide (hdrTotal x.hdr = x.len) && !(imageKind x.slot == 2 && s.unit.okh))
    { signerOk := signer, sigOk := true, tagOk := true, readErr := false } (2 ^ 32)

theorem State.headerCheck_completes {p : Port} {x : PendSess} {signer : Bool} (hr : s.runs = true) (hf : s.fwOk = true) (hp : p ≠ .fw)
    (hx : s.pendOf p = some x) (hl : x.hdr.length = 256) :
    (s.headerCode x signer ≠ 1 → Completes (.updHeaderCheck p signer) s (fun t => t.pendOf p = none ∧
      t.fld Reg.UPD_RESULT 7 0 = s.headerCode x signer % 256 ∧ t.upd.auth = s.upd.auth ∧ t.flash = s.flash ∧ Keeps s t sessRegs)) ∧
    (s.headerCode x signer = 1 → s.upd.auth = none → Completes (.updHeaderCheck p signer) s (fun t => t.pendOf p = none ∧
      t.upd.auth = some (x.opened p) ∧ t.bit Reg.UPD_STAT 30 = true ∧ (x.slot < 4 → t.slot x.slot = { Slot.erased with mark := 1 }) ∧
      Keeps s t sessRegs)) := by
  have hg : (!(s.runs && s.fwOk && decide (x.hdr.length = 256))) = false := by simp [hr, hf, hl]
  refine ⟨fun hc => ?_, fun hc ha => ?_⟩
  · have hc' : (s.headerCode x signer != 1) = true := by simpa using hc
    have he : exec (.updHeaderCheck p signer) s = .next (s.endPend p (s.headerCode x signer)) := by
      change execUpdHeaderCheck p signer s = _
      rw [execUpdHeaderCheck, hx]
      exact (if_neg (by rw [hg]; decide)).trans (if_pos hc')
    obtain ⟨hn, hcode, hau, hfl, hk⟩ := s.endPend_shows hx (s.headerCode x signer)
    exact ⟨_, he, hn, hcode, hau, hfl, hk.keeps⟩
  · have hc' : (s.headerCode x signer != 1) = false := by simpa using hc
    have he : exec (.updHeaderCheck p signer) s = .next ((s.headerOpens p x).endPend (if p = .smbus then .spi else .smbus) 16) := by
      change execUpdHeaderCheck p signer s = _
      rw [execUpdHeaderCheck, hx]
      refine (if_neg (by rw [hg]; decide)).trans ((if_neg ?_).trans ?_)
      · rw [show (s.checkContainer _ _ _ _ _ != 1) = (s.headerCode x signer != 1) from rfl, hc']
        decide
      · rw [ha]
        rfl
    obtain ⟨hn, hau, hb, hs, hk⟩ := State.headerOpens_shows hp x (s := s)
    obtain ⟨hau', hfl', hk', hn', hb'⟩ := (s.headerOpens p x).endPend_leaves (if p = .smbus then .spi else .smbus) 16
    refine ⟨_, he, hn' p hn, hau'.trans hau, hb'.trans hb, fun h4 => ?_, State.SessFrame.keeps (hk.trans hk')⟩
    rw [State.slot, hfl']
    exact hs h4

theorem State.pageProgrammed_completes {x : AuthSess} (hr : s.runs = true) (hf : s.fwOk = true) (hx : s.upd.auth = some x)
    (hl : x.ofs < x.len) (hb : s.bit Reg.UPD_STAT 31 = false) : Completes .updPageProgrammed s (fun t =>
      t.bit Reg.UPD_STAT 31 = true ∧ t.upd.auth = some { x with page := 0 } ∧ Keeps s t [Reg.UPD_STAT]) := by
  have he : exec .updPageProgrammed s = .next ((s.withAuth { x with page := 0 }).setBit Reg.UPD_STAT 31 true) := by
    have hg : (s.runs && s.fwOk && !s.bit Reg.UPD_STAT 31 && decide (x.ofs < x.len)) = true := by
      rw [hr, hf, hb, decide_eq_true hl]
      rfl
    change execUpdPageProgrammed s = _
    rw [execUpdPageProgrammed, hx]
    exact if_pos hg
  have hk : Keeps s (s.withAuth { x with page := 0 }) [Reg.UPD_STAT] := .of (regsKept_refl s _) rfl rfl
  exact ⟨_, he, State.bit_setBit _ _ _ _ (by decide), rfl, hk.setBit _ _ List.mem_cons_self⟩

/-- All checks of a slot that has been read back (R431, R437). -/
def State.imageCode (s : State) (x : AuthSess) (cr : Crypto) : Nat :=
  s.checkContainer x.hdr (imageKind x.slot) (decide (hdrTotal x.hdr = x.len) && !(imageKind x.slot == 2 && s.unit.okh)) cr
    (s.rdN Reg.BOOT_FWVER)

theorem State.verified_completes {x : AuthSess} {cr : Crypto} {tack : TackImage} (hr : s.runs = true) (hf : s.fwOk = true)
    (hx : s.upd.auth = some x) (hl : x.ofs = x.len) (hb : s.bit Reg.UPD_STAT 29 = false) :
    (s.imageCode x cr = 1 → x.slot < 4 → Completes (.updVerifyDone cr tack) s (fun t => t.bit Reg.UPD_STAT 29 = true ∧
      t.fld Reg.UPD_RESULT 7 0 = 0 ∧ t.slot x.slot = { header := x.hdr, body := x.len - 256, crypto := cr, tack := tack, mark := 2 } ∧
      Raised s t (E.UPD_DONE 0) ∧ Keeps s t sessRegs)) ∧
    (s.imageCode x cr ≠ 1 → Completes (.updVerifyDone cr tack) s (fun t => t.upd.auth = none ∧
      t.fld Reg.UPD_RESULT 7 0 = s.imageCode x cr % 256 ∧ t.flash = s.flash ∧ Raised s t (E.UPD_ERR 0) ∧ Keeps s t sessRegs)) := by
  have hg : (!(s.runs && s.fwOk && decide (x.ofs = x.len) && !s.bit Reg.UPD_STAT 29)) = false := by
    rw [hr, hf, hb, decide_eq_true hl]
    rfl
  obtain ⟨hst, -, hres, -⟩ := mem_sessRegs
  refine ⟨fun hc h4 => ?_, fun hc => ?_⟩
  · have hc' : (s.imageCode x cr != 1) = false := by simpa using hc
    have hk2 : imageKind x.slot ≠ 2 := by
      rw [imageKind, if_pos h4]
      split <;> decide
    have he : exec (.updVerifyDone cr tack) s = .next ((((s.setBit Reg.UPD_STAT 29 true).put Reg.UPD_RESULT 7 0 0).raise
        (E.UPD_DONE 0)).setSlot x.slot { header := x.hdr, body := x.len - 256, crypto := cr, tack := tack, mark := 2 }) := by
      change execUpdVerifyDone cr tack s = _
      rw [execUpdVerifyDone, hx]
      refine (if_neg (by rw [hg]; decide)).trans ((if_neg ?_).trans (if_neg hk2))
      rw [show (s.checkContainer _ _ _ _ _ != 1) = (s.imageCode x cr != 1) from rfl, hc']
      decide
    have hd {a : Nat} (ha : crossReg a = false) : ((((s.setBit Reg.UPD_STAT 29 true).put Reg.UPD_RESULT 7 0 0).raise
        (E.UPD_DONE 0)).setSlot x.slot { header := x.hdr, body := x.len - 256, crypto := cr, tack := tack, mark := 2 }).rd a =
        ((s.setBit Reg.UPD_STAT 29 true).put Reg.UPD_RESULT 7 0 0).rd a := State.raise_rd _ _ _ (by decide) ha
    refine ⟨_, he, ?_, ?_, vget_vset_same _ _ _ _ h4, .of (x := (s.setBit Reg.UPD_STAT 29 true).put Reg.UPD_RESULT 7 0 0)
      (List.Subset.refl _) rfl, ?_⟩
    · rw [State.bit, hd (by decide), State.rd_put_ne _ _ _ _ _ _ (by decide)]
      exact State.bit_setBit _ _ _ _ (by decide)
    · rw [State.fld, hd (by decide)]
      exact State.fld_put _ _ 7 0 _ (by decide)
    · have hk : Keeps s (((s.setBit Reg.UPD_STAT 29 true).put Reg.UPD_RESULT 7 0 0).raise (E.UPD_DONE 0)) sessRegs :=
        (((Keeps.refl s _).setBit _ _ hst).put _ _ _ hres).raise (by decide)
      exact hk.trans (.of (regsKept_refl _ _) rfl rfl)
  · have hc' : (s.imageCode x cr != 1) = true := by simpa using hc
    have he : exec (.updVerifyDone cr tack) s = .next ((s.endAuth (s.imageCode x cr)).raise (E.UPD_ERR 0)) := by
      change execUpdVerifyDone cr tack s = _
      rw [execUpdVerifyDone, hx]
      exact (if_neg (by rw [hg]; decide)).trans (if_pos hc')
    obtain ⟨hau, hcode, hfl, -, hk⟩ := s.endAuth_shows hx (s.imageCode x cr)
    refine ⟨_, he, ?_, ?_, ?_, hk.raisedAfter _ rfl (by decide) (by decide) (by decide), hk.keeps.raise (by decide)⟩
    · rw [State.raise_upd, hau]
    · rw [State.fld, State.raise_rd _ _ _ (by decide) (by decide)]
      exact hcode
    · rw [State.raise_flash, hfl]

theorem State.updExpired_completes {x : AuthSess} (hr : s.runs = true) (hx : s.upd.auth = some x) : Completes .updExpired s (fun t =>
    t.upd.auth = none ∧ t.fld Reg.UPD_RESULT 7 0 = 17 ∧ Raised s t (E.UPD_EXPIRED 0) ∧ Keeps s t sessRegs) := by
  have he : exec .updExpired s = .next ((s.endAuth 17).raise (E.UPD_EXPIRED 0)) := by
    change execUpdExpired s = _
    rw [execUpdExpired, hr, hx]
    rfl
  obtain ⟨hau, hcode, -, -, hk⟩ := s.endAuth_shows hx 17
  refine ⟨_, he, ?_, ?_, hk.raisedAfter _ rfl (by decide) (by decide) (by decide), hk.keeps.raise (by decide)⟩
  · rw [State.raise_upd, hau]
  · rw [State.fld, State.raise_rd _ _ _ (by decide) (by decide)]
    exact hcode

end

/-- Settles O58: each step of a session on the state of its source. -/
theorem updateSessions : Obligations.UpdateSessions := by
  unfold Obligations.UpdateSessions
  intro p v cr tack signer s hr hf hp code regs
  refine ⟨fun ho => State.updOpen_completes v hr hf hp ho, State.updOpen_other v hr hf hp,
    fun x hx ho hl => State.updDataHeader_completes v hr hf hp hx ho hl,
    fun x hx hn hs hl hb => State.updDataPage_completes v hr hf hx hn hs hl hb,
    fun x hx hl => State.headerCheck_completes hr hf hp hx hl, fun x hx => ⟨State.pageProgrammed_completes hr hf hx, fun hl hb =>
      State.verified_completes hr hf hx hl hb, State.updExpired_completes hr hx, fun hs hn => State.updAbort_completes v hr hf hp hx hs hn⟩⟩

end Sys2Proof.Machine
end

section
/-!
PROOFS. Activation, trial, confirmation and fallback (O59).
-/

namespace Sys2Proof.Machine

section
variable (s : State)

/-! ## The descriptor, the restart and the end of the session -/

/-- A new descriptor changes nothing but the flash. -/
theorem State.writeDesc_eq (f : Desc → Desc) : s.writeDesc f = { s with flash := (s.writeDesc f).flash } := by
  unfold State.writeDesc
  split
  split <;> rfl

/-- A mailbox falls back to hardware mode, and its open window is cut (R257). -/
def State.cutMailbox (s : State) (f : Nat) : State := s.onMb f (fun m => { m with sub := none, dec := none, lost := m.open_ })

/-- The mailboxes of a restart, before its registers. -/
def State.restartBase (s : State) (planned : Bool) : State :=
  (List.range 7).foldl State.cutMailbox
    { s with boot := { s.boot with lrStart := some s.time.mono, lrPlanned := planned } }

/-- The parts of a state that the mailboxes of a restart leave alone. -/
def State.restartParts (s : State) := (s.reg, s.shadow, s.mem, s.evq, s.boot, s.flash, s.upd)

theorem State.restartBase_parts (planned : Bool) : (s.restartBase planned).restartParts =
    (s.reg, s.shadow, s.mem, s.evq, { s.boot with lrStart := some s.time.mono, lrPlanned := planned }, s.flash, s.upd) :=
  foldl_part State.restartParts State.cutMailbox (fun _ _ => rfl) _ _

/-- A live restart has started (R79): its moment shows, firmware stops serving, and no image or session changes. -/
theorem State.startRestart_shows (planned : Bool) : let t := s.startRestart planned
    (t.boot.lrStart = some s.time.mono ∧ t.boot.lrPlanned = planned ∧ t.bit Reg.HST_STAT 31 = false) ∧ t.flash = s.flash ∧ t.upd = s.upd ∧
      s.evq ⊆ t.evq ∧ Keeps s t [Reg.HST_STAT, Reg.BOOT_LRCNT, Reg.TIM_CDCFLUSH] := by
  have h := s.restartBase_parts planned
  have he : s.startRestart planned =
      (((s.restartBase planned).setBit Reg.HST_STAT 31 false).bump Reg.BOOT_LRCNT 15 0 1).flushCrossing := rfl
  simp only [he]
  generalize s.restartBase planned = x at h
  simp only [State.restartParts, Prod.mk.injEq] at h
  obtain ⟨hr, hs, hm, hq, hb, hf, hu⟩ := h
  have hrd (a : Nat) : x.rd a = s.rd a := congrArg (cellsGet regReset · a) hr
  have hk : Keeps s x [Reg.HST_STAT, Reg.BOOT_LRCNT, Reg.TIM_CDCFLUSH] := .of (fun a _ _ => hrd a) hs hm
  have hboot : ((x.setBit Reg.HST_STAT 31 false).bump Reg.BOOT_LRCNT 15 0 1).flushCrossing.boot = x.boot := State.raise_boot _ _
  refine ⟨⟨?_, ?_, ?_⟩, (State.raise_flash _ _).trans hf, (State.raise_upd _ _).trans hu, ?_, ?_⟩
  · rw [hboot, hb]
  · rw [hboot, hb]
  · rw [State.bit, State.flushCrossing, State.raise_rd _ _ _ (by decide) (by decide), State.rd_bump_ne _ _ _ _ _ _ (by decide),
      State.rd_bump_ne _ _ _ _ _ _ (by decide)]
    exact State.bit_setBit _ _ _ _ (by decide)
  · rw [← hq]
    exact State.evq_subset_raise (((x.setBit Reg.HST_STAT 31 false).bump Reg.BOOT_LRCNT 15 0 1).bump Reg.TIM_CDCFLUSH 15 0 1) ⟨1, 1, 0⟩
  · exact (((hk.setBit _ _ (by decide)).bump _ _ _ (by decide)).bump _ _ _ (by decide)).raise (by decide)

/-- A session that ends with code 0 counts no error. -/
theorem State.endAuth_done {x : AuthSess} (hx : s.upd.auth = some x) : let t := s.endAuth 0
    t.upd = { s.upd with auth := none, actWait := false } ∧ t.flash = s.flash ∧ t.boot = s.boot ∧ t.time = s.time ∧ s.evq ⊆ t.evq ∧
      Keeps s t [Reg.UPD_STAT, Reg.UPD_OFS, Reg.UPD_RESULT] := by
  obtain ⟨hu, -, hf, hb, hk⟩ := s.endAuth_shows hx 0
  refine ⟨hu, hf, hb, hk.time, hk.evq, ?_⟩
  have he : s.endAuth 0 = (((s.unauthed.wr Reg.UPD_STAT (s.rd Reg.UPD_STAT &&& 0x03000000)).wrN Reg.UPD_OFS 0).put Reg.UPD_RESULT 7 0 0).offerNow
      0x0105 2 (leBytes 4 (srcCode x.src) ++ leBytes 4 x.slot ++ leBytes 4 0) := by
    rw [State.endAuth, hx]
    rfl
  have h0 : Keeps s s.unauthed [Reg.UPD_STAT, Reg.UPD_OFS, Reg.UPD_RESULT] := .of (regsKept_refl s _) rfl rfl
  rw [he]
  exact (((h0.wr _ (by decide)).wr _ (by decide)).put _ _ _ (by decide)).trans (.of (regsKept_refl _ _) rfl rfl)

/-! ## UPD_ACTIVATE (R439, R442) -/

/-- A tack image named by the descriptor, before its event. -/
def State.tackNamed (s : State) (slot : Nat) : State :=
  (s.writeDesc (fun d => { d with tksel := slot - 2 })).offerNow 0x0106 2
    (leBytes 4 slot ++ leBytes 4 (hdrVersion ((s.writeDesc (fun d => { d with tksel := slot - 2 })).slot slot).header).toNat)

/-- A tack image staged, before the session ends. -/
def State.tackStaged (s : State) (slot : Nat) : State := (s.tackNamed slot).raise (E.TACK_STAGED 0)

theorem State.activateTack_eq (slot : Nat) : s.activateTack slot = (s.tackStaged slot).endAuth 0 := rfl

/-- A firmware slot activated, before its event. -/
def State.fwNamed (s : State) (slot : Nat) : State :=
  (s.writeDesc (fun d => { d with fwsel := slot + 128 })).offerNow 0x0100 2
    (leBytes 4 ((s.writeDesc (fun d => { d with fwsel := slot + 128 })).rdN Reg.BOOT_FWVER) ++
      leBytes 4 (hdrVersion (s.slot slot).header).toNat ++ leBytes 4 slot)

/-- A firmware slot activated, before the session ends. -/
def State.fwSelected (s : State) (slot : Nat) : State :=
  { (s.fwNamed slot).raise (E.FW_ACTIVATED 0) with upd := { ((s.fwNamed slot).raise (E.FW_ACTIVATED 0)).upd with confirmed := false } }

theorem State.activateFw_eq (slot : Nat) :
    s.activateFw slot = (((s.fwSelected slot).endAuth 0).setBit Reg.UPD_STAT 28 true).startRestart true := by
  unfold State.activateFw State.fwSelected State.fwNamed
  rfl

/-- `t` is `s` with the descriptor changed by `f` and a record of it. -/
structure State.Described (s : State) (f : Desc → Desc) (t : State) : Prop where
  flash : t.flash = (s.writeDesc f).flash
  upd : t.upd = s.upd
  boot : t.boot = s.boot
  time : t.time = s.time
  evq : t.evq = s.evq
  keeps : ∀ w, Keeps s t w

theorem State.described (f : Desc → Desc) (k v : Nat) (b : List Byte) : s.Described f ((s.writeDesc f).offerNow k v b) := by
  have ht := congrArg (State.offerNow · k v b) (s.writeDesc_eq f)
  rw [ht]
  have hd : (s.writeDesc f).flash = (s.writeDesc f).flash := rfl
  generalize he : (s.writeDesc f).flash = fl at hd ⊢
  exact ⟨he.symm, rfl, rfl, rfl, rfl, fun w => .of (regsKept_refl s w) rfl rfl⟩

theorem State.tackNamed_described (slot : Nat) : s.Described (fun d => { d with tksel := slot - 2 }) (s.tackNamed slot) := s.described _ _ _ _

theorem State.fwNamed_described (slot : Nat) : s.Described (fun d => { d with fwsel := slot + 128 }) (s.fwNamed slot) := s.described _ _ _ _

theorem State.tackStaged_shows (slot : Nat) : let t := s.tackStaged slot
    t.flash = (s.writeDesc (fun d => { d with tksel := slot - 2 })).flash ∧ t.upd = s.upd ∧ Raised s t (E.TACK_STAGED 0) ∧
      t.boot = s.boot ∧ ∀ w, Keeps s t w := by
  have h := s.tackNamed_described slot
  unfold State.tackStaged
  generalize s.tackNamed slot = x at h ⊢
  exact ⟨(x.raise_flash _).trans h.flash, (x.raise_upd _).trans h.upd, .of (List.Subset.refl _) h.evq, (x.raise_boot _).trans h.boot,
    fun w => (h.keeps w).raise (by decide)⟩

theorem State.activateTack_shows {x : AuthSess} (hx : s.upd.auth = some x) (slot : Nat) : let t := s.activateTack slot
    t.flash = (s.writeDesc (fun d => { d with tksel := slot - 2 })).flash ∧ t.upd.auth = none ∧ Raised s t (E.TACK_STAGED 0) ∧
      t.boot = s.boot ∧ Keeps s t [Reg.UPD_STAT, Reg.UPD_OFS, Reg.UPD_RESULT] := by
  obtain ⟨hf, hu, hr, hb, hk⟩ := s.tackStaged_shows slot
  simp only [State.activateTack_eq]
  generalize s.tackStaged slot = y at hf hu hr hb hk
  obtain ⟨hu', hf', hb', -, hq', hk'⟩ := y.endAuth_done ((congrArg UpdSt.auth hu).trans hx)
  exact ⟨hf'.trans hf, congrArg UpdSt.auth hu', hr.mono hq', hb'.trans hb, (hk _).trans hk'⟩

theorem State.fwSelected_shows (slot : Nat) : let t := s.fwSelected slot
    t.flash = (s.writeDesc (fun d => { d with fwsel := slot + 128 })).flash ∧ t.upd.auth = s.upd.auth ∧ t.time = s.time ∧
      Raised s t (E.FW_ACTIVATED 0) ∧ ∀ w, Keeps s t w := by
  have h := s.fwNamed_described slot
  unfold State.fwSelected
  generalize s.fwNamed slot = x at h ⊢
  exact ⟨(x.raise_flash _).trans h.flash, (congrArg UpdSt.auth (x.raise_upd _)).trans (congrArg UpdSt.auth h.upd),
    (x.raise_time _).trans h.time, .of (x := x) (List.Subset.refl _) h.evq,
    fun w => ((h.keeps w).raise (by decide)).trans (.of (regsKept_refl _ _) rfl rfl)⟩

theorem State.activateFw_shows {x : AuthSess} (hx : s.upd.auth = some x) (slot : Nat) : let t := s.activateFw slot
    t.flash = (s.writeDesc (fun d => { d with fwsel := slot + 128 })).flash ∧ t.upd.auth = none ∧
      (t.boot.lrStart = some s.time.mono ∧ t.boot.lrPlanned = true ∧ t.bit Reg.HST_STAT 31 = false) ∧ Raised s t (E.FW_ACTIVATED 0) ∧
      Keeps s t [Reg.UPD_STAT, Reg.UPD_OFS, Reg.UPD_RESULT, Reg.HST_STAT, Reg.BOOT_LRCNT, Reg.TIM_CDCFLUSH] := by
  obtain ⟨hf, hu, ht, hr, hk⟩ := s.fwSelected_shows slot
  simp only [State.activateFw_eq]
  generalize s.fwSelected slot = y at hf hu ht hr hk
  obtain ⟨hu', hf', -, ht', hq', hk'⟩ := y.endAuth_done (hu.trans hx)
  generalize y.endAuth 0 = z at hu' hf' ht' hq' hk'
  obtain ⟨hlr, hf'', hu'', hq'', hk''⟩ := (z.setBit Reg.UPD_STAT 28 true).startRestart_shows true
  generalize (z.setBit Reg.UPD_STAT 28 true).startRestart true = w at hlr hf'' hu'' hq'' hk''
  have hmono : (z.setBit Reg.UPD_STAT 28 true).time = s.time := ht'.trans ht
  rw [hmono] at hlr
  refine ⟨hf''.trans (hf'.trans hf), (congrArg UpdSt.auth hu'').trans (congrArg UpdSt.auth hu'), hlr,
    hr.mono (List.Subset.trans hq' hq''), ?_⟩
  exact ((((hk _).trans hk').setBit _ _ (by decide)).mono (by decide)).trans (hk''.mono (by decide))

theorem State.updActivate_completes {p : Port} (v : Word) (hl : s.live = true) (hf : s.fwOk = true) (hp : p ≠ .fw) {x : AuthSess}
    (hx : s.upd.auth = some x) (hs : x.src = p) (hb : s.bit Reg.UPD_STAT 29 = true) :
    (2 ≤ x.slot → Completes (.updActivate p v) s (fun t => t.flash = (s.writeDesc (fun d => { d with tksel := x.slot - 2 })).flash ∧
      t.upd.auth = none ∧ Raised s t (E.TACK_STAGED 0) ∧ t.boot = s.boot ∧ Keeps s t [Reg.UPD_STAT, Reg.UPD_OFS, Reg.UPD_RESULT])) ∧
    (x.slot < 2 → s.calRuns = false → s.unit.pairMode = false → Completes (.updActivate p v) s (fun t =>
      t.flash = (s.writeDesc (fun d => { d with fwsel := x.slot + 128 })).flash ∧ t.upd.auth = none ∧
      (t.boot.lrStart = some s.time.mono ∧ t.boot.lrPlanned = true ∧ t.bit Reg.HST_STAT 31 = false) ∧ Raised s t (E.FW_ACTIVATED 0) ∧
      Keeps s t [Reg.UPD_STAT, Reg.UPD_OFS, Reg.UPD_RESULT, Reg.HST_STAT, Reg.BOOT_LRCNT, Reg.TIM_CDCFLUSH])) := by
  have hr := State.live_runs hl
  have ho : s.otherOwner p = false := by
    rw [State.otherOwner, hx]
    simp [hs]
  have hsrc : (x.src != p) = false := by simp [hs]
  have hu := (State.updCtl_own hp ho v).2.1
  refine ⟨fun h2 => ?_, fun h2 hc hm => ?_⟩
  · have ha : s.updActivate p = s.activateTack x.slot := by
      rw [State.updActivate, hx]
      exact (if_neg (by rw [hsrc]; decide)).trans ((if_neg (by rw [hb]; decide)).trans (if_pos h2))
    obtain ⟨hfl, hau, hra, hbo, hk⟩ := s.activateTack_shows hx x.slot
    refine State.updCtl_completes hr hf rfl (hu.trans ha) fun t ht => ?_
    obtain ⟨htu, htf, htb, -, -⟩ := ht.session
    exact ⟨htf.trans hfl, (congrArg UpdSt.auth htu).trans hau, ht.raised hra, htb.trans hbo, ht.keeps hk⟩
  · have ha : s.updActivate p = s.activateFw x.slot := by
      rw [State.updActivate, hx]
      exact (if_neg (by rw [hsrc]; decide)).trans ((if_neg (by rw [hb]; decide)).trans ((if_neg (by omega)).trans
        ((if_neg (by rw [hc]; decide)).trans (if_pos (by rw [hm]; decide)))))
    obtain ⟨hfl, hau, ⟨h1, h2, h3⟩, hra, hk⟩ := s.activateFw_shows hx x.slot
    refine State.updCtl_completes hr hf rfl (hu.trans ha) fun t ht => ?_
    obtain ⟨htu, htf, htb, -, -⟩ := ht.session
    refine ⟨htf.trans hfl, (congrArg UpdSt.auth htu).trans hau, ⟨?_, ?_, ?_⟩, ht.raised hra, ht.keeps hk⟩
    · rw [htb, h1]
    · rw [htb, h2]
    · rw [State.bit, ht.rd (by decide)]
      exact h3

/-! ## UPD_FALLBACK and the confirmation (R441) -/

variable {s} in
theorem State.updCtl_unowned {p : Port} (ha : s.upd.auth = none) : s.otherOwner p = false := by
  rw [State.otherOwner, ha]

/-- The reason of a fallback noted. -/
def State.withReason (s : State) (n : Nat) : State := { s with upd := { s.upd with reason := n } }

theorem State.updFallback_trial (n : Nat) (h : s.upd.trialrun = true) : s.updFallback n = (s.withReason n).startRestart true := if_pos h

theorem State.updFallback_completes {p : Port} (v : Word) (hl : s.live = true) (hf : s.fwOk = true) (hp : p ≠ .fw) (ha : s.upd.auth = none) :
    (s.upd.trialrun = true → Completes (.updFallback p v) s (fun t =>
      (t.boot.lrStart = some s.time.mono ∧ t.boot.lrPlanned = true ∧ t.bit Reg.HST_STAT 31 = false) ∧ t.upd.reason = 2 ∧
        t.flash = s.flash)) ∧
    (s.upd.trialrun = false → Completes (.updFallback p v) s (fun t => t.boot = s.boot ∧ t.upd = s.upd ∧ Keeps s t [])) := by
  have hr := State.live_runs hl
  have hu := (State.updCtl_own hp (State.updCtl_unowned ha) v).2.2.2
  refine ⟨fun h => ?_, fun h => ?_⟩
  · obtain ⟨⟨h1, h2, h3⟩, hfl, hup, -, -⟩ := (s.withReason 2).startRestart_shows true
    refine State.updCtl_completes hr hf rfl (hu.trans (s.updFallback_trial 2 h)) fun t ht => ?_
    obtain ⟨htu, htf, htb, -, -⟩ := ht.session
    refine ⟨⟨?_, ?_, ?_⟩, ?_, htf.trans hfl⟩
    · rw [htb, h1]
      rfl
    · rw [htb, h2]
    · rw [State.bit, ht.rd (by decide)]
      exact h3
    · rw [htu, hup]
      rfl
  · refine State.updCtl_completes hr hf rfl (hu.trans (if_neg (by rw [h]; decide))) fun t ht => ?_
    obtain ⟨htu, -, htb, -, -⟩ := ht.session
    exact ⟨htb, htu, ht.keeps (.refl s _)⟩

/-- A trial confirmed, before the anti-rollback counter. -/
def State.trialEnded (s : State) : State :=
  { s.writeDesc (fun d => { d with fwsel := d.fwsel % 2 }) with
    upd := { (s.writeDesc (fun d => { d with fwsel := d.fwsel % 2 })).upd with trialrun := false, confirmed := true, confEnd := none } }

/-- The token of an update given back. -/
def State.tokenBack (s : State) : State := if s.tokHeld && s.tokMine && s.tokAct == 2 then s.tokGive else s

/-- With the counter raised and the token given back, before the record. -/
def State.trialClosed (s : State) : State :=
  (s.trialEnded.raiseArb 0 (hdrArb (s.trialEnded.slot (s.trialEnded.fld Reg.BOOT_STAT 7 7)).header)).tokenBack

theorem State.exec_fwConfirmed (hl : s.live = true) (hf : s.fwOk = true) (h : s.upd.trialrun = true) (ho : s.fld Reg.UPD_OVL 1 0 ≠ 2) :
    exec .fwConfirmed s = .next ((s.trialClosed.offerNow 0x0101 2 (leBytes 4 (s.trialClosed.rdN Reg.BOOT_FWVER) ++
      leBytes 4 (s.trialClosed.arb 0))).raise (E.FW_CONFIRMED 0)) := by
  change execFwConfirmed s = _
  have hg : (s.live && s.fwOk && s.upd.trialrun && s.fld Reg.UPD_OVL 1 0 != 2) = true := by
    rw [hl, hf, h]
    simpa using ho
  rw [execFwConfirmed, if_pos hg]
  unfold State.trialClosed State.trialEnded
  rfl

theorem State.writeDesc_slots (f : Desc → Desc) : (s.writeDesc f).flash.slots = s.flash.slots := by
  unfold State.writeDesc
  split
  split <;> rfl

theorem hdrArb_lt (h : List Byte) : hdrArb h < 256 := by
  unfold hdrArb leAt
  cases hd : h.drop 16 with
  | nil => decide
  | cons b l =>
    simp [leNat]
    exact b.isLt

/-- An anti-rollback counter is raised to the value of an image, never lowered (R433). -/
theorem State.raiseArb_shows {v : Nat} (hv : v < 256) : (s.raiseArb 0 v).arb 0 = max (s.arb 0) v ∧ (s.raiseArb 0 v).upd = s.upd ∧
    (s.raiseArb 0 v).flash = s.flash ∧ State.Frame (regsIn [Reg.UPD_ARB]) (· = 10) s (s.raiseArb 0 v) := by
  have hd : s.raiseArb 0 v = if s.arb 0 < v then (s.put Reg.UPD_ARB 7 0 v).raise (E.ARB_RAISED 0) else s := rfl
  have hf : State.Frame (regsIn [Reg.UPD_ARB]) (· = 10) s ((s.put Reg.UPD_ARB 7 0 v).raise (E.ARB_RAISED 0)) :=
    .raise (.put (.refl s) _ _ _ _ (fun _ _ _ _ => List.mem_cons_self)) (E.ARB_RAISED 0) (by decide : 10 < 256) (.inl rfl)
  rw [hd]
  refine ⟨?_, ite_part (·.upd) (State.raise_upd _ _) rfl, ite_part (·.flash) (State.raise_flash _ _) rfl, .ite hf (.refl s)⟩
  split
  next h =>
    have hr : ((s.put Reg.UPD_ARB 7 0 v).raise (E.ARB_RAISED 0)).fld Reg.UPD_ARB 7 0 = v := by
      rw [State.fld, State.raise_rd _ _ _ (by decide) (by decide)]
      exact (State.fld_put _ _ 7 0 _ (by decide)).trans (Nat.mod_eq_of_lt hv)
    exact hr.trans (by omega)
  next h => omega

theorem State.tokGive_parts : s.tokGive.upd = s.upd ∧ s.tokGive.flash = s.flash := by
  have h1 : (if s.tokMine then s.injLock else s).upd = s.upd := ite_part (·.upd) rfl rfl
  have h2 : (if s.tokMine then s.injLock else s).flash = s.flash := ite_part (·.flash) rfl rfl
  exact ⟨ite_part (·.upd) (ite_part (·.upd) h1 h1) h1, ite_part (·.flash) (ite_part (·.flash) h2 h2) h2⟩

/-- The frame of the end of a trial, and what it shows (R441). -/
theorem State.trialClosed_shows : let t := s.trialClosed
    t.upd = { s.upd with trialrun := false, confirmed := true, confEnd := none } ∧
      t.flash = (s.writeDesc (fun d => { d with fwsel := d.fwsel % 2 })).flash ∧
      t.arb 0 = max (s.arb 0) (hdrArb (s.slot (s.fld Reg.BOOT_STAT 7 7)).header) ∧
      State.Frame (regsIn [Reg.UPD_ARB, Reg.INJ_STAT, Reg.SYS_TOKSTAT]) (· = 10) s t := by
  have hw := s.writeDesc_eq (fun d => { d with fwsel := d.fwsel % 2 })
  have hs := s.writeDesc_slots (fun d => { d with fwsel := d.fwsel % 2 })
  have he : s.trialEnded = { s with
      flash := (s.writeDesc (fun d => { d with fwsel := d.fwsel % 2 })).flash,
      upd := { s.upd with trialrun := false, confirmed := true, confEnd := none } } := by
    unfold State.trialEnded
    rw [hw]
  have hxf : State.Frame (regsIn [Reg.UPD_ARB]) (· = 10) s s.trialEnded := by
    rw [he]
    exact .of rfl
  have hslot (i : Nat) : s.trialEnded.slot i = s.slot i := by
    rw [he]
    exact congrArg (vget · i Slot.erased) hs
  have hu : s.trialEnded.upd = { s.upd with trialrun := false, confirmed := true, confEnd := none } := by rw [he]
  have hfl : s.trialEnded.flash = (s.writeDesc (fun d => { d with fwsel := d.fwsel % 2 })).flash := by rw [he]
  have hr (a : Nat) : s.trialEnded.rd a = s.rd a := by rw [he]; rfl
  have hv : hdrArb (s.trialEnded.slot (s.trialEnded.fld Reg.BOOT_STAT 7 7)).header = hdrArb (s.slot (s.fld Reg.BOOT_STAT 7 7)).header := by
    rw [hslot, State.fld, hr, State.fld]
  have harb : s.trialEnded.arb 0 = s.arb 0 := by
    simp only [State.arb, State.fld, hr]
  intro t
  have ht : t = s.trialClosed := rfl
  clear_value t
  rw [State.trialClosed, hv] at ht
  generalize s.trialEnded = x at hxf hu hfl harb ht
  obtain ⟨h1, h2, h3, h4⟩ := x.raiseArb_shows (hdrArb_lt (s.slot (s.fld Reg.BOOT_STAT 7 7)).header)
  generalize x.raiseArb 0 (hdrArb (s.slot (s.fld Reg.BOOT_STAT 7 7)).header) = y at h1 h2 h3 h4 ht
  obtain ⟨hgu, hgf⟩ := y.tokGive_parts
  have hg : State.Frame (regsIn [Reg.UPD_ARB, Reg.INJ_STAT, Reg.SYS_TOKSTAT]) (· = 10) y y.tokGive :=
    y.frame_tokGive (fun _ => by simp [regsIn]) (fun _ => by simp [regsIn])
  have hga : y.tokGive.arb 0 = y.arb 0 := by
    have hg' : State.Frame (regsIn [Reg.INJ_STAT, Reg.SYS_TOKSTAT]) (· = 10) y y.tokGive :=
      y.frame_tokGive (fun _ => by simp [regsIn]) (fun _ => by simp [regsIn])
    exact hg'.field (hi := 7) (lo := 0) (fun _ _ _ _ => by simp [regsIn]) (by decide)
  have hxy : State.Frame (regsIn [Reg.UPD_ARB, Reg.INJ_STAT, Reg.SYS_TOKSTAT]) (· = 10) s y :=
    (hxf.trans h4).mono (fun a _ h => by
      rw [List.mem_singleton.mp h]
      exact List.mem_cons_self) (fun _ h => h)
  rw [ht]
  refine ⟨?_, ?_, ?_, .ite (hxy.trans hg) hxy⟩
  · exact (ite_part (·.upd) hgu rfl).trans (h2.trans hu)
  · exact (ite_part (·.flash) hgf rfl).trans (h3.trans hfl)
  · exact (ite_part (·.arb 0) hga rfl).trans (h1.trans (by rw [harb]))

theorem State.fwConfirmed_completes (hl : s.live = true) (hf : s.fwOk = true) (h : s.upd.trialrun = true) (ho : s.fld Reg.UPD_OVL 1 0 ≠ 2) :
    Completes .fwConfirmed s (fun t => t.upd.trialrun = false ∧ t.upd.confirmed = true ∧ t.upd.confEnd = none ∧
      t.flash = (s.writeDesc (fun d => { d with fwsel := d.fwsel % 2 })).flash ∧
      t.arb 0 = max (s.arb 0) (hdrArb (s.slot (s.fld Reg.BOOT_STAT 7 7)).header) ∧ Raised s t (E.FW_CONFIRMED 0)) := by
  refine ⟨_, s.exec_fwConfirmed hl hf h ho, ?_⟩
  obtain ⟨hu, hfl, ha, hk⟩ := s.trialClosed_shows
  generalize leBytes 4 (s.trialClosed.rdN Reg.BOOT_FWVER) ++ leBytes 4 (s.trialClosed.arb 0) = b
  generalize s.trialClosed = x at hu hfl ha hk ⊢
  have hup : ((x.offerNow 0x0101 2 b).raise (E.FW_CONFIRMED 0)).upd = x.upd := State.raise_upd _ _
  have hrd : ((x.offerNow 0x0101 2 b).raise (E.FW_CONFIRMED 0)).rd Reg.UPD_ARB = x.rd Reg.UPD_ARB :=
    State.raise_rd _ _ _ (by decide) (by decide)
  refine ⟨?_, ?_, ?_, (State.raise_flash _ _).trans hfl, ?_, hk.raisedAfter _ rfl (by decide) (by decide) (by decide)⟩
  · rw [hup, hu]
  · rw [hup, hu]
  · rw [hup, hu]
  · exact (congrArg (fieldOf · 7 0) hrd).trans ha

theorem State.exec_fwConfirmTimeout (hr : s.runs = true) (h : s.upd.trialrun = true) (hc : s.upd.confEnd.isSome = true) :
    exec .fwConfirmTimeout s = .next
      ((({ s with upd := { s.upd with confEnd := none } } : State).raise (E.FW_CONFIRM_TIMEOUT 0)).updFallback 1) := by
  change execFwConfirmTimeout s = _
  rw [execFwConfirmTimeout, hr, h, hc]
  rfl

theorem State.fwConfirmTimeout_completes (hl : s.live = true) (h : s.upd.trialrun = true) (hc : s.upd.confEnd.isSome = true) :
    Completes .fwConfirmTimeout s (fun t =>
      (t.boot.lrStart = some s.time.mono ∧ t.boot.lrPlanned = true ∧ t.bit Reg.HST_STAT 31 = false) ∧ t.upd.reason = 1 ∧
        t.upd.confEnd = none ∧ Raised s t (E.FW_CONFIRM_TIMEOUT 0)) := by
  refine ⟨_, s.exec_fwConfirmTimeout (State.live_runs hl) h hc, ?_⟩
  have hra : Raised s (({ s with upd := { s.upd with confEnd := none } } : State).raise (E.FW_CONFIRM_TIMEOUT 0)) (E.FW_CONFIRM_TIMEOUT 0) :=
    .of (List.Subset.refl _) rfl
  have hu := State.raise_upd ({ s with upd := { s.upd with confEnd := none } } : State) (E.FW_CONFIRM_TIMEOUT 0)
  have ht := State.raise_time ({ s with upd := { s.upd with confEnd := none } } : State) (E.FW_CONFIRM_TIMEOUT 0)
  generalize ({ s with upd := { s.upd with confEnd := none } } : State).raise (E.FW_CONFIRM_TIMEOUT 0) = x at hra hu ht ⊢
  rw [x.updFallback_trial 1 (by rw [hu]; exact h)]
  obtain ⟨⟨h1, h2, h3⟩, -, hup, hq, -⟩ := (x.withReason 1).startRestart_shows true
  refine ⟨⟨h1.trans (congrArg (fun z : TimeSt => some z.mono) ht), h2, h3⟩, ?_, ?_, hra.mono hq⟩
  · rw [hup]
    rfl
  · rw [hup]
    exact congrArg UpdSt.confEnd hu

theorem State.updActivate_unowned {p : Port} (v : Word) (hl : s.live = true) (hf : s.fwOk = true) (hp : p ≠ .fw) (ha : s.upd.auth = none) :
    Completes (.updActivate p v) s (fun t => t.fld Reg.UPD_RESULT 7 0 = 22 ∧ t.flash = s.flash ∧ t.boot = s.boot ∧
      Keeps s t [Reg.UPD_RESULT]) := by
  have hu : s.updActivate p = s.put Reg.UPD_RESULT 7 0 22 := by
    rw [State.updActivate, ha]
  refine State.updCtl_completes (State.live_runs hl) hf rfl ((State.updCtl_own hp (State.updCtl_unowned ha) v).2.1.trans hu) fun t ht => ?_
  obtain ⟨-, htf, htb, -, hrd⟩ := ht.session
  exact ⟨(hrd _ (by decide) 7 0).trans (State.fld_put _ _ 7 0 _ (by decide)), htf, htb, ht.keeps ((Keeps.refl s _).put _ _ _ List.mem_cons_self)⟩

end

/-- Settles O59: the commands of UPD_CTL on a verified session, and the two ends of a trial. -/
theorem activationAndTrial : Obligations.ActivationAndTrial := by
  unfold Obligations.ActivationAndTrial
  intro p v s hl hf hp restarts
  exact ⟨s.updActivate_unowned v hl hf hp, fun x hx hs hb => s.updActivate_completes v hl hf hp hx hs hb,
    fun ha => (s.updFallback_completes v hl hf hp ha).1, fun ha => (s.updFallback_completes v hl hf hp ha).2,
    s.fwConfirmed_completes hl hf, s.fwConfirmTimeout_completes hl⟩

end Sys2Proof.Machine
end

section
/-!
PROOFS. The failure of a comparator (O39).
-/

namespace Sys2Proof.Machine

/-! ## The counterexample to O39

Comparator 0 fails its second check in a row while its routing word asks for events (bit 25) and crossing 3 of R44 holds 15 pulses of the
comparators' source: one place is left (R42). CMP_CHANGE, which the move to the safe state raises first (R311), takes it, and CMP_FAILED of
the same source is dropped. -/

/-- A pulse of the comparators' source that waits in the crossing. -/
def comparePulse : EvPulse := { ev := E.CMP_CHANGE 1, detail := [], stamp := State.reset.stamp, inj := false, fwd := false }

/-- A running unit with an enabled comparator that has failed two checks and raises events, and room for one pulse of its source. -/
def compareCrowded : State :=
  let s : State := {
    State.reset with
    unit := { State.reset.unit with life := .running, txIdle := false }
    evq := List.replicate 15 comparePulse
    meas := { State.reset.meas with cmpFail := vset State.reset.meas.cmpFail 0 2 } }
  (s.setBit (Reg.CMP_CFG 0) 31 true).setBit (Reg.CMP_ROUTE 0) 25 true

/-- The state that CMP_FAILED leaves of the crowded unit. -/
def compareFailed : State :=
  let s := (((compareCrowded.setBit Reg.CMP_STAT 16 true).cmpMove 0 (compareCrowded.cmpSafe 0) true).raise (E.CMP_FAILED 0))
  s.sendFault (s.faultMsg 18 0 4 0 48)

/-- The failure leaves no pulse of CMP_FAILED in the crossing. -/
theorem compareFailed_lost : compareFailed.evq.any (fun p => p.ev == E.CMP_FAILED 0) = false := by decide +kernel

/-- CMP_FAILED of the crowded unit completes with that state. -/
theorem compareCrowded_fails : exec (.cmpFailed 0) compareCrowded = .next compareFailed := by
  have hif : (compareCrowded.live && compareCrowded.bit (Reg.CMP_CFG 0) 31 && !compareCrowded.bit Reg.CMP_STAT (16 + 0) &&
      decide (2 ≤ vget compareCrowded.meas.cmpFail 0 0)) = true := by decide +kernel
  have hact : fieldOf (compareCrowded.rd (Reg.CMP_ROUTE 0)) 31 28 = 0 := by decide +kernel
  have hchk : (compareCrowded.meas.cmpChk + 3) % 4 = 3 := by decide +kernel
  change execCmpFailed 0 compareCrowded = _
  rw [execCmpFailed]
  refine (if_pos hif).trans ?_
  simp only [Fin.val_zero, hact, hchk]
  rfl

/-- Refutes O39: a failing comparator that raises events moves to its safe state with CMP_CHANGE first, which may take the last place of the
source in the crossing. -/
theorem not_monitorsAndComparators : ¬ Obligations.MonitorsAndComparators := by
  unfold Obligations.MonitorsAndComparators
  intro h
  obtain ⟨-, -, hfail⟩ := h.2 [] 0 0 compareCrowded (by decide +kernel) (by decide +kernel)
  obtain ⟨t, ht, -, -, hr, -⟩ := hfail (by decide +kernel) (by decide +kernel)
  obtain rfl : compareFailed = t := by injection compareCrowded_fails.symm.trans ht
  obtain ⟨p, hp, he⟩ := hr (by decide +kernel)
  exact List.any_eq_false.mp compareFailed_lost p hp (beq_iff_eq.mpr he)

end Sys2Proof.Machine
end

section
/-!
PROOFS. The calibration procedure (O38).
-/

namespace Sys2Proof.Machine

/-! ## CAL_CMD -/

/-- CAL_STAT of a procedure in state `n` for entry `e`. -/
theorem fieldOf_calStat {n e : Nat} (hn : n < 16) (he : e < 512) :
    fieldOf (word (n * 2 ^ 28 + e)) 31 28 = n ∧ fieldOf (word (n * 2 ^ 28 + e)) 8 0 = e := by
  have he28 : e < 2 ^ 28 := he.trans (by norm_num)
  have h : (word (n * 2 ^ 28 + e)).toNat = n * 2 ^ 28 + e := by
    refine (BitVec.toNat_ofNat _ _).trans (Nat.mod_eq_of_lt ?_)
    calc n * 2 ^ 28 + e < (n + 1) * 2 ^ 28 := by rw [Nat.succ_mul]; exact Nat.add_lt_add_left he28 _
      _ ≤ 2 ^ 4 * 2 ^ 28 := Nat.mul_le_mul_right _ hn
      _ = 2 ^ 32 := (pow_add 2 4 28).symm
  rw [fieldOf, fieldOf, BitVec.extractLsb'_toNat, BitVec.extractLsb'_toNat, h, Nat.shiftRight_zero, Nat.shiftRight_eq_div_pow]
  constructor
  · rw [Nat.add_comm, Nat.add_mul_div_right _ _ (Nat.two_pow_pos 28), Nat.div_eq_of_lt he28, Nat.zero_add]
    exact Nat.mod_eq_of_lt hn
  · rw [show n * 2 ^ 28 = n * 2 ^ 19 * 2 ^ (8 + 1 - 0) by rw [Nat.mul_assoc, ← pow_add], Nat.add_comm, Nat.add_mul_mod_self_right]
    exact Nat.mod_eq_of_lt he

theorem fieldOf_calCmd (v : Word) {n : Nat} (h : n < 16) : fieldOf (withOp v n &&& word 0xF00001FF) 31 28 = n ∧
    fieldOf (withOp v n &&& word 0xF00001FF) 8 0 = fieldOf v 8 0 := by
  rw [fieldOf_and _ _ _ _ (by decide) (by decide), fieldOf_withOp _ _ h, fieldOf_and _ _ _ _ (by decide) (by decide),
    fieldOf_withOp_ne _ _ _ _ (by decide)]
  exact ⟨rfl, rfl⟩

theorem hostWrite_calCmd {p : Port} {s : State} (hr : s.runs = true) (hf : p = .fw ∨ s.fwOk = true) (v : Word) (n : Nat) :
    (s.hostWrite p Reg.CAL_CMD (withOp v n)).Counted (s.calCmd (withOp v n &&& word 0xF00001FF)) := by
  have hb : s.fwBusy p Reg.CAL_CMD = false := by
    rcases hf with rfl | hf
    · rfl
    · rw [State.fwBusy, hf, Bool.not_true, Bool.and_false]
  exact s.hostWrite_fixed_counted p Reg.CAL_CMD Reg.CAL_CMD _ _ _ (State.fabricUp_runs s hr)
    (State.mapped_runs s _ hr (.inr (by decide))) (by decide) hb rfl rfl (by decide) (by decide) (by decide) rfl

section
variable (s : State)

/-- The procedure's record at the start of a phase: nothing summed, the first four deliveries to be discarded. -/
def CalProc.started (c : CalProc) : CalProc := { c with skip := 4, n := 0, sum := 0, skipS := 4, nS := 0, sumS := 0 }

theorem State.calCmd_zero {w : Word} (hop : fieldOf w 31 28 = 1) (hd : s.calRefusal (fieldOf w 8 0) = none)
    (hc : (s.calRuns && s.calCh != fieldOf w 8 0) = false) : s.calCmd w =
      (s.setCal { s.meas.cal.started with z := 0, zS := 0 }).wrN Reg.CAL_STAT (1 * 2 ^ 28 + fieldOf w 8 0) := by
  simp only [State.calCmd, hop, hd, hc, Bool.false_eq_true, if_false]
  rfl

theorem State.calCmd_zero_refused {w : Word} {r : Nat} (hop : fieldOf w 31 28 = 1) (hd : s.calRefusal (fieldOf w 8 0) = some r) :
    s.calCmd w = s.calDeny (fieldOf w 8 0) r := by
  simp only [State.calCmd, hop, hd]

theorem State.calCmd_fs {w : Word} (hop : fieldOf w 31 28 = 2) (hd : s.calRefusal (fieldOf w 8 0) = none) (hst : s.calState = 2)
    (hc : s.calCh = fieldOf w 8 0) : s.calCmd w =
      (s.setCal { s.meas.cal.started with ref := s.sfld Reg.CAL_REF 23 0 }).wrN Reg.CAL_STAT (3 * 2 ^ 28 + fieldOf w 8 0) := by
  simp only [State.calCmd, hop, hd, hc, hst, bne_self_eq_false, Bool.and_false, Bool.or_false, Bool.false_eq_true, if_false]
  rfl

theorem State.calCmd_fs_idle {w : Word} (hop : fieldOf w 31 28 = 2) (hd : s.calRefusal (fieldOf w 8 0) = none) (hr : s.calRuns = false)
    (hc : s.calState ≠ 2 ∨ s.calCh ≠ fieldOf w 8 0) : s.calCmd w = s.calDeny (fieldOf w 8 0) 1 := by
  have h : (s.calState != 2 || s.calCh != fieldOf w 8 0) = true := by simpa using hc
  simp only [State.calCmd, hop, hd, hr, h, Bool.false_and, Bool.false_eq_true, if_false, if_true]

theorem State.calCmd_fs_running {w : Word} (hop : fieldOf w 31 28 = 2) (hd : s.calRefusal (fieldOf w 8 0) = none) (hr : s.calRuns = true)
    (hc : s.calCh = fieldOf w 8 0) : s.calCmd w = s.calError 1 := by
  have h : (s.calState != 2) = true := by
    rw [State.calRuns, Bool.or_eq_true, beq_iff_eq, beq_iff_eq] at hr
    rcases hr with hr | hr <;> rw [hr] <;> rfl
  simp only [State.calCmd, hop, hd, hr, hc, h, bne_self_eq_false, Bool.and_false, Bool.true_or, Bool.false_eq_true, if_false, if_true]

theorem State.calCmd_abort {w : Word} (hop : fieldOf w 31 28 = 3) : s.calCmd w = s.wrN Reg.CAL_STAT 0 := by
  simp only [State.calCmd, hop]

/-- What a change of CAL_STAT leaves. -/
theorem State.keeps_calStat (c : CalProc) (v : Nat) : Keeps s ((s.setCal c).wrN Reg.CAL_STAT v) [Reg.CAL_STAT] :=
  .of (fun _ ha _ => State.rd_wrN_ne _ _ _ _ (fun h => ha (h ▸ List.mem_cons_self))) rfl rfl

/-- A procedure ended in ERROR. -/
structure State.CalFailed (s : State) (code : Nat) (t : State) : Prop where
  state : t.calState = 5
  code : t.fld Reg.CAL_STAT 27 24 = code % 16
  meas : t.meas = s.meas
  frame : State.Frame (fun a _ => a = Reg.CAL_STAT) (· = 226) s t

theorem State.calError_failed (code : Nat) : s.CalFailed code (s.calError code) := by
  have hrd : ∀ x : State, (x.raise (E.CAL_ERR (s.calCh % 256))).rd Reg.CAL_STAT = x.rd Reg.CAL_STAT := fun x =>
    State.raise_rd _ _ _ (by decide : 226 < 256) (by decide)
  exact {
    state := by
      rw [State.calState, State.fld, State.calError, hrd]
      exact (State.fld_put_disj _ _ 27 24 _ 31 28 (by decide) (.inr (by decide))).trans (State.fld_put _ _ 31 28 _ (by decide))
    code := by
      rw [State.fld, State.calError, hrd]
      exact State.fld_put _ _ 27 24 _ (by decide)
    meas := State.raise_meas _ _
    frame := .raise (.put (.put (.refl s) _ _ _ _ (fun _ _ _ _ => rfl)) _ _ _ _ (fun _ _ _ _ => rfl)) _ (by decide : 226 < 256)
      (.inl rfl) }

theorem State.calError_raised (code : Nat) : Raised s (s.calError code) (E.CAL_ERR (s.calCh % 256)) :=
  State.Frame.raisedAfter (R := fun _ _ => False) (E := fun _ => False) (.refl s) _ rfl id (by decide : 226 ≠ 1) (by decide : 226 ≠ 35)

/-- A command that is answered where no procedure runs: an error of its own. -/
theorem State.calDeny_failed {e code : Nat} (hr : s.calRuns = false) (h5 : code ≠ 5) : s.CalFailed code (s.calDeny e code) := by
  have h : State.Frame (fun a _ => a = Reg.CAL_STAT) (· = 226) s (s.put Reg.CAL_STAT 8 0 e) := .put (.refl s) _ _ _ _ (fun _ _ _ _ => rfl)
  have hx : s.calDeny e code = (s.put Reg.CAL_STAT 8 0 e).calError code := by
    simp only [State.calDeny, h5, hr, if_false, Bool.false_eq_true]
  obtain ⟨hst, hc, hm, hf⟩ := (s.put Reg.CAL_STAT 8 0 e).calError_failed code
  rw [hx]
  exact ⟨hst, hc, hm, h.trans hf⟩

/-- Without the token: MAINT_BUSY, and an error of its own (R295, R296). -/
theorem State.calDeny_busy {e : Nat} (hr : s.calRuns = false) : (s.calDeny e 5).calState = 5 ∧
    (s.calDeny e 5).fld Reg.CAL_STAT 27 24 = 5 ∧ Raised s (s.calDeny e 5) (E.MAINT_BUSY 0) ∧ (s.calDeny e 5).meas = s.meas ∧
    Keeps s (s.calDeny e 5) [Reg.CAL_STAT] := by
  let y := s.raise (E.MAINT_BUSY 0)
  have hy : State.Frame (fun a _ => a = Reg.CAL_STAT) (fun k => k = 226 ∨ k = 53) s y :=
    .raise (.refl s) _ (by decide : 53 < 256) (.inl (.inr rfl))
  have hry : y.calRuns = false := by
    have : y.rd Reg.CAL_STAT = s.rd Reg.CAL_STAT := State.raise_rd _ _ _ (by decide) (by decide)
    rw [State.calRuns, State.calState, State.fld, this]
    exact hr
  have hraise : Raised s y (E.MAINT_BUSY 0) :=
    State.Frame.raisedAfter (R := fun _ _ => False) (E := fun _ => False) (.refl s) _ rfl id (by decide) (by decide)
  have hx : s.calDeny e 5 = (y.put Reg.CAL_STAT 8 0 e).calError 5 := by
    simp only [State.calDeny, if_true]
    exact if_neg (by rw [hry]; decide)
  have hp : State.Frame (fun a _ => a = Reg.CAL_STAT) (fun k => k = 226 ∨ k = 53) s (y.put Reg.CAL_STAT 8 0 e) :=
    hy.put _ _ _ _ (fun _ _ _ _ => rfl)
  obtain ⟨hst, hc, hm, hf⟩ := (y.put Reg.CAL_STAT 8 0 e).calError_failed 5
  have hf' : State.Frame (fun a _ => a = Reg.CAL_STAT) (fun k => k = 226 ∨ k = 53) (y.put Reg.CAL_STAT 8 0 e)
      ((y.put Reg.CAL_STAT 8 0 e).calError 5) := hf.mono (fun _ _ h => h) (fun _ h => .inl h)
  rw [hx]
  exact ⟨hst, hc, hraise.mono hf.evq, hm.trans (State.raise_meas _ _), (hp.trans hf').keeps fun a i h => by simpa using h⟩

theorem State.CalFailed.keeps {s t : State} {code : Nat} (h : s.CalFailed code t) : Keeps s t [Reg.CAL_STAT] :=
  h.frame.keeps fun a i ha => by simpa using ha

end

/-! ## The result goes to the shadow -/

/-- The entries of the store named: `t` is `s` but for their shadow, with no event lost and the registers of the procedure as they were. -/
structure State.CalStores (es : List Nat) (s t : State) : Prop where
  other : ∀ e, e ∉ es → t.srd (Reg.CAL_GAIN e) = s.srd (Reg.CAL_GAIN e) ∧ t.srd (Reg.CAL_OFS e) = s.srd (Reg.CAL_OFS e)
  gain : ∀ e, t.rd (Reg.CAL_GAIN e) = s.rd (Reg.CAL_GAIN e)
  fits : s.pulseFits 226 = true → t.pulseFits 226 = true

theorem State.CalStores.trans {l m : List Nat} {s t u : State} (h : State.CalStores l s t) (g : State.CalStores m t u) :
    State.CalStores (l ++ m) s u where
  other e he := by
    rw [List.mem_append, not_or] at he
    exact ⟨(g.other e he.2).1.trans (h.other e he.1).1, (g.other e he.2).2.trans (h.other e he.1).2⟩
  gain e := (g.gain e).trans (h.gain e)
  fits hf := g.fits (h.fits hf)

theorem State.shdStore_fits (s : State) (a : Nat) (v : Word) (h : s.pulseFits 226 = true) : (s.shdStore a v).pulseFits 226 = true := by
  unfold State.shdStore
  extract_lets x
  have hx : State.Frame (fun a _ => injReg a) (· = 38) s x := .ite (s.frame_eccWrite ..) (s.frame_eccWrite ..)
  have hf : x.pulseFits 226 = true := hx.fits 226 (by decide) (by decide) (by decide) h
  split <;> exact hf

theorem not_shdSide_calGain (e : Nat) : ¬ shdSide (Reg.CAL_GAIN e) ∧ sideReg (Reg.CAL_GAIN e) = false := by
  refine ⟨?_, ?_⟩
  · simp only [shdSide, injReg, Reg.CAL_GAIN, Reg.INJ_STAT, Reg.INJ_EADDR, Reg.INJ_CNT, Reg.SYS_SHDDIRTY, Reg.LE_CHECKSTAT]
    omega
  · simp only [sideReg, Reg.CAL_GAIN, Reg.TIM_CDCDROP, Reg.FLT_DROP, Reg.HST_RSVWR, Reg.CW_STAT, Bool.or_eq_false_iff,
      Bool.and_eq_false_iff, beq_eq_false_iff_ne, decide_eq_false_iff_not]
    omega

theorem State.calStore_stores (s : State) (e : Nat) (r : Int × Int) (other : Option Nat) : State.CalStores [e] s (s.calStore e r other) ∧
    (s.calStore e r other).srd (Reg.CAL_GAIN e) = word (code 32 r.1) ∧ (s.calStore e r other).srd (Reg.CAL_OFS e) = word (code 24 r.2) := by
  unfold State.calStore
  extract_lets base comp
  have hg := s.shdStore_set (Reg.CAL_GAIN e) (word (code 32 r.1))
  have ho := (s.shdStore (Reg.CAL_GAIN e) (word (code 32 r.1))).shdStore_set (Reg.CAL_OFS e) (word (code 24 r.2))
  have hb : ∀ e', base ≠ Reg.CAL_GAIN e' ∧ base ≠ Reg.CAL_OFS e' := fun e' => by
    simp only [base, Reg.CAL_GAIN, Reg.CAL_OFS]
    omega
  have hgo : ∀ e', Reg.CAL_GAIN e' ≠ Reg.CAL_OFS e := fun e' => by
    simp only [Reg.CAL_GAIN, Reg.CAL_OFS]
    omega
  refine ⟨⟨fun e' he => ?_, fun e' => ?_, fun h => ?_⟩, ?_, ?_⟩
  · have hee : e' ≠ e := fun h => he (h ▸ List.mem_cons_self)
    rw [State.srd_swr_ne _ _ _ _ (hb e').1, State.srd_swr_ne _ _ _ _ (hb e').2, ho.other _ (hgo e'),
      ho.other (Reg.CAL_OFS e') (by simp only [Reg.CAL_OFS]; omega), hg.other (Reg.CAL_GAIN e') (by simp only [Reg.CAL_GAIN]; omega),
      hg.other (Reg.CAL_OFS e') (by simp only [Reg.CAL_GAIN, Reg.CAL_OFS]; omega)]
    exact ⟨rfl, rfl⟩
  · obtain ⟨h1, h2⟩ := not_shdSide_calGain e'
    exact (ho.regs _ h1 h2).trans (hg.regs _ h1 h2)
  · exact State.shdStore_fits _ _ _ (State.shdStore_fits _ _ _ h)
  · rw [State.srd_swr_ne _ _ _ _ (hb e).1, ho.other _ (hgo e)]
    exact hg.same
  · rw [State.srd_swr_ne _ _ _ _ (hb e).2]
    exact ho.same

/-! ## CAL_AVERAGE_DONE -/

section
variable (s : State)

/-- The averages of the running phase are complete (R295). -/
def State.calDue : Bool := s.runs && decide (2 ^ s.calK ≤ s.meas.cal.n) && (!decide (s.calCh < 16) || decide (2 ^ s.calK ≤ s.meas.cal.nS))

/-- The means of the running phase: of the entry, and of the spare's. -/
def State.calMean : Int := cdiv s.meas.cal.sum (2 ^ s.calK : Nat)
def State.calMeanS : Int := cdiv s.meas.cal.sumS (2 ^ s.calK : Nat)

/-- What the law of R295 gives for the spare's entry, where the procedure has one. -/
def State.calSpare : Except Nat (Int × Int) :=
  if decide (s.calCh < 16) then calResult s.meas.cal.zS s.calMeanS s.meas.cal.ref else .ok (0, 0)

/-- The results in the shadow: of the entry, and of the spare's. -/
def State.calStored (a b : Int × Int) : State :=
  let x := s.calStore s.calCh a (if decide (s.calCh < 16) then some (32 + s.calCh) else none)
  if decide (s.calCh < 16) then x.calStore (32 + s.calCh) b (some s.calCh) else x

/-- READY, with its event. -/
def State.calReady (e : Nat) : State := (s.put Reg.CAL_STAT 31 28 4).raise (E.CAL_DONE (e % 256))

theorem State.calDue_of (hr : s.runs = true) (hn : 2 ^ s.calK ≤ s.meas.cal.n) (hs : s.calCh < 16 → 2 ^ s.calK ≤ s.meas.cal.nS) :
    s.calDue = true := by
  rw [State.calDue, hr, decide_eq_true hn, Bool.true_and, Bool.true_and]
  by_cases h : s.calCh < 16
  · rw [decide_eq_true (hs h), Bool.or_true]
  · rw [decide_eq_false h, Bool.not_false, Bool.true_or]

theorem State.exec_calAverage_zero (hd : s.calDue = true) (h1 : s.calState = 1) : exec .calAverageDone s =
    .next ((s.setCal { s.meas.cal with z := s.calMean, zS := s.calMeanS }).put Reg.CAL_STAT 31 28 2) := by
  change execCalAverageDone s = _
  rw [execCalAverageDone]
  refine (if_pos hd).trans ?_
  simp only [h1]
  rfl

section
variable (hd : s.calDue = true) (h3 : s.calState = 3) (hc : s.commit = none)
include hd h3 hc

theorem State.exec_calAverage_stored {a b : Int × Int} (ha : calResult s.meas.cal.z s.calMean s.meas.cal.ref = .ok a)
    (hb : s.calSpare = .ok b) : exec .calAverageDone s = .next ((s.calStored a b).calReady s.calCh) := by
  rw [State.calMean] at ha
  rw [State.calSpare, State.calMeanS] at hb
  change execCalAverageDone s = _
  rw [execCalAverageDone]
  refine (if_pos hd).trans ?_
  simp only [h3, hc, Option.any_none, Bool.false_eq_true, if_false, ha, hb]
  rfl

theorem State.exec_calAverage_failed {x : Nat} (hx : calResult s.meas.cal.z s.calMean s.meas.cal.ref = .error x) :
    exec .calAverageDone s = .next (s.calError x) := by
  rw [State.calMean] at hx
  change execCalAverageDone s = _
  rw [execCalAverageDone]
  refine (if_pos hd).trans ?_
  simp only [h3, hc, Option.any_none, Bool.false_eq_true, if_false, hx]

end

theorem State.calStored_shows (a b : Int × Int) : ∃ es, State.CalStores es s (s.calStored a b) ∧
    (s.calStored a b).srd (Reg.CAL_GAIN s.calCh) = word (code 32 a.1) ∧ (s.calStored a b).srd (Reg.CAL_OFS s.calCh) = word (code 24 a.2) := by
  unfold State.calStored
  extract_lets x
  obtain ⟨h1, hg, ho⟩ := s.calStore_stores s.calCh a (if decide (s.calCh < 16) then some (32 + s.calCh) else none)
  by_cases h : s.calCh < 16
  · obtain ⟨h2, -, -⟩ := x.calStore_stores (32 + s.calCh) b (some s.calCh)
    obtain ⟨k1, k2⟩ := h2.other s.calCh (by simp)
    rw [if_pos (decide_eq_true h)]
    exact ⟨_, h1.trans h2, k1.trans hg, k2.trans ho⟩
  · rw [if_neg (by rw [decide_eq_false h]; decide)]
    exact ⟨_, h1, hg, ho⟩

theorem State.calReady_shows (e : Nat) : (s.calReady e).calState = 4 ∧ (s.calReady e).shadow = s.shadow ∧
    (∀ i, (s.calReady e).rd (Reg.CAL_GAIN i) = s.rd (Reg.CAL_GAIN i)) ∧ Raised s (s.calReady e) (E.CAL_DONE (e % 256)) := by
  refine ⟨?_, ?_, fun i => ?_, ?_⟩
  · rw [State.calState, State.fld, State.calReady, State.raise_rd _ _ _ (by decide : 226 < 256) (by decide)]
    exact State.fld_put _ _ 31 28 _ (by decide)
  · exact State.raise_shadow _ _
  · have h := (not_shdSide_calGain i).2
    rw [State.calReady, State.raise_rd _ _ _ (by decide : 226 < 256) (sideReg_cross h),
      State.rd_put_ne _ _ _ _ _ _ (by simp only [Reg.CAL_STAT, Reg.CAL_GAIN]; omega)]
  · exact State.Frame.raisedAfter (R := fun _ _ => False) (E := fun _ => False) (.refl s) _ rfl id (by decide : 226 ≠ 1)
      (by decide : 226 ≠ 35)

end

/-! ## CAL_STALE_TIMEOUT and CAL_RECORD_WRITE_DONE -/

theorem State.exec_calStale {s : State} (hr : s.runs = true) (hc : s.calRuns = true) : exec .calStaleTimeout s = .next (s.calError 4) :=
  if_pos (by rw [hr, hc]; rfl)

section
variable (s : State)

/-- The oldest record leaves the waiting list; where it is the last of its entry, the entry no longer waits (R297). -/
def State.calShift (r : CalRec) (rest : List CalRec) : State :=
  let x := ({ s with meas := { s.meas with calPend := rest } } : State).put Reg.CAL_NVSTAT 15 0 rest.length
  if rest.any (fun x => x.entry == r.entry) then x else x.setBit (Reg.CAL_INFO r.entry) 2 false

theorem State.exec_calRecord {r : CalRec} {rest : List CalRec} (hp : s.meas.calPend = r :: rest) (ha : s.awake = true) (ok : Bool) :
    exec (.calRecordWriteDone ok) s = .next (if ok then
      { s.calShift r rest with meas := { (s.calShift r rest).meas with store := storeCopy r (s.calShift r rest).meas.store } }
      else ((s.calShift r rest).bump Reg.CAL_NVSTAT 31 16 1).fault 15 (r.entry % 128) (copyOf s.meas.store r.entry)) := by
  change execCalRecordWriteDone ok s = _
  simp only [execCalRecordWriteDone, hp, ha, Bool.not_true, Bool.false_eq_true, if_false]
  cases ok <;> rfl

theorem State.calShift_shows (r : CalRec) (rest : List CalRec) : (s.calShift r rest).meas = { s.meas with calPend := rest } ∧
    (s.calShift r rest).fld Reg.CAL_NVSTAT 31 16 = s.fld Reg.CAL_NVSTAT 31 16 ∧ (s.calShift r rest).flt = s.flt ∧
    State.Frame (fun a _ => a = Reg.CAL_NVSTAT ∨ a = Reg.CAL_INFO r.entry) (fun _ => False) s (s.calShift r rest) := by
  have h0 : State.Frame (fun a _ => a = Reg.CAL_NVSTAT ∨ a = Reg.CAL_INFO r.entry) (fun _ => False) s
      { s with meas := { s.meas with calPend := rest } } := .of rfl
  have h1 := h0.put Reg.CAL_NVSTAT 15 0 rest.length (fun _ _ _ _ => .inl rfl)
  have hf : (({ s with meas := { s.meas with calPend := rest } } : State).put Reg.CAL_NVSTAT 15 0 rest.length).fld Reg.CAL_NVSTAT 31 16 =
      s.fld Reg.CAL_NVSTAT 31 16 := State.fld_put_disj _ _ 15 0 _ 31 16 (by decide) (.inr (by decide))
  unfold State.calShift
  extract_lets x
  split
  · exact ⟨rfl, hf, rfl, h1⟩
  · refine ⟨rfl, ?_, rfl, h1.setBit _ _ _ (.inr rfl)⟩
    rw [State.fld, State.rd_setBit_ne _ _ _ _ _ (by simp only [Reg.CAL_INFO, Reg.CAL_NVSTAT]; omega)]
    exact hf

theorem State.calRecord_completes {r : CalRec} (hp : r ∈ s.meas.calPend.head?) (hr : s.runs = true) :
    Completes (.calRecordWriteDone true) s (fun t => t.meas.calPend = s.meas.calPend.tail ∧ t.meas.store = storeCopy r s.meas.store ∧
      Keeps s t [Reg.CAL_NVSTAT, Reg.CAL_INFO r.entry]) ∧
    Completes (.calRecordWriteDone false) s (fun t => t.meas.calPend = s.meas.calPend.tail ∧ t.meas.store = s.meas.store ∧
      t.fld Reg.CAL_NVSTAT 31 16 = min (s.fld Reg.CAL_NVSTAT 31 16 + 1) 0xFFFF ∧
      (s.flt.inq.length < 256 → Reported t 15 (r.entry % 128) (copyOf s.meas.store r.entry)) ∧
      Keeps s t [Reg.CAL_NVSTAT, Reg.CAL_INFO r.entry]) := by
  obtain ⟨rest, hq⟩ : ∃ rest, s.meas.calPend = r :: rest := ⟨_, (List.eq_cons_of_mem_head? hp)⟩
  have hx := s.exec_calRecord hq (State.awake_of_runs hr)
  obtain ⟨hm, hv, hflt, hf⟩ := s.calShift_shows r rest
  generalize s.calShift r rest = x at hx hm hv hflt hf
  have hw : ∀ a i, (fun a (_ : Nat) => a = Reg.CAL_NVSTAT ∨ a = Reg.CAL_INFO r.entry) a i → a ∈ [Reg.CAL_NVSTAT, Reg.CAL_INFO r.entry] :=
    fun a i h => by simpa using h
  rw [hq]
  refine ⟨⟨_, hx true, ?_, ?_, (hf.trans (.of rfl)).keeps hw⟩, ⟨_, hx false, ?_, ?_, ?_, fun h => ?_, ?_⟩⟩
  · simp only [if_true, hm, List.tail_cons]
  · simp only [if_true, hm]
  · simp only [Bool.false_eq_true, if_false, State.fault_meas]
    exact congrArg (·.calPend) hm
  · simp only [Bool.false_eq_true, if_false, State.fault_meas]
    exact congrArg (·.store) hm
  · simp only [Bool.false_eq_true, if_false]
    rw [State.fld, State.fault_rd _ _ _ _ _ (by decide) (by decide), ← hv]
    exact State.fld_bump x Reg.CAL_NVSTAT 31 16 1 (by decide)
  · simp only [Bool.false_eq_true, if_false]
    exact (State.fault_reported _ _ _ _ (.inl (by rw [← hflt] at h; exact h)))
  · simp only [Bool.false_eq_true, if_false]
    exact ((hf.bump _ _ _ _ (fun _ _ _ _ => .inl rfl)).fault _ _ _).keeps hw

end

theorem except_of_toOption {α : Type} {x : Except Nat α} {a : α} (h : x.toOption = some a) : x = .ok a := by
  cases x with
  | error e => cases h
  | ok b =>
    cases h
    rfl

/-- Settles O38: CAL_CMD through the write of a requester, READY through the two shadow stores, each end by its own outcome. -/
theorem calibration : Obligations.Calibration := by
  unfold Obligations.Calibration
  refine ⟨fun p v s hr hf => ?_, fun s hr => ?_⟩
  · have hw := fun n => hostWrite_calCmd hr hf v n
    obtain ⟨ho1, he1⟩ := fieldOf_calCmd v (n := 1) (by decide)
    obtain ⟨ho2, he2⟩ := fieldOf_calCmd v (n := 2) (by decide)
    obtain ⟨ho3, -⟩ := fieldOf_calCmd v (n := 3) (by decide)
    have he : fieldOf v 8 0 < 512 := fieldOf_lt ..
    refine ⟨fun hd hc => ?_, fun hd hst hc => ?_, fun hd hc => ?_, fun hn ht hc => ?_, ?_⟩
    · have h := hw 1
      rw [s.calCmd_zero ho1 (by rw [he1]; exact hd) (by rw [he1]; rcases hc with hc | hc <;> simp [hc]), he1] at h
      obtain ⟨k1, k2⟩ := fieldOf_calStat (n := 1) (by decide) he
      have hst : ∀ t : State, t.Counted ((s.setCal { s.meas.cal.started with z := 0, zS := 0 }).wrN Reg.CAL_STAT (1 * 2 ^ 28 + fieldOf v 8 0)) →
          t.rd Reg.CAL_STAT = word (1 * 2 ^ 28 + fieldOf v 8 0) := fun t ht => (ht.rd (by decide)).trans (State.rd_wrN_same _ _ _)
      have hm := h.same (·.meas.cal) (fun _ _ => rfl)
      refine ⟨_, rfl, ?_, ?_, ?_, ?_, ?_, h.keeps (s.keeps_calStat _ _)⟩
      · rw [State.calState, State.fld, hst _ h, k1]
      · rw [State.calCh, State.fld, hst _ h, k2]
      · rw [hm]; rfl
      · rw [hm]; rfl
      · rw [hm]; rfl
    · have h := hw 2
      rw [s.calCmd_fs ho2 (by rw [he2]; exact hd) hst (by rw [he2]; exact hc), he2] at h
      obtain ⟨k1, k2⟩ := fieldOf_calStat (n := 3) (by decide) he
      have hrd := (h.rd (a := Reg.CAL_STAT) (by decide)).trans (State.rd_wrN_same _ _ _)
      have hm := h.same (·.meas.cal) (fun _ _ => rfl)
      refine ⟨_, rfl, ?_, ?_, ?_, ?_, ?_, h.keeps (s.keeps_calStat _ _)⟩
      · rw [State.calState, State.fld, hrd, k1]
      · rw [State.calCh, State.fld, hrd, k2]
      · rw [hm]; rfl
      · rw [hm]; rfl
      · rw [hm]; rfl
    · have h := hw 2
      have hx : s.CalFailed 1 (s.calCmd (withOp v 2 &&& word 0xF00001FF)) := by
        rcases hc with ⟨hrun, hc⟩ | ⟨hrun, hc⟩
        · rw [s.calCmd_fs_idle ho2 (by rw [he2]; exact hd) hrun (by rw [he2]; exact hc)]
          exact s.calDeny_failed hrun (by decide)
        · rw [s.calCmd_fs_running ho2 (by rw [he2]; exact hd) hrun (by rw [he2]; exact hc)]
          exact s.calError_failed 1
      refine ⟨_, rfl, ?_, ?_, (h.same (·.meas) (fun _ _ => rfl)).trans hx.meas, h.keeps hx.keeps⟩
      · rw [State.calState, State.fld, h.rd (by decide)]
        exact hx.state
      · rw [State.fld, h.rd (by decide)]
        exact hx.code
    · have h := hw 1
      have hd : s.calRefusal (fieldOf (withOp v 1 &&& word 0xF00001FF) 8 0) = some 5 := by
        simp only [State.calRefusal, hn, ht, Bool.false_eq_true, if_false, Bool.not_false, if_true]
      rw [s.calCmd_zero_refused ho1 hd] at h
      obtain ⟨k1, k2, k3, k4, k5⟩ := s.calDeny_busy (e := fieldOf (withOp v 1 &&& word 0xF00001FF) 8 0) hc
      refine ⟨_, rfl, ?_, ?_, h.raised k3, (h.same (·.meas) (fun _ _ => rfl)).trans k4, h.keeps k5⟩
      · rw [State.calState, State.fld, h.rd (by decide)]
        exact k1
      · rw [State.fld, h.rd (by decide)]
        exact k2
    · have h := hw 3
      rw [s.calCmd_abort ho3] at h
      refine ⟨_, rfl, ?_, h.same (·.meas) (fun _ _ => rfl), h.keeps (s.keeps_calStat s.meas.cal 0)⟩
      exact (h.rd (by decide)).trans (State.rd_wrN_same _ _ _)
  · refine ⟨fun hn hs h1 => ?_, fun r hres hn hs h3 hc hsp => ?_, fun x hx hn hs h3 hc => ?_, fun hc => ?_,
      fun r hp => s.calRecord_completes hp hr⟩
    · refine ⟨_, s.exec_calAverage_zero (s.calDue_of hr hn hs) h1, ?_, rfl, rfl, ?_, ?_⟩
      · exact State.fld_put _ _ 31 28 _ (by decide)
      · exact State.fld_put_disj _ _ 31 28 _ 8 0 (by decide) (.inl (by decide))
      · exact .of (fun a ha _ => State.rd_put_ne _ _ _ _ _ _ (fun h => ha (h ▸ List.mem_cons_self))) rfl rfl
    · have ha : calResult s.meas.cal.z s.calMean s.meas.cal.ref = .ok r := except_of_toOption hres
      obtain ⟨b, hb⟩ : ∃ b, s.calSpare = .ok b := by
        by_cases hlt : s.calCh < 16
        · rw [State.calSpare, if_pos (decide_eq_true hlt)]
          obtain ⟨b, hb⟩ := Option.isSome_iff_exists.mp (hsp.resolve_left (by omega))
          exact ⟨b, except_of_toOption hb⟩
        · exact ⟨_, if_neg (by rw [decide_eq_false hlt]; decide)⟩
      obtain ⟨es, hst, hg, ho⟩ := s.calStored_shows r b
      obtain ⟨k1, k2, k3, k4⟩ := (s.calStored r b).calReady_shows s.calCh
      refine ⟨_, s.exec_calAverage_stored (s.calDue_of hr hn hs) h3 hc ha hb, k1, ?_, ?_, (k3 _).trans (hst.gain _), fun hfit => ?_⟩
      · rw [State.srd, k2]
        exact hg
      · rw [State.srd, k2]
        exact ho
      · exact k4 (hst.fits hfit)
    · obtain ⟨k1, k2, -, k4⟩ := s.calError_failed x
      refine ⟨_, s.exec_calAverage_failed (s.calDue_of hr hn hs) h3 hc hx, k1, k2, s.calError_raised x, (s.calError_failed x).keeps⟩
    · obtain ⟨k1, k2, -, -⟩ := s.calError_failed 4
      exact ⟨_, State.exec_calStale hr hc, k1, k2, s.calError_raised 4, (s.calError_failed 4).keeps⟩

end Sys2Proof.Machine
end

section
/-!
PROOFS. What a delivered sample leaves alone: the registers of the converters, their channels, the rotation and the sequences.
-/

namespace Sys2Proof.Machine

/-- The channels, the rotation's record, the places of the sequences and the path tests. -/
def State.measured (s : State) := (s.chans, s.meas.rot, s.meas.seqIdx, s.meas.tst)

/-- The registers outside those of the converters, the rotation and the sequencers (R312). -/
def beyondAdc (a : Nat) : Prop := a < 0x3C00 ∨ 0x3C58 ≤ a

/-- From `s` to `t` neither the registers of the converters nor what a result goes by have changed. -/
structure State.Sampled (s t : State) : Prop where
  frame : State.Frame (fun a _ => beyondAdc a) (fun _ => True) s t
  kept : t.measured = s.measured

namespace State.Sampled

variable {s t u : State}

theorem refl (s : State) : s.Sampled s := ⟨.refl s, rfl⟩

theorem trans (h : s.Sampled t) (g : t.Sampled u) : s.Sampled u := ⟨h.frame.trans g.frame, g.kept.trans h.kept⟩

theorem ite {p : Prop} [Decidable p] (ht : s.Sampled t) (hu : s.Sampled u) : s.Sampled (if p then t else u) := by
  split
  · exact ht
  · exact hu

theorem foldl {α : Type} (f : State → α → State) (l : List α) (hf : ∀ (s : State), ∀ x ∈ l, s.Sampled (f s x)) (s : State) :
    s.Sampled (l.foldl f s) := by
  induction l generalizing s with
  | nil => exact .refl s
  | cons a l ih => exact (hf s a List.mem_cons_self).trans (ih (fun s x hx => hf s x (List.mem_cons_of_mem _ hx)) _)

/-- An update of parts that neither a frame nor a result speaks of. -/
theorem of (hf : t.frameParts = s.frameParts) (hk : t.measured = s.measured) : s.Sampled t := ⟨.of hf, hk⟩

theorem shaped (hf : State.Frame (fun a _ => beyondAdc a) (fun _ => True) s t) (h : s.Shaped t) : s.Sampled t := ⟨hf, by rw [h]; rfl⟩

theorem edged (h : s.Edged t) : s.Sampled t := ⟨h.frame, by rw [h]; rfl⟩

theorem parts (hf : State.Frame (fun a _ => beyondAdc a) (fun _ => True) s t) (h : s.StageParts t) : s.Sampled t := ⟨hf, by rw [h]; rfl⟩

theorem fault (h : s.Sampled t) (k i a : Nat) : s.Sampled (t.fault k i a) :=
  h.trans (.parts (.fault (.refl t) ..) (.sendFault (.refl t) _))

theorem raise (h : s.Sampled t) (e : Ev) (he : e.src < 256) : s.Sampled (t.raise e) :=
  h.trans (.parts (.raise (.refl t) _ he (.inl trivial)) (.raise (.refl t) _))

theorem put (h : s.Sampled t) (a hi lo v : Nat) (ha : beyondAdc a) : s.Sampled (t.put a hi lo v) :=
  h.trans ⟨.put (.refl t) _ _ _ _ (fun _ _ _ _ => ha), rfl⟩

theorem onSg (h : s.Sampled t) (k : Nat) (f : StgSt → StgSt) : s.Sampled (t.onSg k f) := h.trans (.of rfl rfl)

end State.Sampled

/-! ## Registers of stages, phases and feeders -/

theorem beyondAdc_phase {a : Nat} (h : phaseReg a) : beyondAdc a := by
  simp only [phaseReg, beyondAdc] at h ⊢
  omega

theorem beyondAdc_shape {a : Nat} (h : shapeReg a) : beyondAdc a := by
  rcases h with h | h | h | h | h
  · simp only [beyondAdc]
    omega
  · exact beyondAdc_phase h
  all_goals
    subst h
    exact .inl (by decide)

theorem beyondAdc_stage {k a i : Nat} (h : stageReg k a i) : beyondAdc a := by
  rcases h with h | h | h | h | h
  · exact beyondAdc_phase h
  · subst h
    simp only [beyondAdc, Reg.ST_STAT]
    omega
  · exact h.1 ▸ .inl (by decide)
  all_goals
    subst h
    exact .inl (by decide)

section
variable (s : State)

/-! ## The actions of a routing word (R307) -/

theorem State.sampled_stageFaultSafe (k cause : Nat) (fwd : Bool) : s.Sampled (s.stageFaultSafe k cause fwd) :=
  .parts (s.frame_stageFaultSafe (fun _ _ h => beyondAdc_stage h) trivial ..) (s.parts_stageFaultSafe ..)

theorem State.sampled_stageFaultCheck (k : Nat) : s.Sampled (s.stageFaultCheck k) :=
  .ite (.trans (.fault (.refl s) ..) (.parts (State.frame_shapeSafe (fun _ _ h => beyondAdc_shape h) _ trivial ..) (State.parts_stageSafe ..)))
    (.refl s)

theorem State.sampled_setActiveFrom (k : Nat) (fresh force : Bool) : s.Sampled (s.setActiveFrom k fresh force) :=
  .shaped (State.frame_setActiveFrom (fun _ _ h => beyondAdc_shape h) _ trivial ..) (s.shaped_setActiveFrom ..)

theorem State.sampled_reform (k : Nat) (relen : Bool) : s.Sampled (s.reform k relen) :=
  .shaped (State.frame_reform (fun _ _ h => beyondAdc_shape h) _ trivial ..) (s.shaped_reform ..)

theorem State.sampled_phaseForce {i : Nat} (hi : i < 128) : s.Sampled (s.phaseForce i) := by
  have hf : s.Sampled (s.forcePhases [i] 11) :=
    .parts (s.frame_forcePhases (fun _ _ h => beyondAdc_phase h) _ (fun _ h => List.mem_singleton.mp h ▸ hi) _) (s.parts_forcePhases ..)
  exact .ite hf ((hf.trans (State.sampled_setActiveFrom ..)).trans (State.sampled_stageFaultCheck ..))

theorem State.sampled_noteEdge {i : Nat} (hi : i < 128) (ev t : Nat) : s.Sampled (s.noteEdge i ev t) :=
  .parts (s.frame_noteEdge (fun _ _ h => beyondAdc_phase h) hi ..) (s.parts_noteEdge ..)

theorem State.parts_reflexPhases (act : Nat) (is : List Nat) : s.StageParts (s.reflexPhases act is) :=
  .foldl _ (fun s n => .ite (.refl s) (s.parts_sendReflex ..)) _ _

theorem State.sampled_phaseOff {i : Nat} (hi : i < 128) : s.Sampled (s.phaseOff i) := by
  unfold State.phaseOff
  extract_lets t cut due s1 _ dt s2
  have h0 : s.Sampled (cut.foldl (fun s p => s.unplace i p) s) := .foldl _ _ (fun s p _ => .edged (s.edged_unplace i p)) s
  have h1 : s.Sampled s1 := h0.trans (State.sampled_noteEdge _ hi ..)
  refine .ite (h1.trans (.of rfl rfl)) (h1.trans ?_)
  exact .parts (State.frame_reflexPhases _ (fun _ _ h => beyondAdc_phase h) ..) (State.parts_reflexPhases ..)

theorem State.sampled_fdrSendHead (f : Nat) : s.Sampled (s.fdrSendHead f) := by
  refine ⟨s.frame_fdrSendHead f, ?_⟩
  unfold State.fdrSendHead
  extract_lets d n v a acc x
  split
  · rfl
  · rfl

theorem State.sampled_tripAgain {f : Nat} (hf : f < 64) (cause : Nat) : s.Sampled (s.tripAgain f cause) := by
  refine ⟨s.frame_tripAgain (fun _ _ => by simp only [beyondAdc, Reg.FDR_CTL]; omega) cause, ?_⟩
  unfold State.tripAgain
  split
  · rfl
  · rfl

theorem State.sampled_tripState {f : Nat} (hf : f < 64) (cause : Nat) (fwd : Bool) : s.Sampled (s.tripState f cause fwd) := by
  refine ⟨s.frame_tripState hf (fun _ _ => by simp only [beyondAdc, Reg.FDR_CTL]; omega) trivial cause fwd, ?_⟩
  unfold State.tripState
  split
  · extract_lets st s1 s2 s3 s4
    have h3 : s3.measured = s.measured := rfl
    have h4 : s3.StageParts s4 := State.StageParts.ofRaiseWith ..
    refine ((State.sampled_fdrSendHead _ f).kept.trans ?_).trans h3
    have h5 := h4.sendFault (s4.faultMsg 12 (fltKindWord 12 / 65536 % 4) (fltKindWord 12 / 1048576 % 8) f cause)
    exact h5.same State.measured (fun _ _ _ _ _ _ _ _ => rfl)
  · exact (s.sampled_tripAgain hf cause).kept

theorem State.sampled_tripReflex {f : Nat} (hf : f < 64) (cause : Nat) (fwd : Bool) : s.Sampled (s.tripReflex f cause fwd) :=
  .ite ((s.sampled_tripState hf cause fwd).trans
    (.parts (State.frame_sendReflex _ (fun _ _ h => beyondAdc_phase h) (State.fdrLink_lt ..) ..) (State.parts_sendReflex ..)))
    (s.sampled_tripAgain hf cause)

theorem State.sampled_actOn (act tgt addr : Nat) (repeated : Bool) : s.Sampled (s.actOn act tgt addr repeated) := by
  unfold State.actOn
  split
  · split
    next h =>
      rw [Bool.and_eq_true, decide_eq_true_eq] at h
      exact s.sampled_phaseOff h.1
    · exact .refl s
  · refine .ite (.refl s) ?_
    split
    next h =>
      rw [Bool.and_eq_true, decide_eq_true_eq] at h
      exact (State.Sampled.fault (.refl s) ..).trans (State.sampled_phaseForce _ h.1)
    · exact .refl s
  · refine .ite (.refl s) ?_
    split
    next h => exact s.sampled_tripReflex h ..
    · exact .refl s
  · exact .ite (.refl s) (.ite ((State.Sampled.fault (.refl s) ..).trans (State.sampled_stageFaultSafe ..)) (.refl s))
  · exact .refl s

theorem State.sampled_routeAct (route : Word) (addr : Nat) (repeated : Bool) : s.Sampled (s.routeAct route addr repeated) := by
  unfold State.routeAct
  extract_lets tgt act r l m x
  have hx : s.Sampled x := .of rfl rfl
  exact .ite (.refl s) (hx.trans (State.sampled_actOn ..))

/-! ## The consumers of a sample (R293, R300, R306) -/

theorem State.sampled_wmSet {m : Nat} (hm : m < 128) (st n : Nat) (up : Bool) : s.Sampled (s.wmSet m st n up) := by
  have h : State.Frame (fun a _ => beyondAdc a) (fun _ => True) s (s.wrN (Reg.WM_STAT m) (st + 256 * n)) :=
    .wrN (.refl s) _ _ (fun _ _ => by simp only [beyondAdc, Reg.WM_STAT]; omega)
  exact ⟨h.trans (.of rfl), rfl⟩

theorem State.sampled_wmSample {m : Nat} (hm : m < 128) (v : Int) : s.Sampled (s.wmSample m v) := by
  unfold State.wmSample
  extract_lets lo hi hys up dn st n route clear count s1 s2 s3 s4
  clear_value st
  have hc : ∀ x : State, x.Sampled (clear x) := fun x => .ite (.raise (.refl x) _ (by decide : 229 < 256)) (.refl x)
  split
  · have h1 : s.Sampled s1 := s.sampled_wmSet hm ..
    have h2 : s.Sampled s2 := .ite (h1.trans (hc _)) h1
    exact .ite (h2.trans (State.sampled_routeAct ..)) h2
  · have h3 : s.Sampled s3 := s.sampled_wmSet hm ..
    have h4 : s.Sampled s4 := .ite (h3.trans (hc _)) h3
    exact .ite (h4.trans (State.sampled_routeAct ..)) h4
  · exact .ite (s.sampled_wmSet hm ..) (.ite (s.sampled_wmSet hm ..) (s.sampled_wmSet hm ..))

theorem State.sampled_energySample (e : Nat) (y : Int) (at_ : Nat) : s.Sampled (s.energySample e y at_) := by
  refine .foldl _ _ (fun s a _ => ?_) s
  extract_lets w x ek
  have hx : s.Sampled x := .ite (.of rfl rfl) (.refl s)
  exact .ite (.ite (hx.trans (.of rfl rfl)) hx) (.refl s)

theorem State.sampled_calSample (e : Nat) (r : Int) (spare : Bool) : s.Sampled (s.calSample e r spare) := .ite (.of rfl rfl) (.refl s)

theorem State.sampled_fdrCurrent (f : Nat) (v : Int) : s.Sampled (s.fdrCurrent f v) := .ite (.of rfl rfl) (.refl s)
theorem State.sampled_fdrVoltage (f : Nat) (v : Int) : s.Sampled (s.fdrVoltage f v) := .ite (.of rfl rfl) (.refl s)

theorem State.sampled_fdrSample (e : Nat) (v : Int) : s.Sampled (s.fdrSample e v) :=
  .foldl _ _ (fun s f _ => .ite (.ite (s.sampled_fdrCurrent f v) (.ite (s.sampled_fdrVoltage f v) (.refl s))) (.refl s)) s

theorem State.sampled_inputSample (e : Nat) (v : Int) : s.Sampled (s.inputSample e v) := by
  unfold State.inputSample
  extract_lets lo hi bad x low src
  have hx : s.Sampled x := by
    refine .foldl _ _ (fun s m _ => ?_) s
    exact .ite (.of rfl rfl) (.refl s)
  exact .ite (hx.trans (.of rfl rfl)) hx

theorem beyondAdc_stStat (k : Nat) : beyondAdc (Reg.ST_STAT k) := by
  simp only [beyondAdc, Reg.ST_STAT]
  omega

theorem State.sampled_startSpur {k : Nat} (hk : k < 32) : s.Sampled (s.startSpur k) := by
  unfold State.startSpur
  extract_lets ts p t n x y
  have hx : s.Sampled x := by
    refine .foldl _ _ (fun s i _ => ?_) s
    refine State.Sampled.trans (.parts (s.frame_discardEdges i) (s.parts_discardEdges i)) (.foldl _ _ (fun s m _ => ?_) _)
    exact .ite (.refl s) (.edged (s.edged_addPulse ..))
  have hy : s.Sampled y := hx.trans (.of rfl rfl)
  have hr := (hy.trans (y.sampled_reform k false)).put (Reg.ST_STAT k) 29 28 1 (beyondAdc_stStat k)
  exact (hr.put (Reg.ST_SPURCNT k) 15 0 _ (by simp only [beyondAdc, Reg.ST_SPURCNT]; omega)).raise _ (by decide : 102 < 256)

theorem State.sampled_releaseSpur (k : Nat) : s.Sampled (s.releaseSpur k) := by
  unfold State.releaseSpur
  extract_lets last x te y z
  have hx : s.Sampled x := by
    refine .foldl _ _ (fun s i _ => ?_) s
    extract_lets dead w
    refine State.Sampled.trans (t := w) (.edged (.foldl _ (fun s p => ?_) _ _)) (.of rfl rfl)
    extract_lets v
    have hv : s.Edged v := by
      simp only [v]
      split
      · exact s.edged_removeEdge ..
      · exact .refl s
    split
    · exact hv.trans (State.edged_removeEdge ..)
    · exact hv
  have hy : s.Sampled y := hx.trans (.of rfl rfl)
  have hz : s.Sampled z := hy.trans (.edged (.foldl _ (fun s p => s.edged_placePeriod ..) _ _))
  exact hz.trans (z.sampled_reform k false)

theorem State.sampled_spurTest {k : Nat} (hk : k < 32) (v : Int) : s.Sampled (s.spurTest k v) := by
  unfold State.spurTest
  extract_lets g dv trig x
  have hx : s.Sampled x := .of rfl rfl
  refine .ite ?_ hx
  split
  · exact .ite (hx.trans (x.sampled_startSpur hk)) hx
  · exact .ite (hx.trans (x.sampled_releaseSpur k)) hx
  · exact hx

/-! ## A read of a protected word -/

theorem State.measured_eccUnc (region addr : Nat) : (s.eccUnc region addr).measured = s.measured := by
  have hf : ∀ k i a, (s.fault k i a).measured = s.measured := fun k i a => (State.Sampled.fault (.refl s) k i a).kept
  have hfrom : ∀ k src i a b, (s.faultFrom k src i a b).measured = s.measured := fun k src i a b =>
    (State.StageParts.sendFault (.refl s) _).same State.measured (fun _ _ _ _ _ _ _ _ => rfl)
  unfold State.eccUnc
  split
  · extract_lets c x
    have hx : x.measured = s.measured := hf 7 0 addr
    refine (foldl_part State.measured _ (fun s k => ?_) _ x).trans hx
    exact ite_part State.measured (s.sampled_stageFaultSafe ..).kept rfl
  · exact (State.sampled_stageFaultSafe _ _ _ _).kept.trans (hf ..)
  · exact ite_part State.measured rfl (hf ..)
  · exact hf ..
  · exact hf ..
  · exact hfrom ..

theorem State.measured_eccTake (x : EccFlip) (scrub : Bool) : (s.eccTake x scrub).measured = s.measured := by
  have hn : (s.eccNote x.region x.addr x.bits scrub).measured = s.measured := ite_part State.measured rfl rfl
  unfold State.eccTake
  refine ite_part State.measured ((State.measured_eccUnc _ _ _).trans hn) ?_
  refine ((State.StageParts.sendFault (.refl _) _).same State.measured (fun _ _ _ _ _ _ _ _ => rfl)).trans ?_
  exact hn

theorem beyondAdc_eccRead {a i : Nat} (h : eccReadReg a i) : beyondAdc a := by
  rcases h with (h | h | h) | ⟨k, h⟩
  · subst h
    exact .inl (by decide)
  · subst h
    exact .inl (by decide)
  · subst h
    exact .inl (by decide)
  · exact beyondAdc_stage h

theorem State.sampled_eccTouch (region addr : Nat) : s.Sampled (s.eccTouch region addr) :=
  ⟨(s.frame_eccTouch region addr).mono (fun _ _ h => beyondAdc_eccRead h) (fun _ _ => trivial),
    foldl_part State.measured (fun s x => s.eccTake x false) (fun s x => s.measured_eccTake x false) _ s⟩

theorem State.sampled_traceDue (u : Nat) : s.Sampled (s.traceDue u) := .ite (.of rfl rfl) (.refl s)

theorem State.sampled_traceDelivery (e : Nat) : s.Sampled (s.traceDelivery e) :=
  .foldl _ _ (fun s u _ => .ite (s.sampled_traceDue u) (.refl s)) s

/-! ## A delivery (R293) -/

/-- The registers that a delivery may change: none of the converters' but those of the overranges and of a path test. -/
def deliverReg (a : Nat) : Prop := beyondAdc a ∨ a = Reg.ADC_PSTAT ∨ a = Reg.ADC_FSTAT

/-- From `s` to `t` the converters' registers, the rotation and the sequences are as before, and no overrange bit went off. -/
structure State.Delivers (s t : State) : Prop where
  frame : State.Frame (fun a _ => deliverReg a) (fun _ => True) s t
  held : ∀ i < 32, s.bit Reg.ADC_PSTAT i = true → t.bit Reg.ADC_PSTAT i = true
  rot : t.meas.rot = s.meas.rot
  seqIdx : t.meas.seqIdx = s.meas.seqIdx

variable {s} in
theorem State.Delivers.trans {t u : State} (h : s.Delivers t) (g : t.Delivers u) : s.Delivers u :=
  ⟨h.frame.trans g.frame, fun i hi ho => g.held i hi (h.held i hi ho), g.rot.trans h.rot, g.seqIdx.trans h.seqIdx⟩

variable {s} in
theorem State.Sampled.delivers {t : State} (h : s.Sampled t) : s.Delivers t where
  frame := h.frame.mono (fun _ _ h => .inl h) (fun _ h => h)
  held i hi ho := by
    rw [State.bit, h.frame.rd (fun _ _ h => by rcases h with h | h <;> revert h <;> decide) (by decide)]
    exact ho
  rot := congrArg (·.2.1) h.kept
  seqIdx := congrArg (·.2.2.1) h.kept

/-- The state in which a delivery begins: its coefficients have been read, and a clamped value has set its bit. -/
def State.deliverFrom (s : State) (ce : Nat) (ovr : Bool) : State :=
  let s := s.eccTouch 3 (Reg.CAL_GAIN ce)
  if ovr then s.setOvr ce else s

/-- What a fresh value `y` of entry `e` does once it is in the fabric. -/
def State.consume (s : State) (e : Nat) (y r : Int) (at_ : Nat) (spare : Bool) : State :=
  let v := toY16 y
  let s := { s with fine := vset s.fine e y }
  let s := if spare then s else s.calSample e r false
  let x := (vget s.stat e StatSt.initial).add y spare
  let s := { s with stat := vset s.stat e x }
  let s := s.energySample e y at_
  if s.halted then s
  else
    let s := (List.range 128).foldl (fun s m =>
      if s.bit (Reg.WM_CFG m) 31 && s.fld (Reg.WM_CFG m) 8 0 == e then s.wmSample m v else s) s
    let s := s.fdrSample e v
    let s := (List.range 32).foldl (fun s k =>
      if s.bit (Reg.ST_CFG k) 31 && s.fld (Reg.ST_VCH k) 8 0 == e then s.spurTest k v else s) s
    s.inputSample e v

theorem State.deliver_eq (e ce : Nat) (r : Int) (at_ gap : Nat) (spare : Bool) : s.deliver e ce r at_ gap spare =
    if (s.deliverFrom ce (s.calibrate ce r).2).underTest e then
      ((s.deliverFrom ce (s.calibrate ce r).2).testValue e (toY16 (s.calibrate ce r).1)).deliverStale e at_ gap
    else ((s.deliverFrom ce (s.calibrate ce r).2).pushSample e
      { v := toY16 (s.calibrate ce r).1, stale := false, at_ := at_, gap := gap }).consume e (s.calibrate ce r).1 r at_ spare := rfl

theorem State.sampled_consume (e : Nat) (y r : Int) (at_ : Nat) (spare : Bool) : s.Sampled (s.consume e y r at_ spare) := by
  unfold State.consume
  extract_lets v s1 s2 x s3 s4 s5 s6 s7
  have h1 : s.Sampled s1 := .of rfl rfl
  have h2 : s.Sampled s2 := .ite h1 (h1.trans (s1.sampled_calSample ..))
  have h3 : s.Sampled s3 := h2.trans (.of rfl rfl)
  have h4 : s.Sampled s4 := h3.trans (s3.sampled_energySample ..)
  have h5 : s.Sampled s5 :=
    h4.trans (.foldl _ _ (fun s m hm => .ite (s.sampled_wmSample (List.mem_range.mp hm) v) (.refl s)) s4)
  have h6 : s.Sampled s6 := h5.trans (s5.sampled_fdrSample ..)
  have h7 : s.Sampled s7 :=
    h6.trans (.foldl _ _ (fun s k hk => .ite (s.sampled_spurTest (List.mem_range.mp hk) v) (.refl s)) s6)
  exact .ite h4 (h7.trans (s7.sampled_inputSample ..))

theorem State.delivers_setBit {a i : Nat} (ha : a = Reg.ADC_PSTAT ∨ a = Reg.ADC_FSTAT) : s.Delivers (s.setBit a i true) where
  frame := .setBit (.refl s) _ _ _ (.inr ha)
  held j hj ho := by
    by_cases h : a = Reg.ADC_PSTAT
    · subst h
      rw [State.bit, State.rd_setBit_same, bitOf_setField_bit _ _ _ _ hj]
      split
      · rfl
      · exact ho
    · rw [State.bit, State.rd_setBit_ne _ _ _ _ _ h]
      exact ho
  rot := rfl
  seqIdx := rfl

theorem State.delivers_deliverFrom (ce : Nat) (ovr : Bool) : s.Delivers (s.deliverFrom ce ovr) := by
  unfold State.deliverFrom State.setOvr
  extract_lets x
  have hx : s.Delivers x := (s.sampled_eccTouch 3 (Reg.CAL_GAIN ce)).delivers
  split
  · refine hx.trans ?_
    split
    · exact x.delivers_setBit (.inl rfl)
    · split
      · exact x.delivers_setBit (.inr rfl)
      · split
        · exact x.delivers_setBit (.inl rfl)
        · exact (State.Sampled.refl x).delivers
  · exact hx

theorem State.delivers_pushSample (e : Nat) (x : Sample) : s.Delivers (s.pushSample e x) := by
  let y : State := { s with chans := vset s.chans e ((x :: s.chan e).take histMax) }
  have hy : s.Delivers y := ⟨.of rfl, fun _ _ h => h, rfl, rfl⟩
  exact hy.trans (y.sampled_traceDelivery e).delivers

theorem State.delivers_testValue (e : Nat) (v : Int) : s.Delivers (s.testValue e v) := by
  unfold State.testValue
  extract_lets vs m _ x
  split
  · have hx : s.Delivers x := ⟨.of rfl, fun _ _ h => h, rfl, rfl⟩
    exact hx.trans (State.Sampled.put (.refl x) _ _ _ _ (.inr (by decide))).delivers
  · exact (State.Sampled.refl s).delivers

theorem State.delivers_deliverStale (e at_ gap : Nat) : s.Delivers (s.deliverStale e at_ gap) := s.delivers_pushSample ..

theorem State.delivers_deliver (e ce : Nat) (r : Int) (at_ gap : Nat) (spare : Bool) : s.Delivers (s.deliver e ce r at_ gap spare) := by
  rw [State.deliver_eq]
  have hx := s.delivers_deliverFrom ce (s.calibrate ce r).2
  split
  · exact (hx.trans (State.delivers_testValue ..)).trans (State.delivers_deliverStale ..)
  · exact (hx.trans (State.delivers_pushSample ..)).trans (State.sampled_consume ..).delivers

theorem State.pushSample_newest {e : Nat} (he : e < 512) (x : Sample) : ((s.pushSample e x).chan e).head? = some x := by
  let y : State := { s with chans := vset s.chans e ((x :: s.chan e).take histMax) }
  have hc : (y.traceDelivery e).chans = y.chans := congrArg (·.1) (y.sampled_traceDelivery e).kept
  have hv : (s.pushSample e x).chan e = (x :: s.chan e).take histMax := by
    rw [State.pushSample, State.chan, hc]
    exact vget_vset_same _ _ _ _ he
  rw [hv]
  rfl

/-- An error among the calibration words is noted and reported; no stage is concerned (R368). -/
theorem State.frame_eccTakeCal (x : EccFlip) (hx : x.region = 3) (scrub : Bool) :
    State.Frame (fun a _ => eccNoteReg a) (fun _ => False) s (s.eccTake x scrub) := by
  have hn := s.frame_eccNote x.region x.addr x.bits scrub
  by_cases h : x.bits.length < 2
  · rw [State.eccTake_cor _ _ _ h]
    have hd : State.Frame (fun a _ => eccNoteReg a) (fun _ => False) (s.eccNote x.region x.addr x.bits scrub)
      ((s.eccNote x.region x.addr x.bits scrub).dropFlip x) := .of rfl
    exact (hn.trans hd).trans (State.frame_faultFrom ..)
  · rw [State.eccTake_unc _ _ _ (by omega), hx]
    rw [hx] at hn
    exact hn.fault ..

theorem State.frame_eccTouchCal (addr : Nat) : State.Frame (fun a _ => eccNoteReg a) (fun _ => False) s (s.eccTouch 3 addr) := by
  refine .foldl _ _ (fun s x hx => s.frame_eccTakeCal x ?_ false) s
  rw [List.mem_filter, Bool.and_eq_true, Bool.and_eq_true, beq_iff_eq] at hx
  exact hx.2.1.1

theorem calBase_apart (n : Nat) : ¬ eccNoteReg (Reg.LNK_CALBASE n) ∧ sideReg (Reg.LNK_CALBASE n) = false := by
  refine ⟨?_, ?_⟩
  · simp only [eccNoteReg, Reg.LNK_CALBASE, Reg.FLT_ECCCNT, Reg.FLT_ECCINFO, Reg.FLT_ECCADDR]
    omega
  · rw [sideReg_eq_false]
    simp only [Reg.LNK_CALBASE, Reg.HST_RSVWR, Reg.CW_STAT]
    omega

theorem State.setOvr_kept (e : Nat) : (s.setOvr e).meas = s.meas ∧
    ∀ a, Reg.ADC_PSTAT ≠ a → Reg.ADC_FSTAT ≠ a → (s.setOvr e).rd a = s.rd a := by
  unfold State.setOvr
  split
  · exact ⟨rfl, fun a hp _ => State.rd_setBit_ne _ _ _ _ _ hp⟩
  · split
    · exact ⟨rfl, fun a _ hf => State.rd_setBit_ne _ _ _ _ _ hf⟩
    · split
      · exact ⟨rfl, fun a hp _ => State.rd_setBit_ne _ _ _ _ _ hp⟩
      · exact ⟨rfl, fun _ _ _ => rfl⟩

theorem State.deliverFrom_underTest (e ce : Nat) (ovr : Bool) : (s.deliverFrom ce ovr).underTest e = s.underTest e := by
  have hx : ∀ x : State, x.meas.tst = s.meas.tst → (∀ n, x.rd (Reg.LNK_CALBASE n) = s.rd (Reg.LNK_CALBASE n)) →
      x.underTest e = s.underTest e := fun x ht hr => by
    simp only [State.underTest, State.tdacEntry, State.linkEntry, State.fld, ht, hr]
  have ht : (s.eccTouch 3 (Reg.CAL_GAIN ce)).meas.tst = s.meas.tst := congrArg (·.2.2.2) (s.sampled_eccTouch 3 (Reg.CAL_GAIN ce)).kept
  have hr : ∀ n, (s.eccTouch 3 (Reg.CAL_GAIN ce)).rd (Reg.LNK_CALBASE n) = s.rd (Reg.LNK_CALBASE n) := fun n =>
    (s.frame_eccTouchCal (Reg.CAL_GAIN ce)).rd (fun _ _ => (calBase_apart n).1) (calBase_apart n).2
  unfold State.deliverFrom
  extract_lets x
  obtain ⟨hm, hk⟩ := x.setOvr_kept ce
  cases ovr
  · exact hx x ht hr
  · refine hx (x.setOvr ce) ((congrArg (·.tst) hm).trans ht) fun n => (hk _ ?_ ?_).trans (hr n)
    · simp only [Reg.ADC_PSTAT, Reg.LNK_CALBASE]
      omega
    · simp only [Reg.ADC_FSTAT, Reg.LNK_CALBASE]
      omega

/-- A fresh delivery: its value is the newest sample of its entry. -/
theorem State.deliver_newest {e : Nat} (he : e < 512) (hu : s.underTest e = false) (ce : Nat) (r : Int) (at_ gap : Nat) (spare : Bool) :
    ((s.deliver e ce r at_ gap spare).chan e).head? =
      some { v := toY16 (s.calibrate ce r).1, stale := false, at_ := at_, gap := gap } := by
  rw [State.deliver_eq, if_neg (by rw [State.deliverFrom_underTest, hu]; decide)]
  generalize s.deliverFrom ce (s.calibrate ce r).2 = x
  have hc := congrArg (·.1) (State.sampled_consume
    (x.pushSample e { v := toY16 (s.calibrate ce r).1, stale := false, at_ := at_, gap := gap }) e (s.calibrate ce r).1 r at_ spare).kept
  refine (congrArg (fun c => (vget c e []).head?) hc).trans ?_
  exact x.pushSample_newest he _

end

end Sys2Proof.Machine
end

section
/-!
PROOFS. Conversion results and the triggers of the sequences (O36).
-/

namespace Sys2Proof.Machine

/-! ## A precision result -/

section
variable (s : State)

/-- A result at an end of its range sets the overrange bit of its channel (R284). -/
def State.rangeNoted (k : Nat) (r : Int) : State := if r == 8388607 || r == -8388608 then s.setBit Reg.ADC_PSTAT k true else s

/-- The state in which the rotation takes a result of channel `k`: it has been delivered, unless the spare stands for it. -/
def State.precDelivered (k : Nat) (r : Int) : State :=
  if (s.rangeNoted k r).spareFor == some k then s.rangeNoted k r else (s.rangeNoted k r).precDeliver k k r false

theorem State.exec_precisionResult {s : State} (hr : s.runs = true) {k : Fin 16} (hk : s.precOn k = true) (raw : BitVec 24) :
    exec (.precisionResult (k.castLE (by decide)) raw) s = .next (if (s.precDelivered k raw.toInt).fld Reg.ADC_ROTSTAT 3 0 == k.val then
      (s.precDelivered k raw.toInt).rotSample false raw.toInt else s.precDelivered k raw.toInt) := by
  change execPrecisionResult (k.castLE (by decide)) raw s = _
  rw [execPrecisionResult]
  exact (if_neg (by rw [hr]; decide)).trans ((if_pos k.isLt).trans (if_pos hk))

theorem State.delivers_rangeNoted (k : Nat) (r : Int) : s.Delivers (s.rangeNoted k r) := by
  unfold State.rangeNoted
  split
  · exact s.delivers_setBit (.inl rfl)
  · exact (State.Sampled.refl s).delivers

theorem State.delivers_precDeliver (k ce : Nat) (r : Int) (spare : Bool) : s.Delivers (s.precDeliver k ce r spare) := by
  unfold State.precDeliver
  extract_lets at_ n
  split
  · have hx : s.Delivers { s with meas := { s.meas with pstale := vset s.meas.pstale k (n - 1) } } := ⟨.of rfl, fun _ _ h => h, rfl, rfl⟩
    exact hx.trans (State.delivers_deliverStale ..)
  · exact s.delivers_deliver ..

theorem State.delivers_precDelivered (k : Nat) (r : Int) : s.Delivers (s.precDelivered k r) := by
  have hx := s.delivers_rangeNoted k r
  unfold State.precDelivered
  split
  · exact hx
  · exact hx.trans (State.delivers_precDeliver ..)

/-- The overrange bits are no register that a value goes by. -/
theorem State.rangeNoted_rd (k : Nat) (r : Int) {a : Nat} (ha : Reg.ADC_PSTAT ≠ a) : (s.rangeNoted k r).rd a = s.rd a := by
  unfold State.rangeNoted
  split
  · exact State.rd_setBit_ne _ _ _ _ _ ha
  · rfl

theorem State.rangeNoted_parts (k : Nat) (r : Int) : (s.rangeNoted k r).meas = s.meas ∧ (s.rangeNoted k r).now = s.now := by
  unfold State.rangeNoted
  split
  · exact ⟨rfl, rfl⟩
  · exact ⟨rfl, rfl⟩

variable {s} in
/-- A state that differs in an overrange bit alone calibrates and delivers as this one does. -/
theorem State.fresh_of_pstat {x : State} (hm : x.meas = s.meas)
    (hr : ∀ a, Reg.ADC_PSTAT ≠ a → Reg.ADC_FSTAT ≠ a → x.rd a = s.rd a) (e : Nat) :
    x.underTest e = s.underTest e ∧ ∀ r, x.calibrate e r = s.calibrate e r := by
  have hb : ∀ n, x.rd (Reg.LNK_CALBASE n) = s.rd (Reg.LNK_CALBASE n) := fun n =>
    hr _ (by simp only [Reg.ADC_PSTAT, Reg.LNK_CALBASE]; omega) (by simp only [Reg.ADC_FSTAT, Reg.LNK_CALBASE]; omega)
  have hg : x.rd (Reg.CAL_GAIN e) = s.rd (Reg.CAL_GAIN e) :=
    hr _ (by simp only [Reg.ADC_PSTAT, Reg.CAL_GAIN]; omega) (by simp only [Reg.ADC_FSTAT, Reg.CAL_GAIN]; omega)
  have ho : x.rd (Reg.CAL_OFS e) = s.rd (Reg.CAL_OFS e) :=
    hr _ (by simp only [Reg.ADC_PSTAT, Reg.CAL_OFS]; omega) (by simp only [Reg.ADC_FSTAT, Reg.CAL_OFS]; omega)
  refine ⟨?_, fun r => ?_⟩
  · simp only [State.underTest, State.tdacEntry, State.linkEntry, State.fld, hm, hb]
  · simp only [State.calibrate, State.sfld, State.fld, hg, ho]

theorem State.precDelivered_newest {k : Nat} (hk : k < 16) (r : Int) (hs : s.spareFor ≠ some k) (hp : vget s.meas.pstale k 0 = 0)
    (hu : s.underTest k = false) : ((s.precDelivered k r).chan k).head? =
      some { v := toY16 (s.calibrate k r).1, stale := false, at_ := s.now - 96 * s.outPeriod, gap := 0 } := by
  obtain ⟨hm, ht⟩ := s.rangeNoted_parts k r
  have hr : ∀ a, Reg.ADC_PSTAT ≠ a → (s.rangeNoted k r).rd a = s.rd a := fun _ ha => s.rangeNoted_rd k r ha
  obtain ⟨h1, h2⟩ := State.fresh_of_pstat (x := s.rangeNoted k r) hm (fun a ha _ => hr a ha) k
  have hspare : (s.rangeNoted k r).spareFor = s.spareFor := by
    unfold State.spareFor State.rotPhase State.bit State.fld
    rw [hr Reg.ADC_ROTSTAT (by decide)]
  have hat : (s.rangeNoted k r).now - 96 * (s.rangeNoted k r).outPeriod = s.now - 96 * s.outPeriod := by
    unfold State.outPeriod State.fld
    rw [hr Reg.ADC_PRATE (by decide), ht]
  rw [State.precDelivered, if_neg (by rw [hspare]; simpa using hs), State.precDeliver, hm, hp, if_neg (by decide), hat, ← h2 r]
  exact State.deliver_newest _ (by omega) (h1.trans hu) ..

theorem State.precDelivered_over {k : Nat} (hk : k < 16) (r : Int) (hr : r = 8388607 ∨ r = -8388608) :
    (s.precDelivered k r).bit Reg.ADC_PSTAT k = true := by
  have hx : (s.rangeNoted k r).bit Reg.ADC_PSTAT k = true := by
    rw [State.rangeNoted, if_pos (by simpa using hr)]
    exact State.bit_setBit _ _ _ _ (by omega)
  unfold State.precDelivered
  split
  · exact hx
  · exact (State.delivers_precDeliver _ _ _ _ _).held k (by omega) hx

theorem State.rotSample_kept (spare : Bool) (r : Int) : (s.rotSample spare r).chans = s.chans ∧ (s.rotSample spare r).reg = s.reg := by
  unfold State.rotSample
  split
  · exact ⟨rfl, rfl⟩
  · exact ⟨rfl, rfl⟩

theorem State.precisionResult_completes (hr : s.runs = true) {k : Fin 16} (hk : s.precOn k = true) (raw : BitVec 24)
    (hs : s.spareFor ≠ some k.val) (hp : vget s.meas.pstale k 0 = 0) (hu : s.underTest k = false) :
    Completes (.precisionResult (k.castLE (by decide)) raw) s (fun t =>
      (t.chan k).head? = some { v := toY16 (s.calibrate k raw.toInt).1, stale := false, at_ := s.now - 96 * s.outPeriod, gap := 0 } ∧
      (raw.toInt = 8388607 ∨ raw.toInt = -8388608 → t.bit Reg.ADC_PSTAT k = true)) := by
  refine ⟨_, State.exec_precisionResult hr hk raw, ?_⟩
  have h1 := s.precDelivered_newest k.isLt raw.toInt hs hp hu
  have h2 := s.precDelivered_over k.isLt raw.toInt
  generalize s.precDelivered k raw.toInt = x at h1 h2 ⊢
  obtain ⟨hc, hreg⟩ := x.rotSample_kept false raw.toInt
  split
  · refine ⟨?_, fun h => ?_⟩
    · rw [State.chan, hc]
      exact h1
    · rw [State.bit, State.rd, hreg]
      exact h2 h
  · exact ⟨h1, h2⟩

/-! ## A result of a sequence -/

/-- A result at an end of the range sets the overrange bit of its channel (R287). -/
def State.fastNoted (ch : Nat) (r : Int) : State := if 32764 ≤ r || r = -32768 then s.setBit Reg.ADC_FSTAT ch true else s

/-- The result of channel `ch`, delivered as its entry. -/
def State.fastDelivered (ch : Nat) (r : Int) : State :=
  (s.fastNoted ch r).deliver (16 + ch) (16 + ch) (r * 256) ((s.fastNoted ch r).now - 14 * 64) 0 false

/-- The sequence of core `c` goes on behind place `i`: to the next one, or at its end to idle or to the latched trigger (R289). -/
def State.seqStep (c i : Nat) (last : Bool) : State :=
  let x := { s with meas := { s.meas with seqIdx := vset s.meas.seqIdx c (if last then 0 else i + 1) } }
  if last then (x.setBit (Reg.ADC_SEQ_STAT c) 31 (x.bit (Reg.ADC_SEQ_STAT c) 30)).setBit (Reg.ADC_SEQ_STAT c) 30 false else x

/-- A result of channel `ch` at place `i` of core `c`'s sequence. -/
def State.sarTaken (c i ch : Nat) (r : Int) : State :=
  (s.fastDelivered ch r).seqStep c i (decide ((s.fastDelivered ch r).fld (Reg.ADC_SEQ_CFG c) 7 4 ≤ i))

theorem State.exec_sarResult {s : State} (hr : s.runs = true) {c : Fin 2} (h : s.bit (Reg.ADC_SEQ_STAT c) 31 = true) (raw : BitVec 16) :
    exec (.sarResult c raw) s =
      .next (s.sarTaken c (vget s.meas.seqIdx c 0) (8 * c + s.seqChan c (vget s.meas.seqIdx c 0)) raw.toInt) := by
  change execSarResult c raw s = _
  rw [execSarResult]
  exact if_pos (by rw [hr, h]; rfl)

theorem State.fastDelivered_newest {ch : Nat} (hch : ch < 16) (r : Int) (hu : s.underTest (16 + ch) = false) :
    ((s.fastDelivered ch r).chan (16 + ch)).head? =
      some { v := toY16 (s.calibrate (16 + ch) (r * 256)).1, stale := false, at_ := s.now - 14 * 64, gap := 0 } := by
  have hk : (s.fastNoted ch r).meas = s.meas ∧ (s.fastNoted ch r).now = s.now ∧
      ∀ a, Reg.ADC_FSTAT ≠ a → (s.fastNoted ch r).rd a = s.rd a := by
    unfold State.fastNoted
    split
    · exact ⟨rfl, rfl, fun _ ha => State.rd_setBit_ne _ _ _ _ _ ha⟩
    · exact ⟨rfl, rfl, fun _ _ => rfl⟩
  obtain ⟨hm, ht, hr⟩ := hk
  obtain ⟨h1, h2⟩ := State.fresh_of_pstat (x := s.fastNoted ch r) hm (fun a _ ha => hr a ha) (16 + ch)
  rw [State.fastDelivered, ht, ← h2 (r * 256)]
  exact State.deliver_newest _ (by omega) (h1.trans hu) ..

theorem State.delivers_fastDelivered (ch : Nat) (r : Int) : s.Delivers (s.fastDelivered ch r) := by
  have hx : s.Delivers (s.fastNoted ch r) := by
    unfold State.fastNoted
    split
    · exact s.delivers_setBit (.inr rfl)
    · exact (State.Sampled.refl s).delivers
  exact hx.trans (State.delivers_deliver ..)

/-- The registers of the sequencers are none that a delivery changes. -/
theorem not_deliverReg_seq : ∀ c : Fin 2, (¬ deliverReg (Reg.ADC_SEQ_STAT c) ∧ sideReg (Reg.ADC_SEQ_STAT c) = false) ∧
    ¬ deliverReg (Reg.ADC_SEQ_CFG c) ∧ sideReg (Reg.ADC_SEQ_CFG c) = false := by
  unfold deliverReg beyondAdc
  decide

theorem State.seqStep_shows {c : Nat} (hc : c < 2) (i : Nat) : (∀ last, (s.seqStep c i last).chans = s.chans) ∧
    (vget (s.seqStep c i false).meas.seqIdx c 0 = i + 1 ∧ (s.seqStep c i false).rd (Reg.ADC_SEQ_STAT c) = s.rd (Reg.ADC_SEQ_STAT c)) ∧
    vget (s.seqStep c i true).meas.seqIdx c 0 = 0 ∧ (s.seqStep c i true).bit (Reg.ADC_SEQ_STAT c) 30 = false ∧
    (s.seqStep c i true).bit (Reg.ADC_SEQ_STAT c) 31 = s.bit (Reg.ADC_SEQ_STAT c) 30 := by
  refine ⟨fun last => by cases last <;> rfl, ⟨vget_vset_same _ _ _ _ hc, rfl⟩, vget_vset_same _ _ _ _ hc, ?_, ?_⟩
  · exact State.bit_setBit _ _ _ _ (by decide)
  · exact (State.bit_setBit_ne _ _ _ _ _ (by decide) (by decide)).trans (State.bit_setBit _ _ _ _ (by decide))

theorem State.sarResult_completes (hr : s.runs = true) {c : Fin 2} (h : s.bit (Reg.ADC_SEQ_STAT c) 31 = true) (raw : BitVec 16)
    (hu : s.underTest (16 + (8 * c + s.seqChan c (vget s.meas.seqIdx c 0))) = false) :
    Completes (.sarResult c raw) s (fun t =>
      (t.chan (16 + (8 * c + s.seqChan c (vget s.meas.seqIdx c 0)))).head? =
        some { v := toY16 (s.calibrate (16 + (8 * c + s.seqChan c (vget s.meas.seqIdx c 0))) (raw.toInt * 256)).1, stale := false,
               at_ := s.now - 14 * 64, gap := 0 } ∧
      (vget s.meas.seqIdx c 0 < s.fld (Reg.ADC_SEQ_CFG c) 7 4 →
        vget t.meas.seqIdx c 0 = vget s.meas.seqIdx c 0 + 1 ∧ t.bit (Reg.ADC_SEQ_STAT c) 31 = true) ∧
      (s.fld (Reg.ADC_SEQ_CFG c) 7 4 ≤ vget s.meas.seqIdx c 0 → vget t.meas.seqIdx c 0 = 0 ∧ t.bit (Reg.ADC_SEQ_STAT c) 30 = false ∧
        t.bit (Reg.ADC_SEQ_STAT c) 31 = s.bit (Reg.ADC_SEQ_STAT c) 30)) := by
  refine ⟨_, State.exec_sarResult hr h raw, ?_⟩
  generalize vget s.meas.seqIdx c 0 = i at hu ⊢
  have hch : 8 * c.val + s.seqChan c i < 16 := by
    have : s.seqChan c i < 8 := by
      refine lt_of_lt_of_eq (fieldOf_lt ..) ?_
      rw [show 4 * (i % 8) + 2 + 1 - 4 * (i % 8) = 3 by omega]
      rfl
    omega
  generalize 8 * c.val + s.seqChan c i = ch at hu hch ⊢
  have h1 := s.fastDelivered_newest hch raw.toInt hu
  have hd := s.delivers_fastDelivered ch raw.toInt
  rw [State.sarTaken]
  generalize s.fastDelivered ch raw.toInt = x at h1 hd ⊢
  obtain ⟨⟨n1, n2⟩, n3, n4⟩ := not_deliverReg_seq c
  have hst : x.rd (Reg.ADC_SEQ_STAT c) = s.rd (Reg.ADC_SEQ_STAT c) := hd.frame.rd (fun _ _ => n1) n2
  have hcf : x.fld (Reg.ADC_SEQ_CFG c) 7 4 = s.fld (Reg.ADC_SEQ_CFG c) 7 4 := by rw [State.fld, hd.frame.rd (fun _ _ => n3) n4]; rfl
  obtain ⟨k1, ⟨k2, k3⟩, k4, k5, k6⟩ := x.seqStep_shows c.isLt i
  rw [hcf]
  refine ⟨?_, fun hi => ?_, fun hi => ?_⟩
  · rw [State.chan, k1]
    exact h1
  · rw [decide_eq_false (by omega)]
    refine ⟨k2, ?_⟩
    rw [State.bit, k3, hst]
    exact h
  · rw [decide_eq_true hi]
    refine ⟨k4, k5, k6.trans ?_⟩
    rw [State.bit, hst]
    rfl

/-! ## Triggers of the sequences -/

/-- A trigger of an idle sequence. -/
def State.seqStarted (c : Nat) : State :=
  { s.setBit (Reg.ADC_SEQ_STAT c) 31 true with meas := { s.meas with seqIdx := vset s.meas.seqIdx c 0 } }

/-- A trigger dropped. -/
def State.seqDropped (c : Nat) : State :=
  let x := s.bump (Reg.ADC_SEQ_STAT c) 15 0 1
  if vget x.meas.seqSeen c false then x
  else { x with meas := { x.meas with seqSeen := vset x.meas.seqSeen c true } }.raise (E.ADC_OVERRUN c)

theorem State.seqTrigger_eq (c : Nat) : s.seqTrigger c =
    if !s.bit (Reg.ADC_SEQ_STAT c) 31 then s.seqStarted c
    else if !s.bit (Reg.ADC_SEQ_STAT c) 30 then s.setBit (Reg.ADC_SEQ_STAT c) 30 true else s.seqDropped c := rfl

variable (c : Fin 2)

theorem State.seqTrigger_started (h : s.bit (Reg.ADC_SEQ_STAT c) 31 = false) : (s.seqTrigger c).bit (Reg.ADC_SEQ_STAT c) 31 = true ∧
    vget (s.seqTrigger c).meas.seqIdx c 0 = 0 ∧ Keeps s (s.seqTrigger c) [Reg.ADC_SEQ_STAT c] := by
  rw [State.seqTrigger_eq, if_pos (by rw [h]; rfl)]
  exact ⟨State.bit_setBit _ _ _ _ (by decide), vget_vset_same _ _ _ _ c.isLt,
    .of (fun a ha _ => State.rd_setBit_ne _ _ _ _ _ (fun he => ha (he ▸ List.mem_cons_self))) rfl rfl⟩

theorem State.seqTrigger_latched (h : s.bit (Reg.ADC_SEQ_STAT c) 31 = true) (h' : s.bit (Reg.ADC_SEQ_STAT c) 30 = false) :
    (s.seqTrigger c).bit (Reg.ADC_SEQ_STAT c) 31 = true ∧ (s.seqTrigger c).bit (Reg.ADC_SEQ_STAT c) 30 = true ∧
    (s.seqTrigger c).meas.seqIdx = s.meas.seqIdx ∧ Keeps s (s.seqTrigger c) [Reg.ADC_SEQ_STAT c] := by
  rw [State.seqTrigger_eq, if_neg (by rw [h]; decide), if_pos (by rw [h']; rfl)]
  exact ⟨(State.bit_setBit_ne _ _ _ _ _ (by decide) (by decide)).trans h, State.bit_setBit _ _ _ _ (by decide), rfl,
    .of (fun a ha _ => State.rd_setBit_ne _ _ _ _ _ (fun he => ha (he ▸ List.mem_cons_self))) rfl rfl⟩

theorem State.seqTrigger_dropped (h : s.bit (Reg.ADC_SEQ_STAT c) 31 = true) (h' : s.bit (Reg.ADC_SEQ_STAT c) 30 = true) :
    (s.seqTrigger c).fld (Reg.ADC_SEQ_STAT c) 15 0 = min (s.fld (Reg.ADC_SEQ_STAT c) 15 0 + 1) 0xFFFF ∧
    (s.seqTrigger c).meas.seqIdx = s.meas.seqIdx ∧
    (vget s.meas.seqSeen c false = false → Raised s (s.seqTrigger c) (E.ADC_OVERRUN c)) ∧
    Keeps s (s.seqTrigger c) [Reg.ADC_SEQ_STAT c] := by
  rw [State.seqTrigger_eq, if_neg (by rw [h]; decide), if_neg (by rw [h']; decide)]
  have hb : State.Frame (fun a _ => a = Reg.ADC_SEQ_STAT c) (fun _ => False) s (s.bump (Reg.ADC_SEQ_STAT c) 15 0 1) :=
    .bump (.refl s) _ _ _ _ (fun _ _ _ _ => rfl)
  have hf : (s.bump (Reg.ADC_SEQ_STAT c) 15 0 1).fld (Reg.ADC_SEQ_STAT c) 15 0 = min (s.fld (Reg.ADC_SEQ_STAT c) 15 0 + 1) 0xFFFF :=
    State.fld_bump _ _ _ _ _ (by decide)
  have hw : ∀ a i, (fun a (_ : Nat) => a = Reg.ADC_SEQ_STAT c) a i → a ∈ [Reg.ADC_SEQ_STAT c] := fun a i h => by simpa using h
  unfold State.seqDropped
  extract_lets x
  split
  next hs => exact ⟨hf, rfl, fun hn => absurd (hs.symm.trans hn) (by decide), hb.keeps hw⟩
  · have hy : State.Frame (fun a _ => a = Reg.ADC_SEQ_STAT c) (fun _ => False) s
        { x with meas := { x.meas with seqSeen := vset x.meas.seqSeen c true } } := hb.trans (.of rfl)
    refine ⟨?_, ?_, fun _ => ?_, ?_⟩
    · rw [State.fld, State.raise_rd _ _ _ (by decide : 224 < 256) (sideReg_cross (not_deliverReg_seq c).1.2)]
      exact hf
    · rw [State.raise_meas]
      rfl
    · exact hy.raisedAfter _ rfl id (by decide : 224 ≠ 1) (by decide : 224 ≠ 35)
    · exact ((hy.mono (fun _ _ h => h) (fun _ h => h.elim)).raise (E := (· = 224)) _ (by decide : 224 < 256) (.inl rfl)).keeps hw

/-- What a write of ADC_SEQGO does at core `d`. -/
def State.seqGoAt (v : Word) (d : Nat) : State :=
  let t := s.fld (Reg.ADC_SEQ_CFG d) 3 0
  if bitOf v d && decide (1 ≤ t) && decide (t ≤ 6) then s.seqTrigger d else s

theorem State.seqGo_eq (v : Word) : s.seqGo v = (s.seqGoAt v 0).seqGoAt v 1 := rfl

theorem State.seqGoAt_off {v : Word} {d : Nat} (h : bitOf v d = false) : s.seqGoAt v d = s := if_neg (by rw [h]; exact Bool.false_ne_true)

theorem State.seqGoAt_on {v : Word} {d : Nat} (h : bitOf v d = true) : s.seqGoAt v d =
    if decide (1 ≤ s.fld (Reg.ADC_SEQ_CFG d) 3 0) && decide (s.fld (Reg.ADC_SEQ_CFG d) 3 0 ≤ 6) then s.seqTrigger d else s := by
  rw [State.seqGoAt, h, Bool.true_and]

/-- A write of ADC_SEQGO with the bit of one core triggers that core, where its TRIG names a source (R288, log 133). -/
theorem State.seqGo_one : s.seqGo (word (2 ^ c.val) &&& word 3) =
    if decide (1 ≤ s.fld (Reg.ADC_SEQ_CFG c) 3 0) && decide (s.fld (Reg.ADC_SEQ_CFG c) 3 0 ≤ 6) then s.seqTrigger c else s := by
  have hb : ∀ c d : Fin 2, bitOf (word (2 ^ c.val) &&& word 3) d = decide (c = d) := by decide
  have h0 : bitOf (word (2 ^ c.val) &&& word 3) 0 = decide (c = 0) := hb c 0
  have h1 : bitOf (word (2 ^ c.val) &&& word 3) 1 = decide (c = 1) := hb c 1
  rw [State.seqGo_eq]
  generalize word (2 ^ c.val) &&& word 3 = v at h0 h1 ⊢
  match c with
  | ⟨0, _⟩ =>
    rw [State.seqGoAt_off _ h1]
    exact s.seqGoAt_on h0
  | ⟨1, _⟩ =>
    rw [s.seqGoAt_off h0]
    exact s.seqGoAt_on h1

theorem exec_sequenceTrigger (hr : s.runs = true) (h1 : 1 ≤ s.fld (Reg.ADC_SEQ_CFG c) 3 0) (h5 : s.fld (Reg.ADC_SEQ_CFG c) 3 0 ≤ 5) :
    exec (.sequenceTrigger c) s = .next (s.seqTrigger c) :=
  if_pos (by rw [hr, decide_eq_true h1, decide_eq_true h5]; rfl)

theorem hostWrite_seqgo (p : Port) (hr : s.runs = true) :
    (s.hostWrite p Reg.ADC_SEQGO (word (2 ^ c.val))).Counted (s.seqGo (word (2 ^ c.val) &&& word 3)) :=
  s.hostWrite_direct (k := Reg.ADC_SEQGO) (by decide) p _ hr rfl (by decide) (by decide) (by decide) rfl

end

/-- Settles O36: a fresh delivery puts its value first and leaves the sequences alone; a trigger acts by the state of its sequence. -/
theorem conversionSequences : Obligations.ConversionSequences := by
  unfold Obligations.ConversionSequences
  refine ⟨fun k raw core code s hr => ⟨fun hk hs hp hu => s.precisionResult_completes hr hk raw hs hp hu,
    fun h hu => s.sarResult_completes hr h code hu⟩, fun p c s hr => ?_⟩
  have hside := (not_deliverReg_seq c).1.2
  refine ⟨fun h1 h5 => ?_, fun h1 h6 => ?_, fun h => ?_⟩
  · have hx := exec_sequenceTrigger s c hr h1 h5
    exact ⟨fun h => ⟨_, hx, s.seqTrigger_started c h⟩, fun h h' => ⟨_, hx, s.seqTrigger_latched c h h'⟩,
      fun h h' => ⟨_, hx, s.seqTrigger_dropped c h h'⟩⟩
  · have hw := hostWrite_seqgo s c p hr
    rw [s.seqGo_one, if_pos (by rw [decide_eq_true h1, decide_eq_true h6]; rfl)] at hw
    have hm := hw.same (·.meas) (fun _ _ => rfl)
    have hrd := hw.rd hside
    refine ⟨fun h => ⟨_, rfl, ?_⟩, fun h h' => ⟨_, rfl, ?_⟩, fun h h' => ⟨_, rfl, ?_⟩⟩
    · obtain ⟨k1, k2, k3⟩ := s.seqTrigger_started c h
      exact ⟨(congrArg (bitOf · 31) hrd).trans k1, (congrArg (fun m => vget m.seqIdx c 0) hm).trans k2, hw.keeps k3⟩
    · obtain ⟨k1, k2, k3, k4⟩ := s.seqTrigger_latched c h h'
      exact ⟨(congrArg (bitOf · 31) hrd).trans k1, (congrArg (bitOf · 30) hrd).trans k2, (congrArg (·.seqIdx) hm).trans k3, hw.keeps k4⟩
    · obtain ⟨k1, k2, k3, k4⟩ := s.seqTrigger_dropped c h h'
      exact ⟨(congrArg (fieldOf · 15 0) hrd).trans k1, (congrArg (·.seqIdx) hm).trans k2, fun hs => hw.raised (k3 hs), hw.keeps k4⟩
  · have hw := hostWrite_seqgo s c p hr
    rw [s.seqGo_one, if_neg] at hw
    · exact ⟨_, rfl, hw.same (·.meas) (fun _ _ => rfl), hw.keeps (.of (fun _ _ _ => rfl) rfl rfl)⟩
    · rw [Bool.and_eq_true, decide_eq_true_eq, decide_eq_true_eq]
      omega

end Sys2Proof.Machine
end

section
/-!
PROOFS. The rotation of the precision channels and the path tests (O37).
-/

namespace Sys2Proof.Machine

/-! ## The start of a step -/

section
variable (s : State)

/-- The record of a step that starts on channel `k`. -/
def RotSt.started (k : Nat) : RotSt :=
  { check := 0, spareTest := false, overlapBad := false, last := k, due := false, own := RotAvg.fresh, spare := RotAvg.fresh }

/-- The state of a step that starts on channel `k` (R285). -/
def State.rotStarted (k : Nat) : State :=
  ((s.onRot (fun _ => .started k)).put Reg.ADC_ROTSTAT 3 0 k).put Reg.ADC_ROTSTAT 6 4 1

theorem State.exec_rotationStepStart {k : Nat} (hr : s.runs = true) (hd : s.meas.rot.due = true) (hm : s.rotMayStart = true)
    (hk : s.nextPrec s.meas.rot.last = some k) : exec .rotationStepStart s = .next (s.rotStarted k) := by
  change execRotationStepStart s = _
  simp only [execRotationStepStart, hr, hd, hm, hk, Bool.and_self, if_true]
  rfl

theorem State.nextPrec_lt {j k : Nat} (h : s.nextPrec j = some k) : k < 16 := by
  obtain ⟨i, -, rfl⟩ := List.mem_map.mp (List.mem_of_find?_eq_some h)
  exact Nat.mod_lt _ (by decide)

/-- What a change of ADC_ROTSTAT leaves. -/
theorem State.keeps_rotStat {t : State} (h : State.Frame (fun a _ => a = Reg.ADC_ROTSTAT) (fun _ => True) s t) : Keeps s t [Reg.ADC_ROTSTAT] :=
  h.keeps fun a i ha => by simpa using ha

theorem State.rotStarted_shows {k : Nat} (hk : k < 16) : (s.rotStarted k).rotPhase = 1 ∧ (s.rotStarted k).fld Reg.ADC_ROTSTAT 3 0 = k ∧
    Keeps s (s.rotStarted k) [Reg.ADC_ROTSTAT] := by
  have h0 : State.Frame (fun a _ => a = Reg.ADC_ROTSTAT) (fun _ => True) s (s.onRot (fun _ => .started k)) := .of rfl
  refine ⟨State.fld_put _ _ 6 4 _ (by decide), ?_, s.keeps_rotStat ((h0.put _ _ _ _ (fun _ _ _ _ => rfl)).put _ _ _ _ (fun _ _ _ _ => rfl))⟩
  refine (State.fld_put_disj _ _ 6 4 _ 3 0 (by decide) (.inl (by decide))).trans ((State.fld_put _ _ 3 0 _ (by decide)).trans ?_)
  exact Nat.mod_eq_of_lt hk

/-! ## A result of the channel in work -/

theorem not_deliverReg_rot : (¬ deliverReg Reg.ADC_ROTSTAT ∧ sideReg Reg.ADC_ROTSTAT = false) ∧
    ¬ deliverReg Reg.ADC_ROT ∧ sideReg Reg.ADC_ROT = false := by
  unfold deliverReg beyondAdc
  decide

theorem State.rotSample_own (h : s.rotPhase ≠ 0) (r : Int) : ∃ v, (s.rotSample false r).meas.rot =
    { s.meas.rot with own := s.meas.rot.own.take s.rotFull v } :=
  ⟨s.rotValue false r, by rw [State.rotSample, if_neg (by simpa using h)]; rfl⟩

theorem RotAvg.take_shows (a : RotAvg) (full : Nat) (v : Int) : (a.take full v).skip = a.skip - 1 ∧
    (a.take full v).n = if 0 < a.skip ∨ full ≤ a.n then a.n else a.n + 1 := by
  unfold RotAvg.take
  by_cases h : 0 < a.skip
  · rw [if_pos h, if_pos (.inl h)]
    exact ⟨rfl, rfl⟩
  · rw [if_neg h]
    by_cases hn : a.n < full
    · rw [if_pos hn, if_neg (by omega)]
      exact ⟨by simp only; omega, rfl⟩
    · rw [if_neg hn, if_pos (.inr (by omega))]
      exact ⟨by omega, rfl⟩

theorem State.rotResult_completes (hr : s.runs = true) {k : Fin 16} (hk : s.precOn k = true) (raw : BitVec 24) (hp : s.rotPhase ≠ 0)
    (hc : s.fld Reg.ADC_ROTSTAT 3 0 = k.val) :
    Completes (.precisionResult (k.castLE (by decide)) raw) s (fun t => t.meas.rot.spare = s.meas.rot.spare ∧
      t.meas.rot.own.skip = s.meas.rot.own.skip - 1 ∧
      t.meas.rot.own.n = (if 0 < s.meas.rot.own.skip ∨ s.rotFull ≤ s.meas.rot.own.n then s.meas.rot.own.n else s.meas.rot.own.n + 1)) := by
  refine ⟨_, State.exec_precisionResult hr hk raw, ?_⟩
  have hd := s.delivers_precDelivered k raw.toInt
  generalize s.precDelivered k raw.toInt = x at hd ⊢
  obtain ⟨⟨n1, n2⟩, n3, n4⟩ := not_deliverReg_rot
  have hst : x.rd Reg.ADC_ROTSTAT = s.rd Reg.ADC_ROTSTAT := hd.frame.rd (fun _ _ => n1) n2
  have hfull : x.rotFull = s.rotFull := by rw [State.rotFull, State.rotFull, State.fld, hd.frame.rd (fun _ _ => n3) n4]; rfl
  have hx : x.rotPhase ≠ 0 := by rwa [State.rotPhase, State.fld, hst]
  obtain ⟨v, hv⟩ := x.rotSample_own hx raw.toInt
  have hb : (x.fld Reg.ADC_ROTSTAT 3 0 == k.val) = true := by
    rw [State.fld, hst, beq_iff_eq]
    exact hc
  rw [hfull, hd.rot] at hv
  rw [if_pos hb]
  beta_reduce
  rw [hv]
  exact ⟨rfl, RotAvg.take_shows _ _ _⟩

/-! ## A finding of the running check -/

theorem State.exec_rotationCheckDone (hr : s.runs = true) {k : Fin 16} (hp : s.rotPhase ≠ 0) (hk : s.fld Reg.ADC_ROTSTAT 3 0 = k.val)
    (hc : s.rotComplete = true) : exec (.rotationCheckDone k) s = .next (s.rotFound s.rotPass) :=
  if_pos (by
    have h0 : (s.rotPhase != 0) = true := by simpa using hp
    rw [hr, h0, hk, hc, beq_self_eq_true]
    rfl)

theorem State.exec_rotationCheckDone_none {k : Fin 16} (h : s.rotComplete = false ∨ s.fld Reg.ADC_ROTSTAT 3 0 ≠ k.val) :
    exec (.rotationCheckDone k) s = .next s :=
  if_neg (by
    rcases h with h | h
    · rw [h, Bool.and_false]
      decide
    · rw [beq_eq_false_iff_ne.mpr h, Bool.and_false, Bool.false_and]
      decide)

/-- The record with the averages begun again. -/
def RotSt.again (r : RotSt) : RotSt := { r with own := RotAvg.fresh, spare := RotAvg.fresh }

theorem State.rotNext_shows (f : RotSt → RotSt) : (s.rotNext f).meas.rot = (f s.meas.rot).again ∧ (s.rotNext f).rotPhase = s.rotPhase ∧
    Keeps s (s.rotNext f) [] := ⟨rfl, rfl, .of (fun _ _ _ => rfl) rfl rfl⟩

theorem State.rotNextPhase_shows (f : RotSt → RotSt) {p : Nat} (hp : p < 8) :
    ((s.rotNext f).put Reg.ADC_ROTSTAT 6 4 p).meas.rot = (f s.meas.rot).again ∧
    ((s.rotNext f).put Reg.ADC_ROTSTAT 6 4 p).rotPhase = p ∧ Keeps s ((s.rotNext f).put Reg.ADC_ROTSTAT 6 4 p) [Reg.ADC_ROTSTAT] := by
  have h0 : State.Frame (fun a _ => a = Reg.ADC_ROTSTAT) (fun _ => True) s (s.rotNext f) := .of rfl
  exact ⟨rfl, (State.fld_put _ _ 6 4 _ (by decide)).trans (Nat.mod_eq_of_lt hp), s.keeps_rotStat (h0.put _ _ _ _ (fun _ _ _ _ => rfl))⟩

section
variable (h1 : s.rotPhase = 1)
include h1

theorem State.rotFound_overlap (ht : s.meas.rot.spareTest = false) (pass : Bool) : s.rotFound pass =
    if pass then (s.rotNext id).put Reg.ADC_ROTSTAT 6 4 2 else s.rotNext (fun r => { r with spareTest := true, overlapBad := true }) := by
  simp only [State.rotFound, h1, ht, Bool.false_eq_true, if_false]

/-- The spare is marked as failed and the step ends. -/
def State.spareFailed (s : State) : State := (s.setBit Reg.ADC_ROTSTAT 12 true).put Reg.ADC_ROTSTAT 6 4 0

theorem State.rotFound_spareFails (ht : s.meas.rot.spareTest = true) {k : Nat} (hk : s.fld Reg.ADC_ROTSTAT 3 0 = k) :
    s.rotFound false = (s.spareFailed.fault 14 k 0).raise (E.SPARE_FAIL k) := by
  subst hk
  simp only [State.rotFound, h1, ht, if_true, Bool.not_false]
  rfl

theorem State.rotFound_sparePasses (ht : s.meas.rot.spareTest = true) : s.rotFound true =
    if s.meas.rot.check < 2 then s.rotNext (fun r => { r with check := r.check + 1 })
    else (s.rotNext (fun r => { r with check := 0, spareTest := false })).put Reg.ADC_ROTSTAT 6 4 2 := by
  simp only [State.rotFound, h1, ht, if_true, Bool.not_true, Bool.false_eq_true, if_false]

end

section
variable (h2 : s.rotPhase = 2)
include h2

/-- The channel is parked on the spare and the step ends. -/
def State.parked (s : State) (k : Nat) : State :=
  ((s.setBit Reg.ADC_ROTSTAT 7 true).put Reg.ADC_ROTSTAT 11 8 k).put Reg.ADC_ROTSTAT 6 4 0

theorem State.rotFound_parks {k : Nat} (hk : s.fld Reg.ADC_ROTSTAT 3 0 = k) :
    s.rotFound false = ((s.parked k).fault 13 k s.meas.rot.check).raise (E.PATH_PARKED k) := by
  subst hk
  simp only [State.rotFound, h2, Bool.not_false, if_true]
  rfl

theorem State.rotFound_levelPasses : s.rotFound true =
    if s.meas.rot.check < 2 then s.rotNext (fun r => { r with check := r.check + 1 })
    else (s.rotNext (fun r => { r with check := 0 })).put Reg.ADC_ROTSTAT 6 4 3 := by
  simp only [State.rotFound, h2, Bool.not_true, Bool.false_eq_true, if_false]

end

theorem State.rotFound_ends (h3 : s.rotPhase = 3) (pass : Bool) : s.rotFound pass = s.rotEnd (s.meas.rot.overlapBad || !pass) := by
  simp only [State.rotFound, h3]

/-- A finding that is reported with a corrected message and an event of the rotation's own source. -/
theorem State.rotReported {s x : State} (h : State.Frame (fun a _ => a = Reg.ADC_ROTSTAT) (fun _ => False) s x) (hq : x.flt = s.flt)
    (c k a m i : Nat) : ((x.fault c k a).raise ⟨225, m, i⟩).rd Reg.ADC_ROTSTAT = x.rd Reg.ADC_ROTSTAT ∧
      (s.flt.inq.length < 256 → Reported ((x.fault c k a).raise ⟨225, m, i⟩) c k a) ∧
      Raised s ((x.fault c k a).raise ⟨225, m, i⟩) ⟨225, m, i⟩ ∧ Keeps s ((x.fault c k a).raise ⟨225, m, i⟩) [Reg.ADC_ROTSTAT] := by
  refine ⟨?_, fun hl => ?_, ?_, ?_⟩
  · rw [State.raise_rd _ _ _ (by decide : 225 < 256) (by decide), State.fault_rd _ _ _ _ _ (by decide) (by decide)]
  · have hr : Reported (x.fault c k a) c k a := State.fault_reported _ _ _ _ (.inl (by rw [hq]; exact hl))
    exact State.Frame.reported (R := fun _ _ => False) (E := (· = 225)) (.raise (.refl _) _ (by decide : 225 < 256) (.inl rfl)) hr
  · exact (h.fault c k a).raisedAfter _ rfl id (by decide : 225 ≠ 1) (by decide : 225 ≠ 35)
  · have h' : State.Frame (fun a _ => a = Reg.ADC_ROTSTAT) (fun _ => True) s (x.fault c k a) :=
      (h.fault c k a).mono (fun _ _ h => h) (fun _ h => h.elim)
    exact s.keeps_rotStat (h'.raise _ (by decide : 225 < 256) (.inl trivial))

theorem State.spareFailed_shows : s.spareFailed.rotPhase = 0 ∧ s.spareFailed.bit Reg.ADC_ROTSTAT 12 = true ∧
    State.Frame (fun a _ => a = Reg.ADC_ROTSTAT) (fun _ => False) s s.spareFailed := by
  have h0 : State.Frame (fun a _ => a = Reg.ADC_ROTSTAT) (fun _ => False) s (s.setBit Reg.ADC_ROTSTAT 12 true) := .setBit (.refl s) _ _ _ rfl
  refine ⟨State.fld_put _ _ 6 4 _ (by decide), ?_, h0.put _ _ _ _ (fun _ _ _ _ => rfl)⟩
  refine (State.bit_put _ _ _ _ _ _ (by decide)).trans ((if_neg (by decide)).trans ?_)
  exact State.bit_setBit _ _ _ _ (by decide)

theorem State.parked_shows {k : Nat} (hk : k < 16) : (s.parked k).rotPhase = 0 ∧ (s.parked k).bit Reg.ADC_ROTSTAT 7 = true ∧
    (s.parked k).fld Reg.ADC_ROTSTAT 11 8 = k ∧ State.Frame (fun a _ => a = Reg.ADC_ROTSTAT) (fun _ => False) s (s.parked k) := by
  have h0 : State.Frame (fun a _ => a = Reg.ADC_ROTSTAT) (fun _ => False) s (s.setBit Reg.ADC_ROTSTAT 7 true) := .setBit (.refl s) _ _ _ rfl
  refine ⟨State.fld_put _ _ 6 4 _ (by decide), ?_, ?_, (h0.put _ _ _ _ (fun _ _ _ _ => rfl)).put _ _ _ _ (fun _ _ _ _ => rfl)⟩
  · refine (State.bit_put _ _ _ _ _ _ (by decide)).trans ((if_neg (by decide)).trans ?_)
    refine (State.bit_put _ _ _ _ _ _ (by decide)).trans ((if_neg (by decide)).trans ?_)
    exact State.bit_setBit _ _ _ _ (by decide)
  · refine (State.fld_put_disj _ _ 6 4 _ 11 8 (by decide) (.inr (by decide))).trans ((State.fld_put _ _ 11 8 _ (by decide)).trans ?_)
    exact Nat.mod_eq_of_lt hk

/-- A step that has ended, before its event. -/
def State.rotCounted (s : State) : State := (s.put Reg.ADC_ROTSTAT 6 4 0).bump Reg.ADC_ROTSTAT 31 16 1

theorem State.rotCounted_shows : s.rotCounted.rotPhase = 0 ∧
    s.rotCounted.fld Reg.ADC_ROTSTAT 31 16 = min (s.fld Reg.ADC_ROTSTAT 31 16 + 1) 0xFFFF ∧
    s.rotCounted.fld Reg.ADC_ROTSTAT 3 0 = s.fld Reg.ADC_ROTSTAT 3 0 ∧
    State.Frame (fun a _ => a = Reg.ADC_ROTSTAT) (fun _ => False) s s.rotCounted := by
  have hp : (s.put Reg.ADC_ROTSTAT 6 4 0).fld Reg.ADC_ROTSTAT 31 16 = s.fld Reg.ADC_ROTSTAT 31 16 :=
    State.fld_put_disj _ _ 6 4 _ 31 16 (by decide) (.inr (by decide))
  refine ⟨?_, ?_, ?_, .bump (.put (.refl s) _ _ _ _ (fun _ _ _ _ => rfl)) _ _ _ _ (fun _ _ _ _ => rfl)⟩
  · exact (State.fld_bump_disj _ _ 31 16 _ 6 4 (by decide) (.inl (by decide))).trans (State.fld_put _ _ 6 4 _ (by decide))
  · refine (State.fld_bump (s.put Reg.ADC_ROTSTAT 6 4 0) Reg.ADC_ROTSTAT 31 16 1 (by decide)).trans ?_
    rw [hp]
    rfl
  · exact (State.fld_bump_disj _ _ 31 16 _ 3 0 (by decide) (.inl (by decide))).trans
      (State.fld_put_disj _ _ 6 4 _ 3 0 (by decide) (.inl (by decide)))

theorem State.rotEnd_shows {k : Nat} (hk : s.fld Reg.ADC_ROTSTAT 3 0 = k) (bad : Bool) : (s.rotEnd bad).rotPhase = 0 ∧
    (s.rotEnd bad).fld Reg.ADC_ROTSTAT 31 16 = min (s.fld Reg.ADC_ROTSTAT 31 16 + 1) 0xFFFF ∧
    (bad = true → Raised s (s.rotEnd bad) (E.CAL_MISMATCH k)) ∧ Keeps s (s.rotEnd bad) [Reg.ADC_ROTSTAT] := by
  obtain ⟨k1, k2, k3, k4⟩ := s.rotCounted_shows
  have he : s.rotEnd bad = if bad then s.rotCounted.raise (E.CAL_MISMATCH k) else s.rotCounted := by
    rw [← hk, ← k3]
    rfl
  have hf : State.Frame (fun a _ => a = Reg.ADC_ROTSTAT) (fun _ => True) s s.rotCounted := k4.mono (fun _ _ h => h) (fun _ h => h.elim)
  rw [he]
  cases bad
  · exact ⟨k1, k2, fun h => absurd h (by decide), s.keeps_rotStat hf⟩
  · have hrd : (s.rotCounted.raise (E.CAL_MISMATCH k)).rd Reg.ADC_ROTSTAT = s.rotCounted.rd Reg.ADC_ROTSTAT :=
      State.raise_rd _ _ _ (by decide : 225 < 256) (by decide)
    refine ⟨(congrArg (fieldOf · 6 4) hrd).trans k1, (congrArg (fieldOf · 31 16) hrd).trans k2, fun _ => ?_, ?_⟩
    · exact k4.raisedAfter _ rfl id (by decide : 225 ≠ 1) (by decide : 225 ≠ 35)
    · exact s.keeps_rotStat (hf.raise _ (by decide : 225 < 256) (.inl trivial))

/-! ## The path tests (R290 to R292) -/

/-- The calibration entry of the channel that a word of ADC_TDAC names. -/
def tdacTarget (v : Word) : Nat := if fieldOf v 13 12 = 1 then fieldOf v 20 16 else 16 + fieldOf v 20 16

/-- The rotation holds the channel that a word of ADC_TDAC names. -/
def State.rotHolds (v : Word) : Bool :=
  fieldOf v 13 12 == 1 && ((s.rotPhase != 0 && s.fld Reg.ADC_ROTSTAT 3 0 == fieldOf v 20 16) ||
    (s.bit Reg.ADC_ROTSTAT 7 && s.fld Reg.ADC_ROTSTAT 11 8 == fieldOf v 20 16))

theorem State.tdacWrite_eq (v : Word) : s.tdacWrite v =
    if ((fieldOf v 13 12 == 1 || fieldOf v 13 12 == 2) && decide (fieldOf v 20 16 < 16)) &&
      (s.guarded (tdacTarget v) || s.inLoop (tdacTarget v) || s.underCal (tdacTarget v) || s.rotHolds v) then
      s.testRefuse 31 (tdacTarget v)
    else { s.wr Reg.ADC_TDAC (v &&& 0x401F3FFF) with
      meas := { s.meas with tst := { s.meas.tst with tdacReq := some (v &&& 0x401F3FFF) } } } := rfl

theorem State.testRefuse_shows (b e : Nat) (hb : b < 32) : (s.testRefuse b e).meas = s.meas ∧ (s.testRefuse b e).bit Reg.ADC_TSTAT b = true ∧
    Raised s (s.testRefuse b e) (E.TEST_REFUSED (e % 256)) ∧ Keeps s (s.testRefuse b e) [Reg.ADC_TSTAT] := by
  have hf : State.Frame (fun a _ => a = Reg.ADC_TSTAT) (fun _ => False) s (s.setBit Reg.ADC_TSTAT b true) := .setBit (.refl s) _ _ _ rfl
  have hf' : State.Frame (fun a _ => a = Reg.ADC_TSTAT) (fun _ => True) s (s.setBit Reg.ADC_TSTAT b true) :=
    hf.mono (fun _ _ h => h) (fun _ h => h.elim)
  refine ⟨State.raise_meas _ _, ?_, hf.raisedAfter _ rfl id (by decide : 228 ≠ 1) (by decide : 228 ≠ 35), ?_⟩
  · rw [State.bit, State.testRefuse, State.raise_rd _ _ _ (by decide : 228 < 256) (by decide)]
    exact State.bit_setBit _ _ _ _ hb
  · exact (hf'.raise _ (by decide : 228 < 256) (.inl trivial)).keeps fun a i h => by simpa using h

theorem tdacTarget_and (v : Word) : tdacTarget (v &&& word 0x401F3FFF) = tdacTarget v ∧
    fieldOf (v &&& word 0x401F3FFF) 13 12 = fieldOf v 13 12 ∧ fieldOf (v &&& word 0x401F3FFF) 20 16 = fieldOf v 20 16 := by
  have h1 : fieldOf (v &&& word 0x401F3FFF) 13 12 = fieldOf v 13 12 := fieldOf_and _ _ _ _ (by decide) (by decide)
  have h2 : fieldOf (v &&& word 0x401F3FFF) 20 16 = fieldOf v 20 16 := fieldOf_and _ _ _ _ (by decide) (by decide)
  exact ⟨by rw [tdacTarget, tdacTarget, h1, h2], h1, h2⟩

theorem hostWrite_tdac (p : Port) (v : Word) (hr : s.runs = true) :
    (s.hostWrite p Reg.ADC_TDAC v).Counted (s.tdacWrite (v &&& word 0x401F3FFF)) :=
  s.hostWrite_direct (k := Reg.ADC_TDAC) (by decide) p _ hr rfl (by decide) (by decide) (by decide) rfl

theorem State.testDac_stored (p : Port) (v : Word) (hr : s.runs = true) (hg : s.guarded (tdacTarget v) = false)
    (hl : s.inLoop (tdacTarget v) = false) (hc : s.underCal (tdacTarget v) = false) (h0 : s.rotPhase = 0)
    (h7 : s.bit Reg.ADC_ROTSTAT 7 = false) : Completes (.testDacWrite p v) s (fun t => t.rd Reg.ADC_TDAC = v &&& 0x401F3FFF ∧
      t.meas.tst.tdacReq = some (v &&& 0x401F3FFF) ∧ t.meas.tst.tdac = s.meas.tst.tdac ∧ Keeps s t [Reg.ADC_TDAC]) := by
  have hw := hostWrite_tdac s p v hr
  obtain ⟨he, -, -⟩ := tdacTarget_and v
  have hrot : s.rotHolds (v &&& word 0x401F3FFF) = false := by
    rw [State.rotHolds, h0, h7, bne_self_eq_false, Bool.false_and, Bool.false_and, Bool.or_false, Bool.and_false]
  have hm : v &&& word 0x401F3FFF &&& 0x401F3FFF = v &&& 0x401F3FFF := by rw [BitVec.and_assoc]; rfl
  rw [s.tdacWrite_eq, he, hg, hl, hc, hrot, if_neg (by simp), hm] at hw
  refine ⟨_, rfl, (hw.rd (by decide)).trans (State.rd_wr_same _ _ _), ?_, ?_, hw.keeps ?_⟩
  · exact hw.same (·.meas.tst.tdacReq) (fun _ _ => rfl)
  · exact hw.same (·.meas.tst.tdac) (fun _ _ => rfl)
  · exact .of (fun a ha _ => State.rd_wr_ne _ _ _ _ (fun h => ha (h ▸ List.mem_cons_self))) rfl rfl

theorem State.testDac_refused (p : Port) (v : Word) (hr : s.runs = true) (ht : fieldOf v 13 12 = 1 ∨ fieldOf v 13 12 = 2)
    (hch : fieldOf v 20 16 < 16) (hg : s.guarded (tdacTarget v) = true) : Completes (.testDacWrite p v) s (fun t =>
      t.meas = s.meas ∧ t.bit Reg.ADC_TSTAT 31 = true ∧ Raised s t (E.TEST_REFUSED (tdacTarget v)) ∧ Keeps s t [Reg.ADC_TSTAT]) := by
  have hw := hostWrite_tdac s p v hr
  obtain ⟨he, h1, h2⟩ := tdacTarget_and v
  have hb : (fieldOf v 13 12 == 1 || fieldOf v 13 12 == 2) = true := by simpa using ht
  have hlt : tdacTarget v % 256 = tdacTarget v := Nat.mod_eq_of_lt (by unfold tdacTarget; split <;> omega)
  rw [s.tdacWrite_eq, he, h1, h2, hg, hb, decide_eq_true hch, if_pos (by simp)] at hw
  obtain ⟨k1, k2, k3, k4⟩ := s.testRefuse_shows 31 (tdacTarget v) (by decide)
  rw [hlt] at k3
  exact ⟨_, rfl, (hw.same (·.meas) (fun _ _ => rfl)).trans k1, (congrArg (bitOf · 31) (hw.rd (by decide))).trans k2, hw.raised k3, hw.keeps k4⟩

/-! ### ADC_HTEST -/

theorem fieldOf_htest (v : Word) : fieldOf (v &&& word 0xFFF) 3 0 = fieldOf v 3 0 ∧ fieldOf (v &&& word 0xFFF) 9 4 = fieldOf v 9 4 :=
  ⟨fieldOf_and _ _ _ _ (by decide) (by decide), fieldOf_and _ _ _ _ (by decide) (by decide)⟩

/-- A head test names an input of a feeder that is in INRUSH or ON (R292). -/
def State.htestFeeder (n k : Nat) : Bool :=
  (s.linkFeeders n).any (fun f => (s.fdrState f == 1 || s.fdrState f == 2) && (k == 2 * s.fdrPh f || k == 2 * s.fdrPh f + 1))

theorem State.htestWrite_eq (v : Word) : s.htestWrite v =
    if !s.linkUp (fieldOf v 3 0) || decide (s.fld (Reg.LNK_HID (fieldOf v 3 0)) 31 24 ≤ fieldOf v 9 4) ||
      s.htestFeeder (fieldOf v 3 0) (fieldOf v 9 4) || s.guarded (s.htestEntry v) || s.inLoop (s.htestEntry v) || s.underCal (s.htestEntry v) then
      s.testRefuse 30 (s.htestEntry v)
    else { s.wr Reg.ADC_HTEST (v &&& 0xFFF) with
      meas := { s.meas with tst := { s.meas.tst with htReq := s.meas.tst.htReq ++ [v &&& 0xFFF] } } } := rfl

theorem State.htestEntry_and (v : Word) : s.htestEntry (v &&& word 0xFFF) = s.linkEntry (fieldOf v 3 0) (fieldOf v 9 4) := by
  rw [State.htestEntry, (fieldOf_htest v).1, (fieldOf_htest v).2]

theorem hostWrite_htest (p : Port) (v : Word) (hr : s.runs = true) :
    (s.hostWrite p Reg.ADC_HTEST v).Counted (s.pairWrite Reg.ADC_HTEST (v &&& word 0xFFF)) := by
  have hd : directReg Reg.ADC_HTEST = true := by decide
  exact s.hostWrite_counted p Reg.ADC_HTEST Reg.ADC_HTEST v ⟨0x3C54, 0x10000000, 1, 4, 1, 0, 0xFFF, 0, 0, 0, 0xFFF, none, []⟩
    (State.fabricUp_runs s hr) (mapped_direct hd s hr) (plainAddr_direct hd) (fwBusy_direct hd s p) (keyOf_direct hd s p) rfl

theorem State.headTest_stored (p : Port) (v : Word) (hr : s.runs = true) (hn : s.actsNow = true) (hu : s.linkUp (fieldOf v 3 0) = true)
    (hk : fieldOf v 9 4 < s.fld (Reg.LNK_HID (fieldOf v 3 0)) 31 24)
    (hf : (s.linkFeeders (fieldOf v 3 0)).all (fun f => s.fdrState f == 0 || s.fdrState f == 3) = true)
    (hg : s.guarded (s.linkEntry (fieldOf v 3 0) (fieldOf v 9 4)) = false) (hl : s.inLoop (s.linkEntry (fieldOf v 3 0) (fieldOf v 9 4)) = false)
    (hc : s.underCal (s.linkEntry (fieldOf v 3 0) (fieldOf v 9 4)) = false) : Completes (.headTestWrite p v) s (fun t =>
      t.rd Reg.ADC_HTEST = v &&& 0xFFF ∧ t.meas.tst.htReq = s.meas.tst.htReq ++ [v &&& 0xFFF] ∧ Keeps s t [Reg.ADC_HTEST]) := by
  have hw := hostWrite_htest s p v hr
  obtain ⟨h1, h2⟩ := fieldOf_htest v
  have hfd : s.htestFeeder (fieldOf v 3 0) (fieldOf v 9 4) = false := by
    refine List.any_eq_false.mpr fun f hm => ?_
    have := List.all_eq_true.mp hf f hm
    rw [Bool.or_eq_true, beq_iff_eq, beq_iff_eq] at this
    rcases this with h | h <;> simp [h]
  have hm : v &&& word 0xFFF &&& 0xFFF = v &&& 0xFFF := by rw [BitVec.and_assoc]; rfl
  have hp : s.pairWrite Reg.ADC_HTEST (v &&& word 0xFFF) = s.htestWrite (v &&& word 0xFFF) := by
    simp only [State.actsNow, Bool.and_eq_true, Bool.not_eq_true'] at hn
    exact (if_neg (by rw [hn.1]; decide)).trans (if_neg (by rw [hn.2]; decide))
  rw [hp, s.htestWrite_eq, s.htestEntry_and, h1, h2, hu, hfd, hg, hl, hc, decide_eq_false (by omega), if_neg (by simp), hm] at hw
  refine ⟨_, rfl, (hw.rd (by decide)).trans (State.rd_wr_same _ _ _), ?_, hw.keeps ?_⟩
  · exact hw.same (·.meas.tst.htReq) (fun _ _ => rfl)
  · exact .of (fun a ha _ => State.rd_wr_ne _ _ _ _ (fun h => ha (h ▸ List.mem_cons_self))) rfl rfl

theorem State.headTest_refused (p : Port) (v : Word) (hr : s.runs = true)
    (h : s.linkUp (fieldOf v 3 0) = false ∨ s.notActiveInPair = true) (hf : s.forwards = false) : Completes (.headTestWrite p v) s (fun t =>
      t.meas = s.meas ∧ t.bit Reg.ADC_TSTAT 30 = true ∧ Raised s t (E.TEST_REFUSED (s.linkEntry (fieldOf v 3 0) (fieldOf v 9 4) % 256)) ∧
      Keeps s t [Reg.ADC_TSTAT]) := by
  have hw := hostWrite_htest s p v hr
  have hp : s.pairWrite Reg.ADC_HTEST (v &&& word 0xFFF) = s.testRefuse 30 (s.linkEntry (fieldOf v 3 0) (fieldOf v 9 4)) := by
    rw [← s.htestEntry_and]
    by_cases hn : s.notActiveInPair = true
    · exact if_pos hn
    · have hu := h.resolve_right hn
      refine (if_neg hn).trans ((if_neg (by rw [hf]; decide)).trans ?_)
      refine (s.htestWrite_eq (v &&& word 0xFFF)).trans (if_pos ?_)
      rw [(fieldOf_htest v).1, hu]
      simp
  rw [hp] at hw
  obtain ⟨k1, k2, k3, k4⟩ := s.testRefuse_shows 30 (s.linkEntry (fieldOf v 3 0) (fieldOf v 9 4)) (by decide)
  exact ⟨_, rfl, (hw.same (·.meas) (fun _ _ => rfl)).trans k1, (congrArg (bitOf · 30) (hw.rd (by decide))).trans k2, hw.raised k3, hw.keeps k4⟩

end

/-- Settles O37: a step goes from phase to phase by the finding of its check, and a path test is stored or refused by what holds its channel. -/
theorem rotationAndPathTests : Obligations.RotationAndPathTests := by
  unfold Obligations.RotationAndPathTests
  refine ⟨fun s hr => ⟨fun k hd hm hk => ?_, fun k raw hk hp hc => s.rotResult_completes hr hk raw hp hc,
    fun k h => s.exec_rotationCheckDone_none h, fun k hc hk => ?_⟩, fun p v s hr => ?_⟩
  · obtain ⟨k1, k2, k3⟩ := s.rotStarted_shows (s.nextPrec_lt hk)
    exact ⟨_, s.exec_rotationStepStart hr hd hm hk, k1, k2, rfl, rfl, rfl, rfl, k3⟩
  · have hx : ∀ n, s.rotPhase = n → n ≠ 0 → exec (.rotationCheckDone k) s = .next (s.rotFound s.rotPass) := fun n h hn =>
      s.exec_rotationCheckDone hr (by rw [h]; exact hn) hk hc
    refine ⟨fun h1 ht => ⟨_, hx 1 h1 (by decide), ?_⟩, fun h1 ht hp => ⟨_, hx 1 h1 (by decide), ?_⟩,
      fun h1 ht hp => ⟨_, hx 1 h1 (by decide), ?_⟩, fun h2 hp => ⟨_, hx 2 h2 (by decide), ?_⟩,
      fun h2 hp => ⟨_, hx 2 h2 (by decide), ?_⟩, fun h3 => ⟨_, hx 3 h3 (by decide), ?_⟩⟩
    · rw [s.rotFound_overlap h1 ht]
      cases hpass : s.rotPass
      · obtain ⟨k1, k2, k3⟩ := s.rotNext_shows (fun r => { r with spareTest := true, overlapBad := true })
        simp only [Bool.false_eq_true, if_false, k1, k2, h1]
        exact ⟨⟨rfl, rfl⟩, fun h => h.elim, fun _ => ⟨trivial, rfl, rfl, k3⟩⟩
      · obtain ⟨k1, k2, k3⟩ := s.rotNextPhase_shows id (p := 2) (by decide)
        simp only [if_true, k1, k2]
        exact ⟨⟨rfl, rfl⟩, fun _ => ⟨trivial, k3⟩, fun h => absurd h (by decide)⟩
    · rw [hp, s.rotFound_spareFails h1 ht hk]
      obtain ⟨k1, k2, k3⟩ := s.spareFailed_shows
      obtain ⟨m1, m2, m3, m4⟩ := State.rotReported k3 rfl 14 k 0 0 k
      exact ⟨(congrArg (fieldOf · 6 4) m1).trans k1, (congrArg (bitOf · 12) m1).trans k2, m2, m3, m4⟩
    · rw [hp, s.rotFound_sparePasses h1 ht]
      by_cases hn : s.meas.rot.check < 2
      · obtain ⟨k1, k2, k3⟩ := s.rotNext_shows (fun r => { r with check := r.check + 1 })
        rw [if_pos hn, k1, k2]
        exact ⟨⟨rfl, rfl⟩, fun _ => ⟨h1, rfl, k3⟩, fun h => absurd hn (by omega)⟩
      · obtain ⟨k1, k2, k3⟩ := s.rotNextPhase_shows (fun r => { r with check := 0, spareTest := false }) (p := 2) (by decide)
        rw [if_neg hn, k1, k2]
        exact ⟨⟨rfl, rfl⟩, fun h => absurd h hn, fun _ => ⟨rfl, rfl, k3⟩⟩
    · rw [hp, s.rotFound_parks h2 hk]
      obtain ⟨k1, k2, k3, k4⟩ := s.parked_shows k.isLt
      obtain ⟨m1, m2, m3, m4⟩ := State.rotReported k4 rfl 13 k s.meas.rot.check 1 k
      exact ⟨(congrArg (fieldOf · 6 4) m1).trans k1, (congrArg (bitOf · 7) m1).trans k2, (congrArg (fieldOf · 11 8) m1).trans k3, m2, m3, m4⟩
    · rw [hp, s.rotFound_levelPasses h2]
      by_cases hn : s.meas.rot.check < 2
      · obtain ⟨k1, k2, k3⟩ := s.rotNext_shows (fun r => { r with check := r.check + 1 })
        rw [if_pos hn, k1, k2]
        exact ⟨⟨rfl, rfl⟩, fun _ => ⟨h2, rfl, k3⟩, fun h => absurd hn (by omega)⟩
      · obtain ⟨k1, k2, k3⟩ := s.rotNextPhase_shows (fun r => { r with check := 0 }) (p := 3) (by decide)
        rw [if_neg hn, k1, k2]
        exact ⟨⟨rfl, rfl⟩, fun h => absurd h hn, fun _ => ⟨rfl, rfl, k3⟩⟩
    · rw [s.rotFound_ends h3]
      obtain ⟨k1, k2, k3, k4⟩ := s.rotEnd_shows hk (s.meas.rot.overlapBad || !s.rotPass)
      refine ⟨k1, k2, fun h => k3 ?_, k4⟩
      rcases h with h | h
      · rw [h, Bool.not_false, Bool.or_true]
      · rw [h, Bool.true_or]
  · exact ⟨fun hg hl hc h0 h7 => s.testDac_stored p v hr hg hl hc h0 h7, fun ht hch hg => s.testDac_refused p v hr ht hch hg,
      fun hn hu hk hf hg hl hc => s.headTest_stored p v hr hn hu hk hf hg hl hc, fun h hf => s.headTest_refused p v hr h hf⟩

end Sys2Proof.Machine
end

section
/-!
PROOFS. The runs of frames with DNERR, which only a received frame and a change of the link's state move.
-/

namespace Sys2Proof.Machine

/-- The run of frames with DNERR of each link (R103). -/
def State.dnRuns (s : State) : Nat → Nat := fun m => (s.link m).dnRun

section
variable (s : State)

theorem State.dnRuns_of {t : State} (h : t.links = s.links) : t.dnRuns = s.dnRuns := by
  funext m
  simp only [State.dnRuns, State.link, h]

theorem State.dnRuns_setLink (n : Nat) {l : LinkSt} (h : l.dnRun = (s.link n).dnRun) : (s.setLink n l).dnRuns = s.dnRuns := by
  funext m
  by_cases hm : n = m
  · subst hm
    by_cases hn : n < 16
    · rw [State.dnRuns, State.setLink_link_same _ _ hn, h]
      rfl
    · simp only [State.dnRuns, State.link, hn, dif_neg, not_false_eq_true]
  · rw [State.dnRuns, State.setLink_link_ne _ _ hm]
    rfl

theorem State.dnRuns_onLink (n : Nat) {f : LinkSt → LinkSt} (h : ∀ l, (f l).dnRun = l.dnRun) : (s.onLink n f).dnRuns = s.dnRuns :=
  s.dnRuns_setLink n (h _)

theorem State.dnRuns_put (a hi lo v : Nat) : (s.put a hi lo v).dnRuns = s.dnRuns := rfl
theorem State.dnRuns_setBit (a i : Nat) (b : Bool) : (s.setBit a i b).dnRuns = s.dnRuns := rfl
theorem State.dnRuns_onSg (k : Nat) (f : StgSt → StgSt) : (s.onSg k f).dnRuns = s.dnRuns := rfl

theorem State.dnRuns_raise (e : Ev) : (s.raise e).dnRuns = s.dnRuns := State.dnRuns_of _ (State.raise_links _ _)
theorem State.dnRuns_fault (k i a : Nat) : (s.fault k i a).dnRuns = s.dnRuns := State.dnRuns_of _ (State.fault_links _ _ _ _)

/-! ## Edges and pulses -/

theorem State.dnRuns_removeEdge (i ev t : Nat) : (s.removeEdge i ev t).dnRuns = s.dnRuns :=
  ite_part State.dnRuns rfl (s.dnRuns_onLink _ fun _ => rfl)

theorem State.dnRuns_placeEdge (i ev t : Nat) : (s.placeEdge i ev t).dnRuns = s.dnRuns :=
  ite_part State.dnRuns rfl (ite_part State.dnRuns (s.dnRuns_onLink _ fun _ => rfl) rfl)

theorem State.dnRuns_unplace (i : Nat) (p : Pulse) : (s.unplace i p).dnRuns = s.dnRuns := by
  unfold State.unplace
  extract_lets s1 s2
  have h1 : s1.dnRuns = s.dnRuns := by
    simp only [s1]
    split
    · exact s.dnRuns_removeEdge ..
    · rfl
  have h2 : s2.dnRuns = s1.dnRuns := by
    simp only [s2]
    split
    · exact s1.dnRuns_removeEdge ..
    · rfl
  exact h2.trans h1

theorem State.dnRuns_addPulse (i : Nat) (p : Pulse) : (s.addPulse i p).dnRuns = s.dnRuns := by
  unfold State.addPulse
  extract_lets s1 s2
  have h1 : s1.dnRuns = s.dnRuns := by
    simp only [s1]
    split
    · exact s.dnRuns_placeEdge ..
    · rfl
  have h2 : s2.dnRuns = s1.dnRuns := by
    simp only [s2]
    split
    · exact s1.dnRuns_placeEdge ..
    · rfl
  exact h2.trans h1

theorem State.dnRuns_dropPulses (i : Nat) : (s.dropPulses i).dnRuns = s.dnRuns :=
  foldl_part State.dnRuns (fun s p => s.unplace i p) (fun s p => s.dnRuns_unplace i p) _ s

theorem State.dnRuns_discardEdges (i : Nat) : (s.discardEdges i).dnRuns = s.dnRuns :=
  ite_part State.dnRuns rfl (State.dnRuns_onLink (s.onPh i _) _ fun _ => rfl)

theorem State.dnRuns_placePeriod (k start len lim : Nat) : (s.placePeriod k start len lim).dnRuns = s.dnRuns := by
  unfold State.placePeriod
  refine foldl_part State.dnRuns _ (fun s i => ?_) _ s
  extract_lets st inside old s1 s2
  have h1 : s1.dnRuns = s.dnRuns := foldl_part State.dnRuns (fun s p => s.unplace i p) (fun s p => s.dnRuns_unplace i p) _ s
  exact ite_part State.dnRuns rfl ((s2.dnRuns_addPulse ..).trans h1)

/-! ## Stages -/

theorem State.dnRuns_respaceStep (k start : Nat) : (s.respaceStep k start).dnRuns = s.dnRuns := by
  unfold State.respaceStep
  extract_lets g m done s1 s2
  have h1 : s1.dnRuns = s.dnRuns := by
    refine foldl_part State.dnRuns _ (fun s i => ?_) _ s
    rfl
  exact ite_part State.dnRuns (ite_part State.dnRuns ((State.dnRuns_raise _ _).trans h1) h1) rfl

theorem State.dnRuns_formPeriod (k start len : Nat) : (s.formPeriod k start len).dnRuns = s.dnRuns := by
  unfold State.formPeriod
  extract_lets s1 s2
  have h1 : s1.dnRuns = s.dnRuns := ite_part State.dnRuns rfl (s.dnRuns_respaceStep ..)
  have h2 : s2.dnRuns = s1.dnRuns := by
    refine foldl_part State.dnRuns _ (fun s i => ?_) _ s1
    rfl
  exact (s2.dnRuns_placePeriod ..).trans (h2.trans h1)

theorem State.dnRuns_formNext (k : Nat) : (s.formNext k).dnRuns = s.dnRuns := State.dnRuns_formPeriod (s.onSg k _) ..

theorem State.dnRuns_reform (k : Nat) (relen : Bool) : (s.reform k relen).dnRuns = s.dnRuns := by
  unfold State.reform
  extract_lets g redo kept rm
  cases redo with
  | nil => rfl
  | cons f l =>
    refine (foldl_part State.dnRuns _ (fun s p => ite_part State.dnRuns (s.dnRuns_formNext k) (s.dnRuns_formPeriod ..)) _ _).trans ?_
    refine ite_part State.dnRuns ?_ rfl
    refine foldl_part State.dnRuns _ (fun s i => ?_) _ _
    rfl

theorem State.dnRuns_countPhases (k : Nat) : (s.countPhases k).dnRuns = s.dnRuns := by
  unfold State.countPhases
  exact (State.dnRuns_put ..).trans ((State.dnRuns_put ..).trans ((State.dnRuns_put ..).trans (State.dnRuns_put ..)))

theorem State.dnRuns_setActiveFrom (k : Nat) (fresh force : Bool) : (s.setActiveFrom k fresh force).dnRuns = s.dnRuns := by
  unfold State.setActiveFrom
  extract_lets want had s1 s2 s3 s4 s5
  have h1 : s1.dnRuns = s.dnRuns := by
    refine foldl_part State.dnRuns _ (fun s i => ?_) _ s
    exact ite_part State.dnRuns rfl rfl
  have h2 : s2.dnRuns = s1.dnRuns := foldl_part State.dnRuns _ (fun s i =>
    ite_part State.dnRuns rfl ((State.dnRuns_setBit ..).trans (s.dnRuns_dropPulses i))) _ s1
  have h3 : s3.dnRuns = s2.dnRuns := by
    refine foldl_part State.dnRuns _ (fun s x => ?_) _ s2
    exact ite_part State.dnRuns rfl rfl
  have h4 : s4.dnRuns = s2.dnRuns := by
    simp only [s4]
    generalize s3 = x at h3 ⊢
    exact h3
  have h5 : s5.dnRuns = s2.dnRuns := ite_part State.dnRuns rfl (ite_part State.dnRuns h3 ((s4.dnRuns_reform ..).trans h4))
  exact (s5.dnRuns_countPhases k).trans (h5.trans (h2.trans h1))

theorem State.dnRuns_noteEdge (i ev t : Nat) : (s.noteEdge i ev t).dnRuns = s.dnRuns := by
  unfold State.noteEdge
  split
  · exact ite_part State.dnRuns rfl rfl
  · exact ite_part State.dnRuns rfl rfl

theorem State.dnRuns_forceLocal (n : Nat) : (s.forceLocal n).dnRuns = s.dnRuns := by
  have h : (s.noteLocal n 3 s.now).dnRuns = s.dnRuns := ite_part State.dnRuns (s.dnRuns_noteEdge ..) rfl
  exact h

theorem LinkSt.reline_dnRun (l : LinkSt) : l.reline.dnRun = l.dnRun := rfl

theorem LinkSt.abort_dnRun (l : LinkSt) (c mask : Nat) : (l.abort c mask).dnRun = l.dnRun := by
  unfold LinkSt.abort
  split <;> rfl

theorem LinkSt.ite_dnRun {c : Prop} [Decidable c] {x y l : LinkSt} (hx : x.dnRun = l.dnRun) (hy : y.dnRun = l.dnRun) :
    (if c then x else y).dnRun = l.dnRun := by
  split
  · exact hx
  · exact hy

theorem State.dnRuns_sendReflex (n act mask : Nat) : (s.sendReflex n act mask).dnRuns = s.dnRuns := by
  unfold State.sendReflex
  extract_lets l m l1
  have h1 : l1.dnRun = l.dnRun := by
    simp only [l1]
    split <;> rfl
  refine ite_part State.dnRuns ?_ rfl
  split
  · exact s.dnRuns_setLink n h1
  · exact s.dnRuns_setLink n (LinkSt.ite_dnRun ((l1.abort_dnRun ..).trans h1) h1)

theorem State.dnRuns_reflexPhases (act : Nat) (is : List Nat) : (s.reflexPhases act is).dnRuns = s.dnRuns :=
  foldl_part State.dnRuns _ (fun s _ => ite_part State.dnRuns rfl (s.dnRuns_sendReflex ..)) _ s

theorem State.dnRuns_forcePhases (is : List Nat) (cause : Nat) : (s.forcePhases is cause).dnRuns = s.dnRuns := by
  refine (State.dnRuns_reflexPhases _ _ _).trans (foldl_part State.dnRuns _ (fun s i => ?_) _ s)
  extract_lets s1 s2 s3
  have h2 : s2.dnRuns = s.dnRuns :=
    (ite_part State.dnRuns (State.dnRuns_forceLocal ..) (State.dnRuns_noteEdge ..)).trans (s.dnRuns_discardEdges i)
  exact ite_part State.dnRuns h2 h2

theorem State.dnRuns_leaveRun (k : Nat) : (s.leaveRun k).dnRuns = s.dnRuns := State.dnRuns_of _ (by unfold State.leaveRun; rfl)

theorem State.dnRuns_stageSafe (k cause : Nat) (fwd : Bool) : (s.stageSafe k cause fwd).dnRuns = s.dnRuns := by
  unfold State.stageSafe
  extract_lets st s1 s2 s3 s4
  have h1 : s1.dnRuns = s.dnRuns := State.dnRuns_of _ rfl
  have h2 : s2.dnRuns = s.dnRuns := (s1.dnRuns_forcePhases ..).trans h1
  have h3 : s3.dnRuns = s.dnRuns := (State.dnRuns_setBit ..).trans ((State.dnRuns_put ..).trans ((s2.dnRuns_put ..).trans h2))
  have h4 : s4.dnRuns = s.dnRuns := (State.dnRuns_leaveRun ..).trans ((s3.dnRuns_onSg ..).trans h3)
  exact ite_part State.dnRuns rfl ((State.dnRuns_raise _ _).trans ((s4.dnRuns_countPhases k).trans h4))

theorem State.dnRuns_stageFaultSafe (k cause : Nat) (fwd : Bool) : (s.stageFaultSafe k cause fwd).dnRuns = s.dnRuns :=
  ite_part State.dnRuns (s.dnRuns_stageSafe ..) rfl

theorem State.dnRuns_stageFaultCheck (k : Nat) : (s.stageFaultCheck k).dnRuns = s.dnRuns :=
  ite_part State.dnRuns ((State.dnRuns_stageSafe ..).trans (s.dnRuns_fault ..)) rfl

theorem State.dnRuns_phaseForce (i : Nat) : (s.phaseForce i).dnRuns = s.dnRuns :=
  ite_part State.dnRuns (s.dnRuns_forcePhases ..)
    ((State.dnRuns_stageFaultCheck ..).trans ((State.dnRuns_setActiveFrom ..).trans (s.dnRuns_forcePhases ..)))

theorem State.dnRuns_phaseOff (i : Nat) : (s.phaseOff i).dnRuns = s.dnRuns := by
  unfold State.phaseOff
  extract_lets t cut due s1 _ dt s2
  have h0 : (cut.foldl (fun s p => s.unplace i p) s).dnRuns = s.dnRuns := foldl_part State.dnRuns _ (fun s p => s.dnRuns_unplace i p) _ s
  have h1 : s1.dnRuns = s.dnRuns := (State.dnRuns_noteEdge ..).trans h0
  exact ite_part State.dnRuns h1 ((State.dnRuns_reflexPhases ..).trans h1)

theorem State.dnRuns_startSpur (k : Nat) : (s.startSpur k).dnRuns = s.dnRuns := by
  unfold State.startSpur
  extract_lets ts p t n x y
  have hx : x.dnRuns = s.dnRuns := by
    refine foldl_part State.dnRuns _ (fun s i => ?_) _ s
    exact (foldl_part State.dnRuns _ (fun s m => ite_part State.dnRuns rfl (s.dnRuns_addPulse ..)) _ _).trans (s.dnRuns_discardEdges i)
  exact (State.dnRuns_raise _ _).trans ((y.dnRuns_reform k false).trans hx)

theorem State.dnRuns_releaseSpur (k : Nat) : (s.releaseSpur k).dnRuns = s.dnRuns := by
  unfold State.releaseSpur
  extract_lets last x te y z
  have hx : x.dnRuns = s.dnRuns := by
    refine foldl_part State.dnRuns _ (fun s i => ?_) _ s
    refine foldl_part State.dnRuns _ (fun s p => ?_) _ s
    extract_lets v
    have hv : v.dnRuns = s.dnRuns := by
      simp only [v]
      split
      · exact s.dnRuns_removeEdge ..
      · rfl
    split
    · exact (State.dnRuns_removeEdge ..).trans hv
    · exact hv
  have hz : z.dnRuns = y.dnRuns := foldl_part State.dnRuns _ (fun s p => s.dnRuns_placePeriod ..) _ y
  exact (z.dnRuns_reform k false).trans (hz.trans hx)

theorem State.dnRuns_spurTest (k : Nat) (v : Int) : (s.spurTest k v).dnRuns = s.dnRuns := by
  unfold State.spurTest
  extract_lets g dv trig x
  refine ite_part State.dnRuns ?_ rfl
  split
  · exact ite_part State.dnRuns (x.dnRuns_startSpur k) rfl
  · exact ite_part State.dnRuns (x.dnRuns_releaseSpur k) rfl
  · rfl

/-! ## Feeders -/

theorem LinkSt.giveWay_dnRun (l : LinkSt) : l.giveWay.dnRun = l.dnRun := by
  unfold LinkSt.giveWay
  split
  · split <;> rfl
  · rfl

theorem State.dnRuns_addAccess (n : Nat) (a : HeadAccess) : (s.addAccess n a).dnRuns = s.dnRuns := by
  refine s.dnRuns_onLink n fun l => ?_
  split
  · rfl
  · exact l.giveWay_dnRun

theorem State.dnRuns_fdrSendHead (f : Nat) : (s.fdrSendHead f).dnRuns = s.dnRuns := by
  unfold State.fdrSendHead
  extract_lets d n v a acc x
  have hx : x.dnRuns = s.dnRuns :=
    (State.dnRuns_addAccess ..).trans ((State.dnRuns_addAccess ..).trans (s.dnRuns_addAccess ..))
  exact ite_part State.dnRuns hx rfl

theorem State.dnRuns_tripState (f cause : Nat) (fwd : Bool) : (s.tripState f cause fwd).dnRuns = s.dnRuns := by
  unfold State.tripState
  refine ite_part State.dnRuns ?_ (ite_part State.dnRuns rfl rfl)
  extract_lets st s1 s2 s3 s4
  have h3 : s3.dnRuns = s.dnRuns := State.dnRuns_onLink (s2.onFd f _) _ fun _ => rfl
  have h4 : s4.dnRuns = s3.dnRuns := State.dnRuns_of _ (State.raiseWith_links _ _ _ _ _)
  exact (State.dnRuns_fdrSendHead ..).trans ((s4.dnRuns_fault ..).trans (h4.trans h3))

theorem State.dnRuns_tripReflex (f cause : Nat) (fwd : Bool) : (s.tripReflex f cause fwd).dnRuns = s.dnRuns :=
  ite_part State.dnRuns ((State.dnRuns_sendReflex ..).trans (s.dnRuns_tripState ..)) (ite_part State.dnRuns rfl rfl)

theorem State.dnRuns_backstop (n : Nat) : (s.backstop n).dnRuns = s.dnRuns := by
  unfold State.backstop
  extract_lets fs mask x
  have hx : x.dnRuns = s.dnRuns :=
    foldl_part State.dnRuns _ (fun s f => (State.dnRuns_raise _ _).trans (s.dnRuns_tripState ..)) _ s
  exact ite_part State.dnRuns rfl ((x.dnRuns_sendReflex ..).trans hx)

/-! ## Samples -/

theorem State.dnRuns_actOn (act tgt addr : Nat) (repeated : Bool) : (s.actOn act tgt addr repeated).dnRuns = s.dnRuns := by
  unfold State.actOn
  split
  · exact ite_part State.dnRuns (s.dnRuns_phaseOff _) rfl
  · exact ite_part State.dnRuns rfl (ite_part State.dnRuns ((State.dnRuns_phaseForce ..).trans (s.dnRuns_fault ..)) rfl)
  · exact ite_part State.dnRuns rfl (ite_part State.dnRuns (s.dnRuns_tripReflex ..) rfl)
  · exact ite_part State.dnRuns rfl (ite_part State.dnRuns ((State.dnRuns_stageFaultSafe ..).trans (s.dnRuns_fault ..)) rfl)
  · rfl

theorem State.dnRuns_routeAct (route : Word) (addr : Nat) (repeated : Bool) : (s.routeAct route addr repeated).dnRuns = s.dnRuns :=
  ite_part State.dnRuns rfl (State.dnRuns_actOn _ _ _ _ _)

theorem State.dnRuns_wmSample (m : Nat) (v : Int) : (s.wmSample m v).dnRuns = s.dnRuns := by
  unfold State.wmSample
  extract_lets lo hi hys up dn st n route clear count s1 s2 s3 s4
  clear_value st
  have hc : ∀ x : State, (clear x).dnRuns = x.dnRuns := fun x => ite_part State.dnRuns (x.dnRuns_raise _) rfl
  have h1 : s1.dnRuns = s.dnRuns := rfl
  have h2 : s2.dnRuns = s.dnRuns := ite_part State.dnRuns ((hc s1).trans h1) h1
  have h3 : s3.dnRuns = s.dnRuns := rfl
  have h4 : s4.dnRuns = s.dnRuns := ite_part State.dnRuns ((hc s3).trans h3) h3
  split
  · exact ite_part State.dnRuns ((State.dnRuns_routeAct ..).trans h2) h2
  · exact ite_part State.dnRuns ((State.dnRuns_routeAct ..).trans h4) h4
  · exact ite_part State.dnRuns rfl (ite_part State.dnRuns rfl rfl)

theorem State.dnRuns_energySample (e : Nat) (y : Int) (at_ : Nat) : (s.energySample e y at_).dnRuns = s.dnRuns := by
  refine foldl_part State.dnRuns _ (fun s a => ?_) _ s
  extract_lets w x ek
  have hx : x.dnRuns = s.dnRuns := ite_part State.dnRuns rfl rfl
  exact ite_part State.dnRuns (ite_part State.dnRuns hx hx) rfl

theorem State.dnRuns_fdrSample (e : Nat) (v : Int) : (s.fdrSample e v).dnRuns = s.dnRuns := by
  refine foldl_part State.dnRuns _ (fun s f => ?_) _ s
  have hc : (s.fdrCurrent f v).dnRuns = s.dnRuns := ite_part State.dnRuns rfl rfl
  have hv : (s.fdrVoltage f v).dnRuns = s.dnRuns := ite_part State.dnRuns rfl rfl
  exact ite_part State.dnRuns (ite_part State.dnRuns hc (ite_part State.dnRuns hv rfl)) rfl

theorem State.dnRuns_inputSample (e : Nat) (v : Int) : (s.inputSample e v).dnRuns = s.dnRuns := by
  unfold State.inputSample
  extract_lets lo hi bad x low src
  have hx : x.dnRuns = s.dnRuns := by
    refine foldl_part State.dnRuns _ (fun s m => ?_) _ s
    exact ite_part State.dnRuns rfl rfl
  exact ite_part State.dnRuns hx hx

theorem State.dnRuns_consume (e : Nat) (y r : Int) (at_ : Nat) (spare : Bool) : (s.consume e y r at_ spare).dnRuns = s.dnRuns := by
  unfold State.consume
  extract_lets v s1 s2 x s3 s4 s5 s6 s7
  have h2 : s2.dnRuns = s.dnRuns := ite_part State.dnRuns rfl (ite_part State.dnRuns rfl rfl)
  have h3 : s3.dnRuns = s.dnRuns := h2
  have h4 : s4.dnRuns = s.dnRuns := (s3.dnRuns_energySample ..).trans h3
  have h5 : s5.dnRuns = s.dnRuns :=
    (foldl_part State.dnRuns _ (fun s m => ite_part State.dnRuns (s.dnRuns_wmSample m v) rfl) _ s4).trans h4
  have h6 : s6.dnRuns = s.dnRuns := (s5.dnRuns_fdrSample ..).trans h5
  have h7 : s7.dnRuns = s.dnRuns :=
    (foldl_part State.dnRuns _ (fun s k => ite_part State.dnRuns (s.dnRuns_spurTest k v) rfl) _ s6).trans h6
  exact ite_part State.dnRuns h4 ((s7.dnRuns_inputSample ..).trans h7)

theorem State.dnRuns_traceDelivery (e : Nat) : (s.traceDelivery e).dnRuns = s.dnRuns := by
  refine foldl_part State.dnRuns _ (fun s u => ?_) _ s
  have h : (s.traceDue u).dnRuns = s.dnRuns := ite_part State.dnRuns rfl rfl
  exact ite_part State.dnRuns h rfl

theorem State.dnRuns_pushSample (e : Nat) (x : Sample) : (s.pushSample e x).dnRuns = s.dnRuns := State.dnRuns_traceDelivery _ e

theorem State.dnRuns_faultFrom (k src i a : Nat) (b : Bool) : (s.faultFrom k src i a b).dnRuns = s.dnRuns :=
  State.dnRuns_of _ (State.sendFault_links _ _)

theorem State.dnRuns_eccTake (x : EccFlip) (hx : x.region = 3) : (s.eccTake x false).dnRuns = s.dnRuns := by
  have hn : (s.eccNote x.region x.addr x.bits false).dnRuns = s.dnRuns := ite_part State.dnRuns rfl rfl
  unfold State.eccTake
  refine ite_part State.dnRuns ?_ ((State.dnRuns_faultFrom _ _ _ _ _ _).trans hn)
  rw [hx] at hn ⊢
  exact (State.dnRuns_fault _ _ _ _).trans hn

theorem State.dnRuns_eccTouch (addr : Nat) : (s.eccTouch 3 addr).dnRuns = s.dnRuns := by
  unfold State.eccTouch State.eccRead
  have h : ∀ l : List EccFlip, (∀ x ∈ l, x.region = 3) → ∀ s : State, (l.foldl (fun s x => s.eccTake x false) s).dnRuns = s.dnRuns := by
    intro l
    induction l with
    | nil => exact fun _ _ => rfl
    | cons x l ih => exact fun hl s => (ih (fun y hy => hl y (List.mem_cons_of_mem _ hy)) _).trans (s.dnRuns_eccTake x (hl x List.mem_cons_self))
  refine h _ (fun x hx => ?_) s
  rw [List.mem_filter, Bool.and_eq_true, Bool.and_eq_true, beq_iff_eq] at hx
  exact hx.2.1.1

theorem State.dnRuns_deliver (e ce : Nat) (r : Int) (at_ gap : Nat) (spare : Bool) : (s.deliver e ce r at_ gap spare).dnRuns = s.dnRuns := by
  rw [State.deliver_eq]
  have hx : (s.deliverFrom ce (s.calibrate ce r).2).dnRuns = s.dnRuns := by
    unfold State.deliverFrom
    extract_lets x
    have h : x.dnRuns = s.dnRuns := s.dnRuns_eccTouch _
    have ho : (x.setOvr ce).dnRuns = x.dnRuns :=
      ite_part State.dnRuns rfl (ite_part State.dnRuns rfl (ite_part State.dnRuns rfl rfl))
    exact ite_part State.dnRuns (ho.trans h) h
  generalize s.deliverFrom ce (s.calibrate ce r).2 = x at hx ⊢
  have ht : ∀ v, (x.testValue e v).dnRuns = x.dnRuns := fun v => ite_part State.dnRuns rfl rfl
  exact ite_part State.dnRuns ((State.dnRuns_pushSample ..).trans ((ht _).trans hx))
    ((State.dnRuns_consume ..).trans ((State.dnRuns_pushSample ..).trans hx))

/-! ## Replies and digests -/

theorem State.dnRuns_accessDone (n : Nat) (ok diff : Bool) (v : Word) : (s.accessDone n ok diff v).dnRuns = s.dnRuns := by
  unfold State.accessDone
  split
  · rfl
  · next a _ =>
    extract_lets x y z
    have hx : x.dnRuns = s.dnRuns := s.dnRuns_onLink n fun _ => rfl
    have hz : z.dnRuns = s.dnRuns := by
      simp only [z]
      split
      · exact ite_part State.dnRuns hx hx
      · exact (ite_part State.dnRuns rfl rfl : (x.fdrHeadDone _ ok).dnRuns = x.dnRuns).trans hx
      · exact hx
    exact ite_part State.dnRuns ((State.dnRuns_raise _ _).trans hz) hz

theorem State.dnRuns_accessRetry (n : Nat) (diff : Bool) (v : Word) : (s.accessRetry n diff v).dnRuns = s.dnRuns := by
  unfold State.accessRetry
  split
  · rfl
  · exact ite_part State.dnRuns (s.dnRuns_accessDone ..) (s.dnRuns_onLink n fun _ => rfl)

theorem State.dnRuns_accessWord (n w : Nat) : (s.accessWord n w).dnRuns = s.dnRuns := by
  unfold State.accessWord
  split
  · rfl
  · refine ite_part State.dnRuns (ite_part State.dnRuns (s.dnRuns_onLink n fun _ => rfl) rfl) ?_
    refine ite_part State.dnRuns (s.dnRuns_onLink n fun _ => rfl) ?_
    exact ite_part State.dnRuns (s.dnRuns_accessDone ..) (s.dnRuns_accessRetry ..)

theorem State.dnRuns_mismatch (n : Nat) : (s.mismatch n).dnRuns = s.dnRuns := by
  unfold State.mismatch
  extract_lets x late y
  exact ite_part State.dnRuns rfl (State.dnRuns_raise _ _)

theorem State.dnRuns_rxDigest (n obey : Nat) (f : BitVec 8) (digest : BitVec 12) : (s.rxDigest n obey f digest).dnRuns = s.dnRuns := by
  unfold State.rxDigest
  extract_lets l partner
  refine ite_part State.dnRuns (ite_part State.dnRuns (s.dnRuns_onLink n fun _ => rfl) (ite_part State.dnRuns ?_ rfl)) rfl
  split
  · exact ite_part State.dnRuns rfl (s.dnRuns_mismatch n)
  · rfl

theorem State.dnRuns_rxSamples (n : Nat) (f : BitVec 8) (frame : BitVec 160) : (s.rxSamples n f frame).dnRuns = s.dnRuns := by
  unfold State.rxSamples
  refine foldl_part State.dnRuns _ (fun s x => ?_) _ s
  split
  · exact s.dnRuns_deliver ..
  · exact ite_part State.dnRuns (s.dnRuns_accessWord ..) rfl

end

end Sys2Proof.Machine
end

section
/-!
PROOFS. Upstream frames (O18).
-/

namespace Sys2Proof.Machine

/-- The registers of links lie apart from the side registers. -/
theorem sideReg_linkCounts : ∀ n : Fin 16, sideReg (Reg.LNK_LOST n) = false ∧ sideReg (Reg.LNK_CRCERR n) = false ∧
    sideReg (Reg.LNK_RTT n) = false ∧ sideReg (Reg.LNK_STAT n) = false := by decide +kernel

section
variable (s : State)

/-! ## The parts that a stale delivery leaves -/

/-- Everything but the channels, the rotation and the trace units that a stale delivery could reach. -/
def State.quietParts (s : State) := (s.frameParts, s.links, s.flt, s.linj)

theorem State.traceDelivery_quiet (e : Nat) : (s.traceDelivery e).quietParts = s.quietParts := by
  refine foldl_part State.quietParts _ (fun s u => ?_) _ s
  have h : (s.traceDue u).quietParts = s.quietParts := ite_part State.quietParts rfl rfl
  exact ite_part State.quietParts h rfl

theorem State.deliverStale_quiet (e at_ gap : Nat) : (s.deliverStale e at_ gap).quietParts = s.quietParts := by
  unfold State.deliverStale State.pushSample
  rw [State.traceDelivery_quiet]
  rfl

/-- The stale samples of a row (R104). -/
def State.rowStale (n at_ f : Nat) : State :=
  (s.rowSlots n f).foldl (fun s v => match slotSource v with
    | some k => s.deliverStale (s.linkEntry n k) at_ (s.sourceGap n f k)
    | none => s) s

theorem State.rowStale_quiet (n at_ f : Nat) : (s.rowStale n at_ f).quietParts = s.quietParts := by
  refine foldl_part State.quietParts _ (fun s v => ?_) _ s
  split
  · exact s.deliverStale_quiet ..
  · rfl

variable {s} in
theorem State.quiet_frame {t : State} (h : t.quietParts = s.quietParts) {R : Nat → Nat → Prop} {E : Nat → Prop} : State.Frame R E s t :=
  .of (congrArg (·.1) h)

variable {s} in
theorem State.quiet_link {t : State} (h : t.quietParts = s.quietParts) (n : Nat) : t.link n = s.link n := by
  have hl : t.links = s.links := congrArg (·.2.1) h
  rw [State.link, State.link, hl]

/-- What closes the receipt of a frame: head tests count it, and a finding is held (R291, R337). -/
def State.frameEnd (n : Nat) : State := (s.testFrame n).noteFinding

theorem State.frameEnd_quiet (n : Nat) : (s.frameEnd n).quietParts = s.quietParts := by
  unfold State.frameEnd State.noteFinding
  split
  · rfl
  · rfl

/-! ## Bad and missing frames -/

/-- The register that counts a bad frame, or a missing one. -/
def badCount (n : Nat) (missing : Bool) : Nat := if missing then Reg.LNK_LOST n else Reg.LNK_CRCERR n

/-- The frame is counted and reported (R104, R120). -/
def State.badNoted (n : Nat) (missing : Bool) : State := (s.bump (badCount n missing) 31 0 1).fault 3 n (if missing then 1 else 2)

theorem State.rxBad_eq (n : Nat) (missing : Bool) : s.rxBad n missing =
    ((s.badNoted n missing).rowStale n ((s.badNoted n missing).rxInstant n (s.rxExpected n)) (s.rxExpected n).toNat).onLink n
      (fun l => { l with badRun := min (l.badRun + 1) 3, rx := some (s.rxExpected n + 1) }) := rfl

/-- What a bad frame leaves: its count and its report, and the run of bad frames. -/
structure State.Bad (s : State) (n : Fin 16) (missing : Bool) (t : State) : Prop where
  counted : t.fld (badCount n missing) 31 0 = min (s.fld (badCount n missing) 31 0 + 1) (2 ^ 32 - 1)
  reported : s.flt.inq.length < 256 → Reported t 3 n (if missing then 1 else 2)
  link : t.link n = { s.link n with badRun := min ((s.link n).badRun + 1) 3, rx := some (s.rxExpected n + 1) }
  frame : State.Frame (fun a _ => a = badCount n missing) (fun _ => False) s t

theorem State.rxBad_bad (n : Fin 16) (missing : Bool) : s.Bad n missing ((s.rxBad n missing).frameEnd n) := by
  have hside : sideReg (badCount n missing) = false := by
    obtain ⟨h1, h2, -, -⟩ := sideReg_linkCounts n
    unfold badCount
    split
    · exact h1
    · exact h2
  rw [State.rxBad_eq]
  have hq := (s.badNoted n missing).rowStale_quiet n ((s.badNoted n missing).rxInstant n (s.rxExpected n)) (s.rxExpected n).toNat
  generalize (s.badNoted n missing).rowStale n ((s.badNoted n missing).rxInstant n (s.rxExpected n)) (s.rxExpected n).toNat = x at hq ⊢
  have he := (x.onLink n (fun l => { l with badRun := min (l.badRun + 1) 3, rx := some (s.rxExpected n + 1) })).frameEnd_quiet n
  generalize State.frameEnd _ n.val = t at he ⊢
  have hf : State.Frame (fun a _ => a = badCount n missing) (fun _ => False) s (s.badNoted n missing) :=
    .fault (.bump (.refl s) _ _ _ _ (fun _ _ _ _ => rfl)) ..
  have hxt : State.Frame (fun _ _ => False) (fun _ => False) (s.badNoted n missing) t :=
    ((State.quiet_frame hq).onLink ..).trans (State.quiet_frame he)
  refine ⟨?_, fun hl => ?_, ?_, hf.trans (hxt.mono (fun _ _ h => h.elim) (fun _ h => h))⟩
  · rw [State.fld, hxt.rd (fun _ _ => id) hside, State.badNoted, State.fault_rd _ _ _ _ _ (sideReg_cross hside) (sideReg_drop hside)]
    exact State.fld_bump s _ 31 0 1 (by decide)
  · exact hxt.reported (State.fault_reported _ _ _ _ (.inl hl))
  · have hn : (s.badNoted n missing).link n = s.link n := by
      rw [State.link, State.link, State.badNoted, State.fault_links]
      rfl
    rw [State.quiet_link he, State.onLink_link_same _ _ n.isLt, State.quiet_link hq, hn]

/-! ## Good frames -/

/-- The run of frames with DNERR follows the STATUS byte, and the next frame expected is the one after (R103). -/
theorem State.rxGood_link (n : Fin 16) (g : BitVec 160) : ∃ l : LinkSt, (((s.rxGood n g).frameEnd n).link n) = { l with
    badRun := 0, dnRun := if (upStatus g).testBit 0 then min ((s.link n).dnRun + 1) 3 else 0, rx := some (upFcnt g + 1) } := by
  rw [State.quiet_link ((s.rxGood n g).frameEnd_quiet n)]
  unfold State.rxGood
  extract_lets f status trip s1 dn s2 s3 s4 s5 s6
  have h1 : s1.dnRuns = s.dnRuns := rfl
  have h2 : s2.dnRuns = s.dnRuns := ite_part State.dnRuns h1 h1
  have h3 : s3.dnRuns = s.dnRuns := ite_part State.dnRuns ((s2.dnRuns_backstop n).trans h2) h2
  have h4 : s4.dnRuns = s.dnRuns := h3
  have h5 : s5.dnRuns = s.dnRuns := (s4.dnRuns_rxSamples ..).trans h4
  have h6 : s6.dnRuns = s.dnRuns := (s5.dnRuns_rxDigest ..).trans h5
  have hl : (s6.link n).dnRun = (s.link n).dnRun := congrFun h6 n
  exact ⟨s6.link n, by rw [State.onLink_link_same _ _ n.isLt, hl]⟩

/-! ## What the receiver does first -/

/-- The line bits are descrambled, and the alignment follows SYNC (R89, R90). -/
def State.lineTaken (n : Nat) (line : BitVec 160) : State :=
  s.onLink n (fun l => ({ l with dsc := (descramble line (s.link n).dsc).2 } : LinkSt).noteSync (ffield line 0 1 == 1))

theorem LinkSt.noteSync_shows (l : LinkSt) (ok : Bool) : (l.noteSync ok).dsc = l.dsc ∧ (l.noteSync ok).badRun = l.badRun ∧
    (l.noteSync ok).dnRun = l.dnRun ∧ (l.noteSync ok).rx = l.rx := ⟨rfl, rfl, rfl, rfl⟩

theorem State.lineTaken_link (n : Fin 16) (line : BitVec 160) : ((s.lineTaken n line).link n).dsc = (descramble line (s.link n).dsc).2 ∧
    ((s.lineTaken n line).link n).badRun = (s.link n).badRun ∧ ((s.lineTaken n line).link n).dnRun = (s.link n).dnRun ∧
    ((s.lineTaken n line).link n).rx = (s.link n).rx := by
  rw [State.lineTaken, State.onLink_link_same _ _ n.isLt]
  exact LinkSt.noteSync_shows _ _

/-- The frame expected goes by the link's FCNT, the timeline and the delays. -/
theorem State.rxExpected_congr {s x : State} {n : Nat} (hl : (x.link n).rx = (s.link n).rx) (ht : x.time = s.time)
    (hf : x.frameNo = s.frameNo) (hu : x.upExpect n = s.upExpect n) : x.rxExpected n = s.rxExpected n := by
  unfold State.rxExpected State.now
  rw [hl, ht, hf, hu]

theorem State.lineTaken_expects (n : Fin 16) (line : BitVec 160) : (s.lineTaken n line).upExpect n = s.upExpect n ∧
    (s.lineTaken n line).rxExpected n = s.rxExpected n :=
  ⟨rfl, State.rxExpected_congr (s.lineTaken_link n line).2.2.2 rfl rfl rfl⟩

theorem State.injFrame_none {s : State} (h : s.linj = none) (n : Nat) (up : Bool) (f : Option (BitVec 160)) :
    s.injFrame n up f = (.pass, s) := by
  unfold State.injFrame
  rw [h]

theorem State.exec_upstreamFrame {n : Fin 16} (hr : s.runs = true) (hu : s.linkUp n = true) (hj : s.linj = none) (line : BitVec 160)
    (rtt : Nat) : exec (.upstreamFrame n line rtt) s =
      .next (((s.lineTaken n line).rxUp n (some (descramble line (s.link n).dsc).1) rtt).frameEnd n) := by
  have h0 : (s.linkState n == 0) = false := by
    rw [State.linkUp, beq_iff_eq] at hu
    rw [hu]
    rfl
  have hi : ∀ f, (s.lineTaken n line).injFrame n true f = (.pass, s.lineTaken n line) :=
    State.injFrame_none (s := s.lineTaken n line) hj n true
  have hu' : (s.lineTaken n line).linkUp n = true := hu
  have hseen : (s.lineTaken n line).rxFrameSeen n (some (descramble line (s.link n).dsc).1) rtt =
      ((s.lineTaken n line).rxUp n (some (descramble line (s.link n).dsc).1) rtt).testFrame n := by
    simp only [State.rxFrameSeen, hi, injSeen, hu', if_true]
  change execUpstreamFrame n line rtt s = _
  rw [execUpstreamFrame]
  refine (if_neg (by rw [hr, h0]; decide)).trans ?_
  exact congrArg (fun x : State => Host.Outcome.next x.noteFinding) hseen

theorem State.exec_upstreamMissing {n : Fin 16} (hr : s.runs = true) (h0 : s.linkState n ≠ 0) (hj : s.linj = none) :
    exec (.upstreamFrameMissing n) s = .next ((if s.linkUp n then s.rxBad n true else
      s.onLink n (fun l => { l with rx := l.rx.map (· + 1) })).frameEnd n) := by
  have hz : (s.linkState n == 0) = false := beq_eq_false_iff_ne.mpr h0
  have hi : s.injFrame n true none = (.pass, s) := State.injFrame_none hj n true none
  have hseen : s.rxFrameSeen n none 0 = (if s.linkUp n then s.rxBad n true else
      s.onLink n (fun l => { l with rx := l.rx.map (· + 1) })).testFrame n := by
    simp only [State.rxFrameSeen, hi, injSeen]
    rfl
  change execUpstreamFrameMissing n s = _
  rw [execUpstreamFrameMissing]
  refine (if_neg (by rw [hr, hz]; decide)).trans ?_
  exact congrArg (fun x : State => Host.Outcome.next x.noteFinding) hseen

/-! ## The round trip (R118) -/

theorem sideReg_delays : ∀ n : Fin 16, (Reg.LNK_DLY n ≠ Reg.LNK_RTT n ∧ Reg.LNK_DLY n ≠ Reg.LNK_STAT n ∧ sideReg (Reg.LNK_DLY n) = false) ∧
    Reg.LNK_HSER_HI n ≠ Reg.LNK_RTT n ∧ Reg.LNK_HSER_HI n ≠ Reg.LNK_STAT n ∧ sideReg (Reg.LNK_HSER_HI n) = false := by decide +kernel

theorem State.rxDrift_shows (n : Fin 16) (rtt : Nat) : (s.rxDrift n rtt).fld (Reg.LNK_RTT n) 31 16 = rtt % 65536 ∧
    (s.rxDrift n rtt).links = s.links ∧ (s.rxDrift n rtt).flt = s.flt ∧ (s.rxDrift n rtt).frameNo = s.frameNo ∧
    State.Frame (fun a _ => a = Reg.LNK_RTT n ∨ a = Reg.LNK_STAT n) (fun _ => True) s (s.rxDrift n rtt) := by
  have hf : (s.put (Reg.LNK_RTT n) 31 16 rtt).fld (Reg.LNK_RTT n) 31 16 = rtt % 65536 := State.fld_put _ _ 31 16 _ (by decide)
  have h1 : State.Frame (fun a _ => a = Reg.LNK_RTT n ∨ a = Reg.LNK_STAT n) (fun _ => True) s (s.put (Reg.LNK_RTT n) 31 16 rtt) :=
    .put (.refl s) _ _ _ _ (fun _ _ _ _ => .inl rfl)
  have hsrc : (E.LINK_DRIFT n).src < 256 := by
    change 65 + 2 * n.val < 256
    omega
  unfold State.rxDrift
  extract_lets x t
  split
  · refine ⟨?_, State.raise_links _ _, State.raise_flt _ _, State.raise_frameNo _ _,
      (h1.setBit (Reg.LNK_STAT n) 24 true (.inr rfl)).raise _ hsrc (.inl trivial)⟩
    rw [State.fld, State.raise_rd _ _ _ hsrc (sideReg_cross (sideReg_linkCounts n).2.2.1),
      State.rd_setBit_ne _ _ _ _ _ (by simp only [Reg.LNK_STAT, Reg.LNK_RTT]; omega)]
    exact hf
  · exact ⟨hf, rfl, rfl, rfl, h1⟩

theorem State.rxDrift_expects (n : Fin 16) (rtt : Nat) : (s.rxDrift n rtt).rxExpected n = s.rxExpected n := by
  obtain ⟨-, hl, -, hno, hf⟩ := s.rxDrift_shows n rtt
  obtain ⟨⟨d1, d2, d3⟩, g1, g2, g3⟩ := sideReg_delays n
  have hd : (s.rxDrift n rtt).rd (Reg.LNK_DLY n) = s.rd (Reg.LNK_DLY n) := hf.rd (fun _ _ h => h.elim d1 d2) d3
  have hh : (s.rxDrift n rtt).rd (Reg.LNK_HSER_HI n) = s.rd (Reg.LNK_HSER_HI n) := hf.rd (fun _ _ h => h.elim g1 g2) g3
  refine State.rxExpected_congr ?_ hf.time hno ?_
  · rw [State.link, State.link, hl]
  · simp only [State.upExpect, State.upDelay, State.sfld, State.fld, hd, hh]

/-! ## The outcomes of a frame -/

theorem State.upstreamMissing_completes (n : Fin 16) (hr : s.runs = true) (hj : s.linj = none) :
    (s.linkUp n = true → Completes (.upstreamFrameMissing n) s (fun t =>
      t.fld (Reg.LNK_LOST n) 31 0 = min (s.fld (Reg.LNK_LOST n) 31 0 + 1) (2 ^ 32 - 1) ∧
      (s.flt.inq.length < 256 → Reported t 3 n 1) ∧ (t.link n).badRun = min ((s.link n).badRun + 1) 3 ∧
      (t.link n).rx = some (s.rxExpected n + 1) ∧ Keeps s t [Reg.LNK_LOST n])) ∧
    (s.linkUp n = false → s.linkState n ≠ 0 → Completes (.upstreamFrameMissing n) s (fun t =>
      (t.link n).rx = (s.link n).rx.map (· + 1) ∧ t.linkState n = s.linkState n ∧ Keeps s t [])) := by
  refine ⟨fun hu => ?_, fun hu h0 => ?_⟩
  · have h0 : s.linkState n ≠ 0 := by
      rw [State.linkUp, beq_iff_eq] at hu
      omega
    have hx := s.exec_upstreamMissing hr h0 hj
    rw [if_pos hu] at hx
    obtain ⟨hc, hrep, hl, hf⟩ := s.rxBad_bad n true
    exact ⟨_, hx, hc, hrep, by rw [hl], by rw [hl], hf.keeps fun a i h => by simpa [badCount] using h⟩
  · have hx := s.exec_upstreamMissing hr h0 hj
    rw [if_neg (by rw [hu]; decide)] at hx
    have he := (s.onLink n (fun l => { l with rx := l.rx.map (· + 1) })).frameEnd_quiet n
    have hf : State.Frame (fun _ _ => False) (fun _ => False) s ((s.onLink n (fun l => { l with rx := l.rx.map (· + 1) })).frameEnd n) :=
      ((State.Frame.refl s).onLink ..).trans (State.quiet_frame he)
    refine ⟨_, hx, ?_, ?_, hf.keeps fun _ _ h => h.elim⟩
    · rw [State.quiet_link he, State.onLink_link_same _ _ n.isLt]
    · rw [State.linkState, State.fld, hf.rd (fun _ _ => id) (sideReg_linkCounts n).2.2.2]
      rfl

section
variable {s} {n : Fin 16} (hr : s.runs = true) (hu : s.linkUp n = true) (hj : s.linj = none) (line : BitVec 160) (rtt : Nat)
include hr hu hj

theorem State.upstreamLate_completes (h : 64 < ((rtt : Int) - s.upExpect n).natAbs) : Completes (.upstreamFrame n line rtt) s (fun t =>
    t.fld (Reg.LNK_LOST n) 31 0 = min (s.fld (Reg.LNK_LOST n) 31 0 + 1) (2 ^ 32 - 1) ∧
    (s.flt.inq.length < 256 → Reported t 3 n 1) ∧ (t.link n).badRun = min ((s.link n).badRun + 1) 3 ∧
    (t.link n).dsc = (descramble line (s.link n).dsc).2 ∧ Keeps s t [Reg.LNK_LOST n]) := by
  have hx := s.exec_upstreamFrame hr hu hj line rtt
  have he : (s.lineTaken n line).rxUp n (some (descramble line (s.link n).dsc).1) rtt = (s.lineTaken n line).rxBad n true := by
    refine if_pos ?_
    rw [(s.lineTaken_expects n line).1]
    exact h
  rw [he] at hx
  obtain ⟨k1, k2, -, -⟩ := s.lineTaken_link n line
  obtain ⟨hc, hrep, hl, hf⟩ := (s.lineTaken n line).rxBad_bad n true
  have h0 : State.Frame (fun a _ => a = badCount n true) (fun _ => False) s (s.lineTaken n line) := .of rfl
  exact ⟨_, hx, hc, hrep, by rw [hl, k2], by rw [hl, k1], (h0.trans hf).keeps fun a i h => by simpa [badCount] using h⟩

theorem State.upstreamBad_completes (h : ((rtt : Int) - s.upExpect n).natAbs ≤ 64)
    (hb : (upFrameGood (descramble line (s.link n).dsc).1 && upFcnt (descramble line (s.link n).dsc).1 == s.rxExpected n &&
      ffield (descramble line (s.link n).dsc).1 2 3 == 0) = false) : Completes (.upstreamFrame n line rtt) s (fun t =>
    t.fld (Reg.LNK_CRCERR n) 31 0 = min (s.fld (Reg.LNK_CRCERR n) 31 0 + 1) (2 ^ 32 - 1) ∧
    t.fld (Reg.LNK_RTT n) 31 16 = rtt % 65536 ∧
    (s.flt.inq.length < 256 → Reported t 3 n 2) ∧ (t.link n).badRun = min ((s.link n).badRun + 1) 3 ∧
    (t.link n).dsc = (descramble line (s.link n).dsc).2 ∧ Keeps s t [Reg.LNK_CRCERR n, Reg.LNK_RTT n, Reg.LNK_STAT n]) := by
  have hx := s.exec_upstreamFrame hr hu hj line rtt
  have hexp : ((s.lineTaken n line).rxDrift n rtt).rxExpected n = s.rxExpected n :=
    (State.rxDrift_expects _ n rtt).trans (s.lineTaken_expects n line).2
  have he : (s.lineTaken n line).rxUp n (some (descramble line (s.link n).dsc).1) rtt =
      ((s.lineTaken n line).rxDrift n rtt).rxBad n false := by
    refine (if_neg ?_).trans (if_neg ?_)
    · rw [(s.lineTaken_expects n line).1]
      omega
    · rw [hexp, hb]
      decide
  rw [he] at hx
  obtain ⟨k1, k2, -, -⟩ := s.lineTaken_link n line
  obtain ⟨m1, m2, m3, -, m5⟩ := (s.lineTaken n line).rxDrift_shows n rtt
  obtain ⟨hc, hrep, hl, hf⟩ := ((s.lineTaken n line).rxDrift n rtt).rxBad_bad n false
  obtain ⟨-, g2, g3, -⟩ := sideReg_linkCounts n
  have hlink : ((s.lineTaken n line).rxDrift n rtt).link n = (s.lineTaken n line).link n := by rw [State.link, State.link, m2]
  have h0 : State.Frame (fun a _ => a = Reg.LNK_RTT n ∨ a = Reg.LNK_STAT n) (fun _ => True) s (s.lineTaken n line) := .of rfl
  have hd : State.Frame (fun a _ => a = Reg.LNK_RTT n ∨ a = Reg.LNK_STAT n) (fun _ => True) s ((s.lineTaken n line).rxDrift n rtt) :=
    h0.trans m5
  have hcr : ((s.lineTaken n line).rxDrift n rtt).rd (Reg.LNK_CRCERR n) = s.rd (Reg.LNK_CRCERR n) :=
    hd.rd (fun _ _ h => by simp only [Reg.LNK_CRCERR, Reg.LNK_RTT, Reg.LNK_STAT] at h; omega) g2
  refine ⟨_, hx, ?_, ?_, fun hlen => hrep ?_, by rw [hl, hlink, k2], by rw [hl, hlink, k1], ?_⟩
  · have := hc
    rw [State.fld, State.fld, show badCount n.val false = Reg.LNK_CRCERR n from rfl, hcr] at this
    exact this
  · rw [State.fld, hf.rd (fun _ _ h => by simp only [badCount, Bool.false_eq_true, if_false, Reg.LNK_CRCERR, Reg.LNK_RTT] at h; omega) g3]
    exact m1
  · rw [m3]
    exact hlen
  · refine (State.Frame.trans (R := fun a _ => a = Reg.LNK_CRCERR n ∨ a = Reg.LNK_RTT n ∨ a = Reg.LNK_STAT n) (E := fun _ => True)
      (hd.mono (fun _ _ h => .inr h) (fun _ h => h)) (hf.mono (fun _ _ h => .inl h) (fun _ h => h.elim))).keeps fun a i h => by simpa using h

theorem State.upstreamGood_completes (h : ((rtt : Int) - s.upExpect n).natAbs ≤ 64)
    (hg : upFrameGood (descramble line (s.link n).dsc).1 = true) (hfc : upFcnt (descramble line (s.link n).dsc).1 = s.rxExpected n)
    (hk : ffield (descramble line (s.link n).dsc).1 2 3 = 0) : Completes (.upstreamFrame n line rtt) s (fun t =>
    (t.link n).badRun = 0 ∧ (t.link n).rx = some (s.rxExpected n + 1) ∧
    ((upStatus (descramble line (s.link n).dsc).1).testBit 0 = false → (t.link n).dnRun = 0) ∧
    ((upStatus (descramble line (s.link n).dsc).1).testBit 0 = true → (t.link n).dnRun = min ((s.link n).dnRun + 1) 3)) := by
  have hx := s.exec_upstreamFrame hr hu hj line rtt
  have hexp : ((s.lineTaken n line).rxDrift n rtt).rxExpected n = s.rxExpected n :=
    (State.rxDrift_expects _ n rtt).trans (s.lineTaken_expects n line).2
  have he : (s.lineTaken n line).rxUp n (some (descramble line (s.link n).dsc).1) rtt =
      ((s.lineTaken n line).rxDrift n rtt).rxGood n (descramble line (s.link n).dsc).1 := by
    refine (if_neg ?_).trans (if_pos ?_)
    · rw [(s.lineTaken_expects n line).1]
      omega
    · rw [hexp, hg, hfc, hk, beq_self_eq_true]
      rfl
  rw [he] at hx
  obtain ⟨-, -, k3, -⟩ := s.lineTaken_link n line
  obtain ⟨-, m2, -, -, -⟩ := (s.lineTaken n line).rxDrift_shows n rtt
  have hlink : ((s.lineTaken n line).rxDrift n rtt).link n = (s.lineTaken n line).link n := by rw [State.link, State.link, m2]
  obtain ⟨l, hl⟩ := ((s.lineTaken n line).rxDrift n rtt).rxGood_link n (descramble line (s.link n).dsc).1
  rw [hlink, k3, hfc] at hl
  refine ⟨_, hx, by rw [hl], by rw [hl], fun hd => ?_, fun hd => ?_⟩
  · rw [hl, hd]
    rfl
  · rw [hl, hd]
    rfl

end
end

/-- Settles O18: a bad frame by its count, its report and its run, a good one by what it leaves of the link. -/
theorem upstreamFrames : Obligations.UpstreamFrames := by
  unfold Obligations.UpstreamFrames
  exact ⟨fun n s hr hj => s.upstreamMissing_completes n hr hj, fun n line rtt s hr hu hj =>
    ⟨State.upstreamLate_completes hr hu hj line rtt, State.upstreamBad_completes hr hu hj line rtt,
      State.upstreamGood_completes hr hu hj line rtt⟩⟩

end Sys2Proof.Machine
end

section
/-!
PROOFS. Edges of local channels and the forming of stage periods (O28).
-/

namespace Sys2Proof.Machine

/-! ## Edges of local channels -/

theorem LocSt.settle_on (l : LocSt) (t : Nat) : (l.settle t).on = l.on := by
  unfold LocSt.settle
  split
  · split
    · split <;> rfl
    · rfl
  · rfl

theorem LocSt.settle_edges (l : LocSt) (t : Nat) : (l.settle t).edges = l.edges := by
  unfold LocSt.settle
  split
  · split
    · split <;> rfl
    · rfl
  · rfl

/-- A turn-on of a low channel, and a turn-off of a high one (R97). -/
theorem LocSt.edge_on {l : LocSt} {e : Edge} {dt : Nat} (he : e.ev = 1) (hl : l.on = false) :
    l.edge e dt = { l.settle e.at_ with b := .off, a := .off, on := true, due := some (true, e.at_ + dt) } := by
  have hs : ((l.settle e.at_).on = true) = False := eq_false (by rw [LocSt.settle_on, hl]; decide)
  simp only [LocSt.edge, he, hs, if_false]

theorem LocSt.edge_off {l : LocSt} {e : Edge} {dt : Nat} (he : e.ev = 2) (hl : l.on = true) :
    l.edge e dt = { l.settle e.at_ with a := .off, b := .off, on := false, due := some (false, e.at_ + dt) } := by
  have hs : ((l.settle e.at_).on = true) = True := eq_true (by rw [LocSt.settle_on, hl])
  simp only [LocSt.edge, he, hs, if_true]

/-- A turn-on is only remembered; a turn-off shows the on-time of its phase. -/
theorem State.frame_noteEdge_on (s : State) (i t : Nat) {R : Nat → Nat → Prop} {E : Nat → Prop} : State.Frame R E s (s.noteEdge i 1 t) := by
  unfold State.noteEdge
  split
  · exact .ite (.onPh (.refl s) ..) (.refl s)
  · exact .of rfl

theorem State.frame_noteLocal_on (s : State) (n t : Nat) {R : Nat → Nat → Prop} {E : Nat → Prop} :
    State.Frame R E s (s.noteLocal n 1 t) := .ite (s.frame_noteEdge_on ..) (.refl s)

theorem State.frame_noteLocal_off (s : State) (n t : Nat) {E : Nat → Prop} :
    State.Frame (fun a _ => a = Reg.PT_TON (s.fld (Reg.EDG_STAT n) 14 8)) E s (s.noteLocal n 2 t) := by
  refine .ite ?_ (.refl s)
  unfold State.noteEdge
  split
  · exact .of rfl
  · exact .ite (.refl s) (.onPh (.put (.refl s) _ _ _ _ fun _ _ _ _ => rfl) ..)

/-- LOCAL_EDGE with the earliest edge `e`: the channel once `e` is taken off. -/
def State.edgeTaken (s : State) (n : Nat) (rest : List Edge) : State := s.onLc n (fun l => { l with edges := rest })

section
variable {s : State} {n : Fin 16} {e : Edge} {rest : List Edge} (hl : s.live = true) (he : (s.lc n).edges = e :: rest)

theorem State.edgeTaken_lc (s : State) (n : Fin 16) (rest : List Edge) : (s.edgeTaken n rest).lc n = { s.lc n with edges := rest } :=
  s.onLc_lc_same _ n.isLt

theorem State.edgeTaken_lc_ne (s : State) {n : Fin 16} (rest : List Edge) {m : Nat} (h : m ≠ n.val) : (s.edgeTaken n rest).lc m = s.lc m :=
  s.onLc_lc_ne _ (Ne.symm h)

theorem State.edgeTaken_dt (s : State) (n : Fin 16) (rest : List Edge) (t : Nat) : (s.edgeTaken n rest).localDt n t = s.localDt n t := by
  have h : ((s.edgeTaken n rest).lc n).dtAt = (s.lc n).dtAt := (congrArg LocSt.dtAt (s.edgeTaken_lc n rest) :)
  have h' : ((s.edgeTaken n rest).lc n).dt0 = (s.lc n).dt0 := (congrArg LocSt.dt0 (s.edgeTaken_lc n rest) :)
  unfold State.localDt
  extract_lets l l'
  rw [show l.dtAt = l'.dtAt from h, show l.dt0 = l'.dt0 from h']
  rfl

/-- The channel carries out the edge, and its phase notes it. -/
def State.edgeMade (s : State) (n : Nat) (e : Edge) (rest : List Edge) : State :=
  ((s.edgeTaken n rest).onLc n (fun l => l.edge e (s.localDt n e.at_))).noteLocal n e.ev e.at_

theorem State.edgeMade_lc (s : State) (n : Fin 16) (e : Edge) (rest : List Edge) :
    (s.edgeMade n e rest).lc n = ({ s.lc n with edges := rest } : LocSt).edge e (s.localDt n e.at_) :=
  (State.noteLocal_lc _ _ _ _ _).trans ((State.onLc_lc_same _ _ n.isLt).trans (congrArg (fun l => LocSt.edge l _ _) (s.edgeTaken_lc n rest)))

theorem State.edgeMade_lc_ne (s : State) {n : Fin 16} (e : Edge) (rest : List Edge) {m : Nat} (h : m ≠ n.val) :
    (s.edgeMade n e rest).lc m = s.lc m :=
  (State.noteLocal_lc _ _ _ _ _).trans ((State.onLc_lc_ne _ _ (Ne.symm h)).trans (s.edgeTaken_lc_ne rest h))

theorem State.frame_edgeMade_on (s : State) (n : Nat) (rest : List Edge) (he : e.ev = 1) {R : Nat → Nat → Prop} {E : Nat → Prop} :
    State.Frame R E s (s.edgeMade n e rest) := by
  unfold State.edgeMade
  rw [he]
  exact .trans (.onLc (.onLc (.refl s) ..) ..) (State.frame_noteLocal_on ..)

theorem State.frame_edgeMade_off (s : State) (n : Nat) (rest : List Edge) (he : e.ev = 2) {E : Nat → Prop} :
    State.Frame (fun a _ => a = Reg.PT_TON (s.fld (Reg.EDG_STAT n) 14 8)) E s (s.edgeMade n e rest) := by
  unfold State.edgeMade
  rw [he]
  generalize hx : (s.edgeTaken n rest).onLc n (fun l => l.edge e (s.localDt n e.at_)) = x
  have hr : x.fld (Reg.EDG_STAT n) 14 8 = s.fld (Reg.EDG_STAT n) 14 8 := by rw [← hx]; rfl
  rw [← hr]
  exact .trans (by rw [← hx]; exact .onLc (.onLc (.refl s) ..) ..) (x.frame_noteLocal_off ..)

include hl he

theorem execLocalEdge_held (h : s.localLive n = false) : execLocalEdge n s = .next (s.edgeTaken n rest) := by
  have hh : ¬ (s.edgeTaken n rest).localLive n = true := fun hc => Bool.false_ne_true (h.symm.trans hc)
  have hn : ¬ (!s.live) = true := by rw [hl]; decide
  simp only [execLocalEdge, he]
  exact (if_neg hn).trans (if_neg hh)

theorem execLocalEdge_live (h : s.localLive n = true) : execLocalEdge n s = .next
    (if (e.ev == 1 && !(s.lc n).on) = true then (s.edgeMade n e rest).bump (Reg.EDG_PULSES n) 31 0 1 else s.edgeMade n e rest) := by
  have hh : (s.edgeTaken n rest).localLive n = true := h
  have hn : ¬ (!s.live) = true := by rw [hl]; decide
  have ho : ((s.edgeTaken n rest).lc n).on = (s.lc n).on := (congrArg LocSt.on (s.edgeTaken_lc n rest) :)
  simp only [execLocalEdge, he]
  refine (if_neg hn).trans ((if_pos hh).trans ?_)
  simp only [State.edgeMade, ← s.edgeTaken_dt n rest e.at_]
  exact congrArg (fun b : Bool => Host.Outcome.next (if (e.ev == 1 && !b) = true then _ else _)) ho

end

theorem localEdge_clauses (n : Fin 16) (s : State) (e : Edge) (rest : List Edge) (hl : s.live = true) (he : (s.lc n).edges = e :: rest) :
    (s.localLive n = true → e.ev = 1 → (s.lc n).on = false → Completes (.localEdge n) s (fun t =>
      (t.lc n).edges = rest ∧ (t.lc n).a = .off ∧ (t.lc n).b = .off ∧ (t.lc n).on = true ∧
      (t.lc n).due = some (true, e.at_ + s.localDt n e.at_) ∧
      t.fld (Reg.EDG_PULSES n) 31 0 = min (s.fld (Reg.EDG_PULSES n) 31 0 + 1) (2 ^ 32 - 1) ∧
      (∀ m, m ≠ n.val → t.lc m = s.lc m) ∧ Keeps s t [Reg.EDG_PULSES n])) ∧
    (s.localLive n = true → e.ev = 2 → (s.lc n).on = true → Completes (.localEdge n) s (fun t =>
      (t.lc n).edges = rest ∧ (t.lc n).a = .off ∧ (t.lc n).b = .off ∧ (t.lc n).on = false ∧
      (t.lc n).due = some (false, e.at_ + s.localDt n e.at_) ∧ (∀ m, m ≠ n.val → t.lc m = s.lc m) ∧
      Keeps s t [Reg.PT_TON (s.fld (Reg.EDG_STAT n) 14 8)])) ∧
    (s.localLive n = false → Completes (.localEdge n) s (fun t => t.lc n = { s.lc n with edges := rest } ∧ Keeps s t [])) := by
  refine ⟨fun h hv ho => ?_, fun h hv ho => ?_, fun h => ?_⟩
  · have hc : (e.ev == 1 && !(s.lc n).on) = true := by rw [hv, ho]; rfl
    have hf : State.Frame (fun a _ => a ∈ [Reg.EDG_PULSES n]) (fun _ => False) s (s.edgeMade n e rest) := s.frame_edgeMade_on n rest hv
    have hlc : (s.edgeMade n e rest).lc n = _ := (s.edgeMade_lc n e rest).trans (LocSt.edge_on hv ho)
    have hr : (s.edgeMade n e rest).rd (Reg.EDG_PULSES n) = s.rd (Reg.EDG_PULSES n) :=
      (s.frame_edgeMade_on (R := fun _ _ => False) (E := fun _ => False) n rest hv).rd (fun _ _ h => h)
        (sideReg_eq_false.mpr (by simp only [Reg.EDG_PULSES, Reg.HST_RSVWR, Reg.CW_STAT]; omega))
    refine ⟨_, (execLocalEdge_live hl he h).trans (congrArg Host.Outcome.next (if_pos hc)), ?_, congrArg LocSt.a hlc, congrArg LocSt.b hlc,
      congrArg LocSt.on hlc, congrArg LocSt.due hlc, ?_, fun m hm => s.edgeMade_lc_ne e rest hm,
      (hf.bump _ _ _ _ fun _ _ _ _ => List.mem_singleton_self _).keeps fun _ _ h => h⟩
    · exact (congrArg LocSt.edges hlc).trans (LocSt.settle_edges _ _)
    · refine (State.fld_bump _ _ _ _ _ (by decide)).trans ?_
      rw [State.fld_eq, hr, State.fld_eq]
  · have hc : ¬ (e.ev == 1 && !(s.lc n).on) = true := by rw [hv]; exact Bool.false_ne_true
    have hlc : (s.edgeMade n e rest).lc n = _ := (s.edgeMade_lc n e rest).trans (LocSt.edge_off hv ho)
    refine ⟨_, (execLocalEdge_live hl he h).trans (congrArg Host.Outcome.next (if_neg hc)), ?_, congrArg LocSt.a hlc, congrArg LocSt.b hlc,
      congrArg LocSt.on hlc, congrArg LocSt.due hlc, fun m hm => s.edgeMade_lc_ne e rest hm,
      (s.frame_edgeMade_off (E := fun _ => False) n rest hv).keeps fun _ _ h => List.mem_singleton.mpr h⟩
    exact (congrArg LocSt.edges hlc).trans (LocSt.settle_edges _ _)
  · exact ⟨_, execLocalEdge_held hl he h, s.edgeTaken_lc n rest, .of (regsKept_refl s []) rfl rfl⟩

/-! ## Stage periods -/

/-- What the forming of a period of stage `k` writes: its phases, and the bit that shows re-spacing. -/
def formReg (k a j : Nat) : Prop := (0x11000 ≤ a ∧ a < 0x12000) ∨ (a = Reg.ST_STAT k ∧ j = 27)

/-- `t` has the stages of `s`, but for the re-spacing step of stage `k`. -/
def State.Respaced (k : Nat) (s t : State) : Prop :=
  (∃ m, t.sg k = { s.sg k with rm := m }) ∧ ∀ j, j ≠ k → t.sg j = s.sg j

theorem State.Respaced.of {k : Nat} {s t : State} (h : t.stg = s.stg) : State.Respaced k s t :=
  have hs (j : Nat) : t.sg j = s.sg j := congrArg (fun l => vget l j StgSt.initial) h
  ⟨⟨(s.sg k).rm, hs k⟩, fun j _ => hs j⟩

theorem State.Respaced.then {k : Nat} {s t u : State} (h : State.Respaced k s t) (hu : u.stg = t.stg) : State.Respaced k s u :=
  have hs (j : Nat) : u.sg j = t.sg j := congrArg (fun l => vget l j StgSt.initial) hu
  ⟨h.1.imp fun _ hm => (hs k).trans hm, fun j hj => (hs j).trans (h.2 j hj)⟩

section
variable (s : State) {k : Nat} (hk : k < 32) (start len : Nat)

theorem State.mem_activePhases {s : State} {k i : Nat} (h : i ∈ s.activePhases k) : i < 128 := State.mem_phases (List.mem_filter.mp h).1

theorem State.formed_respaceStep : State.Frame (formReg k) (· = 103) s (s.respaceStep k start) := by
  unfold State.respaceStep
  extract_lets g m done s1 s2
  refine .ite ?_ (.refl s)
  have hi {i : Nat} (h : i < 128) (j : Nat) : formReg k (Reg.PT_STAT i) j := .inl (by simp only [Reg.PT_STAT]; omega)
  have h1 : State.Frame (formReg k) (· = 103) s s1 := .foldl _ _ (fun s i h =>
    .setBit (.put (.refl s) _ _ _ _ fun j _ _ _ => hi (State.mem_activePhases h) j) _ _ _ (hi (State.mem_activePhases h) _)) s
  have h2 : State.Frame (formReg k) (· = 103) s s2 := h1.onSg ..
  exact .ite (.raise (h2.setBit _ _ _ (.inr ⟨rfl, rfl⟩)) _ (by decide : 103 < 256) (.inl rfl)) h2

theorem State.formed_formPeriod : State.Frame (formReg k) (· = 103) s (s.formPeriod k start len) := by
  unfold State.formPeriod
  extract_lets s1 s2
  have h1 : State.Frame (formReg k) (· = 103) s s1 := .ite (.refl s) (s.formed_respaceStep ..)
  have h2 : State.Frame (formReg k) (· = 103) s1 s2 := .foldl _ _ (fun s i _ => .onPh (.refl s) ..) s1
  exact .onSg (.trans (h1.trans h2) (s2.edged_placePeriod ..).frame) _ _

include hk

theorem State.respaced_respaceStep : State.Respaced k s (s.respaceStep k start) := by
  unfold State.respaceStep
  extract_lets g m done s1 s2
  have h1 : s1.stg = s.stg := by
    refine foldl_part State.stg _ (fun s i => ?_) _ s
    rfl
  have h2 : State.Respaced k s s2 := by
    have hs (j : Nat) : s1.sg j = s.sg j := congrArg (fun l => vget l j StgSt.initial) h1
    exact ⟨⟨m, (s1.onSg_sg_same _ hk).trans (congrArg (fun g => { g with rm := m }) (hs k))⟩,
      fun j hj => (s1.onSg_sg_ne _ (Ne.symm hj)).trans (hs j)⟩
  split
  · split
    · exact h2.then (State.raise_stg _ _)
    · exact h2
  · exact .of rfl

theorem State.formPeriod_sg : (∃ m, (s.formPeriod k start len).sg k =
    { s.sg k with rm := m, next := start + len, formed := (⟨start, len, m⟩ :: (s.sg k).formed).take 8 }) ∧
    ∀ j, j ≠ k → (s.formPeriod k start len).sg j = s.sg j := by
  unfold State.formPeriod
  extract_lets s1 s2
  have h1 : State.Respaced k s s1 := by
    simp only [s1]
    split
    · exact .of rfl
    · exact s.respaced_respaceStep hk start
  have h2 : s2.stg = s1.stg := by
    refine foldl_part State.stg _ (fun s i => ?_) _ s1
    rfl
  have h3 : (s2.placePeriod k start len 0).stg = s2.stg := by rw [s2.edged_placePeriod k start len 0]
  obtain ⟨⟨m, hm⟩, ho⟩ := h1.then (h3.trans h2)
  refine ⟨⟨m, (State.onSg_sg_same _ _ hk).trans ?_⟩, fun j hj => (State.onSg_sg_ne _ _ (Ne.symm hj)).trans (ho j hj)⟩
  rw [hm]

end

theorem State.eccRead_of_noFlips {s : State} (h : s.ecc.flips = []) (region lo hi : Nat) : s.eccRead region lo hi = s := by
  unfold State.eccRead
  rw [h]
  rfl

theorem stagePeriodStart_clauses (k : Fin 32) (s : State) (hl : s.live = true) (hst : s.stState k = 1 ∨ s.stState k = 2)
    (hn : (s.sg k).next ≤ s.now + s.formLead k) (he : s.ecc.flips = []) : Completes (.stagePeriodStart k) s (fun t =>
      (t.sg k).next = (s.sg k).next + (s.periodLen k).1 ∧ (t.sg k).r = (s.periodLen k).2 ∧
      (t.sg k).formed.map (fun p => (p.start, p.len)) =
        (((s.sg k).next, (s.periodLen k).1) :: (s.sg k).formed.map (fun p => (p.start, p.len))).take 8 ∧ t.stState k = s.stState k ∧
      (∀ j, j ≠ k.val → t.sg j = s.sg j) ∧ t.loc.size = s.loc.size ∧ ∀ a, t.mem8 a = s.mem8 a) := by
  have hc : (s.live && (s.stState k == 1 || s.stState k == 2) && decide ((s.sg k).next ≤ s.now + s.formLead k)) = true := by
    rw [hl, decide_eq_true hn]
    rcases hst with h | h <;> rw [h] <;> rfl
  have hx : exec (.stagePeriodStart k) s = .next (s.formNext k) :=
    (if_pos hc).trans (congrArg (fun x : State => Host.Outcome.next (x.formNext k)) (State.eccRead_of_noFlips he _ _ _))
  generalize hx0 : s.onSg k (fun g => { g with r := (s.periodLen k).2 }) = x at *
  have hsg : x.sg k = { s.sg k with r := (s.periodLen k).2 } := by
    rw [← hx0]
    exact s.onSg_sg_same _ k.isLt
  have hf : State.Frame (formReg k) (· = 103) s (s.formNext k) := by
    refine State.Frame.trans (t := x) (by rw [← hx0]; exact .onSg (.refl s) ..) ?_
    unfold State.formNext
    rw [← hx0]
    exact State.formed_formPeriod ..
  have hform : s.formNext k = x.formPeriod k (s.sg k).next (s.periodLen k).1 := by rw [← hx0]; rfl
  obtain ⟨⟨m, hm⟩, ho⟩ := x.formPeriod_sg k.isLt (s.sg k).next (s.periodLen k).1
  have ht : (s.formNext k).sg k = _ := (congrArg (fun t : State => t.sg k) hform).trans hm
  refine ⟨_, hx, congrArg StgSt.next ht, (congrArg StgSt.r ht).trans (congrArg StgSt.r hsg), ?_, ?_, fun j hj => ?_, rfl, ?_⟩
  · refine (congrArg (fun g : StgSt => g.formed.map (fun p => (p.start, p.len))) ht).trans ?_
    simp only [List.map_take, List.map_cons, hsg]
  · refine hf.field (fun i _ hlo _ hR => ?_) (sideReg_eq_false.mpr (by simp only [Reg.ST_STAT, Reg.HST_RSVWR, Reg.CW_STAT]; omega))
    rcases hR with h | ⟨-, h⟩
    · simp only [Reg.ST_STAT] at h
      omega
    · omega
  · rw [hform, ho j hj, ← hx0]
    exact s.onSg_sg_ne _ (Ne.symm hj)
  · intro a
    rw [State.mem8, hf.mem, State.mem8]

/-- Settles O28: an edge is taken off its channel's list and carried out with the dead time; a period is formed at the head of its
stage's list, and re-spacing and the placing of its pulses touch only phases, channels and the step of that stage. -/
theorem localPulses : Obligations.LocalPulses := ⟨localEdge_clauses, stagePeriodStart_clauses⟩

end Sys2Proof.Machine
end

section
/-!
PROOFS. A run of the loop engine: the words it reads, the words of its context that it writes, and its release (O23).
-/

namespace Sys2Proof.Machine

/-! ## Reads of protected words that find no uncorrectable error -/

/-- From `s` to `t` words were read: errors are noted and corrected, and nothing else of contexts and phases changes. -/
structure State.ReadsClean (s t : State) : Prop where
  frame : State.Frame (fun a _ => eccNoteReg a) (fun _ => False) s t
  ctx : t.ctx = s.ctx
  phs : t.phs = s.phs
  flips : t.ecc.flips ⊆ s.ecc.flips

namespace State.ReadsClean

variable {s t u : State}

theorem refl (s : State) : s.ReadsClean s := ⟨.refl s, rfl, rfl, List.Subset.refl _⟩

theorem trans (h : s.ReadsClean t) (g : t.ReadsClean u) : s.ReadsClean u :=
  ⟨h.frame.trans g.frame, g.ctx.trans h.ctx, g.phs.trans h.phs, List.Subset.trans g.flips h.flips⟩

theorem foldl {α : Type} (f : State → α → State) (l : List α) (hf : ∀ (s : State), ∀ x ∈ l, s.ReadsClean (f s x)) (s : State) :
    s.ReadsClean (l.foldl f s) := by
  induction l generalizing s with
  | nil => exact .refl s
  | cons a l ih => exact (hf s a List.mem_cons_self).trans (ih (fun s x h => hf s x (List.mem_cons_of_mem _ h)) _)

theorem sendFault (h : s.ReadsClean t) (m : FltMsg) : s.ReadsClean (t.sendFault m) :=
  h.trans ⟨.sendFault (.refl t) m, State.sendFault_ctx .., State.sendFault_phs .., by rw [State.sendFault_ecc]; exact List.Subset.refl _⟩

/-- Words and registers outside the notes are those of `s`. -/
theorem mem8 (h : s.ReadsClean t) (a : Nat) : t.mem8 a = s.mem8 a := by rw [State.mem8, h.frame.mem, State.mem8]

theorem rd (h : s.ReadsClean t) {a : Nat} (ha : ¬ eccNoteReg a) (hs : sideReg a = false) : t.rd a = s.rd a :=
  h.frame.rd (fun _ _ => ha) hs

theorem cw (h : s.ReadsClean t) (c o : Nat) : t.cw c o = s.cw c o := by simp only [State.cw, State.mem32, State.mem16, h.mem8]

theorem cx (h : s.ReadsClean t) (c : Nat) : t.cx c = s.cx c := congrArg (fun l => vget l c CtxSt.initial) h.ctx

theorem eccBad (h : s.ReadsClean t) {region lo hi : Nat} (hb : s.eccBad region lo hi = false) : t.eccBad region lo hi = false := by
  simp only [State.eccBad, List.any_eq_false] at hb ⊢
  exact fun x hx => hb x (h.flips hx)

end State.ReadsClean

section
variable (s : State)

theorem State.readsClean_eccNote (region addr : Nat) (bits : List Nat) (scrub : Bool) : s.ReadsClean (s.eccNote region addr bits scrub) :=
  ⟨s.frame_eccNote .., ite_part State.ctx rfl rfl, ite_part State.phs rfl rfl, by
    rw [(s.eccNote_ecc ..).1]
    exact List.Subset.refl _⟩

theorem State.readsClean_dropFlip (x : EccFlip) : s.ReadsClean (s.dropFlip x) :=
  ⟨.of rfl, rfl, rfl, fun _ h => List.mem_of_mem_filter h⟩

/-- A word with one wrong bit, and a word of the schedule, whose uncorrectable error is reported alone (R368). -/
theorem State.readsClean_eccTake (x : EccFlip) (hx : x.region = 2 ∨ x.bits.length < 2) : s.ReadsClean (s.eccTake x false) := by
  have hn := s.readsClean_eccNote x.region x.addr x.bits false
  by_cases h : x.bits.length < 2
  · rw [State.eccTake_cor _ _ _ h]
    exact .sendFault (hn.trans (State.readsClean_dropFlip _ x)) _
  · rw [State.eccTake_unc _ _ _ (by omega), hx.resolve_right h]
    rw [hx.resolve_right h] at hn
    simp only [State.eccUnc]
    split
    · exact hn
    · exact .sendFault hn _

theorem State.readsClean_schedule (a : Nat) : s.ReadsClean (s.eccTouch 2 a) := by
  refine .foldl _ _ (fun s x hx => s.readsClean_eccTake x (.inl ?_)) s
  obtain ⟨-, hc⟩ := List.mem_filter.mp hx
  simp only [Bool.and_eq_true, beq_iff_eq] at hc
  exact hc.1.1

theorem State.readsClean_eccRead {region lo hi : Nat} (hb : s.eccBad region lo hi = false) : s.ReadsClean (s.eccRead region lo hi) := by
  refine .foldl _ _ (fun s x hx => s.readsClean_eccTake x (.inr ?_)) s
  obtain ⟨hm, hc⟩ := List.mem_filter.mp hx
  simp only [State.eccBad, List.any_eq_false, Bool.and_eq_true, decide_eq_true_eq, beq_iff_eq] at hb hc
  have := hb x hm
  omega

end

/-! ## Words of a context -/

/-- From `s` to `t` no word of context RAM changes but those at the offsets `W` of context `c`. -/
structure State.Wrote (c : Nat) (W : List Nat) (s t : State) : Prop where
  time : t.time = s.time
  ctx : t.ctx = s.ctx
  mem8 : ∀ a, (∀ o ∈ W, a < 512 * c + o ∨ 512 * c + o + 4 ≤ a) → t.mem8 a = s.mem8 a

/-- What a write of context RAM leaves. -/
def State.wroteParts (s : State) := (s.time, s.ctx, s.mem)

theorem State.eccWrite_parts (s : State) (region addr : Nat) : (s.eccWrite region addr).wroteParts = s.wroteParts := by
  have hi (x : State) : x.injected.wroteParts = x.wroteParts := by
    unfold State.injected
    extract_lets y regs
    have hy : y.wroteParts = x.wroteParts := by simp [y, State.wroteParts]
    exact hy
  unfold State.eccWrite
  extract_lets a fs s1 b x s2
  exact ite_part State.wroteParts (hi _) rfl

namespace State.Wrote

variable {c : Nat} {W : List Nat} {s t u : State}

theorem of (h : t.wroteParts = s.wroteParts) : State.Wrote c W s t := by
  simp only [State.wroteParts, Prod.mk.injEq] at h
  obtain ⟨ht, hc, hm⟩ := h
  exact ⟨ht, hc, fun a _ => by rw [State.mem8, hm, State.mem8]⟩

theorem refl (s : State) : State.Wrote c W s s := .of rfl

theorem trans (h : State.Wrote c W s t) (g : State.Wrote c W t u) : State.Wrote c W s u :=
  ⟨g.time.trans h.time, g.ctx.trans h.ctx, fun a ha => (g.mem8 a ha).trans (h.mem8 a ha)⟩

theorem mono {V : List Nat} (h : State.Wrote c V s t) (hVW : V ⊆ W) : State.Wrote c W s t :=
  ⟨h.time, h.ctx, fun a ha => h.mem8 a fun o ho => ha o (hVW ho)⟩

theorem ite {p : Prop} [Decidable p] (ht : State.Wrote c W s t) (hu : State.Wrote c W s u) : State.Wrote c W s (if p then t else u) := by
  split
  · exact ht
  · exact hu

theorem setCw (h : State.Wrote c W s t) {o : Nat} (v : Word) (ho : o ∈ W) : State.Wrote c W s (t.setCw c o v) := by
  refine h.trans (.trans (.of (t.eccWrite_parts 0 (512 * c + o))) ⟨rfl, rfl, fun a ha => State.mem8_setMem32_ne _ _ _ _ ?_⟩)
  have := ha o ho
  omega

theorem putCw (h : State.Wrote c W s t) {o : Nat} (hi lo v : Nat) (ho : o ∈ W) : State.Wrote c W s (t.putCw c o hi lo v) := h.setCw _ ho

/-- A word apart from those written. -/
theorem cw (h : State.Wrote c W s t) {o : Nat} (ho : ∀ x ∈ W, o + 4 ≤ x ∨ x + 4 ≤ o) : t.cw c o = s.cw c o := by
  have h8 : ∀ i < 4, t.mem8 (512 * c + o + i) = s.mem8 (512 * c + o + i) := fun i hi => h.mem8 _ fun x hx => by
    have := ho x hx
    omega
  simp only [State.cw, State.mem32, State.mem16, Nat.add_assoc] at h8 ⊢
  rw [h8 1 (by decide), h8 2 (by decide), h8 3 (by decide)]
  simp only [← Nat.add_assoc] at h8 ⊢
  rw [show t.mem8 (512 * c + o) = s.mem8 (512 * c + o) from h8 0 (by decide)]

/-- Another context's memory. -/
theorem apart (h : State.Wrote c W s t) (hW : ∀ x ∈ W, x + 4 ≤ 512) {a : Nat} (ha : a / 512 ≠ c) : t.mem8 a = s.mem8 a :=
  h.mem8 a fun o ho => by
    have := hW o ho
    omega

end State.Wrote

theorem State.setCw_cw (s : State) (c o : Nat) (v : Word) : (s.setCw c o v).cw c o = v := State.mem32_setMem32 ..

section
variable (s : State) (c : Nat)

theorem State.wrote_putRunSt (r : RunSt) : State.Wrote c [0x80, 0x84, 0x88, 0x8C, 0x90, 0x94] s (s.putRunSt c r) :=
  .setCw (.setCw (.setCw (.setCw (.setCw (.setCw (.refl s) _ (by decide)) _ (by decide)) _ (by decide)) _ (by decide)) _ (by decide)) _
    (by decide)

theorem State.wrote_setFlags (fl : Nat) : State.Wrote c [4] s (s.setFlags c fl) := by
  unfold State.setFlags
  extract_lets old new s1
  refine .ite (.refl s) ?_
  have h1 : State.Wrote c [4] s s1 := by
    refine .trans (.setCw (.refl s) (word (old ||| fl % 32)) (List.mem_singleton_self _)) (.of ?_)
    simp only [s1]
    rw [State.traceSee_same]
    rfl
  refine h1.trans (.of (foldl_part State.wroteParts _ (fun s x => ?_) _ s1))
  extract_lets y
  have hr : (y.raise (E.LE_FLAG c)).wroteParts = y.wroteParts := by simp [State.wroteParts]
  exact ite_part State.wroteParts (hr.trans rfl) rfl

/-- What a run with output `y` shows in its context, and that it leaves the others (R168, R180). -/
structure State.RunShows (c : Nat) (y : Int) (s t : State) : Prop where
  gfc : t.cw c 0x2C = s.time.gfc
  runs : (t.cw c 0x11C).toNat = min ((s.cw c 0x11C).toNat + 1) 0xFFFFFFFF
  out : fieldOf (t.cw c 0x24) 15 0 = code 16 y
  apart : ∀ a, a / 512 ≠ c → t.mem8 a = s.mem8 a

/-- The words that a run writes before its end. -/
def runFront : List Nat := [4, 0x80, 0x84, 0x88, 0x8C, 0x90, 0x94, 0x28, 0x24]

theorem State.RunShows.before {c : Nat} {y : Int} {s x t : State} (h : State.RunShows c y x t) (hx : State.Wrote c runFront s x) :
    State.RunShows c y s t where
  gfc := h.gfc.trans (congrArg TimeSt.gfc hx.time)
  runs := by rw [h.runs, hx.cw (by decide)]
  out := h.out
  apart := fun a ha => (h.apart a ha).trans (hx.apart (by decide) ha)

theorem State.RunShows.after {c : Nat} {y : Int} {s x t : State} (h : State.RunShows c y s x) {W : List Nat} (ht : State.Wrote c W x t)
    (hW : ∀ o ∈ W, o = 0 ∨ o = 4) : State.RunShows c y s t where
  gfc := (ht.cw fun o ho => by have := hW o ho; omega).trans h.gfc
  runs := by rw [ht.cw fun o ho => by have := hW o ho; omega, h.runs]
  out := by rw [ht.cw fun o ho => by have := hW o ho; omega, h.out]
  apart := fun a ha => (ht.apart (fun o ho => by have := hW o ho; omega) ha).trans (h.apart a ha)

theorem State.RunShows.mem {c : Nat} {y : Int} {s x t : State} (h : State.RunShows c y s x) (ht : t.mem = x.mem) :
    State.RunShows c y s t := by
  have h8 (a : Nat) : t.mem8 a = x.mem8 a := by rw [State.mem8, ht, State.mem8]
  have hw (o : Nat) : t.cw c o = x.cw c o := by simp only [State.cw, State.mem32, State.mem16, h8]
  exact ⟨(hw _).trans h.gfc, by rw [hw, h.runs], by rw [hw, h.out], fun a ha => (h8 a).trans (h.apart a ha)⟩

theorem State.runTail_shows (xs : List Int) (err y : Int) (selv tracked stale : Bool) :
    State.RunShows c y s (s.runTail c xs err y selv tracked stale) ∧ (s.runTail c xs err y selv tracked stale).ctx = s.ctx := by
  unfold State.runTail
  extract_lets s1 s2 s3 s4 s5 s6 s7 br
  have h3 : State.Wrote c [0x110, 0x114, 0x118] s s3 :=
    .setCw (.setCw (.setCw (.refl s) _ (by decide)) _ (by decide)) _ (by decide)
  have h4 : State.Wrote c [0x110, 0x114, 0x118, 0x2C] s s4 := (h3.mono (by decide)).setCw _ (by decide)
  have h6 : State.Wrote c [0x120] s5 s6 := .ite (.setCw (.refl s5) _ (List.mem_singleton_self _)) (.refl s5)
  have h5 : State.Wrote c [0x11C] s4 s5 := .setCw (.refl s4) _ (List.mem_singleton_self _)
  have h7 : State.Wrote c [0x24] s6 s7 := .putCw (.refl s6) _ _ _ (List.mem_singleton_self _)
  have h8 : State.Wrote c [0] s7 (s7.setCw c 0 (setField (s7.cw c 0) 7 3
      (1 + 2 * b2n selv + 4 * b2n tracked + 8 * b2n stale + 16 * b2n br))) := .setCw (.refl s7) _ (List.mem_singleton_self _)
  have hs : State.RunShows c y s s7 := {
    gfc := by
      rw [h7.cw (by decide), h6.cw (by decide), h5.cw (by decide), State.setCw_cw, h3.time]
    runs := by
      rw [h7.cw (by decide), h6.cw (by decide), State.setCw_cw, h4.cw (by decide), word, BitVec.toNat_ofNat]
      exact Nat.mod_eq_of_lt (by omega)
    out := by
      refine (congrArg (fieldOf · 15 0) (State.setCw_cw _ _ _ _)).trans ?_
      exact fieldOf_setField_lt _ _ _ _ (by decide) (code_lt y)
    apart := fun a ha => (h7.apart (by decide) ha).trans ((h6.apart (by decide) ha).trans ((h5.apart (by decide) ha).trans
      (h4.apart (by decide) ha))) }
  exact ⟨hs.after h8 fun o ho => .inl (List.mem_singleton.mp ho), h8.ctx.trans (h7.ctx.trans (h6.ctx.trans (h5.ctx.trans h4.ctx)))⟩

end

end Sys2Proof.Machine
end

section
/-!
PROOFS. The runs of the loop engine by the state of their context, and their release (O23).
-/

namespace Sys2Proof.Machine

section
variable (s : State) {c : Nat} (hc : c < 256)

/-- The run of a TETHERED or ARMED context shows its tether value. -/
theorem State.runTether_shows (tmpl : Nat) (r : RunIn) (stale : Bool) :
    State.RunShows c (s.tetherValue c) s (s.runTether c tmpl r stale) := by
  have hend (x : State) (err : Int) : State.RunShows c (s.tetherValue c) x
      (let y := (x.runTail c r.x err (s.tetherValue c) false false stale).onCx c (fun x => { x with tv := some (s.tetherValue c) })
       if s.cState c == 2 then (let m := y.armMet c; y.onCx c (fun x => { x with met := m })) else y) := by
    have hx := (x.runTail_shows c r.x err (s.tetherValue c) false false stale).1
    extract_lets y
    have hy : State.RunShows c (s.tetherValue c) x y := hx.mem rfl
    split
    · exact hy.mem rfl
    · exact hy
  by_cases ht : tmpl = 5
  · simp only [State.runTether, ht, if_true]
    exact hend s 0
  · simp only [State.runTether, ht, if_false]
    refine (hend _ _).before (.trans ((State.wrote_putRunSt ..).mono (by decide)) ((State.wrote_setFlags ..).mono (by decide)))

/-- A RUNNING run whose template gave `o`: its state words, the bridge and the K of a selector, and then what every run leaves. -/
def State.runStored (s : State) (c tmpl : Nat) (o : RunOut) (br : Int) : State :=
  let x := (s.putRunSt c o.s).setCw c 0x28 (word (code 17 br))
  if tmpl = 5 then x.putCw c 0x24 17 16 o.k else x

def State.runClosed (s : State) (c tmpl : Nat) (r : RunIn) (stale : Bool) (o : RunOut) (br y : Int) (tracked : Bool) (f : Nat) : State :=
  (((s.runStored c tmpl o br).runTail c r.x o.e y (tmpl == 5) tracked stale).setFlags c f).onCx c (fun x => { x with y0 := none })

/-- An entry output outside the limits is reported (R181). -/
def State.runEntered (s : State) (c : Nat) (r : RunIn) (y : Int) : State :=
  if y < r.ymin || r.ymax < y then s.raise (E.HANDOVER_STEP c) else s

theorem State.runRunning_later (tmpl : Nat) (r : RunIn) (stale : Bool) (h : (s.cx c).y0 = none) :
    ∃ o br y tracked f, s.runRunning c tmpl r stale = s.runClosed c tmpl r stale o br y tracked f := by
  unfold State.runRunning
  rw [h]
  exact ⟨_, _, _, _, _, rfl⟩

theorem State.runRunning_entry (tmpl : Nat) (r : RunIn) (stale : Bool) {y : Int} (h : (s.cx c).y0 = some y) :
    ∃ o br tracked f, s.runRunning c tmpl r stale = (s.runClosed c tmpl r stale o br y tracked f).runEntered c r y := by
  unfold State.runRunning
  rw [h]
  exact ⟨_, _, _, _, rfl⟩

theorem State.wrote_runStored (tmpl : Nat) (o : RunOut) (br : Int) : State.Wrote c runFront s (s.runStored c tmpl o br) := by
  unfold State.runStored
  extract_lets x
  have hx : State.Wrote c runFront s x := ((s.wrote_putRunSt c o.s).mono (by decide)).setCw _ (by decide)
  exact .ite (hx.putCw _ _ _ (by decide)) hx

theorem State.runClosed_shows (tmpl : Nat) (r : RunIn) (stale : Bool) (o : RunOut) (br y : Int) (tracked : Bool) (f : Nat) :
    State.RunShows c y s (s.runClosed c tmpl r stale o br y tracked f) :=
  State.RunShows.mem ((((State.runTail_shows _ c r.x o.e y (tmpl == 5) tracked stale).1.before (s.wrote_runStored tmpl o br)).after
    (State.wrote_setFlags _ c f) fun _ ho => .inr (List.mem_singleton.mp ho))) rfl

theorem State.runEntered_parts (r : RunIn) (y : Int) : (s.runEntered c r y).wroteParts = s.wroteParts :=
  ite_part State.wroteParts (by simp [State.wroteParts]) rfl

include hc

/-- The run of a RUNNING context shows some output; its entry run shows `y0`, which is then spent. -/
theorem State.runRunning_shows (tmpl : Nat) (r : RunIn) (stale : Bool) :
    ∃ y, State.RunShows c y s (s.runRunning c tmpl r stale) ∧
      ∀ z, (s.cx c).y0 = some z → y = z ∧ ((s.runRunning c tmpl r stale).cx c).y0 = none := by
  cases hy : (s.cx c).y0 with
  | none =>
    obtain ⟨o, br, y, tracked, f, h⟩ := s.runRunning_later tmpl r stale hy
    rw [h]
    exact ⟨y, s.runClosed_shows .., fun z hz => by cases hz⟩
  | some y =>
    obtain ⟨o, br, tracked, f, h⟩ := s.runRunning_entry tmpl r stale hy
    have hp := (s.runClosed c tmpl r stale o br y tracked f).runEntered_parts (c := c) r y
    simp only [State.wroteParts, Prod.mk.injEq] at hp
    obtain ⟨-, hctx, hmem⟩ := hp
    rw [h]
    refine ⟨y, (s.runClosed_shows ..).mem hmem, fun z hz => ⟨Option.some.inj hz, ?_⟩⟩
    exact (congrArg (fun l => (vget l c CtxSt.initial).y0) hctx).trans (congrArg CtxSt.y0 (State.onCx_cx_same _ _ hc))

end

/-! ## A run from its inputs to its release -/

/-- Context `c` as a run that is released at `rel` finds it, and the run by its state. -/
def State.runMade (s : State) (c : Nat) (live : Int) (rel tmpl : Nat) (r : RunIn) (stale : Bool) : State :=
  let x := s.onCx c (fun x => { x with prev := live, relAt := rel })
  if s.cState c == 3 then x.runRunning c tmpl r stale else x.runTether c tmpl r stale

theorem State.RunShows.base {c : Nat} {y : Int} {s x t : State} (h : State.RunShows c y x t) (ht : x.time = s.time)
    (hm : ∀ a, x.mem8 a = s.mem8 a) : State.RunShows c y s t := by
  have hw (o : Nat) : x.cw c o = s.cw c o := by simp only [State.cw, State.mem32, State.mem16, hm]
  exact ⟨h.gfc.trans (congrArg TimeSt.gfc ht), by rw [h.runs, hw], h.out, fun a ha => (h.apart a ha).trans (hm a)⟩

/-- A run shows one output: the value that a TETHERED context holds, and the entry output of a RUNNING one. -/
theorem State.runMade_shows (s : State) {c : Nat} (hc : c < 256) (live : Int) (rel tmpl : Nat) (r : RunIn) (stale : Bool) :
    ∃ y, State.RunShows c y s (s.runMade c live rel tmpl r stale) ∧
      (s.cState c = 1 → bitOf (s.cw c 8) 9 = false → y = (s.cx c).hold) ∧
      (s.cState c = 3 → ∀ z, (s.cx c).y0 = some z → y = z ∧ ((s.runMade c live rel tmpl r stale).cx c).y0 = none) := by
  unfold State.runMade
  extract_lets x
  have hx : x.cx c = { s.cx c with prev := live, relAt := rel } := s.onCx_cx_same _ hc
  by_cases h : s.cState c = 3
  · rw [if_pos (beq_iff_eq.mpr h)]
    obtain ⟨y, hy, hz⟩ := x.runRunning_shows hc tmpl r stale
    exact ⟨y, hy.base rfl fun _ => rfl, fun h1 => by omega, fun _ z h0 => hz z ((congrArg CtxSt.y0 hx).trans h0)⟩
  · rw [if_neg (fun hb => h (beq_iff_eq.mp hb))]
    refine ⟨_, (x.runTether_shows tmpl r stale).base rfl fun _ => rfl, fun _ hb => ?_, fun h3 => absurd h3 h⟩
    have hn : ¬ bitOf (x.cw c 8) 9 = true := by
      rw [show x.cw c 8 = s.cw c 8 from rfl, hb]
      decide
    have hh : (x.cx c).hold = (s.cx c).hold := (congrArg CtxSt.hold hx :)
    exact (if_neg hn).trans hh

section
variable (s : State) (e c : Nat)

/-- A run whose lanes agree and whose words are right is made and released. -/
theorem State.runContext_agreed (hi : s.bit Reg.INJ_STAT 28 = false) (hb : s.eccBad 0 (512 * c) (512 * c + 512) = false) :
    ∃ live rel tmpl r stale, s.runContext e c false =
      (((s.eccRead 0 (512 * c) (512 * c + 512)).runMade c live rel tmpl r stale).releaseTo c rel).traceRun c := by
  unfold State.runContext
  rw [hi, Bool.false_and]
  exact ⟨_, _, _, _, _, (if_neg (by decide)).trans (if_neg (by rw [if_neg (by decide), hb]; decide))⟩

theorem State.runContext_differs (hi : s.bit Reg.INJ_STAT 28 = false) :
    s.runContext e c true = (s.eccRead 0 (512 * c) (512 * c + 512)).laneMismatch (s.fld (Reg.LE_SENT0 e) 23 20) c false := by
  unfold State.runContext
  rw [hi, Bool.false_and]
  rfl

theorem State.traceRun_parts : (s.traceRun c).wroteParts = s.wroteParts := by
  refine foldl_part State.wroteParts _ (fun s u => ite_part State.wroteParts ?_ rfl) _ s
  exact ite_part State.wroteParts rfl rfl

theorem State.released_parts (x : State) (rel : Nat) : ((x.releaseTo c rel).traceRun c).wroteParts = x.wroteParts :=
  (State.traceRun_parts _ c).trans (by rw [x.edged_releaseTo c rel]; rfl)

end

theorem execLoopRun_due {e : Fin 256} {s : State} (d : Bool) (hl : s.live = true) (hv : s.bit (Reg.LE_SENT0 e) 31 = true)
    (hd : s.gfcN % 2 ^ s.fld (Reg.LE_SENT0 e) 19 16 = s.fld (Reg.LE_SENT1 e) 27 16) (hh : s.bit Reg.LE_STAT 31 = false)
    (hc : s.cState (s.fld (Reg.LE_SENT0 e) 7 0) ≠ 0) :
    exec (.loopRun e d) s = .next ((s.eccTouch 2 (Reg.LE_SENT0 e)).runContext e (s.fld (Reg.LE_SENT0 e) 7 0) d) := by
  refine if_pos ?_
  have hv' : bitOf (s.rd (Reg.LE_SENT0 e)) 31 = true := hv
  have hd' : (s.gfcN % 2 ^ fieldOf (s.rd (Reg.LE_SENT0 e)) 19 16 == s.fld (Reg.LE_SENT1 e) 27 16) = true := beq_iff_eq.mpr hd
  have hc' : (s.cState (fieldOf (s.rd (Reg.LE_SENT0 e)) 7 0) != 0) = true := bne_iff_ne.mpr hc
  rw [hl, hv', hh, hd', hc']
  rfl

theorem sent_apart (e : Fin 256) : ¬ eccNoteReg (Reg.LE_SENT0 e) ∧ sideReg (Reg.LE_SENT0 e) = false := by
  refine ⟨?_, sideReg_eq_false.mpr ?_⟩
  · simp only [eccNoteReg, Reg.LE_SENT0, Reg.FLT_ECCCNT, Reg.FLT_ECCINFO, Reg.FLT_ECCADDR]
    omega
  · simp only [Reg.LE_SENT0, Reg.HST_RSVWR, Reg.CW_STAT]
    omega

theorem State.laneMismatch_shows (s : State) {lane c : Nat} (hl : lane < 16) (hc : c < 256) (inj : Bool) :
    let t := s.laneMismatch lane c inj
    t.bit Reg.LE_STAT 31 = true ∧ t.rdN Reg.LE_MISMATCH = 0x80000000 + 256 * lane + c ∧ t.rd Reg.LE_MMGFC = s.time.gfc ∧
      Reported t 4 lane c ∧ t.mem = s.mem ∧ t.phs = s.phs := by
  intro t
  refine ⟨State.bit_setBit _ _ _ _ (by decide), ?_, ?_, ?_, ?_, ?_⟩
  · have h : t.rd Reg.LE_MISMATCH = word (0x80000000 + lane * 256 + c) :=
      (State.rd_setBit_ne _ _ _ _ _ (by decide)).trans ((State.rd_wr_ne _ _ _ _ (by decide)).trans (State.rd_wr_same _ _ _))
    rw [State.rdN_eq, h, word, BitVec.toNat_ofNat, Nat.mod_eq_of_lt (by omega)]
    omega
  · refine (State.rd_setBit_ne _ _ _ _ _ (by decide)).trans ((State.rd_wr_same _ _ _).trans ?_)
    exact congrArg TimeSt.gfc (State.sendFault_time _ _)
  · refine ⟨_, State.sendFault_has s _ (.inr (classUp_ne_zero (by decide))), ?_, rfl, rfl⟩
    simp only [State.faultMsg]
    rfl
  · exact State.sendFault_mem _ _
  · exact State.sendFault_phs _ _

/-- Settles O23: the reads before a run change no word of contexts, the run writes the words of its own context alone, and its
release and its trace write none. -/
theorem loopRun : Obligations.LoopRun := by
  unfold Obligations.LoopRun
  intro e s hl hv hd hh c hst hi hb
  have hc : c < 256 := fieldOf_lt ..
  have h1 := s.readsClean_schedule (Reg.LE_SENT0 e)
  generalize hx1 : s.eccTouch 2 (Reg.LE_SENT0 e) = s1 at h1
  have hi1 : s1.bit Reg.INJ_STAT 28 = false := by
    rw [State.bit_eq, h1.rd (by simp only [eccNoteReg]; decide) (by decide)]
    exact hi
  have hb1 := h1.eccBad hb
  have h2 := h1.trans (s1.readsClean_eccRead hb1)
  have hx (d : Bool) : exec (.loopRun e d) s = .next (s1.runContext e c d) := by
    rw [← hx1]
    exact execLoopRun_due d hl hv hd hh hst
  refine ⟨?_, ?_⟩
  · obtain ⟨live, rel, tmpl, r, stale, hr⟩ := s1.runContext_agreed e c hi1 hb1
    generalize s1.eccRead 0 (512 * c) (512 * c + 512) = s2 at h2 hr
    have hst2 : s2.cState c = s.cState c := congrArg (fieldOf · 1 0) (h2.cw c 0)
    obtain ⟨y, hy, ht, hz⟩ := s2.runMade_shows hc live rel tmpl r stale
    have hp := (s2.runMade c live rel tmpl r stale).released_parts c rel
    rw [← hr] at hp
    simp only [State.wroteParts, Prod.mk.injEq] at hp
    obtain ⟨-, hctx, hmem⟩ := hp
    obtain ⟨hgfc, hruns, hout, hapart⟩ := (hy.mem hmem).base h2.frame.time h2.mem8
    refine ⟨_, hx false, hgfc, hruns, fun h1 hb => ?_, fun h3 z h0 => ?_, hapart⟩
    · rw [hout, ht (hst2.trans h1) (by rw [h2.cw]; exact hb), h2.cx]
    · obtain ⟨rfl, hn⟩ := hz (hst2.trans h3) z (by rw [h2.cx]; exact h0)
      exact ⟨hout, (congrArg (fun l => (vget l c CtxSt.initial).y0) hctx).trans hn⟩
  · have hx := (hx true).trans (congrArg Host.Outcome.next (s1.runContext_differs e c hi1))
    have hlane : s1.fld (Reg.LE_SENT0 e) 23 20 = s.fld (Reg.LE_SENT0 e) 23 20 :=
      congrArg (fieldOf · 23 20) (h1.rd (sent_apart e).1 (sent_apart e).2)
    rw [hlane] at hx
    obtain ⟨a1, a2, a3, a4, a5, a6⟩ := State.laneMismatch_shows (s1.eccRead 0 (512 * c) (512 * c + 512))
      (lane := s.fld (Reg.LE_SENT0 e) 23 20) (fieldOf_lt ..) hc false
    exact ⟨_, hx, a1, a2, a3.trans (congrArg TimeSt.gfc h2.frame.time), a4,
      fun a => by rw [State.mem8, a5]; exact h2.mem8 a, a6.trans h2.phs⟩

end Sys2Proof.Machine
end

section
/-!
PROOFS. MONO, GFC and the boot commit's mark through the operations of a start. A start reaches most operations of the model: by the
registers that its image writes, by its commits and by its training. Each of them leaves these three alone, which is one rule per
operation, in the order of the definitions, so that simp carries the rules through what is composed of them.
-/

namespace Sys2Proof.Machine

/-- What a start keeps from its release to READY: MONO, GFC, and that the boot commit has been made. -/
def State.clock (s : State) : BitVec 64 × Word × Bool := (s.time.mono, s.time.gfc, s.unit.booted)

/-- A state that is built part by part, as simp leaves an update of one part. -/
@[simp] theorem State.clock_mk (r : Cells 32)
    {shadow mem latch readData time unit flash boot upd smb spi commit check pair links frameNo chans fine ctx cwq trc phs stg loc
    fdr strs shf mb stat statSnap en meas hk evq flt ecc linj evr sbg free pending} :
    (State.mk r shadow mem latch readData time unit flash boot upd smb spi commit check pair links frameNo chans fine ctx cwq trc
      phs stg loc fdr strs shf mb stat statSnap en meas hk evq flt ecc linj evr sbg free pending).clock =
        (time.mono, time.gfc, unit.booted) := rfl

@[simp] theorem State.clock_parts (s : State) : (s.time.mono, s.time.gfc, s.unit.booted) = s.clock := rfl

@[simp] theorem State.clock_ite (c : Prop) [Decidable c] (x y : State) :
    (if c then x else y).clock = if c then x.clock else y.clock := apply_ite State.clock c x y

@[simp] theorem State.clock_foldl {α : Type} (f : State → α → State) (l : List α) (s : State) (hf : ∀ s x, (f s x).clock = s.clock) :
    (l.foldl f s).clock = s.clock := foldl_part State.clock f hf l s

theorem State.Edged.clock {s t : State} (h : s.Edged t) : t.clock = s.clock := by
  rw [h]
  rfl

/-- A fold of steps each of which leaves a part of what it goes by. -/
theorem foldl_keeps {α β γ : Type} (part : β → γ) (f : β → α → β) (hf : ∀ b x, part (f b x) = part b) (l : List α) (b : β) :
    part (l.foldl f b) = part b := by
  induction l generalizing b with
  | nil => rfl
  | cons a l ih => exact (ih _).trans (hf b a)

/-! ## Steps 1 to 4 of a start, and the updates of the state -/

@[simp] theorem State.clock_wr (s : State) (a : Nat) (v : Word) : (s.wr a v).clock = s.clock := by simp [State.wr]

@[simp] theorem State.clock_put (s : State) (a hi lo v : Nat) : (s.put a hi lo v).clock = s.clock := by simp [State.put]

@[simp] theorem State.clock_bootPhase (s : State) (n : Nat) : (s.bootPhase n).clock = s.clock := by simp [State.bootPhase]

@[simp] theorem State.clock_wrN (s : State) (a v : Nat) : (s.wrN a v).clock = s.clock := by simp [State.wrN]

@[simp] theorem State.clock_setBit (s : State) (a i : Nat) (b : Bool) : (s.setBit a i b).clock = s.clock := by simp [State.setBit]

@[simp] theorem State.clock_sampleStraps (s : State) (e : StartEnv) : (s.sampleStraps e).clock = s.clock := by simp [State.sampleStraps]

@[simp] theorem State.clock_loadDesc (s : State) (d : Desc) (copy : Nat) : (s.loadDesc d copy).clock = s.clock := by simp [State.loadDesc]

@[simp] theorem State.clock_setSlot (s : State) (i : Nat) (x : Slot) : (s.setSlot i x).clock = s.clock := by simp [State.setSlot]

@[simp] theorem State.clock_slotOutcome (s : State) (i code : Nat) : (s.slotOutcome i code).clock = s.clock := by simp [State.slotOutcome]

@[simp] theorem State.clock_trySlots (s : State) (fw fallBit a b : Nat) : (s.trySlots fw fallBit a b).2.clock = s.clock := by
  unfold State.trySlots
  extract_lets try1
  have h1 (s : State) (i : Nat) : (try1 s i).2.clock = s.clock := by
    simp only [try1]
    split <;> simp
  have ha := h1 s a
  generalize try1 s a = r at ha
  obtain ⟨c, x⟩ := r
  have hb := h1 (x.setBit Reg.BOOT_STAT fallBit true) b
  generalize hr : try1 (x.setBit Reg.BOOT_STAT fallBit true) b = r at hb
  obtain ⟨d, y⟩ := r
  dsimp only at ha ⊢
  split
  · exact ha
  · rw [hr]
    exact hb.trans ha

@[simp] theorem State.clock_swr (s : State) (a : Nat) (v : Word) : (s.swr a v).clock = s.clock := by simp [State.swr]

@[simp] theorem State.clock_calSet (s : State) (a : Nat) (v : Word) : (s.calSet a v).clock = s.clock := by simp [State.calSet]

@[simp] theorem State.clock_calLoad (s : State) (defs : List CalDefItem) : (s.calLoad defs).clock = s.clock := by simp [State.calLoad]

@[simp] theorem State.clock_bump (s : State) (a hi lo n : Nat) : (s.bump a hi lo n).clock = s.clock := by simp [State.bump]

@[simp] theorem State.clock_pulse (s : State) (p : EvPulse) : (s.pulse p).clock = s.clock := by simp [State.pulse]

@[simp] theorem State.clock_raiseWith (s : State) (e : Ev) (detail : List Byte) (inj fwd : Bool) :
    (s.raiseWith e detail inj fwd).clock = s.clock := by simp [State.raiseWith]

@[simp] theorem State.clock_raise (s : State) (e : Ev) : (s.raise e).clock = s.clock := by simp [State.raise]

@[simp] theorem State.clock_reservedWrite (s : State) : s.reservedWrite.clock = s.clock := by simp [State.reservedWrite]

@[simp] theorem State.clock_testRefuse (s : State) (bit e : Nat) : (s.testRefuse bit e).clock = s.clock := by simp [State.testRefuse]

@[simp] theorem State.clock_tdmSend (s : State) (x : TandemContent) : (s.tdmSend x).clock = s.clock := by simp [State.tdmSend]

@[simp] theorem State.clock_forward (s : State) (x : FwdItem) : (s.forward x).clock = s.clock := by simp [State.forward]

@[simp] theorem State.clock_forwardOwn (s : State) (x : FwdItem) : (s.forwardOwn x).clock = s.clock := by simp [State.forwardOwn]

@[simp] theorem State.clock_onSg (s : State) (k : Nat) (f : StgSt → StgSt) : (s.onSg k f).clock = s.clock := by simp [State.onSg]

@[simp] theorem State.clock_onPh (s : State) (i : Nat) (f : PhSt → PhSt) : (s.onPh i f).clock = s.clock := by simp [State.onPh]

@[simp] theorem State.clock_setLink (s : State) (n : Nat) (l : LinkSt) : (s.setLink n l).clock = s.clock := by simp [State.setLink]

@[simp] theorem State.clock_onLink (s : State) (n : Nat) (f : LinkSt → LinkSt) : (s.onLink n f).clock = s.clock := by simp [State.onLink]

@[simp] theorem State.clock_addEdge (s : State) (n : Nat) (e : Edge) : (s.addEdge n e).clock = s.clock := by simp [State.addEdge]

@[simp] theorem State.clock_onStr (s : State) (b : Nat) (f : StrSt → StrSt) : (s.onStr b f).clock = s.clock := by simp [State.onStr]

@[simp] theorem State.clock_strFlush (s : State) (b : Nat) :
    (s.strFlush b).clock = s.clock := ite_part State.clock (foldl_part State.clock _ (fun s _ => s.clock_addEdge _ _) _ s) rfl

@[simp] theorem State.clock_contactor (s : State) (b : Nat) (pre : Bool) (ev : Nat) :
    (s.contactor b pre ev).clock = s.clock := by simp [State.contactor]

/-! ## Writes of registers that start something -/

@[simp] theorem State.clock_setStrMode (s : State) (b m : Nat) : (s.setStrMode b m).clock = s.clock := by simp [State.setStrMode]

@[simp] theorem State.clock_reconnect (s : State) (v : Word) : (s.reconnect v).clock = s.clock := by simp [State.reconnect]

@[simp] theorem State.clock_killRelease (s : State) (v : Word) : (s.killRelease v).clock = s.clock := by simp [State.killRelease]

@[simp] theorem State.clock_onMb (s : State) (f : Nat) (g : MbSt → MbSt) : (s.onMb f g).clock = s.clock := by simp [State.onMb]

@[simp] theorem State.clock_mbSubmit (s : State) (f : Nat) (v : Word) : (s.mbSubmit f v).clock = s.clock := by simp [State.mbSubmit]

@[simp] theorem State.clock_offer (s : State) (r : Rec) : (s.offer r).clock = s.clock := by simp [State.offer]

@[simp] theorem State.clock_injected (s : State) : s.injected.clock = s.clock := by simp [State.injected]

@[simp] theorem State.clock_eccWrite (s : State) (region addr : Nat) : (s.eccWrite region addr).clock = s.clock := by simp [State.eccWrite]

@[simp] theorem State.clock_shdStore (s : State) (a : Nat) (v : Word) : (s.shdStore a v).clock = s.clock := by
  unfold State.shdStore
  extract_lets s1
  have h1 : s1.clock = s.clock := by simp [s1]
  split <;> simp [h1]

@[simp] theorem State.clock_schedStale (s : State) : s.schedStale.clock = s.clock := by
  unfold State.schedStale
  split <;> simp

@[simp] theorem State.clock_shdPut (s : State) (a : Nat) (v mask : Word) : (s.shdPut a v mask).clock = s.clock := by simp [State.shdPut]

@[simp] theorem State.clock_shdWrite (s : State) (a : Nat) (v mask : Word) : (s.shdWrite a v mask).clock = s.clock := by simp [State.shdWrite]

@[simp] theorem State.clock_storeByType (s : State) (own : Bool) (k : Nat) (v : Word) : (s.storeByType own k v).clock = s.clock := by
  unfold State.storeByType
  split <;> simp

@[simp] theorem State.clock_fdrCtlWrite (s : State) (k : Nat) (v : Word) : (s.fdrCtlWrite k v).clock = s.clock := by simp [State.fdrCtlWrite]

@[simp] theorem State.clock_htestWrite (s : State) (v : Word) : (s.htestWrite v).clock = s.clock := by simp [State.htestWrite]

@[simp] theorem State.clock_metCtl (s : State) (v : Word) : (s.metCtl v).clock = s.clock := by simp [State.metCtl]

@[simp] theorem State.clock_addAccess (s : State) (n : Nat) (a : HeadAccess) : (s.addAccess n a).clock = s.clock := by simp [State.addAccess]

@[simp] theorem State.clock_hregCtl (s : State) (n : Nat) (v : Word) : (s.hregCtl n v).clock = s.clock := by
  unfold State.hregCtl
  split <;> simp

@[simp] theorem State.clock_writePair (s : State) (k : Nat) (v : Word) : (s.writePair k v).clock = s.clock := by simp [State.writePair]

@[simp] theorem State.clock_pairWrite (s : State) (k : Nat) (v : Word) : (s.pairWrite k v).clock = s.clock := by simp [State.pairWrite]

@[simp] theorem State.clock_onLc (s : State) (n : Nat) (f : LocSt → LocSt) : (s.onLc n f).clock = s.clock := by simp [State.onLc]

theorem State.outputsSafe_time (s : State) : s.outputsSafe.time = s.time := by
  unfold State.outputsSafe
  extract_lets s1 s2
  have h1 : s1.time = s.time := by
    refine foldl_part State.time _ (fun s n => ?_) _ s
    rfl
  have h2 : s2.time = s1.time := by simp only [s2, State.put_time, State.wrN_time]
  have h3 : s2.time = s.time := h2.trans h1
  clear_value s2
  exact h3

@[simp] theorem State.clock_assertReset (s : State) (cause : Nat) : (s.assertReset cause).clock = s.clock := by
  unfold State.assertReset
  extract_lets booted x
  have hx : x.time = s.time := s.outputsSafe_time
  have hc : (x.time.mono, x.time.gfc, s.unit.booted) = s.clock := by rw [hx, State.clock]
  exact hc

@[simp] theorem State.clock_rstreqWrite (s : State) (v : Word) : (s.rstreqWrite v).clock = s.clock := by simp [State.rstreqWrite]

@[simp] theorem State.clock_commitResult (s : State) (result err : Nat) (f : Option (CommitFail × Nat)) :
    (s.commitResult result err f).clock = s.clock := by
  unfold State.commitResult
  split <;> simp

@[simp] theorem State.clock_commitState (s : State) (st : Nat) : (s.commitState st).clock = s.clock := by simp [State.commitState]

@[simp] theorem State.clock_commitWrite (s : State) (v : Word) : (s.commitWrite v).clock = s.clock := by simp [State.commitWrite]

@[simp] theorem State.clock_injLock (s : State) : s.injLock.clock = s.clock := by simp [State.injLock]

@[simp] theorem State.clock_tokFree (s : State) : s.tokFree.clock = s.clock := by simp [State.tokFree]

@[simp] theorem State.clock_tokGive (s : State) : s.tokGive.clock = s.clock := by simp [State.tokGive]

@[simp] theorem State.clock_tokResult (s : State) (r : Nat) : (s.tokResult r).clock = s.clock := by simp [State.tokResult]

@[simp] theorem State.clock_tokBusy (s : State) : s.tokBusy.clock = s.clock := by simp [State.tokBusy]

@[simp] theorem State.clock_tokGrant (s : State) (mine : Bool) (act : Nat) : (s.tokGrant mine act).clock = s.clock := by simp [State.tokGrant]

@[simp] theorem State.clock_onPair (s : State) (f : PairSt → PairSt) : (s.onPair f).clock = s.clock := by simp [State.onPair]

@[simp] theorem State.clock_tokRequest (s : State) (act : Nat) : (s.tokRequest act).clock = s.clock := by simp [State.tokRequest]

@[simp] theorem State.clock_tokWrite (s : State) (v : Word) : (s.tokWrite v).clock = s.clock := by simp [State.tokWrite]

@[simp] theorem State.clock_wallctlWrite (s : State) (v : Word) : (s.wallctlWrite v).clock = s.clock := by simp [State.wallctlWrite]

@[simp] theorem State.clock_cdcStatWrite (s : State) (v : Word) : (s.cdcStatWrite v).clock = s.clock := by simp [State.cdcStatWrite]

@[simp] theorem State.clock_pdkEnd (s : State) : s.pdkEnd.clock = s.clock := by simp [State.pdkEnd]

@[simp] theorem State.clock_pdkErr (s : State) (c : Nat) : (s.pdkErr c).clock = s.clock := by simp [State.pdkErr]

@[simp] theorem State.clock_pdkOpen (s : State) (p : Port) (v : Word) : (s.pdkOpen p v).clock = s.clock := by simp [State.pdkOpen]

@[simp] theorem State.clock_pdkCtl (s : State) (p : Port) (v : Word) : (s.pdkCtl p v).clock = s.clock := by
  unfold State.pdkCtl
  split
  · split <;> simp
  · rfl

@[simp] theorem State.clock_pdkData (s : State) (p : Port) (v : Word) : (s.pdkData p v).clock = s.clock := by simp [State.pdkData]

/-! ## What a write or a commit does to phases, stages, feeders and links -/

@[simp] theorem State.clock_sendReflex (s : State) (n act mask : Nat) : (s.sendReflex n act mask).clock = s.clock := by
  unfold State.sendReflex
  split
  · extract_lets l m l'
    split <;> simp
  · rfl

@[simp] theorem State.clock_takeSnap (s : State) (slot : Nat) (payload : List Byte) (urgent inj fwd : Bool) :
    (s.takeSnap slot payload urgent inj fwd).clock = s.clock := by simp [State.takeSnap]

@[simp] theorem State.clock_stageSnap (s : State) (k cause st ph : Nat) (urgent fwd : Bool) :
    (s.stageSnap k cause st ph urgent fwd).clock = s.clock := by simp [State.stageSnap]

@[simp] theorem State.clock_discardEdges (s : State) (i : Nat) : (s.discardEdges i).clock = s.clock := by simp [State.discardEdges]

@[simp] theorem State.clock_noteEdge (s : State) (i ev t : Nat) : (s.noteEdge i ev t).clock = s.clock := by
  unfold State.noteEdge
  split <;> simp

@[simp] theorem State.clock_noteLocal (s : State) (n ev t : Nat) : (s.noteLocal n ev t).clock = s.clock := by
  unfold State.noteLocal
  split <;> simp

@[simp] theorem State.clock_forceLocal (s : State) (n : Nat) : (s.forceLocal n).clock = s.clock := by simp [State.forceLocal]

@[simp] theorem State.clock_reflexPhases (s : State) (act : Nat) (is : List Nat) :
    (s.reflexPhases act is).clock = s.clock := by simp [State.reflexPhases]

@[simp] theorem State.clock_forcePhases (s : State) (is : List Nat) (cause : Nat) :
    (s.forcePhases is cause).clock = s.clock := by simp [State.forcePhases]

@[simp] theorem State.clock_leaveRun (s : State) (k : Nat) : (s.leaveRun k).clock = s.clock := by simp [State.leaveRun]

@[simp] theorem State.clock_countPhases (s : State) (k : Nat) : (s.countPhases k).clock = s.clock := by simp [State.countPhases]

@[simp] theorem State.clock_stageSafe (s : State) (k cause : Nat) (fwd : Bool) :
    (s.stageSafe k cause fwd).clock = s.clock := by simp [State.stageSafe]

@[simp] theorem State.clock_stageFaultSafe (s : State) (k cause : Nat) (fwd : Bool) :
    (s.stageFaultSafe k cause fwd).clock = s.clock := by simp [State.stageFaultSafe]

@[simp] theorem State.clock_fdrSnap (s : State) (f cause : Nat) (urgent fwd : Bool) :
    (s.fdrSnap f cause urgent fwd).clock = s.clock := by simp [State.fdrSnap]

@[simp] theorem State.clock_fdrDiscard (s : State) (f : Nat) : (s.fdrDiscard f).clock = s.clock := by simp [State.fdrDiscard]

@[simp] theorem State.clock_onFd (s : State) (f : Nat) (g : FdrSt → FdrSt) : (s.onFd f g).clock = s.clock := by simp [State.onFd]

@[simp] theorem State.clock_fdrSendHead (s : State) (f : Nat) : (s.fdrSendHead f).clock = s.clock := by simp [State.fdrSendHead]

@[simp] theorem State.clock_sendFault (s : State) (m : FltMsg) : (s.sendFault m).clock = s.clock := by simp [State.sendFault]

@[simp] theorem State.clock_fault (s : State) (k inst addr : Nat) : (s.fault k inst addr).clock = s.clock := by simp [State.fault]

@[simp] theorem State.clock_tripAgain (s : State) (f cause : Nat) : (s.tripAgain f cause).clock = s.clock := by simp [State.tripAgain]

@[simp] theorem State.clock_tripState (s : State) (f cause : Nat) (fwd : Bool) :
    (s.tripState f cause fwd).clock = s.clock := by simp [State.tripState]

@[simp] theorem State.clock_linkSafe (s : State) (n : Nat) : (s.linkSafe n).clock = s.clock := by simp [State.linkSafe]

@[simp] theorem State.clock_fdrHeadDone (s : State) (f : Nat) (ok : Bool) : (s.fdrHeadDone f ok).clock = s.clock := by simp [State.fdrHeadDone]

@[simp] theorem State.clock_accessDone (s : State) (n : Nat) (ok diff : Bool) (v : Word) : (s.accessDone n ok diff v).clock = s.clock := by
  simp only [State.accessDone]
  split
  · rfl
  · split <;> split <;> simp

@[simp] theorem State.clock_dropAccesses (s : State) (n : Nat) : (s.dropAccesses n).clock = s.clock := by simp [State.dropAccesses]

@[simp] theorem State.clock_linkLost (s : State) (n : Nat) : (s.linkLost n).clock = s.clock := by simp [State.linkLost]

@[simp] theorem State.clock_linkOff (s : State) (n : Nat) : (s.linkOff n).clock = s.clock := by simp [State.linkOff]

@[simp] theorem State.clock_setLinkState (s : State) (n st : Nat) : (s.setLinkState n st).clock = s.clock := by simp [State.setLinkState]

@[simp] theorem State.clock_trainTo (s : State) (n st : Nat) : (s.trainTo n st).clock = s.clock := by simp [State.trainTo]

@[simp] theorem State.clock_linkDown (s : State) (n reason : Nat) : (s.linkDown n reason).clock = s.clock := by simp [State.linkDown]

@[simp] theorem State.clock_lnkCtl (s : State) (n : Nat) (v : Word) : (s.lnkCtl n v).clock = s.clock := by simp [State.lnkCtl]

@[simp] theorem State.clock_leCheckWrite (s : State) (v : Word) : (s.leCheckWrite v).clock = s.clock := by simp [State.leCheckWrite]

@[simp] theorem State.clock_laneTestStart (s : State) : s.laneTestStart.clock = s.clock := by simp [State.laneTestStart]

@[simp] theorem State.clock_lstestWrite (s : State) (v : Word) : (s.lstestWrite v).clock = s.clock := by simp [State.lstestWrite]

@[simp] theorem State.clock_cwRefuse (s : State) (c rcode : Nat) : (s.cwRefuse c rcode).clock = s.clock := by simp [State.cwRefuse]

@[simp] theorem State.clock_cwCount (s : State) : s.cwCount.clock = s.clock := by simp [State.cwCount]

@[simp] theorem State.clock_cwArrive (s : State) (c : Nat) (x : CwItem) : (s.cwArrive c x).clock = s.clock := by simp [State.cwArrive]

@[simp] theorem State.clock_cwCommand (s : State) (c : Nat) (v : Word) : (s.cwCommand c v).clock = s.clock := by
  unfold State.cwCommand
  split <;> simp

/-! ## Measurement, the pair, faults and updates -/

@[simp] theorem State.clock_trcGoto (s : State) (u st : Nat) : (s.trcGoto u st).clock = s.clock := by simp [State.trcGoto]

@[simp] theorem State.clock_onTr (s : State) (u : Nat) (f : TrcSt → TrcSt) : (s.onTr u f).clock = s.clock := by simp [State.onTr]

@[simp] theorem State.clock_trcCtlWrite (s : State) (u : Nat) (v : Word) : (s.trcCtlWrite u v).clock = s.clock := by simp [State.trcCtlWrite]

@[simp] theorem State.clock_seqTrigger (s : State) (c : Nat) : (s.seqTrigger c).clock = s.clock := by
  unfold State.seqTrigger
  split
  · rfl
  · split
    · rfl
    · extract_lets s1
      split
      · rfl
      · exact (State.clock_raise _ _).trans rfl

@[simp] theorem State.clock_seqGo (s : State) (v : Word) : (s.seqGo v).clock = s.clock := by simp [State.seqGo]

@[simp] theorem State.clock_tdacWrite (s : State) (v : Word) : (s.tdacWrite v).clock = s.clock := by simp [State.tdacWrite]

@[simp] theorem State.clock_calError (s : State) (err : Nat) : (s.calError err).clock = s.clock := by simp [State.calError]

@[simp] theorem State.clock_calDeny (s : State) (e err : Nat) : (s.calDeny e err).clock = s.clock := by simp [State.calDeny]

@[simp] theorem State.clock_setCal (s : State) (c : CalProc) : (s.setCal c).clock = s.clock := by simp [State.setCal]

@[simp] theorem State.clock_calCmd (s : State) (v : Word) : (s.calCmd v).clock = s.clock := by
  unfold State.calCmd
  extract_lets e fresh
  split
  · split <;> simp
  · split <;> simp
  · rfl
  · rfl

@[simp] theorem State.clock_claimUpdate (s : State) : s.claimUpdate.clock = s.clock := by simp [State.claimUpdate]

@[simp] theorem State.clock_proposeSwap (s : State) (kind : Nat) : (s.proposeSwap kind).clock = s.clock := by simp [State.proposeSwap]

@[simp] theorem State.clock_remountRequest (s : State) : s.remountRequest.clock = s.clock := by simp [State.remountRequest]

@[simp] theorem State.clock_pairCtl (s : State) (v : Word) : (s.pairCtl v).clock = s.clock := by simp [State.pairCtl]

@[simp] theorem State.clock_fltPut (s : State) (i : Nat) (e : Option FltEntry) : (s.fltPut i e).clock = s.clock := by simp [State.fltPut]

@[simp] theorem State.clock_fltReleaseOne (s : State) (i : Nat) : (s.fltReleaseOne i).clock = s.clock := by
  unfold State.fltReleaseOne
  split <;> simp

@[simp] theorem State.clock_fltRelease (s : State) (v : Word) : (s.fltRelease v).clock = s.clock := by simp [State.fltRelease]

@[simp] theorem State.clock_injRefuse (s : State) (c : Nat) : (s.injRefuse c).clock = s.clock := by simp [State.injRefuse]

@[simp] theorem State.clock_injKeyWrite (s : State) (v : Word) : (s.injKeyWrite v).clock = s.clock := by simp [State.injKeyWrite]

@[simp] theorem State.clock_injLctl (s : State) (v : Word) : (s.injLctl v).clock = s.clock := by simp [State.injLctl]

@[simp] theorem State.clock_injEctl (s : State) (v : Word) : (s.injEctl v).clock = s.clock := by simp [State.injEctl]

@[simp] theorem State.clock_injLane (s : State) (v : Word) : (s.injLane v).clock = s.clock := by simp [State.injLane]

@[simp] theorem State.clock_onCx (s : State) (c : Nat) (f : CtxSt → CtxSt) : (s.onCx c f).clock = s.clock := by simp [State.onCx]

@[simp] theorem State.clock_stageFaultCheck (s : State) (k : Nat) : (s.stageFaultCheck k).clock = s.clock := by simp [State.stageFaultCheck]

@[simp] theorem State.clock_removeEdge (s : State) (i ev t : Nat) : (s.removeEdge i ev t).clock = s.clock := (s.edged_removeEdge ..).clock

@[simp] theorem State.clock_unplace (s : State) (i : Nat) (p : Pulse) : (s.unplace i p).clock = s.clock := (s.edged_unplace ..).clock

@[simp] theorem State.clock_dropPulses (s : State) (i : Nat) : (s.dropPulses i).clock = s.clock := (s.edged_dropPulses ..).clock

@[simp] theorem State.clock_respaceStep (s : State) (k start : Nat) : (s.respaceStep k start).clock = s.clock := by simp [State.respaceStep]

@[simp] theorem State.clock_placeEdge (s : State) (i ev t : Nat) : (s.placeEdge i ev t).clock = s.clock := (s.edged_placeEdge ..).clock

@[simp] theorem State.clock_addPulse (s : State) (i : Nat) (p : Pulse) : (s.addPulse i p).clock = s.clock := (s.edged_addPulse ..).clock

@[simp] theorem State.clock_placePeriod (s : State) (k start len lim : Nat) :
    (s.placePeriod k start len lim).clock = s.clock := (s.edged_placePeriod ..).clock

@[simp] theorem State.clock_formPeriod (s : State) (k start len : Nat) : (s.formPeriod k start len).clock = s.clock := by simp [State.formPeriod]

@[simp] theorem State.clock_formNext (s : State) (k : Nat) : (s.formNext k).clock = s.clock := by simp [State.formNext]

@[simp] theorem State.clock_reform (s : State) (k : Nat) (relen : Bool) : (s.reform k relen).clock = s.clock := by
  simp only [State.reform]
  split
  · rfl
  · refine (foldl_part State.clock _ (fun s p => by simp) _ _).trans ?_
    split <;> simp

@[simp] theorem State.clock_setActiveFrom (s : State) (k : Nat) (fresh force : Bool) :
    (s.setActiveFrom k fresh force).clock = s.clock := by simp [State.setActiveFrom]

@[simp] theorem State.clock_phaseForce (s : State) (i : Nat) : (s.phaseForce i).clock = s.clock := by simp [State.phaseForce]

@[simp] theorem State.clock_tripReflex (s : State) (f cause : Nat) (fwd : Bool) :
    (s.tripReflex f cause fwd).clock = s.clock := by simp [State.tripReflex]

@[simp] theorem State.clock_injSafe (s : State) (m : FltMsg) (k : Nat) : (s.injSafe m k).clock = s.clock := by
  unfold State.injSafe
  generalize m.scope k = r
  obtain ⟨scope, i⟩ := r
  dsimp only
  split <;> simp

@[simp] theorem State.clock_injFmgo (s : State) (v : Word) : (s.injFmgo v).clock = s.clock := by
  simp only [State.injFmgo]
  split
  · split
    · simp
    · split <;> simp
  · rfl

@[simp] theorem State.clock_injWrite (s : State) (a : Nat) (v : Word) : (s.injWrite a v).clock = s.clock := by simp [State.injWrite]

@[simp] theorem State.clock_ringCount (s : State) : s.ringCount.clock = s.clock := by simp [State.ringCount]

@[simp] theorem State.clock_setRecSel (s : State) (p : Port) (x : RecSel) : (s.setRecSel p x).clock = s.clock := by simp [State.setRecSel]

@[simp] theorem State.clock_recSelect (s : State) (p : Port) (v : Word) : (s.recSelect p v).clock = s.clock := by simp [State.recSelect]

@[simp] theorem State.clock_sbgClear (s : State) (i : Nat) : (s.sbgClear i).clock = s.clock := by simp [State.sbgClear]

@[simp] theorem State.clock_sbgAck (s : State) (p : Port) (v : Word) : (s.sbgAck p v).clock = s.clock := by simp [State.sbgAck]

@[simp] theorem State.clock_offerNow (s : State) (kind sev : Nat) (payload : List Byte) :
    (s.offerNow kind sev payload).clock = s.clock := by simp [State.offerNow]

@[simp] theorem State.clock_sessEnded (s : State) (p : Port) (slot code : Nat) :
    (s.sessEnded p slot code).clock = s.clock := by simp [State.sessEnded]

@[simp] theorem State.clock_setPend (s : State) (p : Port) (x : Option PendSess) : (s.setPend p x).clock = s.clock := by
  unfold State.setPend
  split <;> simp

@[simp] theorem State.clock_endPend (s : State) (p : Port) (code : Nat) : (s.endPend p code).clock = s.clock := by
  unfold State.endPend
  split <;> simp

@[simp] theorem State.clock_updOpen (s : State) (p : Port) (v : Word) : (s.updOpen p v).clock = s.clock := by simp [State.updOpen]

@[simp] theorem State.clock_writeDesc (s : State) (f : Desc → Desc) : (s.writeDesc f).clock = s.clock := by simp [State.writeDesc]

@[simp] theorem State.clock_endAuth (s : State) (code : Nat) : (s.endAuth code).clock = s.clock := by
  unfold State.endAuth
  split <;> simp

@[simp] theorem State.clock_activateTack (s : State) (slot : Nat) : (s.activateTack slot).clock = s.clock := by simp [State.activateTack]

@[simp] theorem State.clock_flushCrossing (s : State) : s.flushCrossing.clock = s.clock := by simp [State.flushCrossing]

@[simp] theorem State.clock_startRestart (s : State) (planned : Bool) : (s.startRestart planned).clock = s.clock := by simp [State.startRestart]

@[simp] theorem State.clock_activateFw (s : State) (slot : Nat) : (s.activateFw slot).clock = s.clock := by simp [State.activateFw]

@[simp] theorem State.clock_updActivate (s : State) (p : Port) : (s.updActivate p).clock = s.clock := by
  unfold State.updActivate
  split <;> simp

@[simp] theorem State.clock_updAbort (s : State) (p : Port) : (s.updAbort p).clock = s.clock := by
  unfold State.updAbort
  extract_lets s1
  have h1 : s1.clock = s.clock := s.clock_endPend p 21
  split <;> simp [h1]

@[simp] theorem State.clock_updFallback (s : State) (reason : Nat) : (s.updFallback reason).clock = s.clock := by simp [State.updFallback]

@[simp] theorem State.clock_updCtl (s : State) (p : Port) (v : Word) : (s.updCtl p v).clock = s.clock := by
  unfold State.updCtl
  split
  · rfl
  · split
    · simp
    · split <;> simp

@[simp] theorem State.clock_updData (s : State) (p : Port) (v : Word) : (s.updData p v).clock = s.clock := by
  unfold State.updData
  split
  · simp
  · split
    · simp
    · split <;> simp

/-- Whatever a write answers keeps the clock. -/
def State.ClockKept (s : State) (o : Option State) : Prop := ∀ t, o = some t → t.clock = s.clock

namespace State.ClockKept

variable {s t : State}

theorem none : s.ClockKept none := fun _ h => by cases h

theorem some (h : t.clock = s.clock) : s.ClockKept (some t) := fun _ e => Option.some.inj e ▸ h

theorem ite {c : Prop} [Decidable c] {x y : Option State} (hx : s.ClockKept x) (hy : s.ClockKept y) : s.ClockKept (if c then x else y) := by
  split
  · exact hx
  · exact hy

end State.ClockKept

theorem State.clock_writeFixed (s : State) (p : Port) (k : Nat) (v : Word) : s.ClockKept (s.writeFixed p k v) := by
  have ht (k : Nat) : (s.storeByType true k v).clock = s.clock := s.clock_storeByType true k v
  have hw (a : Nat) : ((s.storeByType true k v).wrN a 0).clock = s.clock := (State.clock_wrN _ _ _).trans (ht k)
  refine .ite (.some (s.clock_rstreqWrite v)) (.ite (.some (s.clock_commitWrite v)) (.ite (.some (s.clock_tokWrite v)) ?_))
  refine .ite (.some (s.clock_wallctlWrite v)) (.ite (.some (s.clock_cdcStatWrite v)) (.ite (.some (s.clock_pdkCtl p v)) ?_))
  refine .ite (.some (s.clock_pdkData p v)) (.ite ?_ ?_)
  · extract_lets n
    split
    · exact .some (s.clock_lnkCtl n v)
    · exact .some ((State.clock_onLink _ _ _).trans (ht k))
    · exact .none
  refine .ite (.some (s.clock_leCheckWrite v)) (.ite (.some (s.clock_lstestWrite v)) (.ite (.some (s.clock_cwCommand _ v)) ?_))
  refine .ite (.some (s.clock_cwArrive _ _)) (.ite (.some (s.clock_trcCtlWrite _ v)) (.ite (.some (s.clock_seqGo v)) ?_))
  refine .ite (.some (s.clock_tdacWrite v)) (.ite (.some (ht k)) (.ite (.some (s.clock_calCmd v)) ?_))
  refine .ite (.some (s.clock_pairCtl v)) (.ite (.some (s.clock_fltRelease v)) (.ite (.some (s.clock_injKeyWrite v)) ?_))
  refine .ite (.some (s.clock_injWrite k v)) (.ite (.some ((State.clock_ringCount _).trans (ht k))) ?_)
  refine .ite (.some (s.clock_recSelect p v)) (.ite (.some (s.clock_sbgAck p v)) (.ite (.some (hw _)) ?_))
  exact .ite (.some (s.clock_updCtl p v)) (.ite (.some (s.clock_updData p v)) (.ite (.some (hw _)) .none))

@[simp] theorem State.clock_holdItems (s : State) (old : State) : (s.holdItems old).clock = s.clock := by simp [State.holdItems]

@[simp] theorem State.clock_writeKey (s : State) (p : Port) (k : Nat) (v : Word) : (s.writeKey p k v).clock = s.clock := by
  unfold State.writeKey
  split
  · simp
  · split
    next t ht =>
      have h : t.clock = s.clock := s.clock_writeFixed p k v t ht
      split <;> simp [h]
    next =>
      extract_lets t
      have h : t.clock = s.clock := s.clock_storeByType true k v
      split <;> simp [h]

@[simp] theorem State.clock_readEffect (s : State) (p : Port) (a : Nat) : (s.readEffect p a).clock = s.clock := by simp [State.readEffect]

@[simp] theorem State.clock_fabricWrite (s : State) (p : Port) (a : Nat) (v : Word) : (s.fabricWrite p a v).clock = s.clock := by
  unfold State.fabricWrite
  split
  · rfl
  · extract_lets known count
    have hc (t : State) : (count t).clock = t.clock := by simp [count]
    split
    · exact hc s
    · split
      · exact hc s
      · simp [hc]

/-! ## Words of context RAM and of the link map -/

@[simp] theorem State.clock_setMem8 (s : State) (a : Nat) (v : Byte) : (s.setMem8 a v).clock = s.clock := by simp [State.setMem8]

@[simp] theorem State.clock_setMem16 (s : State) (a v : Nat) : (s.setMem16 a v).clock = s.clock := by simp [State.setMem16]

@[simp] theorem State.clock_setMem32 (s : State) (a : Nat) (v : Word) : (s.setMem32 a v).clock = s.clock := by simp [State.setMem32]

@[simp] theorem State.clock_setCw (s : State) (c o : Nat) (v : Word) : (s.setCw c o v).clock = s.clock := by simp [State.setCw]

theorem State.clock_onDriven (s : State) (c : State → Nat → Bool) (f : State → Nat → State)
    (hf : ∀ (s : State) i, (f s i).clock = s.clock) :
    (s.onDriven c f).clock = s.clock := foldl_part State.clock _ (fun s i => ite_part State.clock (hf s i) rfl) _ s

@[simp] theorem State.clock_replacePulse (s : State) (i : Nat) (p q : Pulse) :
    (s.replacePulse i p q).clock = s.clock := (s.edged_replacePulse ..).clock

@[simp] theorem State.clock_releasePhase (s : State) (i x : Nat) : (s.releasePhase i x).clock = s.clock := (s.edged_releasePhase ..).clock

@[simp] theorem State.clock_redrive (s : State) (cs : List Nat) (x : Nat) : (s.redrive cs x).clock = s.clock := (s.edged_redrive ..).clock

@[simp] theorem State.clock_twinSync (s : State) (c : Nat) : (s.twinSync c).clock = s.clock := by simp [State.twinSync]

@[simp] theorem State.clock_writeCfg (s : State) (c : Nat) (v : Word) : (s.writeCfg c v).clock = s.clock := by simp [State.writeCfg]

@[simp] theorem State.clock_cwStore (s : State) (c o : Nat) (v : Word) : (s.cwStore c o v).clock = s.clock := by simp [State.cwStore]

@[simp] theorem State.clock_memWrite (s : State) (x : MemItem) : (s.memWrite x).clock = s.clock := by
  unfold State.memWrite
  split <;> simp

@[simp] theorem State.clock_linkmapWrite (s : State) (x : LinkMapItem) : (s.linkmapWrite x).clock = s.clock := by simp [State.linkmapWrite]

/-! ## Commits -/

@[simp] theorem State.clock_eccNote (s : State) (region addr : Nat) (bits : List Nat) (scrub : Bool) :
    (s.eccNote region addr bits scrub).clock = s.clock := by simp [State.eccNote]

@[simp] theorem State.clock_faultFrom (s : State) (k src inst addr : Nat) (inj : Bool) :
    (s.faultFrom k src inst addr inj).clock = s.clock := by simp [State.faultFrom]

@[simp] theorem State.clock_eccUnc (s : State) (region addr : Nat) : (s.eccUnc region addr).clock = s.clock := by
  unfold State.eccUnc
  split <;> simp

@[simp] theorem State.clock_eccTake (s : State) (x : EccFlip) (scrub : Bool) : (s.eccTake x scrub).clock = s.clock := by simp [State.eccTake]

@[simp] theorem State.clock_shadowEcc (s : State) (m : Nat) : (s.shadowEcc m).2.clock = s.clock := by simp [State.shadowEcc]

@[simp] theorem State.clock_noteSched (s : State) (f : Option SchedFail) : (s.noteSched f).clock = s.clock := by
  unfold State.noteSched
  split <;> simp

@[simp] theorem State.clock_checkGait (s : State) (m : Nat) : (s.checkGait m).2.clock = s.clock := by
  unfold State.checkGait
  split <;> simp

@[simp] theorem State.clock_checkSched (s : State) (m : Nat) : (s.checkSched m).2.clock = s.clock := by simp [State.checkSched]

@[simp] theorem State.clock_checkGroup (s : State) (m g : Nat) : (s.checkGroup m g).2.clock = s.clock := by
  unfold State.checkGroup
  split <;> simp

@[simp] theorem State.clock_commitChecks (s : State) (m : Nat) : (s.commitChecks m).2.clock = s.clock := by
  unfold State.commitChecks
  have h := s.clock_shadowEcc m
  generalize s.shadowEcc m = r at h
  obtain ⟨_ | a, x⟩ := r
  · refine (foldl_keeps (fun r : Option (CommitFail × Nat) × State => r.2.clock) _ (fun r g => ?_) _ _).trans h
    split
    · rfl
    · exact r.2.clock_checkGroup m g
  · exact h

@[simp] theorem State.clock_bootChecks (s : State) (m : Nat) : (s.bootChecks m).2.clock = s.clock := by simp [State.bootChecks]

@[simp] theorem State.clock_commitEnd (s : State) (result err : Nat) (f : Option (CommitFail × Nat)) :
    (s.commitEnd result err f).clock = s.clock := by simp [State.commitEnd]

@[simp] theorem State.clock_phaseLeave (s : State) : s.phaseLeave.clock = s.clock := by simp [State.phaseLeave]

@[simp] theorem State.clock_gaitCommitted (s : State) (old : State) : (s.gaitCommitted old).clock = s.clock := by simp [State.gaitCommitted]

@[simp] theorem State.clock_schedApplied (s : State) : s.schedApplied.clock = s.clock := by simp [State.schedApplied]

@[simp] theorem State.clock_sendSmap (s : State) (n : Nat) : (s.sendSmap n).clock = s.clock := by simp [State.sendSmap]

@[simp] theorem State.clock_releaseLocal (s : State) (n : Nat) : (s.releaseLocal n).clock = s.clock := by simp [State.releaseLocal]

@[simp] theorem State.clock_assignLocal (s : State) (n : Nat) : (s.assignLocal n).clock = s.clock := by
  unfold State.assignLocal
  extract_lets i? was
  split
  · rfl
  next x _ =>
    have h : x.clock = s.clock := s.clock_releaseLocal n
    clear_value i?
    cases i? <;> simp [h]

@[simp] theorem State.clock_phaseCommitted (s : State) (old : State) : (s.phaseCommitted old).clock = s.clock := by simp [State.phaseCommitted]

@[simp] theorem State.clock_sendDeadTime (s : State) (i : Nat) : (s.sendDeadTime i).clock = s.clock := by simp [State.sendDeadTime]

@[simp] theorem State.clock_deadTimeCommitted (s : State) (old : State) (i : Nat) :
    (s.deadTimeCommitted old i).clock = s.clock := by simp [State.deadTimeCommitted]

@[simp] theorem State.clock_edgeCommitted (s : State) (old : State) : (s.edgeCommitted old).clock = s.clock := by
  unfold State.edgeCommitted
  extract_lets s1
  have h1 : s1.clock = s.clock := foldl_part State.clock _ (fun s i => by simp) _ s
  exact (foldl_part State.clock _ (fun s k => by simp) _ s1).trans h1

@[simp] theorem State.clock_wmSet (s : State) (m st n : Nat) (up : Bool) : (s.wmSet m st n up).clock = s.clock := by simp [State.wmSet]

@[simp] theorem State.clock_wmonCommitted (s : State) (old : State) : (s.wmonCommitted old).clock = s.clock := by simp [State.wmonCommitted]

@[simp] theorem State.clock_onEn (s : State) (a : Nat) (f : EnSt → EnSt) : (s.onEn a f).clock = s.clock := by simp [State.onEn]

@[simp] theorem State.clock_metSnap (s : State) : s.metSnap.clock = s.clock := by simp [State.metSnap]

@[simp] theorem State.clock_metTurnover (s : State) : s.metTurnover.clock = s.clock := by
  simp only [State.metTurnover]
  split
  · split
    · simp
    · split <;> simp
  · rfl

@[simp] theorem State.clock_calSnap (s : State) : s.calSnap.clock = s.clock := by
  unfold State.calSnap
  split <;> simp

@[simp] theorem State.clock_markMixed (s : State) (e : Nat) : (s.markMixed e).clock = s.clock := by
  unfold State.markMixed
  extract_lets one s1 s2
  have h2 : s2.clock = s.clock := ite_part State.clock rfl rfl
  exact (foldl_part State.clock _ (fun s a => by simp) _ s2).trans h2

@[simp] theorem State.clock_calApply (s : State) (m : Word) (e : Nat) (carried : Option Nat) (closed : Bool) :
    (s.calApply m e carried closed).clock = s.clock := by simp [State.calApply]

@[simp] theorem State.clock_calMethodClear (s : State) : s.calMethodClear.clock = s.clock := foldl_part State.clock _ (fun s _ => s.clock_swr _ _) _ s

@[simp] theorem State.clock_calCommitted (s : State) (old : State) (cal : List CalCarry) : (s.calCommitted old cal).clock = s.clock := by
  unfold State.calCommitted
  extract_lets s1 closed s2
  have h2 : s2.clock = s1.clock := foldl_part State.clock _ (fun s e => by simp) _ s1
  exact (s2.clock_calMethodClear).trans (h2.trans s.clock_calSnap)

@[simp] theorem State.clock_metCommitted (s : State) (old : State) : (s.metCommitted old).clock = s.clock := by simp [State.metCommitted]

@[simp] theorem State.clock_mbModeCommit (s : State) (f : Nat) : (s.mbModeCommit f).clock = s.clock := by
  unfold State.mbModeCommit
  split <;> simp

@[simp] theorem State.clock_phaseOff (s : State) (i : Nat) : (s.phaseOff i).clock = s.clock := by simp [State.phaseOff]

@[simp] theorem State.clock_actOn (s : State) (act tgt addr : Nat) (repeated : Bool) : (s.actOn act tgt addr repeated).clock = s.clock := by
  unfold State.actOn
  split <;> simp

@[simp] theorem State.clock_routeAct (s : State) (route : Word) (addr : Nat) (repeated : Bool) :
    (s.routeAct route addr repeated).clock = s.clock := by simp [State.routeAct]

@[simp] theorem State.clock_cmpMove (s : State) (k st : Nat) (entry : Bool) : (s.cmpMove k st entry).clock = s.clock := by simp [State.cmpMove]

@[simp] theorem State.clock_cmpCommitted (s : State) (old : State) : (s.cmpCommitted old).clock = s.clock := by simp [State.cmpCommitted]

@[simp] theorem State.clock_fdrCheckHead (s : State) (f : Nat) : (s.fdrCheckHead f).clock = s.clock := by simp [State.fdrCheckHead]

@[simp] theorem State.clock_committed (s : State) (old : State) (m : Nat) (cal : List CalCarry) :
    (s.committed old m cal).clock = s.clock := by simp [State.committed]

@[simp] theorem State.clock_commitCopy (s : State) (m : Nat) (own : Bool) : (s.commitCopy m own).clock = s.clock := by
  unfold State.commitCopy
  extract_lets p s1
  refine (foldl_part State.clock _ (fun s e => ?_) _ s : s1.clock = s.clock)
  split
  · simp
  · rfl

@[simp] theorem State.clock_commitApply (s : State) (m : Nat) (fwd : Option (List CalCarry)) :
    (s.commitApply m fwd).clock = s.clock := by simp [State.commitApply]

@[simp] theorem State.clock_bootCommit (s : State) (m : Nat) : (s.bootCommit m).2.clock = s.clock := by
  unfold State.bootCommit
  have h := s.clock_bootChecks m
  generalize s.bootChecks m = r at h
  obtain ⟨_ | _, x⟩ := r
  · exact h
  · simpa using h

@[simp] theorem State.clock_throttlePins (s : State) (m : Nat) : (s.throttlePins m).clock = s.clock := by simp [State.throttlePins]

@[simp] theorem State.clock_putCw (s : State) (c o hi lo v : Nat) : (s.putCw c o hi lo v).clock = s.clock := by simp [State.putCw]

@[simp] theorem State.clock_outputGone (s : State) (c : Nat) : (s.outputGone c).clock = s.clock := (s.edged_outputGone ..).clock

@[simp] theorem State.clock_enterCtx (s : State) (c st : Nat) : (s.enterCtx c st).clock = s.clock := by
  unfold State.enterCtx
  split <;> simp

@[simp] theorem State.clock_tetherHand (s : State) (c : Nat) : (s.tetherHand c).clock = s.clock := by simp [State.tetherHand]

@[simp] theorem State.clock_bootSched (s : State) (t : TackImage) : (s.bootSched t).2.clock = s.clock := by
  unfold State.bootSched
  extract_lets s1
  have h1 : s1.clock = s.clock := foldl_part State.clock _ (fun s x => by simp) _ s
  have h := (s1.clock_bootCommit 2).trans h1
  generalize s1.bootCommit 2 = r at h
  obtain ⟨_ | _, x⟩ := r
  · exact h
  · exact (foldl_part State.clock _ (fun s c => s.clock_tetherHand c) _ x).trans h

/-! ## Training and READY -/

@[simp] theorem State.clock_trainFail (s : State) (n code : Nat) : (s.trainFail n code).clock = s.clock := by simp [State.trainFail]

@[simp] theorem State.clock_enumDone (s : State) (n : Nat) : (s.enumDone n).clock = s.clock := by
  unfold State.enumDone
  split <;> simp

@[simp] theorem State.clock_enumReply (s : State) (n kind version chans srcs steps : Nat) (serial : BitVec 48) :
    (s.enumReply n kind version chans srcs steps serial).clock = s.clock := by simp [State.enumReply]

@[simp] theorem State.clock_alignMeasured (s : State) (n minRtt maxRtt sumRtt : Nat) :
    (s.alignMeasured n minRtt maxRtt sumRtt).clock = s.clock := by simp [State.alignMeasured]

@[simp] theorem State.clock_addCmd (s : State) (n : Nat) (units : List (BitVec 16)) : (s.addCmd n units).clock = s.clock := by simp [State.addCmd]

@[simp] theorem State.clock_sendRelease (s : State) (n mask : Nat) : (s.sendRelease n mask).clock = s.clock := by simp [State.sendRelease]

@[simp] theorem State.clock_releaseHead (s : State) (n : Nat) : (s.releaseHead n).clock = s.clock := by simp [State.releaseHead]

@[simp] theorem State.clock_trainUp (s : State) (n : Nat) : (s.trainUp n).clock = s.clock := by simp [State.trainUp]

@[simp] theorem State.clock_takeWord (s : State) : s.takeWord.2.clock = s.clock := by simp [State.takeWord]

@[simp] theorem State.clock_trainSilent (s : State) (n : Nat) : (s.trainSilent n).clock = s.clock := by
  unfold State.trainSilent
  split <;> simp

@[simp] theorem State.clock_trainWhole (s : State) (n : Nat) (r : TrainReply) : (s.trainWhole n r).clock = s.clock := by
  unfold State.trainWhole
  split <;> simp

@[simp] theorem State.clock_setTd (s : State) (st : Nat) : (s.setTd st).clock = s.clock := by simp [State.setTd]

@[simp] theorem State.clock_tandemProbe (s : State) (f : TdAlign → TdAlign) : (s.tandemProbe f).clock = s.clock := by simp [State.tandemProbe]

@[simp] theorem State.clock_tandemFail (s : State) (c : Nat) : (s.tandemFail c).clock = s.clock := by simp [State.tandemFail]

@[simp] theorem State.clock_retrainLink (s : State) (n : Nat) : (s.retrainLink n).clock = s.clock := by simp [State.retrainLink]

@[simp] theorem State.clock_startLinks (s : State) : s.startLinks.clock = s.clock := by simp [State.startLinks]

@[simp] theorem State.clock_setSync (s : State) (p : Nat) : (s.setSync p).clock = s.clock := by simp [State.setSync]

@[simp] theorem State.clock_tandemUp (s : State) (m : Nat) (ms ma d : Int) : (s.tandemUp m ms ma d).clock = s.clock := by simp [State.tandemUp]

@[simp] theorem State.clock_tandemMeasured (s : State) (m : Nat) (ms ma : Int) (spread : Nat) :
    (s.tandemMeasured m ms ma spread).clock = s.clock := by simp [State.tandemMeasured]

@[simp] theorem State.clock_tandemWhole (s : State) (r : TrainReply) : (s.tandemWhole r).clock = s.clock := by
  unfold State.tandemWhole
  split
  · rfl
  · split <;> simp

@[simp] theorem State.clock_bootTrain (s : State) (x : Fin 17 × TrainReply) : (s.bootTrain x).clock = s.clock := by simp [State.bootTrain]

@[simp] theorem State.clock_tandemLock (s : State) : s.tandemLock.clock = s.clock := by simp [State.tandemLock]

@[simp] theorem State.clock_bootUntrained (s : State) : s.bootUntrained.clock = s.clock := by
  unfold State.bootUntrained
  extract_lets s1
  have h1 : s1.clock = s.clock := foldl_part State.clock _ (fun s n => s.clock_trainSilent n) _ s
  exact (s1.clock_tandemWhole _).trans h1

@[simp] theorem State.clock_bootLinks (s : State) (env : StartEnv) (t : TackImage) : (s.bootLinks env t).clock = s.clock := by
  unfold State.bootLinks
  extract_lets u s1 s2 s3 s4 s5
  have h2 : s2.clock = s.clock := (foldl_part State.clock _ (fun s n => by simp) _ s1).trans rfl
  have h3 : s3.clock = s2.clock := (foldl_part State.clock _ (fun s x => s.clock_bootTrain x) _ _).trans (by simp)
  have h4 : s4.clock = s3.clock := by simp [s4]
  have h5 : s5.clock = s4.clock := foldl_part State.clock _ (fun s x => s.clock_bootTrain x) _ s4
  simp [h5, h4, h3, h2]

@[simp] theorem State.clock_readOverlay (s : State) (r : OverlayRead) : (s.readOverlay r).1.clock = s.clock := by
  unfold State.readOverlay
  extract_lets newest use fmt none_
  have hu (s : State) (a : Bool) (c : OvlCopy) : (use s a c).clock = s.clock := rfl
  have hn (s : State) : (none_ s).1.clock = s.clock := by simp [none_]
  split
  · split <;> simp [hu, hn]
  · split <;> simp [hu, hn]
  · exact hn s

@[simp] theorem State.clock_fwServes (s : State) (r : OverlayRead) : (s.fwServes r).clock = s.clock := by
  unfold State.fwServes
  have h := s.clock_readOverlay r
  generalize s.readOverlay r = x at h
  obtain ⟨x, found⟩ := x
  dsimp only at h ⊢
  split
  · split
    · exact h
    · exact (State.clock_updFallback _ _).trans h
  · exact h

@[simp] theorem State.clock_readyRole (s : State) : s.readyRole.clock = s.clock := by simp [State.readyRole]

@[simp] theorem State.clock_raiseArb (s : State) (kind v : Nat) : (s.raiseArb kind v).clock = s.clock := by simp [State.raiseArb]

@[simp] theorem State.clock_healthTurnover (s : State) : s.healthTurnover.clock = s.clock := by simp [State.healthTurnover]

@[simp] theorem State.clock_bootReady (s : State) : s.bootReady.clock = s.clock := by
  unfold State.bootReady
  extract_lets s1 u b s2 s3
  have h1 : s1.clock = s.clock := by simp [s1]
  have h3 : s3.clock = s.clock := by
    refine (State.clock_ite _ _ _).trans ?_
    simp [s2, u, h1]
  simp [State.takeWord, h3]

@[simp] theorem State.clock_fwLoaded (s : State) (d : Desc) (i was : Nat) : (s.fwLoaded d i was).clock = s.clock := by simp [State.fwLoaded]

@[simp] theorem State.clock_withClaimIn (s : State) (level : Bool) : (s.withClaimIn level).clock = s.clock := by simp [State.withClaimIn]

end Sys2Proof.Machine
end

section
/-!
PROOFS. Power failure, RESET# and the start sequence (O6).
-/

namespace Sys2Proof.Machine

/-! ## Power failure and RESET# -/

/-- What the outputs' safe states leave alone. -/
def State.safeParts (s : State) := (s.reg, s.time, s.evr, s.sbg, s.flash)

theorem State.outputsSafe_keeps (s : State) : s.outputsSafe.time = s.time ∧ s.outputsSafe.evr = s.evr ∧ s.outputsSafe.sbg = s.sbg ∧
    s.outputsSafe.flash = s.flash ∧ ∀ a, keptReg a = true → s.outputsSafe.rd a = s.rd a := by
  unfold State.outputsSafe
  extract_lets s1 s2
  have h1 : s1.safeParts = s.safeParts := by
    refine foldl_part State.safeParts _ (fun s n => ?_) _ s
    rfl
  simp only [State.safeParts, Prod.mk.injEq] at h1
  obtain ⟨hr, ht, he, hs, hf⟩ := h1
  have hreg (a : Nat) (ha : keptReg a = true) : s2.rd a = s.rd a := by
    have hp : Reg.PAIR_CLAIM ≠ a := fun h => by
      rw [← h] at ha
      exact absurd ha (by decide)
    have hg : Reg.PG_STAT ≠ a := fun h => by
      rw [← h] at ha
      exact absurd ha (by decide)
    rw [State.rd_put_ne _ _ _ _ _ _ hp, State.rd_wrN_ne _ _ _ _ hg, State.rd, hr, State.cellsGet_reg]
  have h2 : s2.time = s.time ∧ s2.evr = s.evr ∧ s2.sbg = s.sbg ∧ s2.flash = s.flash := by
    simp only [s2, State.put_time, State.wrN_time, State.put_evr, State.wrN_evr, State.put_sbg, State.wrN_sbg, State.put_flash,
      State.wrN_flash, ht, he, hs, hf, and_self]
  clear_value s2
  obtain ⟨ht2, he2, hs2, hf2⟩ := h2
  exact ⟨ht2, he2, hs2, hf2, hreg⟩

theorem State.assertReset_keeps (s : State) (cause : Nat) : (s.assertReset cause).time = s.time ∧ (s.assertReset cause).evr = s.evr ∧
    (s.assertReset cause).sbg = s.sbg ∧ (s.assertReset cause).flash = s.flash ∧
    ∀ a, keptReg a = true → (s.assertReset cause).rd a = s.rd a := by
  have h := s.outputsSafe_keeps
  unfold State.assertReset
  generalize s.outputsSafe = x at h
  exact h

theorem power_and_reset (s : State) :
    Completes .powerFail s (fun t => t.unit.life = .off ∧ t.outputsAreSafe = true) ∧
    (s.unit.life ≠ .off → Completes .resetAssert s (fun t =>
      t.unit.life = .inReset ∧ t.outputsAreSafe = true ∧ t.time.mono = s.time.mono ∧ t.evr = s.evr ∧ t.sbg = s.sbg ∧ t.flash = s.flash ∧
      ∀ a, keptReg a = true → t.rd a = s.rd a)) ∧
    (s.unit.life = .off → exec .resetAssert s = .next s) := by
  refine ⟨?_, fun h => ?_, fun h => if_pos h⟩
  · obtain ⟨t, ht, hl, ho, -⟩ := execPowerFail_safe s
    exact ⟨t, ht, hl, ho⟩
  · obtain ⟨hl, ho, -⟩ := s.assertReset_safe 1
    obtain ⟨ht, he, hs, hf, hr⟩ := s.assertReset_keeps 1
    exact ⟨_, if_neg h, hl, ho, congrArg TimeSt.mono ht, he, hs, hf, hr⟩

/-! ## What a reset and a power cycle leave -/

/-- `t` is a released unit with the boot state of `s`: MONO goes on, the gait-frame grid starts again, and no output is driven. -/
structure State.Released (s t : State) : Prop where
  life : t.unit.life = .inReset
  sealed_eq : t.unit.sealed = s.unit.sealed
  claim : t.unit.claimOut = false
  idle : t.unit.txIdle = true
  mono : t.time.mono = s.time.mono
  gfc : t.time.gfc = 0
  ring : t.evr.ring = s.evr.ring
  sbg : t.sbg = s.sbg
  flash : t.flash = s.flash

theorem State.withClaimIn_same (s : State) (b : Bool) : s.withClaimIn b = { s with reg := (s.withClaimIn b).reg } := by
  unfold State.withClaimIn
  split <;> rfl

theorem State.released_released (s : State) : State.Released s s.released := by
  unfold State.released State.afterReset
  rw [State.withClaimIn_same]
  exact ⟨rfl, rfl, rfl, rfl, rfl, rfl, rfl, rfl, rfl⟩

theorem State.released_cause (s : State) : s.released.rdN Reg.SYS_RSTCAUSE = 2 ^ s.unit.cause % 2 ^ 32 := by
  unfold State.released
  extract_lets c x y
  rw [State.rdN_eq, State.wrN, State.rd_wr_same, word, BitVec.toNat_ofNat]

/-- A unit whose supplies have come up, before its start. -/
def State.powered (s : State) : State := { s.afterPower with unit := { s.afterPower.unit with life := .inReset, cause := 0 } }

theorem State.powered_shows (s : State) : s.powered.time.mono = 0 ∧ s.powered.unit.sealed = s.unit.sealed ∧ s.powered.unit.cause = 0 ∧
    s.powered.evr.ring = [] ∧ s.powered.flash = s.flash := by
  unfold State.powered State.afterPower State.afterReset
  rw [State.withClaimIn_same]
  exact ⟨rfl, rfl, rfl, rfl, rfl⟩

/-! ## One start that ends before its images are tried -/

theorem State.startOnce_testmode (s : State) {env : StartEnv} (ht : env.testmode = true) (hs : s.unit.sealed = false) :
    s.startOnce env = { s with unit := { s.unit with life := .testHold } } := if_pos (by rw [ht, hs]; rfl)

/-- A start up to its strap for paddock mode: the straps are read, and the clock settings of a descriptor taken. -/
structure State.Strapped (env : StartEnv) (s t : State) : Prop where
  unitB : t.unit.unitB = env.unitId
  pairMode : t.unit.pairMode = env.pairEn
  time : t.time = s.time
  evr : t.evr = s.evr
  sbg : t.sbg = s.sbg
  cause : t.rd Reg.SYS_RSTCAUSE = s.rd Reg.SYS_RSTCAUSE

theorem State.strapped_sampleStraps (s : State) (env : StartEnv) (n : Nat) :
    State.Strapped env s ((s.sampleStraps env).bootPhase n) := by
  refine ⟨rfl, rfl, rfl, rfl, rfl, ?_⟩
  unfold State.sampleStraps State.bootPhase
  rw [State.rd_put_ne _ _ _ _ _ _ (by decide), State.rd_put_ne _ _ _ _ _ _ (by decide), State.rd_put_ne _ _ _ _ _ _ (by decide),
    State.rd_setBit_ne _ _ _ _ _ (by decide), State.rd_setBit_ne _ _ _ _ _ (by decide), State.rd_wrN_ne _ _ _ _ (by decide)]
  rfl

theorem State.Strapped.loadDesc {env : StartEnv} {s t : State} (h : State.Strapped env s t) (d : Desc) (copy n : Nat) :
    State.Strapped env s ((t.loadDesc d copy).bootPhase n) := by
  refine ⟨h.unitB, h.pairMode, h.time, h.evr, h.sbg, Eq.trans ?_ h.cause⟩
  unfold State.loadDesc State.bootPhase
  rw [State.rd_put_ne _ _ _ _ _ _ (by decide), State.rd_wrN_ne _ _ _ _ (by decide), State.rd_wrN_ne _ _ _ _ (by decide),
    State.rd_wrN_ne _ _ _ _ (by decide)]

/-- A unit that has entered paddock mode for the reason `why`. -/
structure State.Paddocked (env : StartEnv) (why : Nat) (s t : State) : Prop where
  life : t.unit.life = .paddock
  why : t.fld Reg.BOOT_STAT 14 12 = why
  shown : t.bit Reg.SYS_STAT 1 = true
  claim : t.unit.claimOut = false
  idle : t.unit.txIdle = true
  strapped : State.Strapped env s t

theorem State.Strapped.enterPaddock {env : StartEnv} {s t : State} (h : State.Strapped env s t) {why : Nat} (hw : why < 8) :
    State.Paddocked env why s (t.enterPaddock why) := by
  refine ⟨rfl, ?_, ?_, rfl, rfl, h.unitB, h.pairMode, h.time, h.evr, h.sbg, Eq.trans ?_ h.cause⟩
  · unfold State.enterPaddock
    rw [State.fld, State.rd_setBit_ne _ _ _ _ _ (by decide), State.setBit, ← State.fld, State.fld_put_disj _ _ _ _ _ _ _ (by decide) (by decide),
      State.fld_put _ _ _ _ _ (by decide)]
    exact Nat.mod_eq_of_lt hw
  · exact State.bit_setBit _ _ _ _ (by decide)
  · unfold State.enterPaddock
    rw [State.rd_setBit_ne _ _ _ _ _ (by decide), State.rd_setBit_ne _ _ _ _ _ (by decide), State.rd_put_ne _ _ _ _ _ _ (by decide)]
    rfl

section
variable {s : State} {env : StartEnv} (ht : env.testmode = false ∨ s.unit.sealed = true)
include ht

theorem notTested : ¬ (env.testmode && !s.unit.sealed) = true := by
  rcases ht with h | h <;> simp [h]

/-- A start with PADDOCK# low enters paddock mode for reason 1. -/
theorem State.startOnce_strap (hp : env.paddockN = false) : State.Paddocked env 1 s (s.startOnce env) := by
  have hn : (!env.paddockN) = true := by rw [hp]; rfl
  unfold State.startOnce
  rw [if_neg (notTested ht)]
  extract_lets x y
  have hy : State.Strapped env s y := by
    simp only [y]
    split
    · exact (s.strapped_sampleStraps env 1).loadDesc _ _ _
    · exact s.strapped_sampleStraps env 1
  rw [if_pos hn]
  exact hy.enterPaddock (by decide)

/-- A start without a boot descriptor enters paddock mode for reason 2. -/
theorem State.startOnce_undescribed (hp : env.paddockN = true) (hd : s.flash.desc = none) : State.Paddocked env 2 s (s.startOnce env) := by
  have hn : ¬ (!env.paddockN) = true := by rw [hp]; decide
  have hx : ((s.sampleStraps env).bootPhase 1).flash.desc = none := hd
  unfold State.startOnce
  rw [if_neg (notTested ht)]
  simp only [hx]
  rw [if_neg hn]
  exact (s.strapped_sampleStraps env 1).enterPaddock (by decide)

end

end Sys2Proof.Machine
end

section
/-!
PROOFS. How a start ends: in paddock mode, refused, or READY with the boot commit made (O6).
-/

namespace Sys2Proof.Machine

/-! ## READY shows and stays -/

/-- `t` shows in SYS_STAT what `s` shows. -/
def State.ShowsStat (s t : State) : Prop := t.rd Reg.SYS_STAT = s.rd Reg.SYS_STAT

namespace State.ShowsStat

variable {s t u : State}

theorem refl (s : State) : s.ShowsStat s := rfl

theorem trans (h : s.ShowsStat t) (g : t.ShowsStat u) : s.ShowsStat u := Eq.trans g h

theorem ite {p : Prop} [Decidable p] (ht : s.ShowsStat t) (hu : s.ShowsStat u) : s.ShowsStat (if p then t else u) := by
  split
  · exact ht
  · exact hu

theorem put (h : s.ShowsStat t) {a : Nat} (hi lo v : Nat) (ha : a ≠ Reg.SYS_STAT := by decide) : s.ShowsStat (t.put a hi lo v) :=
  h.trans (State.rd_put_ne _ _ _ _ _ _ ha)

theorem setBit (h : s.ShowsStat t) {a : Nat} (i : Nat) (b : Bool) (ha : a ≠ Reg.SYS_STAT := by decide) : s.ShowsStat (t.setBit a i b) :=
  h.trans (State.rd_setBit_ne _ _ _ _ _ ha)

theorem wrN (h : s.ShowsStat t) {a : Nat} (v : Nat) (ha : a ≠ Reg.SYS_STAT := by decide) : s.ShowsStat (t.wrN a v) :=
  h.trans (State.rd_wrN_ne _ _ _ _ ha)

theorem raise (h : s.ShowsStat t) (e : Ev) (he : e.src < 256 := by decide) : s.ShowsStat (t.raise e) :=
  h.trans (State.raise_rd _ _ _ he (by decide))

end State.ShowsStat

section
variable (s : State)

theorem State.showsStat_updFallback (reason : Nat) : s.ShowsStat (s.updFallback reason) := by
  refine .ite ?_ (.refl s)
  obtain ⟨-, -, -, -, hk⟩ := (s.withReason reason).startRestart_shows true
  exact hk.1 Reg.SYS_STAT (by decide) (by decide)

theorem State.showsStat_readOverlay (r : OverlayRead) : s.ShowsStat (s.readOverlay r).1 := by
  unfold State.readOverlay
  extract_lets newest use fmt none_
  have hu (a : Bool) (c : OvlCopy) : s.ShowsStat (use s a c) := .wrN (.refl s) _
  have hn : s.ShowsStat (none_ s).1 := .raise (t := s.wrN Reg.UPD_OVL 2) (.wrN (.refl s) 2) _
  split
  · split
    · exact hu ..
    · exact hn
  · split
    · exact .raise (hu ..) _
    · exact hn
  · exact hn

theorem State.showsStat_fwServes (r : OverlayRead) : s.ShowsStat (s.fwServes r) := by
  unfold State.fwServes
  have h := s.showsStat_readOverlay r
  generalize s.readOverlay r = x at h
  obtain ⟨x, found⟩ := x
  have hb : s.ShowsStat (x.setBit Reg.HST_STAT 31 true) := .setBit h 31 true
  dsimp only
  split
  · split
    · exact hb
    · exact hb.trans (State.showsStat_updFallback _ 3)
  · exact hb

theorem State.showsStat_readyRole : s.ShowsStat s.readyRole :=
  .ite (.setBit (.put (.refl s) ..) ..) (.ite (.raise (.put (.refl s) ..) _) (.put (.refl s) ..))

theorem State.showsStat_raiseArb (kind v : Nat) : s.ShowsStat (s.raiseArb kind v) :=
  .ite (.raise (.ite (.put (.refl s) ..) (.put (.refl s) ..)) _) (.refl s)

theorem State.showsStat_claimed (kind sev : Nat) (payload : List Byte) :
    s.ShowsStat (s.offerNow kind sev payload).healthTurnover.claimUpdate := by
  have h : s.ShowsStat (s.offerNow kind sev payload).healthTurnover := .wrN (t := s.offerNow kind sev payload) (.refl s) _
  exact h.put (a := Reg.PAIR_CLAIM) 15 0 (s.offerNow kind sev payload).healthTurnover.claimNow

theorem State.bootReady_shown : s.bootReady.bit Reg.SYS_STAT 0 = true := by
  unfold State.bootReady
  extract_lets s1 u b s2 s3
  have h1 : (s.setBit Reg.SYS_STAT 0 true).ShowsStat s1 := .trans (.put (.refl _) ..) (State.showsStat_readyRole _)
  have h3 : (s.setBit Reg.SYS_STAT 0 true).ShowsStat s3 := .ite h1 (.trans (t := s2) h1 (s2.showsStat_raiseArb ..))
  dsimp only [State.takeWord]
  have h4 (v : Nat) (payload : List Byte) : (s.setBit Reg.SYS_STAT 0 true).ShowsStat
      ((({ s3 with free := s3.free + 1 } : State).wrN Reg.BOOT_TIME v).offerNow 9 2 payload).healthTurnover.claimUpdate :=
    .trans (.wrN (t := { s3 with free := s3.free + 1 }) h3 v) (State.showsStat_claimed _ 9 2 payload)
  exact (congrArg (bitOf · 0) (h4 _ _)).trans (State.bit_setBit _ _ _ _ (by decide))

end

/-! ## The sections of a tack image -/

/-- Step 5 keeps MONO and GFC; where it ends with code 0 the boot commit has been made. -/
theorem State.bootConfig_clock (s : State) (t : TackImage) : (s.bootConfig t).2.time.mono = s.time.mono ∧
    (s.bootConfig t).2.time.gfc = s.time.gfc ∧ ((s.bootConfig t).1 = 0 → (s.bootConfig t).2.unit.booted = true) := by
  unfold State.bootConfig
  split
  · exact ⟨rfl, rfl, fun h => absurd (show 2 = 0 from h) (by decide)⟩
  split
  · exact ⟨rfl, rfl, fun h => absurd (show 7 = 0 from h) (by decide)⟩
  split
  · exact ⟨rfl, rfl, fun h => absurd (show 2 = 0 from h) (by decide)⟩
  extract_lets b s1 s2 s3 s4 s5
  have h1 : s1.clock = s.clock := rfl
  have h2 : s2.clock = s1.clock := s1.clock_calLoad _
  have h3 : s3.clock = s2.clock := foldl_part State.clock _ (fun s x => s.clock_fabricWrite _ _ _) _ s2
  have h4 : s4.clock = s3.clock := foldl_part State.clock _ (fun s x => s.clock_memWrite x) _ s3
  have h5 : s5.clock = s4.clock := foldl_part State.clock _ (fun s x => s.clock_linkmapWrite x) _ s4
  have h : (s5.bootCommit 0x1FFFD).2.clock = s.clock :=
    (s5.clock_bootCommit _).trans (h5.trans (h4.trans (h3.trans (h2.trans h1))))
  generalize s5.bootCommit 0x1FFFD = r at h
  obtain ⟨_ | _, x⟩ := r
  · exact ⟨congrArg (·.1) h, congrArg (·.2.1) h, fun h => absurd (show 10 = 0 from h) (by decide)⟩
  · have hx : ((({ x with unit := { x.unit with booted := true } } : State).throttlePins 0).bootPhase 5).clock =
      (x.time.mono, x.time.gfc, true) := by simp
    exact ⟨(congrArg (·.1) hx).trans (congrArg (·.1) h), (congrArg (·.2.1) hx).trans (congrArg (·.2.1) h), fun _ => congrArg (·.2.2) hx⟩

/-! ## The end of a start -/

/-- A start from `s` ends in `t`: MONO has not moved, and a unit that runs is READY with its boot commit made. -/
structure State.Ends (s t : State) : Prop where
  mono : t.time.mono = s.time.mono
  ready : t.unit.life = .running → t.bit Reg.SYS_STAT 0 = true ∧ t.unit.booted = true ∧ t.time.gfc = s.time.gfc

/-- An end in which the unit does not run. -/
theorem State.Ends.stopped {s t : State} (hm : t.time.mono = s.time.mono) (hl : t.unit.life ≠ .running) : State.Ends s t :=
  ⟨hm, fun h => absurd h hl⟩

theorem State.Ends.from {s x t : State} (h : State.Ends x t) (hx : x.clock = s.clock) : State.Ends s t := by
  have hm : x.time.mono = s.time.mono := congrArg (·.1) hx
  have hg : x.time.gfc = s.time.gfc := congrArg (·.2.1) hx
  exact ⟨h.mono.trans hm, fun hl => ⟨(h.ready hl).1, (h.ready hl).2.1, (h.ready hl).2.2.trans hg⟩⟩

section
variable (s : State)

theorem State.enterPaddock_ends (why : Nat) : State.Ends s (s.enterPaddock why) := .stopped rfl (fun h => by cases h)

theorem State.tackRefused_stopped (slot code : Nat) : (s.tackRefused slot code).unit.life ≠ .running := by
  unfold State.tackRefused
  extract_lets x
  split
  · exact fun h => by cases h
  · rw [(State.assertReset_safe _ 4).1]
    decide

theorem State.tackRefused_ends (slot code : Nat) : State.Ends s (s.tackRefused slot code) := by
  refine .stopped ?_ (s.tackRefused_stopped slot code)
  have hx : (s.slotOutcome slot code).time.mono = s.time.mono := congrArg (·.1) (s.clock_slotOutcome slot code)
  unfold State.tackRefused
  extract_lets x
  split
  · exact hx
  · exact (congrArg TimeSt.mono (State.assertReset_keeps _ 4).1).trans hx

/-- Steps 5 to 7 end READY, or with the image refused. -/
theorem State.bootRun_ends (env : StartEnv) (d : Desc) (fw slot : Nat) : State.Ends s (s.bootRun env d fw slot) := by
  unfold State.bootRun
  extract_lets t u x was
  obtain ⟨hm, hg, hb⟩ := x.bootConfig_clock t
  generalize x.bootConfig t = r at hm hg hb
  split
  next y =>
    have hs : ((y.bootLinks env t).bootSched t).2.clock = y.clock := (State.clock_bootSched _ _).trans (State.clock_bootLinks _ _ _)
    generalize (y.bootLinks env t).bootSched t = r at hs
    have hmono : r.2.time.mono = s.time.mono := (congrArg (·.1) hs : r.2.time.mono = y.time.mono).trans hm
    obtain ⟨_ | _, z⟩ := r
    · exact .stopped ((z.tackRefused_ends slot 10).mono.trans hmono) (z.tackRefused_stopped _ _)
    · have hc : ((z.fwLoaded d fw was).bootReady.fwServes env.overlay).clock = y.clock := by simpa using hs
      refine ⟨(congrArg (·.1) hc : _ = y.time.mono).trans hm, fun _ => ⟨?_, ?_, ?_⟩⟩
      · exact (congrArg (bitOf · 0) (State.showsStat_fwServes _ _)).trans (State.bootReady_shown _)
      · exact (congrArg (·.2.2) hc : _ = y.unit.booted).trans (hb rfl)
      · exact (congrArg (·.2.1) hc : _ = y.time.gfc).trans hg
  next c y _ => exact .stopped ((y.tackRefused_ends slot c).mono.trans hm) (y.tackRefused_stopped _ _)

/-- A start ends in the test hold, in paddock mode, refused or READY. -/
theorem State.startOnce_ends (env : StartEnv) : State.Ends s (s.startOnce env) := by
  unfold State.startOnce
  split
  · exact .stopped rfl (fun h => by cases h)
  extract_lets x y
  have hy : y.clock = s.clock := by
    simp only [y]
    split <;> simp [x]
  refine State.Ends.from ?_ hy
  split
  · exact y.enterPaddock_ends 1
  split
  · exact y.enterPaddock_ends 2
  next d c _ =>
    have h1 := y.clock_trySlots 0 9 (y.fwChoice d) (1 - y.fwChoice d)
    dsimp only
    generalize y.trySlots 0 9 (y.fwChoice d) (1 - y.fwChoice d) = r at h1
    obtain ⟨_ | fw, z⟩ := r
    · exact (z.enterPaddock_ends 3).from h1
    · dsimp only
      generalize hdrVersion (z.slot fw).header = v
      have hw : (((z.wr Reg.BOOT_FWVER v).put Reg.BOOT_STAT 7 7 fw).bootPhase 3).clock = z.clock := by simp
      generalize ((z.wr Reg.BOOT_FWVER v).put Reg.BOOT_STAT 7 7 fw).bootPhase 3 = w at hw
      have h2 := w.clock_trySlots v.toNat 10 (2 + d.tksel % 2) (3 - d.tksel % 2)
      generalize w.trySlots v.toNat 10 (2 + d.tksel % 2) (3 - d.tksel % 2) = r at h2
      have hr : r.2.clock = y.clock := h2.trans (hw.trans h1)
      obtain ⟨_ | tk, q⟩ := r
      · exact (q.enterPaddock_ends 4).from hr
      · refine (State.bootRun_ends _ env d fw tk).from (Eq.trans ?_ hr)
        simp

end

end Sys2Proof.Machine
end

section
/-!
PROOFS. The power-on and the release of a reset, by how their start ends (O6).
-/

namespace Sys2Proof.Machine

/-- A start of a unit that does not end in an internal reset is one pass. -/
theorem State.start_once {s : State} {env : StartEnv} (h : (s.released.startOnce env).unit.life ≠ .inReset) :
    s.start env = s.released.startOnce env := by
  refine if_neg ?_
  rw [decide_eq_false h]
  exact Bool.false_ne_true

/-- Whether it takes one pass or two, a start keeps MONO, and a unit that runs is READY in the first gait frame. -/
theorem State.start_ends (s : State) (env : StartEnv) : (s.start env).time.mono = s.time.mono ∧
    ((s.start env).unit.life = .running →
      (s.start env).bit Reg.SYS_STAT 0 = true ∧ (s.start env).unit.booted = true ∧ (s.start env).time.gfc = 0) := by
  have hs := s.released_released
  have h1 := s.released.startOnce_ends env
  unfold State.start
  generalize s.released.startOnce env = x at h1
  have hm : x.time.mono = s.time.mono := h1.mono.trans hs.mono
  dsimp only
  split
  · have hx := x.released_released
    have h2 := x.released.startOnce_ends env
    exact ⟨h2.mono.trans (hx.mono.trans hm), fun hl => ⟨(h2.ready hl).1, (h2.ready hl).2.1, (h2.ready hl).2.2.trans hx.gfc⟩⟩
  · exact ⟨hm, fun hl => ⟨(h1.ready hl).1, (h1.ready hl).2.1, (h1.ready hl).2.2.trans hs.gfc⟩⟩

section
variable (s : State) {env : StartEnv}

/-- A start with TESTMODE high on an unsealed part is held before step 1. -/
theorem State.start_testHold (ht : env.testmode = true) (hs : s.unit.sealed = false) :
    (s.start env).unit.life = .testHold ∧ (s.start env).time.mono = s.time.mono ∧ (s.start env).unit.claimOut = false ∧
      (s.start env).unit.txIdle = true := by
  have hr := s.released_released
  have h1 := s.released.startOnce_testmode ht (hr.sealed_eq.trans hs)
  have hl : (s.released.startOnce env).unit.life ≠ .inReset := by
    rw [h1]
    exact fun h => by cases h
  rw [State.start_once hl, h1]
  exact ⟨rfl, hr.mono, hr.claim, hr.idle⟩

/-- A start that ends in paddock mode for `why`, with what it leaves of the unit before its release. -/
theorem State.start_paddocked {why : Nat} (h : State.Paddocked env why s.released (s.released.startOnce env)) :
    let t := s.start env
    t.unit.life = .paddock ∧ t.fld Reg.BOOT_STAT 14 12 = why ∧ t.bit Reg.SYS_STAT 1 = true ∧
      t.rdN Reg.SYS_RSTCAUSE = 2 ^ s.unit.cause % 2 ^ 32 ∧ t.unit.unitB = env.unitId ∧ t.unit.pairMode = env.pairEn ∧
      t.unit.claimOut = false ∧ t.unit.txIdle = true ∧ t.time.mono = s.time.mono ∧ t.evr.ring = s.evr.ring ∧ t.sbg = s.sbg := by
  have hr := s.released_released
  have hl : (s.released.startOnce env).unit.life ≠ .inReset := by
    rw [h.life]
    exact fun h => by cases h
  rw [State.start_once hl]
  exact ⟨h.life, h.why, h.shown, (congrArg BitVec.toNat h.strapped.cause).trans s.released_cause, h.strapped.unitB, h.strapped.pairMode,
    h.claim, h.idle, (congrArg TimeSt.mono h.strapped.time).trans hr.mono, (congrArg EvrSt.ring h.strapped.evr).trans hr.ring,
    h.strapped.sbg.trans hr.sbg⟩

end

theorem execPowerOn_start (env : StartEnv) (s : State) : exec (.powerOn env) s = .next (s.powered.start env) := rfl

/-- Settles O6: a reset leaves MONO, the ring and the flash, and a start ends in the test hold, in paddock mode, refused or READY. -/
theorem powerAndStart : Obligations.PowerAndStart := by
  unfold Obligations.PowerAndStart
  refine ⟨power_and_reset, fun env s => ?_⟩
  obtain ⟨hmono, hsealed, hcause, hring, hflash⟩ := s.powered_shows
  have hrel (hl : s.unit.life = .inReset) : exec (.resetRelease env) s = .next (s.start env) := if_pos hl
  refine ⟨fun ht hs => ⟨?_, fun hl => ?_⟩, fun ht hp => ⟨?_, fun hl => ?_⟩, fun ht hp => ?_⟩
  · obtain ⟨h1, h2, h3, h4⟩ := s.powered.start_testHold ht (hsealed.trans hs)
    exact ⟨_, execPowerOn_start env s, h1, h2.trans hmono, h3, h4⟩
  · exact ⟨_, hrel hl, s.start_testHold ht hs⟩
  · obtain ⟨h1, h2, h3, h4, h5, h6, h7, h8, h9, h10, -⟩ := s.powered.start_paddocked (State.startOnce_strap (.inl ht) hp)
    exact ⟨_, execPowerOn_start env s, h1, h2, h3, h4.trans (by rw [hcause]; rfl), h5, h6, h7, h8, h9.trans hmono, h10.trans hring⟩
  · exact ⟨_, hrel hl, s.start_paddocked (State.startOnce_strap (.inl ht) hp)⟩
  · obtain ⟨hm, hready⟩ := s.powered.start_ends env
    refine ⟨_, execPowerOn_start env s, hm.trans hmono, fun hd => ?_, hready⟩
    have hr := s.powered.released_released
    have hseal : env.testmode = false ∨ s.powered.released.unit.sealed = true :=
      ht.imp_right fun h => hr.sealed_eq.trans (hsealed.trans h)
    have hdesc : s.powered.released.flash.desc = none := by rw [hr.flash, hflash, hd]
    obtain ⟨h1, h2, -⟩ := s.powered.start_paddocked (State.startOnce_undescribed hseal hp hdesc)
    exact ⟨h1, h2⟩

end Sys2Proof.Machine
end
